-- ==== Sys2Proof/Word.lean ====
section
/-! DEFINITION. The word types of the model: what the spec treats as bits is a bit vector (R4, R8). -/

namespace Sys2Proof

/-- A BAR0 register or a 32-bit word of a wire format (R8). -/
abbrev Word := BitVec 32
/-- A byte of a frame or of a memory. -/
abbrev Byte := BitVec 8
/-- A scalar of the Knotwork instruction set, or a 64-bit register pair. -/
abbrev DWord := BitVec 64
/-- The data bits of a memory or a frame, first byte first. -/
abbrev Bytes := List Byte
/-- Sparse data by number: keys strictly rising, no entry equal to what an unlisted key reads as. -/
abbrev SMap (α : Type) := List (Nat × α)

end Sys2Proof
end

