-- ==== Sys2Proof/Syntax.lean ====
section
/-! DEFINITION. The commands of the device, one constructor per row of the table of operations and events, and the data
they carry: what arrives from outside, or what an event measured. -/

namespace Sys2Proof

/-- A frame header: the eight 32-bit words of R50. -/
structure Header where
  w0 : Word
  w1 : Word
  w2 : Word
  w3 : Word
  w4 : Word
  w5 : Word
  w6 : Word
  w7 : Word
  deriving DecidableEq, Repr

/-- A frame: header, payload, payload CRC as it stands on the wire (R49). -/
structure Frame where
  hdr : Header
  payload : Bytes
  crc : Word
  deriving DecidableEq, Repr

/-- What of a frame arrives on a port: the next data block of the port's stream as its codewords brought it; or, with the stream
taken as read, a frame's header with up to 96 of the bytes that follow it, the whole payload with the CRC, or all of it at once (R49, R55).
`bad` says that a block of it lay in an uncorrectable codeword. -/
inductive RxEvent where
  | block
  | head (h : Header) (first : Bytes)
  | tail (payload : Bytes) (crc : Word) (bad : Bool)
  | whole (h : Header) (payload : Bytes) (crc : Word) (bad : Bool)
  deriving DecidableEq, Repr

/-- A 257-bit block of a codeword after descrambling (R36): the block flag and the 32 bytes. -/
structure Block where
  control : Bool
  bytes : Bytes
  deriving DecidableEq, Repr

/-- One codeword time on a lane (R35, R87): 544 symbols received, in order, or no valid codeword, the receiver having lost its boundary
or its light. -/
inductive Codeword where
  | received (symbols : List (BitVec 10))
  | invalid
  deriving DecidableEq, Repr

/-- Codes of the fault conditions a LINK_FAULT word can carry (Table 2.6). -/
inductive FaultCode where
  | localFault | remoteFault | quarantined
  deriving DecidableEq, Repr

/-- A TEST_STRIP word (Table 2.4, Table 3.4): phase, lane index, margin (signed, 0.01 dB), result code, argument. -/
structure TsWord where
  phase : Fin 16
  lane : Fin 16
  margin : BitVec 16
  result : Byte
  arg : BitVec 24
  deriving DecidableEq, Repr

/-- A measured tone of a ring over one window (R77): the frequency in kHz, 0 where absent. -/
abbrev ToneKHz := Nat

/-- Which ring of a lane: transmit or receive. -/
inductive Ring where
  | tx | rx
  deriving DecidableEq, Repr

/-- What of a lane loses its lock: a ring, or the working sampler of its receiver (R87). -/
inductive LockLoss where
  | ring (n : Fin 144) (ring : Ring)
  | sampler (n : Fin 144)
  deriving DecidableEq, Repr

/-- A measured point of the threshold sweep (R80 step 6): threshold in 1/64 of swing, bits counted, errors. -/
structure SweepPoint where
  threshold : Int
  bits : Nat
  errors : Nat
  deriving DecidableEq, Repr

/-- A timestamp of fabric time: nanoseconds and fraction in 2^-16 ns (R46). -/
structure Stamp where
  ns : BitVec 32
  frac : BitVec 16
  deriving DecidableEq, Repr

/-- A point of the sweeps of R80: phase sweep (phase in 1/64 UI, errors), threshold sweep, or a contour edge pair
found at one phase (phase, lower and upper threshold in 1/64 of swing). -/
inductive SweepMeas where
  | phase (ph : Int) (errors : Nat)
  | threshold (pt : SweepPoint)
  | contour (ph lo hi : Int)
  deriving DecidableEq, Repr

/-- A source of fabric time (R106): the reference inputs, or a data port. -/
inductive TimeSrc where
  | ref
  | port (d : Fin 8) (p : Fin 128)
  deriving DecidableEq, Repr

/-- The register a reserve-raising write goes to (R180): PORT_YFP_CTRL, PORT_HEADROOM, or a peer's ENABLE. -/
inductive ReserveReg where
  | yfpCtrl | headroom | peer (c : Fin 32)
  deriving DecidableEq, Repr

/-- What a lanyard receive lane takes in one slot (R133): nothing, a burst whose LANYARD_ID CRC failed, or a burst with
its LANYARD_ID, the fabric time at which its first bit arrived (R120), an XOFF_XON mask, and its frames. -/
inductive BurstRx where
  | silent
  | badId
  | burst (src : Word) (colour : Fin 32) (slot : Fin 1024) (first : BitVec 32) (xoff : Option Byte)
      (frames : List (Frame × Bool))
  deriving DecidableEq, Repr

/-- One report block of sweep 2 (Table 5.6): source address, valid, self, worst quality, lane mask, delay, CRC good. -/
structure ReportBlock where
  src : Word
  valid : Bool
  self : Bool
  quality : BitVec 16
  lanes : Byte
  delay : BitVec 16
  crcOk : Bool
  deriving DecidableEq, Repr

/-- What one lane takes in a discovery slot (R126): the burst's LANYARD_ID source, colour and rota index where one was heard, its
delay, the PRBS31 errors counted before decoding, and in sweep 2 the peer's report blocks. -/
structure DiscoveryObs where
  heard : Option (Word × Fin 32 × Fin 1024)
  delay : BitVec 16
  errors : BitVec 32
  blocks : List ReportBlock
  deriving DecidableEq, Repr

/-- What the hardware checks of a slot operation found (R240, R341): nothing, an error corrected or not, with its region (0 state
SRAM, 1 registers, 2 instruction memory, 3 staging), line and code syndrome, or a residue mismatch of a window adder or
vector lane, with the expected and the formed residue and the window offset or register. -/
inductive OpHw where
  | ok
  | corrected (region : Fin 4) (line : Word) (syn : BitVec 16)
  | uncorrectable (region : Fin 3) (line : Word) (syn : BitVec 16)
  | residue (lane : BitVec 16) (expected formed : Byte) (place : Word)
  deriving DecidableEq, Repr

/-- A memory error that a read of the Hold meets (R314, R316): none; a line of memory-side die 8 + m corrected; a line that holds
an uncorrectable error, or whose address check fails. -/
inductive HoldHw where
  | ok
  | corrected (m : Fin 2) (line : Word)
  | uncorrectable (m : Fin 2) (line : Word) (address : Bool)
  deriving DecidableEq, Repr

/-- A configuration register of a memory-side die (R337). The 64-bit pairs are written whole. -/
inductive HoldReg where
  | seed
  | indexCtrl
  | ringBase
  | ringSize
  | shape (s : Fin 16)
  | poolBase (s : Fin 16)
  | poolRows (s : Fin 16)
  deriving DecidableEq, Repr

/-- A memory error that a read of device memory by BAR2 or DMA meets: none; a correctable one, which is corrected; or an
uncorrectable one, at the 8-byte word of a device-internal address, with its code syndrome. -/
inductive DevHw where
  | ok
  | corrected (addr : BitVec 48) (syn : BitVec 16)
  | uncorrectable (addr : BitVec 48) (syn : BitVec 16)
  deriving DecidableEq, Repr

/-- What a self-test slice found (R346): the core cycles it took, at most 2 µs; the signatures of the two engines, of the third that reruns the operands, and of the
failing engine's own rerun; where the fault shows (0 V, 1 A, 2 S, 3 C, 4 registers), vector and run number. -/
structure SliceObs where
  took : Fin 3201
  sig1 : DWord
  sig2 : DWord
  sig3 : DWord
  rerun : DWord
  where_ : Fin 5
  vector : BitVec 16
  run : Word
  deriving DecidableEq, Repr

/-- What one engine run of a SELF_TEST command found (R348): whether it failed, and then the other engine of the pair, where the
fault shows (0 V, 1 A, 2 S, 3 C, 4 registers), vector and run number; for a RANDOM run, the slices that passed, and whether the
failure came again when its operands were rerun (R346). -/
structure RunObs where
  failed : Bool
  other : BitVec 8
  where_ : Fin 5
  vector : BitVec 16
  run : Word
  slices : BitVec 16
  repeated : Bool
  deriving DecidableEq, Repr

/-- What a frame of the management port carries (R402): an ARP question for an IPv4 address, a neighbour solicitation for an IPv6
address, an ICMP or ICMPv6 echo request, a UDP datagram, or anything else. An IPv4 address stands in the low 32 bits. -/
inductive MgmtContent where
  | arp (target asker : Word)
  | neighbour (target asker : BitVec 128)
  | echo (v6 : Bool) (dst src : BitVec 128) (data : Bytes)
  | udp (v6 : Bool) (dst src : BitVec 128) (dport sport : BitVec 16) (data : Bytes)
  | other
  deriving DecidableEq, Repr

/-- A frame of the management port: its 802.1Q identifier where it has a tag, its bytes, what it carries. -/
structure MgmtFrame where
  vlan : Option (BitVec 12)
  len : BitVec 16
  content : MgmtContent
  deriving DecidableEq, Repr

/-- The commands and events of the device. Each constructor's comment is its row's mnemonic and governing rule. -/
inductive Instr where
  /-- BAR0_REG_WRITE (R5). -/
  | bar0RegWrite (addr : Word) (value : Word)
  /-- BAR0_BAD_ACCESS (R8). -/
  | bar0BadAccess (addr : Word) (len : Nat) (write : Bool)
  /-- PAIR_LOW_READ (R9). -/
  | pairLowRead (addr : Word)
  /-- PAIR_LOW_WRITE (R9). -/
  | pairLowWrite (addr : Word) (value : Word)
  /-- PAIR_HIGH_WRITE (R9). -/
  | pairHighWrite (addr : Word) (value : Word)
  /-- RC_FIELD_READ (R10). -/
  | rcFieldRead (addr : Word)
  /-- REPLICATED_WRITE (R140). -/
  | replicatedWrite (addr : Word) (value : Word)
  /-- CHANNEL_CLASS_WRITE (R73). -/
  | channelClassWrite (d : Fin 8) (q : Fin 64) (w : Fin 16) (value : Word)
  /-- FLIT_RECEIVE (R25). -/
  | flitReceive (d : Fin 8) (peer : Fin 8) (vc : Fin 8) (ok : Bool)
  /-- LINK_TRAINING_LOSS (R25). -/
  | linkTrainingLoss (d : Fin 8) (peer : Fin 8)
  /-- DIE_LINK_RETRAIN (R25). -/
  | dieLinkRetrain (d : Fin 8) (peer : Fin 8)
  /-- DIE_LINK_UP (R25). -/
  | dieLinkUp (d : Fin 8) (peer : Fin 8)
  /-- MESH_DRAIN_DONE (R24). -/
  | meshDrainDone (d : Fin 8) (peer : Fin 8)
  /-- CREDIT_SYNC_RECEIVE (R21). -/
  | creditSyncReceive (d : Fin 8) (peer : Fin 8) (mask : Byte)
  /-- CODEWORD_RECEIVE (R35). -/
  | codewordReceive (d : Fin 8) (n : Fin 144) (cw : Codeword)
  /-- ALIGNMENT_MARKER_RECEIVE (R41). -/
  | alignmentMarkerReceive (d : Fin 8) (n : Fin 144) (idx : Byte) (mask : Byte) (gid : Word)
  /-- FRAME_RECEIVE (R55). -/
  | frameReceive (d : Fin 8) (p : Fin 130) (ev : RxEvent)
  /-- FRAME_ABORT_RECEIVE (R57). -/
  | frameAbortReceive (d : Fin 8) (p : Fin 130) (seq : BitVec 24) (reason : Byte)
  /-- XOFF_XON_RECEIVE (R65). -/
  | xoffXonReceive (d : Fin 8) (p : Fin 130) (mask : Byte)
  /-- XOFF_REFRESH (R65). -/
  | xoffRefresh (d : Fin 8) (p : Fin 130)
  /-- PAUSE_WATCHDOG (R68). -/
  | pauseWatchdog (d : Fin 8) (p : Fin 130) (tc : Fin 8)
  /-- LINK_FAULT_RECEIVE (R47). -/
  | linkFaultReceive (d : Fin 8) (p : Fin 128) (code : FaultCode)
  /-- LINK_FAULT_CONDITION_END (R45). -/
  | linkFaultConditionEnd (d : Fin 8) (p : Fin 128)
  /-- LANE_SET_RECEIVE (R43). -/
  | laneSetReceive (d : Fin 8) (p : Fin 128) (mask : Byte) (idx : Fin 16384)
  /-- LANE_SET_EFFECTIVE (R43). -/
  | laneSetEffective (d : Fin 8) (p : Fin 128) (rx : Bool)
  /-- LANE_DOWN_RECEIVE (R43). -/
  | laneDownReceive (d : Fin 8) (p : Fin 128) (mask : Byte)
  /-- TEST_STRIP_WORD_RECEIVE (R81). -/
  | testStripWordReceive (d : Fin 8) (n : Fin 128) (w : TsWord)
  /-- PORT_LANE_CTRL_WRITE (R86). -/
  | portLaneCtrlWrite (d : Fin 8) (p : Fin 130) (value : Word)
  /-- TEST_STRIP_START (R79). -/
  | testStripStart (d : Fin 8) (p : Fin 128)
  /-- TS_LASER_CHECK_DONE (R80, R125): power and tone measured at the feed of a lane, of a data lane's line, or of a lanyard lane's
  lines from colour 0 on. -/
  | tsLaserCheckDone (d : Fin 8) (n : Fin 144) (power : List (BitVec 16)) (tone : List ToneKHz)
  /-- RING_LOCK (R76). -/
  | ringLock (d : Fin 8) (n : Fin 144) (ring : Ring) (tone : ToneKHz)
  /-- RING_SEEK_FAIL (R76). -/
  | ringSeekFail (d : Fin 8) (n : Fin 144) (ring : Ring)
  /-- PRBS_SYNC_TIMEOUT (R83). -/
  | prbsSyncTimeout (d : Fin 8) (n : Fin 128)
  /-- TS_SWEEP_POINT_DONE (R80). -/
  | tsSweepPointDone (d : Fin 8) (n : Fin 128) (m : SweepMeas)
  /-- TS_MEASURE_DONE (R82). -/
  | tsMeasureDone (d : Fin 8) (n : Fin 128)
  /-- TEST_STRIP_TIMEOUT (R80). -/
  | testStripTimeout (d : Fin 8) (n : Fin 128)
  /-- HEATER_UPDATE (R76). -/
  | heaterUpdate (d : Fin 8) (n : Fin 144) (ring : Ring) (heat : BitVec 16) (drift : Bool)
  /-- TONE_WINDOW (R77). -/
  | toneWindow (d : Fin 8) (n : Fin 128) (ring : Ring) (tone : ToneKHz)
  /-- LANE_LOCK_LOSS (R87). -/
  | laneLockLoss (d : Fin 8) (what : LockLoss)
  /-- LANE_NO_CODEWORD (R87). -/
  | laneNoCodeword (d : Fin 8) (n : Fin 128)
  /-- LIGHT_LOSS (R87). -/
  | lightLoss (d : Fin 8) (n : Fin 144)
  /-- LIGHT_RETURN (R88). -/
  | lightReturn (d : Fin 8) (n : Fin 144)
  /-- FAST_RELOCK_DONE (R88). -/
  | fastRelockDone (d : Fin 8) (n : Fin 128) (txHeat : BitVec 16) (rxHeat : BitVec 16)
  /-- RELOCK_WINDOW_EXPIRE (R88). -/
  | relockWindowExpire (d : Fin 8) (n : Fin 128)
  /-- LANE_RETEST (R90). -/
  | laneRetest (d : Fin 8) (n : Fin 128)
  /-- LANE_EXCLUDE_WRITE (R98). -/
  | laneExcludeWrite (d : Fin 8) (n : Fin 144) (value : Bool)
  /-- PHOTONIC_TEMP_SAMPLE (R94). -/
  | photonicTempSample (oe : Fin 16) (temp : BitVec 16) (slope : BitVec 12)
  /-- SLEW_DRAIN_DONE (R94). -/
  | slewDrainDone (oe : Fin 16)
  /-- SLEW_PAUSE_END (R94). -/
  | slewPauseEnd (oe : Fin 16)
  /-- SYNC_INTERVAL (R103). -/
  | syncInterval
  /-- SYNC_RECEIVE (R103). -/
  | syncReceive (d : Fin 8) (p : Fin 128) (seq : Fin 64) (t1 : Stamp)
  /-- FOLLOW_RECEIVE (R103). -/
  | followReceive (d : Fin 8) (p : Fin 128) (seq : Fin 64) (t2 : Stamp)
  /-- REPLY_RECEIVE (R104). -/
  | replyReceive (d : Fin 8) (p : Fin 128) (seq : Fin 64) (t3 : Stamp)
  /-- TIME_EXCHANGE_TIMEOUT (R103). -/
  | timeExchangeTimeout
  /-- TIME_WRAP (R100). -/
  | timeWrap
  /-- MASTER_LOSS (R106). -/
  | masterLoss
  /-- HOLDOVER_SWITCH_EXPIRE (R106). -/
  | holdoverSwitchExpire
  /-- SOURCE_QUALIFY (R106). -/
  | sourceQualify (src : TimeSrc)
  /-- TIME_PRIO_WRITE (R106). -/
  | timePrioWrite (src : TimeSrc) (value : Word)
  /-- PPS_LOAD_WRITE (R108). -/
  | ppsLoadWrite (value : Word)
  /-- PPS_EDGE (R108). -/
  | ppsEdge
  /-- PPS_LOSS (R108). -/
  | ppsLoss
  /-- PPS_OUT_EDGE (R108). -/
  | ppsOutEdge
  /-- TIMED_LAUNCH (R112). -/
  | timedLaunch (d : Fin 8) (p : Fin 128)
  /-- TIMED_DROP (R112). -/
  | timedDrop (d : Fin 8) (p : Fin 128)
  /-- LANYARD_SLOT_CHECK (R134). -/
  | lanyardSlotCheck (d : Fin 8) (lp : Fin 2)
  /-- LANYARD_SLOT_BOUNDARY (R118). -/
  | lanyardSlotBoundary (d : Fin 8) (lp : Fin 2)
  /-- LANYARD_BURST_RECEIVE (R133). -/
  | lanyardBurstReceive (d : Fin 8) (lp : Fin 2) (lane : Fin 8) (b : BurstRx)
  /-- LANYARD_HOLDOVER_EXPIRE (R121). -/
  | lanyardHoldoverExpire (d : Fin 8) (lp : Fin 2)
  /-- LANYARD_WAIT_EXPIRE (R131). -/
  | lanyardWaitExpire (d : Fin 8) (lp : Fin 2) (queue : Fin 64)
  /-- LANYARD_TONE_DECISION (R134). -/
  | lanyardToneDecision (d : Fin 8) (lp : Fin 2) (lane : Fin 8) (ring : Ring) (colour : Fin 32) (tone : ToneKHz)
  /-- LANYARD_RESEEK_DONE (R135). -/
  | lanyardReseekDone (d : Fin 8) (lp : Fin 2) (lane : Fin 8) (ring : Ring) (colour : Fin 32) (ok : Bool)
  /-- LANYARD_ROTA_WRITE (R122). -/
  | lanyardRotaWrite (d : Fin 8) (lp : Fin 2) (lane : Fin 8) (n : Fin 1024) (value : Word)
  /-- LANYARD_TS_ARM (R125). -/
  | lanyardTsArm (d : Fin 8) (lp : Fin 2)
  /-- LANYARD_TS_START (R125). -/
  | lanyardTsStart (d : Fin 8) (lp : Fin 2)
  /-- LANYARD_DISCOVERY_SLOT (R126). -/
  | lanyardDiscoverySlot (d : Fin 8) (lp : Fin 2) (second : Bool) (t : Fin 32) (lane : Fin 8) (obs : DiscoveryObs)
  /-- LANYARD_TS_COMPLETE (R127). -/
  | lanyardTsComplete (d : Fin 8) (lp : Fin 2)
  /-- FRAME_LOOKUP (R143). -/
  | frameLookup (d : Fin 8) (ll : Fin 16)
  /-- LEARN_INSERT (R157). -/
  | learnInsert
  /-- TABLE_SCRUB_READ (R160). -/
  | tableScrubRead (d : Fin 8) (slot : Fin 2) (table : Fin 10) (index : Fin 524352) (bad : Bool)
  /-- PARTITION_FENCE_WRITE (R162). -/
  | partitionFenceWrite (q : Fin 64) (value : Word)
  /-- BEGIN (R165). -/
  | txnBegin (owner : Byte)
  /-- COMMIT_NOW (R166). -/
  | commitNow (owner : Byte)
  /-- COMMIT_AT (R166). -/
  | commitAt (owner : Byte)
  /-- ABORT (R168). -/
  | txnAbort (owner : Byte)
  /-- TXN_FLIP (R166). -/
  | txnFlip
  /-- TXN_CATCHUP_DONE (R167). -/
  | txnCatchupDone
  /-- TXN_ABORT_DONE (R168). -/
  | txnAbortDone
  /-- STAGED_REG_WRITE (R171). -/
  | stagedRegWrite (addr : Word) (value : Word)
  /-- TBL_WRITE (R170). -/
  | tblWrite (owner : Byte) (table : Fin 16)
  /-- INSERT (R150). -/
  | tblInsert (owner : Byte) (table : Fin 16)
  /-- DELETE (R170). -/
  | tblDelete (owner : Byte) (table : Fin 16)
  /-- READ_ACTIVE (R170). -/
  | readActive (owner : Byte) (table : Fin 16)
  /-- READ_STAGED (R170). -/
  | readStaged (owner : Byte) (table : Fin 16)
  /-- DIE_TABLE_COPY (R169). -/
  | dieTableCopy (d : Fin 8)
  /-- SCHEDULER_SLOT (R174). -/
  | schedulerSlot (d : Fin 8)
  /-- DEPTH_BROADCAST (R188). -/
  | depthBroadcast (d : Fin 8)
  /-- FRAME_EGRESS_ADMIT (R184). -/
  | frameEgressAdmit (d : Fin 8)
  /-- EGRESS_WAIT_ADMIT (R184). -/
  | egressWaitAdmit (d : Fin 8)
  /-- CUT_THROUGH_UNDERRUN (R182). -/
  | cutThroughUnderrun (d : Fin 8) (p : Fin 128)
  /-- EGRESS_SCHEDULE (R199). -/
  | egressSchedule (d : Fin 8) (p : Fin 128)
  /-- PORT_DOWN (R190). -/
  | portDown (d : Fin 8) (p : Fin 130)
  /-- PORT_BACK (R191). -/
  | portBack (d : Fin 8) (p : Fin 130)
  /-- PORT_HOLD_EXPIRE (R191). -/
  | portHoldExpire (d : Fin 8) (p : Fin 130)
  /-- PORT_QUARANTINE (R192). -/
  | portQuarantine (d : Fin 8) (p : Fin 130)
  /-- PORT_ADMIT (R193). -/
  | portAdmit (d : Fin 8) (p : Fin 130)
  /-- PORT_RESERVE_WRITE (R180). -/
  | portReserveWrite (d : Fin 8) (p : Fin 130) (reg : ReserveReg) (value : Word)
  /-- BUF_CONFIG_WRITE (R180). -/
  | bufConfigWrite (d : Fin 8) (pool : Bool) (value : Word)
  /-- SPRAY_SEED_WRITE (R188). -/
  | spraySeedWrite (d : Fin 8) (value : Word)
  /-- SHAPER_WRITE (R202). -/
  | shaperWrite (d : Fin 8) (p : Fin 130) (t : Fin 8) (value : Word)
  /-- POLICER_ENABLE_WRITE (R207). -/
  | policerEnableWrite (i : Fin 8704) (value : Word)
  /-- CS_RECORD_WRITE (R210). -/
  | csRecordWrite (d : Fin 8)
  /-- EXPOSURE_NOW (R211). -/
  | exposureNow (d : Fin 8) (value : Word)
  /-- EXPOSURE_AT (R211). -/
  | exposureAt (d : Fin 8) (value : Word)
  /-- EXPOSURE_CAPTURE (R211). -/
  | exposureCapture (d : Fin 8)
  /-- EXPOSURE_WRITE_DONE (R211). -/
  | exposureWriteDone (d : Fin 8)
  /-- ENGINE_FRAME_ARRIVE (R225). -/
  | engineFrameArrive (e : Fin 128) (bad : Bool) (hw : OpHw)
  /-- ENGINE_DISPATCH (R220). -/
  | engineDispatch (e : Fin 128) (bad : Bool) (hw : OpHw)
  /-- DISPATCH_END (R275). -/
  | dispatchEnd (e : Fin 128)
  /-- DISPATCH_BUDGET (R238). -/
  | dispatchBudget (e : Fin 128)
  /-- KNOT_TIMER_EXPIRE (R275). -/
  | knotTimerExpire (k : Fin 16384)
  /-- ENGINE_START (R237). -/
  | engineStart (e : Fin 128) (gate : Bool)
  /-- ENGINE_START_CHECK_DONE (R237). -/
  | engineStartCheckDone (e : Fin 128)
  /-- ENGINE_HALT (R235). -/
  | engineHalt (e : Fin 128) (gate : Bool)
  /-- ENGINE_RESET (R236). -/
  | engineReset (e : Fin 128) (gate : Bool)
  /-- ENGINE_RESET_DONE (R234). -/
  | engineResetDone (e : Fin 128)
  /-- ENGINE_LAYOUT_WRITE (R223). -/
  | engineLayoutWrite (e : Fin 128) (value : Word)
  /-- ENGINE_GATE (R241). -/
  | engineGate (e : Fin 128)
  /-- ENGINE_WAKE (R242). -/
  | engineWake (e : Fin 128)
  /-- NOP (R251). -/
  | nop (e : Fin 128) (hw : OpHw)
  /-- PLD (R255). -/
  | pld (e : Fin 128) (hw : OpHw)
  /-- PST (R255). -/
  | pst (e : Fin 128) (hw : OpHw)
  /-- PSEND (R256). -/
  | psend (e : Fin 128) (hw : OpHw)
  /-- PRET (R256). -/
  | pret (e : Fin 128) (hw : OpHw)
  /-- PACQ (R256). -/
  | pacq (e : Fin 128) (hw : OpHw)
  /-- PREL (R256). -/
  | prel (e : Fin 128) (hw : OpHw)
  /-- HGET (R326). -/
  | hget (e : Fin 128) (hw : OpHw)
  /-- HPUT (R326). -/
  | hput (e : Fin 128) (hw : OpHw)
  /-- HUNLK (R326). -/
  | hunlk (e : Fin 128) (hw : OpHw)
  /-- PLDW (R258). -/
  | pldw (e : Fin 128) (hw : OpHw)
  /-- MLD (R259). -/
  | mld (e : Fin 128) (hw : OpHw)
  /-- MST (R259). -/
  | mst (e : Fin 128) (hw : OpHw)
  /-- MLDX (R259). -/
  | mldx (e : Fin 128) (hw : OpHw)
  /-- MSTX (R259). -/
  | mstx (e : Fin 128) (hw : OpHw)
  /-- VADD (R260). -/
  | vadd (e : Fin 128) (hw : OpHw)
  /-- VSUB (R260). -/
  | vsub (e : Fin 128) (hw : OpHw)
  /-- VMUL (R260). -/
  | vmul (e : Fin 128) (hw : OpHw)
  /-- VFMA (R260). -/
  | vfma (e : Fin 128) (hw : OpHw)
  /-- VMIN (R260). -/
  | vmin (e : Fin 128) (hw : OpHw)
  /-- VMAX (R260). -/
  | vmax (e : Fin 128) (hw : OpHw)
  /-- VAND (R260). -/
  | vand (e : Fin 128) (hw : OpHw)
  /-- VOR (R260). -/
  | vor (e : Fin 128) (hw : OpHw)
  /-- VXOR (R260). -/
  | vxor (e : Fin 128) (hw : OpHw)
  /-- VSHL (R260). -/
  | vshl (e : Fin 128) (hw : OpHw)
  /-- VSHR (R260). -/
  | vshr (e : Fin 128) (hw : OpHw)
  /-- VSRA (R260). -/
  | vsra (e : Fin 128) (hw : OpHw)
  /-- VCMP (R260). -/
  | vcmp (e : Fin 128) (hw : OpHw)
  /-- VSEL (R260). -/
  | vsel (e : Fin 128) (hw : OpHw)
  /-- VBCAST (R260). -/
  | vbcast (e : Fin 128) (hw : OpHw)
  /-- VSHUF (R260). -/
  | vshuf (e : Fin 128) (hw : OpHw)
  /-- VHRED (R261). -/
  | vhred (e : Fin 128) (hw : OpHw)
  /-- VRCP (R260). -/
  | vrcp (e : Fin 128) (hw : OpHw)
  /-- VRSQRT (R260). -/
  | vrsqrt (e : Fin 128) (hw : OpHw)
  /-- VCVT (R262). -/
  | vcvt (e : Fin 128) (hw : OpHw)
  /-- VEXP (R262). -/
  | vexp (e : Fin 128) (hw : OpHw)
  /-- VMXUNPK (R263). -/
  | vmxunpk (e : Fin 128) (hw : OpHw)
  /-- VMXPK (R263). -/
  | vmxpk (e : Fin 128) (hw : OpHw)
  /-- VINS (R260). -/
  | vins (e : Fin 128) (hw : OpHw)
  /-- AACC (R265). -/
  | aacc (e : Fin 128) (hw : OpHw)
  /-- ALDW (R265). -/
  | aldw (e : Fin 128) (hw : OpHw)
  /-- ASTW (R265). -/
  | astw (e : Fin 128) (hw : OpHw)
  /-- ACLR (R265). -/
  | aclr (e : Fin 128) (hw : OpHw)
  /-- ARND (R295). -/
  | arnd (e : Fin 128) (hw : OpHw)
  /-- ARES (R265). -/
  | ares (e : Fin 128) (hw : OpHw)
  /-- AADDW (R265). -/
  | aaddw (e : Fin 128) (hw : OpHw)
  /-- SMRG (R268). -/
  | smrg (e : Fin 128) (hw : OpHw)
  /-- SSORT (R267). -/
  | ssort (e : Fin 128) (hw : OpHw)
  /-- SFIND (R267). -/
  | sfind (e : Fin 128) (hw : OpHw)
  /-- ADD (R269). -/
  | addOp (e : Fin 128) (hw : OpHw)
  /-- SUB (R269). -/
  | subOp (e : Fin 128) (hw : OpHw)
  /-- AND (R269). -/
  | andOp (e : Fin 128) (hw : OpHw)
  /-- OR (R269). -/
  | orOp (e : Fin 128) (hw : OpHw)
  /-- XOR (R269). -/
  | xorOp (e : Fin 128) (hw : OpHw)
  /-- SHL (R269). -/
  | shl (e : Fin 128) (hw : OpHw)
  /-- SHR (R269). -/
  | shr (e : Fin 128) (hw : OpHw)
  /-- SRA (R269). -/
  | sra (e : Fin 128) (hw : OpHw)
  /-- MUL (R269). -/
  | mulOp (e : Fin 128) (hw : OpHw)
  /-- ADDI (R269). -/
  | addi (e : Fin 128) (hw : OpHw)
  /-- LI (R269). -/
  | li (e : Fin 128) (hw : OpHw)
  /-- ADDM (R269). -/
  | addm (e : Fin 128) (hw : OpHw)
  /-- CMP (R269). -/
  | cmp (e : Fin 128) (hw : OpHw)
  /-- CMPI (R269). -/
  | cmpi (e : Fin 128) (hw : OpHw)
  /-- EXT (R269). -/
  | extOp (e : Fin 128) (hw : OpHw)
  /-- VX (R269). -/
  | vx (e : Fin 128) (hw : OpHw)
  /-- PMOV (R269). -/
  | pmov (e : Fin 128) (hw : OpHw)
  /-- XP (R269). -/
  | xp (e : Fin 128) (hw : OpHw)
  /-- PLOG (R269). -/
  | plog (e : Fin 128) (hw : OpHw)
  /-- BR (R270). -/
  | br (e : Fin 128) (hw : OpHw)
  /-- JAL (R269). -/
  | jal (e : Fin 128) (hw : OpHw)
  /-- JR (R269). -/
  | jr (e : Fin 128) (hw : OpHw)
  /-- END (R275). -/
  | endOp (e : Fin 128) (hw : OpHw)
  /-- KARR (R273). -/
  | karr (e : Fin 128) (hw : OpHw)
  /-- KCSUM (R271). -/
  | kcsum (e : Fin 128) (hw : OpHw)
  /-- KSEAL (R273). -/
  | kseal (e : Fin 128) (hw : OpHw)
  /-- KFAIL (R273). -/
  | kfail (e : Fin 128) (hw : OpHw)
  /-- KFREE (R271). -/
  | kfree (e : Fin 128) (hw : OpHw)
  /-- KRD (R274). -/
  | krd (e : Fin 128) (hw : OpHw)
  /-- KWR (R274). -/
  | kwr (e : Fin 128) (hw : OpHw)
  /-- KTIMER (R275). -/
  | ktimer (e : Fin 128) (hw : OpHw)
  /-- SANC (R271). -/
  | sanc (e : Fin 128) (hw : OpHw)
  /-- ASTAT (R271). -/
  | astat (e : Fin 128) (hw : OpHw)
  /-- RDRES (R271). -/
  | rdres (e : Fin 128) (hw : OpHw)
  /-- WAIT (R271). -/
  | waitOp (e : Fin 128) (hw : OpHw)
  /-- HSTAT (R271). -/
  | hstat (e : Fin 128) (hw : OpHw)
  /-- RDCYC (R271). -/
  | rdcyc (e : Fin 128) (hw : OpHw)
  /-- RDTIME (R271). -/
  | rdtime (e : Fin 128) (hw : OpHw)
  /-- HOLD_OP_COMPLETE (R257). -/
  | holdOpComplete (e : Fin 128) (i : Fin 8) (hw : HoldHw)
  /-- LOAD (R284). -/
  | knotLoad (i : Fin 8) (k : Fin 16384)
  /-- KNOT_CMD_FLUSH (R285). -/
  | knotCmdFlush (i : Fin 8) (k : Fin 16384)
  /-- UNLOAD (R286). -/
  | knotUnload (i : Fin 8) (k : Fin 16384)
  /-- KNOT_READ (R312). -/
  | knotRead (i : Fin 8) (k : Fin 16384)
  /-- ADVANCE (R288). -/
  | knotAdvance (i : Fin 8) (k : Fin 16384)
  /-- SET_ANCHOR (R312). -/
  | setAnchor (i : Fin 8) (k : Fin 16384)
  /-- DRAIN_MARKER_RECEIVE (R285). -/
  | drainMarkerReceive (k : Fin 16384) (d : Fin 8)
  /-- KNOT_FLUSH_DONE (R285). -/
  | knotFlushDone (k : Fin 16384)
  /-- KNOT_FRAME_ADMIT (R290). -/
  | knotFrameAdmit (d : Fin 8)
  /-- BROADCAST_STATUS (R306). -/
  | broadcastStatus (k : Fin 16384)
  /-- XCHK_ADD (R344). -/
  | xchkAdd (q : Fin 128) (bad : Bool)
  /-- XCHK_COMPARE (R345). -/
  | xchkCompare (q : Fin 128)
  /-- XCHK_ABANDON_TIMEOUT (R345). -/
  | xchkAbandonTimeout (q : Fin 128)
  /-- HOLD_GATHER_SERVE (R323). -/
  | holdGatherServe (d : Fin 8)
  /-- HOLD_GATHER_RESPONSE (R325). -/
  | holdGatherResponse (d : Fin 8) (i : Fin 64) (hw : HoldHw)
  /-- HOLD_LOCK_GRANT (R327). -/
  | holdLockGrant (m : Fin 2)
  /-- HOLD_TXN_COMMIT (R330). -/
  | holdTxnCommit (e : Fin 128)
  /-- SCATTER_STATUS (R329). -/
  | scatterStatus (e : Fin 128)
  /-- HOLD_SCRUB (R316). -/
  | holdScrub (m : Fin 2) (hw : HoldHw)
  /-- HOLD_ENABLE (R315). -/
  | holdEnable (m : Fin 2) (value : Word)
  /-- HOLD_CLEAR_DONE (R336). -/
  | holdClearDone (m : Fin 2)
  /-- HOLD_CONFIG_WRITE (R336). -/
  | holdConfigWrite (m : Fin 2) (reg : HoldReg) (value : BitVec 64)
  /-- HOLD_DIE_LOSS (R335). -/
  | holdDieLoss (m : Fin 2)
  /-- LOGBOOK_WRITE (R349). -/
  | logbookWrite
  /-- LOGBOOK_HEARTBEAT (R351). -/
  | logbookHeartbeat
  /-- FAULT_NOTICE_SEND (R357). -/
  | faultNoticeSend
  /-- FAULT_NOTICE_RESEND (R360). -/
  | faultNoticeResend (i : Fin 256)
  /-- SELF_TEST_SLICE (R346). -/
  | selfTestSlice (e : Fin 128) (ee : Fin 16) (stopped : Bool) (obs : SliceObs)
  /-- INTEG_LOG_TIME_WRITE (R352). -/
  | integLogTimeWrite (value : Word)
  /-- QUERY (R358). -/
  | unitQuery (value : Word)
  /-- RETIRE (R358). -/
  | unitRetire (value : Word)
  /-- RESTORE (R358). -/
  | unitRestore (value : Word)
  /-- CMD_RING_TAIL_WRITE (R370). -/
  | cmdRingTailWrite (value : Word)
  /-- CMD_FETCH (R370). -/
  | cmdFetch (err : Bool)
  /-- COMPLETION_WRITE (R372). -/
  | completionWrite
  /-- CPL_RING_HEAD_WRITE (R372). -/
  | cplRingHeadWrite (value : Word)
  /-- RING_ENABLE_WRITE (R389). -/
  | ringEnableWrite (cpl : Bool) (value : Word)
  /-- CMD_NOP (R374). -/
  | cmdNop (fail : Bool)
  /-- INJECT (R376). -/
  | inject (fail : Bool)
  /-- TEST_STRIP (R374). -/
  | testStrip (tag : BitVec 16)
  /-- SELF_TEST (R348). -/
  | selfTest (tag : BitVec 16) (obs : RunObs)
  /-- TABLE_SCRUB (R374). -/
  | tableScrub (tag : BitVec 16)
  /-- HOLD_LOAD (R332). -/
  | holdLoad (tag : BitVec 16)
  /-- HOLD_CHECKPOINT (R333). -/
  | holdCheckpoint (tag : BitVec 16)
  /-- KNOT_FLUSH (R285). -/
  | knotFlush (tag : BitVec 16)
  /-- FW_UPDATE (R401). -/
  | fwUpdate (tag : BitVec 16)
  /-- ATTEST (R399). -/
  | attest (tag : BitVec 16)
  /-- LOGBOOK_READ (R374). -/
  | logbookRead (tag : BitVec 16)
  /-- SUSPEND (R377). -/
  | suspend (fail : Bool)
  /-- RESUME (R377). -/
  | resume (fail : Bool)
  /-- CANCEL (R378). -/
  | cancel (fail : Bool)
  /-- SUSPEND_POINT_REACHED (R377). -/
  | suspendPointReached (tag : BitVec 16)
  /-- LONG_OP_COMPLETE (R373). -/
  | longOpComplete (tag : BitVec 16) (internal : Bool)
  /-- MSIX_UNMASK (R369). -/
  | msixUnmask (v : Fin 64)
  /-- BAR2_READ (R367). -/
  | bar2Read (o : Word) (len : Fin 513) (hw : DevHw)
  /-- BAR2_WRITE (R367). -/
  | bar2Write (o : Word) (data : Bytes)
  /-- BAR2_WINDOW_WRITE (R433). -/
  | bar2WindowWrite (value : Word)
  /-- DMA_CH_TAIL_WRITE (R381). -/
  | dmaChTailWrite (c : Fin 32) (value : Word)
  /-- DMA_RUN_WRITE (R381). -/
  | dmaRunWrite (c : Fin 32) (value : Word)
  /-- DMA_DESC_FETCH (R381). -/
  | dmaDescFetch (c : Fin 32) (hw : DevHw) (pcieErr : Option Word)
  /-- DMA_DESC_COMPLETE (R384). -/
  | dmaDescComplete (c : Fin 32)
  /-- DMA_SHADOW_ARM (R387). -/
  | dmaShadowArm (c : Fin 32)
  /-- DMA_SHADOW_HANDOVER (R387). -/
  | dmaShadowHandover (c : Fin 32) (late : Bool)
  /-- PERST_ASSERT (R428). -/
  | perstAssert
  /-- PERST_DEASSERT (R423). -/
  | perstDeassert
  /-- PCIE_HOT_RESET (R428). -/
  | pcieHotReset
  /-- MGMT_WATCHDOG (R391). -/
  | mgmtWatchdog
  /-- BOOT_ROM_START (R394). -/
  | bootRomStart
  /-- STAGE1_DONE (R394). -/
  | stage1Done
  /-- BOOT_LOCK_WRITE (R394). -/
  | bootLockWrite (value : Word)
  /-- IDENTITY_READY (R398). -/
  | identityReady (seed : BitVec 256) (ok : Bool)
  /-- FW_CONFIRM (R395). -/
  | fwConfirm
  /-- FW_ACTIVATE_RESTART (R401). -/
  | fwActivateRestart
  /-- RECOVERY_GO (R400). -/
  | recoveryGo (value : Word)
  /-- MGMT_FRAME_RECEIVE (R402). -/
  | mgmtFrameReceive (f : MgmtFrame)
  /-- MGMT_LINK_CHANGE (R402). -/
  | mgmtLinkChange (up : Bool)
  /-- ECHO (R404). -/
  | echo
  /-- NOTICE_ACK (R404). -/
  | noticeAck
  /-- REG_READ (R404). -/
  | regRead
  /-- REG_WRITE (R404). -/
  | regWrite
  /-- MGMT_LOGBOOK_READ (R404). -/
  | mgmtLogbookRead
  /-- KEY_ROTATE (R404). -/
  | keyRotate
  /-- WAKE_DATAGRAM (R405). -/
  | wakeDatagram (data : Bytes)
  /-- SESSION_KEY_WRITE (R406). -/
  | sessionKeyWrite (w : Fin 8) (value : Word)
  /-- ENTDAA (R407). -/
  | entdaa (addr : BitVec 7) (others : List (BitVec 48))
  /-- RSTDAA (R407). -/
  | rstdaa
  /-- SETNEWDA (R407). -/
  | setnewda (addr : BitVec 7)
  /-- GETPID (R407). -/
  | getpid
  /-- GETBCR (R407). -/
  | getbcr
  /-- GETDCR (R407). -/
  | getdcr
  /-- GETSTATUS (R407). -/
  | getstatus
  /-- GETMWL (R407). -/
  | getmwl
  /-- GETMRL (R407). -/
  | getmrl
  /-- SETMWL (R407). -/
  | setmwl (bcast : Bool) (len : BitVec 16)
  /-- SETMRL (R407). -/
  | setmrl (bcast : Bool) (len : BitVec 16)
  /-- ENEC (R407). -/
  | enec (bcast : Bool) (events : Byte)
  /-- DISEC (R407). -/
  | disec (bcast : Bool) (events : Byte)
  /-- RSTACT (R407). -/
  | rstact (bcast : Bool) (action : Byte)
  /-- I3C_PRIVATE_READ (R408). -/
  | i3cPrivateRead (n : Fin 17)
  /-- I3C_PRIVATE_WRITE (R408). -/
  | i3cPrivateWrite (data : Bytes)
  /-- POWER_ON_RESET (R411). -/
  | powerOnReset (slot : BitVec 4)
  /-- PWR_GOOD_RISE (R411). -/
  | pwrGoodRise
  /-- PWR_GOOD_FALL (R411). -/
  | pwrGoodFall
  /-- STAGGER_STEP (R412). -/
  | staggerStep (temp : BitVec 16)
  /-- AVS_MARGIN_CHANGE (R414). -/
  | avsMarginChange (d : Fin 8) (steps : Fin 33) (measured : BitVec 10)
  /-- AVS_LOWER_STEP (R414). -/
  | avsLowerStep (d : Fin 8) (measured : BitVec 10)
  /-- AVS_TIMEOUT (R414). -/
  | avsTimeout (d : Fin 8)
  /-- JUNCTION_TEMP_SAMPLE (R415). -/
  | junctionTempSample (d : Fin 8) (temp : BitVec 16)
  /-- AON_BROWNOUT (R418). -/
  | aonBrownout
  /-- PWR_TARGET_P0 (R420). -/
  | pwrTargetP0 (lp : Bool)
  /-- PWR_TARGET_P1 (R420). -/
  | pwrTargetP1 (lp : Bool)
  /-- PWR_TARGET_P2 (R420). -/
  | pwrTargetP2 (lp : Bool)
  /-- PWR_TARGET_P3 (R421). -/
  | pwrTargetP3 (lp : Bool)
  /-- PWR_TRANSITION_DONE (R420). -/
  | pwrTransitionDone
  /-- WAKE_TIMER_EXPIRE (R423). -/
  | wakeTimerExpire
  /-- GPIO_WAKE (R423). -/
  | gpioWake (i : Fin 4) (rising : Bool)
  /-- RESET_PIN (R445). -/
  | resetPin
  /-- PAD_RELEASE_GO (R422). -/
  | padReleaseGo
  /-- RESET_COLD (R424). -/
  | resetCold (value : Word)
  /-- RESET_WARM (R424). -/
  | resetWarm (value : Word)
  /-- RESET_TRANSIT (R427). -/
  | resetTransit (value : Word)
  /-- RESET_HOLD_DONE (R426). -/
  | resetHoldDone
  /-- TRANSIT_RESET_END (R427). -/
  | transitResetEnd
  /-- UNIT_RESET (R424). -/
  | unitReset (value : Word)
  /-- CODEWORD_TRANSMIT (R45). -/
  | codewordTransmit (d : Fin 8) (n : Fin 144)
  /-- CONTROL_LINK_LOSS (R34). -/
  | controlLinkLoss (die : Fin 11)
  /-- MEMORY_LINK_LOSS (R321). -/
  | memoryLinkLoss (d : Fin 8) (m : Fin 2)
  /-- MEMORY_LINK_RETURN (R321). -/
  | memoryLinkReturn (d : Fin 8) (m : Fin 2)
  /-- LASER_FEED_CHANGE (R97). -/
  | laserFeedChange (oe : Fin 16) (dataFeed : Bool) (lanyardFeed : Bool) (line : Fin 8) (power : BitVec 16) (tone : ToneKHz)
  /-- VAUX_REMOVAL (R416). -/
  | vauxRemoval
  /-- IO_DIE_TEMP_SAMPLE (R347). -/
  | ioDieTempSample (temp : BitVec 16)
  deriving DecidableEq, Repr

end Sys2Proof
end

