-- ==== Sys2Proof/Machine/Sparse.lean ====
section
/-! DEFINITION. Operations on sparse data by number (SMap): reading, writing, and the canonical form they keep: keys
strictly rising, and no entry equal to what an unlisted key reads as. -/

namespace Sys2Proof.Machine

/-- The value at key n; d where n is not listed. -/
def sget {α : Type} : SMap α → Nat → α → α
  | [], _, d => d
  | (k, v) :: m, n, d => if n = k then v else sget m n d

/-- Put an entry at its place among rising keys. -/
def sins {α : Type} : SMap α → Nat → α → SMap α
  | [], n, v => [(n, v)]
  | (k, w) :: m, n, v =>
    if n < k then (n, v) :: (k, w) :: m
    else if n = k then (n, v) :: m
    else (k, w) :: sins m n v

/-- Remove a key. -/
def serase {α : Type} : SMap α → Nat → SMap α
  | [], _ => []
  | (k, w) :: m, n => if n = k then serase m n else (k, w) :: serase m n

/-- Write v at key n, where an unlisted key reads as d. -/
def sput {α : Type} [DecidableEq α] (m : SMap α) (n : Nat) (v d : α) : SMap α :=
  if v = d then serase m n else sins m n v

/-- Change the value at key n by f, where an unlisted key reads as d. -/
def supd {α : Type} [DecidableEq α] (m : SMap α) (n : Nat) (d : α) (f : α → α) : SMap α :=
  sput m n (f (sget m n d)) d

/-- Write consecutive values from key n on. -/
def sputs {α : Type} [DecidableEq α] : SMap α → Nat → List α → α → SMap α
  | m, _, [], _ => m
  | m, n, v :: vs, d => sputs (sput m n v d) (n + 1) vs d

/-- The values at `count` consecutive keys from n. -/
def sgets {α : Type} (m : SMap α) (n : Nat) : Nat → α → List α
  | 0, _ => []
  | c + 1, d => sget m n d :: sgets m (n + 1) c d

/-- All keys are above n. -/
def keysAbove {α : Type} : SMap α → Nat → Bool
  | [], _ => true
  | (k, _) :: m, n => decide (n < k) && keysAbove m n

/-- Keys rising strictly, whatever their values. -/
def keysRising {α : Type} : SMap α → Bool
  | [] => true
  | (k, _) :: m => keysAbove m k && keysRising m

/-- The canonical form, with d what an unlisted key reads as. -/
def swf {α : Type} [DecidableEq α] : SMap α → α → Bool
  | [], _ => true
  | (k, v) :: m, d => keysAbove m k && decide (v ≠ d) && swf m d

/-- Bytes by address in canonical form, where an unlisted address reads 0: host memory, instruction memory, state SRAM,
packet staging and the Hold's data memory (R316, R366). -/
def Memory.wf (m : SMap Byte) : Bool := swf m 0

/-- The first key whose value satisfies p. -/
def sfind? {α : Type} : SMap α → (Nat → α → Bool) → Option Nat
  | [], _ => none
  | (k, v) :: m, p => if p k v then some k else sfind? m p

end Sys2Proof.Machine
end

