-- ==== Sys2Proof/Machine/State.lean ====
section
/-! DEFINITION. The state of the device, as plain data, and the state after reset. Registers live in one file by BAR0
address; everything else the spec gives a block stands in that block's structure. -/

namespace Sys2Proof.Machine

/-- Reasons the device stops. No command raises one: the spec completes every request (R7). The one constructor
names a command the model cannot carry out because the spec gives it no effect; raised by no meaning. Safe. -/
inductive Fault where
  /-- Raised by no meaning. Safe. -/
  | noEffectGiven
  deriving DecidableEq, Repr

/-- Reasons a command has no meaning. -/
inductive Refusal where
  /-- The command's arm of the dispatch has no meaning yet. Raised by the dispatch alone. Safe. -/
  | notModelled (mnemonic : String)
  deriving DecidableEq, Repr

/-- A control word waiting for a control slot: type and 56-bit body (R44); `fresh` marks a changed XOFF_XON (R45). -/
structure Ctl where
  typ : Nat
  body : Nat
  fresh : Bool
  deriving DecidableEq, Repr

/-- Who made a frame (R184): received on a port, a splice engine, the control link, a Hold agent's gather response,
or the host by INJECT. -/
inductive Origin where
  | port | engine | control | holdRsp | host
  deriving DecidableEq, Repr

/-- Buffer region a frame's egress cells come from (Table 7.3). -/
inductive Region where
  | none | portMin | shared | engineRes | holdRes
  deriving DecidableEq, Repr

/-- A frame the device holds, and what it knows of it. -/
structure FrameRec where
  /-- The frame as received or built (R49). -/
  frame : Frame
  /-- Ingress die. -/
  inDie : Nat
  /-- Ingress port; 255 for a frame without one. -/
  inPort : Nat
  /-- Who made it (R184). -/
  origin : Origin
  /-- Queue class at this device (R206). -/
  tc : Nat
  /-- Channel class of R62. -/
  cls : Nat
  /-- Colour: 0 green, 1 yellow, 2 red, 3 not policed (Table 8.5). -/
  colour : Nat
  /-- Its traffic class is lossless (R66). -/
  lossless : Bool
  /-- Staging blocks it holds; eight blocks fill a cell (R177). -/
  stage : Nat
  /-- It holds lossy staging rather than its port's reservation (R178). -/
  lossyStage : Bool
  /-- It was received whole and its payload check passed (R55). -/
  whole : Bool
  /-- A block of it lay in an uncorrectable codeword (R55). -/
  bad : Bool
  /-- Egress die. -/
  outDie : Nat
  /-- Egress port; 255 for none. -/
  outPort : Nat
  /-- Port set its lookup named (R189). -/
  portSet : Nat
  /-- It was looked up, under this epoch bit (R143). -/
  looked : Bool
  epoch : Nat
  /-- Placed by R188. -/
  sprayed : Bool
  /-- A copy of a multicast frame (R156). -/
  mcast : Bool
  /-- Cut through (R181). -/
  cut : Bool
  /-- Buffer region of its egress cells (R184). -/
  region : Region
  /-- Egress cells it holds (R184). -/
  cells : Nat
  /-- All its cells have reached the egress die's queue (R173). -/
  arrived : Bool
  /-- Its congestion mark was set at this device (R203). -/
  marked : Bool
  /-- A remark action moved it to another class (R206). -/
  remarked : Bool
  /-- Engine or Hold service it is bound for: 0 none, 1 engine, 2 Hold (R146). -/
  service : Nat
  /-- Queue of a lanyard egress port (R131). -/
  outQ : Nat
  /-- Knot member index given at admission, or 65535 (R290). -/
  member : Nat
  /-- Colour index of the lanyard peer it arrived from, or 255 (R178). -/
  peer : Nat
  /-- Engine it enters the crossbar by, die × 16 + engine; 255 for none. -/
  engine : Nat
  /-- Transmit cells it was sent from: first cell and cells, none where 0 (R256); the dispatch that sent it. -/
  txCell : Nat
  txCells : Nat
  serial : Nat
  /-- It left a port whole. -/
  sent : Bool
  /-- Lookup pipe that resolved it, and that its drops count in (R142). -/
  pipe : Nat
  /-- Bytes that followed its header as its head arrived, at most 96 (R209). -/
  first : Bytes
  /-- Looked up and placed, it waits for its last block before it is offered for storing (R181). -/
  await : Bool
  /-- Why it was found bad while it crossed the mesh, a reason of R57; 0 while it is not (R183). -/
  reason : Nat
  /-- Next die of its path over the mesh; 255 before its crossing starts (R23, R24). -/
  via : Nat
  /-- It started on a transmitter before it was whole (R181). -/
  late : Bool
  /-- It was held at port down, and counts in CORE_COUNT index 8 when it is sent (R191). -/
  wasHeld : Bool
  /-- A multicast copy: one more than the number of the frame it copies; 0 for any other (R156). -/
  parent : Nat
  /-- The frame a multicast copies: copies not admitted yet, and the egress dies that a train carries it to or has
  carried it to, as masks (R31 step 7, R177). -/
  copies : Nat
  trains : Nat
  landed : Nat
  deriving DecidableEq, Repr

/-- The crossing of one frame through a die's crossbar (R173): logical input and output of the 173, cells left,
whether it has begun, and whether it locks its output (R175); the virtual channel it leaves on, 8 for an output that is
no die link; where its cells come from: 8 for cells stored on the die, else the peer die whose link brings its flits. -/
structure Xfer where
  inp : Nat
  out : Nat
  frame : Nat
  cells : Nat
  begun : Bool
  locks : Bool
  vc : Nat
  src : Nat
  deriving DecidableEq, Repr

/-- A flit on a die link (R19): virtual channel, frame, whether it is the frame's first or last, an abort, the
destination die; in the head flit, the destination slot and the frame's length. -/
structure Flit where
  vc : Nat
  frame : Nat
  head : Bool
  tail : Bool
  abort : Bool
  dest : Nat
  slot : Nat
  len : Nat
  deriving DecidableEq, Repr

/-- One direction of a die link, from the sending die to the receiving die (R19 to R25). -/
structure Link where
  /-- Flits sent and not yet taken by the receiving die, oldest first. -/
  flight : List Flit
  /-- Flits in the receiving die's buffers that wait for its crossbar (R21). -/
  held : List Flit
  /-- By virtual channel, consecutive replays of its oldest flit (R25). -/
  replays : SMap Nat
  /-- Virtual channels the receiving die has signalled off, as a mask (R21). -/
  offSent : Nat
  /-- A down link that is retraining (R25). -/
  training : Bool
  deriving DecidableEq, Repr

/-- A block as received: what it holds, and whether it lay in an uncorrectable codeword (R55). -/
structure RxBlk where
  block : Block
  bad : Bool
  deriving DecidableEq, Repr

/-- A port of a switch die: what it holds beyond its registers. -/
structure Port where
  /-- Data blocks of the port's stream not yet taken, oldest first (R42). -/
  rxStream : List RxBlk
  /-- Of the frame whose blocks arrive: its header while it is not staged, the bytes after the header, and whether a block was bad
  (R49, R55). -/
  rxHdr : Option Header
  rxAsm : Bytes
  rxBad : Bool
  /-- Blocks left of a frame that is skipped by its stated length (R55). -/
  rxSkip : Nat
  /-- A lane of the receive stripe was lost while the frame arrived (R57). -/
  rxLost : Bool
  /-- Codeword index of the next codeword dealt to the lanes of the port, 0 to 16,383 (R40). -/
  txIdx : Nat
  /-- Frame being received (R49). -/
  rxOpen : Option Nat
  /-- The receiver is in hunt (R55). -/
  hunt : Bool
  /-- Events since the last capture of the RX, TX and DROP mirror sources (R208). -/
  mirRx : Nat
  mirTx : Nat
  mirDrop : Nat
  /-- Staging blocks held in the port's reservation, by class; at a lanyard port by peer × 8 + class (R178, R179). -/
  stageTc : SMap Nat
  /-- Blocks the port holds in lossy staging, by the same key (R178, R179). -/
  lossyTc : SMap Nat
  /-- Class queues of frames, by traffic class, head first (R197). -/
  queues : SMap (List Nat)
  /-- Ordered frames held under PORT_HOLD, oldest first (R190). -/
  held : List Nat
  /-- Timed queue: frame and launch time (R111). -/
  timed : List (Nat × Nat)
  /-- Frame in transmission. -/
  tx : Option Nat
  /-- Frames cut through that wait for the transmitter, oldest first (R181). -/
  cutWait : List Nat
  /-- Blocks of the frames that the transmitter started, not yet placed in data slots, oldest first (R39). -/
  txStream : List Block
  /-- DRR deficit of each class queue (R200). -/
  deficit : SMap Nat
  /-- By level, one more than the class whose DRR turn is in progress; 0 where none is (R200). -/
  turn : SMap Nat
  /-- By level, the class at which the round pointer stands (R200). -/
  rr : SMap Nat
  /-- Shaper credit by class in 2^-16 bytes, as of the cycle in `creditAt` (R201). -/
  credit : SMap Int
  creditAt : SMap Nat
  /-- By class, one more than the number of the head frame that waited on credit while the port sent others (R202). -/
  waited : SMap Nat
  /-- Cells used of the port minimum (R184). -/
  minUsed : Nat
  /-- Shared-pool cells used, by class (R184). -/
  shUsed : SMap Nat
  /-- The far end's fault condition (R45). -/
  farCond : Option FaultCode
  /-- A LANE_SET the port received, mask and effective codeword index, not yet in effect (R43). -/
  laneSetRx : Option (Nat × Nat)
  /-- A LANE_SET the port has sent, not yet in effect (R43). -/
  laneSetTx : Option (Nat × Nat)
  /-- Lanes of the receive direction that are admitted, as a mask of lane indices (R86). -/
  rxAdmit : Nat
  /-- By class, one more than the core cycle at which the far end paused it; 0 where it is not paused (R68). -/
  pausedAt : SMap Nat
  /-- Slew pause stops the port from starting frames (R94). -/
  slew : Bool
  /-- PORT_HOLD ended with the port still down (R191). -/
  pastHold : Bool
  /-- Timed frames whose launch time had passed when the port last went down (R112). -/
  overdue : List Nat
  deriving DecidableEq, Repr

/-- Policer buckets (R205), in 2^-16 bytes, as of a core cycle. -/
structure Bucket where
  tp : Nat
  tc : Nat
  at_ : Nat
  deriving DecidableEq, Repr

/-- The settings a fast relock uses (R85). -/
structure Stored where
  txHeat : Nat
  rxHeat : Nat
  phase : Int
  threshold : Int
  temp : Int
  deriving DecidableEq, Repr

/-- A lane, data or lanyard: what it holds beyond its registers. -/
structure Lane where
  /-- Control words waiting for the lane's control slot (R45). -/
  txq : List Ctl
  /-- Data slots of the codewords dealt to the lane and not yet sent, oldest first, by codeword index (R42). -/
  txRows : List (Nat × List Block)
  /-- The last 58 scrambled bits sent and received, newest in bit 0 (R36). -/
  txScr : Nat
  rxScr : Nat
  /-- Frame blocks placed in this marker period (R39). -/
  txSent : Nat
  /-- Control slots since one carried the port's fault condition (R45). -/
  gap : Nat
  /-- Copies of a LANE_SET still to follow in consecutive codewords (R43). -/
  setLeft : Nat
  /-- The data slots carry PRBS31; its generator, 0 before it is first used (R81). -/
  prbsOn : Bool
  prbs : Nat
  /-- Blocks of the last codeword received (R37). -/
  rxBlocks : List Block
  /-- Codeword index of the next codeword received, counted from the last marker (R43). -/
  rxIdx : Nat
  /-- Data slots received and not yet joined to the port's stream, oldest first, by codeword index (R42). -/
  rxRows : List (Nat × List RxBlk)
  /-- Consecutive codewords without a valid one (R87). -/
  noCw : Nat
  /-- The last codewords, at most 256, newest first: true where uncorrectable (R87). -/
  recent : List Bool
  /-- Codewords since the far end's fault condition was last carried (R45). -/
  quiet : Nat
  /-- Lane index and group identifier of the last marker (R41). -/
  marker : Option (Nat × Nat)
  /-- Test strip step of Table 3.3 in progress; 0 where none is. -/
  step : Nat
  /-- Attempt number of the test strip (R84). -/
  attempt : Nat
  /-- Rejections in a row with one result code, and that code (R90). -/
  rejRun : Nat
  rejCode : Nat
  /-- Rings locked so far in this strip or re-seek: transmit, receive (R76). -/
  seekTx : Bool
  seekRx : Bool
  /-- READY received from the far end (R80). -/
  gotReady : Bool
  /-- Far end sends PRBS (R81). -/
  farPrbs : Bool
  /-- Sweep points measured, oldest first: phase sweep as (phase, errors), threshold sweep, contour edges (R80). -/
  phasePts : List (Int × Nat)
  thrPts : List SweepPoint
  edges : List (Int × Int × Int)
  /-- Light present on the receive fibre. -/
  light : Bool
  /-- The fast-relock window is open, and the relock tries made in it (R88). -/
  window : Bool
  tries : Nat
  /-- Core cycles at which re-seeks failed, newest first (R93). -/
  reseekFails : List Nat
  /-- A re-seek is running (R91). -/
  reseek : Bool
  /-- Stored settings of the last admission (R85). -/
  stored : Option Stored
  /-- Heater powers of the rings, 0.01 mW. -/
  txHeat : Nat
  rxHeat : Nat
  /-- The far end's margin for this lane's transmit direction (Table 3.6). -/
  farMargin : Nat
  /-- The far end rejected this lane's transmit direction in this strip (Table 3.5). -/
  farRejected : Bool
  /-- One more than the attempt of the far end's strip that this lane answers; 0 where none runs (R81). -/
  farAttempt : Nat
  /-- The rings were re-sought in this strip after a wrong line (R91). -/
  reseeked : Bool
  deriving DecidableEq, Repr

/-- A TIME exchange in progress as initiator (R103). -/
structure Exch where
  seq : Nat
  t1 : Stamp
  t2 : Option Stamp
  deriving DecidableEq, Repr

/-- The time unit (R100 to R110) beyond its registers. -/
structure TimeUnit where
  /-- The pair WRAPS, fabric time with its fraction, in 2^-56 ns (R100). -/
  fab : Nat
  /-- Frequency word in 2^-40 (R104). -/
  f : Int
  /-- Integral term, in 2^-80 (R104). -/
  integ : Int
  /-- Consecutive offsets beyond STEP_NS (R104). -/
  count : Nat
  /-- Consecutive exchanges within LOCK_NS (R105). -/
  good : Nat
  /-- Consecutive discarded exchanges (R105). -/
  discards : Nat
  /-- Frequency words of the last accepted exchanges, at most 64, newest first (R107). -/
  hist : List Int
  /-- Sequence of the next SYNC (R103). -/
  seq : Nat
  /-- Exchanges outstanding, oldest first. -/
  exch : List Exch
  /-- Selected source: none, a reference (die 255) or a port (R106). -/
  master : Option (Nat × Nat)
  /-- The selected master is lost, and HOLDOVER_SWITCH_MS runs (R106). -/
  lost : Bool
  /-- A load waits for the next 1PPS edge (R108). -/
  ppsLoad : Bool
  /-- Fabric time at which the next 1PPS edge is expected (R108). -/
  ppsExpect : Option Nat
  /-- The reference input is up (R108). -/
  refUp : Bool
  /-- Fabric time and tick count saved at P3 entry (R110). -/
  savedFab : Nat
  savedTick : Nat
  /-- Ports that completed no exchange within the limit of R103 since their lanes last came up (R106). -/
  silent : List (Nat × Nat)
  /-- Core cycle at which HOLDOVER was last entered (R121). -/
  holdAt : Nat
  /-- Fabric time of the next rising edge of 1PPS_OUT (R108). -/
  ppsOutAt : Nat
  /-- With TENMHZ_EN 1, the frequency of the 10 MHz input against the 156.25 MHz reference, 2^-40 (R108); else 0. -/
  tenAdj : Int
  deriving DecidableEq, Repr

/-- An entry with a parity error: die, slot, location (R159). -/
structure ParityMark where
  die : Nat
  slot : Nat
  loc : Nat
  /-- The scrubber found it and could not repair it (R160). -/
  seen : Bool
  deriving DecidableEq, Repr

/-- A queued learn request: source address, ingress die and port (R157). -/
structure LearnReq where
  src : Nat
  die : Nat
  port : Nat
  /-- The pipe that raised it. -/
  pipe : Nat
  deriving DecidableEq, Repr

/-- The forwarding tables and their transaction (R140 to R172). Every die holds the same copy (R140), so one copy stands
for the eight; a die's own parity errors are marks, and a die that was out of service is listed in `stale`. A location
is numbered table × 2^20 + index for a table of Table 6.11 (the override by location, 1), and 2^24 + address for a staged
register. -/
structure Tables where
  /-- The two slots of every location (R163). -/
  slot0 : SMap (List Nat)
  slot1 : SMap (List Nat)
  /-- Locations journaled by the current transaction, oldest first (R164). -/
  journal : List Nat
  /-- Owner of the transaction open, pending or in catch-up (R165). -/
  owner : Nat
  /-- A catch-up or abort restore is still running (R167, R168). -/
  copying : Bool
  /-- A transit-preserving reset is running, in which BEGIN waits (R169). -/
  transit : Bool
  /-- Flip time T of a pending commit (R166). -/
  flipAt : Nat
  /-- Parity errors. -/
  marks : List ParityMark
  /-- Learn requests, oldest first, at most 16 (R157). -/
  learn : List LearnReq
  /-- By die × 16 + pipe, one more than the cycle of the last source checked for learning (R157). -/
  checked : SMap Nat
  /-- The insertion engine's generator (R150). -/
  rng : Nat
  /-- Dies that must copy their tables before their ports are admitted (R169). -/
  stale : List Nat
  /-- PARITY_LOG records waiting, by die, oldest first, at most 16. -/
  plog : SMap (List Nat)
  /-- By die, 1 where a parity record was lost since the last one queued. -/
  plost : SMap Nat
  /-- Final status of a transaction that is being aborted (R166, R168). -/
  abortStatus : Nat
  /-- A flip has happened since the last power-on, cold or warm reset: the hash seeds are locked (R6). -/
  seedLocked : Bool
  deriving DecidableEq, Repr

/-- An exposure in progress (R211): the capture time where it is scheduled, the image once captured. -/
structure Expo where
  sched : Option Nat
  image : Option Bytes
  deriving DecidableEq, Repr

/-- A switch die: what it holds beyond its ports, links and registers. -/
structure Die where
  /-- Backlog of each lookup pipe, head first (R142). -/
  backlog : SMap (List Nat)
  /-- Frames that wait in their originator for a pipe with room (R142). -/
  origWait : List Nat
  /-- Frames that came for admission to an egress queue of this die, oldest first (R184). -/
  admitQ : List Nat
  /-- Frames that began to wait for cells of this die, oldest first (R184). -/
  waitQ : List Nat
  /-- Spray generator of each pipe; 0 stands for one not used since its seeding (R188). -/
  spray : SMap Nat
  /-- Cells used of the shared pool and the two reserves (R184). -/
  sharedUsed : Nat
  engineUsed : Nat
  holdUsed : Nat
  /-- Frames crossing the crossbar, oldest first (R173). -/
  xfers : List Xfer
  /-- Admitted frames whose crossing cannot start yet: no path to their egress die is up (R23), or a copy of the frame is
  on its way there already (R31 step 7). -/
  noPath : List Nat
  /-- Grant pointers of the 173 outputs and accept pointers of the 173 inputs (R174). -/
  grant : SMap Nat
  accept : SMap Nat
  /-- Depths of other dies' ports as last broadcast, by (die × 130 + port) × 8 + class (R188). -/
  depths : SMap Nat
  /-- Policer buckets by policer (R205). -/
  buckets : SMap Bucket
  /-- Events of the COPY mirror source since its last capture (R208). -/
  mirCopy : Nat
  /-- Contact-sheet records on their way to the ring, oldest first, at most 256: source port and record (R210). -/
  csBuf : List (Nat × Bytes)
  /-- Exposure in progress (R211). -/
  expo : Expo
  /-- Frames for this die's control slot, oldest first (R173). -/
  control : List Nat
  /-- Frames that reached this die for a knot homed on it and wait for KNOT_FRAME_ADMIT, oldest first (R290). -/
  knotIn : List Nat
  /-- Frames for the Hold agent of this die, oldest first (R323). -/
  holdIn : List Nat
  deriving DecidableEq, Repr

/-- What the lanyard test strip recorded for one lane and colour (R126): source heard, quality in 0.01 decade, delay in ns. -/
structure Heard where
  src : Nat
  /-- PRBS31 errors of sweep 1, and the quality in 0.01 decade after sweep 1 and after both. -/
  errors : Nat
  mapQuality : Nat
  quality : Nat
  /-- Delay of the source, in ns (R126, R128). -/
  delay : Nat
  deriving DecidableEq, Repr

/-- A peer's report that named this port (R127): the peer, the colour of the block, its lane mask and quality. -/
structure PeerReport where
  peer : Nat
  colour : Nat
  lanes : Nat
  quality : Nat
  deriving DecidableEq, Repr

/-- The rota that a flip ended, for the slots whose bursts still arrive (R120, R123): its anchor, P, LENGTH and G, the slot that was
next, and the entries of the last slots, lane by lane. -/
structure OldRota where
  anchor : Nat
  slotNs : Nat
  len : Nat
  guard : Nat
  next : Nat
  entries : List (Nat × List Nat)
  deriving DecidableEq, Repr

/-- A lanyard port: what it holds beyond its registers and its `Port`. -/
structure Lany where
  /-- The 64 queues: frame and the cycle it was queued, head first (R131). -/
  queues : SMap (List (Nat × Nat))
  /-- Slot number n of the active rota that is open (R118). -/
  slot : Nat
  /-- A slot check passed for lane L: mask over lanes (R134). -/
  checked : Nat
  /-- By colour, the off mask received from the peer (R132). -/
  xoff : SMap Nat
  /-- By colour, the off mask this port asserts toward the peer (R132). -/
  txOff : SMap Nat
  /-- By lane × 32 + colour, consecutive failed bursts (R133). -/
  failed : SMap Nat
  /-- By (lane × 2 + ring) × 32 + colour, 1 while that colour's setpoint is being re-sought (R135). -/
  reseek : SMap Nat
  /-- Lanes removed from the rota, as a mask (R135). -/
  removed : Nat
  /-- The lanyard test strip runs (R125). -/
  strip : Bool
  /-- By lane × 32 + colour, what the sweeps heard (R126). -/
  heard : SMap (Option Heard)
  /-- Outcome of the last complete strip: 0 none yet, 1 a path was found, 2 none was (R129). -/
  found : Nat
  /-- Reports of sweep 2 (R127). -/
  reports : List PeerReport
  /-- HOLDOVER lasted beyond HOLDOVER_MS (R121). -/
  held : Bool
  /-- Colours whose line failed the laser check of the strip, as a mask (R125). -/
  weak : Nat
  /-- The rota before the last flip (R123). -/
  old : Option OldRota
  deriving DecidableEq, Repr

/-- A record of the logbook before it is laid out (Table 13.5): what the event says, with the times and measures taken
when it was detected. -/
structure LogRec where
  /-- Class (Table 13.6). -/
  cls : Nat
  /-- Mechanism (Table 13.7). -/
  mech : Nat
  /-- Status code, 0 when none. -/
  status : Nat
  /-- Unit kind (Table 13.8), die, unit number. -/
  kind : Nat
  die : Nat
  unit : Nat
  /-- Slot index, 0xFF when none, and operation code. -/
  slot : Nat
  op : Nat
  /-- Knot and its generation. -/
  knot : Nat
  gen : Nat
  /-- Syndrome words 8 to 13, from the first (Table 13.9). -/
  syn : List Nat
  /-- Syndrome class, word 14 [7:0]. -/
  synClass : Nat
  /-- It shows a fault inside the device and counts as an occurrence (R353). -/
  counts : Bool
  /-- ESTIMATED flag of R352. -/
  estimated : Bool
  /-- Sequence, LOG_TIME, fabric time at detection. -/
  seq : Nat
  logTime : Nat
  fabNs : Nat
  /-- Die temperature (16-bit two's complement, 0.01 °C), rail voltage in mV, and temperature band. -/
  temp : Nat
  mv : Nat
  band : Nat
  /-- Corrections folded in (R352), for CORRECTED; occurrences it counts as where more than one, for SELF_TEST_FAIL (R346). -/
  folded : Nat
  deriving DecidableEq, Repr

/-- What the device knows of a unit's health (R353, R354). -/
structure UnitHealth where
  /-- State of Table 13.10. -/
  state : Nat
  /-- Suspicions recorded. -/
  suspicions : Nat
  /-- Bands it is suspect in, as a mask. -/
  bands : Nat
  /-- Occurrences: signature, LOG_TIME, band; newest first. -/
  occ : List (Nat × Nat × Nat)
  /-- Passed self-tests: LOG_TIME and band; newest first. -/
  passes : List (Nat × Nat)
  deriving DecidableEq, Repr

/-- A fault notice not yet acknowledged (R359, R360): its sequence, sends so far, AON_TICK of the last, flags, and the record's
words. -/
structure Notice where
  seq : Nat
  sends : Nat
  sentAt : Nat
  late : Bool
  escalation : Bool
  words : List Nat
  deriving DecidableEq, Repr

/-- The integrity collector and logbook (R349 to R360) beyond the registers. -/
structure Integ where
  /-- Records queued for writing, oldest first, at most 256 (R349). -/
  queue : List LogRec
  /-- Sequence of the next record (Table 13.5). -/
  seq : Nat
  /-- The logbook in flash: slot to sixteen words (R349). -/
  book : SMap (List Nat)
  /-- Records written to the logbook in all; the next slot is this modulo 65,536. -/
  written : Nat
  /-- Health by unit: kind × 2^20 + die × 2^16 + unit. -/
  units : SMap UnitHealth
  /-- Retirements: kind and LOG_TIME, newest first (R355). -/
  retired : List (Nat × Nat)
  /-- By signature, one more than the LOG_TIME of the last CORRECTED record (R352). -/
  corrAt : SMap Nat
  /-- By signature, corrections folded since (R352). -/
  corrN : SMap Nat
  /-- Notices waiting for their first send, then those unacknowledged, oldest first (R360). -/
  fresh : List Notice
  unacked : List Notice
  /-- Sequence of the next notice. -/
  noticeSeq : Nat
  /-- AON_TICK at which INTEG_LOG_TIME last held (R352). -/
  logTick : Nat
  /-- Records that the collector has laid out and the processor has not yet written to the logbook, oldest first (R349, R357). -/
  toBook : List (List Nat)
  /-- AON_TICK of the last HEARTBEAT record (R351). -/
  heartAt : Nat
  deriving DecidableEq, Repr

/-- Power, temperature and clocks beyond the registers. -/
structure Power where
  /-- AON_TICK (R110). -/
  aon : Nat
  /-- Cycles of the switch dies' core clock since the last reset of all engines; it stands in P2 and P3 (R110, R243). -/
  clk : Nat
  /-- Last junction or die temperature by die, 16-bit two's complement, 0.01 °C (R415, R347). -/
  dieTemp : SMap Nat
  /-- Temperature band by place: die, or 16 + optical engine (R347). -/
  bands : SMap Nat
  /-- Voltage that a switch die's rail is asked for, mV (R414). -/
  request : SMap Nat
  /-- RAIL_EN is driven high; THERMTRIP_N is asserted (R411, R416). -/
  railEn : Bool
  tripped : Bool
  /-- Rank of the reset that runs: 0 none, 2 transit-preserving, 3 warm, 4 cold, 5 power-on (R425). -/
  level : Nat
  /-- A cold or warm reset waits for its 1 µs of QUARANTINED (R426). -/
  hold : Bool
  /-- VAUX is present (R410, R416). -/
  vaux : Bool
  /-- The processor has been released by PWR_GOOD and has not begun to boot (R411). -/
  released : Bool
  /-- Dies still to start, in order: 0 to 7 switch dies, 8 and 9 memory-side dies, 16 + n optical engines (R412). -/
  stagger : List Nat
  /-- A wake runs (R423); an entry to P3 has latched its pads and completes though a source asserted (R421). -/
  waking : Bool
  latched : Bool
  /-- A record of the last thermal trip or brown-out is still to be written (R416, R418). -/
  tellTrip : Bool
  tellBrown : Bool
  /-- Core cycles: the earliest of the next step of the staggered start (R412), that at which the hold of R426 began, that at which the
  first source of the last wake asserted (R423), and by die the earliest of the next lower request to its regulator (R414). -/
  stepAt : Nat
  holdAt : Nat
  wakeAt : Nat
  lowerAt : SMap Nat
  deriving DecidableEq, Repr

/-- A completion that waits for its slot of the queue (R372): tag, opcode, status, the two words of RESULT, and whether its
command had IRQ set. -/
structure Cpl where
  tag : Nat
  op : Nat
  status : Nat
  w2 : Nat
  w3 : Nat
  irq : Bool
  deriving DecidableEq, Repr

/-- A command entry fetched and not finished (R371): its sixteen words. -/
structure Cmd where
  words : List Nat
  deriving DecidableEq, Repr

/-- A long operation that holds a slot (R373, R377, R378). -/
structure LongOp where
  /-- Its entry (R371). -/
  cmd : Cmd
  /-- It has passed the checks that its own chapter makes and works. -/
  begun : Bool
  /-- It has passed its commit point. -/
  committed : Bool
  /-- It has finished, and its completion is to be queued; its status and RESULT. -/
  ended : Bool
  status : Nat
  w2 : Nat
  w3 : Nat
  /-- A SUSPEND waits for its next suspend point; it is suspended. -/
  asked : Bool
  paused : Bool
  /-- How far it is: bytes read or written, engines or tables left, as its row says. -/
  pos : Nat
  todo : Nat
  /-- What it must undo or still do: (lane, state before) of a TEST_STRIP, (key, 1 for a DELETE) of a HOLD_LOAD. -/
  items : List (Nat × Nat)
  /-- An object read from host memory (FW_UPDATE). -/
  data : Bytes
  deriving DecidableEq, Repr

/-- The active set of a DMA channel's ring and completion-queue settings (R387). -/
structure DmaSet where
  ring : Nat
  cpl : Nat
  cfg : Word
  deriving DecidableEq, Repr

/-- A descriptor in execution (R381): its index, addresses, LENGTH and word 5, the bytes written so far, and whether its data is
through, with the status it then has. -/
structure DmaRun where
  idx : Nat
  src : Nat
  dst : Nat
  len : Nat
  word5 : Nat
  written : Nat
  through : Bool
  status : Nat
  deriving DecidableEq, Repr

/-- A DMA channel beyond its registers. -/
structure DmaCh where
  /-- Settings in force. -/
  act : DmaSet
  /-- Descriptor in execution. -/
  run : Option DmaRun
  /-- It met a descriptor it does not own, and waits for the next write to TAIL (R381). -/
  parked : Bool
  /-- Completion records written and not released (R384). -/
  used : Nat
  /-- PHASE of the next record (R372). -/
  phase : Bool
  deriving DecidableEq, Repr

/-- The host interface beyond its registers. -/
structure HostIf where
  /-- Completion entries written and not released, oldest first: whether the command had IRQ set (R375). -/
  cplOut : List Bool
  /-- PHASE of the next entry (R372). -/
  cplPhase : Bool
  /-- Completions that wait to be written, oldest first. -/
  waiting : List Cpl
  /-- Short commands fetched and not finished, oldest first (R373). -/
  fetched : List Cmd
  /-- Long operations that hold a slot, at most 32 (R373). -/
  ops : List LongOp
  /-- Tags of the last 64 completed long operations, newest first (R378). -/
  done : List Nat
  /-- DMA channels (R380). -/
  dma : SMap DmaCh
  /-- Channel whose turn of the DMA engine it is, and the bytes it has moved in it (R386). -/
  dmaTurn : Nat
  dmaHeld : Nat
  /-- Contact-sheet records captured so far, lost ones included (R209). -/
  csSeq : Nat
  /-- PERST_N is asserted; it was asserted while in P3 (R423). -/
  perst : Bool
  perstP3 : Bool
  deriving DecidableEq, Repr

/-- A copy of the slot selector (R392): active slot (false A), previous slot, the active slot's state, the write count,
whether its CRC holds, and whether the ROM has booted the slot while TRIAL (R395). -/
structure Selector where
  active : Bool
  prev : Bool
  confirmed : Bool
  count : Nat
  valid : Bool
  tried : Bool
  deriving DecidableEq, Repr

/-- What the manufacturing record holds (R392, R397, R398): the region's bytes, whether it verifies, the serial number, the hash
of the identity public key, the identity certificate, the sample flag. -/
structure Manuf where
  raw : Bytes
  good : Bool
  serial : Bytes
  pubHash : Bytes
  cert : Bytes
  sample : Bool
  deriving DecidableEq, Repr

/-- The regions of the SPI NOR flash (Table 15.1) but the logbook. -/
structure Flash where
  selA : Selector
  selB : Selector
  manuf : Manuf
  /-- Ownership and configuration records, empty where none is written. -/
  owner : Bytes
  config : Bytes
  slotA : Bytes
  slotB : Bytes
  deriving DecidableEq, Repr

/-- A management request in the queue (R403, R404): who sent it, and its bytes. -/
structure MgmtReq where
  addr : Nat
  port : Nat
  raw : Bytes
  deriving DecidableEq, Repr

/-- The management processor and its ports beyond their registers. -/
structure Mgmt where
  flash : Flash
  /-- The session key, the words of it written so far as a mask (R405). -/
  key : Bytes
  keyGot : Nat
  /-- Identity public key and the seed it came from; empty before IDENTITY_OK (R398). -/
  pub : Bytes
  seed : Bytes
  /-- Regeneration of the identity failed at this start (R398). -/
  idFailed : Bool
  /-- Ownership and configuration records in force (R397), empty where none. -/
  ownRec : Bytes
  cfgRec : Bytes
  /-- Image that runs: its SEC_VERSION; it booted by fallback or recovery (Table 15.5). -/
  secVersion : Nat
  fellBack : Bool
  /-- Attestation reports since power-on (Table 15.5). -/
  reports : Nat
  /-- Highest request sequence accepted plus one, and those accepted within the window (R404). -/
  high : Nat
  seen : List Nat
  /-- Requests waiting, oldest first, at most 256. -/
  reqs : List MgmtReq
  /-- Wake count last used plus one (R405); the device tag the wake path and the I3C target compare and return, as last known. -/
  wakeCount : Nat
  aonTag : Bytes
  /-- A restart follows an activating update, and the AON_TICK of it, 100 ms after the completion is written (R401). -/
  activate : Bool
  activateAt : Nat
  /-- The watchdog restarted the processor, which boots again from this slot, false A (R391). -/
  rerun : Option Bool
  /-- I3C: maximum write and read lengths, reset action (R407). -/
  mwl : Nat
  mrl : Nat
  rstact : Nat
  deriving DecidableEq, Repr

/-- A register a slot names: x, v, w or p (R218). -/
inductive Dst where
  | x (n : Nat)
  | v (n : Nat)
  | w (n : Nat)
  | p (n : Nat)
  deriving DecidableEq, Repr

/-- A register write on its way (R230, R231): due at a count of issued braids, or at an engine cycle; the slot it came
from; the register bits it writes, and their value. -/
structure PendW where
  byCycle : Bool
  due : Nat
  slot : Nat
  dst : Dst
  mask : Nat
  val : Nat
  deriving DecidableEq, Repr

/-- A state SRAM store of an M slot on its way (Table 9.6): braid count at which loads see it, slot, bytes by address. -/
structure PendS where
  due : Nat
  slot : Nat
  cells : List (Nat × Byte)
  deriving DecidableEq, Repr

/-- What a program of an engine reads and writes (R218): registers, state SRAM, packet staging, the anchor in force, the
residue accumulator and the A-unit flags, and the writes on their way. `braid` and `cycle` are the count of braids and the engine cycle up to which the writes on their way have landed. -/
structure Core where
  x : SMap Nat
  v : SMap Nat
  w : SMap Nat
  p : SMap Nat
  sram : SMap Byte
  stage : SMap Byte
  anchor : Int
  res : Nat
  flags : Nat
  pend : List PendW
  stores : List PendS
  braid : Nat
  cycle : Nat
  deriving DecidableEq, Repr

/-- A register or state SRAM line whose interlocked result is not ready before an engine cycle (R231), and whether the S
unit makes it. -/
structure Busy where
  reg : Option Dst
  line : Nat
  at_ : Nat
  sUnit : Bool
  deriving DecidableEq, Repr

/-- A frame in an engine's receive area (R225): first cell and cells, bytes, the frame as received with its ingress, its
knot and member index, and whether it is retained (R256). -/
structure RxFrame where
  cell : Nat
  cells : Nat
  hdr : Header
  payload : Bytes
  inDie : Nat
  inPort : Nat
  tc : Nat
  member : Nat
  retained : Bool
  deriving DecidableEq, Repr

/-- A dispatch (R220, R221): kind 0 FRAME, 1 TIMER, 2 CONTROL; knot and generation; the cell of its frame; member index;
its header and traffic class; operation and argument; the cells of retained frames acquired; its number. -/
structure Dispatch where
  kind : Nat
  knot : Nat
  gen : Nat
  cell : Nat
  member : Nat
  hdr : Header
  tc : Nat
  acq : List Nat
  serial : Nat
  deriving DecidableEq, Repr

/-- A tagged braid in flight (R246): address, braids issued before it, inside a dispatch with its knot, cycle and fabric
time at F, entry times of D to W known so far, slots in use, stall causes, M0 and M1 lines. -/
structure Tagged where
  addr : Nat
  before : Nat
  knot : Nat
  cycle : Nat
  fab : Nat
  entered : List Nat
  f0 : Nat
  slots : Nat
  causes : Nat
  m0 : Option Nat
  m1 : Option Nat
  deriving DecidableEq, Repr

/-- One contribution copied to a check input queue (R344): payload, first element or lane, anchor, window frame. -/
structure XchkIn where
  payload : Bytes
  first : Nat
  anchor : Int
  window : Bool
  deriving DecidableEq, Repr

/-- A result frame of a sampled segment (R345): payload, first element or lane, window frame, and the number under which
it is held where the home is band-suspect. -/
structure XchkOut where
  payload : Bytes
  first : Nat
  window : Bool
  deriving DecidableEq, Repr

/-- A cross-check sample held by its partner engine (R344): home engine, knot, generation, SEG, the check window by lane,
how many lanes the segment has, the queue with its cells, the results sent, the record's CSUM once sealed with PASSED, the
fabric time of the seal, and the anchor of the last addition. -/
structure Xchk where
  home : Nat
  knot : Nat
  gen : Nat
  seg : Nat
  lanes : SMap Int
  extent : Nat
  queue : List XchkIn
  outs : List XchkOut
  csum : Option Nat
  sealAt : Nat
  anchor : Int
  deriving DecidableEq, Repr

/-- A splice engine beyond its registers. -/
structure Engine where
  core : Core
  /-- Core at the start of the last braids, the braid in progress first (R229, R239). -/
  hist : List Core
  /-- Instruction memory, by byte. -/
  imem : SMap Byte
  /-- Braid address, slot next to execute, and whether the braid has issued. -/
  pc : Nat
  slot : Nat
  issued : Bool
  /-- Braids issued in the dispatch (R238). -/
  count : Nat
  /-- Taken branch: target and delay braids left (R230). -/
  branch : Option (Nat × Nat)
  /-- END has executed (R275). -/
  ended : Bool
  /-- Engine cycle, counted from the start of the dispatch; the cycles at which the A, S and P units are free, and at
  which every A and S result is ready. -/
  lc : Nat
  aFree : Nat
  sFree : Nat
  pFree : Nat
  aDone : Nat
  sDone : Nat
  /-- Interlocked results not ready (R231). -/
  busy : List Busy
  /-- A-unit flags set and residue added by the braid in progress (R266). -/
  newFlags : Nat
  newRes : Nat
  /-- Issue cycles of the last braids and the stall causes they met, newest first (R246). -/
  issues : List (Nat × Nat)
  /-- Stall causes that the braid waiting to issue has met (Table 9.13). -/
  met : Nat
  /-- Current dispatch. -/
  disp : Option Dispatch
  /-- Number of the next dispatch. -/
  serial : Nat
  /-- CONTROL queue: knot, operation, generation; TIMER queue: knots; FRAME queue: first cells (R220). -/
  control : List (Nat × Nat × Nat)
  timer : List Nat
  frameQ : List Nat
  /-- Frames the engine slot has to deliver, oldest first (R225). -/
  rxWait : List Nat
  /-- Frames in the receive area. -/
  rx : List RxFrame
  /-- Job tag of the last dispatch, one more than it; 0 before the first (R221). -/
  lastJob : Nat
  /-- Status of the last completed Hold operation (R271). -/
  holdLast : Nat
  /-- Generator of braid tagging, 0 where freshly seeded; the braid in flight; record sequence (R246). -/
  tagGen : Nat
  tagged : Option Tagged
  tagSeq : Nat
  /-- Core cycle at which ENGINE_CYCLE was 0 (R243). -/
  base : Nat
  /-- A cross-check sample for which this engine is the partner (R344). -/
  xchk : Option Xchk
  /-- Segments sampled and given up: knot, generation, SEG (R345). -/
  xdone : List (Nat × Nat × Nat)
  /-- Result frames held until their cross-check agrees: knot, SEG, frame number (Table 13.11). -/
  heldRes : List (Nat × Nat × Nat)
  /-- A wake is on its way: the engine is gated and something arrived (R242). -/
  waking : Bool
  /-- Core cycle at which it last had no dispatch pending (R241). -/
  idleAt : Nat
  /-- Slices of the random-operand self-test in the last 1 s: first core cycle and cycles, newest first (R346). -/
  slices : List (Nat × Nat)
  deriving DecidableEq, Repr

/-- Who waits for a flush (R285, R288, R291): a knot interface by its die, or an in-band request by the traffic class of its
frame; whether it asked for an ADVANCE, and whether it is answered. -/
structure FlushWait where
  inband : Bool
  at_ : Nat
  advance : Bool
  answer : Bool
  deriving DecidableEq, Repr

/-- A flush in progress (R285): markers in, by sending die; the state to return to on a CANCEL; who waits. -/
structure Flush where
  markers : Nat
  prev : Nat
  waits : List FlushWait
  deriving DecidableEq, Repr

/-- A knot (R280, R281). -/
structure Knot where
  /-- State of Table 11.3. -/
  state : Nat
  /-- Generation of the last load (R284). -/
  gen : Nat
  /-- The 64 words of Table 11.1, empty for a knot never loaded. -/
  words : List Word
  /-- Results are blocked (R452). -/
  blocked : Bool
  /-- The knot's timer: fabric time with wraps at which it expires (R275). -/
  timer : Option Nat
  /-- Traffic class of the last frame admitted (Table 11.13). -/
  lastTc : Nat
  /-- Members missed by a broadcast, as a mask (R306); a status is due, with its traffic class and word 5 of the frame. -/
  missed : Nat
  bcast : Option (Nat × Nat)
  /-- The flush in progress (R285). -/
  flush : Option Flush
  deriving DecidableEq, Repr

/-- Kind of a row operation (R326). -/
inductive HoldKind where
  | get | getLock | put | putUnlock | unlock
  deriving DecidableEq, Repr

/-- A Hold operation of an engine, issued and not completed (R257): engine, dispatch, knot, kind, key, bytes, transmit
offset, the bytes to write, a transactional dispatch, and the status found when it was accepted. -/
structure HoldOp where
  engine : Nat
  serial : Nat
  knot : Nat
  kind : HoldKind
  key : Nat
  len : Nat
  tx : Nat
  data : Bytes
  txn : Bool
  /-- It waits for a lock, and counted as a lock wait (R327). -/
  waited : Bool
  /-- The lock it asks for was granted to it. -/
  granted : Bool
  /-- Its place among all that wait for locks: 0 for one that has never waited (R327). -/
  ticket : Nat := 0
  deriving DecidableEq, Repr

/-- A row lock (R327): key, engine and dispatch that own it. -/
structure RowLock where
  key : Nat
  engine : Nat
  serial : Nat
  deriving DecidableEq, Repr

/-- A write staged by a transactional scatter (R330): engine and dispatch, key, bytes. -/
structure Staged where
  engine : Nat
  serial : Nat
  key : Nat
  data : Bytes
  deriving DecidableEq, Repr

/-- A scatter dispatch whose outcome is still to be reported or committed (R329, R330): engine, dispatch, knot and its
generation, requester, header word 3, traffic class, response wanted, transactional, first failing status, ended, and
committed. -/
structure Scatter where
  engine : Nat
  serial : Nat
  knot : Nat
  gen : Nat
  dest : Nat
  word3 : Nat
  tc : Nat
  wants : Bool
  txn : Bool
  bad : Nat
  ended : Bool
  settled : Bool
  deriving DecidableEq, Repr

/-- A gather request in service (R323, R325): knot, its frame's header and keys, next position. -/
structure Gather where
  hdr : Header
  knot : Nat
  keys : List Nat
  pos : Nat
  /-- Its next response waits for the lock of `key`, behind those with a lower ticket (R327). -/
  waited : Bool
  key : Nat := 0
  ticket : Nat := 0
  deriving DecidableEq, Repr

/-- The Parameter Hold beyond its registers. -/
structure HoldMem where
  /-- Data memory by device-internal address (R315). -/
  mem : SMap Byte
  /-- Lines that hold an uncorrectable error, by device-internal address / 128, and those of them whose address check fails
(R314, R316). -/
  bad : List Nat
  badAddr : List Nat
  /-- Those of the lines that a read or the patrol has met (Table 12.18). -/
  known : List Nat
  /-- Allocated rows of die × 16 + shape (R317). -/
  rows : SMap (List Nat)
  /-- Row locks (R327). -/
  locks : List RowLock
  /-- Operations of engines not completed, oldest first (R326). -/
  ops : List HoldOp
  /-- The last place given to one that waits for a lock (R327). -/
  ticket : Nat
  /-- Writes staged by transactional scatters (R330). -/
  staged : List Staged
  /-- Scatters not yet told or committed, oldest first (R329). -/
  scatters : List Scatter
  /-- Gather requests in service by switch die (R325). -/
  gathers : SMap (List Gather)
  /-- Bucket cache of each memory-side die, most recently used first (R319). -/
  cache : SMap (List Nat)
  /-- ECC log records waiting, by die, oldest first, at most 16 (Table 12.20). -/
  elog : SMap (List Nat)
  /-- Patrol: next line by die (R316). -/
  patrol : SMap Nat
  /-- Memory-side dies out of service by failure or retirement, as a mask (R335). -/
  lost : Nat
  /-- Memory links that are down, as a mask by switch die × 2 + memory-side die - 8 (R321). -/
  linkDown : Nat
  deriving DecidableEq, Repr

/-- What crosses the package boundary, newest first in State.out: the model's own record of what the device does to
the outside, and of the data its reads return. -/
inductive Out where
  /-- A frame leaves on a port. -/
  | frame (die port : Nat) (f : Frame)
  /-- A frame leaves in a lanyard burst on a lane's colour. -/
  | burst (die port lane colour : Nat) (fs : List Frame)
  /-- Report blocks leave in a discovery burst (R126). -/
  | report (die port lane colour : Nat) (b : Bytes)
  /-- A control word leaves on a lane: type and body. -/
  | control (die lane typ body : Nat)
  /-- A codeword leaves on a lane: its 544 symbols (R35). -/
  | codeword (die lane : Nat) (symbols : List Nat)
  /-- FRAME_ABORT leaves on a port: sequence and reason. -/
  | abort (die port seq reason : Nat)
  /-- A CREDIT_SYNC word to a peer die: its off mask (R21). -/
  | credit (die peer mask : Nat)
  /-- A read returns these bytes, or this register word. -/
  | readWord (w : Nat)
  | readBytes (b : Bytes)
  /-- An MSI-X message: address and data (R368). -/
  | msix (addr data : Nat)
  /-- A UDP datagram to a destination address and port (R359, R402). -/
  | datagram (addr port : Nat) (b : Bytes)
  /-- A reply of the management port to ARP, neighbour discovery or echo: protocol (0 ARP, 1 neighbour discovery, 2 ICMP echo),
  the asker's address, the bytes returned (R402). -/
  | netReply (kind addr : Nat) (b : Bytes)
  /-- Bytes on the I3C bus, and an in-band interrupt with its data byte (R407, R408). -/
  | i3c (b : Bytes)
  | ibi (b : Nat)
  /-- A pin or an output edge, by name. -/
  | pin (name : String) (high : Bool)
  deriving DecidableEq, Repr

/-- The state of the device. -/
structure State where
  /-- BAR0 registers by address, where they differ from their reset values (R5, R430). -/
  regs : SMap Word
  /-- Held low halves of writable pairs and captured high halves, by address: one more than the value (R9). -/
  heldLow : SMap Nat
  capHigh : SMap Nat
  /-- Core cycles of 0.625 ns since power-on (R27). -/
  cycle : Nat
  /-- The time unit. -/
  time : TimeUnit
  /-- Frames the device holds, by number, and the next number. -/
  frames : SMap (Option FrameRec)
  nextFrame : Nat
  /-- Die links by sending die × 8 + receiving die. -/
  links : SMap Link
  /-- Ports by die × 130 + port. -/
  ports : SMap Port
  /-- Lanes by die × 144 + lane. -/
  lanes : SMap Lane
  /-- Lanyard ports by die × 2 + port - 128. -/
  lany : SMap Lany
  /-- Switch dies. -/
  dies : SMap Die
  /-- Forwarding tables. -/
  tabs : Tables
  /-- The integrity collector and the logbook. -/
  integ : Integ
  /-- Power and temperatures. -/
  pwr : Power
  /-- Host memory reached over PCIe, by byte address. -/
  hostMem : List Host.Cell
  /-- The host interface. -/
  host : HostIf
  /-- The management processor. -/
  mgmt : Mgmt
  /-- Splice engines by die × 16 + engine. -/
  engines : SMap Engine
  /-- Knots by ID. -/
  knots : SMap Knot
  /-- The Parameter Hold. -/
  hold : HoldMem
  /-- What crossed the package boundary, newest first. The model's own. -/
  out : List Out
  /-- Free values drawn so far. The model's own. -/
  free : Nat
  /-- Commands waiting, first in first out. -/
  pending : List Instr
  deriving DecidableEq, Repr

/-- An empty header. -/
def Header.zero : Header := ⟨0, 0, 0, 0, 0, 0, 0, 0⟩

/-- An empty frame. -/
def Frame.zero : Frame := ⟨Header.zero, [], 0⟩

/-- A frame record with nothing decided yet. -/
def FrameRec.init : FrameRec :=
  { frame := Frame.zero, inDie := 0, inPort := 255, origin := .port, tc := 0, cls := 0, colour := 3, lossless := false,
    stage := 0, lossyStage := false, whole := false, bad := false, outDie := 0, outPort := 255, portSet := 4096,
    looked := false, epoch := 0, sprayed := false, mcast := false, cut := false, region := .none, cells := 0, arrived := false, marked := false,
    remarked := false, service := 0, outQ := 0, member := 65535, peer := 255, engine := 255, txCell := 0,
    txCells := 0, serial := 0, sent := false, pipe := 0, first := [], await := false, reason := 0, via := 255, late := false, wasHeld := false,
    parent := 0, copies := 0, trains := 0, landed := 0 }

/-- A die link at reset: down, nothing on it. -/
def Link.init : Link := ⟨[], [], [], 0, false⟩

/-- A port at reset. -/
def Port.init : Port :=
  { rxStream := [], rxHdr := none, rxAsm := [], rxBad := false, rxSkip := 0, rxLost := false, txIdx := 0, rxOpen := none,
    hunt := false, mirRx := 0, mirTx := 0, mirDrop := 0, stageTc := [], lossyTc := [], queues := [], held := [],
    timed := [], tx := none, cutWait := [], txStream := [], deficit := [], turn := [], rr := [], credit := [], creditAt := [], waited := [],
    minUsed := 0, shUsed := [], farCond := none, laneSetRx := none, laneSetTx := none, rxAdmit := 0, pausedAt := [],
    slew := false, pastHold := false, overdue := [] }

/-- A policer bucket pair not filled yet. -/
def Bucket.init : Bucket := ⟨0, 0, 0⟩

/-- A lane at reset. -/
def Lane.init : Lane :=
  { txq := [], txRows := [], txScr := 0, rxScr := 0, txSent := 0, gap := 0, setLeft := 0, prbsOn := false, prbs := 0,
    rxBlocks := [], rxIdx := 0, rxRows := [], noCw := 0, recent := [], quiet := 0, marker := none,
    step := 0, attempt := 0, rejRun := 0, rejCode := 0, seekTx := false, seekRx := false, 
    gotReady := false, farPrbs := false, phasePts := [], thrPts := [], edges := [], light := false, window := false,
    tries := 0, reseekFails := [], reseek := false, stored := none, txHeat := 0, rxHeat := 0, farMargin := 0,
    farRejected := false, farAttempt := 0, reseeked := false }

/-- The time unit after power-on (R105, R110). -/
def TimeUnit.init : TimeUnit :=
  { fab := 0, f := 0, integ := 0, count := 0, good := 0, discards := 0, hist := [], seq := 0, exch := [],
    master := none, lost := false, ppsLoad := false, ppsExpect := none, refUp := false, savedFab := 0, savedTick := 0,
    silent := [], holdAt := 0, ppsOutAt := 0, tenAdj := 0 }

/-- The tables after a cold reset: every entry invalid (R169). -/
def Tables.init : Tables :=
  { slot0 := [], slot1 := [], journal := [], owner := 0, copying := false, transit := false, flipAt := 0, marks := [],
    learn := [], checked := [], rng := 1, stale := [], plog := [], plost := [], abortStatus := 1, seedLocked := false }

/-- A switch die at reset. -/
def Die.init : Die :=
  { backlog := [], origWait := [], admitQ := [], waitQ := [], spray := [], sharedUsed := 0, engineUsed := 0,
    holdUsed := 0, xfers := [], noPath := [], grant := [], accept := [], depths := [], buckets := [], mirCopy := 0,
    csBuf := [], expo := ⟨none, none⟩, control := [], knotIn := [], holdIn := [] }

/-- A lanyard port at reset. -/
def Lany.init : Lany :=
  { queues := [], slot := 0, checked := 0, xoff := [], txOff := [], failed := [], reseek := [], removed := 0,
    strip := false, heard := [], found := 0, reports := [], held := false,
    weak := 0, old := none }

/-- A unit in good health (Table 13.10). -/
def UnitHealth.init : UnitHealth := ⟨0, 0, 0, [], []⟩

/-- The integrity collector with an empty logbook. -/
def Integ.init : Integ :=
  { queue := [], seq := 0, book := [], written := 0, units := [], retired := [], corrAt := [], corrN := [],
    fresh := [], unacked := [], noticeSeq := 0, logTick := 0, toBook := [], heartAt := 0 }

/-- The host interface at reset. -/
def HostIf.init : HostIf :=
  { cplOut := [], cplPhase := true, waiting := [], fetched := [], ops := [], done := [], dma := [], dmaTurn := 0, dmaHeld := 0, csSeq := 0,
    perst := false, perstP3 := false }

/-- A DMA channel at reset. -/
def DmaCh.init : DmaCh := { act := ⟨0, 0, 0x808#32⟩, run := none, parked := false, used := 0, phase := true }

/-- Flash with nothing written to it: the spec gives no contents (log entry 5). -/
def Flash.init : Flash :=
  { selA := ⟨false, true, true, 0, true, false⟩, selB := ⟨false, true, true, 0, false, false⟩,
    manuf := ⟨[], false, [], [], [], false⟩, owner := [], config := [], slotA := [], slotB := [] }

/-- The management processor at power-on. -/
def Mgmt.init : Mgmt :=
  { flash := Flash.init, key := List.replicate 32 0, keyGot := 0, pub := [], seed := [], idFailed := false, ownRec := [], cfgRec := [],
    secVersion := 0, fellBack := false, reports := 0, high := 0, seen := [], reqs := [], wakeCount := 0, aonTag := List.replicate 4 0,
    activate := false, activateAt := 0, rerun := none, mwl := 8, mrl := 16, rstact := 0 }

/-- Registers and memories all zero. -/
def Core.init : Core :=
  { x := [], v := [], w := [], p := [], sram := [], stage := [], anchor := 0, res := 0, flags := 0, pend := [],
    stores := [], braid := 0, cycle := 0 }

/-- An engine at reset. -/
def Engine.init : Engine :=
  { core := Core.init, hist := [], imem := [], pc := 0, slot := 0, issued := false, count := 0, branch := none,
    ended := false, lc := 0, aFree := 0, sFree := 0, pFree := 0, aDone := 0, sDone := 0, busy := [], newFlags := 0, newRes := 0, issues := [], met := 0,
    disp := none, serial := 0, control := [], timer := [], frameQ := [], rxWait := [], rx := [], lastJob := 0,
    holdLast := 0, tagGen := 0, tagged := none, tagSeq := 0, base := 0, xchk := none, xdone := [], heldRes := [],
    waking := false, idleAt := 0, slices := [] }

/-- A FREE knot never loaded (R280). -/
def Knot.init : Knot :=
  { state := 0, gen := 0, words := [], blocked := false, timer := none, lastTc := 0, missed := 0, bcast := none,
    flush := none }

/-- The Hold at reset: empty (R336). -/
def HoldMem.init : HoldMem :=
  { mem := [], bad := [], badAddr := [], known := [], rows := [], locks := [], ops := [], ticket := 0, staged := [], scatters := [], gathers := [],
    cache := [], elog := [], patrol := [], lost := 0,
    linkDown := 0 }

/-- Power at reset. -/
def Power.init : Power :=
  { aon := 0, clk := 0, dieTemp := [], bands := [], request := [], railEn := true, tripped := false, level := 5,
    hold := false, vaux := true, released := false, stagger := [], waking := false, latched := false,
    tellTrip := false, tellBrown := false, stepAt := 0, holdAt := 0, wakeAt := 0, lowerAt := [] }

/-- The device right after power-on: every register at its reset value, every memory and queue empty. -/
def State.reset : State :=
  { regs := [], heldLow := [], capHigh := [], cycle := 0, time := TimeUnit.init, frames := [], nextFrame := 0,
    links := [], ports := [], lanes := [], lany := [], dies := [], tabs := Tables.init,
    integ := Integ.init, pwr := Power.init, hostMem := [], host := HostIf.init, mgmt := Mgmt.init, engines := [], knots := [], hold := HoldMem.init,
    out := [], free := 0, pending := [] }

end Sys2Proof.Machine
end

