-- ==== Sys2Proof/Config.lean ====
section
/-! DEFINITION. What the spec leaves open: free values, of which nothing is known but their type. -/

namespace Sys2Proof

/-- The n-th free value of w bits. Nothing constrains it: the spec gives the value no rule (log entry 2). -/
opaque Config.freeValue (w : Nat) : Nat → BitVec w

/-- SLH-DSA-SHA2-128s verification (FIPS 205) of a signature over a message under a public key (log entry 4). -/
opaque Config.slhVerify (key msg sig : List (BitVec 8)) : Bool

/-- SLH-DSA-SHA2-128s signature (FIPS 205) of a message under the device's identity key (log entry 4). -/
opaque Config.slhSign (seed msg : List (BitVec 8)) : List (BitVec 8)

/-- The Ulirak root public key of production parts, whose hash is in mask ROM, and the engineering root of samples (R1, R394,
R397). The spec gives neither value (log entry 4). -/
opaque Config.rootKey : List (BitVec 8)
opaque Config.engineeringRoot : List (BitVec 8)

/-- Identity public key derived from an identity seed by HKDF-SHA-256 and SLH-DSA key generation (R398); the spec gives no salt
or context (log entry 4). -/
opaque Config.identityKey (seed : List (BitVec 8)) : List (BitVec 8)

/-- Bytes of a slot selector copy: active slot, previous slot, state, write count (R392). The spec names its contents and gives
no layout (log entry 5). -/
opaque Config.selectorBytes (active prev confirmed : Bool) (count : Nat) : List (BitVec 8)

/-- Sign of the NaN S.1111.111 that a conversion or rounding writes; the spec leaves S open (log entry 2). -/
opaque Config.nanSign : Bool

/-- Whether a lane finds its codeword boundary and the checks of a link partner outside the device hold: the n-th
draw (log entry 2). -/
opaque Config.freeBool : Nat → Bool

/-- What ARND gives a NATIVE knot for an output format that the conversions of R262 do not accept (MX and INT64): destination
bits and scale bytes by format and window (R299; log entry 47). -/
opaque Config.nativeOther (fmt win : Nat) : Nat × Nat

end Sys2Proof
end

