-- ==== Sys2Proof/Machine/Float.lean ====
section
/-! DEFINITION. Floating-point values of the element formats (R59) and their correctly rounded arithmetic (R261, R262): exact
dyadic numbers, rounded once to nearest with ties to even. -/

namespace Sys2Proof.Machine

/-- What a format does beyond its finite values: infinities and NaN as IEEE 754, NaN alone (E4M3), or neither. -/
inductive FKind where
  | ieee | nanOnly | finite
  deriving DecidableEq, Repr

/-- A floating-point format: exponent bits, mantissa bits, bias. -/
structure FFmt where
  eb : Nat
  mb : Nat
  bias : Nat
  kind : FKind
  deriving DecidableEq, Repr

def fp32 : FFmt := ⟨8, 23, 127, .ieee⟩
def bf16 : FFmt := ⟨8, 7, 127, .ieee⟩
def fp16 : FFmt := ⟨5, 10, 15, .ieee⟩
def e4m3 : FFmt := ⟨4, 3, 7, .nanOnly⟩
def e5m2 : FFmt := ⟨5, 2, 15, .ieee⟩
def e3m2 : FFmt := ⟨3, 2, 3, .finite⟩
def e2m1 : FFmt := ⟨2, 1, 1, .finite⟩

/-- Bits of a format. -/
def FFmt.bits (f : FFmt) : Nat := 1 + f.eb + f.mb

/-- A value: NaN, an infinity, or ±m × 2^e; a zero keeps its sign. -/
inductive FVal where
  | nan
  | inf (neg : Bool)
  | fin (neg : Bool) (m : Nat) (e : Int)
  deriving DecidableEq, Repr

/-- The value that bits of a format stand for. -/
def FFmt.decode (f : FFmt) (b : Nat) : FVal :=
  let neg := b.testBit (f.eb + f.mb)
  let e := b / 2 ^ f.mb % 2 ^ f.eb
  let m := b % 2 ^ f.mb
  let top := 2 ^ f.eb - 1
  if f.kind = .ieee ∧ e = top then (if m = 0 then .inf neg else .nan)
  else if f.kind = .nanOnly ∧ e = top ∧ m = 2 ^ f.mb - 1 then .nan
  else if e = 0 then .fin neg m (1 - (f.bias : Int) - f.mb)
  else .fin neg (2 ^ f.mb + m) ((e : Int) - f.bias - f.mb)

/-- Round m × 2^-k to nearest, ties to even; `sticky` says that a little more than m is meant. -/
def rneShift (m k : Nat) (sticky : Bool) : Nat :=
  match k with
  | 0 => m
  | j + 1 =>
    let n := m / 2 ^ (j + 1)
    let r := m % 2 ^ (j + 1)
    if 2 ^ j < r ∨ (r = 2 ^ j ∧ (sticky ∨ n % 2 = 1)) then n + 1 else n

/-- Sign bit of a format. -/
def FFmt.sign (f : FFmt) (neg : Bool) : Nat := if neg then 2 ^ (f.eb + f.mb) else 0

/-- Largest finite magnitude as bits without the sign. -/
def FFmt.largest (f : FFmt) : Nat :=
  match f.kind with
  | .ieee => (2 ^ f.eb - 1) * 2 ^ f.mb - 1
  | .nanOnly => 2 ^ (f.eb + f.mb) - 2
  | .finite => 2 ^ (f.eb + f.mb) - 1

/-- Magnitude bits of m × 2^e (a little more where sticky) rounded to the format; none where that is beyond the largest finite
value. -/
def FFmt.magnitude (f : FFmt) (m : Nat) (e : Int) (sticky : Bool) : Option Nat :=
  if m = 0 then some 0
  else
    let q := max ((m.log2 : Int) + e - f.mb) (1 - (f.bias : Int) - f.mb)
    let n := if e ≤ q then rneShift m (q - e).toNat sticky else m * 2 ^ (e - q).toNat
    -- n is below 2^(mb+1), or equal to it after a carry; its exponent field is q + bias + mb, or 0 for a subnormal
    let field := (q + f.bias + f.mb).toNat
    let b := if n < 2 ^ f.mb then n else (field - 1) * 2 ^ f.mb + n
    if b ≤ f.largest then some b else none

/-- The canonical quiet NaN of an IEEE-like format (log entry 12), or S.1111.111 of E4M3. -/
def FFmt.quietNan (f : FFmt) : Nat :=
  match f.kind with
  | .ieee => (2 ^ f.eb - 1) * 2 ^ f.mb + 2 ^ (f.mb - 1)
  | .nanOnly => (if Config.nanSign then 2 ^ (f.eb + f.mb) else 0) + (2 ^ (f.eb + f.mb) - 1)
  | .finite => 0

/-- Infinity of an IEEE-like format; the largest finite value elsewhere. -/
def FFmt.infBits (f : FFmt) (neg : Bool) : Nat :=
  f.sign neg + (match f.kind with
    | .ieee => (2 ^ f.eb - 1) * 2 ^ f.mb
    | _ => f.largest)

/-- Encode a rounded magnitude: overflow gives infinity, or the largest finite value of a format without one. -/
def FFmt.pack (f : FFmt) (neg : Bool) (m : Nat) (e : Int) (sticky : Bool) : Nat :=
  match f.magnitude m e sticky with
  | some b => f.sign neg + b
  | none => f.infBits neg

/-- Encode a value, rounded once. -/
def FFmt.encode (f : FFmt) : FVal → Nat
  | .nan => f.quietNan
  | .inf neg => f.infBits neg
  | .fin neg m e => f.pack neg m e false

/-! ## Exact arithmetic -/

/-- ±m as an integer. -/
def signedNat (neg : Bool) (m : Nat) : Int := if neg then -(m : Int) else (m : Int)

/-- m × 2^e at a lower exponent e0. -/
def scaleTo (m : Nat) (e e0 : Int) : Nat := m * 2 ^ (e - e0).toNat

def fneg : FVal → FVal
  | .nan => .nan
  | .inf n => .inf (!n)
  | .fin n m e => .fin (!n) m e

/-- Exact sum. Opposite infinities give NaN; an exact zero of unlike signs is +0. -/
def fadd : FVal → FVal → FVal
  | .nan, _ => .nan
  | _, .nan => .nan
  | .inf a, .inf b => if a = b then .inf a else .nan
  | .inf a, .fin .. => .inf a
  | .fin .., .inf b => .inf b
  | .fin na ma ea, .fin nb mb eb =>
    let e := min ea eb
    let t := signedNat na (scaleTo ma ea e) + signedNat nb (scaleTo mb eb e)
    if t = 0 then .fin (na && nb) 0 e else .fin (decide (t < 0)) t.natAbs e

/-- Exact product. Zero times infinity gives NaN. -/
def fmul : FVal → FVal → FVal
  | .nan, _ => .nan
  | _, .nan => .nan
  | .inf a, .inf b => .inf (a != b)
  | .inf a, .fin nb mb _ => if mb = 0 then .nan else .inf (a != nb)
  | .fin na ma _, .inf b => if ma = 0 then .nan else .inf (na != b)
  | .fin na ma ea, .fin nb mb eb => .fin (na != nb) (ma * mb) (ea + eb)

/-- Order of two values that are not NaN: negative, zero or positive difference; the zeros are equal. -/
def fdiff : FVal → FVal → Int
  | .nan, _ => 0
  | _, .nan => 0
  | .inf a, .inf b => (if b then 1 else 0) - (if a then 1 else 0)
  | .inf a, .fin .. => if a then -1 else 1
  | .fin .., .inf b => if b then 1 else -1
  | .fin na ma ea, .fin nb mb eb =>
    let e := min ea eb
    signedNat na (scaleTo ma ea e) - signedNat nb (scaleTo mb eb e)

def FVal.isNan : FVal → Bool
  | .nan => true
  | _ => false

/-- The value's sign bit; NaN counts as positive. -/
def FVal.neg : FVal → Bool
  | .nan => false
  | .inf n => n
  | .fin n _ _ => n

/-- a is below b, −0 below +0 (R261). -/
def fbelow (a b : FVal) : Bool := decide (fdiff a b < 0) || (decide (fdiff a b = 0) && a.neg && !b.neg)

/-- Minimum or maximum: NaN where either is. -/
def fmin (a b : FVal) : FVal := if a.isNan || b.isNan then .nan else if fbelow b a then b else a
def fmax (a b : FVal) : FVal := if a.isNan || b.isNan then .nan else if fbelow a b then b else a

/-- Integer square root by `k` binary digits. -/
def isqrt : Nat → Nat → Nat → Nat
  | 0, _, r => r
  | k + 1, n, r => if (r + 2 ^ k) * (r + 2 ^ k) ≤ n then isqrt k n (r + 2 ^ k) else isqrt k n r

/-- 1 / a, rounded once. -/
def frcp (f : FFmt) : FVal → Nat
  | .nan => f.quietNan
  | .inf n => f.sign n
  | .fin n m e =>
    if m = 0 then f.infBits n
    else
      let k := m.log2 + f.mb + 4
      f.pack n (2 ^ k / m) (-(k : Int) - e) (2 ^ k % m != 0)

/-- 1 / √a, rounded once: NaN below zero, an infinity of the zero's sign at zero. -/
def frsqrt (f : FFmt) : FVal → Nat
  | .nan => f.quietNan
  | .inf n => if n then f.quietNan else 0
  | .fin n m e =>
    if m = 0 then f.infBits n
    else if n then f.quietNan
    else
      let (m1, e1) := if e % 2 = 0 then (m, e) else (2 * m, e - 1)
      let k := m1.log2 / 2 + f.mb + 8
      let y := isqrt (k + 1) (2 ^ (2 * k) / m1) 0
      f.pack false y (-(k : Int) - e1 / 2) (y * y * m1 != 2 ^ (2 * k))

/-- |x| rounded half-even to an integer after scaling by 2^k. -/
def rneInt (m : Nat) (e : Int) : Nat := if 0 ≤ e then m * 2 ^ e.toNat else rneShift m (-e).toNat false

/-! ## Element formats (Table 2.11) -/

/-- Floating-point format of an element code; the MX codes give their elements' format. -/
def elemFmt (code : Nat) : Option FFmt :=
  match code with
  | 0 => some fp32 | 1 => some bf16 | 2 => some fp16 | 3 => some e4m3 | 4 => some e5m2 | 5 => some e4m3 | 6 => some e3m2
  | 7 => some e2m1 | _ => none

/-- Width in bits of an element of a code. -/
def elemBits (code : Nat) : Nat :=
  match code with
  | 0 => 32 | 1 => 16 | 2 => 16 | 3 => 8 | 4 => 8 | 5 => 8 | 6 => 6 | 7 => 4 | 8 => 32 | 9 => 8 | 10 => 64 | _ => 0

/-- Signed value of the low w bits. -/
def sx (w n : Nat) : Int :=
  let m := n % 2 ^ w
  if m < 2 ^ (w - 1) then (m : Int) else (m : Int) - (2 ^ w : Nat)

/-- Two's complement in w bits. -/
def tc (w : Nat) (i : Int) : Nat := (i % ((2 ^ w : Nat) : Int)).toNat

/-- Value of an element's bits. -/
def elemVal (code b : Nat) : FVal :=
  match elemFmt code with
  | some f => f.decode b
  | none =>
    let i := sx (elemBits code) b
    .fin (decide (i < 0)) i.natAbs 0

/-- Integer saturated to w bits. -/
def satInt (w : Nat) (i : Int) : Int := max (-(2 ^ (w - 1) : Nat)) (min ((2 ^ (w - 1) : Nat) - 1) i)

/-- Convert a value to an element code (R262): nearest even; overflow to infinity, ±448 or saturation; NaN to a quiet NaN or
0. -/
def toElem (code : Nat) (v : FVal) : Nat :=
  match elemFmt code with
  | some f => f.encode v
  | none =>
    let w := elemBits code
    match v with
    | .nan => 0
    | .inf n => tc w (if n then -(2 ^ (w - 1) : Nat) else (2 ^ (w - 1) : Nat) - 1)
    | .fin n m e =>
      -- beyond the width every value saturates
      let big := if 0 ≤ e then decide (w < m.log2 + e.toNat) && m != 0 else false
      let r := if big then 2 ^ w else rneInt m e
      tc w (satInt w (signedNat n r))

/-- VEXP (R262): e with |x| in [2^e, 2^(e+1)); zero −32,768; infinity and NaN 32,767. -/
def expOf : FVal → Int
  | .nan => 32767
  | .inf _ => 32767
  | .fin _ m e => if m = 0 then -32768 else (m.log2 : Int) + e

end Sys2Proof.Machine
end

