-- ==== Sys2Proof/Machine/Window.lean ====
section
/-! DEFINITION. Lanes of registers (R254), fixed-window exact accumulation (R292 to R296), and the residue of windows (R300). -/

namespace Sys2Proof.Machine

/-! ## Lanes (R254) -/

/-- Lane i of width w. -/
def laneOf (r w i : Nat) : Nat := r / 2 ^ (w * i) % 2 ^ w

/-- A register made of lanes of width w, lane 0 lowest. -/
def ofLanes (w : Nat) : List Nat → Nat
  | [] => 0
  | x :: xs => x % 2 ^ w + 2 ^ w * ofLanes w xs

/-- n lanes of width w. -/
def lanesOf (r w n : Nat) : List Nat := (List.range n).map (laneOf r w)

/-- The predicate bit that covers lane i of width w; the second register of a pair follows the same bits. -/
def guardBit (p w i : Nat) : Bool := p.testBit (w * i % 1024 / 16)

/-- n bits of one. -/
def ones (n : Nat) : Nat := 2 ^ n - 1

/-- Register bits of the lanes of width w, n of them, that a predicate covers. -/
def guardMask (p w n : Nat) : Nat := ofLanes w ((List.range n).map fun i => if guardBit p w i then ones w else 0)

/-- Put the bits of a mask from a new value into an old one. -/
def merge (mask new old : Nat) : Nat := (old ^^^ (old &&& mask)) ||| (new &&& mask)

/-! ## Lane forms (Tables 9.8, 10.7) -/

/-- Lanes of an A operation of an element format. -/
def aLanes (fmt : Nat) : Nat :=
  match fmt with
  | 0 => 32 | 8 => 32 | 10 => 16 | 1 => 64 | 2 => 64 | 6 => 256 | 7 => 256 | _ => 128

/-- Width W of a window lane. -/
def winBits (fmt : Nat) : Nat := if fmt = 0 ∨ fmt = 8 ∨ fmt = 10 then 192 else 96

/-- Window registers of an operation: one, an even pair, or a group of four. -/
def winRegs (fmt : Nat) : Nat := if aLanes fmt = 256 then 4 else if aLanes fmt = 128 then 2 else 1

/-- Bytes of the window image. -/
def winBytes (fmt : Nat) : Nat := if fmt = 10 then 384 else 768 * winRegs fmt

/-- Bits of a source lane or container. -/
def srcBits (fmt : Nat) : Nat := if fmt = 6 then 8 else elemBits fmt

/-- The format is block-scaled. -/
def isMx (fmt : Nat) : Bool := fmt == 5 || fmt == 6 || fmt == 7

/-! ## Quantisation and addition (R292 to R294) -/

/-- MAX and the NaN code of a lane of width w. -/
def winMax (w : Nat) : Int := (2 ^ (w - 1) : Nat) - 1
def winNan (w : Nat) : Int := -(2 ^ (w - 1) : Nat)

/-- The anchor in force: integers take W − 2 (R292). -/
def anchorOf (fmt : Nat) (a : Int) : Int := if 8 ≤ fmt then (winBits fmt : Int) - 2 else a

/-- x × 2^(W − 2 − A) rounded half-even, without its sign; a magnitude of W bits or more counts as 2^W. -/
def quantMag (w : Nat) (a : Int) (m : Nat) (e : Int) : Nat :=
  let k := e + (w : Int) - 2 - a
  if m = 0 then 0
  else if (w : Int) < (m.log2 : Int) + k then 2 ^ w
  else if (m.log2 : Int) + k < -1 then 0
  else rneInt m k

/-- q(x) (Table 11.7). -/
def quantise (w : Nat) (a : Int) : FVal → Int
  | .nan => winNan w
  | .inf n => if n then -winMax w else winMax w
  | .fin n m e => signedNat n (min (quantMag w a m e) (winMax w).toNat)

/-- add(s, q) (R294). -/
def winAdd (w : Nat) (s q : Int) : Int :=
  let mx := winMax w
  if s = winNan w ∨ q = winNan w then winNan w
  else if (s = mx ∧ q = -mx) ∨ (s = -mx ∧ q = mx) then winNan w
  else if s = mx ∨ s = -mx then s
  else if q = mx ∨ q = -mx then q
  else max (-mx) (min mx (s + q))

/-- A value times 2^(e8 − 127); a scale of 0xFF makes NaN (R60, R293). -/
def scaled (v : FVal) (e8 : Nat) : FVal :=
  if e8 = 255 then .nan
  else match v with
    | .fin n m e => .fin n m (e + (e8 : Int) - 127)
    | x => x

/-- Source element i of an A operation: the bits of its lane or container; MXFP6 containers lie in a pair. -/
def srcElem (fmt src i : Nat) : Nat :=
  let b := laneOf src (srcBits fmt) i
  if fmt = 6 then b % 64 else b

/-- Quantised source element i: with its block's scale for the MX formats. -/
def srcQuant (fmt src scales : Nat) (a : Int) (i : Nat) : Int :=
  let v := elemVal fmt (srcElem fmt src i)
  quantise (winBits fmt) (anchorOf fmt a) (if isMx fmt then scaled v (laneOf scales 8 (i / 32)) else v)

/-- A window lane as an integer. -/
def winLane (win w i : Nat) : Int := sx w (laneOf win w i)

/-- AACC in FWX mode: the window after the guarded elements are added. -/
def accWindow (fmt win src scales g : Nat) (unguarded : Bool) (a : Int) : Nat :=
  let w := winBits fmt
  ofLanes w ((List.range (aLanes fmt)).map fun i =>
    if unguarded || guardBit g (srcBits fmt) i then tc w (winAdd w (winLane win w i) (srcQuant fmt src scales a i))
    else laneOf win w i)

/-- AACC NATIVE: binary32 additions in the low 32 bits of the lanes (R265, R299). -/
def accNative (win src g : Nat) (unguarded : Bool) : Nat :=
  ofLanes 192 ((List.range 32).map fun i =>
    let old := laneOf win 192 i
    if unguarded || guardBit g 32 i then
      fp32.encode (fadd (fp32.decode (old % 2 ^ 32)) (fp32.decode (laneOf src 32 i)))
    else old)

/-- AADDW: lanes of width w added one by one. -/
def addWindows (w n win other g : Nat) (unguarded : Bool) : Nat :=
  ofLanes w ((List.range n).map fun i =>
    if unguarded || guardBit g (1024 / n) i then tc w (winAdd w (winLane win w i) (winLane other w i))
    else laneOf win w i)

/-! ## Rounding out (R295, R296) -/

/-- A rounded lane: its bits, and whether OVERFLOW and NAN are set. -/
structure Rounded where
  bits : Nat
  ovf : Bool
  nan : Bool
  deriving DecidableEq, Repr

/-- Exponent of a lane's least significant bit: A − W + 2. -/
def winExp (fmt : Nat) (a : Int) : Int := anchorOf fmt a - (winBits fmt : Int) + 2

/-- Round a lane of a window of form `wf` to a format that is not block-scaled (Table 11.8). -/
def roundLane (wf fmt : Nat) (a : Int) (s : Int) : Rounded :=
  let w := winBits wf
  let e := winExp wf a
  match elemFmt fmt with
  | some f =>
    if s = winNan w then ⟨f.quietNan, false, true⟩
    else if s = winMax w ∨ s = -winMax w then ⟨f.infBits (decide (s < 0)), true, false⟩
    else match f.magnitude s.natAbs e false with
      | some b => ⟨(if s = 0 then 0 else f.sign (decide (s < 0))) + b, false, false⟩
      | none => ⟨f.infBits (decide (s < 0)), true, false⟩
  | none =>
    let n := elemBits fmt
    if s = winNan w then ⟨0, false, true⟩
    else if s = winMax w ∨ s = -winMax w then ⟨tc n (satInt n (if s < 0 then -(2 ^ n : Nat) else (2 ^ n : Nat))), true, false⟩
    else
      let v := signedNat (decide (s < 0)) (rneInt s.natAbs e)
      ⟨tc n (satInt n v), decide (satInt n v ≠ v), false⟩

/-- Magnitude of a lane in a block's maximum: a saturated lane counts as 2^(A + 1). -/
def blockMag (w : Nat) (s : Int) : Nat := if s = winMax w ∨ s = -winMax w then 2 ^ (w - 1) else s.natAbs

/-- e_F of an MX element format (R296). -/
def mxEmax (fmt : Nat) : Int := if fmt = 5 then 8 else if fmt = 6 then 4 else 2

/-- An element of a block under the shared exponent s: clamped to the largest finite value, the sign of S kept. -/
def mxElem (f : FFmt) (s : Int) (e shared : Int) : Nat :=
  match f.magnitude s.natAbs (e - shared) false with
  | some b => (if s = 0 then 0 else f.sign (decide (s < 0))) + b
  | none => f.sign (decide (s < 0)) + f.largest

/-- Round a block of lanes to an MX format: scale byte and elements, and the flags (R296). -/
def roundBlock (wf fmt : Nat) (a : Int) (ss : List Int) : Nat × List Nat × Bool × Bool :=
  let w := winBits wf
  let e := winExp wf a
  let f := (elemFmt fmt).getD e4m3
  if ss.any (· == winNan w) then (255, ss.map fun _ => 0, false, true)
  else
    let x := (ss.map (blockMag w)).foldl max 0
    let sat := ss.any fun s => s == winMax w || s == -winMax w
    if x = 0 then (127, ss.map fun _ => 0, false, false)
    else
      let shared := (x.log2 : Int) + e - mxEmax fmt
      let byte := shared + 127
      let stored := max 0 (min 254 byte)
      let used := stored - 127
      (stored.toNat,
       ss.map fun s => if s = winMax w ∨ s = -winMax w then f.sign (decide (s < 0)) + f.largest else mxElem f s e used,
       sat || decide (254 < byte), false)

/-- Blocks of 32. -/
def blocks32 {α : Type} : Nat → List α → List (List α)
  | 0, _ => []
  | k + 1, xs => xs.take 32 :: blocks32 k (xs.drop 32)

/-- ARND: destination bits, scale bytes, OVERFLOW, NAN. -/
structure RndOut where
  dest : Nat
  scales : Nat
  ovf : Bool
  nan : Bool
  deriving DecidableEq, Repr

/-- Round all lanes of a window of form `wf` to format `fmt`. -/
def roundWindow (wf fmt : Nat) (a : Int) (win : Nat) : RndOut :=
  let w := winBits wf
  let ss := (List.range (aLanes wf)).map (winLane win w)
  if isMx fmt then
    let bs := (blocks32 (aLanes wf / 32) ss).map (roundBlock wf fmt a)
    { dest := ofLanes (srcBits fmt) (bs.flatMap fun b => b.2.1), scales := ofLanes 8 (bs.map (·.1)),
      ovf := bs.any fun b => b.2.2.1, nan := bs.any fun b => b.2.2.2 }
  else
    let rs := ss.map (roundLane wf fmt a)
    { dest := ofLanes (elemBits fmt) (rs.map (·.bits)), scales := 0, ovf := rs.any (·.ovf), nan := rs.any (·.nan) }

/-- A number lies beyond what an output format can hold (Table 10.9). -/
def beyondFormat (fmt : Nat) (v : FVal) : Bool :=
  match elemFmt fmt, v with
  | _, .nan => false
  | some f, .fin _ m e => (f.magnitude m e false).isNone
  | some f, .inf _ => f.kind != .ieee
  | none, .inf _ => true
  | none, .fin n m e =>
    let w := elemBits fmt
    -- a magnitude of 2^w or more is beyond any width; below that the rounded integer decides
    decide (m ≠ 0 ∧ (w : Int) ≤ (m.log2 : Int) + e) || satInt w (signedNat n (rneInt m e)) != signedNat n (rneInt m e)

/-- ARND in a NATIVE knot: the FP32 lane copied, or rounded per R262 to another format (R299). A format that R262 does not
accept gets the free result of Config.nativeOther. -/
def roundNative (fmt win : Nat) : RndOut :=
  let vs := (List.range 32).map fun i => laneOf win 192 i % 2 ^ 32
  if isMx fmt ∨ fmt = 10 then
    let r := Config.nativeOther fmt win
    { dest := r.1 % 2 ^ 2048, scales := r.2 % 2 ^ 64, ovf := false, nan := false }
  else
    { dest := ofLanes (elemBits fmt) (vs.map fun v => if fmt = 0 then v else toElem fmt (fp32.decode v)), scales := 0,
      ovf := fmt != 0 && vs.any fun v => beyondFormat fmt (fp32.decode v), nan := false }

/-! ## Residues (R300) -/

/-- M = 2^31 − 1. -/
def resM : Nat := 2 ^ 31 - 1

/-- An integer mod M. -/
def modM (i : Int) : Nat := (i % (resM : Int)).toNat

/-- Σ over the lanes of a window of S mod M. -/
def winResidue (fmt win : Nat) : Nat :=
  modM ((List.range (aLanes fmt)).map (winLane win (winBits fmt))).sum

/-- Σ over the 4-byte big-endian words of a payload, the last zero-padded, mod M (Table 11.11). -/
def wordSum (b : Bytes) : Nat := go (b.length / 4 + 1) b 0 % resM
where
  /-- Add words. -/
  go : Nat → Bytes → Nat → Nat
    | 0, _, acc => acc
    | k + 1, b, acc => go k (b.drop 4) (acc + ((b.take 4 ++ List.replicate (4 - (b.take 4).length) 0).foldl
        (fun (n : Nat) (x : Byte) => n * 256 + x.toNat) 0))

end Sys2Proof.Machine
end

