-- ==== Sys2Proof/Machine/Vector.lean ====
section
/-! DEFINITION. The vector operations lane by lane (R260 to R263), the sorted-set merge (R267, R268) and the wire bytes of
block-scaled formats (R60, R263): values in, values out. -/

namespace Sys2Proof.Machine

/-! ## Types (R260) -/

/-- Lane width of a type T. -/
def tyBits (t : Nat) : Nat := if t = 1 ∨ t = 4 then 32 else 16

/-- Lanes of a type T. -/
def tyLanes (t : Nat) : Nat := 1024 / tyBits t

/-- Floating-point format of a type T; none for the integer types. -/
def tyFmt (t : Nat) : Option FFmt :=
  match t with
  | 2 => some bf16
  | 3 => some fp16
  | 4 => some fp32
  | _ => none

/-- Apply f to the lanes of width w of two registers. -/
def lanes2 (w : Nat) (f : Nat → Nat → Nat) (a b : Nat) : Nat :=
  ofLanes w ((List.range (1024 / w)).map fun i => f (laneOf a w i) (laneOf b w i))

/-- One floating-point operation on bits of a format, rounded once. -/
def fop2 (f : FFmt) (g : FVal → FVal → FVal) (a b : Nat) : Nat := f.encode (g (f.decode a) (f.decode b))

/-- a + b, a − b, a × b of type T. -/
def laneAdd (t a b : Nat) : Nat :=
  match tyFmt t with
  | some f => fop2 f fadd a b
  | none => (a + b) % 2 ^ tyBits t
def laneSub (t a b : Nat) : Nat :=
  match tyFmt t with
  | some f => fop2 f (fun x y => fadd x (fneg y)) a b
  | none => (a + 2 ^ tyBits t - b % 2 ^ tyBits t) % 2 ^ tyBits t
def laneMul (t a b : Nat) : Nat :=
  match tyFmt t with
  | some f => fop2 f fmul a b
  | none => a * b % 2 ^ tyBits t

/-- a × b + c with one rounding; an exact zero sum of unlike signs is +0. -/
def laneFma (t a b c : Nat) : Nat :=
  match tyFmt t with
  | some f => f.encode (fadd (fmul (f.decode a) (f.decode b)) (f.decode c))
  | none => (a * b + c) % 2 ^ tyBits t

/-- Minimum and maximum; integers are signed. -/
def laneMin (t a b : Nat) : Nat :=
  match tyFmt t with
  | some f => fop2 f fmin a b
  | none => if sx (tyBits t) b < sx (tyBits t) a then b else a
def laneMax (t a b : Nat) : Nat :=
  match tyFmt t with
  | some f => fop2 f fmax a b
  | none => if sx (tyBits t) a < sx (tyBits t) b then b else a

/-- Comparison of VCMP: 0 eq, 1 ne, 2 lt, 3 le; NaN is unordered (R261). -/
def laneCmp (t c a b : Nat) : Bool :=
  match tyFmt t with
  | some f =>
    let x := f.decode a
    let y := f.decode b
    if x.isNan || y.isNan then c == 1
    else
      let d := fdiff x y
      match c with
      | 0 => decide (d = 0) | 1 => decide (d ≠ 0) | 2 => decide (d < 0) | _ => decide (d ≤ 0)
  | none =>
    let d := sx (tyBits t) a - sx (tyBits t) b
    match c with
    | 0 => decide (d = 0) | 1 => decide (d ≠ 0) | 2 => decide (d < 0) | _ => decide (d ≤ 0)

/-- Predicate of VCMP: every 16-bit piece of a lane takes the lane's answer (R254). -/
def vecCmp (t c a b : Nat) : Nat :=
  let n := tyBits t / 16
  ofLanes n ((List.range (tyLanes t)).map fun i =>
    if laneCmp t c (laneOf a (tyBits t) i) (laneOf b (tyBits t) i) then ones n else 0)

/-- Shifts of integer lanes by k. -/
def laneShl (w k a : Nat) : Nat := a * 2 ^ k % 2 ^ w
def laneShr (k a : Nat) : Nat := a / 2 ^ k
def laneSra (w k a : Nat) : Nat := tc w (sx w a / (2 ^ k : Nat))

/-- Bits covered by ones of a predicate from a, the others from b (VSEL). -/
def vecSel (p a b : Nat) : Nat := merge (ofLanes 16 ((List.range 64).map fun i => if p.testBit i then ones 16 else 0)) a b

/-- Every lane of width w takes a value. -/
def vecBcast (w v : Nat) : Nat := ofLanes w (List.replicate (1024 / w) v)

/-- Lane i takes lane b_i mod lanes of a. -/
def vecShuf (w a b : Nat) : Nat :=
  ofLanes w ((List.range (1024 / w)).map fun i => laneOf a w (laneOf b w i % (1024 / w)))

/-- Reduce neighbours: lanes 2i and 2i + 1. -/
def pairUp (f : Nat → Nat → Nat) : List Nat → List Nat
  | a :: b :: xs => f a b :: pairUp f xs
  | xs => xs

/-- The fixed tree of R261, k levels. -/
def treeReduce (f : Nat → Nat → Nat) : Nat → List Nat → List Nat
  | 0, xs => xs
  | k + 1, xs => treeReduce f k (pairUp f xs)

/-- VHRED: 0 sum, 1 min, 2 max. -/
def vecHred (t op a : Nat) : Nat :=
  let f := match op with
    | 0 => laneAdd t
    | 1 => laneMin t
    | _ => laneMax t
  ((treeReduce f 6 (lanesOf a (tyBits t) (tyLanes t))).headD 0)

/-! ## Conversions (R262) -/

/-- Formats that VCVT and VEXP accept. -/
def cvtFmt (f : Nat) : Bool := f ≤ 4 || f == 8 || f == 9

/-- Lanes of a format in VCVT. -/
def cvtLanes (f : Nat) : Nat := 1024 / elemBits f

/-- PART is inside the range of a conversion of n_s to n_d lanes. -/
def partOk (ns nd part : Nat) : Bool :=
  if nd < ns then decide (part < ns / nd) else if ns < nd then decide (part < nd / ns) else part == 0

/-- Convert elements: destination bits and the mask of destination elements written. Lane widths ws and wd; `f` gives a
destination element's bits. -/
def convertLanes (ws wd part : Nat) (f : Nat → Nat) (a : Nat) : Nat × Nat :=
  let ns := 1024 / ws
  let nd := 1024 / wd
  if nd ≤ ns then
    (ofLanes wd ((List.range nd).map fun i => f (laneOf a ws (part * nd + i))), ones 1024)
  else
    (ofLanes wd ((List.range ns).map fun i => f (laneOf a ws i)) * 2 ^ (wd * part * ns), ones (wd * ns) * 2 ^ (wd * part * ns))

def vecCvt (f g part a : Nat) : Nat × Nat :=
  convertLanes (elemBits f) (elemBits g) part (fun b => toElem g (elemVal f b)) a

def vecExp (f part a : Nat) : Nat × Nat :=
  convertLanes (elemBits f) 16 part (fun b => tc 16 (expOf (elemVal f b))) a

/-! ## MX blocks (R60, R263) -/

/-- Blocks of an MX operation, and bytes of one block after its scale. -/
def mxBlocks (f : Nat) : Nat := if f = 5 then 4 else 8
def mxBytes (f : Nat) : Nat := 4 * elemBits f

/-- The elements of a block from its wire bytes, most significant bits first. -/
def mxSplit (f : Nat) (b : List Nat) : List Nat :=
  let n := b.foldl (fun acc x => acc * 256 + x) 0
  (List.range 32).map fun i => n / 2 ^ (elemBits f * (31 - i)) % 2 ^ elemBits f

/-- Wire bytes of a block's elements. -/
def mxJoin (f : Nat) (es : List Nat) : List Nat :=
  let n := es.foldl (fun acc x => acc * 2 ^ elemBits f + x % 2 ^ elemBits f) 0
  (List.range (mxBytes f)).map fun i => n / 2 ^ (8 * (mxBytes f - 1 - i)) % 256

/-- VMXUNPK: wire bytes of a register pair to containers and scales. -/
def mxUnpack (f wire : Nat) : Nat × Nat :=
  let bytes := fun i => laneOf wire 8 i
  let blk := 1 + mxBytes f
  let es := (List.range (mxBlocks f)).flatMap fun b => mxSplit f ((List.range (mxBytes f)).map fun i => bytes (b * blk + 1 + i))
  (ofLanes (srcBits f) es, ofLanes 8 ((List.range (mxBlocks f)).map fun b => bytes (b * blk)))

/-- VMXPK: containers and scales to wire bytes of a register pair. -/
def mxPack (f cont scales : Nat) : Nat :=
  ofLanes 8 ((List.range (mxBlocks f)).flatMap fun b =>
    laneOf scales 8 b :: mxJoin f ((List.range 32).map fun i => laneOf cont (srcBits f) (b * 32 + i)))

/-- VINS: lane i of width w replaced. -/
def vecIns (w i a x : Nat) : Nat := merge (ones w * 2 ^ (w * i)) (x % 2 ^ w * 2 ^ (w * i)) a

/-! ## Sorted sets (R267, R268) -/

/-- Padding key. -/
def padKey (desc : Bool) : Nat := if desc then 0 else 2 ^ 64 - 1

/-- Key a comes before key b. -/
def keyBefore (desc : Bool) (a b : Nat) : Bool := if desc then decide (b < a) else decide (a < b)

/-- The valid keys of a register: those before its first padding key. -/
def validKeys (desc : Bool) (r : Nat) : List Nat := (lanesOf r 64 16).takeWhile (· != padKey desc)

/-- What a merge has emitted: keys with their map words, and how far it has read each input. -/
structure Merged where
  out : List (Nat × Nat)
  i : Nat
  j : Nat
  deriving DecidableEq, Repr

/-- Map word (Table 10.9's index map): VALID, DUP, FROM_B, index in B, index in A. -/
def mapWord (dup fromB : Bool) (j i : Nat) : Nat :=
  2 ^ 15 + (if dup then 2 ^ 14 else 0) + (if fromB then 2 ^ 13 else 0) + j % 16 * 16 + i % 16

/-- The limit of R268: the earlier of the last valid keys of the inputs not marked END; none when both are marked. The Bool
says that nothing can pass, for an empty unmarked input. -/
def mergeLimit (desc aEnd bEnd : Bool) (as bs : List Nat) : Option Nat × Bool :=
  let la := if aEnd then none else as.getLast?
  let lb := if bEnd then none else bs.getLast?
  ((match la, lb with
    | none, y => y
    | x, none => x
    | some x, some y => some (if keyBefore desc y x then y else x)),
   (!aEnd && as.isEmpty) || (!bEnd && bs.isEmpty))

/-- A key passes the limit: it comes after it. -/
def passes (desc : Bool) (lim : Option Nat × Bool) (k : Nat) : Bool :=
  lim.2 || (match lim.1 with
    | none => false
    | some l => keyBefore desc l k)

/-- The loop of R268, at most n keys. -/
def mergeLoop (desc keep : Bool) (lim : Option Nat × Bool) (as bs : List Nat) : Nat → Merged → Merged
  | 0, m => m
  | n + 1, m =>
    match as[m.i]?, bs[m.j]? with
    | none, none => m
    | some a, none =>
      if passes desc lim a then m
      else mergeLoop desc keep lim as bs n { m with out := m.out ++ [(a, mapWord false false 0 m.i)], i := m.i + 1 }
    | none, some b =>
      if passes desc lim b then m
      else mergeLoop desc keep lim as bs n { m with out := m.out ++ [(b, mapWord false true m.j 0)], j := m.j + 1 }
    | some a, some b =>
      let k := if keyBefore desc b a then b else a
      if passes desc lim k then m
      else if a = b ∧ !keep then
        mergeLoop desc keep lim as bs n { out := m.out ++ [(a, mapWord true false m.j m.i)], i := m.i + 1, j := m.j + 1 }
      else if keyBefore desc a b || a == b then
        mergeLoop desc keep lim as bs n { m with out := m.out ++ [(a, mapWord false false 0 m.i)], i := m.i + 1 }
      else mergeLoop desc keep lim as bs n { m with out := m.out ++ [(b, mapWord false true m.j 0)], j := m.j + 1 }

/-- SMRG: output keys, index map, the counts of x[RC], and the keys consumed. -/
def smrg (desc keep aEnd bEnd : Bool) (a b : Nat) : Nat × Nat × Nat × Nat :=
  let as := validKeys desc a
  let bs := validKeys desc b
  let m := mergeLoop desc keep (mergeLimit desc aEnd bEnd as bs) as bs 16 ⟨[], 0, 0⟩
  let n := m.out.length
  let dups := ((List.range n).map fun i => if (m.out.getD i (0, 0)).2.testBit 14 then 2 ^ i else 0).sum
  (ofLanes 64 (m.out.map (·.1) ++ List.replicate (16 - n) (padKey desc)), ofLanes 16 (m.out.map (·.2)),
   dups * 2 ^ 32 + n * 2 ^ 16 + m.j * 2 ^ 8 + m.i, m.i + m.j)

/-- Insert a key with its index into a sorted list, after its equals: a stable sort inserts in lane order. -/
def keyInsert (desc : Bool) (x : Nat × Nat) : List (Nat × Nat) → List (Nat × Nat)
  | [] => [x]
  | y :: ys => if keyBefore desc x.1 y.1 then x :: y :: ys else y :: keyInsert desc x ys

/-- SSORT: sorted keys and index map. -/
def ssort (desc : Bool) (a : Nat) : Nat × Nat :=
  let ks := validKeys desc a
  let o := ((List.range ks.length).map fun i => (ks.getD i 0, i)).foldl (fun acc x => keyInsert desc x acc) []
  (ofLanes 64 (o.map (·.1) ++ List.replicate (16 - o.length) (padKey desc)),
   ofLanes 16 (o.map fun x => mapWord false false 0 x.2))

/-- SFIND: [4:0] valid keys before the scalar, [8] found. -/
def sfind (desc : Bool) (a x : Nat) : Nat :=
  let ks := validKeys desc a
  (ks.filter fun k => keyBefore desc k x).length + (if ks.contains x then 256 else 0)

end Sys2Proof.Machine
end

