-- ==== Sys2Proof/Machine/Braid.lean ====
section
/-! DEFINITION. The bits of a braid (R250, R251), the fields that each operation uses (Tables 10.3 to 10.12), and the check of
stage D (R252). -/

namespace Sys2Proof.Machine

/-- A slot word (Table 10.2). -/
structure Word128 where
  op : Nat
  gp : Nat
  gn : Bool
  r0 : Nat
  rd : Nat
  ra : Nat
  rb : Nat
  rc : Nat
  fmt : Nat
  mod : Nat
  r1 : Nat
  imm : Nat
  deriving DecidableEq, Repr

/-- Fields of a 128-bit slot word. -/
def Word128.ofNat (n : Nat) : Word128 :=
  { op := n / 2 ^ 120 % 256, gp := n / 2 ^ 117 % 8, gn := n.testBit 116, r0 := n / 2 ^ 112 % 16, rd := n / 2 ^ 107 % 32,
    ra := n / 2 ^ 102 % 32, rb := n / 2 ^ 97 % 32, rc := n / 2 ^ 92 % 32, fmt := n / 2 ^ 88 % 16, mod := n / 2 ^ 80 % 256,
    r1 := n / 2 ^ 64 % 65536, imm := n % 2 ^ 64 }

/-- The 128-bit slot word of fields. -/
def Word128.toNat (w : Word128) : Nat :=
  w.op % 256 * 2 ^ 120 + w.gp % 8 * 2 ^ 117 + (if w.gn then 2 ^ 116 else 0) + w.r0 % 16 * 2 ^ 112 + w.rd % 32 * 2 ^ 107 +
    w.ra % 32 * 2 ^ 102 + w.rb % 32 * 2 ^ 97 + w.rc % 32 * 2 ^ 92 + w.fmt % 16 * 2 ^ 88 + w.mod % 256 * 2 ^ 80 +
    w.r1 % 65536 * 2 ^ 64 + w.imm % 2 ^ 64

/-- IMM as a signed number. -/
def Word128.simm (w : Word128) : Int := toS64 w.imm
where
  /-- Signed value of 64 bits. -/
  toS64 (n : Nat) : Int := sx 64 n

/-- Bit i of MOD. -/
def Word128.m (w : Word128) (i : Nat) : Bool := w.mod.testBit i

/-- Slot k of a braid of 128 bytes (R250). -/
def slotWord (imem : SMap Byte) (pc k : Nat) : Word128 :=
  Word128.ofNat (le (sgets imem (pc * 128 + 16 * k) 16 0))
where
  /-- Little-endian value. -/
  le : Bytes → Nat
    | [] => 0
    | b :: bs => b.toNat + 256 * le bs

/-- The class of a slot (Table 10.1). -/
inductive Cls where
  | P | M | V | A | S | C
  deriving DecidableEq, Repr

def clsOf (k : Nat) : Cls :=
  match k with
  | 0 => .P | 1 => .M | 2 => .M | 3 => .V | 4 => .V | 5 => .A | 6 => .S | _ => .C

/-- What a register field names: nothing, a register, a pair of vectors, or a group of window registers. -/
inductive Use where
  | no | x | v | v2 | p
  | w (n : Nat)
  deriving DecidableEq, Repr

/-- The registers a field names. -/
def Use.regs (u : Use) (n : Nat) : List Dst :=
  match u with
  | .no => []
  | .x => [.x n]
  | .v => [.v n]
  | .v2 => [.v n, .v (n + 1)]
  | .p => [.p n]
  | .w k => (List.range k).map fun i => .w (n + i)

/-- The field's value is legal for its use: zero where unused, `w` and `p` at most 7, pairs and groups aligned. -/
def Use.ok (u : Use) (n : Nat) : Bool :=
  match u with
  | .no => n == 0
  | .x => true
  | .v => true
  | .v2 => n % 2 == 0
  | .p => decide (n ≤ 7)
  | .w k => decide (n ≤ 7) && n % k == 0

/-- How an operation uses a slot word: its register fields, whether it uses IMM, whether FMT and MOD lie in its lists, and
which fields it writes and reads. -/
structure Form where
  rd : Use := .no
  ra : Use := .no
  rb : Use := .no
  rc : Use := .no
  imm : Bool := false
  ok : Bool := true
  /-- RC is a destination. -/
  rcOut : Bool := false
  /-- RD is written. -/
  rdOut : Bool := true
  /-- RD is read as well. -/
  rdIn : Bool := false
  deriving DecidableEq, Repr

/-- FMT and MOD are both zero. -/
def Word128.plain (w : Word128) : Bool := w.fmt == 0 && w.mod == 0
/-- FMT is zero and MOD below n. -/
def Word128.modBelow (w : Word128) (n : Nat) : Bool := w.fmt == 0 && decide (w.mod < n)

/-- P slot (Table 10.3). -/
def formP (w : Word128) : Option Form :=
  match w.op with
  | 0x01 => some { rd := .v, ra := .x, imm := true, ok := w.modBelow 4 }
  | 0x02 => some { rb := .v, ra := .x, imm := true, ok := w.modBelow 4 }
  | 0x03 => some { ra := .x, rc := if w.m 2 then .x else .no, ok := w.modBelow 8 }
  | 0x04 => some { rd := .x, ok := w.plain }
  | 0x05 => some { ra := .x, ok := w.plain }
  | 0x06 => some { ra := .x, ok := w.plain }
  | 0x07 => some { ra := .x, rb := .x, imm := true, ok := w.modBelow 2 }
  | 0x08 => some { ra := .x, rb := .x, imm := true, ok := w.modBelow 2 }
  | 0x09 => some { ra := .x, ok := w.plain }
  | 0x0A => some { rd := .w 1, ra := .x, imm := true, ok := (w.fmt == 8 || w.fmt == 10) && w.mod == 0 }
  | _ => none

/-- M slots (Table 10.4). -/
def formM (w : Word128) : Option Form :=
  match w.op with
  | 0x01 => some { rd := .v, ra := .x, imm := true, ok := w.plain }
  | 0x02 => some { rb := .v, ra := .x, imm := true, ok := w.plain }
  | 0x03 => some { rd := .x, ra := .x, imm := true, ok := w.plain }
  | 0x04 => some { rb := .x, ra := .x, imm := true, ok := w.plain }
  | _ => none

/-- A two-operand vector operation of a type T. -/
def formV2 (ok : Bool) : Form := { rd := .v, ra := .v, rb := .v, ok := ok }

/-- V slots (Table 10.5). -/
def formV (w : Word128) : Option Form :=
  let ty := decide (w.fmt ≤ 4) && w.mod == 0
  let int := decide (w.fmt ≤ 1) && w.mod == 0
  match w.op with
  | 0x01 => some (formV2 ty)
  | 0x02 => some (formV2 ty)
  | 0x03 => some (formV2 ty)
  | 0x04 => some { rd := .v, ra := .v, rb := .v, rc := .v, ok := ty }
  | 0x05 => some (formV2 ty)
  | 0x06 => some (formV2 ty)
  | 0x07 => some (formV2 w.plain)
  | 0x08 => some (formV2 w.plain)
  | 0x09 => some (formV2 w.plain)
  | 0x0A => some { rd := .v, ra := .v, imm := true, ok := int }
  | 0x0B => some { rd := .v, ra := .v, imm := true, ok := int }
  | 0x0C => some { rd := .v, ra := .v, imm := true, ok := int }
  | 0x0D => some { rd := .p, ra := .v, rb := .v, ok := decide (w.fmt ≤ 4) && decide (w.mod < 4) }
  | 0x0E => some { rd := .v, ra := .v, rb := .v, rc := .p, ok := w.plain }
  | 0x0F => some { rd := .v, ra := .x, ok := ty }
  | 0x10 => some (formV2 ty)
  | 0x11 => some { rd := .v, ra := .v, ok := decide (w.fmt ≤ 4) && decide (w.mod < 3) }
  | 0x12 => some { rd := .v, ra := .v, ok := w.fmt == 4 && w.mod == 0 }
  | 0x13 => some { rd := .v, ra := .v, ok := w.fmt == 4 && w.mod == 0 }
  | 0x14 =>
    let g := w.mod % 16
    let good := cvtFmt w.fmt && cvtFmt g && partOk (cvtLanes w.fmt) (cvtLanes g) (w.mod / 16)
    some { rd := .v, ra := .v, ok := good, rdIn := decide (cvtLanes w.fmt < cvtLanes g) }
  | 0x15 =>
    let good := cvtFmt w.fmt && w.mod % 16 == 0 && partOk (cvtLanes w.fmt) 64 (w.mod / 16)
    some { rd := .v, ra := .v, ok := good, rdIn := decide (cvtLanes w.fmt < 64) }
  | 0x16 => some { rd := if w.fmt = 6 then .v2 else .v, ra := .v2, rc := .v, ok := isMx w.fmt && w.mod == 0, rcOut := true }
  | 0x17 => some { rd := .v2, ra := if w.fmt = 6 then .v2 else .v, rb := .v, ok := isMx w.fmt && w.mod == 0 }
  | 0x18 => some { rd := .v, ra := .v, rb := .x, imm := true, ok := w.modBelow 2 }
  | _ => none

/-- The window operand of an A operation: a register group in RD, or a state SRAM image at x[RA] + IMM (R264). -/
def winForm (w : Word128) (n : Nat) (f : Form) : Form :=
  if w.m 0 then { f with ra := .x, imm := true } else { f with rd := .w n, rdIn := true }

/-- A slot (Table 10.8). `wf` is the lane form of the knot's windows, which ARND reads. -/
def formA (wf : Nat) (w : Word128) : Option Form :=
  let elem := decide (w.fmt ≤ 10)
  let n := w.mod / 8
  match w.op with
  | 0x01 =>
    let good := elem && decide (w.mod < 4) && (!w.m 1 || w.fmt == 0)
    let src : Use := if w.fmt = 6 then .v2 else .v
    let scale : Use := if isMx w.fmt then .v else .no
    some (winForm w (winRegs w.fmt) { rb := src, rc := scale, ok := good })
  | 0x02 => some { rd := .w (winRegs w.fmt), ra := .x, imm := true, ok := elem && w.mod == 0 }
  | 0x03 => some { rd := .w (winRegs w.fmt), ra := .x, imm := true, ok := elem && w.mod == 0, rdOut := false, rdIn := true }
  | 0x04 => some (winForm w (winRegs w.fmt) { ok := elem && decide (w.mod % 8 ≤ 1) && (w.m 0 || n == 0) })
  | 0x05 =>
    let vd : Use := if w.fmt = 6 then .v2 else .v
    let regOk := w.m 0 || (Use.ok (.w (winRegs wf)) w.rd)
    let good := elem && decide (w.mod < 8) && !w.m 1 && regOk
    let scale : Use := if isMx w.fmt then .v else .no
    some { rd := vd, ra := if w.m 0 then .x else .no, rc := scale, imm := w.m 0, rcOut := true, ok := good }
  | 0x06 =>
    let f := winForm w (winRegs w.fmt) { ok := elem && decide (w.mod % 8 ≤ 1) && (w.m 0 || n == 0) }
    some { f with rdOut := false }
  | 0x07 => some (winForm w 1 { rb := .w 1, ok := (w.fmt == 8 || w.fmt == 10) && decide (w.mod < 2) })
  | _ => none

/-- S slot (Table 10.10). -/
def formS (w : Word128) : Option Form :=
  match w.op with
  | 0x01 => some { rd := .v2, rc := .x, ra := .v, rb := .v, ok := w.modBelow 16, rcOut := true }
  | 0x02 => some { rd := .v2, ra := .v, ok := w.modBelow 2 }
  | 0x03 => some { rd := .x, ra := .v, rb := .x, ok := w.modBelow 2 }
  | _ => none

/-- C slot (Tables 10.11, 10.12). -/
def formC (w : Word128) : Option Form :=
  let xxx : Form := { rd := .x, ra := .x, rb := .x, ok := w.plain }
  match w.op with
  | 0x01 => some xxx
  | 0x02 => some xxx
  | 0x03 => some xxx
  | 0x04 => some xxx
  | 0x05 => some xxx
  | 0x06 => some { xxx with imm := true }
  | 0x07 => some { xxx with imm := true }
  | 0x08 => some { xxx with imm := true }
  | 0x09 => some xxx
  | 0x0A => some { rd := .x, ra := .x, imm := true, ok := w.plain }
  | 0x0B => some { rd := .x, imm := true, ok := w.plain }
  | 0x0C => some xxx
  | 0x0D => some { rd := .p, ra := .x, rb := .x, ok := w.modBelow 6 }
  | 0x0E => some { rd := .p, ra := .x, imm := true, ok := w.modBelow 6 }
  | 0x0F => some { rd := .x, ra := .x, imm := true, ok := w.plain }
  | 0x10 => some { rd := .x, ra := .v, imm := true, ok := w.plain }
  | 0x11 => some { rd := .p, ra := .x, ok := w.plain }
  | 0x12 => some { rd := .x, ra := .p, ok := w.plain }
  | 0x13 => some { rd := .p, ra := .p, rb := .p, ok := w.modBelow 4 }
  | 0x20 => some { imm := true, ok := w.plain }
  | 0x21 => some { rd := .x, imm := true, ok := w.plain }
  | 0x22 => some { ra := .x, ok := w.plain }
  | 0x30 => some { ok := w.plain }
  | 0x31 => some xxx
  | 0x32 => some { ra := .x, rb := .x, ok := w.plain }
  | 0x33 => some { rd := .p, ra := .x, rb := .x, ok := w.plain }
  | 0x34 => some { ra := .x, imm := true, ok := w.plain }
  | 0x35 => some { ra := .x, ok := w.plain }
  | 0x36 => some { rd := .x, imm := true, ok := w.plain }
  | 0x37 => some { ra := .x, imm := true, ok := w.plain }
  | 0x38 => some { ra := .x, ok := w.plain }
  | 0x39 => some { ra := .x, ok := w.plain }
  | 0x3A => some { rd := .x, ok := w.plain }
  | 0x3B => some { rd := .x, ok := w.plain }
  | 0x3C => some { ok := w.modBelow 8 }
  | 0x3D => some { rd := .x, ok := w.plain }
  | 0x3E => some { rd := .x, ok := w.plain }
  | 0x3F => some { rd := .x, ok := w.plain }
  | _ => none

/-- The form of a slot word in a class of slot. -/
def formOf (wf : Nat) (c : Cls) (w : Word128) : Option Form :=
  match c with
  | .P => formP w | .M => formM w | .V => formV w | .A => formA wf w | .S => formS w | .C => formC w

/-- The form's uses fit the word (R252): reserved and unused fields zero, registers legal, FMT and MOD in their lists. -/
def Form.legal (f : Form) (w : Word128) : Bool :=
  f.ok && w.r0 == 0 && w.r1 == 0 && f.rd.ok w.rd && f.ra.ok w.ra && f.rb.ok w.rb && f.rc.ok w.rc && (f.imm || w.imm == 0)

/-- Registers that an operation names as destinations (R229). A window written in place by ARND counts as well. -/
def Form.outs (f : Form) (w : Word128) : List Dst :=
  (if f.rdOut then f.rd.regs w.rd else []) ++ (if f.rcOut then f.rc.regs w.rc else [])

/-- Registers that an operation reads, but for its guard. -/
def Form.ins (f : Form) (w : Word128) : List Dst :=
  (if f.rdIn then f.rd.regs w.rd else []) ++ f.ra.regs w.ra ++ f.rb.regs w.rb ++
    (if f.rcOut then [] else f.rc.regs w.rc)

/-- Window registers that ARND reads, and writes with the clear modifier. -/
def arndWin (wf : Nat) (w : Word128) : List Dst :=
  if w.op = 5 ∧ !w.m 0 then (Use.w (winRegs wf)).regs w.rd else []

/-- Destinations of one slot word; a NOP has none. -/
def slotOuts (wf k : Nat) (w : Word128) : List Dst :=
  if w.op = 0 then []
  else match formOf wf (clsOf k) w with
    | some f => f.outs w ++ (if clsOf k = .A ∧ w.m 2 then arndWin wf w else [])
    | none => []

/-- Source registers of one slot word. -/
def slotIns (wf k : Nat) (w : Word128) : List Dst :=
  if w.op = 0 then []
  else match formOf wf (clsOf k) w with
    | some f => f.ins w ++ (if clsOf k = .A then arndWin wf w else [])
    | none => []

/-- One slot word passes the check of stage D. -/
def slotLegal (wf k : Nat) (w : Word128) : Bool :=
  w.op == 0 || (match formOf wf (clsOf k) w with
    | some f => f.legal w
    | none => false)

/-- The eight slot words of a braid. -/
def braidWords (imem : SMap Byte) (pc : Nat) : List Word128 := (List.range 8).map (slotWord imem pc)

/-- No register is named as a destination by two slots (R229). -/
def disjointOuts : List (List Dst) → Bool
  | [] => true
  | xs :: rest => rest.all (fun ys => xs.all fun d => !ys.contains d) && disjointOuts rest

/-- The braid passes the check of stage D (R229, R252). -/
def braidLegal (wf : Nat) (ws : List Word128) : Bool :=
  ((List.range ws.length).zip ws).all (fun kw => slotLegal wf kw.1 kw.2) &&
    disjointOuts (((List.range ws.length).zip ws).map fun kw => slotOuts wf kw.1 kw.2)

/-- Slots in use, as tag word 3 [15:8] shows them: bit 7 P to bit 0 C (Table 9.13). -/
def slotsUsed (ws : List Word128) : Nat :=
  (((List.range ws.length).zip ws).map fun kw => if kw.2.op = 0 then 0 else 2 ^ (7 - kw.1)).sum

end Sys2Proof.Machine
end

