-- ==== Sys2Proof/Machine/Registers.lean ====
section
/-! DEFINITION. The register map: every register the spec's field tables describe, its BAR0 address, its fields with
their access codes, and its reset value (R5, R430 to R432 and the field tables of each chapter). A 64-bit pair (R9) is two
registers: the low half under the spec's name, the high half under the name with _HI. The three words of POLICER_CFG
are POLICER_CFG0 to POLICER_CFG2, the control word of MGMT_RECOVERY is MGMT_RECOVERY_CTRL. -/

namespace Sys2Proof.Machine

/-- Access codes of Table 0.6 (R5). -/
inductive Access where
  | RW | RO | WO | W1C | W1S | RC | RWL
  deriving DecidableEq, Repr

/-- The registers, by the names of the spec. -/
inductive Reg where
  | DEVICE_ID | MESH_CTRL | D2D_LINK_STATUS | D2D_REPLAY_COUNT | DIE_STATUS | OPTICAL_STATUS | PORT_YFP_CTRL
  | PORT_GROUP_ID | PORT_FAR_GROUP_ID | PORT_FC_STATUS | PORT_HEADROOM | YFP_COUNT | YFP_DEV_CTRL | CHANNEL_CLASS
  | PORT_LANE_CTRL | PORT_LANE_STATUS | OPT_LASER_STATUS | OPT_LINE_POWER | OPT_TS_CTRL | OPT_LANE_POLICY
  | OPT_THERM_CTRL | OPT_THERM_STATUS | LANE_STATUS | LANE_EVENT | LANE_CTRL | LANE_TS_REPORT | LANE_COUNT
  | TIME_NOW_LO | TIME_NOW_HI | TIME_CTRL | TIME_STATUS | TIME_OFFSET | TIME_FREQ_ADJ | TIME_SERVO | TIME_REF_CTRL
  | TIME_PPS_LOAD | TIME_PPS_OUT_ANCHOR | AON_TICK | AON_TICK_HI | TIME_PORT_CTRL | TIME_PORT_DELAY | TQ_CTRL
  | TQ_COUNT | LANYARD_PORT_CTRL | LANYARD_SRC_ADDR | LANYARD_RX_DELAY | LANYARD_TS_START | LANYARD_TS_CTRL
  | LANYARD_ROTA_STAGE | LANYARD_GUARD_STAGE | LANYARD_ROTA_ANCHOR | LANYARD_ROTA_ACTIVE | LANYARD_STATUS
  | LANYARD_CONFLICT | LANYARD_WINDOW | LANYARD_PEER_ADDR | LANYARD_PEER_STATUS | LANYARD_PEER_PATH
  | LANYARD_LANE_VERIFY | LANYARD_COUNT | LANYARD_ROTA | NATIVE_BLOCK | TXN_CTRL | TXN_TIME | TXN_STATUS | TXN_EVENT
  | TXN_GEN | TXN_FLIP_TIME | OVR_SEED | PS_HASH_SEED | TBL_CMD | TBL_INDEX | TBL_STATUS | TBL_DATA
  | LEARN_RANGE_ADDR | LEARN_RANGE_CTRL | SCRUB_STATUS | PARITY_LOG | PARTITION_FENCE | PARTITION_BRIDGE
  | PARTITION_BRIDGE_HI | PARTITION_FLOOD | PORT_PARTITION | LOOKUP_COUNT | BUF_POOL_CTRL | BUF_RESERVE
  | BUF_SHARE_CTRL | PUSHOUT_MAP | SPRAY_SEED | CT_CTRL | BUF_SHARED_STATUS | BUF_STAGE_STATUS | BUF_EVENT
  | PORT_BUF_CTRL | PORT_HOLD_CTRL | PORT_ADMIT | PORT_CORE_STATUS | PORT_STAGE_STATUS | CORE_COUNT | TM_QUEUE_CTRL
  | TM_SHAPER | TM_QUEUE_STATUS | TM_QUEUE_CREDIT | TM_COUNT | CS_PORT_CTRL | CS_COPY_CTRL | TM_EVENT | EXPOSURE_CTRL
  | EXPOSURE_TIME | EXPOSURE_ADDR | EXPOSURE_ADDR_HI | EXPOSURE_STATUS | POLICER_CFG0 | POLICER_CFG1 | POLICER_CFG2
  | POLICER_COUNT | CS_RING_BASE | CS_RING_BASE_HI | CS_RING_CTRL | CS_RING_PROD | CS_RING_CONS | CS_RING_LOST
  | ENGINE_CTRL | ENGINE_STATUS | ENGINE_EVENT | ENGINE_PART_CTRL | ENGINE_IMEM_CTRL | ENGINE_IMEM_CRC
  | ENGINE_IMAGE_ID | ENGINE_DISPATCH_CTRL | ENGINE_FAULT_INFO | ENGINE_IRQ_EN | ENGINE_KNOT_STATUS
  | ENGINE_STAGE_STATUS | ENGINE_CYCLE | ENGINE_CYCLE_HI | ENGINE_PMC_STATUS | ENGINE_PMC_PC | ENGINE_PMC_CTRL
  | ENGINE_PMC | ENGINE_PMC_HI | ENGINE_TAG_CTRL | ENGINE_TAG_STATUS | ENGINE_TAG_CONS | ENGINE_TAG_LOST
  | ENGINE_TAG_SKIPPED | ENGINE_TAG_SEED | ENGINE_COUNT | ENGINE_TAG_BUF | KNOT_CMD | KNOT_CMD_STATUS | KNOT_EVENT
  | KNOT_DATA | KNOT_COUNT | HOLD_CTRL | HOLD_STATUS | HOLD_SEED | HOLD_INDEX_CTRL | HOLD_RING_BASE
  | HOLD_RING_BASE_HI | HOLD_RING_SIZE | HOLD_SCRUB_CTRL | HOLD_SCRUB_STATUS | HOLD_EVENT | HOLD_ECC_LOG | HOLD_SHAPE
  | HOLD_POOL_BASE | HOLD_POOL_BASE_HI | HOLD_POOL_ROWS | HOLD_POOL_USED | HOLD_COUNT | INTEG_CTRL | INTEG_CLASS_CTRL
  | INTEG_LOG_TIME | INTEG_STATUS | INTEG_EVENT | INTEG_UNIT_CMD | INTEG_UNIT_STATUS | INTEG_BUDGET | INTEG_FB_PROD
  | INTEG_FB_CONS | INTEG_NOTICE_CTRL | INTEG_COUNT | INTEG_FB_RECORD | HOST_BAD_ACCESS | HOST_IRQ_PENDING
  | HOST_IRQ_PENDING_HI | CMD_RING_BASE | CMD_RING_BASE_HI | CMD_RING_CTRL | CMD_RING_TAIL | CMD_RING_HEAD
  | CPL_RING_BASE | CPL_RING_BASE_HI | CPL_RING_CTRL | CPL_RING_HEAD | CPL_RING_TAIL | CMD_EVENT | DMA_CH_CTRL
  | DMA_CH_STATUS | DMA_CH_TAIL | DMA_CH_CPL_INDEX | DMA_CH_RING_BASE | DMA_CH_RING_BASE_HI | DMA_CH_CPL_BASE
  | DMA_CH_CPL_BASE_HI | DMA_CH_RING_CFG | DMA_CH_SHADOW_CTRL | MGMT_STATUS | MGMT_BOOT_CTRL | MGMT_FW_VERSION
  | MGMT_EVENT | MGMT_IRQ_EN | MGMT_NET_CFG | MGMT_MAC_ADDR | MGMT_MAC_ADDR_HI | MGMT_IP_ADDR | MGMT_FM_ADDR
  | MGMT_PORTS | MGMT_SESSION_KEY | MGMT_KEY_CTRL | MGMT_RECOVERY | MGMT_RECOVERY_HI | MGMT_RECOVERY_CTRL
  | MGMT_COUNT | MGMT_MEASURE | I3C_STATUS | PWR_CTRL | PWR_STATUS | PWR_STAGGER | WAKE_EN | WAKE_SOURCE | WAKE_TIMER
  | WAKE_TIMER_HI | PAD_RELEASE | THERM_CTRL | RESET_CTRL | RESET_CAUSE | UNIT_RESET | DIE_PWR_STATUS | BAR2_WINDOW
  | MSIX_ADDR | MSIX_ADDR_HI | MSIX_DATA | MSIX_CTRL | MSIX_PBA
  deriving DecidableEq, Repr

/-- One register of the map: its address in BAR0 and its reset value. -/
structure RegRef where
  addr : Nat
  reset : Word
  deriving DecidableEq, Repr

/-- A field: its most and its least significant bit. -/
structure Fld where
  hi : Nat
  lo : Nat
  deriving DecidableEq, Repr

/-- A row of a field table: bits, access code, and reset value. -/
structure FieldRow where
  fld : Fld
  acc : Access
  reset : Nat
  deriving DecidableEq, Repr

/-- One dimension of a register array: the first index, how many, and the stride in bytes. -/
structure Dim where
  first : Nat
  count : Nat
  stride : Nat
  deriving DecidableEq, Repr

/-- A register of the index: where index 0 of every dimension would lie, the dimensions, the fields. -/
structure RegRow where
  reg : Reg
  base : Nat
  dims : List Dim
  fields : List FieldRow
  deriving DecidableEq, Repr

/-- Mask of a field's bits, right aligned. -/
def Fld.ones (f : Fld) : Nat := 2 ^ (f.hi + 1 - f.lo) - 1

/-- The value of a field of a register word. -/
def Fld.get (f : Fld) (w : Word) : Nat := (w.toNat / 2 ^ f.lo) % 2 ^ (f.hi + 1 - f.lo)

/-- A register word with one field set to n (modulo the field's width). -/
def Fld.put (f : Fld) (w : Word) (n : Nat) : Word :=
  (w &&& ~~~(BitVec.ofNat 32 (f.ones * 2 ^ f.lo))) ||| BitVec.ofNat 32 ((n % 2 ^ (f.hi + 1 - f.lo)) * 2 ^ f.lo)

/-- Automatic retirement limits of Table 13.11 by unit kind (R355). -/
def budgetLimit (k : Nat) : Nat :=
  match k with
  | 2 => 64
  | 3 => 1
  | 4 => 8
  | 5 => 8
  | 6 => 2
  | 7 => 64
  | 8 => 8
  | _ => 0

/-- Reset width of port p: 8 at the first port of a lane group and at a lanyard port, else 0 (R96). -/
def portResetWidth (p : Nat) : Nat := if p % 8 = 0 ∨ 128 ≤ p then 8 else 0


/-! Addresses and reset values. -/

/-- DEVICE_ID (R2 spec/00_scope.md). -/
def R.DEVICE_ID : RegRef := ⟨0, 0x10241100#32⟩
/-- MESH_CTRL (R26 spec/01_architecture.md). -/
def R.MESH_CTRL (d : Nat) : RegRef := ⟨0x10408000 + d * 0x1000000, 0x10001#32⟩
/-- D2D_LINK_STATUS (R26 spec/01_architecture.md). -/
def R.D2D_LINK_STATUS (d : Nat) (p : Nat) : RegRef := ⟨0x10408100 + d * 0x1000000 + p * 0x10, 0#32⟩
/-- D2D_REPLAY_COUNT (R26 spec/01_architecture.md). -/
def R.D2D_REPLAY_COUNT (d : Nat) (p : Nat) : RegRef := ⟨0x10408104 + d * 0x1000000 + p * 0x10, 0#32⟩
/-- DIE_STATUS (R34 spec/01_architecture.md). -/
def R.DIE_STATUS : RegRef := ⟨0x10, 0#32⟩
/-- OPTICAL_STATUS (R34 spec/01_architecture.md). -/
def R.OPTICAL_STATUS : RegRef := ⟨0x14, 0#32⟩
/-- PORT_YFP_CTRL (R70 spec/02_fabric_protocol.md). -/
def R.PORT_YFP_CTRL (d : Nat) (p : Nat) : RegRef := ⟨0x10000100 + d * 0x1000000 + p * 0x1000, 0x64#32⟩
/-- PORT_GROUP_ID (R70 spec/02_fabric_protocol.md). -/
def R.PORT_GROUP_ID (d : Nat) (p : Nat) : RegRef := ⟨0x10000104 + d * 0x1000000 + p * 0x1000, BitVec.ofNat 32 (0x10240000 + d * 0x100 + (if p < 128 then p / 8 else p - 112))⟩
/-- PORT_FAR_GROUP_ID (R70 spec/02_fabric_protocol.md). -/
def R.PORT_FAR_GROUP_ID (d : Nat) (p : Nat) : RegRef := ⟨0x10000108 + d * 0x1000000 + p * 0x1000, 0#32⟩
/-- PORT_FC_STATUS (R70 spec/02_fabric_protocol.md). -/
def R.PORT_FC_STATUS (d : Nat) (p : Nat) : RegRef := ⟨0x1000010C + d * 0x1000000 + p * 0x1000, 0#32⟩
/-- PORT_HEADROOM (R70 spec/02_fabric_protocol.md). -/
def R.PORT_HEADROOM (d : Nat) (p : Nat) : RegRef := ⟨0x10000110 + d * 0x1000000 + p * 0x1000, 0x64#32⟩
/-- YFP_COUNT (R70 spec/02_fabric_protocol.md). -/
def R.YFP_COUNT (d : Nat) (p : Nat) (n : Nat) : RegRef := ⟨0x10000180 + d * 0x1000000 + p * 0x1000 + n * 4, 0#32⟩
/-- YFP_DEV_CTRL (R72 spec/02_fabric_protocol.md). -/
def R.YFP_DEV_CTRL : RegRef := ⟨0x100, 0x108#32⟩
/-- CHANNEL_CLASS (R73 spec/02_fabric_protocol.md). -/
def R.CHANNEL_CLASS (d : Nat) (q : Nat) (w : Nat) : RegRef := ⟨0x1060F000 + d * 0x1000000 + q * 0x40 + w * 4, 0#32⟩
/-- PORT_LANE_CTRL (R96 spec/03_optical_lanes.md). -/
def R.PORT_LANE_CTRL (d : Nat) (p : Nat) : RegRef := ⟨0x10000000 + d * 0x1000000 + p * 0x1000, BitVec.ofNat 32 (0x100 + portResetWidth p)⟩
/-- PORT_LANE_STATUS (R96 spec/03_optical_lanes.md). -/
def R.PORT_LANE_STATUS (d : Nat) (p : Nat) : RegRef := ⟨0x10000004 + d * 0x1000000 + p * 0x1000, 0#32⟩
/-- OPT_LASER_STATUS (R97 spec/03_optical_lanes.md). -/
def R.OPT_LASER_STATUS (n : Nat) : RegRef := ⟨0xC000000 + n * 0x100000, 0#32⟩
/-- OPT_LINE_POWER (R97 spec/03_optical_lanes.md). -/
def R.OPT_LINE_POWER (n : Nat) (j : Nat) : RegRef := ⟨0xC000010 + n * 0x100000 + j * 4, 0x8000#32⟩
/-- OPT_TS_CTRL (R97 spec/03_optical_lanes.md). -/
def R.OPT_TS_CTRL (n : Nat) : RegRef := ⟨0xC000100 + n * 0x100000, 0x5140096#32⟩
/-- OPT_LANE_POLICY (R97 spec/03_optical_lanes.md). -/
def R.OPT_LANE_POLICY (n : Nat) : RegRef := ⟨0xC000104 + n * 0x100000, 0xA003E83#32⟩
/-- OPT_THERM_CTRL (R97 spec/03_optical_lanes.md). -/
def R.OPT_THERM_CTRL (n : Nat) : RegRef := ⟨0xC000200 + n * 0x100000, 0x503C#32⟩
/-- OPT_THERM_STATUS (R97 spec/03_optical_lanes.md). -/
def R.OPT_THERM_STATUS (n : Nat) : RegRef := ⟨0xC000204 + n * 0x100000, 0#32⟩
/-- LANE_STATUS (R98 spec/03_optical_lanes.md). -/
def R.LANE_STATUS (n : Nat) (k : Nat) : RegRef := ⟨0xC010000 + n * 0x100000 + k * 0x400, 0xFF00000#32⟩
/-- LANE_EVENT (R98 spec/03_optical_lanes.md). -/
def R.LANE_EVENT (n : Nat) (k : Nat) : RegRef := ⟨0xC010004 + n * 0x100000 + k * 0x400, 0#32⟩
/-- LANE_CTRL (R98 spec/03_optical_lanes.md). -/
def R.LANE_CTRL (n : Nat) (k : Nat) : RegRef := ⟨0xC010008 + n * 0x100000 + k * 0x400, 0#32⟩
/-- LANE_TS_REPORT (R98 spec/03_optical_lanes.md). -/
def R.LANE_TS_REPORT (n : Nat) (k : Nat) (w : Nat) : RegRef := ⟨0xC010040 + n * 0x100000 + k * 0x400 + w * 4, 0#32⟩
/-- LANE_COUNT (R98 spec/03_optical_lanes.md). -/
def R.LANE_COUNT (n : Nat) (k : Nat) (i : Nat) : RegRef := ⟨0xC010080 + n * 0x100000 + k * 0x400 + i * 4, 0#32⟩
/-- TIME_NOW_LO (R113 spec/04_fabric_time.md). -/
def R.TIME_NOW_LO : RegRef := ⟨0x1300000, 0#32⟩
/-- TIME_NOW_HI (R113 spec/04_fabric_time.md). -/
def R.TIME_NOW_HI : RegRef := ⟨0x1300004, 0#32⟩
/-- TIME_CTRL (R113 spec/04_fabric_time.md). -/
def R.TIME_CTRL : RegRef := ⟨0x1300010, 0x64007D#32⟩
/-- TIME_STATUS (R113 spec/04_fabric_time.md). -/
def R.TIME_STATUS : RegRef := ⟨0x1300014, 0xFF0000#32⟩
/-- TIME_OFFSET (R113 spec/04_fabric_time.md). -/
def R.TIME_OFFSET : RegRef := ⟨0x1300018, 0#32⟩
/-- TIME_FREQ_ADJ (R113 spec/04_fabric_time.md). -/
def R.TIME_FREQ_ADJ : RegRef := ⟨0x130001C, 0#32⟩
/-- TIME_SERVO (R113 spec/04_fabric_time.md). -/
def R.TIME_SERVO : RegRef := ⟨0x1300020, 0x3E80A38#32⟩
/-- TIME_REF_CTRL (R113 spec/04_fabric_time.md). -/
def R.TIME_REF_CTRL : RegRef := ⟨0x1300024, 0#32⟩
/-- TIME_PPS_LOAD (R113 spec/04_fabric_time.md). -/
def R.TIME_PPS_LOAD : RegRef := ⟨0x1300028, 0#32⟩
/-- TIME_PPS_OUT_ANCHOR (R113 spec/04_fabric_time.md). -/
def R.TIME_PPS_OUT_ANCHOR : RegRef := ⟨0x130002C, 0#32⟩
/-- AON_TICK (R113 spec/04_fabric_time.md). -/
def R.AON_TICK : RegRef := ⟨0x1300030, 0#32⟩
/-- AON_TICK, high half (R113 spec/04_fabric_time.md). -/
def R.AON_TICK_HI : RegRef := ⟨0x1300034, 0#32⟩
/-- TIME_PORT_CTRL (R114 spec/04_fabric_time.md). -/
def R.TIME_PORT_CTRL (d : Nat) (p : Nat) : RegRef := ⟨0x10000200 + d * 0x1000000 + p * 0x1000, 0#32⟩
/-- TIME_PORT_DELAY (R114 spec/04_fabric_time.md). -/
def R.TIME_PORT_DELAY (d : Nat) (p : Nat) : RegRef := ⟨0x10000204 + d * 0x1000000 + p * 0x1000, 0#32⟩
/-- TQ_CTRL (R114 spec/04_fabric_time.md). -/
def R.TQ_CTRL (d : Nat) (p : Nat) : RegRef := ⟨0x10000210 + d * 0x1000000 + p * 0x1000, 0xC3E80064#32⟩
/-- TQ_COUNT (R114 spec/04_fabric_time.md). -/
def R.TQ_COUNT (d : Nat) (p : Nat) (i : Nat) : RegRef := ⟨0x10000220 + d * 0x1000000 + p * 0x1000 + i * 4, 0#32⟩
/-- LANYARD_PORT_CTRL (R136 spec/05_lanyards.md). -/
def R.LANYARD_PORT_CTRL (d : Nat) (p : Nat) : RegRef := ⟨0x10000300 + d * 0x1000000 + p * 0x1000, 0x3E80A00#32⟩
/-- LANYARD_SRC_ADDR (R136 spec/05_lanyards.md). -/
def R.LANYARD_SRC_ADDR (d : Nat) (p : Nat) : RegRef := ⟨0x10000304 + d * 0x1000000 + p * 0x1000, 0#32⟩
/-- LANYARD_RX_DELAY (R136 spec/05_lanyards.md). -/
def R.LANYARD_RX_DELAY (d : Nat) (p : Nat) : RegRef := ⟨0x10000308 + d * 0x1000000 + p * 0x1000, 0#32⟩
/-- LANYARD_TS_START (R136 spec/05_lanyards.md). -/
def R.LANYARD_TS_START (d : Nat) (p : Nat) : RegRef := ⟨0x1000030C + d * 0x1000000 + p * 0x1000, 0#32⟩
/-- LANYARD_TS_CTRL (R136 spec/05_lanyards.md). -/
def R.LANYARD_TS_CTRL (d : Nat) (p : Nat) : RegRef := ⟨0x10000310 + d * 0x1000000 + p * 0x1000, 0x1DE#32⟩
/-- LANYARD_ROTA_STAGE (R136 spec/05_lanyards.md). -/
def R.LANYARD_ROTA_STAGE (d : Nat) (p : Nat) : RegRef := ⟨0x10000314 + d * 0x1000000 + p * 0x1000, 0x7D00400#32⟩
/-- LANYARD_GUARD_STAGE (R136 spec/05_lanyards.md). -/
def R.LANYARD_GUARD_STAGE (d : Nat) (p : Nat) : RegRef := ⟨0x10000318 + d * 0x1000000 + p * 0x1000, 0x64#32⟩
/-- LANYARD_ROTA_ANCHOR (R136 spec/05_lanyards.md). -/
def R.LANYARD_ROTA_ANCHOR (d : Nat) (p : Nat) : RegRef := ⟨0x1000031C + d * 0x1000000 + p * 0x1000, 0#32⟩
/-- LANYARD_ROTA_ACTIVE (R136 spec/05_lanyards.md). -/
def R.LANYARD_ROTA_ACTIVE (d : Nat) (p : Nat) : RegRef := ⟨0x10000320 + d * 0x1000000 + p * 0x1000, 0x7D00400#32⟩
/-- LANYARD_STATUS (R136 spec/05_lanyards.md). -/
def R.LANYARD_STATUS (d : Nat) (p : Nat) : RegRef := ⟨0x10000324 + d * 0x1000000 + p * 0x1000, 0x6400#32⟩
/-- LANYARD_CONFLICT (R136 spec/05_lanyards.md). -/
def R.LANYARD_CONFLICT (d : Nat) (p : Nat) : RegRef := ⟨0x10000328 + d * 0x1000000 + p * 0x1000, 0#32⟩
/-- LANYARD_WINDOW (R136 spec/05_lanyards.md). -/
def R.LANYARD_WINDOW (d : Nat) (p : Nat) : RegRef := ⟨0x1000032C + d * 0x1000000 + p * 0x1000, 0x5B72424#32⟩
/-- LANYARD_PEER_ADDR (R136 spec/05_lanyards.md). -/
def R.LANYARD_PEER_ADDR (d : Nat) (p : Nat) (c : Nat) : RegRef := ⟨0x10000400 + d * 0x1000000 + p * 0x1000 + c * 8, 0#32⟩
/-- LANYARD_PEER_STATUS (R136 spec/05_lanyards.md). -/
def R.LANYARD_PEER_STATUS (d : Nat) (p : Nat) (c : Nat) : RegRef := ⟨0x10000404 + d * 0x1000000 + p * 0x1000 + c * 8, 0#32⟩
/-- LANYARD_PEER_PATH (R136 spec/05_lanyards.md). -/
def R.LANYARD_PEER_PATH (d : Nat) (p : Nat) (c : Nat) : RegRef := ⟨0x10000500 + d * 0x1000000 + p * 0x1000 + c * 4, 0#32⟩
/-- LANYARD_LANE_VERIFY (R136 spec/05_lanyards.md). -/
def R.LANYARD_LANE_VERIFY (d : Nat) (p : Nat) (L : Nat) (r : Nat) : RegRef := ⟨0x10000580 + d * 0x1000000 + p * 0x1000 + L * 8 + r * 4, 0#32⟩
/-- LANYARD_COUNT (R136 spec/05_lanyards.md). -/
def R.LANYARD_COUNT (d : Nat) (p : Nat) (i : Nat) : RegRef := ⟨0x10000600 + d * 0x1000000 + p * 0x1000 + i * 4, 0#32⟩
/-- LANYARD_ROTA (R138 spec/05_lanyards.md). -/
def R.LANYARD_ROTA (d : Nat) (p : Nat) (L : Nat) (s : Nat) : RegRef := ⟨0x10280000 + d * 0x1000000 + p * 0x8000 + L * 0x1000 + s * 4, 0#32⟩
/-- NATIVE_BLOCK (R171 spec/06_forwarding.md). -/
def R.NATIVE_BLOCK (d : Nat) : RegRef := ⟨0x10600000 + d * 0x1000000, 0xFFF00#32⟩
/-- TXN_CTRL (R171 spec/06_forwarding.md). -/
def R.TXN_CTRL (d : Nat) : RegRef := ⟨0x10600010 + d * 0x1000000, 0#32⟩
/-- TXN_TIME (R171 spec/06_forwarding.md). -/
def R.TXN_TIME (d : Nat) : RegRef := ⟨0x10600014 + d * 0x1000000, 0#32⟩
/-- TXN_STATUS (R171 spec/06_forwarding.md). -/
def R.TXN_STATUS (d : Nat) : RegRef := ⟨0x10600018 + d * 0x1000000, 0#32⟩
/-- TXN_EVENT (R171 spec/06_forwarding.md). -/
def R.TXN_EVENT (d : Nat) : RegRef := ⟨0x1060001C + d * 0x1000000, 0#32⟩
/-- TXN_GEN (R171 spec/06_forwarding.md). -/
def R.TXN_GEN (d : Nat) : RegRef := ⟨0x10600020 + d * 0x1000000, 0#32⟩
/-- TXN_FLIP_TIME (R171 spec/06_forwarding.md). -/
def R.TXN_FLIP_TIME (d : Nat) : RegRef := ⟨0x10600024 + d * 0x1000000, 0#32⟩
/-- OVR_SEED (R171 spec/06_forwarding.md). -/
def R.OVR_SEED (d : Nat) (i : Nat) : RegRef := ⟨0x10600030 + d * 0x1000000 + i * 4, BitVec.ofNat 32 (0x1B873593 + i * 0x20000001)⟩
/-- PS_HASH_SEED (R171 spec/06_forwarding.md). -/
def R.PS_HASH_SEED (d : Nat) : RegRef := ⟨0x10600038 + d * 0x1000000, 0xFFFFFFFF#32⟩
/-- TBL_CMD (R171 spec/06_forwarding.md). -/
def R.TBL_CMD (d : Nat) : RegRef := ⟨0x10600100 + d * 0x1000000, 0#32⟩
/-- TBL_INDEX (R171 spec/06_forwarding.md). -/
def R.TBL_INDEX (d : Nat) : RegRef := ⟨0x10600104 + d * 0x1000000, 0#32⟩
/-- TBL_STATUS (R171 spec/06_forwarding.md). -/
def R.TBL_STATUS (d : Nat) : RegRef := ⟨0x10600108 + d * 0x1000000, 0#32⟩
/-- TBL_DATA (R171 spec/06_forwarding.md). -/
def R.TBL_DATA (d : Nat) (w : Nat) : RegRef := ⟨0x10600140 + d * 0x1000000 + w * 4, 0#32⟩
/-- LEARN_RANGE_ADDR (R171 spec/06_forwarding.md). -/
def R.LEARN_RANGE_ADDR (d : Nat) (r : Nat) : RegRef := ⟨0x10600300 + d * 0x1000000 + r * 8, 0#32⟩
/-- LEARN_RANGE_CTRL (R171 spec/06_forwarding.md). -/
def R.LEARN_RANGE_CTRL (d : Nat) (r : Nat) : RegRef := ⟨0x10600304 + d * 0x1000000 + r * 8, 0x20#32⟩
/-- SCRUB_STATUS (R171 spec/06_forwarding.md). -/
def R.SCRUB_STATUS (d : Nat) : RegRef := ⟨0x10600400 + d * 0x1000000, 0#32⟩
/-- PARITY_LOG (R171 spec/06_forwarding.md). -/
def R.PARITY_LOG (d : Nat) : RegRef := ⟨0x10600404 + d * 0x1000000, 0#32⟩
/-- PARTITION_FENCE (R171 spec/06_forwarding.md). -/
def R.PARTITION_FENCE (d : Nat) (q : Nat) : RegRef := ⟨0x10602000 + d * 0x1000000 + q * 0x10, 0#32⟩
/-- PARTITION_BRIDGE (R171 spec/06_forwarding.md). -/
def R.PARTITION_BRIDGE (d : Nat) (q : Nat) : RegRef := ⟨0x10602004 + d * 0x1000000 + q * 0x10, 0#32⟩
/-- PARTITION_BRIDGE, high half (R171 spec/06_forwarding.md). -/
def R.PARTITION_BRIDGE_HI (d : Nat) (q : Nat) : RegRef := ⟨0x10602008 + d * 0x1000000 + q * 0x10, 0#32⟩
/-- PARTITION_FLOOD (R171 spec/06_forwarding.md). -/
def R.PARTITION_FLOOD (d : Nat) (q : Nat) : RegRef := ⟨0x1060200C + d * 0x1000000 + q * 0x10, 0#32⟩
/-- PORT_PARTITION (R171 spec/06_forwarding.md). -/
def R.PORT_PARTITION (d : Nat) (p : Nat) : RegRef := ⟨0x10000130 + d * 0x1000000 + p * 0x1000, BitVec.ofNat 32 (0 + (if 128 ≤ p then 0x80000000 else 0))⟩
/-- LOOKUP_COUNT (R171 spec/06_forwarding.md). -/
def R.LOOKUP_COUNT (d : Nat) (ll : Nat) (i : Nat) : RegRef := ⟨0x10601000 + d * 0x1000000 + ll * 0x40 + i * 4, 0#32⟩
/-- BUF_POOL_CTRL (R194 spec/07_switch_core.md). -/
def R.BUF_POOL_CTRL (d : Nat) : RegRef := ⟨0x10400000 + d * 0x1000000, 0x8000#32⟩
/-- BUF_RESERVE (R194 spec/07_switch_core.md). -/
def R.BUF_RESERVE (d : Nat) : RegRef := ⟨0x10400004 + d * 0x1000000, 0x10001000#32⟩
/-- BUF_SHARE_CTRL (R194 spec/07_switch_core.md). -/
def R.BUF_SHARE_CTRL (d : Nat) : RegRef := ⟨0x10400008 + d * 0x1000000, 1#32⟩
/-- PUSHOUT_MAP (R194 spec/07_switch_core.md). -/
def R.PUSHOUT_MAP (d : Nat) : RegRef := ⟨0x1040000C + d * 0x1000000, 0x76543210#32⟩
/-- SPRAY_SEED (R194 spec/07_switch_core.md). -/
def R.SPRAY_SEED (d : Nat) : RegRef := ⟨0x10400010 + d * 0x1000000, 0x2545F491#32⟩
/-- CT_CTRL (R194 spec/07_switch_core.md). -/
def R.CT_CTRL (d : Nat) : RegRef := ⟨0x10400014 + d * 0x1000000, 1#32⟩
/-- BUF_SHARED_STATUS (R194 spec/07_switch_core.md). -/
def R.BUF_SHARED_STATUS (d : Nat) : RegRef := ⟨0x10400020 + d * 0x1000000, 0#32⟩
/-- BUF_STAGE_STATUS (R194 spec/07_switch_core.md). -/
def R.BUF_STAGE_STATUS (d : Nat) : RegRef := ⟨0x10400024 + d * 0x1000000, 0#32⟩
/-- BUF_EVENT (R194 spec/07_switch_core.md). -/
def R.BUF_EVENT (d : Nat) : RegRef := ⟨0x10400030 + d * 0x1000000, 0#32⟩
/-- PORT_BUF_CTRL (R195 spec/07_switch_core.md). -/
def R.PORT_BUF_CTRL (d : Nat) (p : Nat) : RegRef := ⟨0x10000700 + d * 0x1000000 + p * 0x1000, 0x4A8040#32⟩
/-- PORT_HOLD_CTRL (R195 spec/07_switch_core.md). -/
def R.PORT_HOLD_CTRL (d : Nat) (p : Nat) : RegRef := ⟨0x10000704 + d * 0x1000000 + p * 0x1000, 0x14#32⟩
/-- PORT_ADMIT (R195 spec/07_switch_core.md). -/
def R.PORT_ADMIT (d : Nat) (p : Nat) : RegRef := ⟨0x10000708 + d * 0x1000000 + p * 0x1000, 0#32⟩
/-- PORT_CORE_STATUS (R195 spec/07_switch_core.md). -/
def R.PORT_CORE_STATUS (d : Nat) (p : Nat) : RegRef := ⟨0x1000070C + d * 0x1000000 + p * 0x1000, BitVec.ofNat 32 (if portResetWidth p = 0 then 0 else 0x10000000)⟩
/-- PORT_STAGE_STATUS (R195 spec/07_switch_core.md). -/
def R.PORT_STAGE_STATUS (d : Nat) (p : Nat) : RegRef := ⟨0x10000710 + d * 0x1000000 + p * 0x1000, 0#32⟩
/-- CORE_COUNT (R195 spec/07_switch_core.md). -/
def R.CORE_COUNT (d : Nat) (p : Nat) (i : Nat) : RegRef := ⟨0x10000740 + d * 0x1000000 + p * 0x1000 + i * 4, 0#32⟩
/-- TM_QUEUE_CTRL (R213 spec/08_traffic_management.md). -/
def R.TM_QUEUE_CTRL (d : Nat) (p : Nat) (t : Nat) : RegRef := ⟨0x10800000 + d * 0x1000000 + p * 0x200 + t * 0x20, BitVec.ofNat 32 (0x4880000 + t * 0x20000000)⟩
/-- TM_SHAPER (R213 spec/08_traffic_management.md). -/
def R.TM_SHAPER (d : Nat) (p : Nat) (t : Nat) : RegRef := ⟨0x10800004 + d * 0x1000000 + p * 0x200 + t * 0x20, 0x1000000#32⟩
/-- TM_QUEUE_STATUS (R213 spec/08_traffic_management.md). -/
def R.TM_QUEUE_STATUS (d : Nat) (p : Nat) (t : Nat) : RegRef := ⟨0x10800008 + d * 0x1000000 + p * 0x200 + t * 0x20, 0#32⟩
/-- TM_QUEUE_CREDIT (R213 spec/08_traffic_management.md). -/
def R.TM_QUEUE_CREDIT (d : Nat) (p : Nat) (t : Nat) : RegRef := ⟨0x1080000C + d * 0x1000000 + p * 0x200 + t * 0x20, 0#32⟩
/-- TM_COUNT (R213 spec/08_traffic_management.md). -/
def R.TM_COUNT (d : Nat) (p : Nat) (i : Nat) : RegRef := ⟨0x10820000 + d * 0x1000000 + p * 0x40 + i * 4, 0#32⟩
/-- CS_PORT_CTRL (R214 spec/08_traffic_management.md). -/
def R.CS_PORT_CTRL (d : Nat) (p : Nat) : RegRef := ⟨0x10824000 + d * 0x1000000 + p * 4, 0#32⟩
/-- CS_COPY_CTRL (R215 spec/08_traffic_management.md). -/
def R.CS_COPY_CTRL (d : Nat) : RegRef := ⟨0x10830000 + d * 0x1000000, 0#32⟩
/-- TM_EVENT (R215 spec/08_traffic_management.md). -/
def R.TM_EVENT (d : Nat) : RegRef := ⟨0x10830004 + d * 0x1000000, 0#32⟩
/-- EXPOSURE_CTRL (R215 spec/08_traffic_management.md). -/
def R.EXPOSURE_CTRL (d : Nat) : RegRef := ⟨0x10830010 + d * 0x1000000, 0x1F#32⟩
/-- EXPOSURE_TIME (R215 spec/08_traffic_management.md). -/
def R.EXPOSURE_TIME (d : Nat) : RegRef := ⟨0x10830014 + d * 0x1000000, 0#32⟩
/-- EXPOSURE_ADDR (R215 spec/08_traffic_management.md). -/
def R.EXPOSURE_ADDR (d : Nat) : RegRef := ⟨0x10830018 + d * 0x1000000, 0#32⟩
/-- EXPOSURE_ADDR, high half (R215 spec/08_traffic_management.md). -/
def R.EXPOSURE_ADDR_HI (d : Nat) : RegRef := ⟨0x1083001C + d * 0x1000000, 0#32⟩
/-- EXPOSURE_STATUS (R215 spec/08_traffic_management.md). -/
def R.EXPOSURE_STATUS (d : Nat) : RegRef := ⟨0x10830020 + d * 0x1000000, 0#32⟩
/-- POLICER_CFG0 (R215 spec/08_traffic_management.md). -/
def R.POLICER_CFG0 (d : Nat) (i : Nat) : RegRef := ⟨0x10900000 + d * 0x1000000 + i * 0x10, 0x2000000#32⟩
/-- POLICER_CFG1 (R215 spec/08_traffic_management.md). -/
def R.POLICER_CFG1 (d : Nat) (i : Nat) : RegRef := ⟨0x10900004 + d * 0x1000000 + i * 0x10, 0#32⟩
/-- POLICER_CFG2 (R215 spec/08_traffic_management.md). -/
def R.POLICER_CFG2 (d : Nat) (i : Nat) : RegRef := ⟨0x10900008 + d * 0x1000000 + i * 0x10, 0#32⟩
/-- POLICER_COUNT (R215 spec/08_traffic_management.md). -/
def R.POLICER_COUNT (d : Nat) (i : Nat) (c : Nat) : RegRef := ⟨0x10940000 + d * 0x1000000 + i * 0x10 + c * 4, 0#32⟩
/-- CS_RING_BASE (R216 spec/08_traffic_management.md). -/
def R.CS_RING_BASE : RegRef := ⟨0x1000, 0#32⟩
/-- CS_RING_BASE, high half (R216 spec/08_traffic_management.md). -/
def R.CS_RING_BASE_HI : RegRef := ⟨0x1004, 0#32⟩
/-- CS_RING_CTRL (R216 spec/08_traffic_management.md). -/
def R.CS_RING_CTRL : RegRef := ⟨0x1008, 0xC000100#32⟩
/-- CS_RING_PROD (R216 spec/08_traffic_management.md). -/
def R.CS_RING_PROD : RegRef := ⟨0x100C, 0#32⟩
/-- CS_RING_CONS (R216 spec/08_traffic_management.md). -/
def R.CS_RING_CONS : RegRef := ⟨0x1010, 0#32⟩
/-- CS_RING_LOST (R216 spec/08_traffic_management.md). -/
def R.CS_RING_LOST : RegRef := ⟨0x1014, 0#32⟩
/-- ENGINE_CTRL (R248 spec/09_splice_engines.md). -/
def R.ENGINE_CTRL (d : Nat) (ee : Nat) : RegRef := ⟨0x10A00000 + d * 0x1000000 + ee * 0x10000, 1#32⟩
/-- ENGINE_STATUS (R248 spec/09_splice_engines.md). -/
def R.ENGINE_STATUS (d : Nat) (ee : Nat) : RegRef := ⟨0x10A00004 + d * 0x1000000 + ee * 0x10000, 0x16000000#32⟩
/-- ENGINE_EVENT (R248 spec/09_splice_engines.md). -/
def R.ENGINE_EVENT (d : Nat) (ee : Nat) : RegRef := ⟨0x10A00008 + d * 0x1000000 + ee * 0x10000, 0#32⟩
/-- ENGINE_PART_CTRL (R248 spec/09_splice_engines.md). -/
def R.ENGINE_PART_CTRL (d : Nat) (ee : Nat) : RegRef := ⟨0x10A0000C + d * 0x1000000 + ee * 0x10000, 0#32⟩
/-- ENGINE_IMEM_CTRL (R248 spec/09_splice_engines.md). -/
def R.ENGINE_IMEM_CTRL (d : Nat) (ee : Nat) : RegRef := ⟨0x10A00010 + d * 0x1000000 + ee * 0x10000, 0#32⟩
/-- ENGINE_IMEM_CRC (R248 spec/09_splice_engines.md). -/
def R.ENGINE_IMEM_CRC (d : Nat) (ee : Nat) : RegRef := ⟨0x10A00014 + d * 0x1000000 + ee * 0x10000, 0#32⟩
/-- ENGINE_IMAGE_ID (R248 spec/09_splice_engines.md). -/
def R.ENGINE_IMAGE_ID (d : Nat) (ee : Nat) : RegRef := ⟨0x10A00018 + d * 0x1000000 + ee * 0x10000, 0#32⟩
/-- ENGINE_DISPATCH_CTRL (R248 spec/09_splice_engines.md). -/
def R.ENGINE_DISPATCH_CTRL (d : Nat) (ee : Nat) : RegRef := ⟨0x10A0001C + d * 0x1000000 + ee * 0x10000, 0x4000100#32⟩
/-- ENGINE_FAULT_INFO (R248 spec/09_splice_engines.md). -/
def R.ENGINE_FAULT_INFO (d : Nat) (ee : Nat) : RegRef := ⟨0x10A00020 + d * 0x1000000 + ee * 0x10000, 0#32⟩
/-- ENGINE_IRQ_EN (R248 spec/09_splice_engines.md). -/
def R.ENGINE_IRQ_EN (d : Nat) (ee : Nat) : RegRef := ⟨0x10A00024 + d * 0x1000000 + ee * 0x10000, 3#32⟩
/-- ENGINE_KNOT_STATUS (R248 spec/09_splice_engines.md). -/
def R.ENGINE_KNOT_STATUS (d : Nat) (ee : Nat) : RegRef := ⟨0x10A00028 + d * 0x1000000 + ee * 0x10000, 0#32⟩
/-- ENGINE_STAGE_STATUS (R248 spec/09_splice_engines.md). -/
def R.ENGINE_STAGE_STATUS (d : Nat) (ee : Nat) : RegRef := ⟨0x10A0002C + d * 0x1000000 + ee * 0x10000, 0#32⟩
/-- ENGINE_CYCLE (R248 spec/09_splice_engines.md). -/
def R.ENGINE_CYCLE (d : Nat) (ee : Nat) : RegRef := ⟨0x10A00030 + d * 0x1000000 + ee * 0x10000, 0#32⟩
/-- ENGINE_CYCLE, high half (R248 spec/09_splice_engines.md). -/
def R.ENGINE_CYCLE_HI (d : Nat) (ee : Nat) : RegRef := ⟨0x10A00034 + d * 0x1000000 + ee * 0x10000, 0#32⟩
/-- ENGINE_PMC_STATUS (R248 spec/09_splice_engines.md). -/
def R.ENGINE_PMC_STATUS (d : Nat) (ee : Nat) : RegRef := ⟨0x10A00040 + d * 0x1000000 + ee * 0x10000, 0#32⟩
/-- ENGINE_PMC_PC (R248 spec/09_splice_engines.md). -/
def R.ENGINE_PMC_PC (d : Nat) (ee : Nat) : RegRef := ⟨0x10A00044 + d * 0x1000000 + ee * 0x10000, 0#32⟩
/-- ENGINE_PMC_CTRL (R248 spec/09_splice_engines.md). -/
def R.ENGINE_PMC_CTRL (d : Nat) (ee : Nat) (i : Nat) : RegRef := ⟨0x10A00080 + d * 0x1000000 + ee * 0x10000 + i * 0x10, 0#32⟩
/-- ENGINE_PMC (R248 spec/09_splice_engines.md). -/
def R.ENGINE_PMC (d : Nat) (ee : Nat) (i : Nat) : RegRef := ⟨0x10A00084 + d * 0x1000000 + ee * 0x10000 + i * 0x10, 0#32⟩
/-- ENGINE_PMC, high half (R248 spec/09_splice_engines.md). -/
def R.ENGINE_PMC_HI (d : Nat) (ee : Nat) (i : Nat) : RegRef := ⟨0x10A00088 + d * 0x1000000 + ee * 0x10000 + i * 0x10, 0#32⟩
/-- ENGINE_TAG_CTRL (R248 spec/09_splice_engines.md). -/
def R.ENGINE_TAG_CTRL (d : Nat) (ee : Nat) : RegRef := ⟨0x10A00100 + d * 0x1000000 + ee * 0x10000, 0xA00080#32⟩
/-- ENGINE_TAG_STATUS (R248 spec/09_splice_engines.md). -/
def R.ENGINE_TAG_STATUS (d : Nat) (ee : Nat) : RegRef := ⟨0x10A00104 + d * 0x1000000 + ee * 0x10000, 0#32⟩
/-- ENGINE_TAG_CONS (R248 spec/09_splice_engines.md). -/
def R.ENGINE_TAG_CONS (d : Nat) (ee : Nat) : RegRef := ⟨0x10A00108 + d * 0x1000000 + ee * 0x10000, 0#32⟩
/-- ENGINE_TAG_LOST (R248 spec/09_splice_engines.md). -/
def R.ENGINE_TAG_LOST (d : Nat) (ee : Nat) : RegRef := ⟨0x10A0010C + d * 0x1000000 + ee * 0x10000, 0#32⟩
/-- ENGINE_TAG_SKIPPED (R248 spec/09_splice_engines.md). -/
def R.ENGINE_TAG_SKIPPED (d : Nat) (ee : Nat) : RegRef := ⟨0x10A00110 + d * 0x1000000 + ee * 0x10000, 0#32⟩
/-- ENGINE_TAG_SEED (R248 spec/09_splice_engines.md). -/
def R.ENGINE_TAG_SEED (d : Nat) (ee : Nat) : RegRef := ⟨0x10A00114 + d * 0x1000000 + ee * 0x10000, 0x9E3779B9#32⟩
/-- ENGINE_COUNT (R248 spec/09_splice_engines.md). -/
def R.ENGINE_COUNT (d : Nat) (ee : Nat) (i : Nat) : RegRef := ⟨0x10A00180 + d * 0x1000000 + ee * 0x10000 + i * 4, 0#32⟩
/-- ENGINE_TAG_BUF (R248 spec/09_splice_engines.md). -/
def R.ENGINE_TAG_BUF (d : Nat) (ee : Nat) (s : Nat) (w : Nat) : RegRef := ⟨0x10A08000 + d * 0x1000000 + ee * 0x10000 + s * 0x20 + w * 4, 0#32⟩
/-- KNOT_CMD (R312 spec/11_collectives.md). -/
def R.KNOT_CMD (d : Nat) : RegRef := ⟨0x10C00000 + d * 0x1000000, 0#32⟩
/-- KNOT_CMD_STATUS (R312 spec/11_collectives.md). -/
def R.KNOT_CMD_STATUS (d : Nat) : RegRef := ⟨0x10C00004 + d * 0x1000000, 0#32⟩
/-- KNOT_EVENT (R312 spec/11_collectives.md). -/
def R.KNOT_EVENT (d : Nat) : RegRef := ⟨0x10C00008 + d * 0x1000000, 0#32⟩
/-- KNOT_DATA (R312 spec/11_collectives.md). -/
def R.KNOT_DATA (d : Nat) (w : Nat) : RegRef := ⟨0x10C00100 + d * 0x1000000 + w * 4, 0#32⟩
/-- KNOT_COUNT (R312 spec/11_collectives.md). -/
def R.KNOT_COUNT (d : Nat) (i : Nat) : RegRef := ⟨0x10C00200 + d * 0x1000000 + i * 4, 0#32⟩
/-- HOLD_CTRL (R337 spec/12_parameter_hold.md). -/
def R.HOLD_CTRL (m : Nat) : RegRef := ⟨0 + m * 0x1000000, 0x700#32⟩
/-- HOLD_STATUS (R337 spec/12_parameter_hold.md). -/
def R.HOLD_STATUS (m : Nat) : RegRef := ⟨4 + m * 0x1000000, 0#32⟩
/-- HOLD_SEED (R337 spec/12_parameter_hold.md). -/
def R.HOLD_SEED (m : Nat) : RegRef := ⟨8 + m * 0x1000000, 0x6A09E667#32⟩
/-- HOLD_INDEX_CTRL (R337 spec/12_parameter_hold.md). -/
def R.HOLD_INDEX_CTRL (m : Nat) : RegRef := ⟨0xC + m * 0x1000000, 0x18#32⟩
/-- HOLD_RING_BASE (R337 spec/12_parameter_hold.md). -/
def R.HOLD_RING_BASE (m : Nat) : RegRef := ⟨0x10 + m * 0x1000000, 0#32⟩
/-- HOLD_RING_BASE, high half (R337 spec/12_parameter_hold.md). -/
def R.HOLD_RING_BASE_HI (m : Nat) : RegRef := ⟨0x14 + m * 0x1000000, 0#32⟩
/-- HOLD_RING_SIZE (R337 spec/12_parameter_hold.md). -/
def R.HOLD_RING_SIZE (m : Nat) : RegRef := ⟨0x18 + m * 0x1000000, 0#32⟩
/-- HOLD_SCRUB_CTRL (R337 spec/12_parameter_hold.md). -/
def R.HOLD_SCRUB_CTRL (m : Nat) : RegRef := ⟨0x20 + m * 0x1000000, 0xC#32⟩
/-- HOLD_SCRUB_STATUS (R337 spec/12_parameter_hold.md). -/
def R.HOLD_SCRUB_STATUS (m : Nat) : RegRef := ⟨0x24 + m * 0x1000000, 0#32⟩
/-- HOLD_EVENT (R337 spec/12_parameter_hold.md). -/
def R.HOLD_EVENT (m : Nat) : RegRef := ⟨0x30 + m * 0x1000000, 0#32⟩
/-- HOLD_ECC_LOG (R337 spec/12_parameter_hold.md). -/
def R.HOLD_ECC_LOG (m : Nat) : RegRef := ⟨0x34 + m * 0x1000000, 0#32⟩
/-- HOLD_SHAPE (R337 spec/12_parameter_hold.md). -/
def R.HOLD_SHAPE (m : Nat) (s : Nat) : RegRef := ⟨0x100 + m * 0x1000000 + s * 4, 0x1000004#32⟩
/-- HOLD_POOL_BASE (R337 spec/12_parameter_hold.md). -/
def R.HOLD_POOL_BASE (m : Nat) (s : Nat) : RegRef := ⟨0x200 + m * 0x1000000 + s * 0x10, 0#32⟩
/-- HOLD_POOL_BASE, high half (R337 spec/12_parameter_hold.md). -/
def R.HOLD_POOL_BASE_HI (m : Nat) (s : Nat) : RegRef := ⟨0x204 + m * 0x1000000 + s * 0x10, 0#32⟩
/-- HOLD_POOL_ROWS (R337 spec/12_parameter_hold.md). -/
def R.HOLD_POOL_ROWS (m : Nat) (s : Nat) : RegRef := ⟨0x208 + m * 0x1000000 + s * 0x10, 0#32⟩
/-- HOLD_POOL_USED (R337 spec/12_parameter_hold.md). -/
def R.HOLD_POOL_USED (m : Nat) (s : Nat) : RegRef := ⟨0x20C + m * 0x1000000 + s * 0x10, 0#32⟩
/-- HOLD_COUNT (R337 spec/12_parameter_hold.md). -/
def R.HOLD_COUNT (m : Nat) (i : Nat) : RegRef := ⟨0x400 + m * 0x1000000 + i * 4, 0#32⟩
/-- INTEG_CTRL (R364 spec/13_integrity.md). -/
def R.INTEG_CTRL : RegRef := ⟨0x1508000, 0xF00C3218#32⟩
/-- INTEG_CLASS_CTRL (R364 spec/13_integrity.md). -/
def R.INTEG_CLASS_CTRL : RegRef := ⟨0x1508004, 0x3481804#32⟩
/-- INTEG_LOG_TIME (R364 spec/13_integrity.md). -/
def R.INTEG_LOG_TIME : RegRef := ⟨0x1508008, 0#32⟩
/-- INTEG_STATUS (R364 spec/13_integrity.md). -/
def R.INTEG_STATUS : RegRef := ⟨0x150800C, 0#32⟩
/-- INTEG_EVENT (R364 spec/13_integrity.md). -/
def R.INTEG_EVENT : RegRef := ⟨0x1508010, 0#32⟩
/-- INTEG_UNIT_CMD (R364 spec/13_integrity.md). -/
def R.INTEG_UNIT_CMD : RegRef := ⟨0x1508020, 0#32⟩
/-- INTEG_UNIT_STATUS (R364 spec/13_integrity.md). -/
def R.INTEG_UNIT_STATUS : RegRef := ⟨0x1508024, 0#32⟩
/-- INTEG_BUDGET (R364 spec/13_integrity.md). -/
def R.INTEG_BUDGET (k : Nat) : RegRef := ⟨0x1508040 + k * 4, BitVec.ofNat 32 (budgetLimit k)⟩
/-- INTEG_FB_PROD (R364 spec/13_integrity.md). -/
def R.INTEG_FB_PROD : RegRef := ⟨0x1508080, 0#32⟩
/-- INTEG_FB_CONS (R364 spec/13_integrity.md). -/
def R.INTEG_FB_CONS : RegRef := ⟨0x1508084, 0#32⟩
/-- INTEG_NOTICE_CTRL (R364 spec/13_integrity.md). -/
def R.INTEG_NOTICE_CTRL : RegRef := ⟨0x15080A0, 0xB7A40050#32⟩
/-- INTEG_COUNT (R364 spec/13_integrity.md). -/
def R.INTEG_COUNT (i : Nat) : RegRef := ⟨0x1508100 + i * 4, 0#32⟩
/-- INTEG_FB_RECORD (R364 spec/13_integrity.md). -/
def R.INTEG_FB_RECORD (s : Nat) (w : Nat) : RegRef := ⟨0x1509000 + s * 0x40 + w * 4, 0#32⟩
/-- HOST_BAD_ACCESS (R388 spec/14_host_and_dma.md). -/
def R.HOST_BAD_ACCESS : RegRef := ⟨0x200, 0#32⟩
/-- HOST_IRQ_PENDING (R388 spec/14_host_and_dma.md). -/
def R.HOST_IRQ_PENDING : RegRef := ⟨0x208, 0#32⟩
/-- HOST_IRQ_PENDING, high half (R388 spec/14_host_and_dma.md). -/
def R.HOST_IRQ_PENDING_HI : RegRef := ⟨0x20C, 0#32⟩
/-- CMD_RING_BASE (R389 spec/14_host_and_dma.md). -/
def R.CMD_RING_BASE : RegRef := ⟨0x1200000, 0#32⟩
/-- CMD_RING_BASE, high half (R389 spec/14_host_and_dma.md). -/
def R.CMD_RING_BASE_HI : RegRef := ⟨0x1200004, 0#32⟩
/-- CMD_RING_CTRL (R389 spec/14_host_and_dma.md). -/
def R.CMD_RING_CTRL : RegRef := ⟨0x1200008, 8#32⟩
/-- CMD_RING_TAIL (R389 spec/14_host_and_dma.md). -/
def R.CMD_RING_TAIL : RegRef := ⟨0x120000C, 0#32⟩
/-- CMD_RING_HEAD (R389 spec/14_host_and_dma.md). -/
def R.CMD_RING_HEAD : RegRef := ⟨0x1200010, 0#32⟩
/-- CPL_RING_BASE (R389 spec/14_host_and_dma.md). -/
def R.CPL_RING_BASE : RegRef := ⟨0x1200018, 0#32⟩
/-- CPL_RING_BASE, high half (R389 spec/14_host_and_dma.md). -/
def R.CPL_RING_BASE_HI : RegRef := ⟨0x120001C, 0#32⟩
/-- CPL_RING_CTRL (R389 spec/14_host_and_dma.md). -/
def R.CPL_RING_CTRL : RegRef := ⟨0x1200020, 8#32⟩
/-- CPL_RING_HEAD (R389 spec/14_host_and_dma.md). -/
def R.CPL_RING_HEAD : RegRef := ⟨0x1200024, 0#32⟩
/-- CPL_RING_TAIL (R389 spec/14_host_and_dma.md). -/
def R.CPL_RING_TAIL : RegRef := ⟨0x1200028, 0#32⟩
/-- CMD_EVENT (R389 spec/14_host_and_dma.md). -/
def R.CMD_EVENT : RegRef := ⟨0x120002C, 0#32⟩
/-- DMA_CH_CTRL (R390 spec/14_host_and_dma.md). -/
def R.DMA_CH_CTRL (cc : Nat) : RegRef := ⟨0x1100000 + cc * 0x100, 0x10000#32⟩
/-- DMA_CH_STATUS (R390 spec/14_host_and_dma.md). -/
def R.DMA_CH_STATUS (cc : Nat) : RegRef := ⟨0x1100004 + cc * 0x100, 0#32⟩
/-- DMA_CH_TAIL (R390 spec/14_host_and_dma.md). -/
def R.DMA_CH_TAIL (cc : Nat) : RegRef := ⟨0x1100008 + cc * 0x100, 0#32⟩
/-- DMA_CH_CPL_INDEX (R390 spec/14_host_and_dma.md). -/
def R.DMA_CH_CPL_INDEX (cc : Nat) : RegRef := ⟨0x110000C + cc * 0x100, 0#32⟩
/-- DMA_CH_RING_BASE (R390 spec/14_host_and_dma.md). -/
def R.DMA_CH_RING_BASE (cc : Nat) : RegRef := ⟨0x1100020 + cc * 0x100, 0#32⟩
/-- DMA_CH_RING_BASE, high half (R390 spec/14_host_and_dma.md). -/
def R.DMA_CH_RING_BASE_HI (cc : Nat) : RegRef := ⟨0x1100024 + cc * 0x100, 0#32⟩
/-- DMA_CH_CPL_BASE (R390 spec/14_host_and_dma.md). -/
def R.DMA_CH_CPL_BASE (cc : Nat) : RegRef := ⟨0x1100028 + cc * 0x100, 0#32⟩
/-- DMA_CH_CPL_BASE, high half (R390 spec/14_host_and_dma.md). -/
def R.DMA_CH_CPL_BASE_HI (cc : Nat) : RegRef := ⟨0x110002C + cc * 0x100, 0#32⟩
/-- DMA_CH_RING_CFG (R390 spec/14_host_and_dma.md). -/
def R.DMA_CH_RING_CFG (cc : Nat) : RegRef := ⟨0x1100030 + cc * 0x100, 0x808#32⟩
/-- DMA_CH_SHADOW_CTRL (R390 spec/14_host_and_dma.md). -/
def R.DMA_CH_SHADOW_CTRL (cc : Nat) : RegRef := ⟨0x1100034 + cc * 0x100, 0#32⟩
/-- MGMT_STATUS (R409 spec/15_management_and_security.md). -/
def R.MGMT_STATUS : RegRef := ⟨0x1500000, 0#32⟩
/-- MGMT_BOOT_CTRL (R409 spec/15_management_and_security.md). -/
def R.MGMT_BOOT_CTRL : RegRef := ⟨0x1500004, 0#32⟩
/-- MGMT_FW_VERSION (R409 spec/15_management_and_security.md). -/
def R.MGMT_FW_VERSION : RegRef := ⟨0x1500008, 0#32⟩
/-- MGMT_EVENT (R409 spec/15_management_and_security.md). -/
def R.MGMT_EVENT : RegRef := ⟨0x1500010, 0#32⟩
/-- MGMT_IRQ_EN (R409 spec/15_management_and_security.md). -/
def R.MGMT_IRQ_EN : RegRef := ⟨0x1500014, 0x21#32⟩
/-- MGMT_NET_CFG (R409 spec/15_management_and_security.md). -/
def R.MGMT_NET_CFG : RegRef := ⟨0x1500020, 0x20000000#32⟩
/-- MGMT_MAC_ADDR (R409 spec/15_management_and_security.md). -/
def R.MGMT_MAC_ADDR : RegRef := ⟨0x1500024, 0#32⟩
/-- MGMT_MAC_ADDR, high half (R409 spec/15_management_and_security.md). -/
def R.MGMT_MAC_ADDR_HI : RegRef := ⟨0x1500028, 0#32⟩
/-- MGMT_IP_ADDR (R409 spec/15_management_and_security.md). -/
def R.MGMT_IP_ADDR (w : Nat) : RegRef := ⟨0x1500040 + w * 4, 0#32⟩
/-- MGMT_FM_ADDR (R409 spec/15_management_and_security.md). -/
def R.MGMT_FM_ADDR (w : Nat) : RegRef := ⟨0x1500050 + w * 4, 0#32⟩
/-- MGMT_PORTS (R409 spec/15_management_and_security.md). -/
def R.MGMT_PORTS : RegRef := ⟨0x1500060, 0xB7A5B7A6#32⟩
/-- MGMT_SESSION_KEY (R409 spec/15_management_and_security.md). -/
def R.MGMT_SESSION_KEY (w : Nat) : RegRef := ⟨0x1500080 + w * 4, 0#32⟩
/-- MGMT_KEY_CTRL (R409 spec/15_management_and_security.md). -/
def R.MGMT_KEY_CTRL : RegRef := ⟨0x15000A0, 0#32⟩
/-- MGMT_RECOVERY (R409 spec/15_management_and_security.md). -/
def R.MGMT_RECOVERY : RegRef := ⟨0x15000C0, 0#32⟩
/-- MGMT_RECOVERY, high half (R409 spec/15_management_and_security.md). -/
def R.MGMT_RECOVERY_HI : RegRef := ⟨0x15000C4, 0#32⟩
/-- MGMT_RECOVERY_CTRL (R409 spec/15_management_and_security.md). -/
def R.MGMT_RECOVERY_CTRL : RegRef := ⟨0x15000C8, 0#32⟩
/-- MGMT_COUNT (R409 spec/15_management_and_security.md). -/
def R.MGMT_COUNT (i : Nat) : RegRef := ⟨0x1500100 + i * 4, 0#32⟩
/-- MGMT_MEASURE (R409 spec/15_management_and_security.md). -/
def R.MGMT_MEASURE (r : Nat) (w : Nat) : RegRef := ⟨0x1500200 + r * 0x20 + w * 4, 0#32⟩
/-- I3C_STATUS (R409 spec/15_management_and_security.md). -/
def R.I3C_STATUS : RegRef := ⟨0x1500300, 0#32⟩
/-- PWR_CTRL (R429 spec/16_power_and_reset.md). -/
def R.PWR_CTRL : RegRef := ⟨0x1400000, 0#32⟩
/-- PWR_STATUS (R429 spec/16_power_and_reset.md). -/
def R.PWR_STATUS : RegRef := ⟨0x1400004, 0xF000000#32⟩
/-- PWR_STAGGER (R429 spec/16_power_and_reset.md). -/
def R.PWR_STAGGER : RegRef := ⟨0x1400008, 0xC8#32⟩
/-- WAKE_EN (R429 spec/16_power_and_reset.md). -/
def R.WAKE_EN : RegRef := ⟨0x1400010, 6#32⟩
/-- WAKE_SOURCE (R429 spec/16_power_and_reset.md). -/
def R.WAKE_SOURCE : RegRef := ⟨0x1400014, 0#32⟩
/-- WAKE_TIMER (R429 spec/16_power_and_reset.md). -/
def R.WAKE_TIMER : RegRef := ⟨0x1400018, 0#32⟩
/-- WAKE_TIMER, high half (R429 spec/16_power_and_reset.md). -/
def R.WAKE_TIMER_HI : RegRef := ⟨0x140001C, 0#32⟩
/-- PAD_RELEASE (R429 spec/16_power_and_reset.md). -/
def R.PAD_RELEASE : RegRef := ⟨0x1400020, 0#32⟩
/-- THERM_CTRL (R429 spec/16_power_and_reset.md). -/
def R.THERM_CTRL : RegRef := ⟨0x1400030, 0x64030000#32⟩
/-- RESET_CTRL (R429 spec/16_power_and_reset.md). -/
def R.RESET_CTRL : RegRef := ⟨0x1400040, 0#32⟩
/-- RESET_CAUSE (R429 spec/16_power_and_reset.md). -/
def R.RESET_CAUSE : RegRef := ⟨0x1400044, 1#32⟩
/-- UNIT_RESET (R429 spec/16_power_and_reset.md). -/
def R.UNIT_RESET : RegRef := ⟨0x1400048, 0#32⟩
/-- DIE_PWR_STATUS (R429 spec/16_power_and_reset.md). -/
def R.DIE_PWR_STATUS (d : Nat) : RegRef := ⟨0x1400100 + d * 0x10, 0#32⟩
/-- BAR2_WINDOW (R433 spec/17_register_map.md). -/
def R.BAR2_WINDOW : RegRef := ⟨0x300, 0#32⟩
/-- MSIX_ADDR (R368 spec/14_host_and_dma.md). -/
def R.MSIX_ADDR (v : Nat) : RegRef := ⟨0x8000 + v * 0x10, 0#32⟩
/-- MSIX_ADDR, high half (R368 spec/14_host_and_dma.md). -/
def R.MSIX_ADDR_HI (v : Nat) : RegRef := ⟨0x8004 + v * 0x10, 0#32⟩
/-- MSIX_DATA (R368 spec/14_host_and_dma.md). -/
def R.MSIX_DATA (v : Nat) : RegRef := ⟨0x8008 + v * 0x10, 0#32⟩
/-- MSIX_CTRL (R368 spec/14_host_and_dma.md). -/
def R.MSIX_CTRL (v : Nat) : RegRef := ⟨0x800C + v * 0x10, 1#32⟩
/-- MSIX_PBA (R368 spec/14_host_and_dma.md). -/
def R.MSIX_PBA (w : Nat) : RegRef := ⟨0x9000 + w * 4, 0#32⟩

/-! Fields, named by register and field as the tables name them. -/

def F.DEVICE_ID_PART : Fld := ⟨31, 16⟩
def F.DEVICE_ID_STEP_MAJOR : Fld := ⟨15, 12⟩
def F.DEVICE_ID_STEP_MINOR : Fld := ⟨11, 8⟩
def F.DEVICE_ID_SAMPLE : Fld := ⟨7, 7⟩
def F.DEVICE_ID_ID_VALID : Fld := ⟨6, 6⟩
def F.MESH_CTRL_INDIRECT_THRESH : Fld := ⟨17, 8⟩
def F.MESH_CTRL_INDIRECT_EN : Fld := ⟨0, 0⟩
def F.D2D_LINK_STATUS_VC_OFF : Fld := ⟨15, 8⟩
def F.D2D_LINK_STATUS_DRAINING : Fld := ⟨2, 2⟩
def F.D2D_LINK_STATUS_DOWN_EVENT : Fld := ⟨1, 1⟩
def F.D2D_LINK_STATUS_UP : Fld := ⟨0, 0⟩
def F.D2D_REPLAY_COUNT_COUNT : Fld := ⟨31, 0⟩
def F.DIE_STATUS_DIE_FAULT : Fld := ⟨26, 16⟩
def F.DIE_STATUS_DIE_UP : Fld := ⟨10, 0⟩
def F.OPTICAL_STATUS_ENGINE_FAULT : Fld := ⟨31, 16⟩
def F.OPTICAL_STATUS_ENGINE_UP : Fld := ⟨15, 0⟩
def F.PORT_YFP_CTRL_LOSSLESS_TC : Fld := ⟨23, 16⟩
def F.PORT_YFP_CTRL_PAUSE_WD_MS : Fld := ⟨15, 0⟩
def F.PORT_GROUP_ID_ID : Fld := ⟨31, 0⟩
def F.PORT_FAR_GROUP_ID_ID : Fld := ⟨31, 0⟩
def F.PORT_FC_STATUS_WD_EVENT : Fld := ⟨16, 16⟩
def F.PORT_FC_STATUS_RX_OFF : Fld := ⟨15, 8⟩
def F.PORT_FC_STATUS_TX_OFF : Fld := ⟨7, 0⟩
def F.PORT_HEADROOM_BYTES : Fld := ⟨27, 8⟩
def F.PORT_HEADROOM_FIBRE_M : Fld := ⟨6, 0⟩
def F.YFP_COUNT_COUNT : Fld := ⟨31, 0⟩
def F.YFP_DEV_CTRL_V0_EN : Fld := ⟨8, 8⟩
def F.YFP_DEV_CTRL_ORIGIN_HOP_LIMIT : Fld := ⟨4, 0⟩
def F.CHANNEL_CLASS_CLASS_0 : Fld := ⟨1, 0⟩
def F.CHANNEL_CLASS_CLASS_1 : Fld := ⟨3, 2⟩
def F.CHANNEL_CLASS_CLASS_2 : Fld := ⟨5, 4⟩
def F.CHANNEL_CLASS_CLASS_3 : Fld := ⟨7, 6⟩
def F.CHANNEL_CLASS_CLASS_4 : Fld := ⟨9, 8⟩
def F.CHANNEL_CLASS_CLASS_5 : Fld := ⟨11, 10⟩
def F.CHANNEL_CLASS_CLASS_6 : Fld := ⟨13, 12⟩
def F.CHANNEL_CLASS_CLASS_7 : Fld := ⟨15, 14⟩
def F.CHANNEL_CLASS_CLASS_8 : Fld := ⟨17, 16⟩
def F.CHANNEL_CLASS_CLASS_9 : Fld := ⟨19, 18⟩
def F.CHANNEL_CLASS_CLASS_10 : Fld := ⟨21, 20⟩
def F.CHANNEL_CLASS_CLASS_11 : Fld := ⟨23, 22⟩
def F.CHANNEL_CLASS_CLASS_12 : Fld := ⟨25, 24⟩
def F.CHANNEL_CLASS_CLASS_13 : Fld := ⟨27, 26⟩
def F.CHANNEL_CLASS_CLASS_14 : Fld := ⟨29, 28⟩
def F.CHANNEL_CLASS_CLASS_15 : Fld := ⟨31, 30⟩
def F.PORT_LANE_CTRL_MIN_WIDTH : Fld := ⟨11, 8⟩
def F.PORT_LANE_CTRL_WIDTH : Fld := ⟨3, 0⟩
def F.PORT_LANE_STATUS_TX_ACTIVE : Fld := ⟨23, 16⟩
def F.PORT_LANE_STATUS_RX_ACTIVE : Fld := ⟨15, 8⟩
def F.PORT_LANE_STATUS_UP : Fld := ⟨0, 0⟩
def F.OPT_LASER_STATUS_LANYARD_FEED_OK : Fld := ⟨9, 9⟩
def F.OPT_LASER_STATUS_DATA_FEED_OK : Fld := ⟨8, 8⟩
def F.OPT_LASER_STATUS_LINE_OK : Fld := ⟨7, 0⟩
def F.OPT_LINE_POWER_TONE_KHZ : Fld := ⟨31, 16⟩
def F.OPT_LINE_POWER_POWER : Fld := ⟨15, 0⟩
def F.OPT_TS_CTRL_LASER_MIN : Fld := ⟨31, 16⟩
def F.OPT_TS_CTRL_MARGIN_MIN : Fld := ⟨15, 0⟩
def F.OPT_LANE_POLICY_RETEST_S : Fld := ⟨31, 24⟩
def F.OPT_LANE_POLICY_RELOCK_WINDOW_US : Fld := ⟨15, 4⟩
def F.OPT_LANE_POLICY_RX_TONE_CHECK : Fld := ⟨1, 1⟩
def F.OPT_LANE_POLICY_AUTO_TS : Fld := ⟨0, 0⟩
def F.OPT_THERM_CTRL_SLEW_LIMIT : Fld := ⟨15, 8⟩
def F.OPT_THERM_CTRL_SLEW_RESUME : Fld := ⟨7, 0⟩
def F.OPT_THERM_STATUS_TEMP : Fld := ⟨31, 16⟩
def F.OPT_THERM_STATUS_SLOPE : Fld := ⟨15, 4⟩
def F.OPT_THERM_STATUS_HEATER_FLOOR : Fld := ⟨2, 2⟩
def F.OPT_THERM_STATUS_HOT : Fld := ⟨1, 1⟩
def F.OPT_THERM_STATUS_SLEW_PAUSE : Fld := ⟨0, 0⟩
def F.LANE_STATUS_STATE : Fld := ⟨31, 28⟩
def F.LANE_STATUS_TX_LINE : Fld := ⟨27, 24⟩
def F.LANE_STATUS_RX_LINE : Fld := ⟨23, 20⟩
def F.LANE_STATUS_TX_LOCK : Fld := ⟨19, 19⟩
def F.LANE_STATUS_RX_LOCK : Fld := ⟨18, 18⟩
def F.LANE_STATUS_TX_TONE_OK : Fld := ⟨17, 17⟩
def F.LANE_STATUS_RX_TONE_OK : Fld := ⟨16, 16⟩
def F.LANE_STATUS_LAST_RESULT : Fld := ⟨15, 8⟩
def F.LANE_STATUS_FAR_ADMIT : Fld := ⟨7, 7⟩
def F.LANE_EVENT_RESEEK_FAIL : Fld := ⟨5, 5⟩
def F.LANE_EVENT_WRONG_LINE : Fld := ⟨4, 4⟩
def F.LANE_EVENT_SLEW_PAUSE : Fld := ⟨3, 3⟩
def F.LANE_EVENT_FAST_RELOCK : Fld := ⟨2, 2⟩
def F.LANE_EVENT_DOWN : Fld := ⟨1, 1⟩
def F.LANE_EVENT_TS_DONE : Fld := ⟨0, 0⟩
def F.LANE_CTRL_EXCLUDE : Fld := ⟨0, 0⟩
def F.LANE_TS_REPORT_WORD : Fld := ⟨31, 0⟩
def F.LANE_COUNT_COUNT : Fld := ⟨31, 0⟩
def F.TIME_NOW_LO_NS : Fld := ⟨31, 0⟩
def F.TIME_NOW_HI_WRAPS : Fld := ⟨31, 0⟩
def F.TIME_CTRL_ROOT : Fld := ⟨31, 31⟩
def F.TIME_CTRL_HOLDOVER_SWITCH_MS : Fld := ⟨25, 16⟩
def F.TIME_CTRL_INTERVAL_US : Fld := ⟨15, 0⟩
def F.TIME_STATUS_STATE : Fld := ⟨31, 28⟩
def F.TIME_STATUS_REF_SELECTED : Fld := ⟨27, 27⟩
def F.TIME_STATUS_MASTER_DIE : Fld := ⟨26, 24⟩
def F.TIME_STATUS_MASTER_PORT : Fld := ⟨23, 16⟩
def F.TIME_STATUS_STATE_EVENT : Fld := ⟨2, 2⟩
def F.TIME_STATUS_STEP_EVENT : Fld := ⟨1, 1⟩
def F.TIME_STATUS_WRAP_EVENT : Fld := ⟨0, 0⟩
def F.TIME_OFFSET_THETA : Fld := ⟨31, 0⟩
def F.TIME_FREQ_ADJ_F : Fld := ⟨31, 0⟩
def F.TIME_SERVO_STEP_NS : Fld := ⟨31, 16⟩
def F.TIME_SERVO_LOCK_NS : Fld := ⟨15, 8⟩
def F.TIME_SERVO_KP_SHIFT : Fld := ⟨7, 4⟩
def F.TIME_SERVO_KI_SHIFT : Fld := ⟨3, 0⟩
def F.TIME_REF_CTRL_REF_PRIO : Fld := ⟨15, 8⟩
def F.TIME_REF_CTRL_PPS_OUT_EN : Fld := ⟨2, 2⟩
def F.TIME_REF_CTRL_TENMHZ_EN : Fld := ⟨1, 1⟩
def F.TIME_REF_CTRL_PPS_IN_EN : Fld := ⟨0, 0⟩
def F.TIME_PPS_LOAD_NS : Fld := ⟨31, 0⟩
def F.TIME_PPS_OUT_ANCHOR_NS : Fld := ⟨31, 0⟩
def F.AON_TICK_TICKS : Fld := ⟨31, 0⟩
def F.AON_TICK_HI_TICKS : Fld := ⟨31, 0⟩
def F.TIME_PORT_CTRL_ASYM_PS : Fld := ⟨31, 16⟩
def F.TIME_PORT_CTRL_PRIO : Fld := ⟨7, 0⟩
def F.TIME_PORT_DELAY_D : Fld := ⟨31, 0⟩
def F.TQ_CTRL_GUARD_EN : Fld := ⟨31, 31⟩
def F.TQ_CTRL_REQUIRE_LOCK : Fld := ⟨30, 30⟩
def F.TQ_CTRL_DROP_US : Fld := ⟨29, 16⟩
def F.TQ_CTRL_LATE_NS : Fld := ⟨15, 0⟩
def F.TQ_COUNT_COUNT : Fld := ⟨31, 0⟩
def F.LANYARD_PORT_CTRL_ENABLE : Fld := ⟨31, 31⟩
def F.LANYARD_PORT_CTRL_MAX_WAIT_US : Fld := ⟨29, 16⟩
def F.LANYARD_PORT_CTRL_HOLDOVER_MS : Fld := ⟨15, 8⟩
def F.LANYARD_SRC_ADDR_ADDR : Fld := ⟨31, 0⟩
def F.LANYARD_RX_DELAY_SPREAD_EXCEEDED : Fld := ⟨31, 31⟩
def F.LANYARD_RX_DELAY_SPREAD_NS : Fld := ⟨25, 16⟩
def F.LANYARD_RX_DELAY_DELAY_NS : Fld := ⟨13, 0⟩
def F.LANYARD_TS_START_NS : Fld := ⟨31, 0⟩
def F.LANYARD_TS_CTRL_ARM : Fld := ⟨31, 31⟩
def F.LANYARD_TS_CTRL_BER_DECADES : Fld := ⟨15, 0⟩
def F.LANYARD_ROTA_STAGE_SLOT_NS : Fld := ⟨31, 16⟩
def F.LANYARD_ROTA_STAGE_LENGTH : Fld := ⟨10, 0⟩
def F.LANYARD_GUARD_STAGE_GUARD_NS : Fld := ⟨9, 0⟩
def F.LANYARD_ROTA_ANCHOR_NS : Fld := ⟨31, 0⟩
def F.LANYARD_ROTA_ACTIVE_SLOT_NS : Fld := ⟨31, 16⟩
def F.LANYARD_ROTA_ACTIVE_LENGTH : Fld := ⟨10, 0⟩
def F.LANYARD_STATUS_STATE : Fld := ⟨31, 28⟩
def F.LANYARD_STATUS_ROTA_INDEX : Fld := ⟨27, 18⟩
def F.LANYARD_STATUS_GUARD_NS : Fld := ⟨17, 8⟩
def F.LANYARD_STATUS_CONFLICT : Fld := ⟨2, 2⟩
def F.LANYARD_STATUS_DISCOVERY_DONE : Fld := ⟨1, 1⟩
def F.LANYARD_STATUS_TX_SUSPENDED : Fld := ⟨0, 0⟩
def F.LANYARD_CONFLICT_LANE : Fld := ⟨18, 16⟩
def F.LANYARD_CONFLICT_SLOT : Fld := ⟨9, 0⟩
def F.LANYARD_WINDOW_DATA_BLOCKS : Fld := ⟨31, 16⟩
def F.LANYARD_WINDOW_MAX_FRAME : Fld := ⟨13, 0⟩
def F.LANYARD_PEER_ADDR_DEST_ADDR : Fld := ⟨31, 0⟩
def F.LANYARD_PEER_STATUS_TX_OK : Fld := ⟨31, 31⟩
def F.LANYARD_PEER_STATUS_RX_OK : Fld := ⟨30, 30⟩
def F.LANYARD_PEER_STATUS_SELF : Fld := ⟨29, 29⟩
def F.LANYARD_PEER_STATUS_ENABLE : Fld := ⟨28, 28⟩
def F.LANYARD_PEER_STATUS_LOSSY : Fld := ⟨27, 27⟩
def F.LANYARD_PEER_STATUS_RX_COLOUR : Fld := ⟨26, 22⟩
def F.LANYARD_PEER_STATUS_HEADROOM_CELLS : Fld := ⟨15, 0⟩
def F.LANYARD_PEER_PATH_TX_LANES : Fld := ⟨31, 24⟩
def F.LANYARD_PEER_PATH_RX_LANES : Fld := ⟨23, 16⟩
def F.LANYARD_PEER_PATH_TX_QUALITY : Fld := ⟨15, 8⟩
def F.LANYARD_PEER_PATH_RX_QUALITY : Fld := ⟨7, 0⟩
def F.LANYARD_LANE_VERIFY_COLOUR_OK : Fld := ⟨31, 0⟩
def F.LANYARD_COUNT_COUNT : Fld := ⟨31, 0⟩
def F.LANYARD_ROTA_ENTRY : Fld := ⟨31, 0⟩
def F.NATIVE_BLOCK_PART : Fld := ⟨31, 26⟩
def F.NATIVE_BLOCK_POD : Fld := ⟨25, 20⟩
def F.NATIVE_BLOCK_PART_MASK : Fld := ⟨19, 14⟩
def F.NATIVE_BLOCK_POD_MASK : Fld := ⟨13, 8⟩
def F.NATIVE_BLOCK_EN : Fld := ⟨0, 0⟩
def F.TXN_CTRL_OWNER : Fld := ⟨31, 24⟩
def F.TXN_CTRL_OP : Fld := ⟨3, 0⟩
def F.TXN_TIME_NS : Fld := ⟨31, 0⟩
def F.TXN_STATUS_STATE : Fld := ⟨31, 28⟩
def F.TXN_STATUS_LAST_STATUS : Fld := ⟨27, 20⟩
def F.TXN_STATUS_FLIP_TIME_STATE : Fld := ⟨19, 17⟩
def F.TXN_STATUS_JOURNAL_USED : Fld := ⟨16, 0⟩
def F.TXN_EVENT_ABORT_LATE : Fld := ⟨4, 4⟩
def F.TXN_EVENT_REFUSED : Fld := ⟨3, 3⟩
def F.TXN_EVENT_JOURNAL_FULL : Fld := ⟨2, 2⟩
def F.TXN_EVENT_FLIP : Fld := ⟨1, 1⟩
def F.TXN_EVENT_DONE : Fld := ⟨0, 0⟩
def F.TXN_GEN_GEN : Fld := ⟨31, 0⟩
def F.TXN_FLIP_TIME_NS : Fld := ⟨31, 0⟩
def F.OVR_SEED_SEED : Fld := ⟨31, 0⟩
def F.PS_HASH_SEED_SEED : Fld := ⟨31, 0⟩
def F.TBL_CMD_OWNER : Fld := ⟨31, 24⟩
def F.TBL_CMD_TABLE : Fld := ⟨23, 20⟩
def F.TBL_CMD_OP : Fld := ⟨19, 16⟩
def F.TBL_INDEX_INDEX : Fld := ⟨19, 0⟩
def F.TBL_STATUS_BUSY : Fld := ⟨31, 31⟩
def F.TBL_STATUS_STATUS : Fld := ⟨23, 16⟩
def F.TBL_STATUS_STASH : Fld := ⟨15, 15⟩
def F.TBL_STATUS_RELOCATIONS : Fld := ⟨13, 8⟩
def F.TBL_DATA_WORD : Fld := ⟨31, 0⟩
def F.LEARN_RANGE_ADDR_ADDR : Fld := ⟨31, 0⟩
def F.LEARN_RANGE_CTRL_EN : Fld := ⟨31, 31⟩
def F.LEARN_RANGE_CTRL_LEN : Fld := ⟨5, 0⟩
def F.SCRUB_STATUS_PASSES : Fld := ⟨31, 16⟩
def F.SCRUB_STATUS_UNREPAIRED : Fld := ⟨15, 0⟩
def F.PARITY_LOG_VALID : Fld := ⟨31, 31⟩
def F.PARITY_LOG_TABLE : Fld := ⟨30, 27⟩
def F.PARITY_LOG_SLOT : Fld := ⟨26, 26⟩
def F.PARITY_LOG_REPAIRED : Fld := ⟨25, 25⟩
def F.PARITY_LOG_OVERRUN : Fld := ⟨24, 24⟩
def F.PARITY_LOG_INDEX : Fld := ⟨19, 0⟩
def F.PARTITION_FENCE_FENCE : Fld := ⟨31, 31⟩
def F.PARTITION_FENCE_DARK : Fld := ⟨30, 30⟩
def F.PARTITION_BRIDGE_SRC_OK : Fld := ⟨31, 0⟩
def F.PARTITION_BRIDGE_HI_SRC_OK : Fld := ⟨31, 0⟩
def F.PARTITION_FLOOD_EN : Fld := ⟨31, 31⟩
def F.PARTITION_FLOOD_FLOOD_SET : Fld := ⟨11, 0⟩
def F.PORT_PARTITION_TRUNK : Fld := ⟨31, 31⟩
def F.PORT_PARTITION_PARTITION : Fld := ⟨5, 0⟩
def F.LOOKUP_COUNT_COUNT : Fld := ⟨31, 0⟩
def F.BUF_POOL_CTRL_STAGE_CELLS : Fld := ⟨16, 0⟩
def F.BUF_RESERVE_HOLD_RSP_CELLS : Fld := ⟨31, 16⟩
def F.BUF_RESERVE_ENGINE_CELLS : Fld := ⟨15, 0⟩
def F.BUF_SHARE_CTRL_SHIFT : Fld := ⟨2, 0⟩
def F.PUSHOUT_MAP_CLASS_0 : Fld := ⟨2, 0⟩
def F.PUSHOUT_MAP_CLASS_1 : Fld := ⟨6, 4⟩
def F.PUSHOUT_MAP_CLASS_2 : Fld := ⟨10, 8⟩
def F.PUSHOUT_MAP_CLASS_3 : Fld := ⟨14, 12⟩
def F.PUSHOUT_MAP_CLASS_4 : Fld := ⟨18, 16⟩
def F.PUSHOUT_MAP_CLASS_5 : Fld := ⟨22, 20⟩
def F.PUSHOUT_MAP_CLASS_6 : Fld := ⟨26, 24⟩
def F.PUSHOUT_MAP_CLASS_7 : Fld := ⟨30, 28⟩
def F.SPRAY_SEED_SEED : Fld := ⟨31, 0⟩
def F.CT_CTRL_EN : Fld := ⟨0, 0⟩
def F.BUF_SHARED_STATUS_FREE : Fld := ⟨16, 0⟩
def F.BUF_STAGE_STATUS_LOSSY_FREE : Fld := ⟨16, 0⟩
def F.BUF_EVENT_RESERVE_REFUSED : Fld := ⟨2, 2⟩
def F.BUF_EVENT_SHARED_FULL : Fld := ⟨1, 1⟩
def F.BUF_EVENT_STAGE_FULL : Fld := ⟨0, 0⟩
def F.PORT_BUF_CTRL_MIN_CELLS : Fld := ⟨31, 16⟩
def F.PORT_BUF_CTRL_XOFF_CELLS : Fld := ⟨15, 8⟩
def F.PORT_BUF_CTRL_XON_CELLS : Fld := ⟨7, 0⟩
def F.PORT_HOLD_CTRL_HOLD_US : Fld := ⟨9, 0⟩
def F.PORT_ADMIT_ADMIT : Fld := ⟨31, 31⟩
def F.PORT_ADMIT_LAST_STATUS : Fld := ⟨15, 8⟩
def F.PORT_CORE_STATUS_STATE : Fld := ⟨31, 28⟩
def F.PORT_CORE_STATUS_EGRESS_CELLS : Fld := ⟨16, 0⟩
def F.PORT_STAGE_STATUS_RESERVED_CELLS : Fld := ⟨31, 17⟩
def F.PORT_STAGE_STATUS_USED_CELLS : Fld := ⟨16, 0⟩
def F.CORE_COUNT_COUNT : Fld := ⟨31, 0⟩
def F.TM_QUEUE_CTRL_PRIO : Fld := ⟨31, 29⟩
def F.TM_QUEUE_CTRL_QUANTUM : Fld := ⟨28, 19⟩
def F.TM_QUEUE_CTRL_MARK_CELLS : Fld := ⟨16, 0⟩
def F.TM_SHAPER_BURST : Fld := ⟨31, 16⟩
def F.TM_SHAPER_EN : Fld := ⟨15, 15⟩
def F.TM_SHAPER_RATE : Fld := ⟨13, 0⟩
def F.TM_QUEUE_STATUS_PAUSED : Fld := ⟨31, 31⟩
def F.TM_QUEUE_STATUS_ELIGIBLE : Fld := ⟨30, 30⟩
def F.TM_QUEUE_STATUS_DEPTH_CELLS : Fld := ⟨16, 0⟩
def F.TM_QUEUE_CREDIT_CREDIT : Fld := ⟨31, 0⟩
def F.TM_COUNT_COUNT : Fld := ⟨31, 0⟩
def F.CS_PORT_CTRL_RX_EN : Fld := ⟨31, 31⟩
def F.CS_PORT_CTRL_RX_SHIFT : Fld := ⟨30, 27⟩
def F.CS_PORT_CTRL_TX_EN : Fld := ⟨23, 23⟩
def F.CS_PORT_CTRL_TX_SHIFT : Fld := ⟨22, 19⟩
def F.CS_PORT_CTRL_DROP_EN : Fld := ⟨15, 15⟩
def F.CS_PORT_CTRL_DROP_SHIFT : Fld := ⟨14, 11⟩
def F.CS_COPY_CTRL_EN : Fld := ⟨31, 31⟩
def F.CS_COPY_CTRL_SHIFT : Fld := ⟨30, 27⟩
def F.TM_EVENT_CS_LOST : Fld := ⟨1, 1⟩
def F.TM_EVENT_POLICER_REFUSED : Fld := ⟨0, 0⟩
def F.EXPOSURE_CTRL_OP : Fld := ⟨31, 28⟩
def F.EXPOSURE_CTRL_DEST : Fld := ⟨8, 8⟩
def F.EXPOSURE_CTRL_CLEAR : Fld := ⟨7, 7⟩
def F.EXPOSURE_CTRL_SETS : Fld := ⟨4, 0⟩
def F.EXPOSURE_TIME_NS : Fld := ⟨31, 0⟩
def F.EXPOSURE_ADDR_ADDR : Fld := ⟨31, 0⟩
def F.EXPOSURE_ADDR_HI_ADDR : Fld := ⟨31, 0⟩
def F.EXPOSURE_STATUS_BUSY : Fld := ⟨31, 31⟩
def F.EXPOSURE_STATUS_DONE : Fld := ⟨30, 30⟩
def F.EXPOSURE_STATUS_REFUSED : Fld := ⟨29, 29⟩
def F.EXPOSURE_STATUS_SEQ : Fld := ⟨15, 0⟩
def F.POLICER_CFG0_EN : Fld := ⟨31, 31⟩
def F.POLICER_CFG0_REMARK_TC : Fld := ⟨30, 28⟩
def F.POLICER_CFG0_YELLOW_ACT : Fld := ⟨27, 26⟩
def F.POLICER_CFG0_RED_ACT : Fld := ⟨25, 24⟩
def F.POLICER_CFG0_CIR : Fld := ⟨13, 0⟩
def F.POLICER_CFG1_CBS : Fld := ⟨31, 16⟩
def F.POLICER_CFG1_PIR : Fld := ⟨13, 0⟩
def F.POLICER_CFG2_PBS : Fld := ⟨31, 16⟩
def F.POLICER_COUNT_COUNT : Fld := ⟨31, 0⟩
def F.CS_RING_BASE_ADDR : Fld := ⟨31, 0⟩
def F.CS_RING_BASE_HI_ADDR : Fld := ⟨31, 0⟩
def F.CS_RING_CTRL_EN : Fld := ⟨31, 31⟩
def F.CS_RING_CTRL_DEST : Fld := ⟨30, 30⟩
def F.CS_RING_CTRL_MODE : Fld := ⟨29, 29⟩
def F.CS_RING_CTRL_SIZE_LOG2 : Fld := ⟨28, 24⟩
def F.CS_RING_CTRL_IRQ_THRESH : Fld := ⟨23, 0⟩
def F.CS_RING_PROD_INDEX : Fld := ⟨31, 0⟩
def F.CS_RING_CONS_INDEX : Fld := ⟨31, 0⟩
def F.CS_RING_LOST_COUNT : Fld := ⟨31, 0⟩
def F.ENGINE_CTRL_OP : Fld := ⟨31, 28⟩
def F.ENGINE_CTRL_GATE_EN : Fld := ⟨0, 0⟩
def F.ENGINE_STATUS_STATE : Fld := ⟨31, 28⟩
def F.ENGINE_STATUS_GATED : Fld := ⟨27, 27⟩
def F.ENGINE_STATUS_DISPATCH : Fld := ⟨26, 25⟩
def F.ENGINE_STATUS_PC : Fld := ⟨21, 11⟩
def F.ENGINE_STATUS_START_STATUS : Fld := ⟨7, 0⟩
def F.ENGINE_EVENT_ECC_CORRECTED : Fld := ⟨8, 8⟩
def F.ENGINE_EVENT_TAG_THRESH : Fld := ⟨7, 7⟩
def F.ENGINE_EVENT_PMC_OVF : Fld := ⟨6, 6⟩
def F.ENGINE_EVENT_HOST_WRITE_REFUSED : Fld := ⟨5, 5⟩
def F.ENGINE_EVENT_OP_REFUSED : Fld := ⟨4, 4⟩
def F.ENGINE_EVENT_START_DONE : Fld := ⟨3, 3⟩
def F.ENGINE_EVENT_HALTED : Fld := ⟨2, 2⟩
def F.ENGINE_EVENT_DISPATCH_ABORT : Fld := ⟨1, 1⟩
def F.ENGINE_EVENT_FAULT : Fld := ⟨0, 0⟩
def F.ENGINE_PART_CTRL_LAYOUT : Fld := ⟨1, 0⟩
def F.ENGINE_IMEM_CTRL_LIMIT : Fld := ⟨11, 0⟩
def F.ENGINE_IMEM_CRC_CRC : Fld := ⟨31, 0⟩
def F.ENGINE_IMAGE_ID_ID : Fld := ⟨31, 0⟩
def F.ENGINE_DISPATCH_CTRL_BUDGET : Fld := ⟨31, 12⟩
def F.ENGINE_DISPATCH_CTRL_GATE_IDLE : Fld := ⟨11, 0⟩
def F.ENGINE_FAULT_INFO_CAUSE : Fld := ⟨31, 27⟩
def F.ENGINE_FAULT_INFO_PC : Fld := ⟨26, 16⟩
def F.ENGINE_FAULT_INFO_VALID : Fld := ⟨15, 15⟩
def F.ENGINE_FAULT_INFO_KNOT : Fld := ⟨13, 0⟩
def F.ENGINE_IRQ_EN_MASK : Fld := ⟨8, 0⟩
def F.ENGINE_KNOT_STATUS_HOMED : Fld := ⟨14, 0⟩
def F.ENGINE_STAGE_STATUS_RX_USED : Fld := ⟨24, 16⟩
def F.ENGINE_STAGE_STATUS_TX_USED : Fld := ⟨7, 0⟩
def F.ENGINE_CYCLE_CYCLES : Fld := ⟨31, 0⟩
def F.ENGINE_CYCLE_HI_CYCLES : Fld := ⟨31, 0⟩
def F.ENGINE_PMC_STATUS_FROZEN : Fld := ⟨16, 16⟩
def F.ENGINE_PMC_STATUS_OVF : Fld := ⟨7, 0⟩
def F.ENGINE_PMC_PC_VALID : Fld := ⟨31, 31⟩
def F.ENGINE_PMC_PC_PC : Fld := ⟨10, 0⟩
def F.ENGINE_PMC_CTRL_EN : Fld := ⟨31, 31⟩
def F.ENGINE_PMC_CTRL_IRQ_EN : Fld := ⟨30, 30⟩
def F.ENGINE_PMC_CTRL_FREEZE_ALL : Fld := ⟨29, 29⟩
def F.ENGINE_PMC_CTRL_EVENT : Fld := ⟨7, 0⟩
def F.ENGINE_PMC_COUNT : Fld := ⟨31, 0⟩
def F.ENGINE_PMC_HI_COUNT : Fld := ⟨15, 0⟩
def F.ENGINE_TAG_CTRL_EN : Fld := ⟨31, 31⟩
def F.ENGINE_TAG_CTRL_MODE : Fld := ⟨30, 30⟩
def F.ENGINE_TAG_CTRL_SHIFT : Fld := ⟨24, 20⟩
def F.ENGINE_TAG_CTRL_IRQ_THRESH : Fld := ⟨7, 0⟩
def F.ENGINE_TAG_STATUS_PROD : Fld := ⟨15, 0⟩
def F.ENGINE_TAG_CONS_CONS : Fld := ⟨15, 0⟩
def F.ENGINE_TAG_LOST_COUNT : Fld := ⟨31, 0⟩
def F.ENGINE_TAG_SKIPPED_COUNT : Fld := ⟨31, 0⟩
def F.ENGINE_TAG_SEED_SEED : Fld := ⟨31, 0⟩
def F.ENGINE_COUNT_COUNT : Fld := ⟨31, 0⟩
def F.ENGINE_TAG_BUF_WORD : Fld := ⟨31, 0⟩
def F.KNOT_CMD_OP : Fld := ⟨31, 28⟩
def F.KNOT_CMD_KNOT : Fld := ⟨13, 0⟩
def F.KNOT_CMD_STATUS_BUSY : Fld := ⟨31, 31⟩
def F.KNOT_CMD_STATUS_STATUS : Fld := ⟨23, 16⟩
def F.KNOT_CMD_STATUS_STATE : Fld := ⟨15, 12⟩
def F.KNOT_CMD_STATUS_GENERATION : Fld := ⟨7, 0⟩
def F.KNOT_EVENT_ORPHANED : Fld := ⟨2, 2⟩
def F.KNOT_EVENT_FLUSH_DONE : Fld := ⟨1, 1⟩
def F.KNOT_EVENT_CMD_DONE : Fld := ⟨0, 0⟩
def F.KNOT_DATA_WORD : Fld := ⟨31, 0⟩
def F.KNOT_COUNT_COUNT : Fld := ⟨31, 0⟩
def F.HOLD_CTRL_EN : Fld := ⟨31, 31⟩
def F.HOLD_CTRL_RSP_TC : Fld := ⟨10, 8⟩
def F.HOLD_STATUS_STATE : Fld := ⟨31, 28⟩
def F.HOLD_SEED_SEED : Fld := ⟨31, 0⟩
def F.HOLD_INDEX_CTRL_BUCKETS_LOG2 : Fld := ⟨4, 0⟩
def F.HOLD_RING_BASE_ADDR : Fld := ⟨31, 0⟩
def F.HOLD_RING_BASE_HI_ADDR : Fld := ⟨31, 0⟩
def F.HOLD_RING_SIZE_KIB : Fld := ⟨31, 0⟩
def F.HOLD_SCRUB_CTRL_PASS_H : Fld := ⟨7, 0⟩
def F.HOLD_SCRUB_STATUS_PASSES : Fld := ⟨31, 16⟩
def F.HOLD_SCRUB_STATUS_UNCORRECTABLE : Fld := ⟨15, 0⟩
def F.HOLD_EVENT_ECC_OVERRUN : Fld := ⟨3, 3⟩
def F.HOLD_EVENT_UNCORRECTABLE : Fld := ⟨2, 2⟩
def F.HOLD_EVENT_CLEAR_DONE : Fld := ⟨1, 1⟩
def F.HOLD_EVENT_CONFIG_REFUSED : Fld := ⟨0, 0⟩
def F.HOLD_ECC_LOG_VALID : Fld := ⟨31, 31⟩
def F.HOLD_ECC_LOG_UNCORR : Fld := ⟨30, 30⟩
def F.HOLD_ECC_LOG_LINE : Fld := ⟨29, 0⟩
def F.HOLD_SHAPE_VALID : Fld := ⟨31, 31⟩
def F.HOLD_SHAPE_VALUE_FORMAT : Fld := ⟨27, 24⟩
def F.HOLD_SHAPE_STATE_LINES : Fld := ⟨14, 8⟩
def F.HOLD_SHAPE_VALUE_LINES : Fld := ⟨5, 0⟩
def F.HOLD_POOL_BASE_ADDR : Fld := ⟨31, 0⟩
def F.HOLD_POOL_BASE_HI_ADDR : Fld := ⟨31, 0⟩
def F.HOLD_POOL_ROWS_ROWS : Fld := ⟨31, 0⟩
def F.HOLD_POOL_USED_ROWS : Fld := ⟨31, 0⟩
def F.HOLD_COUNT_COUNT : Fld := ⟨31, 0⟩
def F.INTEG_CTRL_XCHK_EN : Fld := ⟨31, 31⟩
def F.INTEG_CTRL_ST_EN : Fld := ⟨30, 30⟩
def F.INTEG_CTRL_AUTO_RETIRE : Fld := ⟨29, 29⟩
def F.INTEG_CTRL_NOTICE_EN : Fld := ⟨28, 28⟩
def F.INTEG_CTRL_XCHK_SHIFT : Fld := ⟨20, 16⟩
def F.INTEG_CTRL_ST_DUTY : Fld := ⟨15, 8⟩
def F.INTEG_CTRL_BAND_AGE_H : Fld := ⟨7, 0⟩
def F.INTEG_CLASS_CTRL_REPEAT : Fld := ⟨31, 24⟩
def F.INTEG_CLASS_CTRL_WINDOW_H : Fld := ⟨23, 16⟩
def F.INTEG_CLASS_CTRL_BUDGET_H : Fld := ⟨15, 8⟩
def F.INTEG_CLASS_CTRL_BUDGET_SHIFT : Fld := ⟨3, 0⟩
def F.INTEG_LOG_TIME_SECONDS : Fld := ⟨31, 0⟩
def F.INTEG_STATUS_TIME_VALID : Fld := ⟨31, 31⟩
def F.INTEG_STATUS_HELD : Fld := ⟨15, 0⟩
def F.INTEG_EVENT_NOTICE_DROPPED : Fld := ⟨6, 6⟩
def F.INTEG_EVENT_LOG_OVERRUN : Fld := ⟨5, 5⟩
def F.INTEG_EVENT_FB_OVERRUN : Fld := ⟨4, 4⟩
def F.INTEG_EVENT_RETIRED : Fld := ⟨3, 3⟩
def F.INTEG_EVENT_RESULT_WRONG : Fld := ⟨2, 2⟩
def F.INTEG_EVENT_ESCALATION : Fld := ⟨1, 1⟩
def F.INTEG_EVENT_RECORD : Fld := ⟨0, 0⟩
def F.INTEG_UNIT_CMD_OP : Fld := ⟨31, 28⟩
def F.INTEG_UNIT_CMD_KIND : Fld := ⟨27, 24⟩
def F.INTEG_UNIT_CMD_DIE : Fld := ⟨23, 20⟩
def F.INTEG_UNIT_CMD_UNIT : Fld := ⟨15, 0⟩
def F.INTEG_UNIT_STATUS_STATE : Fld := ⟨31, 28⟩
def F.INTEG_UNIT_STATUS_SUSPICIONS : Fld := ⟨27, 24⟩
def F.INTEG_UNIT_STATUS_BAND_MASK : Fld := ⟨23, 16⟩
def F.INTEG_UNIT_STATUS_LAST_STATUS : Fld := ⟨15, 8⟩
def F.INTEG_BUDGET_HELD : Fld := ⟨23, 16⟩
def F.INTEG_BUDGET_USED : Fld := ⟨15, 8⟩
def F.INTEG_BUDGET_LIMIT : Fld := ⟨7, 0⟩
def F.INTEG_FB_PROD_INDEX : Fld := ⟨31, 0⟩
def F.INTEG_FB_CONS_INDEX : Fld := ⟨31, 0⟩
def F.INTEG_NOTICE_CTRL_DEST_PORT : Fld := ⟨31, 16⟩
def F.INTEG_NOTICE_CTRL_SENDS : Fld := ⟨7, 4⟩
def F.INTEG_COUNT_COUNT : Fld := ⟨31, 0⟩
def F.INTEG_FB_RECORD_WORD : Fld := ⟨31, 0⟩
def F.HOST_BAD_ACCESS_BAR2 : Fld := ⟨31, 16⟩
def F.HOST_BAD_ACCESS_BAR0 : Fld := ⟨15, 0⟩
def F.HOST_IRQ_PENDING_PENDING : Fld := ⟨31, 0⟩
def F.HOST_IRQ_PENDING_HI_PENDING : Fld := ⟨31, 0⟩
def F.CMD_RING_BASE_ADDR : Fld := ⟨31, 0⟩
def F.CMD_RING_BASE_HI_ADDR : Fld := ⟨31, 0⟩
def F.CMD_RING_CTRL_EN : Fld := ⟨31, 31⟩
def F.CMD_RING_CTRL_SIZE_LOG2 : Fld := ⟨4, 0⟩
def F.CMD_RING_TAIL_INDEX : Fld := ⟨11, 0⟩
def F.CMD_RING_HEAD_INDEX : Fld := ⟨11, 0⟩
def F.CPL_RING_BASE_ADDR : Fld := ⟨31, 0⟩
def F.CPL_RING_BASE_HI_ADDR : Fld := ⟨31, 0⟩
def F.CPL_RING_CTRL_EN : Fld := ⟨31, 31⟩
def F.CPL_RING_CTRL_IRQ_THRESH : Fld := ⟨19, 8⟩
def F.CPL_RING_CTRL_SIZE_LOG2 : Fld := ⟨4, 0⟩
def F.CPL_RING_HEAD_INDEX : Fld := ⟨11, 0⟩
def F.CPL_RING_TAIL_INDEX : Fld := ⟨11, 0⟩
def F.CMD_EVENT_LONG_OPS : Fld := ⟨13, 8⟩
def F.CMD_EVENT_CPL_FULL : Fld := ⟨1, 1⟩
def F.CMD_EVENT_FETCH_ERROR : Fld := ⟨0, 0⟩
def F.DMA_CH_CTRL_RUN : Fld := ⟨31, 31⟩
def F.DMA_CH_CTRL_WEIGHT : Fld := ⟨23, 16⟩
def F.DMA_CH_CTRL_IRQ_EN : Fld := ⟨0, 0⟩
def F.DMA_CH_STATUS_STATE : Fld := ⟨31, 28⟩
def F.DMA_CH_STATUS_SHADOW_PENDING : Fld := ⟨27, 27⟩
def F.DMA_CH_STATUS_SHADOW_LATE : Fld := ⟨26, 26⟩
def F.DMA_CH_STATUS_DONE : Fld := ⟨25, 25⟩
def F.DMA_CH_STATUS_LAST_STATUS : Fld := ⟨23, 16⟩
def F.DMA_CH_STATUS_HEAD : Fld := ⟨15, 0⟩
def F.DMA_CH_TAIL_INDEX : Fld := ⟨15, 0⟩
def F.DMA_CH_CPL_INDEX_TAIL : Fld := ⟨31, 16⟩
def F.DMA_CH_CPL_INDEX_HEAD : Fld := ⟨15, 0⟩
def F.DMA_CH_RING_BASE_ADDR : Fld := ⟨31, 0⟩
def F.DMA_CH_RING_BASE_HI_ADDR : Fld := ⟨31, 0⟩
def F.DMA_CH_CPL_BASE_ADDR : Fld := ⟨31, 0⟩
def F.DMA_CH_CPL_BASE_HI_ADDR : Fld := ⟨31, 0⟩
def F.DMA_CH_RING_CFG_RING_SPACE : Fld := ⟨31, 31⟩
def F.DMA_CH_RING_CFG_CPL_SIZE_LOG2 : Fld := ⟨12, 8⟩
def F.DMA_CH_RING_CFG_RING_SIZE_LOG2 : Fld := ⟨4, 0⟩
def F.DMA_CH_SHADOW_CTRL_ARM : Fld := ⟨0, 0⟩
def F.MGMT_STATUS_BOOT_STAGE : Fld := ⟨31, 28⟩
def F.MGMT_STATUS_SLOT : Fld := ⟨27, 27⟩
def F.MGMT_STATUS_TRIAL : Fld := ⟨26, 26⟩
def F.MGMT_STATUS_IDENTITY_OK : Fld := ⟨25, 25⟩
def F.MGMT_STATUS_OWNED : Fld := ⟨24, 24⟩
def F.MGMT_STATUS_BOOT_LOCKED : Fld := ⟨23, 23⟩
def F.MGMT_STATUS_LINK_UP : Fld := ⟨22, 22⟩
def F.MGMT_STATUS_WD_RESTARTS : Fld := ⟨15, 0⟩
def F.MGMT_BOOT_CTRL_BOOT_LOCK : Fld := ⟨0, 0⟩
def F.MGMT_FW_VERSION_VERSION : Fld := ⟨31, 0⟩
def F.MGMT_EVENT_FALLBACK_BOOT : Fld := ⟨5, 5⟩
def F.MGMT_EVENT_FW_CONFIRMED : Fld := ⟨4, 4⟩
def F.MGMT_EVENT_LINK_CHANGE : Fld := ⟨3, 3⟩
def F.MGMT_EVENT_KEY_ROTATED : Fld := ⟨2, 2⟩
def F.MGMT_EVENT_AUTH_FAIL : Fld := ⟨1, 1⟩
def F.MGMT_EVENT_WD_RESTART : Fld := ⟨0, 0⟩
def F.MGMT_IRQ_EN_MASK : Fld := ⟨5, 0⟩
def F.MGMT_NET_CFG_EN : Fld := ⟨31, 31⟩
def F.MGMT_NET_CFG_IPV6 : Fld := ⟨30, 30⟩
def F.MGMT_NET_CFG_RS_FEC : Fld := ⟨29, 29⟩
def F.MGMT_NET_CFG_VLAN_EN : Fld := ⟨28, 28⟩
def F.MGMT_NET_CFG_VLAN_ID : Fld := ⟨11, 0⟩
def F.MGMT_MAC_ADDR_ADDR : Fld := ⟨31, 0⟩
def F.MGMT_MAC_ADDR_HI_ADDR : Fld := ⟨15, 0⟩
def F.MGMT_IP_ADDR_WORD : Fld := ⟨31, 0⟩
def F.MGMT_FM_ADDR_WORD : Fld := ⟨31, 0⟩
def F.MGMT_PORTS_REQ_PORT : Fld := ⟨31, 16⟩
def F.MGMT_PORTS_WAKE_PORT : Fld := ⟨15, 0⟩
def F.MGMT_SESSION_KEY_WORD : Fld := ⟨31, 0⟩
def F.MGMT_KEY_CTRL_KEY_SET : Fld := ⟨1, 1⟩
def F.MGMT_KEY_CTRL_KEY_LOCK : Fld := ⟨0, 0⟩
def F.MGMT_RECOVERY_ADDR : Fld := ⟨31, 0⟩
def F.MGMT_RECOVERY_HI_ADDR : Fld := ⟨31, 0⟩
def F.MGMT_RECOVERY_CTRL_GO : Fld := ⟨31, 31⟩
def F.MGMT_RECOVERY_CTRL_LENGTH : Fld := ⟨22, 0⟩
def F.MGMT_COUNT_COUNT : Fld := ⟨31, 0⟩
def F.MGMT_MEASURE_WORD : Fld := ⟨31, 0⟩
def F.I3C_STATUS_ADDR_VALID : Fld := ⟨31, 31⟩
def F.I3C_STATUS_DYN_ADDR : Fld := ⟨30, 24⟩
def F.I3C_STATUS_SLOT : Fld := ⟨23, 20⟩
def F.I3C_STATUS_IBI_EN : Fld := ⟨19, 19⟩
def F.PWR_CTRL_TARGET : Fld := ⟨31, 28⟩
def F.PWR_CTRL_AON_LP_EN : Fld := ⟨0, 0⟩
def F.PWR_STATUS_STATE : Fld := ⟨31, 28⟩
def F.PWR_STATUS_TRANSITION : Fld := ⟨27, 24⟩
def F.PWR_STATUS_LAST_STATUS : Fld := ⟨23, 16⟩
def F.PWR_STATUS_PWR_GOOD : Fld := ⟨0, 0⟩
def F.PWR_STAGGER_STEP_US : Fld := ⟨11, 0⟩
def F.WAKE_EN_GPIO_POL : Fld := ⟨11, 8⟩
def F.WAKE_EN_GPIO : Fld := ⟨7, 4⟩
def F.WAKE_EN_TIMER : Fld := ⟨3, 3⟩
def F.WAKE_EN_PCIE : Fld := ⟨2, 2⟩
def F.WAKE_EN_I3C : Fld := ⟨1, 1⟩
def F.WAKE_EN_MGMT : Fld := ⟨0, 0⟩
def F.WAKE_SOURCE_FIRST : Fld := ⟨31, 28⟩
def F.WAKE_SOURCE_SOURCES : Fld := ⟨8, 0⟩
def F.WAKE_TIMER_TICK : Fld := ⟨31, 0⟩
def F.WAKE_TIMER_HI_TICK : Fld := ⟨31, 0⟩
def F.PAD_RELEASE_HELD : Fld := ⟨31, 31⟩
def F.PAD_RELEASE_GO : Fld := ⟨0, 0⟩
def F.THERM_CTRL_THROTTLE_C : Fld := ⟨31, 24⟩
def F.THERM_CTRL_HYST_C : Fld := ⟨23, 16⟩
def F.RESET_CTRL_OP : Fld := ⟨31, 28⟩
def F.RESET_CTRL_CONFIRM : Fld := ⟨23, 16⟩
def F.RESET_CTRL_PERST_ACTION : Fld := ⟨1, 0⟩
def F.RESET_CAUSE_ABSORBED : Fld := ⟨8, 8⟩
def F.RESET_CAUSE_THERMTRIP : Fld := ⟨7, 7⟩
def F.RESET_CAUSE_PERST : Fld := ⟨6, 6⟩
def F.RESET_CAUSE_TRANSIT : Fld := ⟨5, 5⟩
def F.RESET_CAUSE_WARM : Fld := ⟨4, 4⟩
def F.RESET_CAUSE_COLD_REG : Fld := ⟨3, 3⟩
def F.RESET_CAUSE_RESET_PIN : Fld := ⟨2, 2⟩
def F.RESET_CAUSE_AON_BROWNOUT : Fld := ⟨1, 1⟩
def F.RESET_CAUSE_POWER_ON : Fld := ⟨0, 0⟩
def F.UNIT_RESET_KIND : Fld := ⟨31, 28⟩
def F.UNIT_RESET_DIE : Fld := ⟨27, 24⟩
def F.UNIT_RESET_UNIT : Fld := ⟨15, 0⟩
def F.DIE_PWR_STATUS_TEMP : Fld := ⟨31, 16⟩
def F.DIE_PWR_STATUS_STAGE : Fld := ⟨15, 14⟩
def F.DIE_PWR_STATUS_VDD_MV : Fld := ⟨9, 0⟩
def F.BAR2_WINDOW_BASE : Fld := ⟨15, 0⟩
def F.MSIX_ADDR_ADDR : Fld := ⟨31, 0⟩
def F.MSIX_ADDR_HI_ADDR : Fld := ⟨31, 0⟩
def F.MSIX_DATA_DATA : Fld := ⟨31, 0⟩
def F.MSIX_CTRL_MASK : Fld := ⟨0, 0⟩
def F.MSIX_PBA_PENDING : Fld := ⟨31, 0⟩

/-- Field CLASS_i of a CHANNEL_CLASS word (R73). -/
def F.CHANNEL_CLASS_CLASS (i : Nat) : Fld := ⟨2 * i + 1, 2 * i⟩
/-- Field CLASS_n of PUSHOUT_MAP (R186). -/
def F.PUSHOUT_MAP_CLASS (n : Nat) : Fld := ⟨4 * n + 2, 4 * n⟩

/-! The register index, in the order of the chapters. -/

/-- Part 1 of the register index. -/
def regIndex1 : List RegRow := [
  ⟨.DEVICE_ID, 0, [],
    [⟨⟨31, 16⟩, .RO, 0x1024⟩, ⟨⟨15, 12⟩, .RO, 1⟩, ⟨⟨11, 8⟩, .RO, 1⟩, ⟨⟨7, 7⟩, .RO, 0⟩, ⟨⟨6, 6⟩, .RO, 0⟩]⟩,
  ⟨.MESH_CTRL, 0x10408000, [⟨0, 8, 0x1000000⟩],
    [⟨⟨17, 8⟩, .RW, 0x100⟩, ⟨⟨0, 0⟩, .RW, 1⟩]⟩,
  ⟨.D2D_LINK_STATUS, 0x10408100, [⟨0, 8, 0x1000000⟩, ⟨0, 8, 0x10⟩],
    [⟨⟨15, 8⟩, .RO, 0⟩, ⟨⟨2, 2⟩, .RO, 0⟩, ⟨⟨1, 1⟩, .W1C, 0⟩, ⟨⟨0, 0⟩, .RO, 0⟩]⟩,
  ⟨.D2D_REPLAY_COUNT, 0x10408104, [⟨0, 8, 0x1000000⟩, ⟨0, 8, 0x10⟩],
    [⟨⟨31, 0⟩, .RC, 0⟩]⟩,
  ⟨.DIE_STATUS, 0x10, [],
    [⟨⟨26, 16⟩, .RO, 0⟩, ⟨⟨10, 0⟩, .RO, 0⟩]⟩,
  ⟨.OPTICAL_STATUS, 0x14, [],
    [⟨⟨31, 16⟩, .RO, 0⟩, ⟨⟨15, 0⟩, .RO, 0⟩]⟩,
  ⟨.PORT_YFP_CTRL, 0x10000100, [⟨0, 8, 0x1000000⟩, ⟨0, 130, 0x1000⟩],
    [⟨⟨23, 16⟩, .RW, 0⟩, ⟨⟨15, 0⟩, .RW, 0x64⟩]⟩,
  ⟨.PORT_GROUP_ID, 0x10000104, [⟨0, 8, 0x1000000⟩, ⟨0, 130, 0x1000⟩],
    [⟨⟨31, 0⟩, .RW, 0x10240000⟩]⟩,
  ⟨.PORT_FAR_GROUP_ID, 0x10000108, [⟨0, 8, 0x1000000⟩, ⟨0, 130, 0x1000⟩],
    [⟨⟨31, 0⟩, .RO, 0⟩]⟩,
  ⟨.PORT_FC_STATUS, 0x1000010C, [⟨0, 8, 0x1000000⟩, ⟨0, 130, 0x1000⟩],
    [⟨⟨16, 16⟩, .W1C, 0⟩, ⟨⟨15, 8⟩, .RO, 0⟩, ⟨⟨7, 0⟩, .RO, 0⟩]⟩,
  ⟨.PORT_HEADROOM, 0x10000110, [⟨0, 8, 0x1000000⟩, ⟨0, 130, 0x1000⟩],
    [⟨⟨27, 8⟩, .RO, 0⟩, ⟨⟨6, 0⟩, .RW, 0x64⟩]⟩,
  ⟨.YFP_COUNT, 0x10000180, [⟨0, 8, 0x1000000⟩, ⟨0, 130, 0x1000⟩, ⟨0, 16, 4⟩],
    [⟨⟨31, 0⟩, .RC, 0⟩]⟩,
  ⟨.YFP_DEV_CTRL, 0x100, [],
    [⟨⟨8, 8⟩, .RW, 1⟩, ⟨⟨4, 0⟩, .RW, 8⟩]⟩,
  ⟨.CHANNEL_CLASS, 0x1060F000, [⟨0, 8, 0x1000000⟩, ⟨0, 64, 0x40⟩, ⟨0, 16, 4⟩],
    [⟨⟨1, 0⟩, .RW, 0⟩, ⟨⟨3, 2⟩, .RW, 0⟩, ⟨⟨5, 4⟩, .RW, 0⟩, ⟨⟨7, 6⟩, .RW, 0⟩, ⟨⟨9, 8⟩, .RW, 0⟩, ⟨⟨11, 10⟩, .RW, 0⟩, ⟨⟨13, 12⟩, .RW, 0⟩, ⟨⟨15, 14⟩, .RW, 0⟩, ⟨⟨17, 16⟩, .RW, 0⟩, ⟨⟨19, 18⟩, .RW, 0⟩, ⟨⟨21, 20⟩, .RW, 0⟩, ⟨⟨23, 22⟩, .RW, 0⟩, ⟨⟨25, 24⟩, .RW, 0⟩, ⟨⟨27, 26⟩, .RW, 0⟩, ⟨⟨29, 28⟩, .RW, 0⟩, ⟨⟨31, 30⟩, .RW, 0⟩]⟩,
  ⟨.PORT_LANE_CTRL, 0x10000000, [⟨0, 8, 0x1000000⟩, ⟨0, 130, 0x1000⟩],
    [⟨⟨11, 8⟩, .RW, 1⟩, ⟨⟨3, 0⟩, .RW, 8⟩]⟩,
  ⟨.PORT_LANE_STATUS, 0x10000004, [⟨0, 8, 0x1000000⟩, ⟨0, 130, 0x1000⟩],
    [⟨⟨23, 16⟩, .RO, 0⟩, ⟨⟨15, 8⟩, .RO, 0⟩, ⟨⟨0, 0⟩, .RO, 0⟩]⟩,
  ⟨.OPT_LASER_STATUS, 0xC000000, [⟨0, 16, 0x100000⟩],
    [⟨⟨9, 9⟩, .RO, 0⟩, ⟨⟨8, 8⟩, .RO, 0⟩, ⟨⟨7, 0⟩, .RO, 0⟩]⟩,
  ⟨.OPT_LINE_POWER, 0xC000010, [⟨0, 16, 0x100000⟩, ⟨0, 8, 4⟩],
    [⟨⟨31, 16⟩, .RO, 0⟩, ⟨⟨15, 0⟩, .RO, 0x8000⟩]⟩,
  ⟨.OPT_TS_CTRL, 0xC000100, [⟨0, 16, 0x100000⟩],
    [⟨⟨31, 16⟩, .RW, 0x514⟩, ⟨⟨15, 0⟩, .RW, 0x96⟩]⟩,
  ⟨.OPT_LANE_POLICY, 0xC000104, [⟨0, 16, 0x100000⟩],
    [⟨⟨31, 24⟩, .RW, 0xA⟩, ⟨⟨15, 4⟩, .RW, 0x3E8⟩, ⟨⟨1, 1⟩, .RW, 1⟩, ⟨⟨0, 0⟩, .RW, 1⟩]⟩]

/-- Part 2 of the register index. -/
def regIndex2 : List RegRow := [
  ⟨.OPT_THERM_CTRL, 0xC000200, [⟨0, 16, 0x100000⟩],
    [⟨⟨15, 8⟩, .RW, 0x50⟩, ⟨⟨7, 0⟩, .RW, 0x3C⟩]⟩,
  ⟨.OPT_THERM_STATUS, 0xC000204, [⟨0, 16, 0x100000⟩],
    [⟨⟨31, 16⟩, .RO, 0⟩, ⟨⟨15, 4⟩, .RO, 0⟩, ⟨⟨2, 2⟩, .W1C, 0⟩, ⟨⟨1, 1⟩, .W1C, 0⟩, ⟨⟨0, 0⟩, .RO, 0⟩]⟩,
  ⟨.LANE_STATUS, 0xC010000, [⟨0, 16, 0x100000⟩, ⟨0, 72, 0x400⟩],
    [⟨⟨31, 28⟩, .RO, 0⟩, ⟨⟨27, 24⟩, .RO, 0xF⟩, ⟨⟨23, 20⟩, .RO, 0xF⟩, ⟨⟨19, 19⟩, .RO, 0⟩, ⟨⟨18, 18⟩, .RO, 0⟩, ⟨⟨17, 17⟩, .RO, 0⟩, ⟨⟨16, 16⟩, .RO, 0⟩, ⟨⟨15, 8⟩, .RO, 0⟩, ⟨⟨7, 7⟩, .RO, 0⟩]⟩,
  ⟨.LANE_EVENT, 0xC010004, [⟨0, 16, 0x100000⟩, ⟨0, 72, 0x400⟩],
    [⟨⟨5, 5⟩, .W1C, 0⟩, ⟨⟨4, 4⟩, .W1C, 0⟩, ⟨⟨3, 3⟩, .W1C, 0⟩, ⟨⟨2, 2⟩, .W1C, 0⟩, ⟨⟨1, 1⟩, .W1C, 0⟩, ⟨⟨0, 0⟩, .W1C, 0⟩]⟩,
  ⟨.LANE_CTRL, 0xC010008, [⟨0, 16, 0x100000⟩, ⟨0, 72, 0x400⟩],
    [⟨⟨0, 0⟩, .RW, 0⟩]⟩,
  ⟨.LANE_TS_REPORT, 0xC010040, [⟨0, 16, 0x100000⟩, ⟨0, 72, 0x400⟩, ⟨0, 8, 4⟩],
    [⟨⟨31, 0⟩, .RO, 0⟩]⟩,
  ⟨.LANE_COUNT, 0xC010080, [⟨0, 16, 0x100000⟩, ⟨0, 72, 0x400⟩, ⟨0, 8, 4⟩],
    [⟨⟨31, 0⟩, .RC, 0⟩]⟩,
  ⟨.TIME_NOW_LO, 0x1300000, [],
    [⟨⟨31, 0⟩, .RO, 0⟩]⟩,
  ⟨.TIME_NOW_HI, 0x1300004, [],
    [⟨⟨31, 0⟩, .RW, 0⟩]⟩,
  ⟨.TIME_CTRL, 0x1300010, [],
    [⟨⟨31, 31⟩, .RW, 0⟩, ⟨⟨25, 16⟩, .RW, 0x64⟩, ⟨⟨15, 0⟩, .RW, 0x7D⟩]⟩,
  ⟨.TIME_STATUS, 0x1300014, [],
    [⟨⟨31, 28⟩, .RO, 0⟩, ⟨⟨27, 27⟩, .RO, 0⟩, ⟨⟨26, 24⟩, .RO, 0⟩, ⟨⟨23, 16⟩, .RO, 0xFF⟩, ⟨⟨2, 2⟩, .W1C, 0⟩, ⟨⟨1, 1⟩, .W1C, 0⟩, ⟨⟨0, 0⟩, .W1C, 0⟩]⟩,
  ⟨.TIME_OFFSET, 0x1300018, [],
    [⟨⟨31, 0⟩, .RO, 0⟩]⟩,
  ⟨.TIME_FREQ_ADJ, 0x130001C, [],
    [⟨⟨31, 0⟩, .RO, 0⟩]⟩,
  ⟨.TIME_SERVO, 0x1300020, [],
    [⟨⟨31, 16⟩, .RW, 0x3E8⟩, ⟨⟨15, 8⟩, .RW, 0xA⟩, ⟨⟨7, 4⟩, .RW, 3⟩, ⟨⟨3, 0⟩, .RW, 8⟩]⟩,
  ⟨.TIME_REF_CTRL, 0x1300024, [],
    [⟨⟨15, 8⟩, .RW, 0⟩, ⟨⟨2, 2⟩, .RW, 0⟩, ⟨⟨1, 1⟩, .RW, 0⟩, ⟨⟨0, 0⟩, .RW, 0⟩]⟩,
  ⟨.TIME_PPS_LOAD, 0x1300028, [],
    [⟨⟨31, 0⟩, .RW, 0⟩]⟩,
  ⟨.TIME_PPS_OUT_ANCHOR, 0x130002C, [],
    [⟨⟨31, 0⟩, .RW, 0⟩]⟩,
  ⟨.AON_TICK, 0x1300030, [],
    [⟨⟨31, 0⟩, .RO, 0⟩]⟩,
  ⟨.AON_TICK_HI, 0x1300034, [],
    [⟨⟨31, 0⟩, .RO, 0⟩]⟩,
  ⟨.TIME_PORT_CTRL, 0x10000200, [⟨0, 8, 0x1000000⟩, ⟨0, 128, 0x1000⟩],
    [⟨⟨31, 16⟩, .RW, 0⟩, ⟨⟨7, 0⟩, .RW, 0⟩]⟩]

/-- Part 3 of the register index. -/
def regIndex3 : List RegRow := [
  ⟨.TIME_PORT_DELAY, 0x10000204, [⟨0, 8, 0x1000000⟩, ⟨0, 128, 0x1000⟩],
    [⟨⟨31, 0⟩, .RO, 0⟩]⟩,
  ⟨.TQ_CTRL, 0x10000210, [⟨0, 8, 0x1000000⟩, ⟨0, 128, 0x1000⟩],
    [⟨⟨31, 31⟩, .RW, 1⟩, ⟨⟨30, 30⟩, .RW, 1⟩, ⟨⟨29, 16⟩, .RW, 0x3E8⟩, ⟨⟨15, 0⟩, .RW, 0x64⟩]⟩,
  ⟨.TQ_COUNT, 0x10000220, [⟨0, 8, 0x1000000⟩, ⟨0, 128, 0x1000⟩, ⟨0, 4, 4⟩],
    [⟨⟨31, 0⟩, .RC, 0⟩]⟩,
  ⟨.LANYARD_PORT_CTRL, 0x10000300, [⟨0, 8, 0x1000000⟩, ⟨128, 2, 0x1000⟩],
    [⟨⟨31, 31⟩, .RW, 0⟩, ⟨⟨29, 16⟩, .RW, 0x3E8⟩, ⟨⟨15, 8⟩, .RW, 0xA⟩]⟩,
  ⟨.LANYARD_SRC_ADDR, 0x10000304, [⟨0, 8, 0x1000000⟩, ⟨128, 2, 0x1000⟩],
    [⟨⟨31, 0⟩, .RW, 0⟩]⟩,
  ⟨.LANYARD_RX_DELAY, 0x10000308, [⟨0, 8, 0x1000000⟩, ⟨128, 2, 0x1000⟩],
    [⟨⟨31, 31⟩, .RO, 0⟩, ⟨⟨25, 16⟩, .RO, 0⟩, ⟨⟨13, 0⟩, .RW, 0⟩]⟩,
  ⟨.LANYARD_TS_START, 0x1000030C, [⟨0, 8, 0x1000000⟩, ⟨128, 2, 0x1000⟩],
    [⟨⟨31, 0⟩, .RW, 0⟩]⟩,
  ⟨.LANYARD_TS_CTRL, 0x10000310, [⟨0, 8, 0x1000000⟩, ⟨128, 2, 0x1000⟩],
    [⟨⟨31, 31⟩, .W1S, 0⟩, ⟨⟨15, 0⟩, .RW, 0x1DE⟩]⟩,
  ⟨.LANYARD_ROTA_STAGE, 0x10000314, [⟨0, 8, 0x1000000⟩, ⟨128, 2, 0x1000⟩],
    [⟨⟨31, 16⟩, .RW, 0x7D0⟩, ⟨⟨10, 0⟩, .RW, 0x400⟩]⟩,
  ⟨.LANYARD_GUARD_STAGE, 0x10000318, [⟨0, 8, 0x1000000⟩, ⟨128, 2, 0x1000⟩],
    [⟨⟨9, 0⟩, .RW, 0x64⟩]⟩,
  ⟨.LANYARD_ROTA_ANCHOR, 0x1000031C, [⟨0, 8, 0x1000000⟩, ⟨128, 2, 0x1000⟩],
    [⟨⟨31, 0⟩, .RO, 0⟩]⟩,
  ⟨.LANYARD_ROTA_ACTIVE, 0x10000320, [⟨0, 8, 0x1000000⟩, ⟨128, 2, 0x1000⟩],
    [⟨⟨31, 16⟩, .RO, 0x7D0⟩, ⟨⟨10, 0⟩, .RO, 0x400⟩]⟩,
  ⟨.LANYARD_STATUS, 0x10000324, [⟨0, 8, 0x1000000⟩, ⟨128, 2, 0x1000⟩],
    [⟨⟨31, 28⟩, .RO, 0⟩, ⟨⟨27, 18⟩, .RO, 0⟩, ⟨⟨17, 8⟩, .RO, 0x64⟩, ⟨⟨2, 2⟩, .W1C, 0⟩, ⟨⟨1, 1⟩, .W1C, 0⟩, ⟨⟨0, 0⟩, .RO, 0⟩]⟩,
  ⟨.LANYARD_CONFLICT, 0x10000328, [⟨0, 8, 0x1000000⟩, ⟨128, 2, 0x1000⟩],
    [⟨⟨18, 16⟩, .RO, 0⟩, ⟨⟨9, 0⟩, .RO, 0⟩]⟩,
  ⟨.LANYARD_WINDOW, 0x1000032C, [⟨0, 8, 0x1000000⟩, ⟨128, 2, 0x1000⟩],
    [⟨⟨31, 16⟩, .RO, 0x5B7⟩, ⟨⟨13, 0⟩, .RO, 0x2424⟩]⟩,
  ⟨.LANYARD_PEER_ADDR, 0x10000400, [⟨0, 8, 0x1000000⟩, ⟨128, 2, 0x1000⟩, ⟨0, 32, 8⟩],
    [⟨⟨31, 0⟩, .RO, 0⟩]⟩,
  ⟨.LANYARD_PEER_STATUS, 0x10000404, [⟨0, 8, 0x1000000⟩, ⟨128, 2, 0x1000⟩, ⟨0, 32, 8⟩],
    [⟨⟨31, 31⟩, .RO, 0⟩, ⟨⟨30, 30⟩, .RO, 0⟩, ⟨⟨29, 29⟩, .RO, 0⟩, ⟨⟨28, 28⟩, .RW, 0⟩, ⟨⟨27, 27⟩, .RO, 0⟩, ⟨⟨26, 22⟩, .RO, 0⟩, ⟨⟨15, 0⟩, .RO, 0⟩]⟩,
  ⟨.LANYARD_PEER_PATH, 0x10000500, [⟨0, 8, 0x1000000⟩, ⟨128, 2, 0x1000⟩, ⟨0, 32, 4⟩],
    [⟨⟨31, 24⟩, .RO, 0⟩, ⟨⟨23, 16⟩, .RO, 0⟩, ⟨⟨15, 8⟩, .RO, 0⟩, ⟨⟨7, 0⟩, .RO, 0⟩]⟩,
  ⟨.LANYARD_LANE_VERIFY, 0x10000580, [⟨0, 8, 0x1000000⟩, ⟨128, 2, 0x1000⟩, ⟨0, 8, 8⟩, ⟨0, 2, 4⟩],
    [⟨⟨31, 0⟩, .RO, 0⟩]⟩,
  ⟨.LANYARD_COUNT, 0x10000600, [⟨0, 8, 0x1000000⟩, ⟨128, 2, 0x1000⟩, ⟨0, 16, 4⟩],
    [⟨⟨31, 0⟩, .RC, 0⟩]⟩]

/-- Part 4 of the register index. -/
def regIndex4 : List RegRow := [
  ⟨.LANYARD_ROTA, 0x10280000, [⟨0, 8, 0x1000000⟩, ⟨128, 2, 0x8000⟩, ⟨0, 8, 0x1000⟩, ⟨0, 1024, 4⟩],
    [⟨⟨31, 0⟩, .RW, 0⟩]⟩,
  ⟨.NATIVE_BLOCK, 0x10600000, [⟨0, 8, 0x1000000⟩],
    [⟨⟨31, 26⟩, .RW, 0⟩, ⟨⟨25, 20⟩, .RW, 0⟩, ⟨⟨19, 14⟩, .RW, 0x3F⟩, ⟨⟨13, 8⟩, .RW, 0x3F⟩, ⟨⟨0, 0⟩, .RW, 0⟩]⟩,
  ⟨.TXN_CTRL, 0x10600010, [⟨0, 8, 0x1000000⟩],
    [⟨⟨31, 24⟩, .RW, 0⟩, ⟨⟨3, 0⟩, .WO, 0⟩]⟩,
  ⟨.TXN_TIME, 0x10600014, [⟨0, 8, 0x1000000⟩],
    [⟨⟨31, 0⟩, .RW, 0⟩]⟩,
  ⟨.TXN_STATUS, 0x10600018, [⟨0, 8, 0x1000000⟩],
    [⟨⟨31, 28⟩, .RO, 0⟩, ⟨⟨27, 20⟩, .RO, 0⟩, ⟨⟨19, 17⟩, .RO, 0⟩, ⟨⟨16, 0⟩, .RO, 0⟩]⟩,
  ⟨.TXN_EVENT, 0x1060001C, [⟨0, 8, 0x1000000⟩],
    [⟨⟨4, 4⟩, .W1C, 0⟩, ⟨⟨3, 3⟩, .W1C, 0⟩, ⟨⟨2, 2⟩, .W1C, 0⟩, ⟨⟨1, 1⟩, .W1C, 0⟩, ⟨⟨0, 0⟩, .W1C, 0⟩]⟩,
  ⟨.TXN_GEN, 0x10600020, [⟨0, 8, 0x1000000⟩],
    [⟨⟨31, 0⟩, .RO, 0⟩]⟩,
  ⟨.TXN_FLIP_TIME, 0x10600024, [⟨0, 8, 0x1000000⟩],
    [⟨⟨31, 0⟩, .RO, 0⟩]⟩,
  ⟨.OVR_SEED, 0x10600030, [⟨0, 8, 0x1000000⟩, ⟨0, 2, 4⟩],
    [⟨⟨31, 0⟩, .RWL, 0x1B873593⟩]⟩,
  ⟨.PS_HASH_SEED, 0x10600038, [⟨0, 8, 0x1000000⟩],
    [⟨⟨31, 0⟩, .RWL, 0xFFFFFFFF⟩]⟩,
  ⟨.TBL_CMD, 0x10600100, [⟨0, 8, 0x1000000⟩],
    [⟨⟨31, 24⟩, .WO, 0⟩, ⟨⟨23, 20⟩, .WO, 0⟩, ⟨⟨19, 16⟩, .WO, 0⟩]⟩,
  ⟨.TBL_INDEX, 0x10600104, [⟨0, 8, 0x1000000⟩],
    [⟨⟨19, 0⟩, .RW, 0⟩]⟩,
  ⟨.TBL_STATUS, 0x10600108, [⟨0, 8, 0x1000000⟩],
    [⟨⟨31, 31⟩, .RO, 0⟩, ⟨⟨23, 16⟩, .RO, 0⟩, ⟨⟨15, 15⟩, .RO, 0⟩, ⟨⟨13, 8⟩, .RO, 0⟩]⟩,
  ⟨.TBL_DATA, 0x10600140, [⟨0, 8, 0x1000000⟩, ⟨0, 33, 4⟩],
    [⟨⟨31, 0⟩, .RW, 0⟩]⟩,
  ⟨.LEARN_RANGE_ADDR, 0x10600300, [⟨0, 8, 0x1000000⟩, ⟨0, 16, 8⟩],
    [⟨⟨31, 0⟩, .RW, 0⟩]⟩,
  ⟨.LEARN_RANGE_CTRL, 0x10600304, [⟨0, 8, 0x1000000⟩, ⟨0, 16, 8⟩],
    [⟨⟨31, 31⟩, .RW, 0⟩, ⟨⟨5, 0⟩, .RW, 0x20⟩]⟩,
  ⟨.SCRUB_STATUS, 0x10600400, [⟨0, 8, 0x1000000⟩],
    [⟨⟨31, 16⟩, .RO, 0⟩, ⟨⟨15, 0⟩, .RO, 0⟩]⟩,
  ⟨.PARITY_LOG, 0x10600404, [⟨0, 8, 0x1000000⟩],
    [⟨⟨31, 31⟩, .RC, 0⟩, ⟨⟨30, 27⟩, .RC, 0⟩, ⟨⟨26, 26⟩, .RC, 0⟩, ⟨⟨25, 25⟩, .RC, 0⟩, ⟨⟨24, 24⟩, .RC, 0⟩, ⟨⟨19, 0⟩, .RC, 0⟩]⟩,
  ⟨.PARTITION_FENCE, 0x10602000, [⟨0, 8, 0x1000000⟩, ⟨0, 64, 0x10⟩],
    [⟨⟨31, 31⟩, .RW, 0⟩, ⟨⟨30, 30⟩, .RW, 0⟩]⟩,
  ⟨.PARTITION_BRIDGE, 0x10602004, [⟨0, 8, 0x1000000⟩, ⟨0, 64, 0x10⟩],
    [⟨⟨31, 0⟩, .RW, 0⟩]⟩]

/-- Part 5 of the register index. -/
def regIndex5 : List RegRow := [
  ⟨.PARTITION_BRIDGE_HI, 0x10602008, [⟨0, 8, 0x1000000⟩, ⟨0, 64, 0x10⟩],
    [⟨⟨31, 0⟩, .RW, 0⟩]⟩,
  ⟨.PARTITION_FLOOD, 0x1060200C, [⟨0, 8, 0x1000000⟩, ⟨0, 64, 0x10⟩],
    [⟨⟨31, 31⟩, .RW, 0⟩, ⟨⟨11, 0⟩, .RW, 0⟩]⟩,
  ⟨.PORT_PARTITION, 0x10000130, [⟨0, 8, 0x1000000⟩, ⟨0, 130, 0x1000⟩],
    [⟨⟨31, 31⟩, .RW, 0⟩, ⟨⟨5, 0⟩, .RW, 0⟩]⟩,
  ⟨.LOOKUP_COUNT, 0x10601000, [⟨0, 8, 0x1000000⟩, ⟨0, 16, 0x40⟩, ⟨0, 16, 4⟩],
    [⟨⟨31, 0⟩, .RC, 0⟩]⟩,
  ⟨.BUF_POOL_CTRL, 0x10400000, [⟨0, 8, 0x1000000⟩],
    [⟨⟨16, 0⟩, .RW, 0x8000⟩]⟩,
  ⟨.BUF_RESERVE, 0x10400004, [⟨0, 8, 0x1000000⟩],
    [⟨⟨31, 16⟩, .RW, 0x1000⟩, ⟨⟨15, 0⟩, .RW, 0x1000⟩]⟩,
  ⟨.BUF_SHARE_CTRL, 0x10400008, [⟨0, 8, 0x1000000⟩],
    [⟨⟨2, 0⟩, .RW, 1⟩]⟩,
  ⟨.PUSHOUT_MAP, 0x1040000C, [⟨0, 8, 0x1000000⟩],
    [⟨⟨2, 0⟩, .RW, 0⟩, ⟨⟨6, 4⟩, .RW, 1⟩, ⟨⟨10, 8⟩, .RW, 2⟩, ⟨⟨14, 12⟩, .RW, 3⟩, ⟨⟨18, 16⟩, .RW, 4⟩, ⟨⟨22, 20⟩, .RW, 5⟩, ⟨⟨26, 24⟩, .RW, 6⟩, ⟨⟨30, 28⟩, .RW, 7⟩]⟩,
  ⟨.SPRAY_SEED, 0x10400010, [⟨0, 8, 0x1000000⟩],
    [⟨⟨31, 0⟩, .RW, 0x2545F491⟩]⟩,
  ⟨.CT_CTRL, 0x10400014, [⟨0, 8, 0x1000000⟩],
    [⟨⟨0, 0⟩, .RW, 1⟩]⟩,
  ⟨.BUF_SHARED_STATUS, 0x10400020, [⟨0, 8, 0x1000000⟩],
    [⟨⟨16, 0⟩, .RO, 0⟩]⟩,
  ⟨.BUF_STAGE_STATUS, 0x10400024, [⟨0, 8, 0x1000000⟩],
    [⟨⟨16, 0⟩, .RO, 0⟩]⟩,
  ⟨.BUF_EVENT, 0x10400030, [⟨0, 8, 0x1000000⟩],
    [⟨⟨2, 2⟩, .W1C, 0⟩, ⟨⟨1, 1⟩, .W1C, 0⟩, ⟨⟨0, 0⟩, .W1C, 0⟩]⟩,
  ⟨.PORT_BUF_CTRL, 0x10000700, [⟨0, 8, 0x1000000⟩, ⟨0, 130, 0x1000⟩],
    [⟨⟨31, 16⟩, .RW, 0x4A⟩, ⟨⟨15, 8⟩, .RW, 0x80⟩, ⟨⟨7, 0⟩, .RW, 0x40⟩]⟩,
  ⟨.PORT_HOLD_CTRL, 0x10000704, [⟨0, 8, 0x1000000⟩, ⟨0, 130, 0x1000⟩],
    [⟨⟨9, 0⟩, .RW, 0x14⟩]⟩,
  ⟨.PORT_ADMIT, 0x10000708, [⟨0, 8, 0x1000000⟩, ⟨0, 130, 0x1000⟩],
    [⟨⟨31, 31⟩, .RW, 0⟩, ⟨⟨15, 8⟩, .RO, 0⟩]⟩,
  ⟨.PORT_CORE_STATUS, 0x1000070C, [⟨0, 8, 0x1000000⟩, ⟨0, 130, 0x1000⟩],
    [⟨⟨31, 28⟩, .RO, 1⟩, ⟨⟨16, 0⟩, .RO, 0⟩]⟩,
  ⟨.PORT_STAGE_STATUS, 0x10000710, [⟨0, 8, 0x1000000⟩, ⟨0, 130, 0x1000⟩],
    [⟨⟨31, 17⟩, .RO, 0⟩, ⟨⟨16, 0⟩, .RO, 0⟩]⟩,
  ⟨.CORE_COUNT, 0x10000740, [⟨0, 8, 0x1000000⟩, ⟨0, 130, 0x1000⟩, ⟨0, 16, 4⟩],
    [⟨⟨31, 0⟩, .RC, 0⟩]⟩,
  ⟨.TM_QUEUE_CTRL, 0x10800000, [⟨0, 8, 0x1000000⟩, ⟨0, 130, 0x200⟩, ⟨0, 8, 0x20⟩],
    [⟨⟨31, 29⟩, .RW, 0⟩, ⟨⟨28, 19⟩, .RW, 0x91⟩, ⟨⟨16, 0⟩, .RW, 0⟩]⟩]

/-- Part 6 of the register index. -/
def regIndex6 : List RegRow := [
  ⟨.TM_SHAPER, 0x10800004, [⟨0, 8, 0x1000000⟩, ⟨0, 130, 0x200⟩, ⟨0, 8, 0x20⟩],
    [⟨⟨31, 16⟩, .RW, 0x100⟩, ⟨⟨15, 15⟩, .RW, 0⟩, ⟨⟨13, 0⟩, .RW, 0⟩]⟩,
  ⟨.TM_QUEUE_STATUS, 0x10800008, [⟨0, 8, 0x1000000⟩, ⟨0, 130, 0x200⟩, ⟨0, 8, 0x20⟩],
    [⟨⟨31, 31⟩, .RO, 0⟩, ⟨⟨30, 30⟩, .RO, 0⟩, ⟨⟨16, 0⟩, .RO, 0⟩]⟩,
  ⟨.TM_QUEUE_CREDIT, 0x1080000C, [⟨0, 8, 0x1000000⟩, ⟨0, 130, 0x200⟩, ⟨0, 8, 0x20⟩],
    [⟨⟨31, 0⟩, .RO, 0⟩]⟩,
  ⟨.TM_COUNT, 0x10820000, [⟨0, 8, 0x1000000⟩, ⟨0, 130, 0x40⟩, ⟨0, 16, 4⟩],
    [⟨⟨31, 0⟩, .RC, 0⟩]⟩,
  ⟨.CS_PORT_CTRL, 0x10824000, [⟨0, 8, 0x1000000⟩, ⟨0, 130, 4⟩],
    [⟨⟨31, 31⟩, .RW, 0⟩, ⟨⟨30, 27⟩, .RW, 0⟩, ⟨⟨23, 23⟩, .RW, 0⟩, ⟨⟨22, 19⟩, .RW, 0⟩, ⟨⟨15, 15⟩, .RW, 0⟩, ⟨⟨14, 11⟩, .RW, 0⟩]⟩,
  ⟨.CS_COPY_CTRL, 0x10830000, [⟨0, 8, 0x1000000⟩],
    [⟨⟨31, 31⟩, .RW, 0⟩, ⟨⟨30, 27⟩, .RW, 0⟩]⟩,
  ⟨.TM_EVENT, 0x10830004, [⟨0, 8, 0x1000000⟩],
    [⟨⟨1, 1⟩, .W1C, 0⟩, ⟨⟨0, 0⟩, .W1C, 0⟩]⟩,
  ⟨.EXPOSURE_CTRL, 0x10830010, [⟨0, 8, 0x1000000⟩],
    [⟨⟨31, 28⟩, .WO, 0⟩, ⟨⟨8, 8⟩, .RW, 0⟩, ⟨⟨7, 7⟩, .RW, 0⟩, ⟨⟨4, 0⟩, .RW, 0x1F⟩]⟩,
  ⟨.EXPOSURE_TIME, 0x10830014, [⟨0, 8, 0x1000000⟩],
    [⟨⟨31, 0⟩, .RW, 0⟩]⟩,
  ⟨.EXPOSURE_ADDR, 0x10830018, [⟨0, 8, 0x1000000⟩],
    [⟨⟨31, 0⟩, .RW, 0⟩]⟩,
  ⟨.EXPOSURE_ADDR_HI, 0x1083001C, [⟨0, 8, 0x1000000⟩],
    [⟨⟨31, 0⟩, .RW, 0⟩]⟩,
  ⟨.EXPOSURE_STATUS, 0x10830020, [⟨0, 8, 0x1000000⟩],
    [⟨⟨31, 31⟩, .RO, 0⟩, ⟨⟨30, 30⟩, .W1C, 0⟩, ⟨⟨29, 29⟩, .W1C, 0⟩, ⟨⟨15, 0⟩, .RO, 0⟩]⟩,
  ⟨.POLICER_CFG0, 0x10900000, [⟨0, 8, 0x1000000⟩, ⟨0, 8704, 0x10⟩],
    [⟨⟨31, 31⟩, .RW, 0⟩, ⟨⟨30, 28⟩, .RW, 0⟩, ⟨⟨27, 26⟩, .RW, 0⟩, ⟨⟨25, 24⟩, .RW, 2⟩, ⟨⟨13, 0⟩, .RW, 0⟩]⟩,
  ⟨.POLICER_CFG1, 0x10900004, [⟨0, 8, 0x1000000⟩, ⟨0, 8704, 0x10⟩],
    [⟨⟨31, 16⟩, .RW, 0⟩, ⟨⟨13, 0⟩, .RW, 0⟩]⟩,
  ⟨.POLICER_CFG2, 0x10900008, [⟨0, 8, 0x1000000⟩, ⟨0, 8704, 0x10⟩],
    [⟨⟨31, 16⟩, .RW, 0⟩]⟩,
  ⟨.POLICER_COUNT, 0x10940000, [⟨0, 8, 0x1000000⟩, ⟨0, 8704, 0x10⟩, ⟨0, 3, 4⟩],
    [⟨⟨31, 0⟩, .RC, 0⟩]⟩,
  ⟨.CS_RING_BASE, 0x1000, [],
    [⟨⟨31, 0⟩, .RW, 0⟩]⟩,
  ⟨.CS_RING_BASE_HI, 0x1004, [],
    [⟨⟨31, 0⟩, .RW, 0⟩]⟩,
  ⟨.CS_RING_CTRL, 0x1008, [],
    [⟨⟨31, 31⟩, .RW, 0⟩, ⟨⟨30, 30⟩, .RW, 0⟩, ⟨⟨29, 29⟩, .RW, 0⟩, ⟨⟨28, 24⟩, .RW, 0xC⟩, ⟨⟨23, 0⟩, .RW, 0x100⟩]⟩,
  ⟨.CS_RING_PROD, 0x100C, [],
    [⟨⟨31, 0⟩, .RO, 0⟩]⟩]

/-- Part 7 of the register index. -/
def regIndex7 : List RegRow := [
  ⟨.CS_RING_CONS, 0x1010, [],
    [⟨⟨31, 0⟩, .RW, 0⟩]⟩,
  ⟨.CS_RING_LOST, 0x1014, [],
    [⟨⟨31, 0⟩, .RC, 0⟩]⟩,
  ⟨.ENGINE_CTRL, 0x10A00000, [⟨0, 8, 0x1000000⟩, ⟨0, 16, 0x10000⟩],
    [⟨⟨31, 28⟩, .WO, 0⟩, ⟨⟨0, 0⟩, .RW, 1⟩]⟩,
  ⟨.ENGINE_STATUS, 0x10A00004, [⟨0, 8, 0x1000000⟩, ⟨0, 16, 0x10000⟩],
    [⟨⟨31, 28⟩, .RO, 1⟩, ⟨⟨27, 27⟩, .RO, 0⟩, ⟨⟨26, 25⟩, .RO, 3⟩, ⟨⟨21, 11⟩, .RO, 0⟩, ⟨⟨7, 0⟩, .RO, 0⟩]⟩,
  ⟨.ENGINE_EVENT, 0x10A00008, [⟨0, 8, 0x1000000⟩, ⟨0, 16, 0x10000⟩],
    [⟨⟨8, 8⟩, .W1C, 0⟩, ⟨⟨7, 7⟩, .W1C, 0⟩, ⟨⟨6, 6⟩, .W1C, 0⟩, ⟨⟨5, 5⟩, .W1C, 0⟩, ⟨⟨4, 4⟩, .W1C, 0⟩, ⟨⟨3, 3⟩, .W1C, 0⟩, ⟨⟨2, 2⟩, .W1C, 0⟩, ⟨⟨1, 1⟩, .W1C, 0⟩, ⟨⟨0, 0⟩, .W1C, 0⟩]⟩,
  ⟨.ENGINE_PART_CTRL, 0x10A0000C, [⟨0, 8, 0x1000000⟩, ⟨0, 16, 0x10000⟩],
    [⟨⟨1, 0⟩, .RW, 0⟩]⟩,
  ⟨.ENGINE_IMEM_CTRL, 0x10A00010, [⟨0, 8, 0x1000000⟩, ⟨0, 16, 0x10000⟩],
    [⟨⟨11, 0⟩, .RW, 0⟩]⟩,
  ⟨.ENGINE_IMEM_CRC, 0x10A00014, [⟨0, 8, 0x1000000⟩, ⟨0, 16, 0x10000⟩],
    [⟨⟨31, 0⟩, .RW, 0⟩]⟩,
  ⟨.ENGINE_IMAGE_ID, 0x10A00018, [⟨0, 8, 0x1000000⟩, ⟨0, 16, 0x10000⟩],
    [⟨⟨31, 0⟩, .RW, 0⟩]⟩,
  ⟨.ENGINE_DISPATCH_CTRL, 0x10A0001C, [⟨0, 8, 0x1000000⟩, ⟨0, 16, 0x10000⟩],
    [⟨⟨31, 12⟩, .RW, 0x4000⟩, ⟨⟨11, 0⟩, .RW, 0x100⟩]⟩,
  ⟨.ENGINE_FAULT_INFO, 0x10A00020, [⟨0, 8, 0x1000000⟩, ⟨0, 16, 0x10000⟩],
    [⟨⟨31, 27⟩, .RO, 0⟩, ⟨⟨26, 16⟩, .RO, 0⟩, ⟨⟨15, 15⟩, .RO, 0⟩, ⟨⟨13, 0⟩, .RO, 0⟩]⟩,
  ⟨.ENGINE_IRQ_EN, 0x10A00024, [⟨0, 8, 0x1000000⟩, ⟨0, 16, 0x10000⟩],
    [⟨⟨8, 0⟩, .RW, 3⟩]⟩,
  ⟨.ENGINE_KNOT_STATUS, 0x10A00028, [⟨0, 8, 0x1000000⟩, ⟨0, 16, 0x10000⟩],
    [⟨⟨14, 0⟩, .RO, 0⟩]⟩,
  ⟨.ENGINE_STAGE_STATUS, 0x10A0002C, [⟨0, 8, 0x1000000⟩, ⟨0, 16, 0x10000⟩],
    [⟨⟨24, 16⟩, .RO, 0⟩, ⟨⟨7, 0⟩, .RO, 0⟩]⟩,
  ⟨.ENGINE_CYCLE, 0x10A00030, [⟨0, 8, 0x1000000⟩, ⟨0, 16, 0x10000⟩],
    [⟨⟨31, 0⟩, .RO, 0⟩]⟩,
  ⟨.ENGINE_CYCLE_HI, 0x10A00034, [⟨0, 8, 0x1000000⟩, ⟨0, 16, 0x10000⟩],
    [⟨⟨31, 0⟩, .RO, 0⟩]⟩,
  ⟨.ENGINE_PMC_STATUS, 0x10A00040, [⟨0, 8, 0x1000000⟩, ⟨0, 16, 0x10000⟩],
    [⟨⟨16, 16⟩, .W1C, 0⟩, ⟨⟨7, 0⟩, .W1C, 0⟩]⟩,
  ⟨.ENGINE_PMC_PC, 0x10A00044, [⟨0, 8, 0x1000000⟩, ⟨0, 16, 0x10000⟩],
    [⟨⟨31, 31⟩, .RO, 0⟩, ⟨⟨10, 0⟩, .RO, 0⟩]⟩,
  ⟨.ENGINE_PMC_CTRL, 0x10A00080, [⟨0, 8, 0x1000000⟩, ⟨0, 16, 0x10000⟩, ⟨0, 8, 0x10⟩],
    [⟨⟨31, 31⟩, .RW, 0⟩, ⟨⟨30, 30⟩, .RW, 0⟩, ⟨⟨29, 29⟩, .RW, 0⟩, ⟨⟨7, 0⟩, .RW, 0⟩]⟩,
  ⟨.ENGINE_PMC, 0x10A00084, [⟨0, 8, 0x1000000⟩, ⟨0, 16, 0x10000⟩, ⟨0, 8, 0x10⟩],
    [⟨⟨31, 0⟩, .RW, 0⟩]⟩]

/-- Part 8 of the register index. -/
def regIndex8 : List RegRow := [
  ⟨.ENGINE_PMC_HI, 0x10A00088, [⟨0, 8, 0x1000000⟩, ⟨0, 16, 0x10000⟩, ⟨0, 8, 0x10⟩],
    [⟨⟨15, 0⟩, .RW, 0⟩]⟩,
  ⟨.ENGINE_TAG_CTRL, 0x10A00100, [⟨0, 8, 0x1000000⟩, ⟨0, 16, 0x10000⟩],
    [⟨⟨31, 31⟩, .RW, 0⟩, ⟨⟨30, 30⟩, .RW, 0⟩, ⟨⟨24, 20⟩, .RW, 0xA⟩, ⟨⟨7, 0⟩, .RW, 0x80⟩]⟩,
  ⟨.ENGINE_TAG_STATUS, 0x10A00104, [⟨0, 8, 0x1000000⟩, ⟨0, 16, 0x10000⟩],
    [⟨⟨15, 0⟩, .RO, 0⟩]⟩,
  ⟨.ENGINE_TAG_CONS, 0x10A00108, [⟨0, 8, 0x1000000⟩, ⟨0, 16, 0x10000⟩],
    [⟨⟨15, 0⟩, .RW, 0⟩]⟩,
  ⟨.ENGINE_TAG_LOST, 0x10A0010C, [⟨0, 8, 0x1000000⟩, ⟨0, 16, 0x10000⟩],
    [⟨⟨31, 0⟩, .RC, 0⟩]⟩,
  ⟨.ENGINE_TAG_SKIPPED, 0x10A00110, [⟨0, 8, 0x1000000⟩, ⟨0, 16, 0x10000⟩],
    [⟨⟨31, 0⟩, .RC, 0⟩]⟩,
  ⟨.ENGINE_TAG_SEED, 0x10A00114, [⟨0, 8, 0x1000000⟩, ⟨0, 16, 0x10000⟩],
    [⟨⟨31, 0⟩, .RW, 0x9E3779B9⟩]⟩,
  ⟨.ENGINE_COUNT, 0x10A00180, [⟨0, 8, 0x1000000⟩, ⟨0, 16, 0x10000⟩, ⟨0, 8, 4⟩],
    [⟨⟨31, 0⟩, .RC, 0⟩]⟩,
  ⟨.ENGINE_TAG_BUF, 0x10A08000, [⟨0, 8, 0x1000000⟩, ⟨0, 16, 0x10000⟩, ⟨0, 256, 0x20⟩, ⟨0, 8, 4⟩],
    [⟨⟨31, 0⟩, .RO, 0⟩]⟩,
  ⟨.KNOT_CMD, 0x10C00000, [⟨0, 8, 0x1000000⟩],
    [⟨⟨31, 28⟩, .WO, 0⟩, ⟨⟨13, 0⟩, .RW, 0⟩]⟩,
  ⟨.KNOT_CMD_STATUS, 0x10C00004, [⟨0, 8, 0x1000000⟩],
    [⟨⟨31, 31⟩, .RO, 0⟩, ⟨⟨23, 16⟩, .RO, 0⟩, ⟨⟨15, 12⟩, .RO, 0⟩, ⟨⟨7, 0⟩, .RO, 0⟩]⟩,
  ⟨.KNOT_EVENT, 0x10C00008, [⟨0, 8, 0x1000000⟩],
    [⟨⟨2, 2⟩, .W1C, 0⟩, ⟨⟨1, 1⟩, .W1C, 0⟩, ⟨⟨0, 0⟩, .W1C, 0⟩]⟩,
  ⟨.KNOT_DATA, 0x10C00100, [⟨0, 8, 0x1000000⟩, ⟨0, 64, 4⟩],
    [⟨⟨31, 0⟩, .RW, 0⟩]⟩,
  ⟨.KNOT_COUNT, 0x10C00200, [⟨0, 8, 0x1000000⟩, ⟨0, 16, 4⟩],
    [⟨⟨31, 0⟩, .RC, 0⟩]⟩,
  ⟨.HOLD_CTRL, 0, [⟨8, 2, 0x1000000⟩],
    [⟨⟨31, 31⟩, .RW, 0⟩, ⟨⟨10, 8⟩, .RW, 7⟩]⟩,
  ⟨.HOLD_STATUS, 4, [⟨8, 2, 0x1000000⟩],
    [⟨⟨31, 28⟩, .RO, 0⟩]⟩,
  ⟨.HOLD_SEED, 8, [⟨8, 2, 0x1000000⟩],
    [⟨⟨31, 0⟩, .RWL, 0x6A09E667⟩]⟩,
  ⟨.HOLD_INDEX_CTRL, 0xC, [⟨8, 2, 0x1000000⟩],
    [⟨⟨4, 0⟩, .RW, 0x18⟩]⟩,
  ⟨.HOLD_RING_BASE, 0x10, [⟨8, 2, 0x1000000⟩],
    [⟨⟨31, 0⟩, .RW, 0⟩]⟩,
  ⟨.HOLD_RING_BASE_HI, 0x14, [⟨8, 2, 0x1000000⟩],
    [⟨⟨31, 0⟩, .RW, 0⟩]⟩]

/-- Part 9 of the register index. -/
def regIndex9 : List RegRow := [
  ⟨.HOLD_RING_SIZE, 0x18, [⟨8, 2, 0x1000000⟩],
    [⟨⟨31, 0⟩, .RW, 0⟩]⟩,
  ⟨.HOLD_SCRUB_CTRL, 0x20, [⟨8, 2, 0x1000000⟩],
    [⟨⟨7, 0⟩, .RW, 0xC⟩]⟩,
  ⟨.HOLD_SCRUB_STATUS, 0x24, [⟨8, 2, 0x1000000⟩],
    [⟨⟨31, 16⟩, .RO, 0⟩, ⟨⟨15, 0⟩, .RO, 0⟩]⟩,
  ⟨.HOLD_EVENT, 0x30, [⟨8, 2, 0x1000000⟩],
    [⟨⟨3, 3⟩, .W1C, 0⟩, ⟨⟨2, 2⟩, .W1C, 0⟩, ⟨⟨1, 1⟩, .W1C, 0⟩, ⟨⟨0, 0⟩, .W1C, 0⟩]⟩,
  ⟨.HOLD_ECC_LOG, 0x34, [⟨8, 2, 0x1000000⟩],
    [⟨⟨31, 31⟩, .RC, 0⟩, ⟨⟨30, 30⟩, .RC, 0⟩, ⟨⟨29, 0⟩, .RC, 0⟩]⟩,
  ⟨.HOLD_SHAPE, 0x100, [⟨8, 2, 0x1000000⟩, ⟨0, 16, 4⟩],
    [⟨⟨31, 31⟩, .RW, 0⟩, ⟨⟨27, 24⟩, .RW, 1⟩, ⟨⟨14, 8⟩, .RW, 0⟩, ⟨⟨5, 0⟩, .RW, 4⟩]⟩,
  ⟨.HOLD_POOL_BASE, 0x200, [⟨8, 2, 0x1000000⟩, ⟨0, 16, 0x10⟩],
    [⟨⟨31, 0⟩, .RW, 0⟩]⟩,
  ⟨.HOLD_POOL_BASE_HI, 0x204, [⟨8, 2, 0x1000000⟩, ⟨0, 16, 0x10⟩],
    [⟨⟨31, 0⟩, .RW, 0⟩]⟩,
  ⟨.HOLD_POOL_ROWS, 0x208, [⟨8, 2, 0x1000000⟩, ⟨0, 16, 0x10⟩],
    [⟨⟨31, 0⟩, .RW, 0⟩]⟩,
  ⟨.HOLD_POOL_USED, 0x20C, [⟨8, 2, 0x1000000⟩, ⟨0, 16, 0x10⟩],
    [⟨⟨31, 0⟩, .RO, 0⟩]⟩,
  ⟨.HOLD_COUNT, 0x400, [⟨8, 2, 0x1000000⟩, ⟨0, 16, 4⟩],
    [⟨⟨31, 0⟩, .RC, 0⟩]⟩,
  ⟨.INTEG_CTRL, 0x1508000, [],
    [⟨⟨31, 31⟩, .RW, 1⟩, ⟨⟨30, 30⟩, .RW, 1⟩, ⟨⟨29, 29⟩, .RW, 1⟩, ⟨⟨28, 28⟩, .RW, 1⟩, ⟨⟨20, 16⟩, .RW, 0xC⟩, ⟨⟨15, 8⟩, .RW, 0x32⟩, ⟨⟨7, 0⟩, .RW, 0x18⟩]⟩,
  ⟨.INTEG_CLASS_CTRL, 0x1508004, [],
    [⟨⟨31, 24⟩, .RW, 3⟩, ⟨⟨23, 16⟩, .RW, 0x48⟩, ⟨⟨15, 8⟩, .RW, 0x18⟩, ⟨⟨3, 0⟩, .RW, 4⟩]⟩,
  ⟨.INTEG_LOG_TIME, 0x1508008, [],
    [⟨⟨31, 0⟩, .RW, 0⟩]⟩,
  ⟨.INTEG_STATUS, 0x150800C, [],
    [⟨⟨31, 31⟩, .RO, 0⟩, ⟨⟨15, 0⟩, .RO, 0⟩]⟩,
  ⟨.INTEG_EVENT, 0x1508010, [],
    [⟨⟨6, 6⟩, .W1C, 0⟩, ⟨⟨5, 5⟩, .W1C, 0⟩, ⟨⟨4, 4⟩, .W1C, 0⟩, ⟨⟨3, 3⟩, .W1C, 0⟩, ⟨⟨2, 2⟩, .W1C, 0⟩, ⟨⟨1, 1⟩, .W1C, 0⟩, ⟨⟨0, 0⟩, .W1C, 0⟩]⟩,
  ⟨.INTEG_UNIT_CMD, 0x1508020, [],
    [⟨⟨31, 28⟩, .WO, 0⟩, ⟨⟨27, 24⟩, .RW, 0⟩, ⟨⟨23, 20⟩, .RW, 0⟩, ⟨⟨15, 0⟩, .RW, 0⟩]⟩,
  ⟨.INTEG_UNIT_STATUS, 0x1508024, [],
    [⟨⟨31, 28⟩, .RO, 0⟩, ⟨⟨27, 24⟩, .RO, 0⟩, ⟨⟨23, 16⟩, .RO, 0⟩, ⟨⟨15, 8⟩, .RO, 0⟩]⟩,
  ⟨.INTEG_BUDGET, 0x1508040, [⟨2, 7, 4⟩],
    [⟨⟨23, 16⟩, .RO, 0⟩, ⟨⟨15, 8⟩, .RO, 0⟩, ⟨⟨7, 0⟩, .RO, 0⟩]⟩,
  ⟨.INTEG_FB_PROD, 0x1508080, [],
    [⟨⟨31, 0⟩, .RO, 0⟩]⟩]

/-- Part 10 of the register index. -/
def regIndex10 : List RegRow := [
  ⟨.INTEG_FB_CONS, 0x1508084, [],
    [⟨⟨31, 0⟩, .RW, 0⟩]⟩,
  ⟨.INTEG_NOTICE_CTRL, 0x15080A0, [],
    [⟨⟨31, 16⟩, .RW, 0xB7A4⟩, ⟨⟨7, 4⟩, .RW, 5⟩]⟩,
  ⟨.INTEG_COUNT, 0x1508100, [⟨0, 16, 4⟩],
    [⟨⟨31, 0⟩, .RC, 0⟩]⟩,
  ⟨.INTEG_FB_RECORD, 0x1509000, [⟨0, 64, 0x40⟩, ⟨0, 16, 4⟩],
    [⟨⟨31, 0⟩, .RO, 0⟩]⟩,
  ⟨.HOST_BAD_ACCESS, 0x200, [],
    [⟨⟨31, 16⟩, .RC, 0⟩, ⟨⟨15, 0⟩, .RC, 0⟩]⟩,
  ⟨.HOST_IRQ_PENDING, 0x208, [],
    [⟨⟨31, 0⟩, .RO, 0⟩]⟩,
  ⟨.HOST_IRQ_PENDING_HI, 0x20C, [],
    [⟨⟨31, 0⟩, .RO, 0⟩]⟩,
  ⟨.CMD_RING_BASE, 0x1200000, [],
    [⟨⟨31, 0⟩, .RW, 0⟩]⟩,
  ⟨.CMD_RING_BASE_HI, 0x1200004, [],
    [⟨⟨31, 0⟩, .RW, 0⟩]⟩,
  ⟨.CMD_RING_CTRL, 0x1200008, [],
    [⟨⟨31, 31⟩, .RW, 0⟩, ⟨⟨4, 0⟩, .RW, 8⟩]⟩,
  ⟨.CMD_RING_TAIL, 0x120000C, [],
    [⟨⟨11, 0⟩, .RW, 0⟩]⟩,
  ⟨.CMD_RING_HEAD, 0x1200010, [],
    [⟨⟨11, 0⟩, .RO, 0⟩]⟩,
  ⟨.CPL_RING_BASE, 0x1200018, [],
    [⟨⟨31, 0⟩, .RW, 0⟩]⟩,
  ⟨.CPL_RING_BASE_HI, 0x120001C, [],
    [⟨⟨31, 0⟩, .RW, 0⟩]⟩,
  ⟨.CPL_RING_CTRL, 0x1200020, [],
    [⟨⟨31, 31⟩, .RW, 0⟩, ⟨⟨19, 8⟩, .RW, 0⟩, ⟨⟨4, 0⟩, .RW, 8⟩]⟩,
  ⟨.CPL_RING_HEAD, 0x1200024, [],
    [⟨⟨11, 0⟩, .RW, 0⟩]⟩,
  ⟨.CPL_RING_TAIL, 0x1200028, [],
    [⟨⟨11, 0⟩, .RO, 0⟩]⟩,
  ⟨.CMD_EVENT, 0x120002C, [],
    [⟨⟨13, 8⟩, .RO, 0⟩, ⟨⟨1, 1⟩, .RO, 0⟩, ⟨⟨0, 0⟩, .W1C, 0⟩]⟩,
  ⟨.DMA_CH_CTRL, 0x1100000, [⟨0, 32, 0x100⟩],
    [⟨⟨31, 31⟩, .RW, 0⟩, ⟨⟨23, 16⟩, .RW, 1⟩, ⟨⟨0, 0⟩, .RW, 0⟩]⟩,
  ⟨.DMA_CH_STATUS, 0x1100004, [⟨0, 32, 0x100⟩],
    [⟨⟨31, 28⟩, .RO, 0⟩, ⟨⟨27, 27⟩, .RO, 0⟩, ⟨⟨26, 26⟩, .W1C, 0⟩, ⟨⟨25, 25⟩, .W1C, 0⟩, ⟨⟨23, 16⟩, .RO, 0⟩, ⟨⟨15, 0⟩, .RO, 0⟩]⟩]

/-- Part 11 of the register index. -/
def regIndex11 : List RegRow := [
  ⟨.DMA_CH_TAIL, 0x1100008, [⟨0, 32, 0x100⟩],
    [⟨⟨15, 0⟩, .RW, 0⟩]⟩,
  ⟨.DMA_CH_CPL_INDEX, 0x110000C, [⟨0, 32, 0x100⟩],
    [⟨⟨31, 16⟩, .RO, 0⟩, ⟨⟨15, 0⟩, .RW, 0⟩]⟩,
  ⟨.DMA_CH_RING_BASE, 0x1100020, [⟨0, 32, 0x100⟩],
    [⟨⟨31, 0⟩, .RW, 0⟩]⟩,
  ⟨.DMA_CH_RING_BASE_HI, 0x1100024, [⟨0, 32, 0x100⟩],
    [⟨⟨31, 0⟩, .RW, 0⟩]⟩,
  ⟨.DMA_CH_CPL_BASE, 0x1100028, [⟨0, 32, 0x100⟩],
    [⟨⟨31, 0⟩, .RW, 0⟩]⟩,
  ⟨.DMA_CH_CPL_BASE_HI, 0x110002C, [⟨0, 32, 0x100⟩],
    [⟨⟨31, 0⟩, .RW, 0⟩]⟩,
  ⟨.DMA_CH_RING_CFG, 0x1100030, [⟨0, 32, 0x100⟩],
    [⟨⟨31, 31⟩, .RW, 0⟩, ⟨⟨12, 8⟩, .RW, 8⟩, ⟨⟨4, 0⟩, .RW, 8⟩]⟩,
  ⟨.DMA_CH_SHADOW_CTRL, 0x1100034, [⟨0, 32, 0x100⟩],
    [⟨⟨0, 0⟩, .W1S, 0⟩]⟩,
  ⟨.MGMT_STATUS, 0x1500000, [],
    [⟨⟨31, 28⟩, .RO, 0⟩, ⟨⟨27, 27⟩, .RO, 0⟩, ⟨⟨26, 26⟩, .RO, 0⟩, ⟨⟨25, 25⟩, .RO, 0⟩, ⟨⟨24, 24⟩, .RO, 0⟩, ⟨⟨23, 23⟩, .RO, 0⟩, ⟨⟨22, 22⟩, .RO, 0⟩, ⟨⟨15, 0⟩, .RO, 0⟩]⟩,
  ⟨.MGMT_BOOT_CTRL, 0x1500004, [],
    [⟨⟨0, 0⟩, .W1S, 0⟩]⟩,
  ⟨.MGMT_FW_VERSION, 0x1500008, [],
    [⟨⟨31, 0⟩, .RO, 0⟩]⟩,
  ⟨.MGMT_EVENT, 0x1500010, [],
    [⟨⟨5, 5⟩, .W1C, 0⟩, ⟨⟨4, 4⟩, .W1C, 0⟩, ⟨⟨3, 3⟩, .W1C, 0⟩, ⟨⟨2, 2⟩, .W1C, 0⟩, ⟨⟨1, 1⟩, .W1C, 0⟩, ⟨⟨0, 0⟩, .W1C, 0⟩]⟩,
  ⟨.MGMT_IRQ_EN, 0x1500014, [],
    [⟨⟨5, 0⟩, .RW, 0x21⟩]⟩,
  ⟨.MGMT_NET_CFG, 0x1500020, [],
    [⟨⟨31, 31⟩, .RWL, 0⟩, ⟨⟨30, 30⟩, .RWL, 0⟩, ⟨⟨29, 29⟩, .RWL, 1⟩, ⟨⟨28, 28⟩, .RWL, 0⟩, ⟨⟨11, 0⟩, .RWL, 0⟩]⟩,
  ⟨.MGMT_MAC_ADDR, 0x1500024, [],
    [⟨⟨31, 0⟩, .RWL, 0⟩]⟩,
  ⟨.MGMT_MAC_ADDR_HI, 0x1500028, [],
    [⟨⟨15, 0⟩, .RWL, 0⟩]⟩,
  ⟨.MGMT_IP_ADDR, 0x1500040, [⟨0, 4, 4⟩],
    [⟨⟨31, 0⟩, .RWL, 0⟩]⟩,
  ⟨.MGMT_FM_ADDR, 0x1500050, [⟨0, 4, 4⟩],
    [⟨⟨31, 0⟩, .RWL, 0⟩]⟩,
  ⟨.MGMT_PORTS, 0x1500060, [],
    [⟨⟨31, 16⟩, .RWL, 0xB7A5⟩, ⟨⟨15, 0⟩, .RWL, 0xB7A6⟩]⟩,
  ⟨.MGMT_SESSION_KEY, 0x1500080, [⟨0, 8, 4⟩],
    [⟨⟨31, 0⟩, .WO, 0⟩]⟩]

/-- Part 12 of the register index. -/
def regIndex12 : List RegRow := [
  ⟨.MGMT_KEY_CTRL, 0x15000A0, [],
    [⟨⟨1, 1⟩, .RO, 0⟩, ⟨⟨0, 0⟩, .W1S, 0⟩]⟩,
  ⟨.MGMT_RECOVERY, 0x15000C0, [],
    [⟨⟨31, 0⟩, .RW, 0⟩]⟩,
  ⟨.MGMT_RECOVERY_HI, 0x15000C4, [],
    [⟨⟨31, 0⟩, .RW, 0⟩]⟩,
  ⟨.MGMT_RECOVERY_CTRL, 0x15000C8, [],
    [⟨⟨31, 31⟩, .W1S, 0⟩, ⟨⟨22, 0⟩, .RW, 0⟩]⟩,
  ⟨.MGMT_COUNT, 0x1500100, [⟨0, 8, 4⟩],
    [⟨⟨31, 0⟩, .RC, 0⟩]⟩,
  ⟨.MGMT_MEASURE, 0x1500200, [⟨0, 8, 0x20⟩, ⟨0, 8, 4⟩],
    [⟨⟨31, 0⟩, .RO, 0⟩]⟩,
  ⟨.I3C_STATUS, 0x1500300, [],
    [⟨⟨31, 31⟩, .RO, 0⟩, ⟨⟨30, 24⟩, .RO, 0⟩, ⟨⟨23, 20⟩, .RO, 0⟩, ⟨⟨19, 19⟩, .RO, 0⟩]⟩,
  ⟨.PWR_CTRL, 0x1400000, [],
    [⟨⟨31, 28⟩, .WO, 0⟩, ⟨⟨0, 0⟩, .RW, 0⟩]⟩,
  ⟨.PWR_STATUS, 0x1400004, [],
    [⟨⟨31, 28⟩, .RO, 0⟩, ⟨⟨27, 24⟩, .RO, 0xF⟩, ⟨⟨23, 16⟩, .RO, 0⟩, ⟨⟨0, 0⟩, .RO, 0⟩]⟩,
  ⟨.PWR_STAGGER, 0x1400008, [],
    [⟨⟨11, 0⟩, .RW, 0xC8⟩]⟩,
  ⟨.WAKE_EN, 0x1400010, [],
    [⟨⟨11, 8⟩, .RW, 0⟩, ⟨⟨7, 4⟩, .RW, 0⟩, ⟨⟨3, 3⟩, .RW, 0⟩, ⟨⟨2, 2⟩, .RW, 1⟩, ⟨⟨1, 1⟩, .RW, 1⟩, ⟨⟨0, 0⟩, .RW, 0⟩]⟩,
  ⟨.WAKE_SOURCE, 0x1400014, [],
    [⟨⟨31, 28⟩, .RO, 0⟩, ⟨⟨8, 0⟩, .W1C, 0⟩]⟩,
  ⟨.WAKE_TIMER, 0x1400018, [],
    [⟨⟨31, 0⟩, .RW, 0⟩]⟩,
  ⟨.WAKE_TIMER_HI, 0x140001C, [],
    [⟨⟨31, 0⟩, .RW, 0⟩]⟩,
  ⟨.PAD_RELEASE, 0x1400020, [],
    [⟨⟨31, 31⟩, .RO, 0⟩, ⟨⟨0, 0⟩, .WO, 0⟩]⟩,
  ⟨.THERM_CTRL, 0x1400030, [],
    [⟨⟨31, 24⟩, .RW, 0x64⟩, ⟨⟨23, 16⟩, .RW, 3⟩]⟩,
  ⟨.RESET_CTRL, 0x1400040, [],
    [⟨⟨31, 28⟩, .WO, 0⟩, ⟨⟨23, 16⟩, .WO, 0⟩, ⟨⟨1, 0⟩, .RW, 0⟩]⟩,
  ⟨.RESET_CAUSE, 0x1400044, [],
    [⟨⟨8, 8⟩, .W1C, 0⟩, ⟨⟨7, 7⟩, .W1C, 0⟩, ⟨⟨6, 6⟩, .W1C, 0⟩, ⟨⟨5, 5⟩, .W1C, 0⟩, ⟨⟨4, 4⟩, .W1C, 0⟩, ⟨⟨3, 3⟩, .W1C, 0⟩, ⟨⟨2, 2⟩, .W1C, 0⟩, ⟨⟨1, 1⟩, .W1C, 0⟩, ⟨⟨0, 0⟩, .W1C, 1⟩]⟩,
  ⟨.UNIT_RESET, 0x1400048, [],
    [⟨⟨31, 28⟩, .WO, 0⟩, ⟨⟨27, 24⟩, .WO, 0⟩, ⟨⟨15, 0⟩, .WO, 0⟩]⟩,
  ⟨.DIE_PWR_STATUS, 0x1400100, [⟨0, 8, 0x10⟩],
    [⟨⟨31, 16⟩, .RO, 0⟩, ⟨⟨15, 14⟩, .RO, 0⟩, ⟨⟨9, 0⟩, .RO, 0⟩]⟩]

/-- Part 13 of the register index. -/
def regIndex13 : List RegRow := [
  ⟨.BAR2_WINDOW, 0x300, [],
    [⟨⟨15, 0⟩, .RW, 0⟩]⟩,
  ⟨.MSIX_ADDR, 0x8000, [⟨0, 64, 0x10⟩],
    [⟨⟨31, 0⟩, .RW, 0⟩]⟩,
  ⟨.MSIX_ADDR_HI, 0x8004, [⟨0, 64, 0x10⟩],
    [⟨⟨31, 0⟩, .RW, 0⟩]⟩,
  ⟨.MSIX_DATA, 0x8008, [⟨0, 64, 0x10⟩],
    [⟨⟨31, 0⟩, .RW, 0⟩]⟩,
  ⟨.MSIX_CTRL, 0x800C, [⟨0, 64, 0x10⟩],
    [⟨⟨0, 0⟩, .RW, 1⟩]⟩,
  ⟨.MSIX_PBA, 0x9000, [⟨0, 2, 4⟩],
    [⟨⟨31, 0⟩, .RO, 0⟩]⟩]

/-- The register index (Tables 17.5 to 17.10 and the field tables). Reserved fields are not listed: they read 0 and
ignore writes (R7). -/
def regIndex : List RegRow :=
  regIndex1 ++ regIndex2 ++ regIndex3 ++ regIndex4 ++ regIndex5 ++ regIndex6 ++ regIndex7 ++ regIndex8 ++ regIndex9 ++ regIndex10 ++ regIndex11 ++ regIndex12 ++ regIndex13

/-- Reset value of an instance of a register row: the fields' reset values, with the rows whose table gives a reset
that depends on the instance. -/
def RegRow.resetAt (r : RegRow) (idx : List Nat) : Word :=
  match r.reg, idx with
  | .PORT_GROUP_ID, [d, p] => (R.PORT_GROUP_ID d p).reset
  | .PORT_LANE_CTRL, [d, p] => (R.PORT_LANE_CTRL d p).reset
  | .OVR_SEED, [d, i] => (R.OVR_SEED d i).reset
  | .PORT_PARTITION, [d, p] => (R.PORT_PARTITION d p).reset
  | .PORT_CORE_STATUS, [d, p] => (R.PORT_CORE_STATUS d p).reset
  | .TM_QUEUE_CTRL, [d, p, t] => (R.TM_QUEUE_CTRL d p t).reset
  | .INTEG_BUDGET, [k] => (R.INTEG_BUDGET k).reset
  | _, _ => BitVec.ofNat 32 (r.fields.foldl (fun a f => a + f.reset * 2 ^ f.fld.lo) 0)

/-- Indices of offset a within the dimensions ds, if a falls exactly on an instance. -/
def dimIndices : List Dim → Nat → Option (List Nat)
  | [], a => if a = 0 then some [] else none
  | d :: ds, a =>
    let i := a / d.stride
    if a < d.first * d.stride then none
    else if i < d.first + d.count then
      (dimIndices ds (a - i * d.stride)).map (i :: ·)
    else none

/-- The instance of a row that an address names, if any. -/
def RegRow.locate (r : RegRow) (addr : Nat) : Option (List Nat) :=
  if addr < r.base then none else dimIndices r.dims (addr - r.base)

/-- Find an address in a list of rows. -/
def findIn : List RegRow → Nat → Option (RegRow × List Nat)
  | [], _ => none
  | r :: rs, addr =>
    match r.locate addr with
    | some idx => some (r, idx)
    | none => findIn rs addr

/-- The register instance at a BAR0 address; none where the offset is reserved (R432). -/
def findReg (addr : Nat) : Option (RegRow × List Nat) := findIn regIndex addr

/-- The reference of an instance: its address and reset value. -/
def RegRow.ref (r : RegRow) (addr : Nat) (idx : List Nat) : RegRef := ⟨addr, r.resetAt idx⟩

end Sys2Proof.Machine
end

