-- ==== Sys2Proof/Machine/Ops.lean ====
section
/-! DEFINITION. The named operations over the state: registers and their fields, counters, fabric time, the blocks by
number, frames, host memory, free values, and what leaves the package. -/

namespace Sys2Proof.Machine

/-! ## Registers -/

/-- Read a register. -/
def State.rd (s : State) (r : RegRef) : Word := sget s.regs r.addr r.reset

/-- Write a register. -/
def State.wr (s : State) (r : RegRef) (v : Word) : State := { s with regs := sput s.regs r.addr v r.reset }

/-- Read a field of a register. -/
def State.fld (s : State) (r : RegRef) (f : Fld) : Nat := f.get (s.rd r)

/-- Read a one-bit field. -/
def State.bit (s : State) (r : RegRef) (f : Fld) : Bool := s.fld r f == 1

/-- Write a field of a register. -/
def State.setF (s : State) (r : RegRef) (f : Fld) (n : Nat) : State := s.wr r (f.put (s.rd r) n)

/-- Set a one-bit field to 1. -/
def State.setBit (s : State) (r : RegRef) (f : Fld) : State := s.setF r f 1

/-- Add n to a counter that saturates at 0xFFFF_FFFF (R11). -/
def State.countN (s : State) (r : RegRef) (n : Nat) : State :=
  s.wr r (BitVec.ofNat 32 (min ((s.rd r).toNat + n) 0xFFFFFFFF))

/-- Count one event in a counter that saturates at 0xFFFF_FFFF. -/
def State.count (s : State) (r : RegRef) : State := s.countN r 1

/-- Read a 64-bit pair (R9). -/
def State.rd64 (s : State) (lo hi : RegRef) : Nat := (s.rd lo).toNat + 2 ^ 32 * (s.rd hi).toNat

/-- Write a 64-bit pair. -/
def State.wr64 (s : State) (lo hi : RegRef) (n : Nat) : State :=
  (s.wr lo (BitVec.ofNat 32 n)).wr hi (BitVec.ofNat 32 (n / 2 ^ 32))

/-- The bits of a field as a word mask. -/
def Fld.mask (f : Fld) : Word := BitVec.ofNat 32 (f.ones * 2 ^ f.lo)

/-- A word after software writes v to a field of an access code (R5, Table 0.6): RW takes it, W1C
clears where 1, W1S sets where 1, RWL takes it unless locked, the others ignore it. -/
def FieldRow.write (locked : Bool) (v : Word) (w : Word) (r : FieldRow) : Word :=
  let m := r.fld.mask
  match r.acc with
  | .RW => (w &&& ~~~m) ||| (v &&& m)
  | .W1C => w &&& ~~~(v &&& m)
  | .W1S => w ||| (v &&& m)
  | .RWL => if locked then w else (w &&& ~~~m) ||| (v &&& m)
  | .RO | .WO | .RC => w

/-- A register word after a software write, field by field (R5). -/
def writeFields (locked : Bool) (fs : List FieldRow) (old v : Word) : Word :=
  fs.foldl (FieldRow.write locked v) old

/-- A register word after its RC fields are read (R5). -/
def clearRc (fs : List FieldRow) (w : Word) : Word :=
  fs.foldl (fun w r => match r.acc with
    | .RC => w &&& ~~~r.fld.mask
    | _ => w) w

/-! ## Free values -/

/-- Draw a free value of w bits: the value and the state with the draw counted. -/
def State.drawFree (s : State) (w : Nat) : Nat × State :=
  ((Config.freeValue w s.free).toNat, { s with free := s.free + 1 })

/-- The status codes of Table 0.8 other than COMPLETED: the device reports no others (R13). -/
def failCodes : List Nat := [0x01, 0x02, 0x03, 0x04, 0x10, 0x11, 0x12, 0x13, 0x14, 0x15, 0x16, 0x17, 0x18, 0x1F]

/-- A free choice among some status codes. -/
def State.drawCode (s : State) (codes : List Nat) : Nat × State :=
  let (x, s1) := s.drawFree 8
  (codes.getD (x % max 1 codes.length) 0x1F, s1)

/-- What leaves the package. -/
def State.emit (s : State) (o : Out) : State := { s with out := o :: s.out }

/-! ## Blocks by number -/

def State.port (s : State) (d p : Nat) : Port := sget s.ports (d * 130 + p) Port.init
def State.setPort (s : State) (d p : Nat) (x : Port) : State :=
  { s with ports := sput s.ports (d * 130 + p) x Port.init }
def State.updPort (s : State) (d p : Nat) (f : Port → Port) : State := s.setPort d p (f (s.port d p))

def State.lane (s : State) (d n : Nat) : Lane := sget s.lanes (d * 144 + n) Lane.init
def State.setLane (s : State) (d n : Nat) (x : Lane) : State :=
  { s with lanes := sput s.lanes (d * 144 + n) x Lane.init }
def State.updLane (s : State) (d n : Nat) (f : Lane → Lane) : State := s.setLane d n (f (s.lane d n))

def State.die (s : State) (d : Nat) : Die := sget s.dies d Die.init
def State.setDie (s : State) (d : Nat) (x : Die) : State := { s with dies := sput s.dies d x Die.init }
def State.updDie (s : State) (d : Nat) (f : Die → Die) : State := s.setDie d (f (s.die d))

/-- The link from die a to die b. -/
def State.link (s : State) (a b : Nat) : Link := sget s.links (a * 8 + b) Link.init
def State.setLink (s : State) (a b : Nat) (x : Link) : State :=
  { s with links := sput s.links (a * 8 + b) x Link.init }
def State.updLink (s : State) (a b : Nat) (f : Link → Link) : State := s.setLink a b (f (s.link a b))

/-- Lanyard port 128 + lp of die d. -/
def State.lan (s : State) (d lp : Nat) : Lany := sget s.lany (d * 2 + lp) Lany.init
def State.setLan (s : State) (d lp : Nat) (x : Lany) : State :=
  { s with lany := sput s.lany (d * 2 + lp) x Lany.init }
def State.updLan (s : State) (d lp : Nat) (f : Lany → Lany) : State := s.setLan d lp (f (s.lan d lp))

/-! ## Frames held -/

def State.frm? (s : State) (n : Nat) : Option FrameRec := sget s.frames n none
def State.frm (s : State) (n : Nat) : FrameRec := (s.frm? n).getD FrameRec.init
def State.setFrm (s : State) (n : Nat) (f : FrameRec) : State := { s with frames := sput s.frames n (some f) none }
def State.updFrm (s : State) (n : Nat) (g : FrameRec → FrameRec) : State :=
  match s.frm? n with
  | some f => s.setFrm n (g f)
  | none => s
def State.delFrm (s : State) (n : Nat) : State := { s with frames := sput s.frames n none none }
/-- Store a frame under a new number. -/
def State.addFrm (s : State) (f : FrameRec) : Nat × State :=
  (s.nextFrame, { s.setFrm s.nextFrame f with nextFrame := s.nextFrame + 1 })

/-! ## Lists -/

/-- Set bit i of a mask to b. -/
def setMaskBit (m i : Nat) (b : Bool) : Nat :=
  if m.testBit i = b then m else if b then m + 2 ^ i else m - 2 ^ i

/-- Numbers below n whose bit is set in a mask. -/
def maskBits (m n : Nat) : List Nat := (List.range n).filter (m.testBit ·)

/-- Number of bits set below n. -/
def popCount (m n : Nat) : Nat := (maskBits m n).length

/-- Signed value of the low w bits of n. -/
def toSigned (w n : Nat) : Int :=
  let m := n % 2 ^ w
  if m < 2 ^ (w - 1) then (m : Int) else (m : Int) - (2 ^ w : Nat)

/-- Two's complement of an integer in w bits. -/
def ofSigned (w : Nat) (i : Int) : Nat := (i % ((2 ^ w : Nat) : Int)).toNat

/-- Round up division. -/
def ceilDiv (a b : Nat) : Nat := (a + b - 1) / b

/-! ## Bytes -/

/-- n as k bytes, least significant first. -/
def leBytes (n : Nat) : Nat → Bytes
  | 0 => []
  | k + 1 => BitVec.ofNat 8 n :: leBytes (n / 256) k

/-- n as k bytes, most significant first. -/
def beBytes (n k : Nat) : Bytes := (leBytes n k).reverse

/-- Little-endian value of bytes. -/
def leNat : Bytes → Nat
  | [] => 0
  | b :: bs => b.toNat + 256 * leNat bs

/-- Big-endian value of bytes. -/
def beNat (b : Bytes) : Nat := leNat b.reverse

/-- Bytes of a list of 32-bit words, each least significant byte first. -/
def leWords (ws : List Nat) : Bytes := ws.flatMap (leBytes · 4)

/-- Little-endian 32-bit words of bytes; the last short word is filled with zero bytes. -/
def toLeWords : Nat → Bytes → List Nat
  | 0, _ => []
  | k + 1, b => leNat (b.take 4) :: toLeWords k (b.drop 4)

/-- n bytes of zero. -/
def zeros (n : Nat) : Bytes := List.replicate n 0

/-- The first n bytes, filled with zero. -/
def padTo (n : Nat) (b : Bytes) : Bytes := b.take n ++ zeros (n - b.length)

/-! ## CRC-32C (R54) -/

/-- One bit step of the reflected CRC-32C register. -/
def crcStep (c : Nat) : Nat := if c % 2 = 1 then (c / 2) ^^^ 0x82F63B78 else c / 2

/-- Take one byte into the CRC register. -/
def crcByte (c : Nat) (b : Byte) : Nat :=
  crcStep (crcStep (crcStep (crcStep (crcStep (crcStep (crcStep (crcStep (c ^^^ b.toNat))))))))

/-- CRC-32C with a given initial register and the final exclusive-or (R54, R148). -/
def crcFrom (init : Nat) (b : Bytes) : Nat := (b.foldl crcByte init) ^^^ 0xFFFFFFFF

/-- CRC-32C per R54. -/
def crc32c (b : Bytes) : Nat := crcFrom 0xFFFFFFFF b

/-! ## Fabric time (R100, R102) -/

/-- Fabric time now, ns. -/
def State.now (s : State) : Nat := s.time.fab / 2 ^ 56 % 2 ^ 32

/-- Fraction below the nanosecond, 2^-16 ns. -/
def State.frac (s : State) : Nat := s.time.fab / 2 ^ 40 % 2 ^ 16

/-- Wrap count. -/
def State.wraps (s : State) : Nat := s.time.fab / 2 ^ 88 % 2 ^ 32

/-- Whether a stated fabric time T counts as reached at a time `now` (R102). -/
def reachedAt (now t : Nat) : Bool := decide ((now + 2 ^ 32 - t % 2 ^ 32) % 2 ^ 32 < 2 ^ 31)

/-- Whether fabric time T is reached (R102). -/
def State.reached (s : State) (t : Nat) : Bool := reachedAt s.now t

/-- How far T lies ahead of now, modulo 2^32. -/
def State.ahead (s : State) (t : Nat) : Nat := (t % 2 ^ 32 + 2 ^ 32 - s.now) % 2 ^ 32

/-! ## Host memory -/

/-- Read bytes of host memory; a byte nothing has written reads 0. -/
def State.hostRead (s : State) (a n : Nat) : Bytes := sgets s.hostMem a n 0

/-- Write bytes to host memory. -/
def State.hostWrite (s : State) (a : Nat) (b : Bytes) : State := { s with hostMem := sputs s.hostMem a b 0 }

/-! ## Counters by block -/

def State.yfpCount (s : State) (d p n : Nat) : State := s.count (R.YFP_COUNT d p n)
def State.coreCount (s : State) (d p n : Nat) : State := s.count (R.CORE_COUNT d p n)
def State.tmCount (s : State) (d p n : Nat) : State := s.count (R.TM_COUNT d p n)
def State.tqCount (s : State) (d p n : Nat) : State := s.count (R.TQ_COUNT d p n)
def State.lookupCount (s : State) (d ll n : Nat) : State := s.count (R.LOOKUP_COUNT d ll n)
def State.lanCount (s : State) (d lp n : Nat) : State := s.count (R.LANYARD_COUNT d (128 + lp) n)
def State.integCount (s : State) (n : Nat) : State := s.count (R.INTEG_COUNT n)

/-! ## Lanes and optical engines (R12, R98) -/

/-- Optical engine of lane n of die d. -/
def laneEngine (d n : Nat) : Nat := if n < 128 then 2 * d + n / 64 else 2 * d + (n - 128) / 8

/-- Local lane number of lane n (R98). -/
def laneLocal (n : Nat) : Nat := if n < 128 then n % 64 else 64 + (n - 128) % 8

/-- Count in LANE_COUNT; of a lanyard lane only indices 4, 6 and 7 count (R139). -/
def State.laneCount (s : State) (d n i : Nat) : State :=
  if 128 ≤ n ∧ i ≠ 4 ∧ i ≠ 6 ∧ i ≠ 7 then s else s.count (R.LANE_COUNT (laneEngine d n) (laneLocal n) i)

/-- LANE_STATUS of a lane. -/
def laneStatus (d n : Nat) : RegRef := R.LANE_STATUS (laneEngine d n) (laneLocal n)

/-- State of a lane (Table 3.2). -/
def State.laneState (s : State) (d n : Nat) : Nat := s.fld (laneStatus d n) F.LANE_STATUS_STATE
def State.setLaneState (s : State) (d n st : Nat) : State := s.setF (laneStatus d n) F.LANE_STATUS_STATE st

/-- Lanes of port p: its first lane and how many (R86, R96). A lanyard port's are its eight lanyard lanes. -/
def State.portLanes (s : State) (d p : Nat) : Nat × Nat :=
  if p < 128 then (p, s.fld (R.PORT_LANE_CTRL d p) F.PORT_LANE_CTRL_WIDTH) else (128 + (p - 128) * 8, 8)

/-- Lane numbers of a port. -/
def State.laneList (s : State) (d p : Nat) : List Nat :=
  (List.range (s.portLanes d p).2).map ((s.portLanes d p).1 + ·)

/-- The port that lane n belongs to, if any: the nearest port at or below it in its group whose lanes reach it. -/
def State.portOfLane (s : State) (d n : Nat) : Option Nat :=
  if n < 128 then
    ((List.range (n % 8 + 1)).map (n - ·)).find? fun p =>
      decide (n < p + s.fld (R.PORT_LANE_CTRL d p) F.PORT_LANE_CTRL_WIDTH)
  else some (128 + (n - 128) / 8)

/-- Lane index of lane n in its 8-lane group (R40). -/
def laneIndex (n : Nat) : Nat := n % 8

end Sys2Proof.Machine
end

