-- ==== Sys2Proof/Machine/Flags.lean ====
section
/-! DEFINITION. Event flags and interrupts: when each MSI-X vector's condition is pending (Table 14.2), the messages that
follow (R369), and how an event sets its flag. -/

namespace Sys2Proof.Machine

/-- The address is a LANE_EVENT register (R98). -/
def isLaneEvent (a : Nat) : Bool :=
  decide (0x0C000000 ≤ a) && decide (a < 0x0D000000) && decide (0x10000 ≤ a % 0x100000) &&
    decide (a % 0x100000 < 0x10000 + 72 * 0x400) && decide (a % 0x400 = 4)

/-- Some LANE_EVENT bit is set. -/
def anyLaneEvent (regs : SMap Word) : Bool := regs.any fun e => isLaneEvent e.1 && e.2 != 0

/-- Vector 61, OPTICAL. -/
def opticalPending (s : State) : Bool :=
  anyLaneEvent s.regs ||
  (List.range 16).any (fun n => s.bit (R.OPT_THERM_STATUS n) F.OPT_THERM_STATUS_HOT ||
    s.bit (R.OPT_THERM_STATUS n) F.OPT_THERM_STATUS_HEATER_FLOOR) ||
  (List.range 16).any (fun i =>
    s.bit (R.LANYARD_STATUS (i / 2) (128 + i % 2)) F.LANYARD_STATUS_CONFLICT ||
    s.bit (R.LANYARD_STATUS (i / 2) (128 + i % 2)) F.LANYARD_STATUS_DISCOVERY_DONE)

/-- Vector 62, CORE. -/
def corePending (s : State) : Bool :=
  (List.range 8).any (fun d => s.rd (R.BUF_EVENT d) != 0 || s.rd (R.TM_EVENT d) != 0) ||
  s.rd (R.HOLD_EVENT 8) != 0 || s.rd (R.HOLD_EVENT 9) != 0 ||
  (List.range 64).any (fun i => s.bit (R.D2D_LINK_STATUS (i / 8) (i % 8)) F.D2D_LINK_STATUS_DOWN_EVENT)

/-- Vector 0, COMMAND: a completion with IRQ not yet released, or the threshold of R375 reached. -/
def commandPending (s : State) : Bool :=
  s.host.cplOut.elem true ||
  (let th := s.fld R.CPL_RING_CTRL F.CPL_RING_CTRL_IRQ_THRESH
   th != 0 && decide (th ≤ s.host.cplOut.length))

/-- An engine's condition: an enabled event; a counter's overflow only where a counter that overflowed has IRQ_EN (R245). -/
def enginePending (s : State) (d e : Nat) : Bool :=
  let ev := s.rd (R.ENGINE_EVENT d e) &&& s.rd (R.ENGINE_IRQ_EN d e)
  let ovf := F.ENGINE_EVENT_PMC_OVF.get ev == 1
  let asks := (List.range 8).any fun i =>
    (s.fld (R.ENGINE_PMC_STATUS d e) F.ENGINE_PMC_STATUS_OVF).testBit i &&
      s.bit (R.ENGINE_PMC_CTRL d e i) F.ENGINE_PMC_CTRL_IRQ_EN
  F.ENGINE_EVENT_PMC_OVF.put ev 0 != 0 || (ovf && asks)

/-- The condition of vector v is pending (R368, Table 14.2). -/
def irqPending (s : State) (v : Nat) : Bool :=
  if v = 0 then commandPending s
  else if v < 33 then
    s.bit (R.DMA_CH_CTRL (v - 1)) F.DMA_CH_CTRL_IRQ_EN &&
      (s.bit (R.DMA_CH_STATUS (v - 1)) F.DMA_CH_STATUS_DONE ||
        s.fld (R.DMA_CH_STATUS (v - 1)) F.DMA_CH_STATUS_STATE == 3)
  else if v = 33 then (s.rd R.TIME_STATUS).toNat % 8 != 0
  else if v = 34 then
    let th := s.fld R.CS_RING_CTRL F.CS_RING_CTRL_IRQ_THRESH
    th != 0 && decide (th ≤ (s.rd R.CS_RING_PROD - s.rd R.CS_RING_CONS).toNat)
  else if v < 43 then s.bit (R.EXPOSURE_STATUS (v - 35)) F.EXPOSURE_STATUS_DONE
  else if v < 51 then
    (List.range 16).any fun e => enginePending s (v - 43) e
  else if v = 51 then s.rd R.INTEG_EVENT != 0
  else if v < 60 then s.rd (R.KNOT_EVENT (v - 52)) != 0
  else if v = 60 then s.rd (R.TXN_EVENT 0) != 0
  else if v = 61 then opticalPending s
  else if v = 62 then corePending s
  else if v = 63 then (s.rd R.MGMT_EVENT &&& s.rd R.MGMT_IRQ_EN) != 0
  else false

/-- Send the message of vector v unless it is masked (R369). -/
def sendMsi (s : State) (v : Nat) : State :=
  if s.bit (R.MSIX_CTRL v) F.MSIX_CTRL_MASK then s
  else
    let a := s.rd64 (R.MSIX_ADDR v) (R.MSIX_ADDR_HI v)
    let data := (s.rd (R.MSIX_DATA v)).toNat
    (s.hostWrite a (leBytes data 4)).emit (.msix a data)

/-- Change the state by f, and send vector v's message when its condition rises from 0 to 1 (R369). -/
def withCause (s : State) (v : Nat) (f : State → State) : State :=
  let t := f s
  if !irqPending s v && irqPending t v then sendMsi t v else t

/-- A software write of a cause register of vector v, which sends the message where it leaves the condition at 1 (R369). -/
def causeWrite (s : State) (v : Nat) (f : State → State) : State :=
  let t := f s
  if irqPending t v then sendMsi t v else t

/-- Set a one-bit event field that belongs to vector v. -/
def setEvent (s : State) (v : Nat) (r : RegRef) (f : Fld) : State := withCause s v fun t => t.setBit r f

/-- Set a lane's event bit (vector 61). -/
def setLaneEvent (s : State) (d n : Nat) (f : Fld) : State :=
  setEvent s 61 (R.LANE_EVENT (laneEngine d n) (laneLocal n)) f

end Sys2Proof.Machine
end

