-- ==== Sys2Proof/Machine/Records.lean ====
section
/-! DEFINITION. Records of faults and events (R349 to R353): how an event is put on the collector's queue. -/

namespace Sys2Proof.Machine

/-- LOG_TIME now: INTEG_LOG_TIME as last set, advanced by the always-on ticks since (R352). -/
def State.logTime (s : State) : Nat :=
  ((s.rd R.INTEG_LOG_TIME).toNat + (s.pwr.aon - s.integ.logTick) / 25000000) % 2 ^ 32

/-- Band of Table 13.4 that a temperature in 0.01 °C lies in. -/
def tempBand (t : Int) : Nat := if t < 4000 then 0 else min 7 ((t.toNat - 4000) / 1000 + 1)

/-- Band after a sample: a unit leaves its band downward only 2 °C below the band's lower bound (R347). -/
def nextBand (old : Nat) (t : Int) : Nat :=
  if tempBand t < old ∧ old ≤ tempBand (t + 199) then old else tempBand t

/-- Place whose temperature a unit takes: the photonic die of a lane, the I/O die of a DMA channel, else the die
(R347). -/
def tempPlace (kind die unit : Nat) : Nat :=
  if kind = 7 ∨ kind = 8 then 16 + laneEngine die unit
  else if kind = 9 then 16 + unit
  else if kind = 6 then 10
  else die

/-- Temperature at a place, 16-bit two's complement in 0.01 °C. -/
def State.tempAt (s : State) (place : Nat) : Nat :=
  if 16 ≤ place then s.fld (R.OPT_THERM_STATUS (place - 16)) F.OPT_THERM_STATUS_TEMP else sget s.pwr.dieTemp place 0

/-- A record with nothing but its class, mechanism and unit. -/
def LogRec.of (cls mech kind die unit : Nat) : LogRec :=
  { cls := cls, mech := mech, status := 0, kind := kind, die := die, unit := unit, slot := 0xFF, op := 0, knot := 0,
    gen := 0, syn := [], synClass := 0, counts := false, estimated := false, seq := 0, logTime := 0, fabNs := 0,
    temp := 0, mv := 0, band := 0, folded := 0 }

/-- Signature of a record (R353). -/
def LogRec.signature (r : LogRec) : Nat :=
  r.kind * 2 ^ 28 + r.die * 2 ^ 24 + r.unit % 256 * 2 ^ 16 + r.mech * 2 ^ 8 + r.synClass % 256

/-- Number of a unit in the health map. -/
def unitKey (kind die unit : Nat) : Nat := kind * 2 ^ 20 + die * 2 ^ 16 + unit

/-- Health of a unit. -/
def State.health (s : State) (kind die unit : Nat) : UnitHealth :=
  sget s.integ.units (unitKey kind die unit) UnitHealth.init
def State.setHealth (s : State) (kind die unit : Nat) (h : UnitHealth) : State :=
  { s with integ := { s.integ with units := sput s.integ.units (unitKey kind die unit) h UnitHealth.init } }

/-- The unit is retired (R354). -/
def State.isRetired (s : State) (kind die unit : Nat) : Bool := (s.health kind die unit).state == 3

/-- Band that a unit's temperature lies in. -/
def State.bandOf (s : State) (kind die unit : Nat) : Nat := sget s.pwr.bands (tempPlace kind die unit) 0

/-- The unit is band-suspect and inside a band it is suspect in (Table 13.11). -/
def State.bandHeld (s : State) (kind die unit : Nat) : Bool :=
  (s.health kind die unit).state == 2 && (s.health kind die unit).bands.testBit (s.bandOf kind die unit)

/-- Kind of a port: data or lanyard (Table 13.8). -/
def portKind (p : Nat) : Nat := if p < 128 then 2 else 3

/-- Kind of a lane. -/
def laneKind (n : Nat) : Nat := if n < 128 then 7 else 8

/-- The record with the times and measures of the moment of detection. The temperature of a memory-side die and the rail voltage of
a die without DIE_PWR_STATUS are free: the spec says what measures neither (log entry 2). -/
def stampRec (s : State) (r : LogRec) : LogRec :=
  let place := tempPlace r.kind r.die r.unit
  let temp := if place = 8 ∨ place = 9 then (Config.freeValue 16 s.free).toNat else s.tempAt place
  let mv := if r.die < 8 then s.fld (R.DIE_PWR_STATUS r.die) F.DIE_PWR_STATUS_VDD_MV else (Config.freeValue 16 (s.free + 1)).toNat
  { r with estimated := !s.bit R.INTEG_STATUS F.INTEG_STATUS_TIME_VALID, seq := s.integ.seq % 2 ^ 32,
           logTime := s.logTime, fabNs := s.now, temp := temp, mv := mv, band := sget s.pwr.bands place 0 }

/-- Put a stamped record on the queue, or lose it where 256 wait for the logbook (R349): its sequence number is skipped, the loss is
counted, and LOG_OVERRUN is set. -/
def pushRec (s : State) (r : LogRec) : State :=
  let s1 : State := { s with integ := { s.integ with seq := s.integ.seq + 1 }, free := s.free + 2 }
  if s.integ.queue.length + s.integ.toBook.length < 256 then
    { s1 with integ := { s1.integ with queue := s1.integ.queue ++ [stampRec s r] } }
  else setEvent (s1.integCount 1) 51 R.INTEG_EVENT F.INTEG_EVENT_LOG_OVERRUN

/-- Count what a check found (Table 13.31): residue mismatches, SECDED errors uncorrectable and corrected. -/
def countFinding (s : State) (r : LogRec) : State :=
  if r.mech = 3 then s.integCount 4
  else if r.mech = 1 ∧ r.cls = 2 then s.integCount 5
  else if r.mech = 1 ∧ r.cls = 1 then s.integCount 6
  else s

/-- Put a record on the queue. CORRECTED records are limited to one per unit and signature per 60 s, the rest are folded in
(R352). -/
def queueRec (s : State) (r : LogRec) : State :=
  if r.cls = 1 then
    let k := r.signature
    let last := sget s.integ.corrAt k 0
    let n := sget s.integ.corrN k 0
    if last = 0 ∨ last - 1 + 60 ≤ s.logTime then
      pushRec { s with integ := { s.integ with corrAt := sput s.integ.corrAt k (s.logTime + 1) 0,
                                               corrN := sput s.integ.corrN k 0 0 } } { r with folded := n + 1 }
    else { s with integ := { s.integ with corrN := sput s.integ.corrN k (n + 1) 0 } }
  else pushRec s r

/-- File a record: what it found is counted, and it is queued. -/
def fileRec (s : State) (r : LogRec) : State := queueRec (countFinding s r) r

/-- A link event record (class 5, mechanism LINK) against a lane (Table 13.9). -/
def fileLaneLink (s : State) (d n code result : Nat) : State :=
  fileRec s { LogRec.of 5 0x0D (laneKind n) d n with
              syn := [code * 2 ^ 24 + result * 2 ^ 16, n], synClass := code }

end Sys2Proof.Machine
end

