-- ==== Sys2Proof/Machine/Frames.lean ====
section
/-! DEFINITION. The YFP frame: header fields (R50), lengths (R49), CRCs (R54), element units (R59), and the checks of the
receiver that use the header alone (R55). -/

namespace Sys2Proof.Machine

/-- Bits hi to lo of a word. -/
def bits (w : Word) (hi lo : Nat) : Nat := w.toNat / 2 ^ lo % 2 ^ (hi + 1 - lo)

/-! ## Header fields (Table 2.7) -/

def hVersion (h : Header) : Nat := bits h.w0 31 30
def hType (h : Header) : Nat := bits h.w0 29 24
def hTc (h : Header) : Nat := bits h.w0 23 21
def hHop (h : Header) : Nat := bits h.w0 20 16
def hChannel (h : Header) : Nat := bits h.w0 15 8
def hEpoch (h : Header) : Nat := bits h.w0 7 7
def hSpray (h : Header) : Bool := bits h.w0 6 6 == 1
def hMark (h : Header) : Bool := bits h.w0 5 5 == 1
def hLanyard (h : Header) : Bool := bits h.w0 4 4 == 1
def hLast (h : Header) : Bool := bits h.w0 3 3 == 1
def hResp (h : Header) : Bool := bits h.w0 2 2 == 1
def hDest (h : Header) : Nat := h.w1.toNat
def hSrc (h : Header) : Nat := h.w2.toNat
def hSeq (h : Header) : Nat := bits h.w3 31 8
def hGen (h : Header) : Nat := bits h.w3 7 0
def hKnot (h : Header) : Nat := bits h.w4 31 18
def hPlen (h : Header) : Nat := bits h.w4 17 4
def hFmt (h : Header) : Nat := bits h.w4 3 0

/-- Partition, pod and leaf of a fabric address (R58). -/
def aPart (a : Nat) : Nat := a / 2 ^ 26 % 64
def aPod (a : Nat) : Nat := a / 2 ^ 20 % 64
def aLeaf (a : Nat) : Nat := a / 2 ^ 10 % 1024
def aPodLeaf (a : Nat) : Nat := a / 2 ^ 10 % 65536
def aPartPod (a : Nat) : Nat := a / 2 ^ 20 % 4096

/-- Words 0 to 6 in wire order. -/
def hBytes06 (h : Header) : Bytes :=
  [h.w0, h.w1, h.w2, h.w3, h.w4, h.w5, h.w6].flatMap fun w => beBytes w.toNat 4

/-- The 32 header bytes in wire order. -/
def hBytes (h : Header) : Bytes := hBytes06 h ++ beBytes h.w7.toNat 4

/-- Header CRC-32C over words 0 to 6 (R54). -/
def hCrc (h : Header) : Nat := crc32c (hBytes06 h)

/-- The header with its CRC set. -/
def hSeal (h : Header) : Header := { h with w7 := BitVec.ofNat 32 (hCrc h) }

/-- Payload CRC; 0 for an empty payload (R54). -/
def payloadCrc (b : Bytes) : Nat := if b.isEmpty then 0 else crc32c b

/-- Length of a frame: 32 + payload length + 4 (R198). -/
def hLen (h : Header) : Nat := 36 + hPlen h

/-- Blocks a frame of n bytes occupies (R49). -/
def blocksOf (n : Nat) : Nat := ceilDiv n 32

/-- Cells a frame of n bytes occupies (R176). -/
def cellsOf (n : Nat) : Nat := ceilDiv n 256

/-- The frame's bytes in wire order. -/
def frameBytes (f : Frame) : Bytes := hBytes f.hdr ++ f.payload ++ beBytes f.crc.toNat 4

/-- A control block: its type, its 56-bit body, the CRC-32C over both, zero fill (Table 2.1). -/
def ctlBlock (typ body : Nat) : Block :=
  let b := BitVec.ofNat 8 typ :: beBytes body 7
  ⟨true, padTo 32 (b ++ beBytes (crc32c b) 4)⟩

/-- n data blocks of 32 bytes from the front of some bytes; the last is zero-filled (R49). -/
def toBlocks : Nat → Bytes → List Block
  | 0, _ => []
  | n + 1, b => ⟨false, padTo 32 b⟩ :: toBlocks n (b.drop 32)

/-- The data blocks of a frame. -/
def frameBlocks (f : Frame) : List Block := toBlocks (blocksOf (frameBytes f).length) (frameBytes f)

/-- A header built from word values. -/
def mkHeader (ver typ tc hop chan flags dst src seq gen knot plen fmt w5 w6 : Nat) : Header :=
  hSeal { w0 := BitVec.ofNat 32 (ver % 4 * 2 ^ 30 + typ % 64 * 2 ^ 24 + tc % 8 * 2 ^ 21 + hop % 32 * 2 ^ 16 +
            chan % 256 * 256 + flags % 256),
          w1 := BitVec.ofNat 32 dst, w2 := BitVec.ofNat 32 src,
          w3 := BitVec.ofNat 32 (seq % 2 ^ 24 * 256 + gen % 256),
          w4 := BitVec.ofNat 32 (knot % 2 ^ 14 * 2 ^ 18 + plen % 2 ^ 14 * 16 + fmt % 16),
          w5 := BitVec.ofNat 32 w5, w6 := BitVec.ofNat 32 w6, w7 := 0 }

/-- A frame with both CRCs set (R54). -/
def mkFrame (h : Header) (payload : Bytes) : Frame :=
  { hdr := hSeal h, payload := payload, crc := BitVec.ofNat 32 (payloadCrc payload) }

/-! ## Types and formats -/

/-- Frame types of Table 2.8. -/
def tData : Nat := 1
def tContrib : Nat := 2
def tResult : Nat := 3
def tGatherReq : Nat := 4
def tGatherRsp : Nat := 5
def tScatter : Nat := 6
def tVote : Nat := 7
def tMgmt : Nat := 8
def tKnotCtrl : Nat := 9
def tStatus : Nat := 10

/-- The type code is one of Table 2.8 (R52). -/
def typeKnown (t : Nat) : Bool := decide (1 ≤ t) && decide (t ≤ 10)

/-- Bytes of one wire unit of an element format (Table 2.11); 0 for the sparse pairs, whose unit depends on the
knot, and for reserved codes. -/
def fmtUnit (f : Nat) : Nat :=
  match f with
  | 0 => 4 | 1 => 2 | 2 => 2 | 3 => 1 | 4 => 1 | 5 => 33 | 6 => 25 | 7 => 17 | 8 => 4 | 9 => 1 | 10 => 8 | 13 => 32
  | _ => 0

/-- Types whose length step 3 of R55 checks against the format. -/
def typeCarriesFormat (t : Nat) : Bool := t == 2 || t == 3 || t == 4 || t == 5 || t == 6 || t == 7

/-- Classes of Table 2.12 that admit a type (R62). -/
def typeAllowed (cls t : Nat) : Bool :=
  match cls with
  | 0 => t == 1
  | 1 => t == 1
  | 2 => t == 2 || t == 3 || t == 4 || t == 5 || t == 6 || t == 7 || t == 9 || t == 10
  | _ => t == 8

/-- Types that R31 admits to an engine or the Hold. -/
def typeForService (t : Nat) : Bool := t == 2 || t == 3 || t == 9 || t == 7 || t == 4 || t == 6

/-- A reserved fabric address (R58). -/
def addrReserved (a : Nat) : Bool := a == 0 || a == 0xFFFFFFFF

/-- Channel class of a channel of a partition from the map (R62, R73). -/
def State.mapClass (s : State) (part chan : Nat) : Nat :=
  s.fld (R.CHANNEL_CLASS 0 part (chan / 16)) (F.CHANNEL_CLASS_CLASS (chan % 16))

/-- A step of R55 that failed: the YFP_COUNT index it counts in. -/
def headerCheck (s : State) (h : Header) : Option Nat :=
  if h.w7.toNat ≠ hCrc h then some 0
  else if hVersion h = 2 ∨ hVersion h = 3 then some 6
  else if hVersion h = 0 ∧ !s.bit R.YFP_DEV_CTRL F.YFP_DEV_CTRL_V0_EN then some 6
  else if !typeKnown (hType h) then some 7
  else if 9216 < hPlen h then some 5
  else if hVersion h = 1 ∧ typeCarriesFormat (hType h) ∧ (hFmt h = 14 ∨ hFmt h = 15) then some 5
  else if hVersion h = 1 ∧ typeCarriesFormat (hType h) ∧ hFmt h ≠ 11 ∧ hFmt h ≠ 12 ∧
      hPlen h % fmtUnit (hFmt h) ≠ 0 then some 5
  else if addrReserved (hSrc h) || addrReserved (hDest h) then some 14
  else if hHop h = 0 then some 8
  else none

/-- The header as forwarded: hop limit less 1 unless the device made the frame, epoch, spray flag and congestion mark
written, CRC updated (R51, R56). -/
def forwardHeader (h : Header) (dec : Bool) (epoch : Nat) (spray mark : Bool) : Header :=
  let hop := if dec then hHop h - 1 else hHop h
  let w0 := (putRouting h.w0 hop epoch spray mark)
  hSeal { h with w0 := w0 }
where
  /-- Word 0 with the fields of R51 written; spray and mark are set, never cleared. -/
  putRouting (w : Word) (hop epoch : Nat) (spray mark : Bool) : Word :=
    let w1 := Fld.put ⟨20, 16⟩ w hop
    let w2 := Fld.put ⟨7, 7⟩ w1 epoch
    let w3 := if spray then Fld.put ⟨6, 6⟩ w2 1 else w2
    if mark then Fld.put ⟨5, 5⟩ w3 1 else w3

end Sys2Proof.Machine
end

