-- ==== Sys2Proof/Machine/HoldIndex.lean ====
section
/-! DEFINITION. The memory of the Parameter Hold (R314 to R319): lines and their errors, shapes and keys, the index with its
cache, and the rows of a pool. -/

namespace Sys2Proof.Machine

/-! ## Memory (R314 to R316) -/

/-- Device-internal address of byte 0 of memory-side die m. -/
def holdBase (m : Nat) : Nat := 0x100000000000 + (m - 8) * 0x2000000000

/-- Data bytes of a memory-side die. -/
def holdBytes : Nat := 120470588160

def State.holdRead (s : State) (a n : Nat) : Bytes := sgets s.hold.mem a n 0

/-- Lines known to hold an error on die m, as HOLD_SCRUB_STATUS reads. -/
def noteLines (s : State) (m : Nat) : State :=
  let n := (s.hold.known.filter fun l => decide (holdBase m ≤ l * 128) && decide (l * 128 < holdBase m + 0x2000000000)).length
  s.setF (R.HOLD_SCRUB_STATUS m) F.HOLD_SCRUB_STATUS_UNCORRECTABLE (min n 65535)

/-- The lines that `p` names lose their error, and are known to hold one no more. -/
def mendBad (s : State) (p : Nat → Bool) : State :=
  let s1 := { s with hold := { s.hold with bad := s.hold.bad.filter fun l => !p l, known := s.hold.known.filter fun l => !p l } }
  if s.hold.known.any p then noteLines (noteLines s1 8) 9 else s1

/-- Write bytes; a line written whole loses its error (R316). -/
def State.holdWrite (s : State) (a : Nat) (b : Bytes) : State :=
  mendBad { s with hold := { s.hold with mem := sputs s.hold.mem a b 0 } } fun l =>
    decide (a ≤ l * 128) && decide (l * 128 + 128 ≤ a + b.length)

/-- Queue an ECC log record; lost where 16 wait (Table 12.20). -/
def eccLog (s : State) (m line : Nat) (unc : Bool) : State :=
  let q := sget s.hold.elog m []
  let rec_ := 2 ^ 31 + (if unc then 2 ^ 30 else 0) + line % 2 ^ 30
  if q.length < 16 then { s with hold := { s.hold with elog := sput s.hold.elog m (q ++ [rec_]) [] } }
  else setEvent s 62 (R.HOLD_EVENT m) F.HOLD_EVENT_ECC_OVERRUN

/-- A record of a Hold line's error (Tables 13.8, 13.9): the subchannel of the line. -/
def fileHold (s : State) (cls mech m line : Nat) : State :=
  fileRec s { LogRec.of cls mech 0xC m (line % 32) with
    status := if cls = 2 then 0x1F else 0, syn := [7 * 65536, line], synClass := 7, counts := cls == 2 }

/-- A corrected error: index 15, and its records (R316). -/
def noteCorrected (s : State) (m line : Nat) : State :=
  fileHold (eccLog (s.count (R.HOLD_COUNT m 15)) m line false) 1 1 m line

/-- A read or the patrol meets an uncorrectable line: reported afresh each time (R316), as a failed address check where that is what
the line's error is. -/
def reportBad (s : State) (m line mech : Nat) : State :=
  let l := holdBase m / 128 + line
  let mech := if s.hold.badAddr.contains l then 0x0F else mech
  let s1 := { s with hold := { s.hold with known := if s.hold.known.contains l then s.hold.known else l :: s.hold.known } }
  fileHold (setEvent (noteLines (eccLog s1 m line true) m) 62 (R.HOLD_EVENT m) F.HOLD_EVENT_UNCORRECTABLE) 2 mech m line

/-- The memory error that a command brings: a corrected one is counted, an uncorrectable one stands in its line. -/
def holdUpset (s : State) (hw : HoldHw) : State :=
  match hw with
  | .ok => s
  | .corrected m l => noteCorrected s (8 + m.val) (l.toNat % 941176470)
  | .uncorrectable m l addr =>
    let a := holdBase (8 + m.val) / 128 + l.toNat % 941176470
    let rest := s.hold.badAddr.filter (· != a)
    { s with hold := { s.hold with bad := s.hold.bad.filter (· != a) ++ [a], badAddr := if addr then a :: rest else rest } }

/-- Mechanism that a report of the error names. -/
def holdMech (hw : HoldHw) : Nat :=
  match hw with
  | .uncorrectable _ _ true => 0x0F
  | _ => 1

/-- Lines of n bytes at a device-internal address that hold an error. -/
def State.badLines (s : State) (a n : Nat) : List Nat := s.hold.bad.filter fun l =>
  decide (a / 128 ≤ l) && decide (l < ceilDiv (a + n) 128)

/-- Report every bad line that a read of n bytes meets; answers whether there is one. -/
def meetBad (s : State) (m a n mech : Nat) : Bool × State :=
  let ls := s.badLines a n
  (!ls.isEmpty, ls.foldl (fun s l => reportBad s m (l - holdBase m / 128) mech) s)

/-! ## Shapes and keys (R317) -/

def shapeOf (key : Nat) : Nat := key / 2 ^ 60 % 16
def State.shapeReg (s : State) (sh : Nat) (f : Fld) : Nat := s.fld (R.HOLD_SHAPE 8 sh) f
def State.valueBytes (s : State) (sh : Nat) : Nat := 128 * s.shapeReg sh F.HOLD_SHAPE_VALUE_LINES
def State.imageBytes (s : State) (sh : Nat) : Nat := s.valueBytes sh + 128 * s.shapeReg sh F.HOLD_SHAPE_STATE_LINES

/-- A bad key: of an invalid shape, or the reserved one. -/
def State.badKey (s : State) (key : Nat) : Bool :=
  s.shapeReg (shapeOf key) F.HOLD_SHAPE_VALID != 1 || key == 2 ^ 64 - 1

/-- Memory-side die of a key, 8 or 9 (R318). -/
def State.holdDie (s : State) (key : Nat) : Nat :=
  8 + crcFrom (s.rd (R.HOLD_SEED 8)).toNat (beBytes key 8) / 2 ^ 31

/-- The die serves the Hold (R335). -/
def State.holdOnline (s : State) (m : Nat) : Bool := s.fld (R.HOLD_STATUS m) F.HOLD_STATUS_STATE == 2

/-- The switch die through which die d reaches memory-side die m: itself, else the lowest-numbered whose link is up
(R321). -/
def State.holdPath (s : State) (d m : Nat) : Option Nat :=
  let up := fun i => !s.hold.linkDown.testBit (i * 2 + (m - 8))
  if up d then some d else (List.range 8).find? up

/-! ## The index (R318, R319) -/

/-- An index entry: key, row, valid, pending. -/
structure IdxEntry where
  key : Nat
  row : Nat
  valid : Bool
  pend : Bool
  deriving DecidableEq, Repr

/-- Address of way w of the i-th bucket that a key probes on die m. -/
def State.entryAddr (s : State) (m key i w : Nat) : Nat :=
  let n := s.fld (R.HOLD_INDEX_CTRL m) F.HOLD_INDEX_CTRL_BUCKETS_LOG2
  let h := crcFrom (s.rd (R.HOLD_SEED 8)).toNat (beBytes key 8)
  holdBase m + (h + i) % 2 ^ n * 128 + w * 16

def State.entryAt (s : State) (a : Nat) : IdxEntry :=
  let f := leNat (s.holdRead (a + 12) 4)
  ⟨leNat (s.holdRead a 8), leNat (s.holdRead (a + 8) 4), f.testBit 31, f.testBit 30⟩

def putEntry (s : State) (a : Nat) (x : IdxEntry) : State :=
  s.holdWrite a (leBytes x.key 8 ++ leBytes x.row 4 ++
    leBytes ((if x.valid then 2 ^ 31 else 0) + (if x.pend then 2 ^ 30 else 0)) 4)

/-- A probe of a bucket goes through the die's cache: a hit or a miss, least recently used out (R319). -/
def touchBucket (s : State) (m b : Nat) : State :=
  let c := sget s.hold.cache m []
  let s1 := s.count (R.HOLD_COUNT m (if c.contains b then 7 else 8))
  { s1 with hold := { s1.hold with cache := sput s1.hold.cache m ((b :: c.filter (· != b)).take 131072) [] } }

/-- What a lookup found. -/
inductive Found where
  | absent
  | at_ (addr row : Nat)
  | error
  deriving DecidableEq, Repr

/-- Probe up to k buckets from the i-th for an entry that `want` accepts. -/
def probe (m key mech : Nat) (want : IdxEntry → Bool) : Nat → Nat → State → Found × State
  | 0, _, s => (.absent, s)
  | k + 1, i, s =>
    let a := s.entryAddr m key i 0
    let s1 := touchBucket s m ((a - holdBase m) / 128)
    match meetBad s1 m a 128 mech with
    | (true, s2) => (.error, s2)
    | (false, s2) =>
      match (List.range 8).find? fun w => want (s2.entryAt (a + 16 * w)) with
      | some w => (.at_ (a + 16 * w) (s2.entryAt (a + 16 * w)).row, s2)
      | none => probe m key mech want k (i + 1) s2

/-- A lookup: the VALID entry for the key that is not pending. -/
def lookupRow (s : State) (m key mech : Nat) : Found × State :=
  probe m key mech (fun x => x.valid && !x.pend && x.key == key) 8 0 s

/-- The pending entry for a key. -/
def lookupPending (s : State) (m key : Nat) : Found × State :=
  probe m key 1 (fun x => x.valid && x.pend && x.key == key) 8 0 s

/-- Address of a row's image. -/
def State.rowAddr (s : State) (m sh row : Nat) : Nat :=
  holdBase m + s.rd64 (R.HOLD_POOL_BASE m sh) (R.HOLD_POOL_BASE_HI m sh) + row * s.imageBytes sh

/-! ## Rows of a pool -/

def State.rowsUsed (s : State) (m sh : Nat) : List Nat := sget s.hold.rows (m * 16 + sh) []

/-- Set the allocated rows of a pool; HOLD_POOL_USED follows. -/
def setRows (s : State) (m sh : Nat) (rs : List Nat) : State :=
  ({ s with hold := { s.hold with rows := sput s.hold.rows (m * 16 + sh) rs [] } }).wr (R.HOLD_POOL_USED m sh)
    (BitVec.ofNat 32 rs.length)

/-- Allocate a row: which free one is open; none where the pool is empty (TABLE_FULL, index 11). -/
def allocRow (s : State) (m sh : Nat) : Option Nat × State :=
  let n := (s.rd (R.HOLD_POOL_ROWS m sh)).toNat
  let used := s.rowsUsed m sh
  if n ≤ used.length then (none, s.count (R.HOLD_COUNT m 11))
  else
    let (r, s1) := s.drawFree 32
    match ((List.range (used.length + 1)).map fun i => (r + i) % n).find? fun x => !used.contains x with
    | some x => (some x, (setRows s1 m sh (used ++ [x])).count (R.HOLD_COUNT m 10))
    | none => (none, s1.count (R.HOLD_COUNT m 11))

/-- Free a row. -/
def freeRow (s : State) (m sh row : Nat) : State := setRows s m sh ((s.rowsUsed m sh).filter (· != row))

/-- Give an absent key a row with a zero image and an index entry, pending or not. Answers the row's address, or the status
of the failure. -/
def createRow (s : State) (m key : Nat) (pend : Bool) : (Nat ⊕ Nat) × State :=
  let sh := shapeOf key
  match allocRow s m sh with
  | (none, s1) => (.inr 0x16, s1)
  | (some row, s1) =>
    match probe m key 1 (fun x => !x.valid) 8 0 s1 with
    | (.at_ a _, s2) =>
      let ra := s2.rowAddr m sh row
      (.inl ra, (putEntry s2 a ⟨key, row, true, pend⟩).holdWrite ra (zeros (s2.imageBytes sh)))
    | (.absent, s2) => (.inr 0x16, (freeRow s2 m sh row).count (R.HOLD_COUNT m 11))
    | (.error, s2) => (.inr 0x1F, freeRow s2 m sh row)

/-- Free the rows that a discarded transaction had created (R330). -/
def freePending (s : State) (e serial : Nat) : State :=
  let keys := ((s.hold.staged.filter fun w => w.engine == e && w.serial == serial).map (·.key)).dedup
  keys.foldl (fun s k =>
    let m := s.holdDie k
    match lookupPending s m k with
    | (.at_ a row, s1) => freeRow (putEntry s1 a ⟨0, 0, false, false⟩) m (shapeOf k) row
    | (_, s1) => s1) s

end Sys2Proof.Machine
end

