-- ==== Sys2Proof/Machine/Policing.lean ====
section
/-! DEFINITION. Port facts that several chapters share, ingress policing (R204, R205), and the mirror sources of the
contact sheet (R208, R209). -/

namespace Sys2Proof.Machine

/-! ## Ports -/

/-- Traffic class c of a port is lossless (R66). -/
def State.lossless (s : State) (d p c : Nat) : Bool :=
  (s.fld (R.PORT_YFP_CTRL d p) F.PORT_YFP_CTRL_LOSSLESS_TC).testBit c

/-- State of a port (Table 7.22). -/
def State.portState (s : State) (d p : Nat) : Nat := s.fld (R.PORT_CORE_STATUS d p) F.PORT_CORE_STATUS_STATE
def State.setPortState (s : State) (d p st : Nat) : State :=
  s.setF (R.PORT_CORE_STATUS d p) F.PORT_CORE_STATUS_STATE st
def State.portUp (s : State) (d p : Nat) : Bool := s.portState d p == 4

/-- Die d starts no frames: its throttle stage is PAUSE, or the datapath is held before a reset (R415, R426). -/
def State.dieHeld (s : State) (d : Nat) : Bool := s.fld (R.DIE_PWR_STATUS d) F.DIE_PWR_STATUS_STAGE == 3 || s.pwr.hold

/-- Port p of die d starts no frames: its die, or a slew pause of its optical engine, holds it (R94). -/
def State.noStart (s : State) (d p : Nat) : Bool := (s.port d p).slew || s.dieHeld d

/-- The port exists: a lanyard port, or a data port whose WIDTH is not 0 (R86). -/
def State.portExists (s : State) (d p : Nat) : Bool :=
  decide (p < 130) && (decide (128 ≤ p) || s.fld (R.PORT_LANE_CTRL d p) F.PORT_LANE_CTRL_WIDTH != 0)

/-- Active lanes of a port's transmit or receive stripe. -/
def State.txLanes (s : State) (d p : Nat) : Nat :=
  popCount (s.fld (R.PORT_LANE_STATUS d p) F.PORT_LANE_STATUS_TX_ACTIVE) 8
def State.rxLanes (s : State) (d p : Nat) : Nat :=
  popCount (s.fld (R.PORT_LANE_STATUS d p) F.PORT_LANE_STATUS_RX_ACTIVE) 8

/-- Class c is paused by the far end (R65). -/
def State.paused (s : State) (d p c : Nat) : Bool :=
  (s.fld (R.PORT_FC_STATUS d p) F.PORT_FC_STATUS_RX_OFF).testBit c

/-! ## Mirror sources -/

/-- Metadata words and header bytes of a contact-sheet record (Table 8.5). -/
def csRecord (s : State) (kind d p len tc colour : Nat) (mark : Bool) (blk idx : Nat) (b : Bytes) : Bytes :=
  leWords [s.now,
    s.wraps % 65536 * 65536 + len % 16384,
    kind * 2 ^ 28 + d * 2 ^ 24 + p % 256 * 2 ^ 16 + tc * 2 ^ 13 + colour * 2 ^ 11 + (if mark then 2 ^ 10 else 0) +
      blk * 64 + idx,
    s.host.csSeq % 2 ^ 32] ++ padTo 128 b

/-- A record of die d's buffer is lost (R210). -/
def csLost (s : State) (d p : Nat) : State :=
  setEvent (if p < 130 then (s.count R.CS_RING_LOST).tmCount d p 14 else s.count R.CS_RING_LOST) 62 (R.TM_EVENT d) F.TM_EVENT_CS_LOST

/-- Put a captured record into its die's buffer of 256, or lose it (R210). -/
def csCapture (s : State) (d p : Nat) (rec : Bytes) : State :=
  let s1 : State := { s with host := { s.host with csSeq := s.host.csSeq + 1 } }
  if (s.die d).csBuf.length < 256 then s1.updDie d fun x => { x with csBuf := x.csBuf ++ [(p, rec)] }
  else csLost s1 d p

/-- The bytes of a frame after its header, as far as the device has them: payload and payload CRC of a whole frame, the
first ones of a frame still arriving (R209). -/
def FrameRec.body (f : FrameRec) : Bytes :=
  if f.whole then f.frame.payload ++ beBytes f.frame.crc.toNat 4 else f.first

/-- RX source of a port: an event, captured when it is the 2^n-th (R208). `body` is what follows the header in wire order. -/
def mirrorRx (s : State) (d p : Nat) (h : Header) (body : Bytes) (colour : Nat) : State :=
  let r := R.CS_PORT_CTRL d p
  if s.bit r F.CS_PORT_CTRL_RX_EN then
    let n := (s.port d p).mirRx + 1
    if n < 2 ^ s.fld r F.CS_PORT_CTRL_RX_SHIFT then s.updPort d p fun x => { x with mirRx := n }
    else
      csCapture ((s.updPort d p fun x => { x with mirRx := 0 }).tmCount d p 11) d p
        (csRecord s 0 d p (hLen h) (hTc h) colour (hMark h) 0 0 (hBytes h ++ body))
  else s

/-- TX source of a port (R208). -/
def mirrorTx (s : State) (d p : Nat) (h : Header) (body : Bytes) (tc colour : Nat) : State :=
  let r := R.CS_PORT_CTRL d p
  if s.bit r F.CS_PORT_CTRL_TX_EN then
    let n := (s.port d p).mirTx + 1
    if n < 2 ^ s.fld r F.CS_PORT_CTRL_TX_SHIFT then s.updPort d p fun x => { x with mirTx := n }
    else
      csCapture ((s.updPort d p fun x => { x with mirTx := 0 }).tmCount d p 12) d p
        (csRecord s 1 d p (hLen h) tc colour (hMark h) 0 0 (hBytes h ++ body))
  else s

/-- DROP source of a port: a frame was dropped and counted in counter `idx` of block `blk` (0 YFP_COUNT, 1 LOOKUP_COUNT,
2 CORE_COUNT, 3 TM_COUNT) (R208). -/
def mirrorDrop (s : State) (d p blk idx : Nat) (h : Header) (body : Bytes) (tc colour : Nat) : State :=
  let r := R.CS_PORT_CTRL d p
  if decide (p < 130) && s.bit r F.CS_PORT_CTRL_DROP_EN then
    let n := (s.port d p).mirDrop + 1
    if n < 2 ^ s.fld r F.CS_PORT_CTRL_DROP_SHIFT then s.updPort d p fun x => { x with mirDrop := n }
    else
      let len := if 9216 < hPlen h then 0 else hLen h
      csCapture ((s.updPort d p fun x => { x with mirDrop := 0 }).tmCount d p 13) d p
        (csRecord s 2 d p len tc colour (hMark h) blk idx (hBytes h ++ body))
  else s

/-- COPY source of a die (R146, R208). -/
def mirrorCopy (s : State) (d : Nat) (f : FrameRec) : State :=
  let r := R.CS_COPY_CTRL d
  if s.bit r F.CS_COPY_CTRL_EN then
    let n := (s.die d).mirCopy + 1
    if n < 2 ^ s.fld r F.CS_COPY_CTRL_SHIFT then s.updDie d fun x => { x with mirCopy := n }
    else
      csCapture (s.updDie d fun x => { x with mirCopy := 0 }) d f.inPort
        (csRecord s 3 d f.inPort (hLen f.frame.hdr) f.tc f.colour (hMark f.frame.hdr) 0 0 (hBytes f.frame.hdr ++ f.body))
  else s

/-- Count a dropped frame in CORE_COUNT of a port, with its DROP mirror. -/
def dropCore (s : State) (d p i : Nat) (f : FrameRec) : State :=
  mirrorDrop (s.coreCount d p i) d p 2 i f.frame.hdr f.body f.tc f.colour

/-- Count a dropped frame in LOOKUP_COUNT of a pipe, attributed to its ingress port. -/
def dropLookup (s : State) (d ll i : Nat) (f : FrameRec) : State :=
  mirrorDrop (s.lookupCount d ll i) f.inDie f.inPort 1 i f.frame.hdr f.body f.tc f.colour

/-- Count a dropped frame in TM_COUNT of its ingress port. -/
def dropTm (s : State) (i : Nat) (f : FrameRec) : State :=
  mirrorDrop (s.tmCount f.inDie f.inPort i) f.inDie f.inPort 3 i f.frame.hdr f.body f.tc f.colour

/-- Count in YFP_COUNT a frame that its header check drops, before policing. -/
def dropYfp (s : State) (d p i : Nat) (h : Header) (body : Bytes) : State :=
  mirrorDrop (s.yfpCount d p i) d p 0 i h body (hTc h) 3

/-- Count a dropped frame that was policed in YFP_COUNT of its ingress port. -/
def dropYfpRec (s : State) (i : Nat) (f : FrameRec) : State :=
  mirrorDrop (s.yfpCount f.inDie f.inPort i) f.inDie f.inPort 0 i f.frame.hdr f.body f.tc f.colour

/-! ## Policing (R204, R205) -/

/-- Policer of a frame by the port it arrives on (R204). -/
def policerOf (p : Nat) (h : Header) : Nat :=
  if p < 128 then aLeaf (hSrc h) * 8 + hTc h else 8192 + aPod (hSrc h) * 8 + hTc h

/-- 2^-16 bytes a rate in 100 Mbit/s units brings per core cycle: RATE × 10^8 / 8 / 1.6 × 10^9 bytes (R201). -/
def ratePerCycle (rate : Nat) : Nat := rate * 512

/-- 2^-16 bytes of a burst in 256-byte units. -/
def burstUnits (n : Nat) : Nat := n * 256 * 65536

/-- The buckets of a policer filled up to now and clipped to their sizes (R205). -/
def State.bucketNow (s : State) (d i : Nat) : Bucket :=
  let b := sget (s.die d).buckets i Bucket.init
  let dt := s.cycle - b.at_
  { tp := min (b.tp + ratePerCycle (s.fld (R.POLICER_CFG1 0 i) F.POLICER_CFG1_PIR) * dt)
            (burstUnits (s.fld (R.POLICER_CFG2 0 i) F.POLICER_CFG2_PBS)),
    tc := min (b.tc + ratePerCycle (s.fld (R.POLICER_CFG0 0 i) F.POLICER_CFG0_CIR) * dt)
            (burstUnits (s.fld (R.POLICER_CFG1 0 i) F.POLICER_CFG1_CBS)),
    at_ := s.cycle }

def State.setBucket (s : State) (d i : Nat) (b : Bucket) : State :=
  s.updDie d fun x => { x with buckets := sput x.buckets i b Bucket.init }

/-- The two-rate three-colour marker on a frame of `len` bytes (R205): colour and buckets after. -/
def markFrame (b : Bucket) (len : Nat) : Nat × Bucket :=
  let n := len * 65536
  if b.tp < n then (2, b)
  else if b.tc < n then (1, { b with tp := b.tp - n })
  else (0, { b with tp := b.tp - n, tc := b.tc - n })

/-- Police a frame that passed the header check on a port: its colour (3 where its policer is off), the counts, the
buckets. -/
def police (s : State) (d p : Nat) (h : Header) : Nat × State :=
  let i := policerOf p h
  if s.bit (R.POLICER_CFG0 0 i) F.POLICER_CFG0_EN then
    let (c, b) := markFrame (s.bucketNow d i) (hLen h)
    (c, ((s.setBucket d i b).count (R.POLICER_COUNT d i c)).tmCount d p (3 + c))
  else (3, s)

end Sys2Proof.Machine
end

