-- ==== Sys2Proof/Machine/TableRead.lean ====
section
/-! DEFINITION. Reading the forwarding tables and the staged registers: slots, entries, parity (R148 to R163). -/

namespace Sys2Proof.Machine

/-- Table generation (R163). -/
def State.gen (s : State) : Nat := (s.rd (R.TXN_GEN 0)).toNat

/-- Generation bit: the slot lookups read. -/
def State.genBit (s : State) : Nat := s.gen % 2

/-- One slot of the tables. -/
def Tables.slot (t : Tables) (g : Nat) : SMap (List Nat) := if g % 2 = 0 then t.slot0 else t.slot1

/-- Replace one slot of the tables. -/
def Tables.setSlot (t : Tables) (g : Nat) (m : SMap (List Nat)) : Tables :=
  if g % 2 = 0 then { t with slot0 := m } else { t with slot1 := m }

/-- Location number of an index of a table of Table 6.11. -/
def tblLoc (table index : Nat) : Nat := table * 2 ^ 20 + index

/-- Location number of a staged register. -/
def regLoc (addr : Nat) : Nat := 2 ^ 24 + addr

/-- Words of a table entry (Table 6.11). -/
def tblWords (table : Nat) : Nat :=
  match table with
  | 0 => 3 | 1 => 3 | 2 => 1 | 9 => 33 | _ => 2

/-- Number of indices of a table (Tables 6.5 and 6.11). -/
def tblSize (table : Nat) : Nat :=
  match table with
  | 1 => 524352 | 2 => 65536 | 3 => 256 | 4 => 65536 | 9 => 4096 | _ => if 5 ≤ table ∧ table ≤ 8 then 262144 else 0

/-- Word w of an entry. -/
def entryWord (e : List Nat) (w : Nat) : Nat := e.getD w 0

/-- An entry of a slot. -/
def State.entry (s : State) (g loc : Nat) : List Nat := sget (s.tabs.slot g) loc []

/-- Word w of an entry of a slot. -/
def State.tword (s : State) (g loc w : Nat) : Nat := entryWord (s.entry g loc) w

/-- The entry carries a parity error on a die (R159). -/
def State.marked (s : State) (d g loc : Nat) : Bool :=
  s.tabs.marks.any fun m => m.die == d && m.slot == g % 2 && m.loc == loc

/-- A staged register as one slot holds it (R163). -/
def State.rdSlot (s : State) (g : Nat) (r : RegRef) : Word :=
  match s.entry g (regLoc r.addr) with
  | [] => r.reset
  | w :: _ => BitVec.ofNat 32 w

/-- A staged register as lookups read it. -/
def State.rdActive (s : State) (r : RegRef) : Word := s.rdSlot s.genBit r

def State.activeF (s : State) (r : RegRef) (f : Fld) : Nat := f.get (s.rdActive r)

/-- Write words into an entry of a slot; the words all at 0 (or a register at its reset value) is an entry not listed. -/
def State.putEntry (s : State) (g loc : Nat) (e : List Nat) : State :=
  { s with tabs := s.tabs.setSlot g (sput (s.tabs.slot g) loc (if e.all (· == 0) then [] else e) []) }

/-- Write a staged register into a slot. -/
def State.putSlotReg (s : State) (g : Nat) (r : RegRef) (v : Word) : State :=
  let m := sput (s.tabs.slot g) (regLoc r.addr) (if v = r.reset then [] else [v.toNat]) []
  { s with tabs := s.tabs.setSlot g m }

/-! ## Results (Table 6.2) and port sets (Table 6.7) -/

def rsValid (r : Nat) : Bool := r.testBit 31
def rsAction (r : Nat) : Nat := r / 2 ^ 28 % 8
def rsClassOvr (r : Nat) : Bool := r.testBit 27
def rsClass (r : Nat) : Nat := r / 2 ^ 25 % 4
def rsDirect (r : Nat) : Bool := r.testBit 24
def rsSet (r : Nat) : Nat := r % 4096
def rsDie (r : Nat) : Nat := r / 256 % 8
def rsPort (r : Nat) : Nat := r % 256

/-- Member at a position of a port set: valid, die, port. -/
def psMember (e : List Nat) (i : Nat) : Bool × Nat × Nat :=
  let h := entryWord e (1 + i / 2) / (if i % 2 = 0 then 1 else 65536) % 65536
  (h.testBit 15, h / 256 % 8, h % 256)

/-- Number of members of a port set. -/
def psCount (e : List Nat) : Nat := entryWord e 0 % 128
def psMulticast (e : List Nat) : Bool := (entryWord e 0).testBit 30

/-- Members of a port set in order. -/
def psMembers (e : List Nat) : List (Nat × Nat) := (List.range (psCount e)).map fun i => (psMember e i).2

/-- The port set can be used: valid, COUNT 1 to 64, every member valid and existing (R155). -/
def psUsable (s : State) (e : List Nat) : Bool :=
  (entryWord e 0).testBit 31 && decide (1 ≤ psCount e) && decide (psCount e ≤ 64) &&
    (List.range (psCount e)).all fun i =>
      (psMember e i).1 && s.portExists (psMember e i).2.1 (psMember e i).2.2

/-! ## Partitions (R161) -/

/-- PORT_PARTITION of a port; lanyard ports are always trunk ports. -/
def State.isTrunk (s : State) (d p : Nat) : Bool :=
  decide (128 ≤ p) || s.activeF (R.PORT_PARTITION d p) F.PORT_PARTITION_TRUNK == 1

def State.portPart (s : State) (d p : Nat) : Nat := s.activeF (R.PORT_PARTITION d p) F.PORT_PARTITION_PARTITION

/-- The egress check: the port may carry frames for a partition. -/
def State.egressOk (s : State) (d p part : Nat) : Bool := s.isTrunk d p || s.portPart d p == part

/-- Partition q is fenced. -/
def State.fenced (s : State) (q : Nat) : Bool := s.bit (R.PARTITION_FENCE 0 q) F.PARTITION_FENCE_FENCE
def State.darkPart (s : State) (q : Nat) : Bool := s.bit (R.PARTITION_FENCE 0 q) F.PARTITION_FENCE_DARK

/-- The port's partition is dark (R162). -/
def State.portDark (s : State) (d p : Nat) : Bool := !s.isTrunk d p && s.darkPart (s.portPart d p)

/-! ## Spray generator (R188) -/

/-- One step of the Galois register x^32 + x^22 + x^2 + x + 1, shifting left. -/
def lfsrStep (n : Nat) : Nat := if n.testBit 31 then ((n * 2) % 2 ^ 32) ^^^ 0x00400007 else n * 2 % 2 ^ 32

/-- The state after k steps. -/
def lfsrSteps : Nat → Nat → Nat
  | 0, n => n
  | k + 1, n => lfsrSteps k (lfsrStep n)

/-- The next output: the state after 32 further steps. -/
def lfsrNext (n : Nat) : Nat := lfsrSteps 32 n

/-- Seed of a pipe's generator: SPRAY_SEED exclusive-or the pipe; a zero seed starts it at 1. -/
def spraySeed (seed pipe : Nat) : Nat := if seed ^^^ pipe = 0 then 1 else seed ^^^ pipe

/-- Generator of pipe ll of die d. -/
def State.sprayState (s : State) (d ll : Nat) : Nat :=
  let x := sget (s.die d).spray ll 0
  if x = 0 then spraySeed (s.rd (R.SPRAY_SEED d)).toNat ll else x

/-! ## Parity errors (R159) -/

/-- Word of PARITY_LOG for a location, without VALID (Table 6.28). -/
def parityWord (slot loc : Nat) (repaired overrun : Bool) : Nat :=
  loc / 2 ^ 20 * 2 ^ 27 + slot % 2 * 2 ^ 26 + (if repaired then 2 ^ 25 else 0) + (if overrun then 2 ^ 24 else 0) +
    loc % 2 ^ 20

/-- Queue a PARITY_LOG record of a die, or lose it where 16 wait. -/
def logParity (s : State) (d slot loc : Nat) (repaired : Bool) : State :=
  let q := sget s.tabs.plog d []
  let lost := sget s.tabs.plost d 0
  if q.length < 16 then
    { s with tabs := { s.tabs with plog := sput s.tabs.plog d (q ++ [parityWord slot loc repaired (lost == 1)]) [],
                                   plost := sput s.tabs.plost d 0 0 } }
  else { s with tabs := { s.tabs with plost := sput s.tabs.plost d 1 0 } }

/-- File the record of a parity error against a unit. -/
def fileParity (s : State) (kind d unit slot loc : Nat) : State :=
  fileRec s { LogRec.of 2 2 kind d unit with
    syn := [parityWord slot loc false false, loc % 2 ^ 20], synClass := loc / 2 ^ 20, counts := true }

/-- A lookup met a parity error: LOOKUP_COUNT index 6, PARITY_LOG, a record. -/
def parityMiss (s : State) (d ll g loc : Nat) : State :=
  fileParity (logParity (s.lookupCount d ll 6) d g loc false) 5 d ll g loc

end Sys2Proof.Machine
end

