-- ==== Sys2Proof/Machine/Control.lean ====
section
/-! DEFINITION. Control words (R44 to R48): how a port queues them for its lanes, and the flow-control state a port asserts
(R65, R179). Ingress staging and its reservations (R67, R177, R178). -/

namespace Sys2Proof.Machine

/-! ## Control-word bodies (Table 2.4) -/

def ctlIdle : Ctl := ⟨1, 0, false⟩
def ctlXoff (mask : Nat) (fresh : Bool) : Ctl := ⟨2, mask * 2 ^ 48, fresh⟩
def ctlTime (kind seq ns frac : Nat) : Ctl := ⟨3, kind * 2 ^ 54 + seq * 2 ^ 48 + ns * 2 ^ 16 + frac, false⟩
def ctlFault (code mask idx : Nat) : Ctl := ⟨5, code * 2 ^ 52 + mask * 2 ^ 44 + idx * 2 ^ 30, false⟩
def ctlStrip (phase lane margin result arg : Nat) : Ctl :=
  ⟨7, phase * 2 ^ 52 + lane * 2 ^ 48 + margin % 65536 * 2 ^ 32 + result * 2 ^ 24 + arg, false⟩
def ctlLanyardId (src colour slot : Nat) : Ctl := ⟨6, src * 2 ^ 24 + colour * 2 ^ 19 + slot * 2 ^ 9, false⟩

/-- Codes of Table 2.6. -/
def faultCode : FaultCode → Nat
  | .localFault => 1
  | .remoteFault => 2
  | .quarantined => 4
def codeLaneSet : Nat := 3
def codeLaneDown : Nat := 5

/-- Queue a control word on a lane. An XOFF_XON replaces an XOFF_XON that still waits, and stays a changed one where that
one was (R45). -/
def queueCtl (s : State) (d n : Nat) (c : Ctl) : State :=
  s.updLane d n fun l =>
    if c.typ = 2 then
      { l with txq := l.txq.filter (·.typ != 2) ++
          [{ c with fresh := c.fresh || l.txq.any fun x => x.typ == 2 && x.fresh }] }
    else { l with txq := l.txq ++ [c] }

/-- Lanes of a port's transmit stripe. -/
def State.txLaneList (s : State) (d p : Nat) : List Nat :=
  (s.laneList d p).filter fun n =>
    (s.fld (R.PORT_LANE_STATUS d p) F.PORT_LANE_STATUS_TX_ACTIVE).testBit (laneIndex n)

/-- Queue a control word on every active transmit lane of a port. -/
def queueAll (s : State) (d p : Nat) (c : Ctl) : State :=
  (s.txLaneList d p).foldl (fun t n => queueCtl t d n c) s

/-- The lead lane of a direction: the active lane with the lowest index (R41). -/
def State.leadTx (s : State) (d p : Nat) : Option Nat := (s.txLaneList d p).head?

/-- Queue a control word on the lead lane. -/
def queueLead (s : State) (d p : Nat) (c : Ctl) : State :=
  match s.leadTx d p with
  | some n => queueCtl s d n c
  | none => s

/-! ## Headroom and staging -/

/-- Headroom B of R67 for `lanes` lanes and L metres: R × (10 L + 240) + 9,280 with R = 25 bytes/ns per lane. -/
def headroomBytes (lanes metres : Nat) : Nat := 25 * lanes * (10 * metres + 240) + 9280

/-- Lanes of a lanyard port that are not removed from the rota, as a mask (R139). -/
def State.lanLanes (s : State) (d lp : Nat) : Nat := 255 - (s.lan d lp).removed % 256

/-- PORT_HEADROOM.BYTES as it reads: for the current width; 0 while PORT_LANE_STATUS.UP reads 0, which at a lanyard port is while it is
not ACTIVE (R139). -/
def State.headroomNow (s : State) (d p : Nat) : Nat :=
  let metres := s.fld (R.PORT_HEADROOM d p) F.PORT_HEADROOM_FIBRE_M
  if 128 ≤ p then
    (if s.fld (R.LANYARD_STATUS d p) F.LANYARD_STATUS_STATE = 2 then headroomBytes (popCount (s.lanLanes d (p - 128)) 8) metres
     else 0)
  else if s.bit (R.PORT_LANE_STATUS d p) F.PORT_LANE_STATUS_UP then headroomBytes (s.rxLanes d p) metres
  else 0

/-- reserve(p) of R178 for given lossless classes, width and fibre length of a data port. -/
def dataReserve (losslessN width metres xoff : Nat) : Nat :=
  if losslessN = 0 then 0 else ceilDiv (headroomBytes width metres) 256 + 1 + losslessN * xoff

/-- reserve(p) of a lanyard port. -/
def lanyardReserve (s : State) (d p losslessN xoff : Nat) : Nat :=
  if losslessN = 0 then 0
  else ((List.range 32).map fun c =>
    let r := R.LANYARD_PEER_STATUS d p c
    if s.bit r F.LANYARD_PEER_STATUS_ENABLE && !s.bit r F.LANYARD_PEER_STATUS_LOSSY then
      s.fld r F.LANYARD_PEER_STATUS_HEADROOM_CELLS + losslessN * xoff
    else 0).sum

/-- reserve(p) of R178 in cells. -/
def State.reserve (s : State) (d p : Nat) : Nat :=
  let n := popCount (s.fld (R.PORT_YFP_CTRL d p) F.PORT_YFP_CTRL_LOSSLESS_TC) 8
  let xoff := s.fld (R.PORT_BUF_CTRL d p) F.PORT_BUF_CTRL_XOFF_CELLS
  if n = 0 ∨ !s.portExists d p then 0
  else if p < 128 then
    dataReserve n (s.fld (R.PORT_LANE_CTRL d p) F.PORT_LANE_CTRL_WIDTH)
      (s.fld (R.PORT_HEADROOM d p) F.PORT_HEADROOM_FIBRE_M) xoff
  else lanyardReserve s d p n xoff

/-- Σ reserve(p) of a die over the ports that satisfy a condition. -/
def State.reserveSum (s : State) (d : Nat) (cond : Nat → Bool) : Nat :=
  ((List.range 130).map fun p => if cond p then s.reserve d p else 0).sum

/-- Lossy staging of a die in cells: STAGE_CELLS less all reservations (R178). -/
def State.lossyStage (s : State) (d : Nat) : Nat :=
  s.fld (R.BUF_POOL_CTRL d) F.BUF_POOL_CTRL_STAGE_CELLS - s.reserveSum d fun _ => true

/-- Key of a staging count: the class at a data port, peer × 8 + class at a lanyard port (R179). -/
def stageKey (p peer tc : Nat) : Nat := if p < 128 then tc else peer * 8 + tc

/-- Blocks the port holds in its reservation. -/
def Port.stagedBlocks (x : Port) : Nat := (x.stageTc.map (·.2)).sum

/-- Blocks the port holds in lossy staging. -/
def Port.lossyBlocks (x : Port) : Nat := (x.lossyTc.map (·.2)).sum

/-- Staging cells a class holds, in the reservation and in lossy staging (R179). -/
def Port.classCells (x : Port) (key : Nat) : Nat := ceilDiv (sget x.stageTc key 0 + sget x.lossyTc key 0) 8

/-- Staging cells held by the port's frames: each port's blocks are packed, 8 to a cell (R177). -/
def Port.usedCells (x : Port) : Nat := ceilDiv x.stagedBlocks 8 + ceilDiv x.lossyBlocks 8

/-- Lossy staging cells used on a die by the ports that satisfy a condition. -/
def State.lossyCells (s : State) (d : Nat) (cond : Nat → Bool) : Nat :=
  ((s.ports.filter fun e => e.1 / 130 == d && cond (e.1 % 130)).map fun e => ceilDiv e.2.lossyBlocks 8).sum

/-! ## Pausing the far end (R65, R142, R179) -/

/-- Frames that R67 bounds for a data port: ceil(B / 64). -/
def State.headroomFrames (s : State) (d p : Nat) : Nat :=
  ceilDiv (headroomBytes (s.fld (R.PORT_LANE_CTRL d p) F.PORT_LANE_CTRL_WIDTH)
    (s.fld (R.PORT_HEADROOM d p) F.PORT_HEADROOM_FIBRE_M)) 64

/-- A pipe has no more free backlog than R67 bounds for the data ports of its group (R142). -/
def State.pipeTight (s : State) (d ll : Nat) : Bool :=
  let used := (sget (s.die d).backlog ll []).length
  let bound := ((List.range 8).map fun i =>
    if s.portExists d (ll * 8 + i) ∧ s.fld (R.PORT_YFP_CTRL d (ll * 8 + i)) F.PORT_YFP_CTRL_LOSSLESS_TC ≠ 0 then
      s.headroomFrames d (ll * 8 + i) else 0).sum
  decide (4096 - used ≤ bound)

/-- A pipe that serves a port is tight: the pipe of a data port's group, one of the eight of a lanyard port's half
(R142). -/
def State.backlogTight (s : State) (d p : Nat) : Bool :=
  if p < 128 then s.pipeTight d (p / 8) else (List.range 8).any fun i => s.pipeTight d ((p - 128) * 8 + i)

/-- Class c of a data port is to be paused, given whether it is paused now. -/
def State.wantOff (s : State) (d p c : Nat) (was tight : Bool) : Bool :=
  let r := R.PORT_BUF_CTRL d p
  let cells := (s.port d p).classCells c
  s.lossless d p c &&
    (decide (s.fld r F.PORT_BUF_CTRL_XOFF_CELLS < cells) ||
     (was && decide (s.fld r F.PORT_BUF_CTRL_XON_CELLS ≤ cells)) || tight || s.noStart d p)

/-- The off mask a data port is to assert. -/
def State.offMask (s : State) (d p : Nat) : Nat :=
  let now := s.fld (R.PORT_FC_STATUS d p) F.PORT_FC_STATUS_TX_OFF
  let tight := s.backlogTight d p
  ((List.range 8).map fun c => if s.wantOff d p c (now.testBit c) tight then 2 ^ c else 0).sum

/-- XOFF_SEND: bring the mask a data port asserts up to date, and send it where it changed (R65, R179). -/
def flowUpdate (s : State) (d p : Nat) : State :=
  if p < 128 then
    let m := s.offMask d p
    if m = s.fld (R.PORT_FC_STATUS d p) F.PORT_FC_STATUS_TX_OFF then s
    else queueAll (s.setF (R.PORT_FC_STATUS d p) F.PORT_FC_STATUS_TX_OFF m) d p (ctlXoff m true)
  else s

/-- The off mask a lanyard port asserts toward the peer heard on a colour (R94, R132, R142, R179). -/
def lanFlowUpdate (s : State) (d p peer : Nat) : State :=
  if p < 128 ∨ 32 ≤ peer then s
  else
    let r := R.PORT_BUF_CTRL d p
    let x := s.port d p
    let was := sget (s.lan d (p - 128)).txOff peer 0
    let m := ((List.range 8).map fun c =>
      let cells := x.classCells (peer * 8 + c)
      if s.lossless d p c && (s.noStart d p || s.backlogTight d p || decide (s.fld r F.PORT_BUF_CTRL_XOFF_CELLS < cells) ||
          (was.testBit c && decide (s.fld r F.PORT_BUF_CTRL_XON_CELLS ≤ cells))) then 2 ^ c else 0).sum
    s.updLan d (p - 128) fun l => { l with txOff := sput l.txOff peer m 0 }

/-- The off masks of a lanyard port toward every enabled peer. -/
def lanFlowAll (s : State) (d p : Nat) : State :=
  if p < 128 then s
  else ((List.range 32).filter fun c => s.bit (R.LANYARD_PEER_STATUS d p c) F.LANYARD_PEER_STATUS_ENABLE).foldl
    (fun t c => lanFlowUpdate t d p c) s

/-- Bring the pauses that a port asserts up to date, whatever its kind. -/
def flowPort (s : State) (d p : Nat) : State := lanFlowAll (flowUpdate s d p) d p

/-- The backlog of a pipe changed: the pauses of the ports it serves are brought up to date (R142). -/
def flowPipe (s : State) (d ll : Nat) : State :=
  lanFlowAll (((List.range 8).map (ll * 8 + ·)).foldl (fun t p => flowUpdate t d p) s) d (128 + ll / 8)

/-- Pause state of an ingress port after its staging changed. -/
def stageFlow (s : State) (d p peer : Nat) : State := lanFlowUpdate (flowUpdate s d p) d p peer

/-! ## Staging a frame (R177, R178) -/

/-- Where a frame of b blocks is staged: its port's reservation, lossy staging, or nowhere. -/
inductive StagePlace where
  | reserved | lossy | full
  deriving DecidableEq, Repr

/-- Choose a place for a frame that arrives on port p. -/
def stagePlace (s : State) (d p b : Nat) (lossless : Bool) : StagePlace :=
  if lossless && decide (ceilDiv ((s.port d p).stagedBlocks + b) 8 ≤ s.reserve d p) then .reserved
  else if s.lossyCells d (· != p) + ceilDiv ((s.port d p).lossyBlocks + b) 8 ≤ s.lossyStage d then .lossy
  else .full

/-- Key under which a frame's staging is counted: the class it arrived with. -/
def FrameRec.stageKey (f : FrameRec) : Nat := Machine.stageKey f.inPort f.peer (hTc f.frame.hdr)

/-- Take staging for a frame. -/
def takeStage (s : State) (f : FrameRec) (b : Nat) : StagePlace → FrameRec × State
  | .reserved =>
    ({ f with stage := b, lossyStage := false },
     s.updPort f.inDie f.inPort fun x => { x with stageTc := supd x.stageTc f.stageKey 0 (· + b) })
  | .lossy =>
    ({ f with stage := b, lossyStage := true },
     s.updPort f.inDie f.inPort fun x => { x with lossyTc := supd x.lossyTc f.stageKey 0 (· + b) })
  | .full => (f, s)

/-- Give back the staging a frame holds, and resume its class where that ends the pause (R179). -/
def freeStage (s : State) (id : Nat) : State :=
  let f := s.frm id
  if f.stage = 0 then s
  else
    let s1 := s.updFrm id fun g => { g with stage := 0 }
    let s2 := s1.updPort f.inDie f.inPort fun x =>
      if f.lossyStage then { x with lossyTc := supd x.lossyTc f.stageKey 0 (· - f.stage) }
      else { x with stageTc := supd x.stageTc f.stageKey 0 (· - f.stage) }
    stageFlow s2 f.inDie f.inPort f.peer

end Sys2Proof.Machine
end

