-- ==== Sys2Proof/Machine/KnotTable.lean ====
section
/-! DEFINITION. The knot table and the splice engines by number (R280, R281, R287): fields of a knot entry, home engines, and
engine registers. -/

namespace Sys2Proof.Machine

/-! ## Engines by number: die × 16 + engine (R12) -/

def State.eng (s : State) (e : Nat) : Engine := sget s.engines e Engine.init
def State.setEng (s : State) (e : Nat) (x : Engine) : State := { s with engines := sput s.engines e x Engine.init }
def State.updEng (s : State) (e : Nat) (f : Engine → Engine) : State := s.setEng e (f (s.eng e))

/-- Cycle count of an engine: cycles of its die's core clock since the engine's last reset (R243). -/
def State.engCycle (s : State) (e : Nat) : Nat := s.pwr.clk - (s.eng e).base

/-- A register of engine e. -/
def engReg (r : Nat → Nat → RegRef) (e : Nat) : RegRef := r (e / 16) (e % 16)

/-- State of an engine (Table 9.9). -/
def State.engState (s : State) (e : Nat) : Nat := s.fld (engReg R.ENGINE_STATUS e) F.ENGINE_STATUS_STATE
def State.setEngState (s : State) (e st : Nat) : State := s.setF (engReg R.ENGINE_STATUS e) F.ENGINE_STATUS_STATE st

/-- Count event i of Table 9.41. -/
def State.engCount (s : State) (e i : Nat) : State := s.count (R.ENGINE_COUNT (e / 16) (e % 16) i)

/-- Set an event flag of an engine; its die's vector follows the flags that ENGINE_IRQ_EN enables (Table 14.2). -/
def engEvent (s : State) (e : Nat) (f : Fld) : State := setEvent s (43 + e / 16) (engReg R.ENGINE_EVENT e) f

/-- The engine takes dispatches: READY, ACTIVE or STOPPING (R235). -/
def State.engTakes (s : State) (e : Nat) : Bool := s.engState e == 3 || s.engState e == 4 || s.engState e == 5

/-! ## Knots -/

def State.knot (s : State) (k : Nat) : Knot := sget s.knots k Knot.init
def State.setKnot (s : State) (k : Nat) (x : Knot) : State := { s with knots := sput s.knots k x Knot.init }
def State.updKnot (s : State) (k : Nat) (f : Knot → Knot) : State := s.setKnot k (f (s.knot k))

/-- Bits hi to lo of word w of a knot entry (Table 11.1). -/
def Knot.get (x : Knot) (w hi lo : Nat) : Nat := (x.words.getD w 0).toNat / 2 ^ lo % 2 ^ (hi + 1 - lo)

def Knot.type (x : Knot) : Nat := x.get 0 31 28
def Knot.format (x : Knot) : Nat := x.get 0 27 24
def Knot.native (x : Knot) : Bool := x.get 0 15 15 == 1
def Knot.byAddress (x : Knot) : Bool := x.get 0 14 14 == 1
def Knot.childWindows (x : Knot) : Bool := x.get 0 13 13 == 1
def Knot.entry (x : Knot) : Nat := x.get 0 10 0
/-- Home engine, die × 16 + engine. -/
def Knot.home (x : Knot) : Nat := x.get 1 30 28 * 16 + x.get 1 27 24
def Knot.part (x : Knot) : Nat := x.get 1 23 21
def Knot.anchor (x : Knot) : Int := toSigned 16 (x.get 1 15 0)
def Knot.param (x : Knot) : Nat := x.get 2 31 16
def Knot.expected (x : Knot) : Nat := x.get 2 10 0
def Knot.jobTag (x : Knot) : Nat := x.get 3 31 0
def Knot.jobPart (x : Knot) : Nat := x.get 3 31 26
def Knot.channel (x : Knot) : Nat := x.get 3 7 0
def Knot.resultAddr (x : Knot) : Nat := x.get 4 31 0
def Knot.serviceAddr (x : Knot) : Nat := x.get 5 31 0
def Knot.parentAddr (x : Knot) : Nat := x.get 6 31 0
def Knot.controlAddr (x : Knot) : Nat := x.get 7 31 0
def Knot.memberBase (x : Knot) : Nat := x.get 8 31 0
def Knot.epBits (x : Knot) : Nat := x.get 9 31 28
def Knot.stateBytes (x : Knot) : Nat := x.get 9 20 0
def Knot.peer (x : Knot) (k : Nat) : Nat := x.get (16 + k) 31 0
def Knot.isMember (x : Knot) (m : Nat) : Bool := decide (m < 1024) && x.get (32 + m / 32) (m % 32) (m % 32) == 1

/-- Write a word of an entry. -/
def Knot.setWord (x : Knot) (w : Nat) (v : Word) : Knot := { x with words := x.words.set w v }

/-- The home engine of a knot from the home map: none for a FREE knot (R31, R280). -/
def State.knotHome (s : State) (k : Nat) : Option Nat := if (s.knot k).state = 0 then none else some (s.knot k).home

/-- HOMED of an engine: knots not FREE whose home it is (R287). -/
def State.homed (s : State) (e : Nat) : Nat := (s.knots.filter fun k => k.2.state != 0 && k.2.home == e).length

/-- Count event i of Table 11.22 on a die. -/
def State.knotCount (s : State) (d i : Nat) : State := s.count (R.KNOT_COUNT d i)

/-- Die that counts a knot's events: its home's, or d for a knot without a home. -/
def State.knotDie (s : State) (k d : Nat) : Nat :=
  match s.knotHome k with
  | some e => e / 16
  | none => d

/-- A copy of a broadcast was lost: its member counts as not reached (R306). -/
def noteMissed (s : State) (k m : Nat) : State :=
  if (s.knot k).type = 3 ∧ m < 1024 then s.updKnot k fun x => { x with missed := setMaskBit x.missed m true } else s

end Sys2Proof.Machine
end

