-- ==== Sys2Proof/Machine/Egress.lean ====
section
/-! DEFINITION. The egress buffer (R184 to R187), the mesh path of a frame (R20, R23), and its crossing of the crossbar
(R173): the operations FRAME_EGRESS_ADMIT, EGRESS_WAIT_ADMIT and the scheduler share. -/

namespace Sys2Proof.Machine

/-! ## Division of a die's buffer (Table 7.3) -/

/-- Σ MIN_CELLS over the data ports with WIDTH non-zero and both lanyard ports. -/
def State.minSum (s : State) (d : Nat) : Nat :=
  ((List.range 130).map fun p =>
    if s.portExists d p then s.fld (R.PORT_BUF_CTRL d p) F.PORT_BUF_CTRL_MIN_CELLS else 0).sum

/-- Cells of the shared pool. -/
def State.sharedSize (s : State) (d : Nat) : Nat :=
  131072 - s.fld (R.BUF_POOL_CTRL d) F.BUF_POOL_CTRL_STAGE_CELLS -
    s.fld (R.BUF_RESERVE d) F.BUF_RESERVE_ENGINE_CELLS -
    s.fld (R.BUF_RESERVE d) F.BUF_RESERVE_HOLD_RSP_CELLS - s.minSum d

/-- Free cells of the shared pool. -/
def State.sharedFree (s : State) (d : Nat) : Nat := s.sharedSize d - (s.die d).sharedUsed

/-- Class queue of a port. -/
def Port.queue (x : Port) (tc : Nat) : List Nat := sget x.queues tc []
def Port.setQueue (x : Port) (tc : Nat) (q : List Nat) : Port := { x with queues := sput x.queues tc q [] }

/-- Cells queued in a class queue (TM_QUEUE_STATUS.DEPTH_CELLS). -/
def State.depth (s : State) (d p tc : Nat) : Nat := (((s.port d p).queue tc).map fun id => (s.frm id).cells).sum

/-- Cells in a lanyard queue. -/
def State.lanDepth (s : State) (d p q : Nat) : Nat :=
  ((sget (s.lan d (p - 128)).queues q []).map fun e => (s.frm e.1).cells).sum

/-- Cells queued for a port, all regions (PORT_CORE_STATUS.EGRESS_CELLS). -/
def State.egressCells (s : State) (d p : Nat) : Nat :=
  (s.frames.map fun e => match e.2 with
    | some f => if f.outDie = d ∧ f.outPort = p then f.cells else 0
    | none => 0).sum

/-- Take a frame's egress cells from a region. -/
def takeRegion (s : State) (id : Nat) (g : Region) (c : Nat) : State :=
  let f := s.frm id
  let s1 := s.updFrm id fun x => { x with region := g, cells := c }
  match g with
  | .none => s1
  | .portMin => s1.updPort f.outDie f.outPort fun x => { x with minUsed := x.minUsed + c }
  | .shared =>
    (s1.updPort f.outDie f.outPort fun x => { x with shUsed := supd x.shUsed f.tc 0 (· + c) }).updDie f.outDie
      fun x => { x with sharedUsed := x.sharedUsed + c }
  | .engineRes => s1.updDie f.outDie fun x => { x with engineUsed := x.engineUsed + c }
  | .holdRes => s1.updDie f.outDie fun x => { x with holdUsed := x.holdUsed + c }

/-- Give back a frame's egress cells. -/
def freeRegion (s : State) (id : Nat) : State :=
  let f := s.frm id
  let s1 := s.updFrm id fun x => { x with region := .none, cells := 0 }
  match f.region with
  | .none => s1
  | .portMin => s1.updPort f.outDie f.outPort fun x => { x with minUsed := x.minUsed - f.cells }
  | .shared =>
    (s1.updPort f.outDie f.outPort fun x => { x with shUsed := supd x.shUsed f.tc 0 (· - f.cells) }).updDie f.outDie
      fun x => { x with sharedUsed := x.sharedUsed - f.cells }
  | .engineRes => s1.updDie f.outDie fun x => { x with engineUsed := x.engineUsed - f.cells }
  | .holdRes => s1.updDie f.outDie fun x => { x with holdUsed := x.holdUsed - f.cells }

/-- Take a frame off every crossbar and die link. -/
def offMesh (s : State) (id : Nat) : State :=
  let off := fun (l : List Flit) => l.filter (·.frame != id)
  { s with
    links := s.links.foldl (fun m e => sput m e.1 { e.2 with flight := off e.2.flight, held := off e.2.held } Link.init) [],
    dies := s.dies.foldl (fun m e => sput m e.1
      { e.2 with xfers := e.2.xfers.filter (·.frame != id), noPath := e.2.noPath.filter (· != id) } Die.init) [] }

/-- Copies of a multicast frame that the device still holds. -/
def copiesOf (s : State) (id : Nat) : List Nat :=
  (s.frames.filter fun e => match e.2 with
    | some f => f.parent == id + 1
    | none => false).map (·.1)

/-- A copy of a multicast frame waits for admission no more: when none does, the frame leaves staging (R177). -/
def copyPlaced (s : State) (id : Nat) : State :=
  let f := s.frm id
  if f.parent = 0 then s
  else
    let s1 := s.updFrm (f.parent - 1) fun x => { x with copies := x.copies - 1 }
    if (s1.frm (f.parent - 1)).copies = 0 then freeStage s1 (f.parent - 1) else s1

/-- The copy no longer needs the frame it copies; a train it was the carrier of must be started again for the other copies
of its die, and the frame is forgotten with its last copy. -/
def copyGone (s : State) (f : FrameRec) : State :=
  if f.parent = 0 then s
  else
    let o := f.parent - 1
    let s1 := if f.via != 255 && !f.arrived then
        s.updFrm o fun x => { x with trains := setMaskBit x.trains f.outDie false }
      else s
    if (copiesOf s1 o).isEmpty then (freeStage s1 o).delFrm o else s1

/-- Forget a frame: its staging, its cells, its crossings, its number. A broadcast's copy that has not left whole was not
transmitted in full (R306). -/
def discardFrame (s : State) (id : Nat) : State :=
  let f := s.frm id
  let s0 := if f.origin = .engine ∧ !f.sent then noteMissed s (hKnot f.frame.hdr) f.member else s
  let s1 := if f.cells = 0 && !f.cut && f.parent != 0 then copyPlaced s0 id else s0
  copyGone ((offMesh (freeRegion (freeStage s1 id) id) id).delFrm id) f

/-! ## Crossbar slots (R173, Table 1.4) -/

/-- First of the four logical inputs and outputs of die d's link to a peer, and the one of a channel pair. -/
def slotOfLink (d peer vc : Nat) : Nat := 128 + 4 * (if peer < d then peer else peer - 1) + vc / 2

/-- Logical input or output of a port. A data port has its own. A lanyard port shares the die-link arbitration (R17): the
first logical slot of the first die link for port 128, of the second for port 129 (log entry 14). -/
def slotOfPort (p : Nat) : Nat := if p < 128 then p else 128 + 4 * (p - 128)

/-- Logical input and output of an engine. -/
def slotOfEngine (ee : Nat) : Nat := 156 + ee % 16

/-- The control slot. -/
def slotOfControl : Nat := 172

/-- Logical input a frame enters a die's crossbar by, on its ingress die. -/
def inSlot (f : FrameRec) : Nat :=
  match f.origin with
  | .port => slotOfPort f.inPort
  | .engine => slotOfEngine f.engine
  | .holdRsp => slotOfEngine f.engine
  | .control => slotOfControl
  | .host => slotOfControl

/-- Logical output a frame leaves its egress die by. -/
def outSlot (f : FrameRec) : Nat :=
  if f.service = 3 then slotOfControl
  else if f.service ≠ 0 then slotOfEngine f.outQ
  else slotOfPort f.outPort

/-! ## Mesh path -/

/-- First-crossing virtual channel of a frame (Table 1.7): frames to and from the control slot on VC0. A host-injected frame, which
enters by the control slot too, is taken as a forwarded frame or engine traffic by its lookup action (DESIGN CHOICE, log
entry 15). -/
def firstVc (f : FrameRec) : Nat :=
  if f.service = 3 ∨ f.origin = .control then 0
  else if f.service ≠ 0 ∨ f.origin = .engine ∨ f.origin = .holdRsp then 6
  else if f.lossless then 2
  else 4

/-- The direct link from die a to die b is in service. -/
def State.linkUp (s : State) (a b : Nat) : Bool := s.bit (R.D2D_LINK_STATUS a b) F.D2D_LINK_STATUS_UP

/-- Flits queued on die a for a channel of its link to die b: four for each cell that waits in the crossbar for it, and
those sent and not yet taken (R23). -/
def State.linkQueue (s : State) (a b vc : Nat) : Nat :=
  (((s.die a).xfers.filter fun t => t.vc == vc && t.out == slotOfLink a b vc).map fun t => 4 * t.cells).sum +
    ((s.link a b).flight.filter (·.vc == vc)).length

/-- Flits queued on a link, all channels. -/
def State.linkDepth (s : State) (a b : Nat) : Nat := ((List.range 8).map (s.linkQueue a b)).sum

/-- Intermediate dies between a and b whose two links are up. -/
def State.mids (s : State) (a b : Nat) : List Nat :=
  (List.range 8).filter fun m => m != a && m != b && s.linkUp a m && s.linkUp m b

/-- Flits queued on the two links through m. -/
def State.midQueue (s : State) (a b m : Nat) : Nat := s.linkDepth a m + s.linkDepth m b

/-- The intermediate die whose two links have the shortest queues; the lowest-numbered on a tie. -/
def State.shortestMid (s : State) (a b : Nat) : Option Nat :=
  (s.mids a b).foldl (fun best m =>
    match best with
    | none => some m
    | some k => if s.midQueue a b m < s.midQueue a b k then some m else some k) none

/-- A frame of a class that never starts on an indirect path while the direct link is up (R23). -/
def FrameRec.pinned (f : FrameRec) : Bool := f.service != 0 || f.cls != 1

/-- The frame has started on a path over the mesh and has not arrived. -/
def FrameRec.onMesh (f : FrameRec) : Bool := f.via != 255 && !f.arrived

/-- The path that frames of a die pair's ORDERED-class, engine and Hold traffic are in flight on, by its next die (R24). -/
def State.pinnedPath (s : State) (a b : Nat) : Option Nat :=
  (s.frames.findSome? fun e => match e.2 with
    | some f => if f.inDie == a && f.outDie == b && f.onMesh && f.pinned then some f.via else none
    | none => none)

/-- The path over the mesh through next die m is up. -/
def State.pathUp (s : State) (a b m : Nat) : Bool := if m = b then s.linkUp a b else s.linkUp a m && s.linkUp m b

/-- The path a frame takes where nothing holds it to another: the direct link, or the lowest-numbered intermediate die whose
links are up; none where there is none (R23). -/
def State.freshPath (s : State) (a b : Nat) : Option Nat := if s.linkUp a b then some b else (s.mids a b).head?

/-- Next die of a frame from die a to die b (R23, R24); none while no path is up. -/
def State.nextDie (s : State) (a b : Nat) (f : FrameRec) : Option Nat :=
  if f.pinned then
    match s.pinnedPath a b with
    | some m => if s.pathUp a b m then some m else s.freshPath a b
    | none => s.freshPath a b
  else if !s.linkUp a b then s.freshPath a b
  else
    let vc := firstVc f
    let indirect := (s.fld (R.D2D_LINK_STATUS a b) F.D2D_LINK_STATUS_VC_OFF).testBit vc ||
      decide (s.fld (R.MESH_CTRL a) F.MESH_CTRL_INDIRECT_THRESH < s.linkQueue a b vc)
    if s.bit (R.MESH_CTRL a) F.MESH_CTRL_INDIRECT_EN && indirect then
      match s.shortestMid a b with
      | some m => some m
      | none => some b
    else some b

/-- The frame as it leaves: routing fields of R51 updated where it was looked up. -/
def sentFrame (f : FrameRec) : Frame :=
  if f.looked then
    { f.frame with hdr := forwardHeader f.frame.hdr (f.origin == .port) f.epoch f.sprayed f.marked }
  else f.frame

/-- Blocks of a frame that its transmitter has at the start: all of a whole frame, else those that arrived with its head. -/
def FrameRec.headBlocks (f : FrameRec) : List Block :=
  if f.whole then frameBlocks (sentFrame f)
  else toBlocks (1 + f.first.length / 32) (hBytes (sentFrame f).hdr ++ f.first)

/-- The last cell of a frame cut through has reached the transmitter that sends it: the rest of its blocks follow, and the frame
leaves. -/
def finishCut (s : State) (id : Nat) : State :=
  let f := s.frm id
  let g := sentFrame f
  if (s.port f.outDie f.outPort).tx = some id ∧ f.cut then
    (s.updPort f.outDie f.outPort fun x =>
      { x with txStream := x.txStream ++ (frameBlocks g).drop (1 + f.first.length / 32) }).emit (.frame f.outDie f.outPort g)
  else s

/-- A frame's last cell has reached its egress die: into its queue's frames that can be sent, to the admission
checks of a knot's home die, or to the control slot. -/
def arriveFrame (s : State) (id : Nat) : State :=
  let f := s.frm id
  let s1 := s.updFrm id fun x => { x with arrived := true }
  if f.service = 1 ∨ f.service = 2 then s1.updDie f.outDie fun x => { x with knotIn := x.knotIn ++ [id] }
  else if f.service = 3 then s1.updDie f.outDie fun x => { x with control := x.control ++ [id] }
  else if f.parent ≠ 0 then
    s1.updFrm (f.parent - 1) fun x => { x with landed := setMaskBit x.landed f.outDie true }
  else if f.late then finishCut s1 id
  else s1

/-- Begin a frame's crossing of a die. Frames to a link or cut through lock their output (R175). -/
def addXfer (s : State) (d id inp out : Nat) (locks : Bool) (vc src : Nat) : State :=
  s.updDie d fun x => { x with xfers := x.xfers ++
    [{ inp := inp, out := out, frame := id, cells := cellsOf (hLen (s.frm id).frame.hdr), begun := false,
       locks := locks, vc := vc, src := src }] }

/-- An admitted frame whose crossing cannot start yet waits on its ingress die. -/
def parkCrossing (s : State) (id : Nat) : State :=
  s.updDie (s.frm id).inDie fun x => { x with noPath := x.noPath ++ [id] }

/-- Send a frame over the mesh from its ingress die. Where neither the direct link nor a path through an intermediate die is
up it waits for one (DESIGN CHOICE, log entry 15). -/
def crossMesh (s : State) (id : Nat) : State :=
  let f := s.frm id
  match s.nextDie f.inDie f.outDie f with
  | some m =>
    let s1 := s.updFrm id fun x => { x with via := m }
    let s2 := if f.parent = 0 then s1 else s1.updFrm (f.parent - 1) fun x =>
      { x with trains := setMaskBit x.trains f.outDie true }
    addXfer s2 f.inDie id (inSlot f) (slotOfLink f.inDie m (firstVc f)) true (firstVc f) 8
  | none => parkCrossing s id

/-- Start the crossing of an admitted frame from its ingress die to its egress die. Of the copies of a multicast frame for
one egress die the first is carried over the mesh, and the others leave its die's cells once it has arrived (R31 step
7). -/
def startCrossing (s : State) (id : Nat) : State :=
  let f := s.frm id
  if f.inDie = f.outDie then addXfer s f.inDie id (inSlot f) (outSlot f) f.cut 8 8
  else if f.parent ≠ 0 ∧ (s.frm (f.parent - 1)).trains.testBit f.outDie then
    if (s.frm (f.parent - 1)).landed.testBit f.outDie then
      addXfer s f.outDie id (slotOfLink f.outDie f.inDie (firstVc f)) (outSlot f) false 8 8
    else parkCrossing s id
  else crossMesh s id

/-- The frames of a die whose crossing could not start are tried again, oldest first. -/
def retryCrossings (s : State) (d : Nat) : State :=
  (s.die d).noPath.foldl startCrossing (s.updDie d fun x => { x with noPath := [] })

/-! ## Admission (R184) -/

/-- The frame was made by an engine or the control link (R184). -/
def FrameRec.deviceMade (f : FrameRec) : Bool := f.origin == .engine || f.origin == .control || f.origin == .host

/-- Region that admits a frame of c cells, by the order of R184; none where no region takes it. -/
def admitRegion (s : State) (f : FrameRec) (c : Nat) : Option Region :=
  let d := f.outDie
  let engFree := s.fld (R.BUF_RESERVE d) F.BUF_RESERVE_ENGINE_CELLS - (s.die d).engineUsed
  let rspFree := s.fld (R.BUF_RESERVE d) F.BUF_RESERVE_HOLD_RSP_CELLS - (s.die d).holdUsed
  if f.service ≠ 0 then (if c ≤ engFree then some .engineRes else none)
  else
    let x := s.port d f.outPort
    if x.minUsed + c ≤ s.fld (R.PORT_BUF_CTRL d f.outPort) F.PORT_BUF_CTRL_MIN_CELLS then some .portMin
    else if c ≤ s.sharedFree d ∧
        sget x.shUsed f.tc 0 + c ≤ s.sharedFree d / 2 ^ s.fld (R.BUF_SHARE_CTRL d) F.BUF_SHARE_CTRL_SHIFT then
      some .shared
    else if f.deviceMade ∧ c ≤ engFree then some .engineRes
    else if f.origin = .holdRsp ∧ f.tc = s.fld (R.HOLD_CTRL 8) F.HOLD_CTRL_RSP_TC ∧ c ≤ rspFree then some .holdRes
    else none

/-- A frame that no region takes waits rather than being dropped (R184). -/
def mustWait (f : FrameRec) : Bool :=
  f.lossless || f.deviceMade || f.origin == .holdRsp || f.service != 0

/-- Put an admitted frame into its queue: the class queue, the lanyard queue, or behind the held frames of a port
that is down (R190). Nothing queues a frame for a service. -/
def enqueue (s : State) (id : Nat) : State :=
  let f := s.frm id
  if f.service ≠ 0 then s
  else if 128 ≤ f.outPort then
    s.updLan f.outDie (f.outPort - 128) fun l =>
      { l with queues := supd l.queues f.outQ [] (· ++ [(id, s.cycle)]) }
  else if !s.portUp f.outDie f.outPort && !f.sprayed then
    (s.updFrm id fun x => { x with wasHeld := true }).updPort f.outDie f.outPort fun x => { x with held := x.held ++ [id] }
  else s.updPort f.outDie f.outPort fun x => x.setQueue f.tc (x.queue f.tc ++ [id])

/-- Congestion marking at admission to a class queue (R203). -/
def markAdmitted (s : State) (id : Nat) : State :=
  let f := s.frm id
  if f.service ≠ 0 ∨ 128 ≤ f.outPort then s
  else
    let m := s.fld (R.TM_QUEUE_CTRL f.outDie f.outPort f.tc) F.TM_QUEUE_CTRL_MARK_CELLS
    if m ≠ 0 ∧ m ≤ s.depth f.outDie f.outPort f.tc then s.updFrm id fun x => { x with marked := true } else s

/-- Count a stored frame at its egress port. -/
def countStored (s : State) (f : FrameRec) : State := if f.service ≠ 0 then s else s.coreCount f.outDie f.outPort 1

/-- Admit a frame to region g: cells taken, staging left, queued, crossing started. -/
def admitTo (s : State) (id : Nat) (g : Region) (c : Nat) : State :=
  let s1 := markAdmitted s id
  let s2 := takeRegion s1 id g c
  let s3 := copyPlaced (freeStage s2 id) id
  startCrossing (countStored (enqueue s3 id) (s3.frm id)) id

/-! ## Push-out (R186, R187) -/

/-- Push-out class of a traffic class on a die. -/
def State.pushClass (s : State) (d tc : Nat) : Nat := s.fld (R.PUSHOUT_MAP d) (F.PUSHOUT_MAP_CLASS tc)

/-- The tail frame of a class queue may be evicted by a frame of push-out class k (Table 7.5). -/
def evictable (s : State) (d p tc k : Nat) : Bool :=
  match ((s.port d p).queue tc).getLast? with
  | none => false
  | some id =>
    let f := s.frm id
    !f.lossless && !f.onMesh && !f.cut && !f.mcast && f.region == .shared && (s.port d p).tx != some id &&
      decide (s.pushClass d tc < k)

/-- A victim queue is better than another: lower push-out class, then more shared cells, then lower port and class. -/
def victimBefore (s : State) (d : Nat) (a b : Nat × Nat) : Bool :=
  let ca := s.pushClass d a.2
  let cb := s.pushClass d b.2
  let sa := sget (s.port d a.1).shUsed a.2 0
  let sb := sget (s.port d b.1).shUsed b.2 0
  if ca ≠ cb then decide (ca < cb)
  else if sa ≠ sb then decide (sb < sa)
  else if a.1 ≠ b.1 then decide (a.1 < b.1)
  else decide (a.2 < b.2)

/-- The victim queue for an arriving frame of push-out class k. -/
def victim (s : State) (d k : Nat) : Option (Nat × Nat) :=
  let cands := ((s.ports.filter fun e => e.1 / 130 == d).flatMap fun e =>
    (List.range 8).map fun tc => (e.1 % 130, tc)).filter fun q => q.1 < 128 && evictable s d q.1 q.2 k
  cands.foldl (fun best q =>
    match best with
    | none => some q
    | some b => if victimBefore s d q b then some q else some b) none

/-- A class queue without its tail frame; its deficit is 0 where that empties it (R200). -/
def Port.dropTail (x : Port) (tc : Nat) : Port :=
  let q := (x.queue tc).dropLast
  { x.setQueue tc q with deficit := if q.isEmpty then sput x.deficit tc 0 0 else x.deficit }

/-- Evict the tail frame of a queue: counted in CORE_COUNT index 5 of its port. -/
def evictTail (s : State) (d p tc : Nat) : State :=
  match ((s.port d p).queue tc).getLast? with
  | none => s
  | some id =>
    discardFrame (dropCore (s.updPort d p fun x => x.dropTail tc) d p 5 (s.frm id)) id

/-- Evict up to n frames until c shared cells are free; none where n evictions do not free them. -/
def pushOut (d k c : Nat) : Nat → State → Option State
  | 0, s => if c ≤ s.sharedFree d then some s else none
  | n + 1, s =>
    if c ≤ s.sharedFree d then some s
    else match victim s d k with
      | none => none
      | some (p, tc) => pushOut d k c n (evictTail s d p tc)

/-- Drop a frame that no region takes: index 3 where the pool is too full, else index 4. -/
def refuseFrame (s : State) (id c : Nat) : State :=
  let f := s.frm id
  let i := if s.sharedFree f.outDie < c then 3 else 4
  discardFrame (dropCore s f.outDie f.outPort i f) id

/-- A frame waits for cells of its egress die; a lossless one counts in CORE_COUNT index 14. -/
def waitFrame (s : State) (id : Nat) : State :=
  let f := s.frm id
  let s1 := s.updDie f.outDie fun x => { x with waitQ := x.waitQ ++ [id] }
  if f.service = 0 ∧ f.lossless then s1.coreCount f.outDie f.outPort 14 else s1

/-- An earlier frame of the same ingress port, class and egress die waits (R184). -/
def blockedByWaiter (s : State) (id : Nat) (ws : List Nat) : Bool :=
  let f := s.frm id
  ws.any fun w =>
    let g := s.frm w
    decide (f.inPort < 130) && g.inDie == f.inDie && g.inPort == f.inPort && g.tc == f.tc

/-- BUF_EVENT.SHARED_FULL where an arrival that its port's minimum does not take finds c > shared_free. -/
def noteShared (s : State) (f : FrameRec) (c : Nat) : State :=
  if f.service = 0 ∧ admitRegion s f c ≠ some .portMin ∧ s.sharedFree f.outDie < c then
    setEvent s 62 (R.BUF_EVENT f.outDie) F.BUF_EVENT_SHARED_FULL
  else s

/-- Admit a stored frame that nothing delays, push others out for it, or drop it; none where it must wait (R184). -/
def tryAdmit (s : State) (id : Nat) : Option State :=
  let f := s.frm id
  let c := cellsOf (hLen f.frame.hdr)
  match admitRegion s f c with
  | some g => some (admitTo s id g c)
  | none =>
    if mustWait f then none
    else if s.sharedFree f.outDie < c then
      match pushOut f.outDie (s.pushClass f.outDie f.tc) c 4 s with
      | some t => some (admitTo t id .shared c)
      | none => some (refuseFrame s id c)
    else some (refuseFrame s id c)

/-- An ordered frame for a port that cannot take it: dropped in index 12 where the port is quarantined, in index 10 where
PORT_HOLD has ended; none where the port takes or holds it (R191, R192). A multicast copy is never one: its port is
skipped. -/
def orderedRefusal (s : State) (f : FrameRec) : Option Nat :=
  if f.service ≠ 0 ∨ 128 ≤ f.outPort ∨ f.mcast then none
  else if s.portState f.outDie f.outPort = 1 ∨ s.portState f.outDie f.outPort = 0 then some 12
  else if s.portState f.outDie f.outPort = 2 ∧ !f.sprayed then some 10
  else none

/-- The port of a multicast copy is not up, and is skipped (R190). -/
def State.skips (s : State) (f : FrameRec) : Bool := f.mcast && !s.portUp f.outDie f.outPort

/-- Admit, make wait, push out for, or drop a frame offered to its egress die (R184, R191, R192). -/
def admitFrame (s : State) (id : Nat) : State :=
  let f := s.frm id
  if s.skips f then discardFrame s id
  else match orderedRefusal s f with
    | some i => discardFrame (dropCore s f.outDie f.outPort i f) id
    | none =>
      if blockedByWaiter s id (s.die f.outDie).waitQ then waitFrame s id
      else
        let s1 := noteShared s f (cellsOf (hLen f.frame.hdr))
        match tryAdmit s1 id with
        | some t => t
        | none => waitFrame s1 id

/-- Offer free cells to the frames that wait for a die, in the order in which they began to wait: a frame whose port has
gone meanwhile is dropped, and a lossy one that only an earlier frame delayed is admitted or dropped like an arrival. -/
def admitWaiters (d : Nat) : List Nat → List Nat → State → State
  | [], _, s => s
  | id :: rest, still, s =>
    let f := s.frm id
    let out := s.updDie d fun x => { x with waitQ := x.waitQ.filter (· != id) }
    if s.skips f then admitWaiters d rest still (discardFrame out id)
    else match orderedRefusal s f with
      | some i => admitWaiters d rest still (discardFrame (dropCore out f.outDie f.outPort i f) id)
      | none =>
        if blockedByWaiter s id still then admitWaiters d rest (still ++ [id]) s
        else match tryAdmit out id with
          | some t => admitWaiters d rest still t
          | none => admitWaiters d rest (still ++ [id]) s

/-- Cells freed on a die go first to its waiting frames (R184). -/
def serveWaiters (s : State) (d : Nat) : State := admitWaiters d (s.die d).waitQ [] s

end Sys2Proof.Machine
end

