-- ==== Sys2Proof/Machine/Spray.lean ====
section
/-! DEFINITION. Spraying (R188, R189), lanyard candidates (R130), and what becomes of a port's frames when it goes down,
comes back or is quarantined (R190 to R192). -/

namespace Sys2Proof.Machine

/-! ## Candidates -/

/-- The lowest colour of a lanyard port that serves a destination: ENABLE and TX_OK set, same {partition, pod}
(R130). -/
def State.lanColour (s : State) (d p dest : Nat) : Option Nat :=
  (List.range 32).find? fun c =>
    let r := R.LANYARD_PEER_STATUS d p c
    s.bit r F.LANYARD_PEER_STATUS_ENABLE && s.bit r F.LANYARD_PEER_STATUS_TX_OK &&
      aPartPod (s.rd (R.LANYARD_PEER_ADDR d p c)).toNat == aPartPod dest

/-- A lanyard port in state UP is a candidate for a frame (R130, R188). -/
def lanCandidate (s : State) (d p : Nat) (f : FrameRec) : Bool :=
  let h := f.frame.hdr
  s.portUp d p && hVersion h == 1 && (f.cls == 1 || f.cls == 2) && hLanyard h &&
    decide (hLen h ≤ s.fld (R.LANYARD_WINDOW d p) F.LANYARD_WINDOW_MAX_FRAME) &&
    s.fld (R.LANYARD_STATUS d p) F.LANYARD_STATUS_STATE == 2 &&
    (s.lanColour d p (hDest h)).isSome

/-- A member can be chosen for a sprayed frame: its port is UP, lanyard members subject to R130. -/
def candidate (s : State) (f : FrameRec) (m : Nat × Nat) : Bool :=
  if m.2 < 128 then s.portUp m.1 m.2 else lanCandidate s m.1 m.2 f

/-- Queue of a lanyard port for a frame: 2c for COLLECTIVE, 2c + 1 for SPRAYED, on its lowest colour c (R131). -/
def lanQueueOf (s : State) (f : FrameRec) (d p : Nat) : Nat :=
  let c := (s.lanColour d p (hDest f.frame.hdr)).getD 0
  if f.cls = 2 then 2 * c else 2 * c + 1

/-- Depth of a candidate as die d knows it: exact for its own ports, as last broadcast for others (R188). -/
def candDepth (s : State) (d : Nat) (f : FrameRec) (m : Nat × Nat) : Nat :=
  if 128 ≤ m.2 then
    (if m.1 = d then s.lanDepth m.1 m.2 (lanQueueOf s f m.1 m.2)
     else sget (s.die d).depths ((m.1 * 130 + m.2) * 64 + lanQueueOf s f m.1 m.2) 0)
  else if m.1 = d then s.depth m.1 m.2 f.tc
  else sget (s.die d).depths ((m.1 * 130 + m.2) * 64 + f.tc) 0

/-- Choose among candidates with the pipe's generator (R188). -/
def sprayChoose (s : State) (d ll : Nat) (f : FrameRec) (cands : List (Nat × Nat)) : Option (Nat × Nat) × State :=
  match cands with
  | [] => (none, s)
  | [m] => (some m, s)
  | _ =>
    let k := cands.length
    let r1 := lfsrNext (s.sprayState d ll)
    let r2 := lfsrNext r1
    let i := r1 / 65536 * k / 65536
    let j0 := r2 / 65536 * (k - 1) / 65536
    let j := if i ≤ j0 then j0 + 1 else j0
    let a := cands.getD i (0, 0)
    let b := cands.getD j (0, 0)
    let s1 := s.updDie d fun x => { x with spray := sput x.spray ll r2 0 }
    (some (if candDepth s d f b < candDepth s d f a then b else a), s1)

/-- The frame sent to a member: egress port, lanyard queue, spray flag (R50). -/
def placeAt (s : State) (id : Nat) (m : Nat × Nat) : State :=
  let f := s.frm id
  s.updFrm id fun x =>
    { x with outDie := m.1, outPort := m.2, sprayed := true,
             outQ := if 128 ≤ m.2 then lanQueueOf s f m.1 m.2 else 0 }

/-- Hand a placed frame to its egress die for admission (R184). -/
def offerFrame (s : State) (id : Nat) : State :=
  s.updDie (s.frm id).outDie fun x => { x with admitQ := x.admitQ ++ [id] }

/-- Count a frame with no candidate: CORE_COUNT index 13 of the ingress port, LANYARD_COUNT index 15 where the members
left out were lanyard ports (R130, R188). -/
def noCandidate (s : State) (id : Nat) (members : List (Nat × Nat)) : State :=
  let f := s.frm id
  let s1 := if f.inPort < 130 then dropCore s f.inDie f.inPort 13 f else s
  let s2 := match members.find? fun m => decide (128 ≤ m.2) with
    | some m => s1.lanCount m.1 (m.2 - 128) 15
    | none => s1
  discardFrame s2 id

/-- Drop a frame at lookup. -/
def lookupDrop (s : State) (d ll i id : Nat) : State := discardFrame (dropLookup s d ll i (s.frm id)) id

/-- Place a sprayed frame at one of the members (R188), with the egress check on the chosen one (R161): whether it was placed, and
the state after. -/
def sprayPlace (s : State) (d ll id : Nat) (members : List (Nat × Nat)) : Bool × State :=
  let f := s.frm id
  let (m, s1) := sprayChoose s d ll f (members.filter (candidate s f))
  match m with
  | none => (false, noCandidate s1 id members)
  | some m =>
    if s1.egressOk m.1 m.2 (aPart (hDest f.frame.hdr)) then (true, placeAt s1 id m)
    else (false, lookupDrop s1 d ll 8 id)

/-- Offer a placed frame to its egress die, or, while it still arrives, as soon as it is whole. -/
def handOn (s : State) (id : Nat) : State :=
  if (s.frm id).whole then offerFrame s id else s.updFrm id fun x => { x with await := true }

/-! ## Where frames wait -/

/-- Frames of a port's class queues, in class order. -/
def Port.allQueued (x : Port) : List Nat := x.queues.flatMap (·.2)

/-- Remove frames from the class queues of a port, and from those that wait for its transmitter. A queue that this empties
has its deficit set to 0 (R200). -/
def dropFromQueues (s : State) (d p : Nat) (ids : List Nat) : State :=
  let keep := fun (l : List Nat) => l.filter fun i => !ids.contains i
  s.updPort d p fun x =>
    { x with queues := x.queues.foldl (fun m e => sput m e.1 (keep e.2) []) [], cutWait := keep x.cutWait,
             deficit := x.deficit.foldl (fun m e => sput m e.1 (if (keep (x.queue e.1)).isEmpty then 0 else e.2) 0) [] }

/-- Remove frames from the queues in which staged frames wait. -/
def dropFromWaits (s : State) (ids : List Nat) : State :=
  let keep := fun (l : List Nat) => l.filter fun i => !ids.contains i
  { s with dies := (List.range 8).foldl (fun m d =>
      let x := sget s.dies d Die.init
      sput m d { x with backlog := x.backlog.foldl (fun b e => sput b e.1 (keep e.2) []) [],
                        admitQ := keep x.admitQ, waitQ := keep x.waitQ } Die.init) s.dies }

/-- Frames that came to a die for a port and are not admitted yet, oldest first. -/
def waitingFor (s : State) (d p : Nat) : List Nat :=
  ((s.die d).waitQ ++ (s.die d).admitQ).filter fun id => (s.frm id).service == 0 && (s.frm id).outPort == p

/-! ## Re-spraying (R189) -/

/-- The members that a frame goes to now: those of the port set its lookup named, as the active slot holds it; a parity
error in the set, or a set that cannot be used, is shown in their place (R155, R159). -/
inductive SetNow where
  | members (ms : List (Nat × Nat))
  | parity (loc : Nat)
  | unusable
  deriving DecidableEq, Repr

def setNow (s : State) (f : FrameRec) : SetNow :=
  let loc := tblLoc 9 f.portSet
  if 4096 ≤ f.portSet then .members []
  else if s.marked f.inDie s.genBit loc then .parity loc
  else if !psUsable s (s.entry s.genBit loc) then .unusable
  else .members (psMembers (s.entry s.genBit loc))

/-- Re-spray one frame away from port (d, p): CORE_COUNT index 6 there, the epoch bit of the active generation, and
offered to the queue of a candidate other than the port. -/
def resprayOne (d p : Nat) (s : State) (id : Nat) : State :=
  let s1 := offMesh (freeRegion (s.coreCount d p 6) id) id
  let s2 := s1.updFrm id fun x => { x with epoch := s.genBit, arrived := false, cut := false, via := 255 }
  let f := s2.frm id
  match setNow s2 f with
  | .parity loc =>
    let s3 := parityMiss s2 f.inDie f.pipe s.genBit loc
    discardFrame (mirrorDrop s3 f.inDie f.inPort 1 6 f.frame.hdr f.body f.tc f.colour) id
  | .unusable => lookupDrop s2 f.inDie f.pipe 15 id
  | .members ms =>
    match sprayPlace s2 f.inDie f.pipe id (ms.filter (· != (d, p))) with
    | (true, s3) => handOn s3 id
    | (false, s3) => s3

/-- Re-spray the not-yet-started SPRAYED and COLLECTIVE frames of a port: queued, crossing to its queue, waiting for its
transmitter, or waiting to be admitted (R189). -/
def resprayPort (s : State) (d p : Nat) : State :=
  let x := s.port d p
  let ids := (x.cutWait ++ x.allQueued ++ waitingFor s d p).filter fun id =>
    (s.frm id).sprayed && !(s.frm id).mcast && x.tx != some id
  ids.foldl (resprayOne d p) (dropFromWaits (dropFromQueues s d p ids) ids)

/-! ## Frames cut short (R57, R183) -/

/-- A frame cut through and found bad ends at its egress: with FRAME_ABORT where it is in transmission, counted in YFP_COUNT
index 11, and silently where its head has not left. -/
def endCut (s : State) (id reason : Nat) : State :=
  let f := s.frm id
  if (s.port f.outDie f.outPort).tx = some id then
    let s1 := (s.yfpCount f.outDie f.outPort 11).emit (.abort f.outDie f.outPort (hSeq f.frame.hdr) reason)
    discardFrame (s1.updPort f.outDie f.outPort fun x =>
      { x with tx := none, txStream := x.txStream ++ [ctlBlock 4 (hSeq f.frame.hdr * 2 ^ 32 + reason * 2 ^ 24)] }) id
  else discardFrame (dropFromQueues s f.outDie f.outPort [id]) id

/-- End a frame found bad. One cut through ends at its egress, at once on its own die, and with the abort flit that follows
it over the mesh; one that waits is dropped with its copies (R183). -/
def endBad (s : State) (id reason : Nat) : State :=
  let f := s.frm id
  if (s.frm? id).isNone then s
  else if f.cut then
    if f.onMesh && f.inDie != f.outDie then s.updFrm id fun x => { x with bad := true, reason := reason }
    else endCut s id reason
  else
    let cs := copiesOf s id
    discardFrame (cs.foldl discardFrame (dropFromWaits s (id :: cs))) id

/-- The frame being received on a port is truncated by loss of the link: handled as aborted (R57). -/
def truncateRx (s : State) (d p : Nat) : State :=
  match (s.port d p).rxOpen with
  | none => s
  | some id => endBad ((s.updPort d p fun x => { x with rxOpen := none }).yfpCount d p 10) id 4

/-! ## Port down (R190) -/

/-- The frame in transmission is truncated by the loss of its port: CORE_COUNT index 11. -/
def truncateTx (s : State) (d p : Nat) : State :=
  match (s.port d p).tx with
  | none => s
  | some id => discardFrame ((s.updPort d p fun x => { x with tx := none, txStream := [] }).coreCount d p 11) id

/-- Hold the ordered frames queued for a port in arrival order; each counts in index 7 (R190). -/
def holdOrdered (s : State) (d p : Nat) : State :=
  let x := s.port d p
  let ids := (x.cutWait ++ x.allQueued).filter fun id => !(s.frm id).mcast
  let s1 := ids.foldl (fun t id => t.updFrm id fun f => { f with wasHeld := true, cut := false }) (dropFromQueues s d p ids)
  (s1.updPort d p fun y => { y with held := y.held ++ ids }).countN (R.CORE_COUNT d p 7) ids.length

/-- Multicast copies for the port are skipped, those not admitted yet too. -/
def skipMcast (s : State) (d p : Nat) : State :=
  let ids := ((s.port d p).allQueued ++ waitingFor s d p).filter fun id => (s.frm id).mcast
  ids.foldl discardFrame (dropFromWaits (dropFromQueues s d p ids) ids)

/-- A data port that leaves UP holds no pause of its far end any more: a class stays paused until the port goes down
(R65). A lanyard port's off masks stand per peer (R132). -/
def clearRxPause (s : State) (d p : Nat) : State :=
  if p < 128 then
    (s.setF (R.PORT_FC_STATUS d p) F.PORT_FC_STATUS_RX_OFF 0).updPort d p fun x => { x with pausedAt := [] }
  else s

/-- A port in state UP goes down: its frames are truncated, re-sprayed or held, and PORT_HOLD starts (R190). -/
def portDown (s : State) (d p : Nat) : State :=
  if s.portUp d p then
    let s1 := truncateTx (clearRxPause ((s.setPortState d p 3).updPort d p fun x =>
      { x with overdue := (x.timed.filter fun e => s.reached e.2).map (·.1) }) d p) d p
    if p < 128 then holdOrdered (skipMcast (resprayPort s1 d p) d p) d p else s1
  else s

/-- The held frames go back to the heads of their class queues, in order; each counts in index 8 when it is sent (R191). -/
def releaseHeld (s : State) (d p : Nat) : State :=
  let ids := (s.port d p).held
  let s1 := s.updPort d p fun x => { x with held := [], pastHold := false }
  (List.range 8).foldl (fun t tc =>
    let mine := ids.filter fun id => (s.frm id).tc == tc
    t.updPort d p fun x => x.setQueue tc (mine ++ x.queue tc)) s1

/-- The lanes and the far end allow the port to be UP (R191, R193): UP in PORT_LANE_STATUS and no far fault; a lanyard
port when its state is ACTIVE (R139). -/
def State.portReady (s : State) (d p : Nat) : Bool :=
  s.bit (R.PORT_ADMIT d p) F.PORT_ADMIT_ADMIT &&
  (if p < 128 then
    s.bit (R.PORT_LANE_STATUS d p) F.PORT_LANE_STATUS_UP && (s.port d p).farCond.isNone && !s.portDark d p
   else s.fld (R.LANYARD_STATUS d p) F.LANYARD_STATUS_STATE == 2)

/-- TQ_COUNT index in which timed frame id with launch time l is dropped now: 3 where its port was down at L, 2 where it still
waits at L + DROP_US (R112). -/
def State.timedLost (s : State) (d p id l : Nat) : Option Nat :=
  if !s.portUp d p && s.reached l && !(s.port d p).overdue.contains id then some 3
  else if s.reached (l + s.fld (R.TQ_CTRL d p) F.TQ_CTRL_DROP_US * 1000) then some 2
  else none

/-- Drop the frames of a timed queue that have met a limit of R112. -/
def settleTimed (s : State) (d p : Nat) : State :=
  let t := (s.port d p).timed
  let gone := t.filter fun e => (s.timedLost d p e.1 e.2).isSome
  let s1 := if gone.isEmpty then s
    else s.updPort d p fun x => { x with timed := t.filter fun e => (s.timedLost d p e.1 e.2).isNone }
  gone.foldl (fun u e => discardFrame (u.tqCount d p ((s.timedLost d p e.1 e.2).getD 2)) e.1) s1

/-- A port that is admitted and ready comes UP, with its held frames sent first (R191). -/
def portBack (s : State) (d p : Nat) : State :=
  if s.portReady d p && (s.portState d p == 2 || s.portState d p == 3) then
    releaseHeld (((settleTimed s d p).setPortState d p 4).updPort d p fun x => { x with pastHold := false }) d p
  else s

/-- PORT_HOLD ends with the port still down: the held frames are discarded and counted in index 9, but for those of
lossless classes during slew pause (R191). -/
def holdExpire (s : State) (d p : Nat) : State :=
  if s.portState d p = 3 then
    let x := s.port d p
    let keep := if x.slew then x.held.filter fun id => (s.frm id).lossless else []
    let gone := x.held.filter fun id => !keep.contains id
    let s1 := (s.setPortState d p 2).updPort d p fun y => { y with held := keep, pastHold := true }
    gone.foldl (fun t id => discardFrame (dropCore t d p 9 (t.frm id)) id) s1
  else s

/-! ## Quarantine (R192) -/

/-- Discard a frame and count it in CORE_COUNT index 12 of a port. -/
def discard12 (d p : Nat) (s : State) (id : Nat) : State := discardFrame (dropCore s d p 12 (s.frm id)) id

/-- Frames staged on a port's ingress: received there and not yet admitted everywhere. -/
def stagedOf (s : State) (d p : Nat) : List Nat :=
  (s.frames.filter fun e => match e.2 with
    | some f => f.inDie == d && f.inPort == p && f.origin == .port && f.stage != 0
    | none => false).map (·.1)

/-- Discard a staged frame, with those of its copies that are not admitted, and count it in CORE_COUNT index 12 of its
port. -/
def dropStagedFrames (d p : Nat) (s : State) (id : Nat) : State :=
  let cs := (copiesOf s id).filter fun c => (s.frm c).cells == 0
  let s1 := dropCore s d p 12 (s.frm id)
  let s2 := cs.foldl discardFrame (dropFromWaits s1 (id :: cs))
  if (copiesOf s2 id).isEmpty then discardFrame s2 id else freeStage s2 id

/-- The frame a port is receiving is not forwarded on: one already cut through is truncated. -/
def endReceive (s : State) (d p : Nat) : State :=
  match (s.port d p).rxOpen with
  | none => s
  | some id => if (s.frm id).cut then truncateRx s d p else s

/-- A port enters quarantine: its frames are discarded or re-sprayed, and it sends QUARANTINED (R192). -/
def enterQuarantine (s : State) (d p : Nat) : State :=
  let s0 := endReceive (if s.portUp d p then truncateTx (clearRxPause s d p) d p else s) d p
  let s1 := (s0.setPortState d p 1).setF (R.PORT_ADMIT d p) F.PORT_ADMIT_ADMIT 0
  let s2 := (stagedOf s1 d p).foldl (dropStagedFrames d p) s1
  let s3 := s2.updPort d p fun x => { x with rxOpen := none, hunt := false }
  let s4 := skipMcast (resprayPort s3 d p) d p
  let x := s4.port d p
  let rest := x.cutWait ++ x.allQueued ++ x.held ++ x.timed.map (·.1)
  let s5 := s4.updPort d p fun y => { y with queues := [], held := [], timed := [], cutWait := [], deficit := [], pastHold := false }
  let s6 := rest.foldl (discard12 d p) s5
  if p < 128 then s6
  else
    let lq := ((s6.lan d (p - 128)).queues.flatMap (·.2)).map (·.1)
    lq.foldl (discard12 d p) (s6.updLan d (p - 128) fun l => { l with queues := [] })

end Sys2Proof.Machine
end

