-- ==== Sys2Proof/Machine/Switch.lean ====
section
/-! DEFINITION. The meanings of the switch-core rows: crossbar slot, egress admission, port down and back, quarantine and
admission, buffer configuration (R173 to R195). -/

namespace Sys2Proof.Machine

/-- A step's answer. -/
abbrev Result := Host.Outcome State Fault Refusal

/-! ## The crossbar scheduler (R174, R175) -/

/-- Peer die of a die-link logical output of die d. -/
def peerOfSlot (d o : Nat) : Nat := let r := (o - 128) / 4; if r < d then r else r + 1

/-- The crossing leaves the die by a die link. -/
def Xfer.toLink (x : Xfer) : Bool := decide (x.vc < 8)

/-- Flits of a crossing's frame that the link it comes by has brought, first first. -/
def Xfer.arrivedFlits (s : State) (d : Nat) (x : Xfer) : List Flit :=
  if 8 ≤ x.src then [] else (s.link x.src d).held.filter (·.frame == x.frame)

/-- The crossing holds a cell ready to move: the four flits of one, or the last ones, where they come by a link; a cell stored
on the die, where the last one of a frame still being received waits for its end. -/
def Xfer.hasCell (s : State) (d : Nat) (x : Xfer) : Bool :=
  if 8 ≤ x.src then
    let f := s.frm x.frame
    decide (0 < x.cells) && (decide (1 < x.cells) || f.whole || f.reason != 0)
  else
    let fs := x.arrivedFlits s d
    decide (4 ≤ fs.length) || fs.any fun f => f.tail

/-- A cell of the crossing can move: toward a link, only while it is up and its channel is on (R21). -/
def Xfer.ready (s : State) (d : Nat) (x : Xfer) : Bool :=
  x.hasCell s d &&
  (!x.toLink ||
    (s.linkUp d (peerOfSlot d x.out) && (x.begun || !s.dieHeld d) &&
      !(s.fld (R.D2D_LINK_STATUS d (peerOfSlot d x.out)) F.D2D_LINK_STATUS_VC_OFF).testBit x.vc))

/-- The crossing holds its output locked: a frame in progress that locks (R175). -/
def Xfer.locked (x : Xfer) : Bool := x.begun && x.locks

/-- An output is locked against a crossing by another in progress. The two channels that share a die link's logical output are locked
each on its own, so that neither waits on the other (R21, R175; log entry 14). -/
def barred (xs : List Xfer) (t : Xfer) : Bool :=
  xs.any fun l => l.locked && l.out == t.out && l.vc == t.vc && l != t

/-- Of the numbers that satisfy p, the first at or after a pointer, ascending with wrap over 173. -/
def firstFrom (ptr : Nat) (xs : List Nat) : Option Nat :=
  xs.foldl (fun best x =>
    match best with
    | none => some x
    | some b => if (x + 173 - ptr % 173) % 173 < (b + 173 - ptr % 173) % 173 then some x else some b) none

/-- One iteration of request, grant and accept over the pairs still open (R174): the accepted pairs. -/
def matchOnce (reqs : List (Nat × Nat)) (x : Die) (done : List (Nat × Nat)) : List (Nat × Nat) :=
  let openReqs := reqs.filter fun r => !done.any fun m => m.1 == r.1 || m.2 == r.2
  let outs := (openReqs.map (·.2)).dedup
  let grants := outs.filterMap fun o =>
    (firstFrom (sget x.grant o 0) ((openReqs.filter (·.2 == o)).map (·.1))).map fun i => (i, o)
  let ins := (grants.map (·.1)).dedup
  ins.filterMap fun i =>
    (firstFrom (sget x.accept i 0) ((grants.filter (·.1 == i)).map (·.2))).map fun o => (i, o)

/-- Pointers move on the accepts of the first iteration. -/
def movePointers (x : Die) (ms : List (Nat × Nat)) : Die :=
  ms.foldl (fun y m => { y with grant := sput y.grant m.2 ((m.1 + 1) % 173) 0,
                                accept := sput y.accept m.1 ((m.2 + 1) % 173) 0 }) x

/-- The locked crossings that move a cell in a slot time, at most one for each input and output. -/
def movingLocked (s : State) (d : Nat) : List Xfer :=
  (s.die d).xfers.foldl (fun ms t =>
    if t.locked && t.ready s d && !ms.any (fun m => m.inp == t.inp || m.out == t.out) then ms ++ [t] else ms) []

/-- The matching of one slot time: three iterations over the inputs and outputs that no locked crossing uses, and the die
with its pointers moved. -/
def matchSlot (s : State) (d : Nat) : List (Nat × Nat) × Die :=
  let x := s.die d
  let moving := movingLocked s d
  let reqs := ((x.xfers.filter fun t => !t.locked && t.ready s d && !barred x.xfers t &&
    !moving.any fun m => m.out == t.out || m.inp == t.inp).map fun t => (t.inp, t.out)).dedup
  let m1 := matchOnce reqs x []
  let y := movePointers x m1
  let m2 := m1 ++ matchOnce reqs y m1
  (m2 ++ matchOnce reqs y m2, y)

/-- The flits of one cell of a frame (R19): `sent` cells went before, `left` remain with this one. A frame found bad ends
with an abort flit. -/
def cellFlits (f : FrameRec) (id vc sent left : Nat) : List Flit :=
  let flit := fun (head tail abort : Bool) =>
    { vc := vc, frame := id, head := head, tail := tail, abort := abort, dest := f.outDie,
      slot := if head then outSlot f else 0, len := if head then hLen f.frame.hdr else 0 : Flit }
  if f.reason ≠ 0 then [flit (sent == 0) true true]
  else (List.range 4).map fun i => flit (sent == 0 && i == 0) (left == 1 && i == 3) false

/-- The flits that one cell time of a crossing moves, and whether they end the frame. -/
def takeFlits (s : State) (d : Nat) (t : Xfer) : List Flit :=
  if 8 ≤ t.src then
    let f := s.frm t.frame
    cellFlits f t.frame t.vc (cellsOf (hLen f.frame.hdr) - t.cells) t.cells
  else (t.arrivedFlits s d).take 4

/-- Move one cell of a crossing: out of the cells or the receive buffer it stands in, onto the link it leaves by, or to its
destination on this die. -/
def moveCell (d : Nat) (s : State) (t : Xfer) : State :=
  let fs := takeFlits s d t
  let ends := fs.any fun f => f.tail
  let s1 := s.updDie d fun x =>
    { x with xfers := (x.xfers.map fun u =>
        if u = t then { u with cells := u.cells - 1, begun := true } else u).filter fun u =>
          !(ends && u.frame == t.frame && u.inp == t.inp && u.out == t.out) }
  let s2 := if 8 ≤ t.src then s1
    else s1.updLink t.src d fun l => { l with held := l.held.filter fun f => !fs.contains f }
  if t.toLink then
    s2.updLink d (peerOfSlot d t.out) fun l =>
      { l with flight := l.flight ++ fs.map fun f => { f with vc := t.vc } }
  else if fs.any fun f => f.abort then endCut s2 t.frame (s.frm t.frame).reason
  else if ends then arriveFrame s2 t.frame
  else s2

/-- Off mask that die d asserts for its link from die a: a channel goes off below 512 free flits of 1,024 and on above 768
(R21). -/
def offWanted (l : Link) : Nat :=
  ((List.range 8).map fun v =>
    let free := 1024 - (l.held.filter (·.vc == v)).length
    if free < 512 || (l.offSent.testBit v && decide (free ≤ 768)) then 2 ^ v else 0).sum

/-- Send a CREDIT_SYNC word to die a where the off mask of its link to die d changed. -/
def creditUpdate (d : Nat) (s : State) (a : Nat) : State :=
  let l := s.link a d
  let m := offWanted l
  if m = l.offSent then s else (s.updLink a d fun x => { x with offSent := m }).emit (.credit d a m)

/-- SCHEDULER_SLOT: one slot time of die d's crossbar (R17, R174, R175). Frames that could not start are tried first. -/
def doSchedulerSlot (d : Nat) (s : State) : State :=
  let s0 := retryCrossings s d
  let x := s0.die d
  let (ms, y) := matchSlot s0 d
  let matched := ms.filterMap fun m =>
    x.xfers.find? fun t => t.inp == m.1 && t.out == m.2 && t.ready s0 d && !t.locked && !barred x.xfers t
  let s1 := s0.updDie d fun z => { z with grant := y.grant, accept := y.accept }
  (List.range 8).foldl (creditUpdate d) ((movingLocked s0 d ++ matched).foldl (moveCell d) s1)

def execSchedulerSlot (d : Fin 8) (s : State) : Result := .next (doSchedulerSlot d.val s)

/-! ## Depth broadcast (R188) -/

/-- Depths of a die's ports and lanyard queues, by (die × 130 + port) × 64 + queue. -/
def depthsOf (s : State) (d : Nat) : List (Nat × Nat) :=
  ((s.ports.filter fun e => e.1 / 130 == d).flatMap fun e =>
    (List.range 8).map fun tc => (e.1 * 64 + tc, s.depth d (e.1 % 130) tc)) ++
  ((s.lany.filter fun e => e.1 / 2 == d).flatMap fun e =>
    (List.range 64).map fun q => ((d * 130 + 128 + e.1 % 2) * 64 + q, s.lanDepth d (128 + e.1 % 2) q))

/-- The depths of die d's ports reach another die. -/
def learnDepths (d : Nat) (ds : List (Nat × Nat)) (m : SMap Nat) : SMap Nat :=
  ds.foldl (fun m e => sput m e.1 e.2 0) (m.filter fun e => e.1 / 64 / 130 != d)

/-- DEPTH_BROADCAST: die d sends the depths of its ports to the other dies. -/
def doDepthBroadcast (d : Nat) (s : State) : State :=
  ((List.range 8).filter (· != d)).foldl
    (fun t e => t.updDie e fun x => { x with depths := learnDepths d (depthsOf s d) x.depths }) s

def execDepthBroadcast (d : Fin 8) (s : State) : Result := .next (doDepthBroadcast d.val s)

/-! ## Egress admission -/

/-- FRAME_EGRESS_ADMIT: the oldest frame that came to egress die d is admitted, waits, pushes others out, or is dropped
(R184 to R187); cells already free go first to the frames that wait. -/
def doEgressAdmit (d : Nat) (s : State) : State :=
  let s1 := serveWaiters s d
  match (s1.die d).admitQ with
  | [] => s1
  | id :: rest =>
    admitFrame (s1.updDie d fun x => { x with admitQ := rest }) id

def execFrameEgressAdmit (d : Fin 8) (s : State) : Result := .next (doEgressAdmit d.val s)

/-- EGRESS_WAIT_ADMIT: freed cells admit the frames waiting for die d in the order in which they began to wait (R184). -/
def execEgressWaitAdmit (d : Fin 8) (s : State) : Result := .next (serveWaiters s d.val)

/-- CUT_THROUGH_UNDERRUN: a data slot of a cut-through frame is filled with IDLE and counted (R182). -/
def doUnderrun (d p : Nat) (s : State) : State :=
  match (s.port d p).tx with
  | some id => if (s.frm id).cut then s.coreCount d p 2 else s
  | none => s

def execCutThroughUnderrun (d : Fin 8) (p : Fin 128) (s : State) : Result := .next (doUnderrun d.val p.val s)

/-! ## Port down, back, quarantine, admission -/

/-- PORT_DOWN (R190): a port in state UP goes down. -/
def execPortDown (d : Fin 8) (p : Fin 130) (s : State) : Result := .next (portDown s d.val p.val)

/-- PORT_BACK (R191). -/
def execPortBack (d : Fin 8) (p : Fin 130) (s : State) : Result := .next (portBack s d.val p.val)

/-- PORT_HOLD_EXPIRE (R191). -/
def execPortHoldExpire (d : Fin 8) (p : Fin 130) (s : State) : Result := .next (holdExpire s d.val p.val)

/-- A write of 0 to PORT_ADMIT.ADMIT: quarantine of a port that exists and is not quarantined (R192). -/
def writeQuarantine (d p : Nat) (s : State) : State :=
  if s.portState d p = 0 ∨ s.portState d p = 1 then s else enterQuarantine s d p

/-- PORT_QUARANTINE: a write of PORT_ADMIT.ADMIT = 0. -/
def execPortQuarantine (d : Fin 8) (p : Fin 130) (s : State) : Result := .next (writeQuarantine d.val p.val s)

/-- Result of the admission checks of Table 7.9, in order. -/
def admitStatus (d p : Nat) (s : State) : Nat :=
  let others := s.reserveSum d fun q => decide (q ≠ p) && s.bit (R.PORT_ADMIT d q) F.PORT_ADMIT_ADMIT
  if s.isRetired (portKind p) d p then 0x17
  else if s.gen = 0 ∨ s.tabs.stale.contains d then 0x18
  else if s.fld (R.BUF_POOL_CTRL d) F.BUF_POOL_CTRL_STAGE_CELLS < others + s.reserve d p then 0x10
  else 0

/-- A write of 1 to PORT_ADMIT.ADMIT (R193). -/
def writeAdmit (d p : Nat) (s : State) : State :=
  if s.portState d p = 1 then
    let st := admitStatus d p s
    let s1 := s.setF (R.PORT_ADMIT d p) F.PORT_ADMIT_LAST_STATUS st
    if st = 0 then portBack ((s1.setF (R.PORT_ADMIT d p) F.PORT_ADMIT_ADMIT 1).setPortState d p 2) d p else s1
  else s

/-- PORT_ADMIT: a write of PORT_ADMIT.ADMIT = 1. -/
def execPortAdmit (d : Fin 8) (p : Fin 130) (s : State) : Result := .next (writeAdmit d.val p.val s)

/-! ## Configuration that moves the reservations (R180) -/

/-- The write itself, without the check of R180: fields out of range keep their value (R70). -/
def reserveWrite (d p : Nat) (reg : ReserveReg) (v : Word) (s : State) : State :=
  match reg with
  | .yfpCtrl =>
    if 4 < popCount (F.PORT_YFP_CTRL_LOSSLESS_TC.get v) 8 then s
    else (s.setF (R.PORT_YFP_CTRL d p) F.PORT_YFP_CTRL_LOSSLESS_TC (F.PORT_YFP_CTRL_LOSSLESS_TC.get v)).setF
      (R.PORT_YFP_CTRL d p) F.PORT_YFP_CTRL_PAUSE_WD_MS (F.PORT_YFP_CTRL_PAUSE_WD_MS.get v)
  | .headroom =>
    if 100 < F.PORT_HEADROOM_FIBRE_M.get v then s
    else s.setF (R.PORT_HEADROOM d p) F.PORT_HEADROOM_FIBRE_M (F.PORT_HEADROOM_FIBRE_M.get v)
  | .peer c =>
    if p < 128 then s
    else s.setF (R.LANYARD_PEER_STATUS d p c.val) F.LANYARD_PEER_STATUS_ENABLE (F.LANYARD_PEER_STATUS_ENABLE.get v)

/-- The write would raise Σ reserve(p) of the die above STAGE_CELLS on an admitted port. -/
def reserveOverflow (d p : Nat) (s t : State) : Bool :=
  s.bit (R.PORT_ADMIT d p) F.PORT_ADMIT_ADMIT &&
  decide (s.reserveSum d (fun _ => true) < t.reserveSum d (fun _ => true)) &&
  decide (s.fld (R.BUF_POOL_CTRL d) F.BUF_POOL_CTRL_STAGE_CELLS < t.reserveSum d fun _ => true)

/-- A write that can raise the reservations: taken, or ignored with RESERVE_REFUSED set. -/
def writeReserve (d p : Nat) (reg : ReserveReg) (v : Word) (s : State) : State :=
  let t := reserveWrite d p reg v s
  if reserveOverflow d p s t then setEvent s 62 (R.BUF_EVENT d) F.BUF_EVENT_RESERVE_REFUSED
  else flowPort t d p

/-- PORT_RESERVE_WRITE (R180). -/
def execPortReserveWrite (d : Fin 8) (p : Fin 130) (reg : ReserveReg) (v : Word) (s : State) : Result :=
  .next (writeReserve d.val p.val reg v s)

/-- Every port of a die is quarantined or absent. -/
def allQuarantined (s : State) (d : Nat) : Bool := (List.range 130).all fun p => decide (s.portState d p ≤ 1)

/-- Set a field where the value lies in a range. -/
def setInRange (s : State) (r : RegRef) (f : Fld) (v : Word) (lo hi : Nat) : State :=
  if lo ≤ f.get v ∧ f.get v ≤ hi then s.setF r f (f.get v) else s

/-- A write to STAGE_CELLS or BUF_RESERVE: only while every port of the die is quarantined (R180, R194). -/
def writeBufConfig (d : Nat) (pool : Bool) (v : Word) (s : State) : State :=
  if !allQuarantined s d then s
  else if pool then setInRange s (R.BUF_POOL_CTRL d) F.BUF_POOL_CTRL_STAGE_CELLS v 8192 65536
  else setInRange (setInRange s (R.BUF_RESERVE d) F.BUF_RESERVE_HOLD_RSP_CELLS v 1024 16384) (R.BUF_RESERVE d)
    F.BUF_RESERVE_ENGINE_CELLS v 1024 16384

/-- BUF_CONFIG_WRITE. -/
def execBufConfigWrite (d : Fin 8) (pool : Bool) (v : Word) (s : State) : Result := .next (writeBufConfig d.val pool v s)

/-- A write of SPRAY_SEED reseeds every pipe's generator (R188). -/
def writeSpraySeed (d : Nat) (v : Word) (s : State) : State :=
  (s.wr (R.SPRAY_SEED d) v).updDie d fun x => { x with spray := [] }

/-- SPRAY_SEED_WRITE. -/
def execSpraySeedWrite (d : Fin 8) (v : Word) (s : State) : Result := .next (writeSpraySeed d.val v s)

end Sys2Proof.Machine
end

