-- ==== Sys2Proof/Machine/Traffic.lean ====
section
/-! DEFINITION. Egress scheduling, timed launch, shaping (R112, R199 to R203) and the policer and shaper registers (R202,
R207). -/

namespace Sys2Proof.Machine

/-! ## Shaper credit (R201) -/

/-- Credit of a class queue now, in 2^-16 bytes: risen every core cycle, capped at BURST. -/
def State.creditNow (s : State) (d p t : Nat) : Int :=
  let x := s.port d p
  let c := sget x.credit t 0
  let dt := s.cycle - sget x.creditAt t 0
  let r := R.TM_SHAPER d p t
  min (c + (ratePerCycle (s.fld r F.TM_SHAPER_RATE) * dt : Nat)) (burstUnits (s.fld r F.TM_SHAPER_BURST) : Nat)

/-- Set the credit of a class queue as of now. -/
def State.setCredit (s : State) (d p t : Nat) (c : Int) : State :=
  s.updPort d p fun x => { x with credit := sput x.credit t c 0, creditAt := sput x.creditAt t s.cycle 0 }

/-- The shaper of a class queue lets a frame start. -/
def State.shaperOk (s : State) (d p t : Nat) : Bool :=
  !s.bit (R.TM_SHAPER d p t) F.TM_SHAPER_EN || decide (0 ≤ s.creditNow d p t)

/-- TM_QUEUE_CREDIT.CREDIT: whole bytes, signed. -/
def State.creditBytes (s : State) (d p t : Nat) : Nat := ofSigned 32 (s.creditNow d p t / 65536)

/-! ## Timed queue (R111, R112) -/

/-- Timed launch is suspended: REQUIRE_LOCK in FREE_RUN or COARSE. -/
def State.launchSuspended (s : State) (d p : Nat) : Bool :=
  s.bit (R.TQ_CTRL d p) F.TQ_CTRL_REQUIRE_LOCK &&
    (s.fld R.TIME_STATUS F.TIME_STATUS_STATE == 0 || s.fld R.TIME_STATUS F.TIME_STATUS_STATE == 4)

/-- The head of the timed queue is due: L reached, its class not paused, launch not suspended (the frames that met a limit
are dropped before). -/
def State.timedDue (s : State) (d p : Nat) : Option (Nat × Nat) :=
  match (s.port d p).timed with
  | [] => none
  | (id, l) :: _ =>
    if s.reached l && !s.paused d p (s.frm id).tc && !s.launchSuspended d p then some (id, l) else none

/-- A class frame of `len` bytes would end before the launch time of a timed head not yet reached (R112): blocks at 1.28 ns
each over the active lanes. -/
def State.guardOk (s : State) (d p len : Nat) : Bool :=
  match (s.port d p).timed with
  | [] => true
  | (_, l) :: _ =>
    !s.bit (R.TQ_CTRL d p) F.TQ_CTRL_GUARD_EN || s.reached l ||
      decide (blocksOf len * 128 ≤ s.ahead l * 100 * s.txLanes d p)

/-! ## Eligibility (R199) -/

/-- Head frame of a class queue that can be sent: all its cells have arrived, and no frame of the class that was cut through
waits ahead of it. -/
def State.headFrame (s : State) (d p t : Nat) : Option Nat :=
  match (s.port d p).queue t with
  | [] => none
  | id :: _ =>
    if (s.frm id).arrived && !(s.port d p).cutWait.any fun c => (s.frm c).tc == t then some id else none

/-- A class queue is eligible but for its shaper. -/
def State.eligibleNoShaper (s : State) (d p t : Nat) : Bool :=
  match s.headFrame d p t with
  | none => false
  | some id => !s.paused d p t && s.guardOk d p (hLen (s.frm id).frame.hdr)

/-- A class queue is eligible. -/
def State.eligible (s : State) (d p t : Nat) : Bool := s.eligibleNoShaper d p t && s.shaperOk d p t

/-! ## Sending -/

/-- A held frame counts in CORE_COUNT index 8 when it is sent (R191). -/
def noteHeldSent (s : State) (d p id : Nat) : State :=
  if (s.frm id).wasHeld then (s.updFrm id fun x => { x with wasHeld := false }).coreCount d p 8 else s

/-- Start a frame on a port's transmitter: its blocks go to the data slots, it is mirrored, and it stands in transmission. A whole
frame leaves; one still arriving leaves when its last cell has come. -/
def startTx (s : State) (d p id : Nat) : State :=
  let f := s.frm id
  let g := sentFrame f
  let s1 := (noteHeldSent s d p id).updPort d p fun x => { x with tx := some id, txStream := x.txStream ++ f.headBlocks }
  let s2 := if f.whole then s1.emit (.frame d p g) else s1.updFrm id fun x => { x with late := true }
  mirrorTx s2 d p g.hdr { f with frame := g }.body f.tc f.colour

/-- The transmitter has ended its frame: its cells are free. -/
def endTx (s : State) (d p : Nat) : State :=
  match (s.port d p).tx with
  | none => s
  | some id =>
    discardFrame ((s.updPort d p fun x => { x with tx := none }).updFrm id fun x => { x with sent := true }) id

/-- The transmitter can start a frame: none in transmission, or the one there is complete. -/
def State.txFree (s : State) (d p : Nat) : Bool :=
  match (s.port d p).tx with
  | none => true
  | some id => ((s.frm id).whole && (s.frm id).arrived) || !(s.frm id).cut

/-- Charge a class queue's credit when frame id of it starts, and count a frame that had waited on credit (R201, R202). -/
def chargeStart (s : State) (d p t id : Nat) : State :=
  let s1 := s.setCredit d p t (s.creditNow d p t - (hLen (s.frm id).frame.hdr * 65536 : Nat))
  if sget (s.port d p).waited t 0 = id + 1 then
    (s1.updPort d p fun x => { x with waited := sput x.waited t 0 0 }).tmCount d p 2
  else s1

/-- Class queues whose head waits on credit alone while the port sends another frame (R202). -/
def noteWaits (s : State) (d p sent : Nat) : State :=
  (List.range 8).foldl (fun st t =>
    match s.headFrame d p t with
    | some id =>
      if t ≠ sent ∧ s.eligibleNoShaper d p t ∧ !s.shaperOk d p t then
        st.updPort d p fun x => { x with waited := sput x.waited t (id + 1) 0 }
      else st
    | none => st) s

/-! ## Deficit round robin (R200) -/

/-- Quantum of a class queue in bytes. -/
def State.quantum (s : State) (d p t : Nat) : Nat := s.fld (R.TM_QUEUE_CTRL d p t) F.TM_QUEUE_CTRL_QUANTUM * 64

/-- Level of a class queue. -/
def State.prio (s : State) (d p t : Nat) : Nat := s.fld (R.TM_QUEUE_CTRL d p t) F.TM_QUEUE_CTRL_PRIO

/-- Length of a class queue's head frame. -/
def State.headLen (s : State) (d p t : Nat) : Nat :=
  match s.headFrame d p t with
  | some id => hLen (s.frm id).frame.hdr
  | none => 0

/-- The turn of a level goes on: its queue is eligible and the head fits the deficit. -/
def State.turnGoesOn (s : State) (d p level : Nat) : Bool :=
  let cur := sget (s.port d p).turn level 0
  cur != 0 && s.prio d p (cur - 1) == level && s.eligible d p (cur - 1) &&
    decide (s.headLen d p (cur - 1) ≤ sget (s.port d p).deficit (cur - 1) 0)

/-- The class of a level that sends next, and the port with its round state moved: the turn in progress where it goes on; else
that turn is over, and the next eligible queue of the level begins one and gains its quantum. -/
def drrPick (s : State) (d p level : Nat) : Option Nat × Port :=
  let x := s.port d p
  let cur := sget x.turn level 0
  if s.turnGoesOn d p level then (some (cur - 1), x)
  else
    let start := if cur ≠ 0 then cur else sget x.rr level 0
    let order := (List.range 8).map fun i => (start + i) % 8
    match order.find? fun t => s.prio d p t = level && s.eligible d p t with
    | none => (none, if cur = 0 then x else { x with turn := sput x.turn level 0 0, rr := sput x.rr level (cur % 8) 0 })
    | some t =>
      (some t, { x with deficit := supd x.deficit t 0 (· + s.quantum d p t), turn := sput x.turn level (t + 1) 0,
                        rr := sput x.rr level ((t + 1) % 8) 0 })

/-- Take the head of a class queue for sending: its deficit falls by the frame's length, or to 0 where the queue
empties. -/
def takeHead (x : Port) (t len : Nat) : Port :=
  let q := (x.queue t).tail
  let y := x.setQueue t q
  if q.isEmpty then
    { y with deficit := sput y.deficit t 0 0, turn := y.turn.filter fun e => e.2 != t + 1 }
  else { y with deficit := supd y.deficit t 0 (· - len) }

/-- Send the head frame of a class queue. -/
def sendClass (s : State) (d p t id : Nat) : State :=
  let s1 := (noteWaits s d p t).updPort d p fun x => takeHead x t (hLen (s.frm id).frame.hdr)
  let s2 := (chargeStart s1 d p t id).tmCount d p 0
  startTx (if (s.frm id).marked then s2.tmCount d p 1 else s2) d p id

/-- Send a due timed frame: on time or late (R112). -/
def sendTimed (s : State) (d p id l : Nat) : State :=
  let late := s.reached (l + s.fld (R.TQ_CTRL d p) F.TQ_CTRL_LATE_NS + 1)
  let s1 := noteWaits s d p 8
  startTx ((s1.updPort d p fun x => { x with timed := x.timed.tail }).tqCount d p (if late then 1 else 0)) d p id

/-- The first level, from `n - 1` downward, that can send: its class, and the state with the round states moved. -/
def pickLevel (d p : Nat) : Nat → State → Option Nat × State
  | 0, s => (none, s)
  | n + 1, s =>
    match drrPick s d p n with
    | (some t, x) => (some t, s.setPort d p x)
    | (none, x) => pickLevel d p n (s.setPort d p x)

/-- A frame cut through to a port's transmitter can start: as for a class frame, its class not paused, its credit not negative,
the guard of R112 kept. -/
def State.cutReady (s : State) (d p id : Nat) : Bool :=
  let f := s.frm id
  !s.paused d p f.tc && s.shaperOk d p f.tc && s.guardOk d p (hLen f.frame.hdr)

/-- The first frame that was cut through and can start; frames of one class keep their order. -/
def State.cutNext (s : State) (d p : Nat) : Option Nat :=
  let q := (s.port d p).cutWait
  q.find? fun id => s.cutReady d p id && (q.find? fun c => (s.frm c).tc == (s.frm id).tc) == some id

/-- Start a frame that was cut through: charged to its class's credit (R201). -/
def startCut (s : State) (d p id : Nat) : State :=
  let s1 := (noteWaits s d p (s.frm id).tc).updPort d p fun x => { x with cutWait := x.cutWait.filter (· != id) }
  startTx (chargeStart s1 d p (s.frm id).tc id) d p id

/-- EGRESS_SCHEDULE: the transmitter can start a frame; the due timed frame, a frame that was cut through to it, or one by
priority and DRR is sent (R181, R199). -/
def doEgressSchedule (d p : Nat) (s : State) : State :=
  if s.portUp d p && s.txFree d p && !s.noStart d p then
    let s1 := settleTimed (endTx s d p) d p
    match s1.timedDue d p with
    | some (id, l) => sendTimed s1 d p id l
    | none =>
      match s1.cutNext d p with
      | some id => startCut s1 d p id
      | none =>
        match pickLevel d p 8 s1 with
        | (none, s2) => s2
        | (some t, s2) =>
          match s2.headFrame d p t with
          | some id => sendClass s2 d p t id
          | none => s2
  else s

def execEgressSchedule (d : Fin 8) (p : Fin 128) (s : State) : Result := .next (doEgressSchedule d.val p.val s)

/-- TIMED_LAUNCH: the head of the timed queue reaches its launch time. It is sent ahead of class frames where the
transmitter is free; frames whose port was down at their launch time, or that have waited too long, are dropped first
(R112). -/
def doTimedLaunch (d p : Nat) (s : State) : State :=
  let s1 := settleTimed s d p
  match s1.timedDue d p with
  | none => s1
  | some (id, l) =>
    if s1.portUp d p && s1.txFree d p && !s1.noStart d p then sendTimed (endTx s1 d p) d p id l else s1

def execTimedLaunch (d : Fin 8) (p : Fin 128) (s : State) : Result := .next (doTimedLaunch d.val p.val s)

/-- TIMED_DROP: the frames still waiting at L + DROP_US are dropped and counted in index 2 (R112). -/
def doTimedDrop (d p : Nat) (s : State) : State := settleTimed s d p

def execTimedDrop (d : Fin 8) (p : Fin 128) (s : State) : Result := .next (doTimedDrop d.val p.val s)

/-! ## Registers -/

/-- A write of TM_SHAPER: the credit becomes BURST where EN goes from 0 to 1, and is clipped to the new BURST (R202). BURST below 37 and
RATE above 16,000 are ignored (R213). -/
def writeShaper (d p t : Nat) (v : Word) (s : State) : State :=
  let r := R.TM_SHAPER d p t
  let was := s.bit r F.TM_SHAPER_EN
  let c := s.creditNow d p t
  let s1 := setInRange s r F.TM_SHAPER_BURST v 37 65535
  let s2 := setInRange s1 r F.TM_SHAPER_RATE v 0 16000
  let s3 := s2.setF r F.TM_SHAPER_EN (F.TM_SHAPER_EN.get v)
  let cap : Int := (burstUnits (s3.fld r F.TM_SHAPER_BURST) : Nat)
  s3.setCredit d p t (if !was && s3.bit r F.TM_SHAPER_EN then cap else min c cap)

/-- SHAPER_WRITE. -/
def execShaperWrite (d : Fin 8) (p : Fin 130) (t : Fin 8) (v : Word) (s : State) : Result :=
  .next (writeShaper d.val p.val t.val v s)

/-- The configuration that word 0 would enable is refused (R207). -/
def policerBad (i : Nat) (v : Word) (s : State) : Bool :=
  decide (s.fld (R.POLICER_CFG1 0 i) F.POLICER_CFG1_PIR < F.POLICER_CFG0_CIR.get v) ||
  decide (s.fld (R.POLICER_CFG1 0 i) F.POLICER_CFG1_CBS < 37) ||
  decide (s.fld (R.POLICER_CFG2 0 i) F.POLICER_CFG2_PBS < 37) ||
  F.POLICER_CFG0_YELLOW_ACT.get v == 3 || F.POLICER_CFG0_RED_ACT.get v == 3

/-- A write of POLICER_CFG word 0, replicated to all dies: EN refused stays 0 and sets POLICER_REFUSED; EN going from 0
to 1 fills both buckets on every die (R205, R207). -/
def writePolicer0 (i : Nat) (v : Word) (s : State) : State :=
  let r := R.POLICER_CFG0 0 i
  let was := s.bit r F.POLICER_CFG0_EN
  let keep := v &&& 0xFF003FFF#32
  if F.POLICER_CFG0_EN.get v = 1 ∧ policerBad i v s then
    let s1 := s.wr r (F.POLICER_CFG0_EN.put keep 0)
    (List.range 8).foldl (fun t d => setEvent t 62 (R.TM_EVENT d) F.TM_EVENT_POLICER_REFUSED) s1
  else
    let s0 := (List.range 8).foldl (fun t d => t.setBucket d i (s.bucketNow d i)) s
    let s1 := s0.wr r keep
    if !was && F.POLICER_CFG0_EN.get v == 1 then
      (List.range 8).foldl (fun t d => t.setBucket d i
        { tp := burstUnits (s.fld (R.POLICER_CFG2 0 i) F.POLICER_CFG2_PBS),
          tc := burstUnits (s.fld (R.POLICER_CFG1 0 i) F.POLICER_CFG1_CBS), at_ := s.cycle }) s1
    else s1

/-- POLICER_ENABLE_WRITE. -/
def execPolicerEnableWrite (i : Fin 8704) (v : Word) (s : State) : Result := .next (writePolicer0 i.val v s)

end Sys2Proof.Machine
end

