-- ==== Sys2Proof/Machine/Lookup.lean ====
section
/-! DEFINITION. Resolving a frame: the three tables, the checks around them, and acting on the result (R141 to R159, R181,
R206). -/

namespace Sys2Proof.Machine

/-! ## Override table (R148) -/

/-- Hash i of a key with its seed: CRC-32C over the key's four bytes with initial value OVR_SEED_i. -/
def ovrHash (s : State) (i key : Nat) : Nat := crcFrom (s.rd (R.OVR_SEED 0 i)).toNat (beBytes key 4)

/-- Bucket of half i for a key. -/
def ovrBucket (s : State) (i key : Nat) : Nat := ovrHash s i key % 65536

/-- Location of way w of bucket b of half i. -/
def ovrLoc (i b w : Nat) : Nat := i * 262144 + b * 4 + w

/-- Locations a lookup of a key reads: both buckets and the whole stash. -/
def ovrCands (s : State) (key : Nat) : List Nat :=
  (List.range 4).map (ovrLoc 0 (ovrBucket s 0 key)) ++ (List.range 4).map (ovrLoc 1 (ovrBucket s 1 key)) ++
    (List.range 64).map (524288 + ·)

/-- Location at which a slot holds a key. -/
def ovrFind (s : State) (g key : Nat) : Option Nat :=
  (ovrCands s key).find? fun l => s.tword g (tblLoc 1 l) 0 == key && key != 0

/-! ## Roaming ranges (R157) -/

/-- An address lies in enabled roaming range r: its LEN leading bits are ADDR's. -/
def inRange (s : State) (r a : Nat) : Bool :=
  let len := s.activeF (R.LEARN_RANGE_CTRL 0 r) F.LEARN_RANGE_CTRL_LEN
  s.activeF (R.LEARN_RANGE_CTRL 0 r) F.LEARN_RANGE_CTRL_EN == 1 && decide (1 ≤ len) && decide (len ≤ 32) &&
    (s.rdActive (R.LEARN_RANGE_ADDR 0 r)).toNat / 2 ^ (32 - len) == a / 2 ^ (32 - len)

def roaming (s : State) (a : Nat) : Bool := (List.range 16).any fun r => inRange s r a

/-! ## The answers of the tables -/

/-- What a table answers: a result word, a miss, or a parity error at a location. -/
inductive TableAns where
  | hit (result : Nat)
  | miss
  | parity (loc : Nat)
  deriving DecidableEq, Repr

/-- The first of some locations of a slot that carries a parity error on a die. -/
def firstMarked (s : State) (d g : Nat) (locs : List Nat) : Option Nat :=
  if s.tabs.marks.isEmpty then none else locs.find? fun l => s.marked d g l

/-- The override table's answer (R148, R159). -/
def ovrLookup (s : State) (d g key : Nat) : TableAns :=
  match firstMarked s d g ((ovrCands s key).map (tblLoc 1)) with
  | some l => .parity l
  | none =>
    match ovrFind s g key with
    | none => .miss
    | some l => if rsValid (s.tword g (tblLoc 1 l) 1) then .hit (s.tword g (tblLoc 1 l) 1) else .miss

/-- The destination lies in the native block (R144). -/
def inNative (s : State) (a : Nat) : Bool :=
  let f := fun x => s.activeF (R.NATIVE_BLOCK 0) x
  f F.NATIVE_BLOCK_EN == 1 &&
    (aPart a &&& f F.NATIVE_BLOCK_PART_MASK) == (f F.NATIVE_BLOCK_PART &&& f F.NATIVE_BLOCK_PART_MASK) &&
    (aPod a &&& f F.NATIVE_BLOCK_POD_MASK) == (f F.NATIVE_BLOCK_POD &&& f F.NATIVE_BLOCK_POD_MASK)

/-- The direct table's answer (R151). -/
def directLookup (s : State) (d g a : Nat) : TableAns :=
  let l := tblLoc 2 (aPodLeaf a)
  if s.marked d g l then .parity l
  else if rsValid (s.tword g l 0) then .hit (s.tword g l 0) else .miss

/-- Stride of a trie stage, and the address bits below it (Table 6.5). -/
def trieStride (k : Nat) : Nat := if k ≤ 2 then 8 else 4
def trieShift (k : Nat) : Nat :=
  match k with
  | 1 => 24 | 2 => 16 | 3 => 12 | 4 => 8 | 5 => 4 | _ => 0

/-- Location of the entry of a node that an address selects at stage k. -/
def trieLoc (k node a : Nat) : Nat :=
  tblLoc (k + 2) (node * 2 ^ trieStride k + a / 2 ^ trieShift k % 2 ^ trieStride k)

/-- The walk of R153 from stage k on, for `n` stages, with the best result so far. -/
def trieWalk (s : State) (d g a : Nat) : Nat → Nat → Nat → TableAns → TableAns
  | 0, _, _, best => best
  | n + 1, k, node, best =>
    let l := trieLoc k node a
    if s.marked d g l then .parity l
    else
      let r := s.tword g l 0
      let c := s.tword g l 1
      let b := if rsValid r then .hit r else best
      if c.testBit 31 && k != 6 then trieWalk s d g a n (k + 1) (c % 16384) b else b

def trieLookup (s : State) (d g a : Nat) : TableAns := trieWalk s d g a 6 1 0 .miss

/-! ## Resolution (R143) -/

/-- Where a result came from. -/
inductive Source where
  | override | direct | trie | flood
  deriving DecidableEq, Repr

/-- Take a table's answer: a hit ends the search, a parity error is counted and is a miss. -/
def takeAns (d ll g : Nat) (src : Source) (idx : Nat) (a : TableAns) (s : State) : Option (Nat × Source) × State :=
  match a with
  | .hit r => (some (r, src), s.lookupCount d ll idx)
  | .miss => (none, s)
  | .parity l => (none, parityMiss s d ll g l)

/-- Resolve a destination under generation bit g: override, flood, direct, trie. A flood is shown as result 0. -/
def resolve (s : State) (d ll g dest : Nat) : Option (Nat × Source) × State :=
  match takeAns d ll g .override 1 (ovrLookup s d g dest) s with
  | (some r, s1) => (some r, s1)
  | (none, s1) =>
    if roaming s dest then (some (0, .flood), s1)
    else
      let (r2, s2) := if inNative s dest then takeAns d ll g .direct 2 (directLookup s d g dest) s1 else (none, s1)
      match r2 with
      | some r => (some r, s2)
      | none => takeAns d ll g .trie 3 (trieLookup s d g dest) s2

/-- The ingress partition check fails (R143, R161). -/
def ingressBad (s : State) (f : FrameRec) : Bool :=
  let src := aPart (hSrc f.frame.hdr)
  if f.origin ≠ .port ∨ s.isTrunk f.inDie f.inPort then false
  else
    let q := s.portPart f.inDie f.inPort
    let w := if src < 32 then (s.rdActive (R.PARTITION_BRIDGE 0 q)).toNat
      else (s.rdActive (R.PARTITION_BRIDGE_HI 0 q)).toNat
    src != q && !w.testBit (src % 32)

/-- The frame is fenced: its source or destination partition, or its dark ingress port (R162). -/
def frameFenced (s : State) (f : FrameRec) : Bool :=
  s.fenced (aPart (hSrc f.frame.hdr)) || s.fenced (aPart (hDest f.frame.hdr)) ||
    (f.origin == .port && s.portDark f.inDie f.inPort)

/-- A roaming source is to be learned: it has no entry, or a ROAMING one whose result is not the ingress port (R157). -/
def wantsLearn (s : State) (f : FrameRec) (src : Nat) : Bool :=
  match ovrFind s s.genBit src with
  | none => true
  | some l =>
    let e := s.entry s.genBit (tblLoc 1 l)
    let r := entryWord e 1
    (entryWord e 2).testBit 31 && !(rsDirect r && rsDie r == f.inDie && rsPort r == f.inPort)

/-- A learn request for a frame from a roaming source (R157). A parity error that the check meets leaves the table as missing
(R159). -/
def learnCheck (s : State) (d ll : Nat) (f : FrameRec) : State :=
  let src := hSrc f.frame.hdr
  if f.origin ≠ .port ∨ !roaming s src then s
  else
    let k := d * 16 + ll
    let last := sget s.tabs.checked k 0
    if last ≠ 0 ∧ s.cycle < last - 1 + 16 then s
    else
      let s1 : State := { s with tabs := { s.tabs with checked := sput s.tabs.checked k (s.cycle + 1) 0 } }
      let bad := firstMarked s d s.genBit ((ovrCands s src).map (tblLoc 1))
      let s2 := match bad with
        | some l => parityMiss s1 d ll s.genBit l
        | none => s1
      if bad.isNone && !wantsLearn s f src then s2
      else if s2.tabs.learn.length < 16 then
        { s2 with tabs := { s2.tabs with learn := s2.tabs.learn ++ [⟨src, f.inDie, f.inPort, ll⟩] } }
      else s2.lookupCount d ll 11

/-! ## Acting on the result -/

/-- A type not allowed in its class: YFP_COUNT index 9 of the ingress port, or LOOKUP_COUNT index 13 for a frame
without one (R63). -/
def classDrop (s : State) (d ll id : Nat) : State :=
  let f := s.frm id
  if f.origin = .port then discardFrame (dropYfpRec s 9 f) id
  else lookupDrop s d ll 13 id

/-- Hand a frame to its service on the die of its knot's home (R31); a knot without a home stays on this die. A die that
has sent its drain marker drops the knot's frames (R285). -/
def toService (s : State) (d id service : Nat) : State :=
  let k := hKnot (s.frm id).frame.hdr
  let h := (s.knotHome k).getD (d * 16)
  if (s.knot k).state = 2 then discardFrame (s.knotCount (h / 16) 1) id
  else handOn (s.updFrm id fun x => { x with service := service, outDie := h / 16, outQ := h % 16 }) id

/-- An earlier frame of the same flow, by source, destination, channel and traffic class, still waits to be admitted for the
port or is held for it: on an ORDERED or MANAGEMENT channel a later one may not overtake it (R64). -/
def flowWaits (s : State) (id : Nat) : Bool :=
  let f := s.frm id
  (f.cls == 0 || f.cls == 3) &&
    (waitingFor s f.outDie f.outPort ++ (s.port f.outDie f.outPort).held).any fun w =>
      let g := (s.frm w).frame.hdr
      hSrc g == hSrc f.frame.hdr && hDest g == hDest f.frame.hdr && hChannel g == hChannel f.frame.hdr &&
        hTc g == hTc f.frame.hdr

/-- The cut-through conditions of Table 7.2 for a frame and its egress port, and R64. -/
def canCut (s : State) (id : Nat) : Bool :=
  let f := s.frm id
  let d := f.outDie
  let p := f.outPort
  f.origin == .port && decide (p < 128) && s.portUp d p && ((s.port d p).queue f.tc).isEmpty &&
    s.bit (R.CT_CTRL f.inDie) F.CT_CTRL_EN && s.bit (R.CT_CTRL d) F.CT_CTRL_EN &&
    !s.paused d p f.tc &&
    decide (s.txLanes d p ≤ if f.inPort < 128 then s.rxLanes f.inDie f.inPort else 1) &&
    (f.inDie == d || s.nextDie f.inDie d f == some d) &&
    s.guardOk d p (hLen f.frame.hdr) && s.shaperOk d p f.tc && !flowWaits s id

/-- CUT_THROUGH: the frame goes to its egress transmitter directly, and starts at once where that is idle (R181). -/
def cutThrough (s : State) (id : Nat) : State :=
  let f := s.frm id
  let d := f.outDie
  let p := f.outPort
  let s1 := freeStage (s.updFrm id fun x => { x with cut := true }) id
  let s2 := ((startCrossing s1 id).coreCount d p 0).updPort d p fun x => { x with cutWait := x.cutWait ++ [id] }
  if (s.port d p).tx.isNone && !s.noStart d p && s2.cutNext d p == some id then startCut s2 d p id else s2

/-- Cut a frame through where that is allowed, else offer it for storing. -/
def cutOrStore (s : State) (id : Nat) : State := if canCut s id then cutThrough s id else handOn s id

/-- Send a frame to one member of an ordered choice: lanyard ports are never one (R62, R156, R161). -/
def orderedTo (s : State) (d ll id : Nat) (m : Nat × Nat) : State :=
  let f := s.frm id
  if 128 ≤ m.2 then noCandidate s id [m]
  else if !s.egressOk m.1 m.2 (aPart (hDest f.frame.hdr)) then lookupDrop s d ll 8 id
  else cutOrStore (s.updFrm id fun x => { x with outDie := m.1, outPort := m.2 }) id

/-- Spray a frame among members (R188), with the egress check on the chosen one (R161). -/
def sprayTo (s : State) (d ll id : Nat) (members : List (Nat × Nat)) : State :=
  match sprayPlace s d ll id members with
  | (true, t) => cutOrStore t id
  | (false, t) => t

/-- One copy of a multicast frame for a member: none to the ingress port or to a port not up; the egress check counts in
index 8. The frame that it copies keeps its staging. -/
def copyTo (d ll o : Nat) (f : FrameRec) (s : State) (m : Nat × Nat) : State :=
  if (m.1 = f.inDie ∧ m.2 = f.inPort ∧ f.origin = .port) ∨ !candidate s f m then s
  else if !s.egressOk m.1 m.2 (aPart (hDest f.frame.hdr)) then dropLookup s d ll 8 f
  else
    let (id, s1) := s.addFrm { f with mcast := true, stage := 0, parent := o + 1, outDie := m.1, outPort := m.2,
                                      outQ := if 128 ≤ m.2 then lanQueueOf s f m.1 m.2 else 0 }
    handOn (s1.updFrm o fun x => { x with copies := x.copies + 1 }) id

/-- Replicate a frame to every up member (R156). It leaves staging when every copy is admitted (R177). -/
def multicast (s : State) (d ll id : Nat) (members : List (Nat × Nat)) : State :=
  let s1 := (members.foldl (copyTo d ll id (s.frm id)) s).updFrm id fun x => { x with sent := true }
  if (copiesOf s1 id).isEmpty then discardFrame s1 id else s1

/-- Position of the ordered member (R156). -/
def memberPos (s : State) (h : Header) (count : Nat) : Nat :=
  let b := beBytes (hDest h) 4 ++ beBytes (hSrc h) 4 ++ beBytes (hChannel h) 1
  crcFrom (s.rd (R.PS_HASH_SEED 0)).toNat b / 65536 * count / 65536

/-- A port set has a parity error: LOOKUP_COUNT index 6, the log, and the frame dropped with its DROP mirror (R159, R208). -/
def parityDrop (s : State) (d ll g loc id : Nat) : State :=
  let f := s.frm id
  discardFrame (mirrorDrop (parityMiss s d ll g loc) f.inDie f.inPort 1 6 f.frame.hdr f.body f.tc f.colour) id

/-- FORWARD or COPY to a port set (R155, R156, R159). -/
def toSet (s : State) (d ll g id set : Nat) : State :=
  let loc := tblLoc 9 set
  let e := s.entry g loc
  let f := s.frm id
  if s.marked d g loc then parityDrop s d ll g loc id
  else if !psUsable s e then lookupDrop s d ll 15 id
  else
    let s1 := s.updFrm id fun x => { x with portSet := set }
    if psMulticast e then multicast s1 d ll id (psMembers e)
    else if f.cls = 0 ∨ f.cls = 3 then
      orderedTo s1 d ll id ((psMembers e).getD (memberPos s f.frame.hdr (psCount e)) (0, 255))
    else sprayTo s1 d ll id (psMembers e)

/-- FORWARD or COPY to a named port. -/
def toPort (s : State) (d ll id dd pp : Nat) : State :=
  let f := s.frm id
  if !s.portExists dd pp then lookupDrop s d ll 15 id
  else if f.cls = 0 ∨ f.cls = 3 then orderedTo s d ll id (dd, pp)
  else sprayTo s d ll id [(dd, pp)]

/-- The colour's action on a frame (R206): drop it (TM_COUNT index), or pass it, with a class it is moved to. -/
inductive ColourAct where
  | pass | drop (i : Nat) | passCount (i : Nat) | remark (tc : Nat)
  deriving DecidableEq, Repr

/-- Table 8.3, first case that applies. -/
def colourAct (s : State) (f : FrameRec) (toSvc : Bool) : ColourAct :=
  if f.colour ≠ 1 ∧ f.colour ≠ 2 then .pass
  else
    let r := R.POLICER_CFG0 0 (policerOf f.inPort f.frame.hdr)
    let act := if f.colour = 1 then s.fld r F.POLICER_CFG0_YELLOW_ACT else s.fld r F.POLICER_CFG0_RED_ACT
    if f.lossless then .passCount 10
    else if act = 2 then .drop (if f.colour = 1 then 6 else 7)
    else if act = 1 ∧ (f.cls = 0 ∨ f.cls = 3) then .drop 9
    else if act = 1 ∧ toSvc then .pass
    else if act = 1 then .remark (s.fld r F.POLICER_CFG0_REMARK_TC)
    else .pass

/-- Act on a result after the class is fixed and the colour applied. -/
def actOn (s : State) (d ll g id r : Nat) (flood : Bool) : State :=
  let f := s.frm id
  if flood then
    let e := R.PARTITION_FLOOD 0 (aPart (hDest f.frame.hdr))
    toFlood (s.activeF e F.PARTITION_FLOOD_FLOOD_SET)
  else match rsAction r with
    | 0 => if rsDirect r then toPort s d ll id (rsDie r) (rsPort r) else toSet s d ll g id (rsSet r)
    | 1 => service 1
    | 2 => service 2
    | 3 => lookupDrop s d ll 5 id
    | 4 =>
      let s1 := mirrorCopy s d f
      if rsDirect r then toPort s1 d ll id (rsDie r) (rsPort r) else toSet s1 d ll g id (rsSet r)
    | _ => lookupDrop s d ll 15 id
where
  /-- TO_ENGINE and TO_HOLD (R69, R147); only HOLD_GATHER_REQ and HOLD_SCATTER enter the Hold (R320). -/
  service (k : Nat) : State :=
    let h := (s.frm id).frame.hdr
    if hVersion h = 0 then
      discardFrame (dropYfpRec s 12 (s.frm id)) id
    else if !typeForService (hType h) || (k == 2 && hType h != tGatherReq && hType h != tScatter) then
      lookupDrop s d ll 13 id
    else toService s d id k
  /-- Flood as a multicast of a port set (R158). -/
  toFlood (set : Nat) : State :=
    let e := s.entry g (tblLoc 9 set)
    if s.marked d g (tblLoc 9 set) then parityDrop s d ll g (tblLoc 9 set) id
    else if !psUsable s e then lookupDrop s d ll 15 id
    else multicast (s.updFrm id fun x => { x with portSet := set }) d ll id (psMembers e)

/-- A hit: class, colour, class check, action. -/
def afterHit (s : State) (d ll g id r : Nat) (src : Source) : State :=
  let f := s.frm id
  let h := f.frame.hdr
  let cls := if src ≠ .flood && rsClassOvr r then rsClass r else s.mapClass (aPart (hSrc h)) (hChannel h)
  let act := rsAction r
  let s1 := s.updFrm id fun x => { x with cls := cls, looked := true, epoch := g, pipe := ll }
  if src ≠ .flood ∧ act = 3 then lookupDrop s1 d ll 5 id
  else if src ≠ .flood ∧ 5 ≤ act then lookupDrop s1 d ll 15 id
  else if !typeAllowed cls (hType h) then classDrop s1 d ll id
  else match colourAct s1 (s1.frm id) (src ≠ .flood && (act == 1 || act == 2)) with
    | .pass => actOn s1 d ll g id r (src == .flood)
    | .drop i => discardFrame (dropTm s1 i (s1.frm id)) id
    | .passCount i => actOn (s1.tmCount f.inDie f.inPort i) d ll g id r (src == .flood)
    | .remark tc =>
      actOn ((s1.tmCount f.inDie f.inPort 8).updFrm id fun x =>
        { x with tc := tc, remarked := true, lossless := false }) d ll g id r (src == .flood)

/-- Look up one frame on pipe (d, ll) (R143). -/
def lookupFrame (s : State) (d ll id : Nat) : State :=
  let g := s.genBit
  let f := s.frm id
  let s1 := s.lookupCount d ll 0
  if ingressBad s f then lookupDrop s1 d ll 7 id
  else if frameFenced s f then lookupDrop s1 d ll 8 id
  else
    let s2 := learnCheck s1 d ll f
    match resolve s2 d ll g (hDest f.frame.hdr) with
    | (none, s3) => lookupDrop s3 d ll 4 id
    | (some (r, src), s3) =>
      if src = .flood then
        let e := R.PARTITION_FLOOD 0 (aPart (hDest f.frame.hdr))
        if s.activeF e F.PARTITION_FLOOD_EN = 1 then afterHit (s3.lookupCount d ll 12) d ll g id r src
        else lookupDrop s3 d ll 4 id
      else afterHit s3 d ll g id r src

/-! ## The backlog (R142) -/

/-- Backlog of a pipe. -/
def State.backlog (s : State) (d ll : Nat) : List Nat := sget (s.die d).backlog ll []
def State.setBacklog (s : State) (d ll : Nat) (q : List Nat) : State :=
  s.updDie d fun x => { x with backlog := sput x.backlog ll q [] }

/-- The pipe with the shortest backlog among `n` from `first`; the lowest on a tie. -/
def State.shortestPipe (s : State) (d first n : Nat) : Nat :=
  (List.range n).foldl (fun b i =>
    if (s.backlog d (first + i)).length < (s.backlog d b).length then first + i else b) first

/-- Pipe that looks up frames of a port: its group's; for a lanyard port the least loaded of its half (Table 6.1). -/
def State.pipeOf (s : State) (d p : Nat) : Nat :=
  if p < 128 then p / 8 else s.shortestPipe d ((p - 128) * 8) 8

/-- A frame that the device originates on die d comes to the pipe with the shortest backlog, or waits in its originator
(R142). -/
def originate (s : State) (d id : Nat) : State :=
  let ll := s.shortestPipe d 0 16
  if (s.backlog d ll).length < 4096 then flowPipe (s.setBacklog d ll (s.backlog d ll ++ [id])) d ll
  else s.updDie d fun x => { x with origWait := x.origWait ++ [id] }

/-- A copy for a named member port goes to that port unless the egress check keeps it away (R161, R303). A copy kept away counts in
the pipe that an originated frame would come to (DESIGN CHOICE, log entry 50). -/
def offerMember (s : State) (id : Nat) : State :=
  let f := s.frm id
  if s.egressOk f.outDie f.outPort (aPart (hDest f.frame.hdr)) then offerFrame s id
  else lookupDrop s f.inDie (s.shortestPipe f.inDie 0 16) 8 id

/-- Waiting originated frames enter a pipe that has room. -/
def pullOriginated (s : State) (d ll : Nat) : State :=
  match (s.die d).origWait with
  | [] => s
  | id :: rest =>
    if (s.backlog d ll).length < 4096 then
      (s.updDie d fun x => { x with origWait := rest }).setBacklog d ll (s.backlog d ll ++ [id])
    else s

/-- A frame can be looked up: it is whole, or its first cell is in staging and it is longer than a cell (R181). -/
def FrameRec.atPipe (f : FrameRec) : Bool := f.whole || decide (1 < cellsOf (hLen f.frame.hdr))

/-- The frame a pipe takes next: the first of its own group, else the first (R142). -/
def nextOfBacklog (s : State) (d ll : Nat) : Option Nat :=
  let q := (s.backlog d ll).filter fun id => (s.frm id).atPipe
  match q.find? fun id => (s.frm id).origin == .port && (s.frm id).inPort < 128 && (s.frm id).inPort / 8 == ll with
  | some id => some id
  | none => q.head?

/-- A pipe is retired, or band-suspect and in a band it is suspect in: pipe d.(ll xor 1) looks its group up (Table 13.11). -/
def State.pipeOut (s : State) (d ll : Nat) : Bool := s.isRetired 5 d ll || s.bandHeld 5 d ll

/-- Pipe ll of die d looks up the next frame of the backlog of pipe b. One not yet received whole is cut through or, placed, waits
for its end. -/
def lookupFrom (d ll b : Nat) (s : State) : State :=
  match nextOfBacklog s d b with
  | none => flowPipe (pullOriginated s d b) d b
  | some id =>
    let s1 := s.setBacklog d b ((s.backlog d b).filter (· != id))
    flowPipe (pullOriginated (lookupFrame s1 d ll id) d b) d b

/-- FRAME_LOOKUP: pipe (d, ll) resolves the next frame of its backlog; where its own group leaves it free and pipe ll xor 1 is out,
the next of that pipe's. A pipe that is out looks nothing up (Table 13.11). -/
def doFrameLookup (d ll : Nat) (s : State) : State :=
  if s.pipeOut d ll then s
  else if (nextOfBacklog s d ll).isNone && s.pipeOut d (ll ^^^ 1) then lookupFrom d ll (ll ^^^ 1) s
  else lookupFrom d ll ll s

def execFrameLookup (d : Fin 8) (ll : Fin 16) (s : State) : Result := .next (doFrameLookup d.val ll.val s)

end Sys2Proof.Machine
end

