-- ==== Sys2Proof/Machine/Engine.lean ====
section
/-! DEFINITION. A splice engine: registers and memories as a program sees them (R218 to R230), its counters and tagging (R243
to R247), frames the device builds for a knot (R302), and the end or abort of a dispatch (R238 to R240, R275, R452). -/

namespace Sys2Proof.Machine

/-! ## Registers (R218, R230) -/

def Core.getX (c : Core) (n : Nat) : Nat := if n = 0 then 0 else sget c.x n 0
def Core.getV (c : Core) (n : Nat) : Nat := sget c.v n 0
def Core.getW (c : Core) (n : Nat) : Nat := sget c.w n 0
def Core.getP (c : Core) (n : Nat) : Nat := sget c.p n 0

/-- Write the bits of a mask into a register; `x0` ignores writes. -/
def Core.put (c : Core) (d : Dst) (mask val : Nat) : Core :=
  match d with
  | .x n => if n = 0 then c else { c with x := supd c.x n 0 fun o => merge mask val o % 2 ^ 64 }
  | .v n => { c with v := supd c.v n 0 fun o => merge mask val o % 2 ^ 1024 }
  | .w n => { c with w := supd c.w n 0 fun o => merge mask val o % 2 ^ 6144 }
  | .p n => { c with p := supd c.p n 0 fun o => merge mask val o % 2 ^ 64 }

/-- All bits of a register. -/
def Dst.full (d : Dst) : Nat :=
  match d with
  | .x _ => ones 64 | .v _ => ones 1024 | .w _ => ones 6144 | .p _ => ones 64

/-- A register write is due at braid n, with the engine cycle at lc. -/
def PendW.isDue (n lc : Nat) (p : PendW) : Bool := if p.byCycle then decide (p.due ≤ lc) else decide (p.due ≤ n)

/-- Engine cycle at which a write completes, seen from braid n at cycle lc: a write due at a later braid completes as many
cycles on. -/
def PendW.done (n lc : Nat) (p : PendW) : Nat := if p.byCycle then p.due else lc + (p.due - n)

/-- The order in which writes land: the one that completes first, and in one cycle the earlier slot (R230). -/
def PendW.rank (n lc : Nat) (p : PendW) : Nat := 8 * p.done n lc + p.slot

/-- Make register writes in the order of R230. -/
def Core.land (c : Core) (n lc : Nat) (ps : List PendW) : Core :=
  (ps.insertionSort fun a b => a.rank n lc ≤ b.rank n lc).foldl (fun c p => c.put p.dst p.mask p.val) c

/-- Make the register writes that are due (R230). -/
def Core.commitRegs (c : Core) (n lc : Nat) : Core :=
  Core.land { c with pend := c.pend.filter fun p => !p.isDue n lc } n lc (c.pend.filter (PendW.isDue n lc))

/-- Make the state SRAM stores that are due at braid n. -/
def Core.commitStores (c : Core) (n : Nat) : Core :=
  let go := c.stores.filter fun p => decide (p.due ≤ n)
  go.foldl (fun c p => p.cells.foldl (fun c b => { c with sram := sput c.sram b.1 b.2 0 }) c)
    { c with stores := c.stores.filter fun p => decide (n < p.due) }

/-- Everything due. -/
def Core.commit (c : Core) (n lc : Nat) : Core := { (c.commitRegs n lc).commitStores n with braid := n, cycle := lc }

/-- Every write on its way lands. -/
def Core.drain (c : Core) : Core :=
  (Core.land { c with pend := [] } c.braid c.cycle c.pend).commitStores ((c.stores.map (·.due)).foldl max 0)

/-- Bytes of the state SRAM and of packet staging. -/
def Core.ramGet (c : Core) (a n : Nat) : Bytes := sgets c.sram a n 0
def Core.ramPut (c : Core) (a : Nat) (b : Bytes) : Core := { c with sram := sputs c.sram a b 0 }
def Core.stageGet (c : Core) (a n : Nat) : Bytes := sgets c.stage a n 0
def Core.stagePut (c : Core) (a : Nat) (b : Bytes) : Core := { c with stage := sputs c.stage a b 0 }

/-- What the slots of the braid in progress read: the state at its start (R229). -/
def Engine.view (g : Engine) : Core := g.hist.headD g.core

/-- The guard value of a word: none where it is unconditional (R253). -/
def guardVal (c : Core) (w : Word128) : Option Nat :=
  if w.gp = 0 ∧ !w.gn then none
  else
    let p := c.getP w.gp % 2 ^ 64
    some (if w.gn then ones 64 - p else p)

/-- The operation of a P, M, S or C slot executes. -/
def guardOn (c : Core) (w : Word128) : Bool :=
  match guardVal c w with
  | none => true
  | some g => g.testBit 0

/-- Mask of the lanes of width b that a guard covers in one register. -/
def laneMask (c : Core) (w : Word128) (b : Nat) : Nat :=
  match guardVal c w with
  | none => ones 1024
  | some g => guardMask g b (1024 / b)

/-- Queue a register write of latency l braids. -/
def Engine.later (g : Engine) (k l : Nat) (d : Dst) (mask val : Nat) : Engine :=
  { g with core := { g.core with pend := g.core.pend ++ [⟨false, g.count + l, k, d, mask, val⟩] } }

/-- Queue an interlocked register write that is ready `l` cycles after issue (R231). -/
def Engine.laterCycle (g : Engine) (k l : Nat) (sUnit : Bool) (d : Dst) (mask val : Nat) : Engine :=
  { g with core := { g.core with pend := g.core.pend ++ [⟨true, g.lc + l, k, d, mask, val⟩] },
           busy := g.busy ++ [⟨some d, 0, g.lc + l, sUnit⟩] }

/-- Sum x[RA] + IMM, modulo 2^64. -/
def addrOf (c : Core) (w : Word128) : Nat := (c.getX w.ra + w.imm) % 2 ^ 64

/-! ## Partitions (R222, R223) -/

/-- Offset and size of a partition of a layout (Table 9.4). -/
def partition (layout n : Nat) : Option (Nat × Nat) :=
  let k := 0x40000
  match layout with
  | 0 => if n < 6 then some (n * k, k) else none
  | 1 => if n < 3 then some (n * 2 * k, 2 * k) else none
  | 2 => if n = 0 then some (0, 4 * k) else if n = 1 then some (4 * k, k) else if n = 2 then some (5 * k, k) else none
  | _ => if n = 0 then some (0, 4 * k) else if n = 1 then some (4 * k, 2 * k) else none

/-- Layout of an engine. -/
def State.layout (s : State) (e : Nat) : Nat := s.fld (engReg R.ENGINE_PART_CTRL e) F.ENGINE_PART_CTRL_LAYOUT

/-- The partition of a knot on an engine. -/
def State.partOf (s : State) (e k : Nat) : Nat × Nat := (partition (s.layout e) (s.knot k).part).getD (0, 0)

/-- The state SRAM address of n bytes at a partition offset, where they lie in the partition (R222). -/
def ramAddr (p : Nat × Nat) (a n : Nat) : Option Nat := if a + n ≤ p.2 then some (p.1 + a) else none

/-- Lane form of the windows of a knot, by its FORMAT: the sparse formats pass their vectors as BF16 or FP32 (R264, R265). -/
def winFormat (k : Knot) : Nat := if k.format = 11 then 1 else if k.format = 12 then 0 else min k.format 10

/-! ## Packet staging (R222, R255, R256) -/

/-- First byte of the transmit area and end of staging. -/
def txBase : Nat := 0x18000
def stageEnd : Nat := 0x20000

/-- The frame whose first cell is c. -/
def Engine.rxAt (g : Engine) (c : Nat) : Option RxFrame := g.rx.find? (·.cell == c)

/-- Bytes that the dispatch may address: its frame's cells, acquired frames, the transmit area. -/
def Engine.spans (g : Engine) : List (Nat × Nat) :=
  match g.disp with
  | none => []
  | some d =>
    (txBase, 0x8000) :: (((if d.kind = 0 then [d.cell] else []) ++ d.acq).filterMap g.rxAt).map fun f =>
      (f.cell * 256, f.cells * 256)

/-- Every one of n bytes at staging offset a may be addressed. -/
def Engine.stageOk (g : Engine) (a n : Nat) : Bool :=
  (List.range n).all fun i => g.spans.any fun r => decide (r.1 ≤ a + i) && decide (a + i < r.1 + r.2)

/-- n bytes at a lie in the transmit area. -/
def inTx (a n : Nat) : Bool := decide (txBase ≤ a) && decide (a + n ≤ stageEnd)

/-- Bytes of staging as PLD sees them: 0 beyond the stated length of a frame in the receive area. -/
def Engine.stageRead (g : Engine) (c : Core) (a n : Nat) : Bytes :=
  (List.range n).map fun i =>
    let b := a + i
    if g.rx.any fun f => decide (f.cell * 256 + hLen f.hdr ≤ b) && decide (b < (f.cell + f.cells) * 256) then 0
    else sget c.stage b 0

/-- A sent frame has not left the transmit area: it has not arrived at its egress, or a copy of it has not. -/
def State.notLeft (s : State) (id : Nat) (f : FrameRec) : Bool :=
  match copiesOf s id with
  | [] => !f.arrived
  | cs => cs.any fun i => !(s.frm i).arrived

/-- Frames an engine has sent whose cells have not left the transmit area. -/
def State.txFrames (s : State) (e : Nat) : List (Nat × FrameRec) :=
  s.frames.filterMap fun x => match x.2 with
    | some f => if f.engine = e ∧ f.txCells ≠ 0 ∧ f.parent = 0 ∧ s.notLeft x.1 f then some (x.1, f) else none
    | none => none

/-- Some of n bytes at staging offset a belong to a send (R256). -/
def State.txBusy (s : State) (e a n : Nat) : Bool :=
  (s.txFrames e).any fun f => decide (f.2.txCell * 256 < a + n) && decide (a < (f.2.txCell + f.2.txCells) * 256)

/-- Swap code of R256: reverse the bytes of groups of 2^sw bytes. -/
def swapBytes (sw : Nat) (b : Bytes) : Bytes :=
  (List.range b.length).map fun i => b.getD (i / 2 ^ sw * 2 ^ sw + (2 ^ sw - 1 - i % 2 ^ sw)) 0

/-! ## Programmable counters (R244, R245) -/

/-- Counter i of an engine moves by n while braid pc issues. -/
def pmcBump (e n pc : Nat) (s : State) (i : Nat) : State :=
  let lo := R.ENGINE_PMC (e / 16) (e % 16) i
  let hi := R.ENGINE_PMC_HI (e / 16) (e % 16) i
  let c := R.ENGINE_PMC_CTRL (e / 16) (e % 16) i
  let t := s.rd64 lo hi % 2 ^ 48 + n
  let s1 := s.wr64 lo hi (t % 2 ^ 48)
  if t < 2 ^ 48 then s1
  else
    let st := engReg R.ENGINE_PMC_STATUS e
    let s2 := s1.setF st F.ENGINE_PMC_STATUS_OVF (setMaskBit (s1.fld st F.ENGINE_PMC_STATUS_OVF) i true)
    let s3 := (s2.setBit (engReg R.ENGINE_PMC_PC e) F.ENGINE_PMC_PC_VALID).setF (engReg R.ENGINE_PMC_PC e)
      F.ENGINE_PMC_PC_PC pc
    let s4 := engEvent s3 e F.ENGINE_EVENT_PMC_OVF
    if s.bit c F.ENGINE_PMC_CTRL_FREEZE_ALL then s4.setBit st F.ENGINE_PMC_STATUS_FROZEN else s4

/-- Event code ev of Table 9.12 happens n times in an engine. -/
def pmc (s : State) (e ev n : Nat) : State :=
  if n = 0 ∨ s.bit (engReg R.ENGINE_PMC_STATUS e) F.ENGINE_PMC_STATUS_FROZEN then s
  else
    ((List.range 8).filter fun i =>
      let c := R.ENGINE_PMC_CTRL (e / 16) (e % 16) i
      s.bit c F.ENGINE_PMC_CTRL_EN && s.fld c F.ENGINE_PMC_CTRL_EVENT == ev).foldl (pmcBump e n (s.eng e).pc) s

/-! ## Braid tagging (R246, R247) -/

/-- Words of a tag sample record (Table 9.13). -/
def tagWords (seq : Nat) (t : Tagged) : List Nat :=
  let rel := fun i => min 255 (t.entered.getD i 0 - t.f0)
  [2 ^ 31 + t.addr % 2048 * 2 ^ 20 + t.knot % 16384 * 64 + 32,
   t.cycle % 2 ^ 32,
   rel 0 * 2 ^ 24 + rel 1 * 2 ^ 16 + rel 2 * 256 + rel 3,
   rel 4 * 2 ^ 24 + rel 5 * 2 ^ 16 + t.slots * 256 + t.causes,
   t.before % 2 ^ 32, t.fab,
   (match t.m0 with | some l => 2 ^ 31 + l % 8192 * 2 ^ 16 | none => 0) +
     (match t.m1 with | some l => 2 ^ 15 + l % 8192 | none => 0),
   seq % 2 ^ 32]

/-- A tagged braid leaves W: its record is written, or lost where 256 are pending with MODE STOP (R247). -/
def tagWrite (s : State) (e : Nat) (t : Tagged) : State :=
  let st := engReg R.ENGINE_TAG_STATUS e
  let prod := s.fld st F.ENGINE_TAG_STATUS_PROD
  let cons := s.fld (engReg R.ENGINE_TAG_CONS e) F.ENGINE_TAG_CONS_CONS
  let pending := (prod + 65536 - cons) % 65536
  let seq := (s.eng e).tagSeq
  let s1 := s.updEng e fun g => { g with tagSeq := seq + 1, tagged := none }
  let s2 := if 256 ≤ pending then s1.count (engReg R.ENGINE_TAG_LOST e) else s1
  if 256 ≤ pending ∧ !s.bit (engReg R.ENGINE_TAG_CTRL e) F.ENGINE_TAG_CTRL_MODE then s2
  else
    let s3 := ((List.range 8).zip (tagWords seq t)).foldl
      (fun s x => s.wr (R.ENGINE_TAG_BUF (e / 16) (e % 16) (prod % 256) x.1) (BitVec.ofNat 32 x.2)) s2
    let s4 := s3.setF st F.ENGINE_TAG_STATUS_PROD ((prod + 1) % 65536)
    let th := s.fld (engReg R.ENGINE_TAG_CTRL e) F.ENGINE_TAG_CTRL_IRQ_THRESH
    if th ≠ 0 ∧ pending + 1 = th then engEvent s4 e F.ENGINE_EVENT_TAG_THRESH else s4

/-- Seed of an engine's tagging generator. -/
def State.tagSeed (s : State) (e : Nat) : Nat :=
  let v := (s.rd (engReg R.ENGINE_TAG_SEED e)).toNat
  if v = 0 then 1 else v

/-! ## Frames the device builds for a knot (R56, R302) -/

/-- A frame that the device makes on an engine of a die, sent through lookup. -/
def deviceFrame (s : State) (e member : Nat) (h : Header) (payload : Bytes) : State :=
  let (id, s1) := s.addFrm { FrameRec.init with
    frame := mkFrame h payload, inDie := e / 16, origin := .engine, engine := e, tc := hTc h, whole := true,
    member := member }
  originate s1 (e / 16) id

/-- A COLL_STATUS of a knot sent by the device (Tables 11.12, 11.13), counted at its home die in index 12. -/
def sendStatus (s : State) (k dest tc gen flags status w6 : Nat) (payload : Bytes) : State :=
  let x := s.knot k
  let h := mkHeader 1 tStatus tc (s.fld R.YFP_DEV_CTRL F.YFP_DEV_CTRL_ORIGIN_HOP_LIMIT) x.channel 0 dest x.serviceAddr 0 gen k
    payload.length 0 (flags % 256 * 256 + status % 256) w6
  deviceFrame (s.knotCount (x.home / 16) 12) x.home 65535 h payload

/-- A COLL_STATUS to CONTROL_ADDR where that is not zero. -/
def statusToControl (s : State) (k tc status w6 : Nat) : State :=
  let x := s.knot k
  if x.controlAddr = 0 then s else sendStatus s k x.controlAddr tc x.gen 0 status w6 []

/-! ## Causes (Table 9.10) -/

def causeIllegal : Nat := 0x01
def causeImem : Nat := 0x02
def causePartition : Nat := 0x03
def causeStaging : Nat := 0x04
def causeBudget : Nat := 0x05
def causeImemEcc : Nat := 0x10
def causeStateEcc : Nat := 0x11
def causeRegEcc : Nat := 0x12
def causeResidue : Nat := 0x13

/-- The cause is a hardware cause; it stops the engine. -/
def isHwCause (c : Nat) : Bool := decide (0x10 ≤ c)
def isStopCause (c : Nat) : Bool := decide (0x10 ≤ c) && decide (c < 0x13)

/-! ## The end of a dispatch -/

/-- Release the locks of a dispatch (R257). -/
def releaseLocks (s : State) (e serial : Nat) : State :=
  { s with hold := { s.hold with locks := s.hold.locks.filter fun l => !(l.engine == e && l.serial == serial) } }

/-- Discard what a dispatch has staged and release its locks; index 13 on the dies of those rows (R330). -/
def discardStaged (s : State) (e serial : Nat) : State :=
  let mine := s.hold.staged.filter fun w => w.engine == e && w.serial == serial
  let keys := mine.map (·.key) ++ ((s.hold.locks.filter fun l => l.engine == e && l.serial == serial).map (·.key))
  let dies := (keys.map s.holdDie).dedup
  let s1 := dies.foldl (fun s m => s.count (R.HOLD_COUNT m 13)) (freePending s e serial)
  releaseLocks { s1 with hold := { s1.hold with
    staged := s1.hold.staged.filter fun w => !(w.engine == e && w.serial == serial) } } e serial

/-- The scatter record of a dispatch. -/
def State.scatter? (s : State) (e serial : Nat) : Option Scatter :=
  s.hold.scatters.find? fun x => x.engine == e && x.serial == serial

/-- Change the scatter record of a dispatch. -/
def updScatter (s : State) (e serial : Nat) (f : Scatter → Scatter) : State :=
  { s with hold := { s.hold with scatters := s.hold.scatters.map fun x =>
      if x.engine = e ∧ x.serial = serial then f x else x } }

/-- Hold state when a dispatch ends normally: locks released, but for a transactional scatter, whose commit waits. -/
def endHold (s : State) (e serial : Nat) : State :=
  match s.scatter? e serial with
  | some x =>
    let s1 := updScatter s e serial fun y => { y with ended := true, settled := y.settled || !y.txn }
    if x.txn ∧ !x.settled then s1 else releaseLocks s1 e serial
  | none => releaseLocks s e serial

/-- Hold state when a dispatch aborts: locks released, staged writes discarded, the outcome for the requester set. -/
def abortHold (s : State) (e serial : Nat) (hw : Bool) : State :=
  match s.scatter? e serial with
  | some x =>
    let s1 := if x.txn ∧ !x.settled then discardStaged s e serial else releaseLocks s e serial
    updScatter s1 e serial fun y => { y with ended := true, settled := true, bad := if hw then 0x1F else 0x10 }
  | none => releaseLocks s e serial

/-- Release the dispatched frame's cells unless it is retained (R225). -/
def Engine.freeFrame (g : Engine) (d : Dispatch) : Engine :=
  if d.kind = 0 then { g with rx := g.rx.filter fun f => f.retained || f.cell != d.cell } else g

/-- No dispatch: issue state cleared. -/
def Engine.idle (g : Engine) : Engine :=
  { g with core := g.core.drain, hist := [], disp := none, slot := 0, issued := false, ended := false, branch := none,
           busy := [], newFlags := 0, newRes := 0 }

/-- The engine has no dispatch pending from now on, unless one comes (R241). -/
def State.markIdle (s : State) (e : Nat) : State := s.updEng e fun g => { g with idleAt := s.pwr.clk }

/-- The engine's state after a dispatch: HALTED where it was stopping, else READY (R234, R235). -/
def afterDispatch (s : State) (e : Nat) : State :=
  let s1 := (s.setF (engReg R.ENGINE_STATUS e) F.ENGINE_STATUS_DISPATCH 3).markIdle e
  if s.engState e = 5 then engEvent (s1.setEngState e 1) e F.ENGINE_EVENT_HALTED else s1.setEngState e 3

/-- Finish a tagged braid still in flight when the pipeline drains. -/
def tagDrain (s : State) (e : Nat) : State :=
  match (s.eng e).tagged with
  | none => s
  | some t =>
    let last := t.entered.getLastD t.f0
    tagWrite s e { t with entered := t.entered ++ (List.range (6 - t.entered.length)).map fun i => last + 1 + i }

/-- The send of a frame has begun: a cell of it or of a copy has left its crossbar input, lies on a die link, or has
arrived. -/
def State.sendBegun (s : State) (id : Nat) : Bool :=
  (id :: copiesOf s id).any fun i =>
    (s.frm i).arrived || (s.dies.any fun e => e.2.xfers.any fun t => t.frame == i && t.begun) ||
      s.links.any fun e => e.2.flight.any (·.frame == i) || e.2.held.any (·.frame == i)

/-- Frames of a dispatch whose send has not begun. -/
def unsentOf (s : State) (e serial : Nat) : List Nat :=
  ((s.txFrames e).filter fun x => x.2.serial == serial && !s.sendBegun x.1).map (·.1)

/-- Take one frame record out of wherever it waits and forget it. -/
def recallOne (s : State) (id : Nat) : State :=
  let f := s.frm id
  let s1 := dropFromWaits s [id]
  let s2 := if f.outPort < 128 then dropFromQueues s1 f.outDie f.outPort [id] else s1
  let s3 := if 128 ≤ f.outPort ∧ f.outPort < 130 then
      s2.updLan f.outDie (f.outPort - 128) fun l =>
        { l with queues := supd l.queues f.outQ [] fun q => q.filter fun x => x.1 != id }
    else s2
  if (s.frm? id).isNone then s else discardFrame s3 id

/-- Take a frame with its copies out of wherever they wait and forget them. -/
def recallFrame (s : State) (id : Nat) : State := (copiesOf s id ++ [id]).foldl recallOne s

/-- Word 6 of the COLL_STATUS for an aborted dispatch (R452): a free value for a frame type the rule does not name. -/
def abortWord6 (s : State) (d : Dispatch) : Nat × State :=
  if d.kind ≠ 0 then (0xFFFFFFFF, s)
  else
    let t := hType d.hdr
    if t = tContrib ∨ t = tResult then (d.hdr.w5.toNat, s)
    else if t = tVote ∨ t = tKnotCtrl then (d.hdr.w6.toNat, s)
    else s.drawFree 32

/-- What the knot logic does when a dispatch of a knot aborts (R452). -/
def knotAbort (s : State) (d : Dispatch) (hw : Bool) : State :=
  let x := s.knot d.knot
  let tc := if d.kind = 0 then hTc d.hdr else x.lastTc
  let (w6, s1) := abortWord6 s d
  let s2 := if x.type = 10 then s1 else statusToControl s1 d.knot tc (if hw then 0x1F else 0x10) w6
  (s2.updKnot d.knot fun y => { y with blocked := true }).knotCount (x.home / 16) 10

/-- The core with the writes of braids not yet past stage W discarded: the state at the start of braid n − depth, with what
was on its way then (R239). -/
def Engine.rollback (g : Engine) (depth : Nat) : Core :=
  match g.hist[min depth (g.hist.length - 1)]? with
  | some c => c.drain
  | none => g.core.drain

/-- Record a fault or abort in ENGINE_FAULT_INFO. -/
def noteFault (s : State) (e cause pc knot : Nat) : State :=
  s.wr (engReg R.ENGINE_FAULT_INFO e) (BitVec.ofNat 32 (cause % 32 * 2 ^ 27 + pc % 2048 * 2 ^ 16 + 2 ^ 15 + knot % 16384))

/-- Steps 1 to 5 of R239 for the dispatch in progress; the core becomes `c`. -/
def abortSteps (s : State) (e cause : Nat) (d : Dispatch) (c : Core) : State :=
  let pc := (s.eng e).pc
  let s1 := s.updEng e fun g => { ({ g with core := c, tagged := none }.freeFrame d) with heldRes := g.heldRes }
  let s2 := (unsentOf s1 e d.serial).foldl recallFrame s1
  let s3 := noteFault s2 e cause pc d.knot
  let s4 := pmc ((engEvent s3 e F.ENGINE_EVENT_DISPATCH_ABORT).engCount e (if isHwCause cause then 2 else 1)) e 0x0C 1
  abortHold (knotAbort s4 d (isHwCause cause)) e d.serial (isHwCause cause)

/-- Hand a knot homed on an engine that stops to ORPHANED; a flush finishes without the engine (R285, R286). -/
def orphanKnot (s : State) (k : Nat) : State :=
  let x := s.knot k
  let hwGather := x.type == 9 && !x.param.testBit 15
  if hwGather then s
  else if x.state = 1 then
    let s1 := (s.updKnot k fun y => { y with state := 4, timer := none }).knotCount (x.home / 16) 13
    let s2 := setEvent s1 (52 + x.home / 16) (R.KNOT_EVENT (x.home / 16)) F.KNOT_EVENT_ORPHANED
    let (w6, s3) := s2.drawFree 32
    statusToControl s3 k x.lastTc 0x17 w6
  else s

/-- Knots homed on an engine. -/
def State.knotsOf (s : State) (e : Nat) : List Nat :=
  (s.knots.filter fun k => k.2.state != 0 && k.2.home == e).map (·.1)

/-- KNOT_ORPHAN for every knot of an engine; the dispatches it had queued are gone. -/
def orphanAll (s : State) (e : Nat) : State :=
  (s.knotsOf e).foldl orphanKnot (s.updEng e fun g => { g with control := [], timer := [] })

/-- Drop the frames that an engine that takes no dispatch holds for dispatch: index 5 (R235). -/
def dropQueued (s : State) (e : Nat) : State :=
  let g := s.eng e
  let s1 := g.frameQ.foldl (fun s _ => s.engCount e 5) s
  s1.updEng e fun g => { g with frameQ := [], rx := g.rx.filter fun f => !g.frameQ.contains f.cell }

/-- Discard the result frames of a segment that were held for its cross-check (Table 13.11). -/
def dropHeld (s : State) (e knot seg : Nat) : State :=
  let mine := (s.eng e).heldRes.filter fun h => h.1 == knot && h.2.1 == seg
  mine.foldl (fun s h => discardFrame s h.2.2)
    (s.updEng e fun g => { g with heldRes := g.heldRes.filter fun h => !(h.1 == knot && h.2.1 == seg) })

/-- Abandon the sample that engine p holds as partner: counted in INTEG_COUNT index 10, not sampled again (R345). Results held
for it can never be agreed and go nowhere. -/
def xchkAbandon (s : State) (p : Nat) : State :=
  match (s.eng p).xchk with
  | none => s
  | some x =>
    let s1 := (s.updEng p fun g => { g with xchk := none }).updEng x.home fun g =>
      { g with xdone := g.xdone ++ [(x.knot, x.gen, x.seg)] }
    (dropHeld s1 x.home x.knot x.seg).integCount 10

/-- The engine enters FAULT (R240): its knots are orphaned, and a sample it held as partner is given up. -/
def enterFault (s : State) (e : Nat) : State :=
  let s1 := (engEvent (s.setEngState e 6) e F.ENGINE_EVENT_FAULT).setF (engReg R.ENGINE_STATUS e)
    F.ENGINE_STATUS_DISPATCH 3
  xchkAbandon (orphanAll (dropQueued s1 e) e) e

/-- Abort the dispatch in progress (R239, R240): `depth` braids are not yet past stage W. -/
def abortDispatch (s : State) (e cause depth : Nat) : State :=
  match (s.eng e).disp with
  | none => s
  | some d =>
    let s1 := (abortSteps s e cause d ((s.eng e).rollback depth)).updEng e Engine.idle
    if isStopCause cause then enterFault s1 e else afterDispatch s1 e

/-- The outcome of one slot operation. -/
inductive SlotRes where
  | ok (s : State)
  | abort (cause : Nat)
  deriving DecidableEq, Repr

end Sys2Proof.Machine
end

