-- ==== Sys2Proof/Machine/Issue.lean ====
section
/-! DEFINITION. Issue of a braid (R227 to R232, R252, R270) and the execution of its slots one after another: the fetch and
decode checks, stalls, the register snapshot that all slots read, counters and tagging. -/

namespace Sys2Proof.Machine

/-! ## State SRAM lines of a braid (R224, R233) -/

/-- Offset and bytes of the window operand in state SRAM, within the partition. -/
def winPlace (c : Core) (w : Word128) (bytes : Nat) : Nat × Nat := (addrOf c w, bytes)

/-- Bytes of state SRAM that an A operation's window operand covers. -/
def winSpan (wf : Nat) (w : Word128) : Nat :=
  match w.op with
  | 4 => (w.mod / 8 + 1) * winBytes w.fmt
  | 5 => winBytes wf
  | 6 => (w.mod / 8 + 1) * winBytes w.fmt
  | 7 => 768
  | _ => winBytes w.fmt

/-- The A operation's window operand lies in state SRAM. -/
def aUsesRam (w : Word128) : Bool := w.op == 2 || w.op == 3 || w.m 0

/-- The A operation reads, writes its window. -/
def aReads (w : Word128) : Bool := w.op == 1 || w.op == 2 || w.op == 5 || w.op == 6 || w.op == 7
def aWrites (w : Word128) : Bool := w.op == 1 || w.op == 3 || w.op == 4 || (w.op == 5 && w.m 2) || w.op == 7

/-- Lines of n bytes from partition offset a of a partition that begins at `base`. -/
def linesOf (base a n : Nat) : List Nat := (List.range (n / 128)).map fun i => (base + a) / 128 + i

/-- Lines that the A slot reads and writes. -/
def aLines (wf base : Nat) (c : Core) (w : Word128) : List Nat × List Nat :=
  if w.op = 0 ∨ !aUsesRam w then ([], [])
  else
    let ls := linesOf base (addrOf c w) (winSpan wf w)
    (if aReads w then ls else [], if aWrites w then ls else [])

/-- The line that an M slot reads or writes. -/
def mLine (base : Nat) (c : Core) (w : Word128) : Option Nat :=
  if w.op = 0 ∨ !guardOn c w && w.op != 2 then none else some ((base + addrOf c w) / 128)

/-- Excess accesses of a list of lines to their banks. -/
def bankExcess (ls : List Nat) : Nat := ((List.range 16).map fun b => (ls.filter fun l => l % 16 == b).length - 1).sum

/-- Stall cycles for bank conflicts of a braid (R224). The window port moves 12 lines each way in a cycle. -/
def bankStall (wf base : Nat) (c : Core) (ws : List Word128) : Nat :=
  let w := fun k => ws.getD k (Word128.ofNat 0)
  let a := aLines wf base c (w 5)
  let m := [1, 2].filterMap fun k => (mLine base c (w k)).map fun l => (k, l)
  let loads := (m.filter fun x => (w x.1).op == 1 || (w x.1).op == 3).map (·.2)
  let stores := (m.filter fun x => (w x.1).op == 2 || (w x.1).op == 4).map (·.2)
  bankExcess (loads ++ a.1.take 12) + bankExcess (stores ++ a.2.take 12)

/-! ## Waits (R228, R231) -/

/-- Cycle at which every result in a list is ready. -/
def readyAt (bs : List Busy) : Nat := (bs.map (·.at_)).foldl max 0

/-- The braid waits in R on a condition that only events outside issue can meet: a send wait, or a WAIT. Answers the
programmable counter event: 0x09 send, 0x0A synchronisation. A receive wait (0x08) never arises: a frame is dispatched
only once it lies whole in the receive area (R220), and only a dispatched frame is retained (R256), so a retained frame
never lacks data. -/
def outsideWait (s : State) (e : Nat) (c : Core) (ws : List Word128) : Option Nat :=
  let p := ws.getD 0 (Word128.ofNat 0)
  let k := ws.getD 7 (Word128.ofNat 0)
  let sending := s.txFrames e
  let mine := match (s.eng e).disp with
    | some d => sending.any fun x => x.2.serial == d.serial
    | none => false
  let ops := (s.hold.ops.filter fun o => o.engine == e).length
  if p.op = 2 ∧ s.txBusy e (addrOf c p) 128 then some 0x09
  else if p.op = 7 ∧ guardOn c p ∧ s.txBusy e (c.getX p.rb) (p.imm % 65536) then some 0x09
  else if (p.op = 7 ∨ p.op = 8 ∨ p.op = 9) ∧ guardOn c p ∧ 8 ≤ ops then some 0x09
  else if k.op = 0x3C ∧ guardOn c k ∧ ((k.m 0 && mine) || (k.m 1 && ops != 0)) then some 0x0A
  else none

/-- The timed waits of a braid: cycle after the A interlocks, after the S interlocks, after the P slot is free, after a
synchronisation operation's wait, and the bank conflict stalls. -/
structure Waits where
  a : Nat
  s : Nat
  p : Nat
  k : Nat
  bank : Nat
  deriving DecidableEq, Repr

/-- Lines of state SRAM, of a partition that begins at `base`, that the record operation of the C slot reads (KARR its word
and the sender's bitmap byte, KCSUM, KSEAL and KFAIL the word) and that a PSEND with `result` reads (R272, R273, R256). -/
def recordLines (g : Engine) (base : Nat) (c : Core) (p k : Word128) : List Nat :=
  let line := fun a => (base + a) / 128
  let member := match g.disp with
    | some d => d.member
    | none => 0
  (if guardOn c k && (0x31 ≤ k.op && k.op ≤ 0x34) then [line (c.getX k.ra)] else []) ++
    (if guardOn c k && k.op == 0x31 then [line (c.getX k.ra + 16 + member / 8)] else []) ++
    (if guardOn c p && p.op == 3 && p.m 2 then [line (c.getX p.rc)] else [])

/-- Timed waits of a braid that could issue at cycle g.lc. An A operation sees the state SRAM windows of earlier ones at once
(R266); every other reader of a line with an A write pending waits. -/
def timedWaits (g : Engine) (wf base : Nat) (c : Core) (ws : List Word128) : Waits :=
  let w := fun k => ws.getD k (Word128.ofNat 0)
  let ins := (((List.range 8).zip ws).map fun x => slotIns wf x.1 x.2).flatten
  let ml := [1, 2].filterMap (fun k => mLine base c (w k)) ++ recordLines g base c (w 0) (w 7)
  let mine := g.busy.filter fun b => match b.reg with
    | some d => ins.contains d
    | none => ml.contains b.line
  let a := max g.lc (max (readyAt (mine.filter fun b => !b.sUnit)) (if (w 5).op = 0 then 0 else g.aFree))
  let sq := max a (max (readyAt (mine.filter fun b => b.sUnit)) (if (w 6).op = 0 then 0 else g.sFree))
  let p := max sq (if (w 0).op = 0 then 0 else g.pFree)
  let k := w 7
  let kk := max p (if guardOn c k then
      (if k.op = 0x3A ∨ k.op = 0x3B then g.aDone else if k.op = 0x3C ∧ k.m 2 then max g.aDone g.sDone else 0) else 0)
  { a := a, s := sq, p := p, k := kk, bank := bankStall wf base c ws }

/-! ## Tagging at issue (R246) -/

/-- Braid with index n issues at cycle lc with stall causes: the tagged braid in flight goes one stage on, and leaves W after
four further issues. -/
def tagAdvance (s : State) (e lc causes : Nat) : State :=
  match (s.eng e).tagged with
  | none => s
  | some t =>
    if 6 ≤ t.entered.length then tagWrite s e { t with causes := t.causes ||| causes }
    else s.updEng e fun g => { g with tagged := some { t with entered := t.entered ++ [lc], causes := t.causes ||| causes } }

/-- The generator advances for every issued braid; with EN 1 the braid is selected where the low SHIFT bits are zero. It
entered F as many cycles ago as the braids before it have issued since, and a corrected fetch keeps a braid in F, and those behind it out of it, one more. -/
def tagSelect (s : State) (e lc causes : Nat) (ws : List Word128) (m0 m1 : Option Nat) : State :=
  let r := engReg R.ENGINE_TAG_CTRL e
  let g := s.eng e
  let n := lfsrNext (if g.tagGen = 0 then s.tagSeed e else g.tagGen)
  let s1 := s.updEng e fun g => { g with tagGen := n }
  if !s.bit r F.ENGINE_TAG_CTRL_EN || n % 2 ^ s.fld r F.ENGINE_TAG_CTRL_SHIFT != 0 then s1
  else if g.tagged.isSome then s1.count (engReg R.ENGINE_TAG_SKIPPED e)
  else
      let i := fun k => (g.issues.getD k (0, 0))
      let fix := fun (c : Nat) => if c.testBit 3 then 1 else 0
      let f0 := (i 2).1 + fix (i 1).2 + fix (i 0).2
      let kn := match g.disp with
        | some d => d.knot
        | none => 0
      let cs := causes ||| (i 0).2 ||| (i 1).2
      let ago := lc - f0
      let t : Tagged := { addr := g.pc, before := g.count, knot := kn, cycle := s.engCycle e + 2 ^ 64 - ago,
                          fab := (s.now + 2 ^ 32 - ago * 5 / 8) % 2 ^ 32,
                          f0 := f0, entered := [(i 1).1 + fix (i 0).2 + fix causes, (i 0).1 + fix causes, lc],
                          slots := slotsUsed ws, causes := cs,
                          m0 := m0, m1 := m1 }
      s1.updEng e fun g => { g with tagged := some t }

/-! ## Issue -/

/-- Count the slots in use of an issued braid (Table 9.12). -/
def countSlots (s : State) (e : Nat) (ws : List Word128) : State :=
  let n := fun k => if (ws.getD k (Word128.ofNat 0)).op = 0 then 0 else 1
  pmc (pmc (pmc (pmc (pmc (pmc s e 0x0D (n 0)) e 0x0E (n 1 + n 2)) e 0x0F (n 3 + n 4)) e 0x10 (n 5)) e 0x11 (n 6)) e 0x12 (n 7)

/-- Stall cycles counted: all, A, S, bank conflict, synchronisation. -/
def countStalls (s : State) (e lc : Nat) (w : Waits) : State :=
  pmc (pmc (pmc (pmc (pmc s e 0x04 (w.k + w.bank - lc)) e 0x05 (w.a - lc)) e 0x06 (w.s - w.a)) e 0x0A (w.k - w.p)) e 0x07 w.bank

/-- Tag causes of timed waits (Table 9.13). -/
def causesOf (lc : Nat) (w : Waits) : Nat :=
  (if lc < w.a then 1 else 0) + (if w.a < w.s then 2 else 0) + (if 0 < w.bank then 4 else 0) + (if w.p < w.k then 64 else 0)

/-- Cycle of the last issue. -/
def Engine.lastIssue (g : Engine) : Nat := (g.issues.headD (0, 0)).1

/-- Cycles from one issue to the next on a die: 2 in throttle stage 1, 4 from stage 2 on (R415). -/
def State.issueGap (s : State) (d : Nat) : Nat :=
  match s.fld (R.DIE_PWR_STATUS d) F.DIE_PWR_STATUS_STAGE with
  | 0 => 1
  | 1 => 2
  | _ => 4

/-- One fetch further: the address after a braid, and the branch in flight after it. -/
def nextFetch (x : Nat × Option (Nat × Nat)) : Nat × Option (Nat × Nat) :=
  match x.2 with
  | none => (x.1 + 1, none)
  | some (t, 0) => (t, none)
  | some (t, k + 1) => (x.1 + 1, some (t, k))

/-- ENGINE_STATUS.PC shows the braid in stage F: two fetches after the braid in stage R (Tables 9.5 and 9.17). -/
def showFetch (s : State) (e : Nat) : State :=
  let g := s.eng e
  s.setF (engReg R.ENGINE_STATUS e) F.ENGINE_STATUS_PC ((nextFetch (nextFetch (g.pc, g.branch))).1 % 2048)

/-- The braid issues: writes due are made, the snapshot is taken that every slot reads, counters and tag move. -/
def issueBraid (s : State) (e wf base : Nat) (ws : List Word128) : State :=
  let g := s.eng e
  let c0 := g.core.commit g.count g.lc
  let w := timedWaits g wf base c0 ws
  let lc := max (w.k + w.bank) (g.lastIssue + s.issueGap (e / 16))
  let causes := causesOf g.lc w ||| g.met
  let c1 := g.core.commit g.count lc
  let m := fun k => (mLine 0 c1 (ws.getD k (Word128.ofNat 0))).map (· % 8192)
  let s1 := tagAdvance s e lc causes
  let s2 := tagSelect s1 e lc causes ws (m 1) (m 2)
  let s3 := s2.updEng e fun g =>
    { g with core := c1, hist := (c1 :: g.hist).take 6, lc := lc, issues := ((lc, causes) :: g.issues).take 3, met := 0,
             busy := g.busy.filter fun b => decide (lc < b.at_), issued := true, slot := 0 }
  showFetch (pmc (countSlots (countStalls s3 e g.lc w) e ws) e 0x01 1) e

/-- One stall cycle on a condition outside issue. -/
def stallCycle (s : State) (e ev : Nat) : State :=
  pmc (pmc (s.updEng e fun g => { g with lc := g.lc + 1, met := g.met ||| (if ev = 0x09 then 32 else 64) }) e 0x04 1) e ev 1

/-- The checks found a correctable error in the fetch of the braid. -/
def fixedFetch (hw : OpHw) : Bool :=
  match hw with
  | .corrected r _ _ => r.val == 2
  | _ => false

/-- A correctable error in fetch adds one cycle in stage F (R228): tag cause bit 3 (Table 9.13). -/
def fetchCycle (s : State) (e : Nat) : State :=
  pmc (s.updEng e fun g => { g with lc := g.lc + 1, met := g.met ||| 8 }) e 0x04 1

/-- The next slot of an engine, for an operation code of a class of slot. -/
inductive Arm where
  /-- Nothing of the operation happens: the engine runs another operation or none, stalls, or aborts. -/
  | stop (s : State)
  /-- The slot executes. -/
  | go (s : State) (k : Nat) (w : Word128)
  deriving DecidableEq, Repr

/-- Bring engine e to its next slot: fetch and decode checks of a new braid (R237, R238, R252), its stalls, its issue. -/
def armSlot (c : Cls) (anyCls : Bool) (op e : Nat) (hw : OpHw) (s : State) : Arm :=
  let g := s.eng e
  match g.disp with
  | none => .stop s
  | some d =>
    if g.ended then .stop s
    else
      let wf := winFormat (s.knot d.knot)
      let w := slotWord g.imem g.pc g.slot
      let fits := (anyCls || clsOf g.slot == c) && w.op == op
      if g.issued then (if fits then .go s g.slot w else .stop s)
      else if s.fld (engReg R.ENGINE_DISPATCH_CTRL e) F.ENGINE_DISPATCH_CTRL_BUDGET ≤ g.count then .stop s
      else if s.fld (engReg R.ENGINE_IMEM_CTRL e) F.ENGINE_IMEM_CTRL_LIMIT ≤ g.pc then .stop (abortDispatch s e causeImem 5)
      else
        let ws := braidWords g.imem g.pc
        if !braidLegal wf ws then .stop (abortDispatch s e causeIllegal 4)
        else if !fits then .stop s
        else match outsideWait s e (g.core.commit g.count g.lc) ws with
          | some ev => .stop (stallCycle s e ev)
          | none =>
            let t := if fixedFetch hw then fetchCycle s e else s
            .go (issueBraid t e wf (s.partOf e d.knot).1 ws) 0 w

/-- The braid is complete: the next address, or the target of a branch whose two delay braids have executed (R230). -/
def endBraid (s : State) (e : Nat) : State :=
  showFetch (s.updEng e fun g =>
    let (pc, br) := nextFetch (g.pc, g.branch)
    { g with slot := 0, issued := false, count := g.count + 1, lc := g.lc + 1, pc := if g.ended then g.pc else pc,
             branch := br, newFlags := 0, newRes := 0,
             core := { g.core with flags := g.core.flags ||| g.newFlags, res := (g.core.res + g.newRes) % resM } }) e

/-- Slot k has executed. -/
def slotDone (s : State) (e k : Nat) : State :=
  if k < 7 then s.updEng e fun g => { g with slot := k + 1 } else endBraid s e

/-- A record of an engine's error (R351, Table 13.9). -/
def fileEngine (s : State) (e cls mech slot op knot gen : Nat) (syn : List Nat) (sc : Nat) : State :=
  fileRec s { LogRec.of cls mech 4 (e / 16) (e % 16) with
    status := if cls = 2 then 0x1F else 0, slot := slot, op := op, knot := knot, gen := gen, syn := syn, synClass := sc,
    counts := cls == 2 }

/-- A correctable error of an engine: corrected and counted (R240). -/
def eccCorrected (s : State) (e region line syn : Nat) : State :=
  fileEngine (pmc (engEvent (s.engCount e 7) e F.ENGINE_EVENT_ECC_CORRECTED) e 0x17 1) e 1 1 0xFF 0 0 0
    [region * 65536 + syn, line] region

/-- Knot and generation of an engine's dispatch. -/
def Engine.knotGen (g : Engine) : Nat × Nat :=
  match g.disp with
  | some d => (d.knot, d.gen)
  | none => (0, 0)

/-- What the hardware checks found while slot k executes (R240, R341): the state, and the cause where the dispatch aborts
with the number of braids not yet past W. -/
def hwCheck (s : State) (e k op : Nat) (hw : OpHw) : State × Option (Nat × Nat) :=
  let kg := (s.eng e).knotGen
  match hw with
  | .ok => (s, none)
  | .corrected r l y =>
    (eccCorrected s e r.val l.toNat y.toNat, none)
  | .uncorrectable r l y =>
    (fileEngine s e 2 1 k op kg.1 kg.2 [r.val * 65536 + y.toNat, l.toNat] r.val,
     some (if r.val = 0 then (causeStateEcc, 1) else if r.val = 1 then (causeRegEcc, 4) else (causeImemEcc, 5)))
  | .residue l x f p =>
    if clsOf k = .V ∨ clsOf k = .A then
      (fileEngine s e 2 3 k op kg.1 kg.2 [l.toNat * 65536 + x.toNat * 256 + f.toNat, p.toNat]
        (if k = 5 then 0 else k - 2), some (causeResidue, 1))
    else (s, none)

/-- Execute an operation of a class of slot on engine e: the effect of every slot operation row. In the P, M, S and C slots a
false guard lets the slot pass without effect; PST and MST mask per lane (R253). -/
def runSlot (c : Cls) (op : Nat) (body : Nat → Nat → Word128 → State → SlotRes) (e : Nat) (hw : OpHw) (s : State) : State :=
  match armSlot c false op e hw s with
  | .stop t => t
  | .go t k w =>
    match hwCheck t e k op hw with
    | (u, some (cause, depth)) => abortDispatch u e cause depth
    | (u, none) =>
      let masked := c == .V || c == .A || ((c == .P || c == .M) && op == 2)
      if !masked && !guardOn (u.eng e).view w then slotDone u e k
      else match body e k w u with
        | .ok v => slotDone v e k
        | .abort cause => abortDispatch u e cause 4

/-- Execute a NOP slot (R251). -/
def runNop (e : Nat) (hw : OpHw) (s : State) : State :=
  match armSlot .P true 0 e hw s with
  | .stop t => t
  | .go t k _ =>
    match hwCheck t e k 0 hw with
    | (u, some (cause, depth)) => abortDispatch u e cause depth
    | (u, none) => slotDone u e k

end Sys2Proof.Machine
end

