-- ==== Sys2Proof/Machine/Packet.lean ====
section
/-! DEFINITION. The P slot (R255 to R258): packet staging, sends by lookup, members and parent (R303), retained frames, Hold
requests, and the load of a window register. -/

namespace Sys2Proof.Machine

/-! ## Loads and stores of staging -/

/-- PLD (R255): 128 bytes of staging into a vector register, swapped. -/
def opPld (e k : Nat) (w : Word128) (s : State) : SlotRes :=
  let g := s.eng e
  let a := addrOf g.view w
  if !g.stageOk a 128 then .abort causeStaging
  else .ok (s.setEng e (g.later k 3 (.v w.rd) (ones 1024) (leNat (swapBytes (w.mod % 4) (g.stageRead g.view a 128)))))

/-- Write bytes of staging, and in the snapshots of braids in flight for data that arrives from outside issue. -/
def Engine.stageIn (g : Engine) (a : Nat) (b : Bytes) : Engine :=
  { g with core := g.core.stagePut a b, hist := g.hist.map fun c => c.stagePut a b }

/-- The bytes that PST stores: swapped register bytes whose 16-bit piece the guard covers. -/
def pstBytes (c : Core) (w : Word128) : List (Nat × Byte) :=
  let sw := w.mod % 4
  let src := fun i => i / 2 ^ sw * 2 ^ sw + (2 ^ sw - 1 - i % 2 ^ sw)
  let on := fun j => match guardVal c w with
    | none => true
    | some p => p.testBit (j / 2)
  ((List.range 128).filter fun i => on (src i)).map fun i => (i, BitVec.ofNat 8 (laneOf (c.getV w.rb) 8 (src i)))

/-- PST (R255): a vector register, swapped, into the transmit area under the lane guard. -/
def opPst (e _k : Nat) (w : Word128) (s : State) : SlotRes :=
  let g := s.eng e
  let a := addrOf g.view w
  if !inTx a 128 then .abort causeStaging
  else
    let st := (pstBytes g.view w).foldl (fun m b => sput m (a + b.1) b.2 0) g.core.stage
    .ok (s.setEng e { g with core := { g.core with stage := st } })

/-! ## Sends (R256, R303) -/

/-- Header words at a staging offset, in wire order. -/
def stageHeader (c : Core) (a : Nat) : Header :=
  let wd := fun i => BitVec.ofNat 32 (beNat (c.stageGet (a + 4 * i) 4))
  ⟨wd 0, wd 1, wd 2, wd 3, wd 4, wd 5, wd 6, 0⟩

/-- Engines of a die that hold a sample for a segment of a home engine's knot: the partner (R344). -/
def State.partnerOf (s : State) (e knot gen : Nat) (p : Xchk → Bool) : Option Nat :=
  ((List.range 16).map (e / 16 * 16 + ·)).find? fun q =>
    match (s.eng q).xchk with
    | some x => x.home == e && x.knot == knot && x.gen == gen && p x
    | none => false

/-- The engine is band-suspect and its die is in a band it is suspect in (Table 13.11). -/
def State.engHeld (s : State) (e : Nat) : Bool :=
  s.bandHeld 4 (e / 16) (e % 16)

/-- The frame is a window frame (R303). -/
def isWindowFrame (h : Header) : Bool := hType h == tContrib && (hFmt h == 8 || hFmt h == 10)

/-- SEG of the segment that a result frame belongs to: its record's, or for a stage that of the sample whose offset is the
nearest at or below word 5. -/
def segOf (s : State) (e : Nat) (d : Dispatch) (h : Header) (rec : Option Nat) : Option Nat :=
  match rec with
  | some seg => some seg
  | none =>
    let segs := ((List.range 16).map (e / 16 * 16 + ·)).filterMap fun q => match (s.eng q).xchk with
      | some x => if x.home = e ∧ x.knot = d.knot ∧ x.gen = d.gen ∧ x.seg ≤ h.w5.toNat then some x.seg else none
      | none => none
    segs.max?

/-- A result frame is seen by the partner that checks its segment (R345). -/
def xchkResult (s : State) (e : Nat) (d : Dispatch) (h : Header) (payload : Bytes) (seg : Nat) : State :=
  match s.partnerOf e d.knot d.gen fun x => x.seg == seg with
  | none => s
  | some q => s.updEng q fun g => { g with xchk := g.xchk.map fun x =>
      { x with outs := x.outs ++ [⟨payload, h.w5.toNat, isWindowFrame h⟩] } }

/-- One copy of a sent frame: a frame record that holds the transmit cells, sent on or held. `port` is the member port of a
direct copy, and none for a copy resolved by lookup. -/
def sendCopy (e : Nat) (d : Dispatch) (h : Header) (payload : Bytes) (cell : Nat) (hold : Option Nat) (s : State)
    (c : Nat × Nat × Option (Nat × Nat)) : State :=
  let (member, dest, port) := c
  let h1 := hSeal { h with w1 := BitVec.ofNat 32 dest }
  let base : FrameRec := { FrameRec.init with
    frame := mkFrame h1 payload, inDie := e / 16, origin := .engine, engine := e, tc := hTc h, whole := true,
    member := member, txCell := cell, txCells := cellsOf (hLen h), serial := d.serial }
  let f := match port with
    | some m => { base with outDie := m.1, outPort := m.2, cls := s.mapClass (aPart (hSrc h)) (hChannel h), looked := true,
                            epoch := s.genBit }
    | none => base
  let (id, s1) := s.addFrm f
  match hold with
  | some seg => s1.updEng e fun g => { g with heldRes := g.heldRes ++ [(d.knot, seg, id)] }
  | none => if port.isSome then offerMember s1 id else originate s1 (e / 16) id

/-- Address of member m in ADDRESS mode (R289, R303). -/
def memberAddr (x : Knot) (m : Nat) : Nat := x.memberBase + m / 2 ^ x.epBits * 1024 + m % 2 ^ x.epBits

/-- The copies of a route (R303): member index, destination, direct port. -/
def routeCopies (s : State) (x : Knot) (route : Nat) (h : Header) : List (Nat × Nat × Option (Nat × Nat)) :=
  let ms := (List.range 1024).filter x.isMember
  match route with
  | 0 => [(65535, hDest h, none)]
  | 1 =>
    if x.byAddress then ms.map fun m => (m, memberAddr x m, none)
    else (ms.filter fun m => s.portUp (m / 128) (m % 128)).map fun m => (m, x.resultAddr, some (m / 128, m % 128))
  | _ =>
    (if x.parentAddr = 0 then [] else [(65535, x.parentAddr, none)]) ++
      (((List.range 16).map x.peer).filter (· != 0)).map fun a => (65535, a, none)

/-- Members of a broadcast that a down port leaves out (R306). -/
def missDown (s : State) (k : Nat) (route : Nat) : State :=
  let x := s.knot k
  if route = 1 ∧ !x.byAddress then
    ((List.range 1024).filter fun m => x.isMember m && !s.portUp (m / 128) (m % 128)).foldl (fun s m => noteMissed s k m) s
  else s

/-- The record of a segment at a partition offset: SEG and PASSED (Table 13.5's R272). -/
def recordAt (s : State) (e k a : Nat) (c : Core) : Option (Nat × Bool) :=
  if a % 128 ≠ 0 then none
  else (ramAddr (s.partOf e k) a 256).map fun b =>
    let w0 := leNat (c.ramGet b 8)
    (w0 / 2 ^ 32, w0.testBit 25)

/-- Members of a bitmap of 136 bytes (Table 11.12). -/
def bitmapMembers (b : Bytes) : List Nat :=
  (List.range 1088).filter fun m => (b.getD (m / 8) 0#8).getLsbD (m % 8)

/-- A frame by which a DIGEST_VOTE knot names dissenters to CONTROL_ADDR: COLL_STATUS COMPLETED with DISSENT and a bitmap
(R310, Table 11.12). -/
def isDissent (x : Knot) (h : Header) (dest : Nat) : Bool :=
  x.type == 7 && hType h == tStatus && h.w5.toNat % 256 == 0 && h.w5.getLsbD 11 && h.w5.getLsbD 12 &&
    x.controlAddr != 0 && dest == x.controlAddr

/-- A DISSENT record of the members that voted otherwise (R310, Table 13.9). Its unit is the knot's home engine: the spec names
none. -/
def fileDissent (s : State) (e : Nat) (d : Dispatch) (h : Header) (payload : Bytes) : State :=
  let ms := bitmapMembers payload
  let m := fun i => ms.getD i 0
  fileRec s { LogRec.of 8 0x0B 4 (e / 16) (e % 16) with
    knot := d.knot, gen := d.gen,
    syn := [d.knot, h.w6.toNat, m 0 * 65536 + m 1, m 2 * 65536 + m 3, ms.length] }

/-- Send a frame on a route, its result checksum set where it is a result (R256). -/
def sendFrame (s : State) (e : Nat) (d : Dispatch) (a route : Nat) (result : Bool) (rec : Option Nat) (h0 : Header)
    (payload : Bytes) : State :=
  let x := s.knot d.knot
  let hop := s.fld R.YFP_DEV_CTRL F.YFP_DEV_CTRL_ORIGIN_HOP_LIMIT
  let h1 : Header := { h0 with w0 := F20 h0.w0 hop, w6 := if result then BitVec.ofNat 32 (wordSum payload) else h0.w6 }
  let seg := if result then segOf s e d h1 rec else if isWindowFrame h1 ∧ x.type = 2 then segOf s e d h1 none else none
  let s1 := match seg with
    | some g => xchkResult s e d h1 payload g
    | none => s
  let hold := if s.engHeld e && (x.type == 1 || x.type == 2) && (result || (x.type == 2 && route == 2)) then
      some (seg.getD h1.w5.toNat) else none
  let s2 := pmc ((missDown s1 d.knot route).engCount e 4) e 0x15 1
  let s3 := if hType h1 = tResult then s2.knotCount (e / 16) 11 else s2
  let s4 := dropUnchecked ((routeCopies s x route h1).foldl (sendCopy e d h1 payload (a / 256) hold) s3) hold
  if isDissent x h1 (hDest h1) && route == 0 then fileDissent s4 e d h1 payload
  else if x.type = 3 ∧ hType h1 = tResult ∧ hLast h1 then
    s4.updKnot d.knot fun y => { y with bcast := some (hTc h1, h1.w5.toNat) }
  else s4
where
  /-- Results that must be held and that no partner checks go nowhere (Table 13.11). -/
  dropUnchecked (s : State) (hold : Option Nat) : State :=
    match hold with
    | some seg => if (s.partnerOf e d.knot d.gen fun y => y.seg == seg).isSome then s else dropHeld s e d.knot seg
    | none => s
  /-- The hop limit of a frame the device builds (R56); routing bits cleared until they are written (R51). -/
  F20 (w : Word) (hop : Nat) : Word := Fld.put ⟨7, 5⟩ (Fld.put ⟨20, 16⟩ w hop) 0

/-- PSEND (R256): check the frame and its record, then send; a blocked knot's results go nowhere (R452). A header whose
words lie outside what the dispatch may address is out of range; one that may be addressed but does not begin a transmit
cell is illegal. -/
def opPsend (e _k : Nat) (w : Word128) (s : State) : SlotRes :=
  let g := s.eng e
  match g.disp with
  | none => .ok s
  | some d =>
    let c := g.view
    let x := s.knot d.knot
    let a := c.getX w.ra
    let route := w.mod % 4
    let result := w.m 2
    if route = 3 then .abort causeIllegal
    else if !g.stageOk a 28 then .abort causeStaging
    else if a % 256 ≠ 0 ∨ a < txBase then .abort causeIllegal
    else
      let h := stageHeader c a
      if 9216 < hPlen h ∨ stageEnd < a + hLen h then .abort causeIllegal
      else if x.blocked && (result || (x.type == 2 && route == 2)) then .ok (s.knotCount (e / 16) 10)
      else
        let payload := c.stageGet (a + 32) (hPlen h)
        if result then
          match recordAt s e d.knot (c.getX w.rc) c with
          | none => .abort causePartition
          | some (seg, passed) =>
            if passed then .ok (sendFrame s e d a route true (some seg) h payload) else .abort causeIllegal
        else .ok (sendFrame s e d a route false none h payload)

/-! ## Retained frames -/

/-- PRET (R256): the dispatched frame stays in its cells past END. -/
def opPret (e k : Nat) (w : Word128) (s : State) : SlotRes :=
  let g := s.eng e
  match g.disp with
  | some d =>
    if d.kind ≠ 0 then .abort causeIllegal
    else
      let kept := g.rx.map fun (f : RxFrame) => if f.cell = d.cell then { f with retained := true } else f
      let g1 : Engine := { g with rx := kept }
      .ok (s.setEng e (g1.later k 3 (.x w.rd) (ones 64) (d.cell * 256)))
  | none => .ok s

/-- The retained frame of the dispatch's knot at a staging offset. -/
def Engine.retainedAt (g : Engine) (a : Nat) : Option RxFrame :=
  match g.disp with
  | some d => g.rx.find? fun f => f.cell * 256 == a && f.retained && hKnot f.hdr == d.knot
  | none => none

/-- PACQ (R256): a retained frame's cells become addressable. -/
def opPacq (e _k : Nat) (w : Word128) (s : State) : SlotRes :=
  let g := s.eng e
  match g.retainedAt (g.view.getX w.ra) with
  | none => .abort causeIllegal
  | some f => .ok (s.setEng e { g with disp := g.disp.map fun d => { d with acq := d.acq ++ [f.cell] } })

/-- PREL (R256): a retained frame is released and its cells are the dispatch's no more; the dispatched frame's cells stay until
the dispatch ends. -/
def opPrel (e _k : Nat) (w : Word128) (s : State) : SlotRes :=
  let g := s.eng e
  match g.retainedAt (g.view.getX w.ra) with
  | none => .abort causeIllegal
  | some f =>
    let mine := match g.disp with
      | some d => d.kind == 0 && d.cell == f.cell
      | none => false
    let keep := g.rx.map fun (r : RxFrame) => if r.cell = f.cell then { r with retained := false } else r
    .ok (s.setEng e { g with
      rx := if mine then keep else g.rx.filter fun r => r.cell != f.cell
      disp := g.disp.map fun d => { d with acq := d.acq.filter (· != f.cell) } })

/-! ## Hold requests (R257) -/

/-- Issue a Hold operation: it waits for its completion behind the engine's earlier ones. -/
def issueHold (s : State) (e : Nat) (kind : HoldKind) (key len tx : Nat) (data : Bytes) : State :=
  let d := (s.eng e).disp
  let ser := match d with
    | some d => d.serial
    | none => 0
  let txn := match s.scatter? e ser with
    | some x => x.txn
    | none => false
  { s with hold := { s.hold with ops := s.hold.ops ++
      [{ engine := e, serial := ser, knot := (s.eng e).knotGen.1, kind := kind, key := key, len := len, tx := tx, data := data, txn := txn,
         waited := false, granted := false }] } }

/-- The limits of R257 on IMM and the transmit offset. -/
def holdLimits (len tx : Nat) : Bool :=
  len % 128 == 0 && decide (128 ≤ len) && decide (len ≤ 12288) && tx % 128 == 0 && inTx tx len

/-- HGET (R326): a request for the first IMM bytes of a row. -/
def opHget (e _k : Nat) (w : Word128) (s : State) : SlotRes :=
  let c := (s.eng e).view
  let tx := c.getX w.rb
  if !holdLimits w.imm tx then .abort causeStaging
  else .ok (issueHold s e (if w.m 0 then .getLock else .get) (c.getX w.ra) w.imm tx [])

/-- HPUT (R326): the bytes are taken from the transmit area as the operation issues. -/
def opHput (e _k : Nat) (w : Word128) (s : State) : SlotRes :=
  let c := (s.eng e).view
  let tx := c.getX w.rb
  if !holdLimits w.imm tx then .abort causeStaging
  else .ok (issueHold s e (if w.m 0 then .putUnlock else .put) (c.getX w.ra) w.imm tx (c.stageGet tx w.imm))

/-- HUNLK (R326). -/
def opHunlk (e _k : Nat) (w : Word128) (s : State) : SlotRes :=
  .ok (issueHold s e .unlock ((s.eng e).view.getX w.ra) 0 0 [])

/-! ## Window load (R258) -/

/-- A window register from 768 wire bytes, lanes of `n` bytes, most significant byte first. -/
def winFromWire (n : Nat) (b : Bytes) : Nat :=
  ofLanes (8 * n) ((List.range (768 / n)).map fun i => beNat ((b.drop (n * i)).take n))

/-- PLDW (R258): ready 8 cycles after issue; the P slot is busy for 6. -/
def opPldw (e k : Nat) (w : Word128) (s : State) : SlotRes :=
  let g := s.eng e
  let a := addrOf g.view w
  if !g.stageOk a 768 then .abort causeStaging
  else
    let v := winFromWire (if w.fmt = 8 then 12 else 24) (g.stageRead g.view a 768)
    .ok (s.setEng e { g.laterCycle k 8 false (.w w.rd) (ones 6144) v with pFree := g.lc + 6 })

/-! ## Meanings -/

def execPld (e : Fin 128) (hw : OpHw) (s : State) : Result := .next (runSlot .P 0x01 opPld e.val hw s)
def execPst (e : Fin 128) (hw : OpHw) (s : State) : Result := .next (runSlot .P 0x02 opPst e.val hw s)
def execPsend (e : Fin 128) (hw : OpHw) (s : State) : Result := .next (runSlot .P 0x03 opPsend e.val hw s)
def execPret (e : Fin 128) (hw : OpHw) (s : State) : Result := .next (runSlot .P 0x04 opPret e.val hw s)
def execPacq (e : Fin 128) (hw : OpHw) (s : State) : Result := .next (runSlot .P 0x05 opPacq e.val hw s)
def execPrel (e : Fin 128) (hw : OpHw) (s : State) : Result := .next (runSlot .P 0x06 opPrel e.val hw s)
def execHget (e : Fin 128) (hw : OpHw) (s : State) : Result := .next (runSlot .P 0x07 opHget e.val hw s)
def execHput (e : Fin 128) (hw : OpHw) (s : State) : Result := .next (runSlot .P 0x08 opHput e.val hw s)
def execHunlk (e : Fin 128) (hw : OpHw) (s : State) : Result := .next (runSlot .P 0x09 opHunlk e.val hw s)
def execPldw (e : Fin 128) (hw : OpHw) (s : State) : Result := .next (runSlot .P 0x0A opPldw e.val hw s)
def execNop (e : Fin 128) (hw : OpHw) (s : State) : Result := .next (runNop e.val hw s)

end Sys2Proof.Machine
end

