-- ==== Sys2Proof/Machine/VecOps.lean ====
section
/-! DEFINITION. The M slots (R259) and the V slots (R260 to R263): which registers and lines the vector and memory operations
read and write. -/

namespace Sys2Proof.Machine

/-! ## M slots (R259) -/

/-- Place of a vector access: the low 7 bits of x[RA] + IMM are ignored. -/
def mPlace (s : State) (e : Nat) (w : Word128) (n : Nat) : Option Nat :=
  let g := s.eng e
  let k := g.knotGen.1
  ramAddr (s.partOf e k) (addrOf g.view w / n * n) n

/-- MLD: a line into a vector register. -/
def opMld (e k : Nat) (w : Word128) (s : State) : SlotRes :=
  match mPlace s e w 128 with
  | none => .abort causePartition
  | some a => .ok (s.updEng e fun g => g.later k 3 (.v w.rd) (ones 1024) (leNat (g.view.ramGet a 128)))

/-- Queue a store of an M slot. -/
def Engine.store (g : Engine) (k : Nat) (cells : List (Nat × Byte)) : Engine :=
  { g with core := { g.core with stores := g.core.stores ++ [⟨g.count + 4, k, cells⟩] } }

/-- MST: a vector register into a line, the bytes that the lane guard covers. -/
def opMst (e k : Nat) (w : Word128) (s : State) : SlotRes :=
  match mPlace s e w 128 with
  | none => .abort causePartition
  | some a => .ok (s.updEng e fun g =>
      let on := fun j => match guardVal g.view w with
        | none => true
        | some p => p.testBit (j / 2)
      g.store k (((List.range 128).filter on).map fun i => (a + i, BitVec.ofNat 8 (laneOf (g.view.getV w.rb) 8 i))))

/-- MLDX: 8 bytes into a scalar. -/
def opMldx (e k : Nat) (w : Word128) (s : State) : SlotRes :=
  match mPlace s e w 8 with
  | none => .abort causePartition
  | some a => .ok (s.updEng e fun g => g.later k 3 (.x w.rd) (ones 64) (leNat (g.view.ramGet a 8)))

/-- MSTX: a scalar into 8 bytes. -/
def opMstx (e k : Nat) (w : Word128) (s : State) : SlotRes :=
  match mPlace s e w 8 with
  | none => .abort causePartition
  | some a => .ok (s.updEng e fun g =>
      g.store k ((List.range 8).map fun i => (a + i, BitVec.ofNat 8 (laneOf (g.view.getX w.rb) 8 i))))

def execMld (e : Fin 128) (hw : OpHw) (s : State) : Result := .next (runSlot .M 0x01 opMld e.val hw s)
def execMst (e : Fin 128) (hw : OpHw) (s : State) : Result := .next (runSlot .M 0x02 opMst e.val hw s)
def execMldx (e : Fin 128) (hw : OpHw) (s : State) : Result := .next (runSlot .M 0x03 opMldx e.val hw s)
def execMstx (e : Fin 128) (hw : OpHw) (s : State) : Result := .next (runSlot .M 0x04 opMstx e.val hw s)

/-! ## V slots -/

/-- Write a vector register with latency 3 (Table 9.6): the lanes of width b that the guard covers, and of those the bits of
a mask. -/
def putV (e k : Nat) (w : Word128) (b n mask val : Nat) (s : State) : State :=
  s.updEng e fun g => g.later k 3 (.v n) (mask &&& laneMask g.view w b) val

/-- A vector operation whose value is a function of the registers read. -/
def vecOp (b : Word128 → Nat) (f : Core → Word128 → Nat) (e k : Nat) (w : Word128) (s : State) : SlotRes :=
  .ok (putV e k w (b w) w.rd (ones 1024) (f (s.eng e).view w) s)

/-- Lane width of the operation's type. -/
def tyW (w : Word128) : Nat := tyBits w.fmt

/-- A two-operand operation lane by lane. -/
def laneOp (f : Nat → Nat → Nat → Nat) : Nat → Nat → Word128 → State → SlotRes :=
  vecOp tyW fun c w => lanes2 (tyW w) (f w.fmt) (c.getV w.ra) (c.getV w.rb)

def opVadd := laneOp laneAdd
def opVsub := laneOp laneSub
def opVmul := laneOp laneMul
def opVmin := laneOp laneMin
def opVmax := laneOp laneMax

/-- VFMA: a × b + c, one rounding. -/
def opVfma : Nat → Nat → Word128 → State → SlotRes :=
  vecOp tyW fun c w => ofLanes (tyW w) ((List.range (tyLanes w.fmt)).map fun i =>
    laneFma w.fmt (laneOf (c.getV w.ra) (tyW w) i) (laneOf (c.getV w.rb) (tyW w) i) (laneOf (c.getV w.rc) (tyW w) i))

/-- Bitwise operations on the register. -/
def opVand : Nat → Nat → Word128 → State → SlotRes := vecOp tyW fun c w => c.getV w.ra &&& c.getV w.rb
def opVor : Nat → Nat → Word128 → State → SlotRes := vecOp tyW fun c w => c.getV w.ra ||| c.getV w.rb
def opVxor : Nat → Nat → Word128 → State → SlotRes := vecOp tyW fun c w => c.getV w.ra ^^^ c.getV w.rb

/-- A shift of integer lanes by IMM[4:0]. -/
def shiftOp (f : Nat → Nat → Nat → Nat) : Nat → Nat → Word128 → State → SlotRes :=
  vecOp tyW fun c w => ofLanes (tyW w) ((lanesOf (c.getV w.ra) (tyW w) (tyLanes w.fmt)).map (f (tyW w) (w.imm % 32)))

def opVshl := shiftOp laneShl
def opVshr := shiftOp fun _ => laneShr
def opVsra := shiftOp laneSra

/-- VCMP: a predicate; the bits of lanes that the guard does not cover keep their value. -/
def opVcmp (e k : Nat) (w : Word128) (s : State) : SlotRes :=
  let c := (s.eng e).view
  let n := tyW w / 16
  let mask := match guardVal c w with
    | none => ones 64
    | some p => ofLanes n ((List.range (tyLanes w.fmt)).map fun i => if guardBit p (tyW w) i then ones n else 0)
  .ok (s.updEng e fun g => g.later k 3 (.p w.rd) mask (vecCmp w.fmt w.mod (c.getV w.ra) (c.getV w.rb)))

/-- VSEL: 16-bit pieces of a where the predicate is 1, of b elsewhere. -/
def opVsel : Nat → Nat → Word128 → State → SlotRes := vecOp tyW fun c w => vecSel (c.getP w.rc) (c.getV w.ra) (c.getV w.rb)

/-- VBCAST: the low bits of a scalar in every lane. -/
def opVbcast : Nat → Nat → Word128 → State → SlotRes := vecOp tyW fun c w => vecBcast (tyW w) (c.getX w.ra)

/-- VSHUF. -/
def opVshuf : Nat → Nat → Word128 → State → SlotRes := vecOp tyW fun c w => vecShuf (tyW w) (c.getV w.ra) (c.getV w.rb)

/-- VHRED: the reduction in lane 0, zeros above. -/
def opVhred : Nat → Nat → Word128 → State → SlotRes := vecOp tyW fun c w => vecHred w.fmt w.mod (c.getV w.ra)

/-- An FP32 operation on each lane. -/
def fp32Op (f : FFmt → FVal → Nat) : Nat → Nat → Word128 → State → SlotRes :=
  vecOp (fun _ => 32) fun c w => ofLanes 32 ((lanesOf (c.getV w.ra) 32 32).map fun b => f fp32 (fp32.decode b))

def opVrcp := fp32Op frcp
def opVrsqrt := fp32Op frsqrt

/-- VCVT (R262): F in FMT, G in MOD[3:0], PART in MOD[7:4]; elements outside the part keep their value. -/
def opVcvt (e k : Nat) (w : Word128) (s : State) : SlotRes :=
  let r := vecCvt w.fmt (w.mod % 16) (w.mod / 16) ((s.eng e).view.getV w.ra)
  .ok (putV e k w (elemBits (w.mod % 16)) w.rd r.2 r.1 s)

/-- VEXP (R262): exponents as INT16. -/
def opVexp (e k : Nat) (w : Word128) (s : State) : SlotRes :=
  let r := vecExp w.fmt (w.mod / 16) ((s.eng e).view.getV w.ra)
  .ok (putV e k w 16 w.rd r.2 r.1 s)

/-- Value of an even pair of vector registers. -/
def Core.getPair (c : Core) (n : Nat) : Nat := c.getV n + 2 ^ 1024 * c.getV (n + 1)

/-- VMXUNPK (R263): containers to RD, or to the pair RD, RD + 1 for MXFP6; scale bytes to RC. -/
def opVmxunpk (e k : Nat) (w : Word128) (s : State) : SlotRes :=
  let r := mxUnpack w.fmt ((s.eng e).view.getPair w.ra)
  let b := srcBits w.fmt
  let s1 := putV e k w b w.rd (ones 1024) (r.1 % 2 ^ 1024) s
  let s2 := if w.fmt = 6 then putV e k w b (w.rd + 1) (ones 1024) (r.1 / 2 ^ 1024) s1 else s1
  .ok (putV e k w 8 w.rc (ones 1024) r.2 s2)

/-- VMXPK (R263): wire bytes to the pair RD, RD + 1. -/
def opVmxpk (e k : Nat) (w : Word128) (s : State) : SlotRes :=
  let c := (s.eng e).view
  let r := mxPack w.fmt (if w.fmt = 6 then c.getPair w.ra else c.getV w.ra) (c.getV w.rb)
  .ok (putV e k w 8 (w.rd + 1) (ones 1024) (r / 2 ^ 1024) (putV e k w 8 w.rd (ones 1024) (r % 2 ^ 1024) s))

/-- Lane width of VINS: MOD[0]. -/
def insW (w : Word128) : Nat := if w.m 0 then 64 else 32

/-- VINS: one lane replaced by a scalar. -/
def opVins : Nat → Nat → Word128 → State → SlotRes :=
  vecOp insW fun c w => vecIns (insW w) (w.imm % (1024 / insW w)) (c.getV w.ra) (c.getX w.rb)

def execVadd (e : Fin 128) (hw : OpHw) (s : State) : Result := .next (runSlot .V 0x01 opVadd e.val hw s)
def execVsub (e : Fin 128) (hw : OpHw) (s : State) : Result := .next (runSlot .V 0x02 opVsub e.val hw s)
def execVmul (e : Fin 128) (hw : OpHw) (s : State) : Result := .next (runSlot .V 0x03 opVmul e.val hw s)
def execVfma (e : Fin 128) (hw : OpHw) (s : State) : Result := .next (runSlot .V 0x04 opVfma e.val hw s)
def execVmin (e : Fin 128) (hw : OpHw) (s : State) : Result := .next (runSlot .V 0x05 opVmin e.val hw s)
def execVmax (e : Fin 128) (hw : OpHw) (s : State) : Result := .next (runSlot .V 0x06 opVmax e.val hw s)
def execVand (e : Fin 128) (hw : OpHw) (s : State) : Result := .next (runSlot .V 0x07 opVand e.val hw s)
def execVor (e : Fin 128) (hw : OpHw) (s : State) : Result := .next (runSlot .V 0x08 opVor e.val hw s)
def execVxor (e : Fin 128) (hw : OpHw) (s : State) : Result := .next (runSlot .V 0x09 opVxor e.val hw s)
def execVshl (e : Fin 128) (hw : OpHw) (s : State) : Result := .next (runSlot .V 0x0A opVshl e.val hw s)
def execVshr (e : Fin 128) (hw : OpHw) (s : State) : Result := .next (runSlot .V 0x0B opVshr e.val hw s)
def execVsra (e : Fin 128) (hw : OpHw) (s : State) : Result := .next (runSlot .V 0x0C opVsra e.val hw s)
def execVcmp (e : Fin 128) (hw : OpHw) (s : State) : Result := .next (runSlot .V 0x0D opVcmp e.val hw s)
def execVsel (e : Fin 128) (hw : OpHw) (s : State) : Result := .next (runSlot .V 0x0E opVsel e.val hw s)
def execVbcast (e : Fin 128) (hw : OpHw) (s : State) : Result := .next (runSlot .V 0x0F opVbcast e.val hw s)
def execVshuf (e : Fin 128) (hw : OpHw) (s : State) : Result := .next (runSlot .V 0x10 opVshuf e.val hw s)
def execVhred (e : Fin 128) (hw : OpHw) (s : State) : Result := .next (runSlot .V 0x11 opVhred e.val hw s)
def execVrcp (e : Fin 128) (hw : OpHw) (s : State) : Result := .next (runSlot .V 0x12 opVrcp e.val hw s)
def execVrsqrt (e : Fin 128) (hw : OpHw) (s : State) : Result := .next (runSlot .V 0x13 opVrsqrt e.val hw s)
def execVcvt (e : Fin 128) (hw : OpHw) (s : State) : Result := .next (runSlot .V 0x14 opVcvt e.val hw s)
def execVexp (e : Fin 128) (hw : OpHw) (s : State) : Result := .next (runSlot .V 0x15 opVexp e.val hw s)
def execVmxunpk (e : Fin 128) (hw : OpHw) (s : State) : Result := .next (runSlot .V 0x16 opVmxunpk e.val hw s)
def execVmxpk (e : Fin 128) (hw : OpHw) (s : State) : Result := .next (runSlot .V 0x17 opVmxpk e.val hw s)
def execVins (e : Fin 128) (hw : OpHw) (s : State) : Result := .next (runSlot .V 0x18 opVins e.val hw s)

end Sys2Proof.Machine
end

