-- ==== Sys2Proof/Machine/Accum.lean ====
section
/-! DEFINITION. The A slot (R264 to R266, R292 to R296, R299) and the S slot (R267, R268). -/

namespace Sys2Proof.Machine

/-! ## Window operands -/

/-- The window operand of an A operation: a register group or bytes of state SRAM. -/
inductive WinAt where
  | regs (n count : Nat)
  | ram (addr bytes : Nat)
  deriving DecidableEq, Repr

/-- The window operand of a word: `bytes` in state SRAM at a multiple of 128 inside the partition, or `count` registers.
None where the address lies outside (R222, R264). -/
def winAt (s : State) (e : Nat) (w : Word128) (ram : Bool) (count bytes : Nat) : Option WinAt :=
  if ram then
    let g := s.eng e
    let a := addrOf g.view w
    if a % 128 ≠ 0 then none else (ramAddr (s.partOf e g.knotGen.1) a bytes).map fun b => .ram b bytes
  else some (.regs w.rd count)

/-- Bits of a window operand. -/
def WinAt.get (c : Core) : WinAt → Nat
  | .regs n k => ofLanes 6144 ((List.range k).map fun i => c.getW (n + i))
  | .ram a n => leNat (c.ramGet a n)

/-- A register write on its way to a register that an A operation writes under `mask` by cycle `by_`: the later of the two
stands (R230). -/
def PendW.under (d : Dst) (mask by_ : Nat) (p : PendW) : PendW :=
  if p.dst = d ∧ p.due ≤ by_ then { p with mask := p.mask - (p.mask &&& mask) } else p

/-- Write bits of one window register, complete at cycle `by_`. -/
def Core.putWin (c : Core) (n mask v by_ : Nat) : Core :=
  { c.put (.w n) mask v with pend := c.pend.map (PendW.under (.w n) mask by_) }

/-- Write the bytes of state SRAM from `a` on that a mask covers; a store of an M slot still on its way to one of them is
older, and gives way. -/
def Core.ramMasked (c : Core) (a n mask v : Nat) : Core :=
  let on := fun i => laneOf mask 8 i != 0
  let hit := fun (b : Nat × Byte) => decide (a ≤ b.1) && decide (b.1 < a + n) && on (b.1 - a)
  { c with
    sram := List.foldl (fun m i => sput m (a + i) (BitVec.ofNat 8 (laneOf v 8 i)) 0) c.sram ((List.range n).filter on)
    stores := c.stores.map fun p => { p with cells := p.cells.filter fun b => !hit b } }

/-- Write the bits of a window operand that a mask covers, complete l cycles after issue. Later A operations see them at once
(R266). -/
def WinAt.put (g : Engine) (l mask v : Nat) : WinAt → Engine
  | .regs n k =>
    let one := fun (c : Core) i => c.putWin (n + i) (laneOf mask 6144 i) (laneOf v 6144 i) (g.lc + l)
    { g with core := (List.range k).foldl one g.core }
  | .ram a n => { g with core := g.core.ramMasked a n mask v }

/-- The operand's registers or lines are not ready before l cycles after issue (R231). -/
def WinAt.hold (g : Engine) (l : Nat) : WinAt → Engine
  | .regs n k => { g with busy := g.busy ++ (List.range k).map fun i => ⟨some (.w (n + i)), 0, g.lc + l, false⟩ }
  | .ram a n => { g with busy := g.busy ++ (List.range (n / 128)).map fun i => ⟨none, a / 128 + i, g.lc + l, false⟩ }

/-- Write bits of the operand, not ready before l cycles after issue. -/
def WinAt.write (g : Engine) (l mask v : Nat) (x : WinAt) : Engine := WinAt.hold (WinAt.put g l mask v x) l x

/-- The A unit is busy for `occ` cycles, and its result is ready l cycles after issue (R266). -/
def Engine.aUnit (g : Engine) (occ l : Nat) : Engine :=
  { g with aFree := g.lc + occ, aDone := max g.aDone (g.lc + l) }

/-- Cycles the unit and the window port take: 12 lines each way a cycle (R224, R233). -/
def portCycles (x : WinAt) : Nat :=
  match x with
  | .ram _ n => max 1 (ceilDiv (n / 128) 12)
  | .regs _ _ => 1

/-- The guard covers lane i of width b. -/
def laneOn (c : Core) (w : Word128) (b i : Nat) : Bool :=
  match guardVal c w with
  | none => true
  | some p => guardBit p b i

/-- Number of the n lanes of width b that the guard covers. -/
def lanesOn (c : Core) (w : Word128) (b n : Nat) : Nat := ((List.range n).filter (laneOn c w b)).length

/-- Bits of a window operand from bit k up: an INT64 operation leaves lanes 16 to 31 of a register alone. -/
def keepAbove (win k : Nat) : Nat := win / 2 ^ k * 2 ^ k

/-- Lanes of width W of a window changed where the guard covers them. -/
def mapLanes (c : Core) (w : Word128) (b W n win : Nat) (f : Nat → Nat) : Nat :=
  ofLanes W ((List.range n).map fun i => if laneOn c w b i then f i else laneOf win W i) + keepAbove win (W * n)

/-- The bits of a window's n lanes of width W that the guard covers. -/
def coverMask (c : Core) (w : Word128) (b W n : Nat) : Nat :=
  ofLanes W ((List.range n).map fun i => if laneOn c w b i then ones W else 0)

/-- The bits of one window that an operation writes in the lane form of its format. -/
def winMask (c : Core) (w : Word128) : Nat := coverMask c w (srcBits w.fmt) (winBits w.fmt) (aLanes w.fmt)

/-- Count the lines that the window port moves. -/
def countLines (s : State) (e dirs : Nat) (x : WinAt) : State :=
  match x with
  | .ram _ n => pmc s e 0x19 (n / 128 * dirs)
  | .regs _ _ => s

/-- Source of an A operation: a register, or a pair for MXFP6. -/
def aSource (c : Core) (w : Word128) : Nat := if w.fmt = 6 then c.getPair w.rb else c.getV w.rb

/-- AACC (R265): quantise by the anchor in force and add exactly, or add in binary32. -/
def opAacc (e _k : Nat) (w : Word128) (s : State) : SlotRes :=
  match winAt s e w (w.m 0) (winRegs w.fmt) (winBytes w.fmt) with
  | none => .abort causePartition
  | some x =>
    let c := (s.eng e).view
    let win := x.get c
    let gd := guardVal c w
    let v := if w.m 1 then accNative win (c.getV w.rb) (gd.getD 0) gd.isNone
      else accWindow w.fmt win (aSource c w) (c.getV w.rc) (gd.getD 0) gd.isNone c.anchor +
        keepAbove win (winBits w.fmt * aLanes w.fmt)
    let s1 := s.updEng e fun g => (WinAt.write { g with newFlags := g.newFlags ||| (if w.m 1 then 4 else 0) } 4
      (winMask c w) v x).aUnit (portCycles x) 4
    .ok (pmc (countLines s1 e 2 x) e 0x16 (lanesOn c w (srcBits w.fmt) (aLanes w.fmt)))

/-- ALDW (R265): a window register group from its state SRAM image; the lanes that the guard covers. -/
def opAldw (e _k : Nat) (w : Word128) (s : State) : SlotRes :=
  match winAt s e w true 0 (winBytes w.fmt) with
  | none => .abort causePartition
  | some x =>
    let c := (s.eng e).view
    let r := WinAt.regs w.rd (winRegs w.fmt)
    let v := mapLanes c w (srcBits w.fmt) (winBits w.fmt) (aLanes w.fmt) (r.get c) (laneOf (x.get c) (winBits w.fmt))
    .ok (countLines (s.updEng e fun g => (r.write g 4 (winMask c w) v).aUnit (portCycles x) 4) e 1 x)

/-- ASTW (R265): the state SRAM image from a window register group. -/
def opAstw (e _k : Nat) (w : Word128) (s : State) : SlotRes :=
  match winAt s e w true 0 (winBytes w.fmt) with
  | none => .abort causePartition
  | some x =>
    let c := (s.eng e).view
    let r := WinAt.regs w.rd (winRegs w.fmt)
    let v := mapLanes c w (srcBits w.fmt) (winBits w.fmt) (aLanes w.fmt) (x.get c) (laneOf (r.get c) (winBits w.fmt))
    .ok (countLines (s.updEng e fun g => (x.write g 4 (winMask c w) v).aUnit (portCycles x) 4) e 1 x)

/-- Windows of an N + 1 operation, one by one. -/
def windowsOf (w : Word128) (win : Nat) : List Nat :=
  (List.range (w.mod / 8 + 1)).map fun i => laneOf win (8 * winBytes w.fmt) i

/-- ACLR (R265): zero the lanes of N + 1 windows that the guard covers. -/
def opAclr (e _k : Nat) (w : Word128) (s : State) : SlotRes :=
  let n := w.mod / 8
  match winAt s e w (w.m 0) (winRegs w.fmt) ((n + 1) * winBytes w.fmt) with
  | none => .abort causePartition
  | some x =>
    let c := (s.eng e).view
    let vs := (windowsOf w (x.get c)).map fun win =>
      mapLanes c w (srcBits w.fmt) (winBits w.fmt) (aLanes w.fmt) win fun _ => 0
    let mask := ofLanes (8 * winBytes w.fmt) (vs.map fun _ => winMask c w)
    .ok (countLines (s.updEng e fun g =>
      (x.write g (n + 5) mask (ofLanes (8 * winBytes w.fmt) vs)).aUnit (n + 1) (n + 5)) e 1 x)

/-- ARES (R265): Σ S mod 2^31 − 1 over the guarded lanes of N + 1 windows into the residue accumulator. -/
def opAres (e _k : Nat) (w : Word128) (s : State) : SlotRes :=
  let n := w.mod / 8
  match winAt s e w (w.m 0) (winRegs w.fmt) ((n + 1) * winBytes w.fmt) with
  | none => .abort causePartition
  | some x =>
    let c := (s.eng e).view
    let r := ((windowsOf w (x.get c)).map fun win => winResidue w.fmt (mapLanes c w (srcBits w.fmt) (winBits w.fmt)
      (aLanes w.fmt) 0 (laneOf win (winBits w.fmt)))).sum
    .ok (countLines (s.updEng e fun g => { g with newRes := g.newRes + r }.aUnit (n + 1) (n + 5)) e 1 x)

/-- AADDW (R265): a loaded window register added lane by lane. -/
def opAaddw (e _k : Nat) (w : Word128) (s : State) : SlotRes :=
  match winAt s e w (w.m 0) 1 768 with
  | none => .abort causePartition
  | some x =>
    let c := (s.eng e).view
    let W := if w.fmt = 8 then 96 else 192
    let gd := guardVal c w
    let v := addWindows W (6144 / W) (x.get c) (c.getW w.rb) (gd.getD 0) gd.isNone
    let s1 := s.updEng e fun g => (x.write g 4 (coverMask c w (1024 / (6144 / W)) W (6144 / W)) v).aUnit 1 4
    .ok (pmc (countLines s1 e 2 x) e 0x16 (lanesOn c w (1024 / (6144 / W)) (6144 / W)))

/-- What ARND writes: destination, scales, flags, and the window with its covered lanes cleared. -/
def roundOut (c : Core) (w : Word128) (wf : Nat) (native : Bool) (win : Nat) : RndOut :=
  let seen := mapLanes c w (srcBits w.fmt) (winBits wf) (aLanes wf) 0 (laneOf win (winBits wf))
  if native then roundNative w.fmt seen else roundWindow wf w.fmt c.anchor seen

/-- ARND (R265, R295, R296, R299): round the window once into F; MOD[2] zeroes it. -/
def opArnd (e k : Nat) (w : Word128) (s : State) : SlotRes :=
  let kn := s.knot (s.eng e).knotGen.1
  let wf := winFormat kn
  match winAt s e w (w.m 0) (winRegs wf) (winBytes wf) with
  | none => .abort causePartition
  | some x =>
    let c := (s.eng e).view
    let win := x.get c
    let r := roundOut c w wf kn.native win
    let fl := (if r.ovf then 1 else 0) + (if r.nan then 2 else 0) + (if kn.native then 4 else 0)
    let b := srcBits w.fmt
    let s1 := s.updEng e fun g =>
      let g1 := { g with newFlags := g.newFlags ||| fl }.laterCycle k 6 false (.v w.rd) (laneMask c w b) (r.dest % 2 ^ 1024)
      let g2 := if w.fmt = 6 then g1.laterCycle k 6 false (.v (w.rd + 1)) (laneMask c w b) (r.dest / 2 ^ 1024) else g1
      let g3 := if isMx w.fmt then g2.laterCycle k 6 false (.v w.rc) (laneMask c w 8) r.scales else g2
      let g4 := if w.m 2 then x.write g3 6 (coverMask c w b (winBits wf) (aLanes wf)) 0 else g3
      g4.aUnit 1 6
    .ok (countLines s1 e (if w.m 2 then 2 else 1) x)

def execAacc (e : Fin 128) (hw : OpHw) (s : State) : Result := .next (runSlot .A 0x01 opAacc e.val hw s)
def execAldw (e : Fin 128) (hw : OpHw) (s : State) : Result := .next (runSlot .A 0x02 opAldw e.val hw s)
def execAstw (e : Fin 128) (hw : OpHw) (s : State) : Result := .next (runSlot .A 0x03 opAstw e.val hw s)
def execAclr (e : Fin 128) (hw : OpHw) (s : State) : Result := .next (runSlot .A 0x04 opAclr e.val hw s)
def execArnd (e : Fin 128) (hw : OpHw) (s : State) : Result := .next (runSlot .A 0x05 opArnd e.val hw s)
def execAres (e : Fin 128) (hw : OpHw) (s : State) : Result := .next (runSlot .A 0x06 opAres e.val hw s)
def execAaddw (e : Fin 128) (hw : OpHw) (s : State) : Result := .next (runSlot .A 0x07 opAaddw e.val hw s)

/-! ## S slot -/

/-- The S unit is busy for `occ` cycles and its results are ready l cycles after issue. -/
def Engine.sUnitBusy (g : Engine) (occ l : Nat) : Engine :=
  { g with sFree := g.lc + occ, sDone := max g.sDone (g.lc + l) }

/-- SMRG (R268): 1 cycle per 16 keys consumed plus 4. -/
def opSmrg (e k : Nat) (w : Word128) (s : State) : SlotRes :=
  let c := (s.eng e).view
  let r := smrg (w.m 0) (w.m 1) (w.m 2) (w.m 3) (c.getV w.ra) (c.getV w.rb)
  let occ := max 1 (ceilDiv r.2.2.2 16)
  .ok (s.updEng e fun g =>
    ((((g.laterCycle k (occ + 4) true (.v w.rd) (ones 1024) r.1).laterCycle k (occ + 4) true (.v (w.rd + 1)) (ones 1024)
      r.2.1).laterCycle k (occ + 4) true (.x w.rc) (ones 64) r.2.2.1).sUnitBusy occ (occ + 4)))

/-- SSORT (R267). The spec gives no latency; one pass of 16 keys is taken (DEDUCED, log entry 44). -/
def opSsort (e k : Nat) (w : Word128) (s : State) : SlotRes :=
  let r := ssort (w.m 0) ((s.eng e).view.getV w.ra)
  .ok (s.updEng e fun g => ((g.laterCycle k 5 true (.v w.rd) (ones 1024) r.1).laterCycle k 5 true (.v (w.rd + 1)) (ones 1024)
    r.2).sUnitBusy 1 5)

/-- SFIND (R267). -/
def opSfind (e k : Nat) (w : Word128) (s : State) : SlotRes :=
  let c := (s.eng e).view
  .ok (s.updEng e fun g => (g.laterCycle k 5 true (.x w.rd) (ones 64) (sfind (w.m 0) (c.getV w.ra) (c.getX w.rb))).sUnitBusy 1 5)

def execSmrg (e : Fin 128) (hw : OpHw) (s : State) : Result := .next (runSlot .S 0x01 opSmrg e.val hw s)
def execSsort (e : Fin 128) (hw : OpHw) (s : State) : Result := .next (runSlot .S 0x02 opSsort e.val hw s)
def execSfind (e : Fin 128) (hw : OpHw) (s : State) : Result := .next (runSlot .S 0x03 opSfind e.val hw s)

end Sys2Proof.Machine
end

