-- ==== Sys2Proof/Machine/Crypto.lean ====
section
/-! DEFINITION. SHA-256 (FIPS 180-4) and HMAC-SHA-256 (RFC 2104), which the spec names for notices, management messages and
measurements (R359, R393, R403). -/

namespace Sys2Proof.Machine

/-! ## The constants -/

/-- Integer k-th root of m, found from bit n - 1 down, on top of the bits in r. -/
def rootFrom (k m : Nat) : Nat → Nat → Nat
  | 0, r => r
  | n + 1, r => rootFrom k m n (if (r + 2 ^ n) ^ k ≤ m then r + 2 ^ n else r)

/-- First 32 bits of the fraction of the k-th root of p. -/
def rootFraction (k p : Nat) : Word := BitVec.ofNat 32 (rootFrom k (p * 2 ^ (32 * k)) 40 0)

/-- A number below 361 is prime. -/
def smallPrime (n : Nat) : Bool := decide (2 ≤ n) && [2, 3, 5, 7, 11, 13, 17].all fun d => n == d || n % d != 0

/-- The first 64 primes. -/
def shaPrimes : List Nat := (List.range 312).filter smallPrime

/-- The constants of the rounds: cube roots of the first 64 primes. -/
def shaRounds : List Word := shaPrimes.map (rootFraction 3)

/-- The hash value before the first block: square roots of the first eight primes. -/
def shaStart : List Word := (shaPrimes.take 8).map (rootFraction 2)

/-! ## One block -/

/-- Exclusive-or of a word's rotations to the right. -/
def spin (w : Word) (ns : List Nat) : Word := (ns.map w.rotateRight).foldl (· ^^^ ·) 0

/-- The word that joins the schedule behind sixteen others, the oldest first. -/
def shaNext (win : List Word) : Word :=
  let at_ := fun i => win.getD i 0
  at_ 0 + at_ 9 + (spin (at_ 1) [7, 18] ^^^ (at_ 1 >>> 3)) + (spin (at_ 14) [17, 19] ^^^ (at_ 14 >>> 10))

/-- Working words and schedule window through one round with constant `k`. -/
def shaTurn (st : List Word × List Word) (k : Word) : List Word × List Word :=
  match st with
  | ([a, b, c, d, e, f, g, h], win) =>
    let t := h + spin e [6, 11, 25] + (g ^^^ (e &&& (f ^^^ g))) + k + win.headD 0
    let u := spin a [2, 13, 22] + ((a &&& (b ||| c)) ||| (b &&& c))
    ([t + u, a, b, c, d + t, e, f, g], win.tail ++ [shaNext win])
  | st => st

/-- Hash value after a block of 64 bytes. -/
def shaAbsorb (hash : List Word) (block : Bytes) : List Word :=
  let win := (List.range 16).map fun i => BitVec.ofNat 32 (beNat ((block.drop (4 * i)).take 4))
  List.zipWith (· + ·) hash (shaRounds.foldl shaTurn (hash, win)).1

/-! ## Messages -/

/-- SHA-256 of a message: a one bit, zeros, and the bit length fill the last block. -/
def sha256 (m : Bytes) : Bytes :=
  let full := padTo ((m.length + 72) / 64 * 64 - 8) (m ++ [0x80]) ++ beBytes (m.length * 8) 8
  let blocks := (List.range (full.length / 64)).map fun i => (full.drop (64 * i)).take 64
  (blocks.foldl shaAbsorb shaStart).flatMap fun w => beBytes w.toNat 4

/-- HMAC-SHA-256 under a key of at most 64 bytes. -/
def hmac (key m : Bytes) : Bytes :=
  let k := padTo 64 key
  sha256 (k.map (· ^^^ 0x5C) ++ sha256 (k.map (· ^^^ 0x36) ++ m))

end Sys2Proof.Machine
end

