-- ==== Sys2Proof/Machine/Scalar.lean ====
section
/-! DEFINITION. The C slot: scalar arithmetic and branches (R269, R270), the operations on segment control records (R271 to
R273), on knot fields and timers (R274, R275), and the synchronisation operations (R271). -/

namespace Sys2Proof.Machine

/-! ## Scalars (R269) -/

/-- Write a scalar or predicate with latency 1. -/
def putC (e k : Nat) (d : Dst) (v : Nat) (s : State) : State := s.updEng e fun g => g.later k 1 d d.full v

/-- A scalar operation on x[RA] and x[RB]. -/
def xOp (f : Word128 → Nat → Nat → Nat) (e k : Nat) (w : Word128) (s : State) : SlotRes :=
  let c := (s.eng e).view
  .ok (putC e k (.x w.rd) (f w (c.getX w.ra) (c.getX w.rb) % 2 ^ 64) s)

/-- Shift amount: (x[RB] + IMM) mod 64. -/
def shAmt (w : Word128) (b : Nat) : Nat := (b + w.imm) % 64

def opAdd : Nat → Nat → Word128 → State → SlotRes := xOp fun _ a b => a + b
def opSub : Nat → Nat → Word128 → State → SlotRes := xOp fun _ a b => a + 2 ^ 64 - b
def opAnd : Nat → Nat → Word128 → State → SlotRes := xOp fun _ a b => a &&& b
def opOr : Nat → Nat → Word128 → State → SlotRes := xOp fun _ a b => a ||| b
def opXor : Nat → Nat → Word128 → State → SlotRes := xOp fun _ a b => a ^^^ b
def opShl : Nat → Nat → Word128 → State → SlotRes := xOp fun w a b => a * 2 ^ shAmt w b
def opShr : Nat → Nat → Word128 → State → SlotRes := xOp fun w a b => a / 2 ^ shAmt w b
def opSra : Nat → Nat → Word128 → State → SlotRes := xOp fun w a b => tc 64 (sx 64 a / (2 ^ shAmt w b : Nat))
def opMul : Nat → Nat → Word128 → State → SlotRes := xOp fun _ a b => a * b
def opAddi : Nat → Nat → Word128 → State → SlotRes := xOp fun w a _ => a + w.imm
def opLi : Nat → Nat → Word128 → State → SlotRes := xOp fun w _ _ => w.imm
def opAddm : Nat → Nat → Word128 → State → SlotRes := xOp fun _ a b => (a % resM + b % resM) % resM
/-- EXT: IMM[13:8] + 1 bits from bit IMM[5:0] up. -/
def opExt : Nat → Nat → Word128 → State → SlotRes := xOp fun w a _ => a / 2 ^ (w.imm % 64) % 2 ^ (w.imm / 256 % 64 + 1)

/-- Conditions of CMP and CMPI: 0 eq, 1 ne, 2 lt, 3 ltu, 4 le, 5 leu. -/
def condHolds (c a b : Nat) : Bool :=
  match c with
  | 0 => a == b
  | 1 => a != b
  | 2 => decide (sx 64 a < sx 64 b)
  | 3 => decide (a < b)
  | 4 => decide (sx 64 a ≤ sx 64 b)
  | _ => decide (a ≤ b)

/-- All ones or all zeros. -/
def allOnes (b : Bool) : Nat := if b then ones 64 else 0

def opCmp (e k : Nat) (w : Word128) (s : State) : SlotRes :=
  let c := (s.eng e).view
  .ok (putC e k (.p w.rd) (allOnes (condHolds w.mod (c.getX w.ra) (c.getX w.rb))) s)
def opCmpi (e k : Nat) (w : Word128) (s : State) : SlotRes :=
  .ok (putC e k (.p w.rd) (allOnes (condHolds w.mod ((s.eng e).view.getX w.ra) w.imm)) s)

/-- VX: 64-bit lane IMM[3:0] of a vector. -/
def opVx (e k : Nat) (w : Word128) (s : State) : SlotRes :=
  .ok (putC e k (.x w.rd) (laneOf ((s.eng e).view.getV w.ra) 64 (w.imm % 16)) s)
def opPmov (e k : Nat) (w : Word128) (s : State) : SlotRes := .ok (putC e k (.p w.rd) ((s.eng e).view.getX w.ra) s)
def opXp (e k : Nat) (w : Word128) (s : State) : SlotRes := .ok (putC e k (.x w.rd) ((s.eng e).view.getP w.ra) s)

/-- PLOG: 0 and, 1 or, 2 xor, 3 and-not. -/
def opPlog (e k : Nat) (w : Word128) (s : State) : SlotRes :=
  let c := (s.eng e).view
  let a := c.getP w.ra
  let b := c.getP w.rb
  .ok (putC e k (.p w.rd) (match w.mod with
    | 0 => a &&& b
    | 1 => a ||| b
    | 2 => a ^^^ b
    | _ => a &&& (ones 64 - b % 2 ^ 64)) s)

/-! ## Branches (R230, R270) -/

/-- Branch to a braid after two delay braids; not inside the delay braids of a taken branch. -/
def takeBranch (e target : Nat) (s : State) : SlotRes :=
  if (s.eng e).branch.isSome then .abort causeIllegal
  else .ok (pmc (s.updEng e fun g => { g with branch := some (target, 2) }) e 0x13 1)

def opBr (e _k : Nat) (w : Word128) (s : State) : SlotRes := takeBranch e w.imm s
def opJal (e k : Nat) (w : Word128) (s : State) : SlotRes := takeBranch e w.imm (putC e k (.x w.rd) ((s.eng e).pc + 3) s)
def opJr (e _k : Nat) (w : Word128) (s : State) : SlotRes := takeBranch e ((s.eng e).view.getX w.ra) s

/-- END (R275): no later braid issues. -/
def opEnd (e _k : Nat) (_w : Word128) (s : State) : SlotRes := .ok (s.updEng e fun g => { g with ended := true })

/-! ## Segment control records (R272, R273) -/

/-- A segment control record: its first 16 bytes by field, and where it lies. -/
structure SegRec where
  at_ : Nat
  count : Nat
  status : Nat
  sealed : Bool
  passed : Bool
  busy : Bool
  seg : Nat
  csum : Nat
  deriving DecidableEq, Repr

/-- Read the record at a partition offset; none outside the partition or off its 128-byte grid. -/
def readRec (s : State) (e : Nat) (c : Core) (a : Nat) : Option SegRec :=
  if a % 128 ≠ 0 then none
  else (ramAddr (s.partOf e (s.eng e).knotGen.1) a 256).map fun b =>
    let w := leNat (c.ramGet b 8)
    { at_ := b, count := w % 65536, status := w / 2 ^ 16 % 256, sealed := w.testBit 24, passed := w.testBit 25,
      busy := w.testBit 26, seg := w / 2 ^ 32, csum := leNat (c.ramGet (b + 8) 8) % 2 ^ 31 }

/-- Write the fields of a record back. -/
def writeRec (s : State) (e : Nat) (r : SegRec) : State :=
  let w := r.count % 65536 + r.status % 256 * 2 ^ 16 + (if r.sealed then 2 ^ 24 else 0) + (if r.passed then 2 ^ 25 else 0) +
    (if r.busy then 2 ^ 26 else 0) + r.seg % 2 ^ 32 * 2 ^ 32
  s.updEng e fun g => { g with core := (g.core.ramPut r.at_ (leBytes w 8)).ramPut (r.at_ + 8) (leBytes (r.csum % 2 ^ 31) 8) }

/-- Two's complement of a small negative. -/
def negX (n : Nat) : Nat := 2 ^ 64 - n

/-- The segment was sampled and given up. -/
def State.xchkDone (s : State) (e knot gen seg : Nat) : Bool := (s.eng e).xdone.contains (knot, gen, seg)

/-- Give up the sample of a segment, if a partner holds one (R345). -/
def xchkDrop (s : State) (e knot gen seg : Nat) : State :=
  match s.partnerOf e knot gen fun x => x.seg == seg with
  | some q => xchkAbandon s q
  | none => s

/-- Copy a recorded contribution into the partner's check input queue; a full queue of 64 cells gives the sample up (R344). -/
def xchkCopy (s : State) (e : Nat) (d : Dispatch) (seg : Nat) : State :=
  match s.partnerOf e d.knot d.gen fun x => x.seg == seg with
  | none => s
  | some q =>
    match (s.eng q).xchk, (s.eng e).rxAt d.cell with
    | some x, some f =>
      let used := (x.queue.map fun i => cellsOf i.payload.length).sum
      if 64 < used + cellsOf f.payload.length then xchkAbandon s q
      else
        let item : XchkIn := ⟨f.payload, d.hdr.w5.toNat - seg, (s.eng e).core.anchor, isWindowFrame d.hdr⟩
        s.updEng q fun g => { g with xchk := some { x with queue := x.queue ++ [item] } }
    | _, _ => s

/-- KARR (R273): record the sender's arrival. -/
def opKarr (e k : Nat) (w : Word128) (s : State) : SlotRes :=
  let g := s.eng e
  let c := g.view
  match g.disp with
  | none => .ok s
  | some d =>
    if d.kind ≠ 0 then .abort causeIllegal
    else match readRec s e c (c.getX w.ra) with
      | none => .abort causePartition
      | some r =>
        let seg := c.getX w.rb % 2 ^ 32
        let m := d.member
        let byteAt := r.at_ + 16 + m / 8
        let old := (sget c.sram byteAt 0).toNat
        if r.sealed then .ok (putC e k (.x w.rd) (negX 3) s)
        else if r.busy ∧ r.seg ≠ seg then .ok (putC e k (.x w.rd) (negX 2) s)
        else if old.testBit (m % 8) then .ok (putC e k (.x w.rd) (negX 1) s)
        else
          let n := (r.count + 1) % 65536
          let s1 := writeRec s e { r with busy := true, seg := seg, count := n }
          let s2 := s1.updEng e fun g =>
            { g with core := g.core.ramPut byteAt [BitVec.ofNat 8 (setMaskBit old (m % 8) true)] }
          .ok (putC e k (.x w.rd) n (xchkCopy s2 e d seg))

/-- KCSUM (R271): the sender's checksum into CSUM. A checksum of M or above is bad and must fail the segment (R300): CSUM
then takes the value M, which no residue equals, and keeps it. -/
def opKcsum (e _k : Nat) (w : Word128) (s : State) : SlotRes :=
  let c := (s.eng e).view
  match readRec s e c (c.getX w.ra) with
  | none => .abort causePartition
  | some r =>
    let x := c.getX w.rb
    .ok (writeRec s e { r with csum := if r.csum = resM ∨ resM ≤ x then resM else (r.csum + x % resM) % resM })

/-- The knot logic hears of a failed segment: KNOT_COUNT index 10, its sample given up (R273, R345). -/
def segFailed (s : State) (e knot gen seg : Nat) : State := (xchkDrop s e knot gen seg).knotCount (e / 16) 10

/-- KSEAL (R273). -/
def opKseal (e k : Nat) (w : Word128) (s : State) : SlotRes :=
  let g := s.eng e
  let c := g.view
  let (kn, gen) := g.knotGen
  match readRec s e c (c.getX w.ra) with
  | none => .abort causePartition
  | some r =>
    if r.sealed then .ok (putC e k (.p w.rd) 0 s)
    else
      let st := if r.count ≠ (s.knot kn).expected then 0x04
        else if r.csum ≠ c.getX w.rb % resM then 0x15 else r.status
      let s1 := writeRec s e { r with sealed := true, status := st, passed := decide (st = 0) }
      let s2 :=
        if st = 0 then
          let s3 := s1.knotCount (e / 16) 9
          match s3.partnerOf e kn gen fun x => x.seg == r.seg with
          | some q => s3.updEng q fun g => { g with xchk := g.xchk.map fun x =>
              { x with csum := some r.csum, sealAt := s.now } }
          | none => s3
        else segFailed s1 e kn gen r.seg
      .ok (putC e k (.p w.rd) (allOnes (decide (st = 0))) s2)

/-- Codes of Table 0.8. -/
def isStatus (n : Nat) : Bool := n ≤ 4 || (0x10 ≤ n && n ≤ 0x18) || n == 0x1F

/-- KFAIL (R273): IMM[7:0] is the status; 0 and codes outside Table 0.8 are illegal. -/
def opKfail (e _k : Nat) (w : Word128) (s : State) : SlotRes :=
  let g := s.eng e
  let c := g.view
  let (kn, gen) := g.knotGen
  let st := w.imm % 256
  if st = 0 ∨ !isStatus st then .abort causeIllegal
  else match readRec s e c (c.getX w.ra) with
    | none => .abort causePartition
    | some r => .ok (segFailed (writeRec s e { r with sealed := true, passed := false, status := st }) e kn gen r.seg)

/-- KFREE (R271): zero the record. -/
def opKfree (e _k : Nat) (w : Word128) (s : State) : SlotRes :=
  let c := (s.eng e).view
  match readRec s e c (c.getX w.ra) with
  | none => .abort causePartition
  | some r => .ok (s.updEng e fun g => { g with core := g.core.ramPut r.at_ (zeros 256) })

/-! ## Knot fields and timer (R274, R275) -/

/-- Value of a knot field by its KRD code (Table 10.14). -/
def knotField (x : Knot) (code : Nat) : Option Nat :=
  match code with
  | 0 => some x.type
  | 1 => some x.expected
  | 2 => some x.format
  | 3 => some (tc 64 x.anchor)
  | 4 => some x.gen
  | 5 => some x.jobTag
  | 6 => some (if x.native then 1 else 0)
  | 7 => some x.resultAddr
  | 8 => some x.serviceAddr
  | 9 => some (x.get 10 31 0 + 2 ^ 32 * x.get 11 31 0)
  | _ => none

/-- KRD. -/
def opKrd (e k : Nat) (w : Word128) (s : State) : SlotRes :=
  match knotField (s.knot (s.eng e).knotGen.1) w.imm with
  | none => .abort causeIllegal
  | some v => .ok (putC e k (.x w.rd) v s)

/-- Set a knot's ANCHOR; dispatches take it when they begin. -/
def setAnchor (s : State) (k a : Nat) : State :=
  s.updKnot k fun x => x.setWord 1 (BitVec.ofNat 32 (x.get 1 31 16 * 65536 + a % 65536))

/-- KWR: ANCHOR and USER are writable. -/
def opKwr (e _k : Nat) (w : Word128) (s : State) : SlotRes :=
  let g := s.eng e
  let v := g.view.getX w.ra
  let kn := g.knotGen.1
  if w.imm = 3 then .ok (setAnchor s kn v)
  else if w.imm = 9 then .ok (s.updKnot kn fun x =>
    (x.setWord 10 (BitVec.ofNat 32 v)).setWord 11 (BitVec.ofNat 32 (v / 2 ^ 32)))
  else .abort causeIllegal

/-- Fabric time with its wrap count. -/
def State.fab64 (s : State) : Nat := s.wraps * 2 ^ 32 + s.now

/-- KTIMER: arm the knot's timer for x[RA] ns, or cancel it. -/
def opKtimer (e _k : Nat) (w : Word128) (s : State) : SlotRes :=
  let g := s.eng e
  let n := g.view.getX w.ra
  .ok (s.updKnot g.knotGen.1 fun x => { x with timer := if n = 0 then none else some (s.fab64 + n) })

/-! ## Synchronisation (R271) -/

/-- SANC: the anchor for the rest of the dispatch. -/
def opSanc (e _k : Nat) (w : Word128) (s : State) : SlotRes :=
  .ok (s.updEng e fun g => { g with core := { g.core with anchor := toSigned 16 (g.view.getX w.ra) } })

/-- ASTAT: read and clear the A-unit flags. -/
def opAstat (e k : Nat) (w : Word128) (s : State) : SlotRes :=
  .ok (putC e k (.x w.rd) (s.eng e).view.flags (s.updEng e fun g => { g with core := { g.core with flags := 0 } }))

/-- RDRES: read and clear the residue accumulator. -/
def opRdres (e k : Nat) (w : Word128) (s : State) : SlotRes :=
  .ok (putC e k (.x w.rd) (s.eng e).view.res (s.updEng e fun g => { g with core := { g.core with res := 0 } }))

/-- WAIT: its braid has issued, so the conditions in MOD hold (R228). -/
def opWait (_e _k : Nat) (_w : Word128) (s : State) : SlotRes := .ok s

/-- HSTAT: Hold operations outstanding and the last status. -/
def opHstat (e k : Nat) (w : Word128) (s : State) : SlotRes :=
  .ok (putC e k (.x w.rd) ((s.hold.ops.filter fun o => o.engine == e).length % 256 * 256 + (s.eng e).holdLast % 256) s)

/-- RDCYC: ENGINE_CYCLE. -/
def opRdcyc (e k : Nat) (w : Word128) (s : State) : SlotRes :=
  .ok (putC e k (.x w.rd) ((s.engCycle e) % 2 ^ 64) s)

/-- RDTIME: the wrap count and fabric time. -/
def opRdtime (e k : Nat) (w : Word128) (s : State) : SlotRes := .ok (putC e k (.x w.rd) s.fab64 s)

/-! ## Meanings -/

def execAddOp (e : Fin 128) (hw : OpHw) (s : State) : Result := .next (runSlot .C 0x01 opAdd e.val hw s)
def execSubOp (e : Fin 128) (hw : OpHw) (s : State) : Result := .next (runSlot .C 0x02 opSub e.val hw s)
def execAndOp (e : Fin 128) (hw : OpHw) (s : State) : Result := .next (runSlot .C 0x03 opAnd e.val hw s)
def execOrOp (e : Fin 128) (hw : OpHw) (s : State) : Result := .next (runSlot .C 0x04 opOr e.val hw s)
def execXorOp (e : Fin 128) (hw : OpHw) (s : State) : Result := .next (runSlot .C 0x05 opXor e.val hw s)
def execShl (e : Fin 128) (hw : OpHw) (s : State) : Result := .next (runSlot .C 0x06 opShl e.val hw s)
def execShr (e : Fin 128) (hw : OpHw) (s : State) : Result := .next (runSlot .C 0x07 opShr e.val hw s)
def execSra (e : Fin 128) (hw : OpHw) (s : State) : Result := .next (runSlot .C 0x08 opSra e.val hw s)
def execMulOp (e : Fin 128) (hw : OpHw) (s : State) : Result := .next (runSlot .C 0x09 opMul e.val hw s)
def execAddi (e : Fin 128) (hw : OpHw) (s : State) : Result := .next (runSlot .C 0x0A opAddi e.val hw s)
def execLi (e : Fin 128) (hw : OpHw) (s : State) : Result := .next (runSlot .C 0x0B opLi e.val hw s)
def execAddm (e : Fin 128) (hw : OpHw) (s : State) : Result := .next (runSlot .C 0x0C opAddm e.val hw s)
def execCmp (e : Fin 128) (hw : OpHw) (s : State) : Result := .next (runSlot .C 0x0D opCmp e.val hw s)
def execCmpi (e : Fin 128) (hw : OpHw) (s : State) : Result := .next (runSlot .C 0x0E opCmpi e.val hw s)
def execExtOp (e : Fin 128) (hw : OpHw) (s : State) : Result := .next (runSlot .C 0x0F opExt e.val hw s)
def execVx (e : Fin 128) (hw : OpHw) (s : State) : Result := .next (runSlot .C 0x10 opVx e.val hw s)
def execPmov (e : Fin 128) (hw : OpHw) (s : State) : Result := .next (runSlot .C 0x11 opPmov e.val hw s)
def execXp (e : Fin 128) (hw : OpHw) (s : State) : Result := .next (runSlot .C 0x12 opXp e.val hw s)
def execPlog (e : Fin 128) (hw : OpHw) (s : State) : Result := .next (runSlot .C 0x13 opPlog e.val hw s)
def execBr (e : Fin 128) (hw : OpHw) (s : State) : Result := .next (runSlot .C 0x20 opBr e.val hw s)
def execJal (e : Fin 128) (hw : OpHw) (s : State) : Result := .next (runSlot .C 0x21 opJal e.val hw s)
def execJr (e : Fin 128) (hw : OpHw) (s : State) : Result := .next (runSlot .C 0x22 opJr e.val hw s)
def execEndOp (e : Fin 128) (hw : OpHw) (s : State) : Result := .next (runSlot .C 0x30 opEnd e.val hw s)
def execKarr (e : Fin 128) (hw : OpHw) (s : State) : Result := .next (runSlot .C 0x31 opKarr e.val hw s)
def execKcsum (e : Fin 128) (hw : OpHw) (s : State) : Result := .next (runSlot .C 0x32 opKcsum e.val hw s)
def execKseal (e : Fin 128) (hw : OpHw) (s : State) : Result := .next (runSlot .C 0x33 opKseal e.val hw s)
def execKfail (e : Fin 128) (hw : OpHw) (s : State) : Result := .next (runSlot .C 0x34 opKfail e.val hw s)
def execKfree (e : Fin 128) (hw : OpHw) (s : State) : Result := .next (runSlot .C 0x35 opKfree e.val hw s)
def execKrd (e : Fin 128) (hw : OpHw) (s : State) : Result := .next (runSlot .C 0x36 opKrd e.val hw s)
def execKwr (e : Fin 128) (hw : OpHw) (s : State) : Result := .next (runSlot .C 0x37 opKwr e.val hw s)
def execKtimer (e : Fin 128) (hw : OpHw) (s : State) : Result := .next (runSlot .C 0x38 opKtimer e.val hw s)
def execSanc (e : Fin 128) (hw : OpHw) (s : State) : Result := .next (runSlot .C 0x39 opSanc e.val hw s)
def execAstat (e : Fin 128) (hw : OpHw) (s : State) : Result := .next (runSlot .C 0x3A opAstat e.val hw s)
def execRdres (e : Fin 128) (hw : OpHw) (s : State) : Result := .next (runSlot .C 0x3B opRdres e.val hw s)
def execWaitOp (e : Fin 128) (hw : OpHw) (s : State) : Result := .next (runSlot .C 0x3C opWait e.val hw s)
def execHstat (e : Fin 128) (hw : OpHw) (s : State) : Result := .next (runSlot .C 0x3D opHstat e.val hw s)
def execRdcyc (e : Fin 128) (hw : OpHw) (s : State) : Result := .next (runSlot .C 0x3E opRdcyc e.val hw s)
def execRdtime (e : Fin 128) (hw : OpHw) (s : State) : Result := .next (runSlot .C 0x3F opRdtime e.val hw s)

end Sys2Proof.Machine
end

