-- ==== Sys2Proof/Machine/EngineCtl.lean ====
section
/-! DEFINITION. Control of a splice engine (R220, R221, R225, R234 to R242): frames into the receive area, the start and end of
dispatches, timers, START, HALT, RESET, the layout, and the gated clock. -/

namespace Sys2Proof.Machine

/-- Receive cell c holds part of a frame, or lies outside the area. -/
def Engine.rxTaken (g : Engine) (c : Nat) : Bool :=
  decide (384 ≤ c) || g.rx.any fun f => decide (f.cell ≤ c) && decide (c < f.cell + f.cells)

/-- First cells at which a frame of n cells fits. Its cells follow one another, since `x1` is the byte offset of its header
and the program addresses its other bytes from there (Table 9.3); it lies at an end of the free cells it takes, so that it
never divides them. -/
def Engine.rxRoom (g : Engine) (n : Nat) : List Nat :=
  (List.range 384).filter fun c =>
    ((List.range n).all fun i => !g.rxTaken (c + i)) && (c == 0 || g.rxTaken (c - 1) || g.rxTaken (c + n))

/-- Something arrived for an engine: a gated one asks to wake (R242). -/
def wakeAsk (s : State) (e : Nat) : State :=
  if s.bit (engReg R.ENGINE_STATUS e) F.ENGINE_STATUS_GATED then s.updEng e fun g => { g with waking := true } else s

/-- What the SRAM checks of an engine found outside the slots (R240): an uncorrectable error stops an engine that runs; one in
another state keeps it (Table 9.9). -/
def hwOutside (s : State) (e : Nat) (hw : OpHw) : State :=
  match hw with
  | .corrected r l y => eccCorrected s e r.val l.toNat y.toNat
  | .uncorrectable r l y =>
    let kg := (s.eng e).knotGen
    let s1 := fileEngine s e 2 1 0xFF 0 kg.1 kg.2 [r.val * 65536 + y.toNat, l.toNat] r.val
    let cause := if r.val = 0 then causeStateEcc else if r.val = 1 then causeRegEcc else causeImemEcc
    if !s.engTakes e then s1
    else if (s.eng e).disp.isSome then abortDispatch s1 e cause 4
    else enterFault (noteFault s1 e cause (s.eng e).pc kg.1) e
  | _ => s

/-- Drop a frame whose staging cells hold an uncorrectable error (R240), with its record (R342). -/
def dropBadStaging (s : State) (e : Nat) : State :=
  fileEngine (s.engCount e 2) e 2 1 0xFF 0 0 0 [3 * 65536] 3

/-- Write a frame into cells of the receive area and queue its dispatch. -/
def receiveFrame (s : State) (e id cell : Nat) : State :=
  let f := s.frm id
  let r : RxFrame := { cell := cell, cells := cellsOf (hLen f.frame.hdr), hdr := f.frame.hdr, payload := f.frame.payload,
                       inDie := f.inDie, inPort := f.inPort, tc := f.tc, member := f.member, retained := false }
  let s1 := s.updEng e fun g =>
    { g.stageIn (cell * 256) (frameBytes f.frame) with
      rx := g.rx ++ [r], frameQ := g.frameQ ++ [cell], rxWait := g.rxWait.drop 1 }
  pmc ((wakeAsk (discardFrame s1 id) e).engCount e 3) e 0x14 1

/-- ENGINE_FRAME_ARRIVE (R225): the next frame the engine slot has for engine e is written whole where cells for it are
free; which of the places is open. An engine that takes no dispatch drops it (R235). -/
def doEngineFrameArrive (e : Nat) (bad : Bool) (s : State) : State :=
  match (s.eng e).rxWait with
  | [] => s
  | id :: rest =>
    let n := cellsOf (hLen (s.frm id).frame.hdr)
    let pop := s.updEng e fun g => { g with rxWait := rest }
    if !s.engTakes e then discardFrame (pop.engCount e 5) id
    else if bad then discardFrame (dropBadStaging pop e) id
    else
      let room := (s.eng e).rxRoom n
      match room with
      | [] => s
      | c :: _ =>
        let (x, s1) := s.drawFree 9
        receiveFrame s1 e id (room.getD (x % room.length) c)

def execEngineFrameArrive (e : Fin 128) (bad : Bool) (hw : OpHw) (s : State) : Result :=
  .next (hwOutside (doEngineFrameArrive e.val bad s) e.val hw)

/-! ## Dispatch (R220, R221) -/

/-- Registers of Table 9.3, as a list of (register, value), and p0. -/
def dispatchRegs (c : Core) (xs : List (Nat × Nat)) : Core :=
  (xs.foldl (fun c r => c.put (.x r.1) (ones 64) r.2) c).put (.p 0) (ones 64) (ones 64)

/-- Clear every v, w, x and p register. -/
def Core.clearRegs (c : Core) : Core := { c with x := [], v := [], w := [], p := [] }

/-- Begin a dispatch: registers written, issue state fresh, anchor loaded, residue accumulator and flags clear (R266). -/
def beginDispatch (s : State) (e : Nat) (d : Dispatch) (xs : List (Nat × Nat)) : State :=
  let x := s.knot d.knot
  let g := s.eng e
  let c0 := if g.lastJob = x.jobTag + 1 then g.core else g.core.clearRegs
  let c1 := { dispatchRegs c0 xs with anchor := x.anchor, res := 0, flags := 0 }
  let s1 := s.setEng e { g with
    core := c1, hist := [], pc := x.entry, slot := 0, issued := false, count := 0, branch := none, ended := false,
    lc := 3, aFree := 0, sFree := 0, pFree := 0, aDone := 0, sDone := 0, busy := [], newFlags := 0, newRes := 0,
    issues := [(2, 0), (1, 0), (0, 0)], met := 0, disp := some { d with serial := g.serial }, serial := g.serial + 1,
    lastJob := x.jobTag + 1 }
  let sc : Scatter := { engine := e, serial := g.serial, knot := d.knot, gen := x.gen, dest := hSrc d.hdr,
                        word3 := d.hdr.w3.toNat, tc := hTc d.hdr, wants := d.kind == 0 && hResp d.hdr,
                        txn := x.param.testBit 15, bad := 0, ended := false, settled := false }
  let s2 := if x.type = 10 then { s1 with hold := { s1.hold with scatters := s1.hold.scatters ++ [sc] } } else s1
  let st := engReg R.ENGINE_STATUS e
  pmc (((s2.setEngState e 4).setF st F.ENGINE_STATUS_DISPATCH d.kind).setF st F.ENGINE_STATUS_PC x.entry) e 0x0B 1

/-- A CONTROL dispatch: operation in x4, generation in x5 (R291). -/
def beginControl (s : State) (e k op gen : Nat) : State :=
  beginDispatch s e ⟨2, k, gen, 0, 65535, Header.zero, 0, [], 0⟩
    [(1, 0), (2, k * 2 ^ 18), (3, gen), (4, op), (5, gen), (6, 0), (7, 2 * 2 ^ 16)]

/-- A TIMER dispatch. The spec gives a timer no operation code and no argument: x4 and x5 are free. -/
def beginTimer (s : State) (e k : Nat) : State :=
  let (a, s1) := s.drawFree 32
  let (b, s2) := s1.drawFree 32
  let gen := (s.knot k).gen
  beginDispatch s2 e ⟨1, k, gen, 0, 65535, Header.zero, 0, [], 0⟩
    [(1, 0), (2, k * 2 ^ 18), (3, gen), (4, a), (5, b), (6, 0), (7, 2 ^ 16)]

/-- A FRAME dispatch. The port of a frame that entered by none is free. -/
def beginFrame (s : State) (e : Nat) (f : RxFrame) : State :=
  let (port, s1) := if f.inPort = 255 then s.drawFree 8 else (f.inPort, s)
  beginDispatch s1 e ⟨0, hKnot f.hdr, hGen f.hdr, f.cell, f.member, f.hdr, f.tc, [], 0⟩
    [(1, f.cell * 256), (2, f.hdr.w4.toNat), (3, f.hdr.w3.toNat), (4, f.hdr.w5.toNat), (5, f.hdr.w6.toNat),
     (6, f.hdr.w2.toNat), (7, f.inDie * 256 + port)]

/-- ENGINE_DISPATCH (R220): a READY engine that runs, on a die that is not held (R415), takes the head of CONTROL, or else of TIMER, or else of FRAME. -/
def doEngineDispatch (e : Nat) (bad : Bool) (s : State) : State :=
  let g := s.eng e
  if s.engState e ≠ 3 ∨ s.bit (engReg R.ENGINE_STATUS e) F.ENGINE_STATUS_GATED ∨ g.disp.isSome ∨ s.dieHeld (e / 16) then s
  else match g.control, g.timer, g.frameQ with
    | (k, op, gen) :: rest, _, _ => beginControl (s.setEng e { g with control := rest }) e k op gen
    | [], k :: rest, _ => beginTimer (s.setEng e { g with timer := rest }) e k
    | [], [], c :: rest =>
      match g.rxAt c with
      | none => s.setEng e { g with frameQ := rest }
      | some f =>
        if bad then
          (dropBadStaging (s.setEng e { g with frameQ := rest, rx := g.rx.filter fun r => r.cell != c }) e).markIdle e
        else beginFrame (s.setEng e { g with frameQ := rest }) e f
    | [], [], [] => s

def execEngineDispatch (e : Fin 128) (bad : Bool) (hw : OpHw) (s : State) : Result :=
  .next (hwOutside (doEngineDispatch e.val bad s) e.val hw)

/-- DISPATCH_END (R275): END has executed; what is in the pipeline completes, the frame's cells and the locks are released. -/
def doDispatchEnd (e : Nat) (s : State) : State :=
  match (s.eng e).disp with
  | none => s
  | some d =>
    if !(s.eng e).ended then s
    else
      let s1 := (tagDrain s e).updEng e fun g => (g.freeFrame d).idle
      afterDispatch ((endHold s1 e d.serial).engCount e 0) e

def execDispatchEnd (e : Fin 128) (s : State) : Result := .next (doDispatchEnd e.val s)

/-- DISPATCH_BUDGET (R238): BUDGET braids have issued and none held END. -/
def doDispatchBudget (e : Nat) (s : State) : State :=
  let g := s.eng e
  if g.disp.isSome && !g.ended && !g.issued && g.slot == 0 &&
      decide (s.fld (engReg R.ENGINE_DISPATCH_CTRL e) F.ENGINE_DISPATCH_CTRL_BUDGET ≤ g.count) then
    abortDispatch s e causeBudget 4
  else s

def execDispatchBudget (e : Fin 128) (s : State) : Result := .next (doDispatchBudget e.val s)

/-- KNOT_TIMER_EXPIRE (R275): the time of a knot's timer is reached; a TIMER dispatch is queued. -/
def doKnotTimerExpire (k : Nat) (s : State) : State :=
  let x := s.knot k
  match x.timer with
  | none => s
  | some t =>
    if t ≤ s.fab64 ∧ (x.state = 1 ∨ x.state = 2) then
      wakeAsk ((s.setKnot k { x with timer := none }).updEng x.home fun g => { g with timer := g.timer ++ [k] }) x.home
    else s

def execKnotTimerExpire (k : Fin 16384) (s : State) : Result := .next (doKnotTimerExpire k.val s)

/-! ## START, HALT, RESET (R234 to R237) -/

/-- The GATE_EN bit of a write to ENGINE_CTRL. -/
def writeGateEn (s : State) (e : Nat) (gate : Bool) : State :=
  s.setF (engReg R.ENGINE_CTRL e) F.ENGINE_CTRL_GATE_EN (if gate then 1 else 0)

/-- An operation or layout write that the engine's state does not accept. -/
def opRefused (s : State) (e : Nat) : State := engEvent s e F.ENGINE_EVENT_OP_REFUSED

/-- The engine arrives in HALTED (R235). -/
def enterHalted (s : State) (e : Nat) : State :=
  engEvent ((s.setEngState e 1).setF (engReg R.ENGINE_STATUS e) F.ENGINE_STATUS_GATED 0) e F.ENGINE_EVENT_HALTED

/-- OP START. -/
def opEngineStart (e : Nat) (s : State) : State := if s.engState e = 1 then s.setEngState e 2 else opRefused s e

/-- ENGINE_START (R234, R237). -/
def execEngineStart (e : Fin 128) (gate : Bool) (s : State) : Result :=
  .next (opEngineStart e.val (writeGateEn s e.val gate))

/-- Result of the instruction check: CRC-32C over the bytes of braids 0 to LIMIT - 1 (R237). -/
def startStatus (s : State) (e : Nat) : Nat :=
  let limit := s.fld (engReg R.ENGINE_IMEM_CTRL e) F.ENGINE_IMEM_CTRL_LIMIT
  if limit = 0 ∨ 2048 < limit then 0x10
  else if crc32c (sgets (s.eng e).imem 0 (limit * 128) 0) = (s.rd (engReg R.ENGINE_IMEM_CRC e)).toNat then 0
  else 0x15

/-- ENGINE_START_CHECK_DONE (R237). -/
def doStartCheckDone (e : Nat) (s : State) : State :=
  if s.engState e ≠ 2 then s
  else
    let st := startStatus s e
    let s1 := s.setF (engReg R.ENGINE_STATUS e) F.ENGINE_STATUS_START_STATUS st
    let s2 := if st = 0 then (s1.setEngState e 3).markIdle e else enterHalted s1 e
    engEvent s2 e F.ENGINE_EVENT_START_DONE

def execEngineStartCheckDone (e : Fin 128) (s : State) : Result := .next (doStartCheckDone e.val s)

/-- OP HALT (R235). -/
def opEngineHalt (e : Nat) (s : State) : State :=
  if s.homed e ≠ 0 then opRefused s e
  else if s.engState e = 3 then enterHalted s e
  else if s.engState e = 4 then s.setEngState e 5
  else opRefused s e

/-- ENGINE_HALT. -/
def execEngineHalt (e : Fin 128) (gate : Bool) (s : State) : Result :=
  .next (opEngineHalt e.val (writeGateEn s e.val gate))

/-- Drop every frame in an engine's packet staging: received, held, and sent but not yet begun; index 5 each (R236). -/
def dropStaging (s : State) (e : Nat) : State :=
  let s1 := (s.eng e).rx.foldl (fun s _ => s.engCount e 5) s
  let waiting := ((s1.txFrames e).filter fun x => !s1.sendBegun x.1).map (·.1)
  let s2 := waiting.foldl (fun s id => recallFrame (s.engCount e 5) id) s1
  s2.updEng e fun g => { g with rx := [], frameQ := [], heldRes := [] }

/-- Clear the tag sample buffer of an engine. -/
def clearTagBuf (s : State) (e : Nat) : State :=
  let lo := (R.ENGINE_TAG_BUF (e / 16) (e % 16) 0 0).addr
  { s with regs := s.regs.filter fun r => !(decide (lo ≤ r.1) && decide (r.1 < lo + 0x2000)) }

/-- Steps 1 to 5 of R239 for the dispatch that a reset of its engine ends. The reset is none of the causes of Table 9.10: whether
it is told as a program or a hardware cause is open. -/
def resetAborts (s : State) (e : Nat) : State :=
  match (s.eng e).disp with
  | none => s
  | some d =>
    let hw := Config.freeBool s.free
    abortSteps { s with free := s.free + 1 } e (if hw then causeResidue else causeIllegal) d ((s.eng e).rollback 4)

/-- A unit reset of an engine (R236): it keeps instruction memory and the counters. -/
def resetEngine (s : State) (e : Nat) : State :=
  let s1 := xchkAbandon (dropStaging (orphanAll (resetAborts s e) e) e) e
  let s2 := s1.updEng e fun g =>
    { Engine.init with imem := g.imem, serial := g.serial, rxWait := g.rxWait, base := g.base, xdone := g.xdone,
                       tagSeq := g.tagSeq }
  let st := engReg R.ENGINE_STATUS e
  (((((clearTagBuf s2 e).wr (engReg R.ENGINE_FAULT_INFO e) 0).setEngState e 0).setF st F.ENGINE_STATUS_GATED 0).setF st
    F.ENGINE_STATUS_DISPATCH 3)

/-- What a warm, cold or transit-preserving reset does to an engine (R236): a unit reset that also clears instruction memory and
the counters, and returns every register to its reset value. A retired engine stays retired (R356). -/
def resetEngineAll (s : State) (e : Nat) : State :=
  let s1 := resetEngine s e
  let lo := (engReg R.ENGINE_CTRL e).addr
  let here := fun (a : Nat) => decide (lo ≤ a) && decide (a < lo + 0x10000)
  let s2 : State := { s1 with
    regs := s1.regs.filter fun r => !here r.1
    heldLow := s1.heldLow.filter fun r => !here r.1
    capHigh := s1.capHigh.filter fun r => !here r.1 }
  let s3 := s2.updEng e fun g => { g with imem := [], tagSeq := 0, base := s.pwr.clk }
  s3.setEngState e (if s.engState e = 7 then 7 else 0)

/-- OP RESET: accepted in every state except RESET and RETIRED. -/
def opEngineReset (e : Nat) (s : State) : State :=
  if s.engState e = 0 ∨ s.engState e = 7 then opRefused s e else resetEngine s e

/-- ENGINE_RESET. -/
def execEngineReset (e : Fin 128) (gate : Bool) (s : State) : Result :=
  .next (opEngineReset e.val (writeGateEn s e.val gate))

/-- ENGINE_RESET_DONE (R236): the RESET state ends in HALTED. -/
def execEngineResetDone (e : Fin 128) (s : State) : Result :=
  .next (if s.engState e.val = 0 then enterHalted s e.val else s)

/-- ENGINE_LAYOUT_WRITE (R223): the layout changes only in HALTED. -/
def doEngineLayoutWrite (e : Nat) (v : Word) (s : State) : State :=
  if s.engState e = 1 then s.setF (engReg R.ENGINE_PART_CTRL e) F.ENGINE_PART_CTRL_LAYOUT (v.toNat % 4)
  else opRefused s e

def execEngineLayoutWrite (e : Fin 128) (value : Word) (s : State) : Result :=
  .next (doEngineLayoutWrite e.val value s)

/-! ## Clock gating (R241, R242) -/

/-- No dispatch is pending. -/
def Engine.noWork (g : Engine) : Bool :=
  g.disp.isNone && g.control.isEmpty && g.timer.isEmpty && g.frameQ.isEmpty && g.rxWait.isEmpty

/-- ENGINE_GATE (R241): an engine READY that has had no dispatch pending for GATE_IDLE cycles stops its clock. -/
def doEngineGate (e : Nat) (s : State) : State :=
  if s.bit (engReg R.ENGINE_CTRL e) F.ENGINE_CTRL_GATE_EN && s.engState e == 3 && (s.eng e).noWork &&
      decide ((s.eng e).idleAt + s.fld (engReg R.ENGINE_DISPATCH_CTRL e) F.ENGINE_DISPATCH_CTRL_GATE_IDLE ≤ s.pwr.clk) then
    s.setBit (engReg R.ENGINE_STATUS e) F.ENGINE_STATUS_GATED
  else s

def execEngineGate (e : Fin 128) (s : State) : Result := .next (doEngineGate e.val s)

/-- ENGINE_WAKE: the wake of a gated engine ends, and it is counted. -/
def doEngineWake (e : Nat) (s : State) : State :=
  let st := engReg R.ENGINE_STATUS e
  if s.bit st F.ENGINE_STATUS_GATED && (s.eng e).waking then
    pmc (((s.setF st F.ENGINE_STATUS_GATED 0).updEng e fun g =>
      { g with waking := false, idleAt := s.pwr.clk }).engCount e 6) e 0x18 1
  else s

def execEngineWake (e : Fin 128) (s : State) : Result := .next (doEngineWake e.val s)

end Sys2Proof.Machine
end

