-- ==== Sys2Proof/Machine/Fec.lean ====
section
/-! DEFINITION. The codeword of a lane: RS(544,514) over GF(2^10) (R35), the 257-bit blocks and the scrambler (R36), PRBS31
(R81). -/

namespace Sys2Proof.Machine

/-! ## GF(2^10), field polynomial x^10 + x^3 + 1 -/

/-- x times a field element. -/
def gfX (a : Nat) : Nat := if 512 ≤ a then (2 * a - 1024) ^^^ 9 else 2 * a

/-- Product of field elements: `n` bits of b from the top, with the sum so far. -/
def gfMulFrom (a b : Nat) : Nat → Nat → Nat
  | 0, acc => acc
  | n + 1, acc => gfMulFrom a b n (if b.testBit n then gfX acc ^^^ a else gfX acc)

def gfMul (a b : Nat) : Nat := if a = 0 ∨ b = 0 then 0 else gfMulFrom a b 10 0

/-- Power of a field element. -/
def gfPow (a : Nat) : Nat → Nat
  | 0 => 1
  | n + 1 => gfMul (gfPow a n) a

/-- α^n, with α = x. -/
def gfAlpha : Nat → Nat
  | 0 => 1
  | n + 1 => gfX (gfAlpha n)

/-- Inverse: a^1022 as nine factors a^2, a^4, to a^512. -/
def gfInv (a : Nat) : Nat :=
  ((List.range 9).foldl (fun (p : Nat × Nat) _ => let q := gfMul p.1 p.1; (q, gfMul p.2 q)) (a, 1)).2

/-- Sum of polynomials, lowest coefficient first. -/
def polyAdd : List Nat → List Nat → List Nat
  | [], q => q
  | p, [] => p
  | a :: p, b :: q => (a ^^^ b) :: polyAdd p q

/-- A polynomial times a field element. -/
def polyScale (c : Nat) (p : List Nat) : List Nat := p.map (gfMul c)

/-- Value of a polynomial, lowest coefficient first. -/
def polyEval (p : List Nat) (x : Nat) : Nat := p.foldr (fun c v => c ^^^ gfMul x v) 0

/-! ## The code (R35): 30 parity symbols, roots α^0 to α^29 -/

/-- The generator without its leading 1, lowest coefficient first. -/
def rsGen : List Nat :=
  ((List.range 30).foldl (fun g j => polyAdd (0 :: g) (polyScale (gfAlpha j) g)) [1]).take 30

/-- One step of the division that makes the parity; the register holds the highest coefficient first. -/
def rsShift (gen : List Nat) (reg : List Nat) (m : Nat) : List Nat :=
  let f := m ^^^ reg.headD 0
  (List.zip (reg.drop 1 ++ [0]) gen).map fun p => p.1 ^^^ gfMul f p.2

/-- The 30 parity symbols of a message, in transmission order. -/
def rsParity (msg : List Nat) : List Nat :=
  let gen := rsGen.reverse
  msg.foldl (rsShift gen) (List.replicate 30 0)

/-- A codeword: the message symbols and their parity. -/
def rsEncode (msg : List Nat) : List Nat := msg ++ rsParity msg

/-- The 30 syndromes of a received word. -/
def rsSyndromes (r : List Nat) : List Nat :=
  (List.range 30).map fun j => let a := gfAlpha j; r.foldl (fun v c => gfMul a v ^^^ c) 0

/-- State of the search for the shortest recurrence that the syndromes obey: the locator, the last one before its length
grew, that one's discrepancy, the length, and the shift since. -/
structure RsSearch where
  loc : List Nat
  old : List Nat
  oldDisc : Nat
  len : Nat
  shift : Nat

/-- Take syndrome n into the search. -/
def rsSearchStep (syn : List Nat) (t : RsSearch) (n : Nat) : RsSearch :=
  let d := ((List.range (t.len + 1)).map fun i => gfMul (t.loc.getD i 0) (syn.getD (n - i) 0)).foldl (· ^^^ ·) 0
  if d = 0 then { t with shift := t.shift + 1 }
  else
    let fixed := polyAdd t.loc (List.replicate t.shift 0 ++ polyScale (gfMul d (gfInv t.oldDisc)) t.old)
    if 2 * t.len ≤ n then { loc := fixed, old := t.loc, oldDisc := d, len := n + 1 - t.len, shift := 1 }
    else { t with loc := fixed, shift := t.shift + 1 }

/-- The error locator of some syndromes. -/
def rsLocator (syn : List Nat) : List Nat :=
  ((List.range 30).foldl (rsSearchStep syn) { loc := [1], old := [1], oldDisc := 1, len := 0, shift := 1 }).loc

/-- Formal derivative: the odd coefficients move down one place. -/
def polyDeriv (p : List Nat) : List Nat :=
  (p.drop 1).zipIdx.map fun c => if c.2 % 2 = 0 then c.1 else 0

/-- Product of two polynomials below degree 30. -/
def polyMulMod (p q : List Nat) : List Nat :=
  (List.range 30).map fun k =>
    ((List.range (k + 1)).map fun i => gfMul (p.getD i 0) (q.getD (k - i) 0)).foldl (· ^^^ ·) 0

/-- A field element divided by x: the inverse of x is x^9 + x^2. -/
def gfDivX (a : Nat) : Nat := if a % 2 = 0 then a / 2 else (a / 2) ^^^ 516

/-- n powers of the inverse of α, from a on. -/
def invPowers : Nat → Nat → List Nat
  | 0, _ => []
  | n + 1, a => a :: invPowers n (gfDivX a)

/-- Positions in error, by power of x, with the values to add there. -/
def rsErrors (syn : List Nat) : List (Nat × Nat) :=
  let loc := rsLocator syn
  let num := polyMulMod syn loc
  let den := polyDeriv loc
  ((invPowers 544 1).zipIdx.filter fun e => polyEval loc e.1 == 0).map fun e =>
    (e.2, gfMul (gfInv e.1) (gfMul (polyEval num e.1) (gfInv (polyEval den e.1))))

/-- Add the errors to a received word. -/
def rsFix (r : List Nat) (es : List (Nat × Nat)) : List Nat :=
  r.zipIdx.map fun c =>
    match es.find? fun e => e.1 == 543 - c.2 with
    | some e => c.1 ^^^ e.2
    | none => c.1

/-- Decode 544 received symbols: the corrected codeword and how many symbols were corrected, at most 15; none where it is
uncorrectable. -/
def rsDecode (r : List Nat) : Option (List Nat × Nat) :=
  let syn := rsSyndromes r
  if syn.all (· == 0) then some (r, 0)
  else
    let es := rsErrors syn
    let c := rsFix r es
    if es.length ≤ 15 ∧ (rsSyndromes c).all (· == 0) then some (c, es.length) else none

/-! ## Bits (R35, R36) -/

/-- The number that some values of w bits make, the first most significant. -/
def packBits (w : Nat) (vs : List Nat) : Nat := vs.foldl (fun n v => n * 2 ^ w + v % 2 ^ w) 0

/-- n values of w bits that make a number, the first most significant. -/
def unpackBits (w n : Nat) (v : Nat) : List Nat := (List.range n).map fun i => v / 2 ^ (w * (n - 1 - i)) % 2 ^ w

/-- Descramble 256 bits after the 58 received before them, newest in bit 0. -/
def descramble (scr v : Nat) : Nat :=
  let x := scr % 2 ^ 58 * 2 ^ 256 + v
  (x ^^^ (x / 2 ^ 39) ^^^ (x / 2 ^ 58)) % 2 ^ 256

/-- The last 58 bits after 256 more. -/
def nextScr (_scr v : Nat) : Nat := v % 2 ^ 58

/-- Scramble n bits of v from the top after the 58 bits sent before them: s := d xor s at 39 and at 58 bits before. -/
def scrambleFrom (v : Nat) : Nat → Nat → Nat → Nat
  | 0, _, out => out
  | n + 1, scr, out =>
    let b := (if v.testBit n then 1 else 0) ^^^ (scr / 2 ^ 38 % 2) ^^^ (scr / 2 ^ 57 % 2)
    scrambleFrom v n (scr % 2 ^ 57 * 2 + b) (out * 2 + b)

def scramble (scr v : Nat) : Nat := scrambleFrom v 256 scr 0

/-- The block that 257 received bits hold, after the scrambler state. -/
def blockOf (scr bits : Nat) : Block :=
  ⟨bits.testBit 256, beBytes (descramble scr (bits % 2 ^ 256)) 32⟩

/-- The blocks of a message, in order, and the scrambler state after them. -/
def readBlocks (scr : Nat) (ws : List Nat) : List Block × Nat :=
  ws.foldl (fun (p : List Block × Nat) w => (p.1 ++ [blockOf p.2 w], nextScr p.2 (w % 2 ^ 256))) ([], scr)

/-- The twenty 257-bit groups of a message of 514 symbols. -/
def msgBlocks (msg : List Nat) : List Nat := unpackBits 257 20 (packBits 10 (msg.take 514))

/-- What stands in a slot of a codeword to be sent: a block, or 256 bits of pattern that are not scrambled (R81). -/
inductive SlotBits where
  | block (b : Block)
  | pattern (v : Nat)
  deriving DecidableEq, Repr

/-- The 257 bits of a slot, and the scrambler state after them. The state holds the last 58 bits sent, pattern bits too
(DESIGN CHOICE, log entry 101). -/
def slotBits (scr : Nat) : SlotBits → Nat × Nat
  | .block b =>
    let v := scramble scr (beNat b.bytes)
    ((if b.control then 2 ^ 256 else 0) + v, nextScr scr v)
  | .pattern v => (v, nextScr scr v)

/-- The 544 symbols of a codeword that carries some slots, and the scrambler state after it. -/
def makeCodeword (scr : Nat) (slots : List SlotBits) : List Nat × Nat :=
  let (ws, t) := slots.foldl (fun (p : List Nat × Nat) b => let (v, n) := slotBits p.2 b; (p.1 ++ [v], n)) ([], scr)
  (rsEncode (unpackBits 10 514 (packBits 257 ws)), t)

/-! ## PRBS31 (R81): x^31 + x^28 + 1 -/

/-- n bits of the pattern after a state of 31 bits, newest in bit 0: the bits, first most significant, and the state after. -/
def prbsBits : Nat → Nat → Nat → Nat × Nat
  | 0, st, out => (out, st)
  | n + 1, st, out =>
    let b := (st / 2 ^ 30 % 2) ^^^ (st / 2 ^ 27 % 2)
    prbsBits n (st % 2 ^ 30 * 2 + b) (out * 2 + b)

/-- The patterns of n data slots, and the state after. -/
def prbsSlots : Nat → Nat → List SlotBits × Nat
  | 0, st => ([], st)
  | n + 1, st =>
    let (v, st1) := prbsBits 256 st 0
    let (rest, st2) := prbsSlots n st1
    (.pattern v :: rest, st2)

end Sys2Proof.Machine
end

