-- ==== Sys2Proof/Machine/Tables.lean ====
section
/-! DEFINITION. The meanings of the table and transaction rows: staged writes, table operations, insertion and learning, the
transaction states, scrubbing (R150, R157, R160, R163 to R171). -/

namespace Sys2Proof.Machine

/-! ## Status codes (Table 0.8) -/

def stCompleted : Nat := 0x00
def stCancelled : Nat := 0x01
def stAlreadyDone : Nat := 0x02
def stSuspended : Nat := 0x03
def stPartial : Nat := 0x04
def stBadArgument : Nat := 0x10
def stKnotTooLarge : Nat := 0x11
def stStaleGeneration : Nat := 0x12
def stNoQuorum : Nat := 0x13
def stOverflow : Nat := 0x14
def stChecksum : Nat := 0x15
def stTableFull : Nat := 0x16
def stUnitRetired : Nat := 0x17
def stNotAdmitted : Nat := 0x18
def stInternal : Nat := 0x1F

/-! ## Transaction state (Table 6.8) -/

def txIdle : Nat := 0
def txBeginWait : Nat := 1
def txOpen : Nat := 2
def txPending : Nat := 3
def txCatchup : Nat := 4
def txAborting : Nat := 5

def State.txn (s : State) : Nat := s.fld (R.TXN_STATUS 0) F.TXN_STATUS_STATE
def State.setTxn (s : State) (n : Nat) : State := s.setF (R.TXN_STATUS 0) F.TXN_STATUS_STATE n

/-- Set a TXN_EVENT bit (vector 60). -/
def txnEvent (s : State) (f : Fld) : State := setEvent s 60 (R.TXN_EVENT 0) f

/-- Refuse a write: no effect but TXN_EVENT.REFUSED (R165). -/
def txnRefuse (s : State) : State := txnEvent s F.TXN_EVENT_REFUSED

/-- Change the tables. -/
def State.updTabs (s : State) (f : Tables → Tables) : State := { s with tabs := f s.tabs }

/-- JOURNAL_USED as the journal stands. -/
def showJournal (s : State) : State := s.setF (R.TXN_STATUS 0) F.TXN_STATUS_JOURNAL_USED s.tabs.journal.length

/-- A die is up (R34). -/
def State.dieUp (s : State) (d : Nat) : Bool := (s.fld R.DIE_STATUS F.DIE_STATUS_DIE_UP).testBit d

/-- The staged slot. -/
def State.staged (s : State) : Nat := s.genBit + 1

/-- Enter OPEN with an owner and an empty journal. -/
def openTxn (s : State) (owner : Nat) : State :=
  (showJournal (s.updTabs fun t => { t with journal := [], owner := owner })).setTxn txOpen

/-- BEGIN (R165, R169). -/
def doBegin (owner : Nat) (s : State) : State :=
  let s1 := s.setF (R.TXN_CTRL 0) F.TXN_CTRL_OWNER owner
  if s.txn = txIdle ∧ !s.tabs.transit then openTxn s1 owner
  else if s.txn = txIdle ∨ s.txn = txCatchup then s1.setTxn txBeginWait
  else txnRefuse s

def execTxnBegin (owner : Byte) (s : State) : Result := .next (doBegin owner.toNat s)

/-- The operation comes in OPEN from the transaction's owner. -/
def State.ownsOpen (s : State) (owner : Nat) : Bool := s.txn == txOpen && s.tabs.owner == owner

/-- The location is a staged lanyard register (R123). -/
def isLanyardLoc (l : Nat) : Bool :=
  let a := l - 2 ^ 24
  let o := a % 0x1000000
  decide (2 ^ 24 ≤ l) && decide (0x10000000 ≤ a) &&
    ((decide (0x80000 ≤ o) && decide (o < 0x82000) && (o % 0x1000 == 0x314 || o % 0x1000 == 0x318)) ||
      (decide (0x680000 ≤ o) && decide (o < 0x690000)))

/-- End the transaction as ABORT with a final status (R166, R168). -/
def startAbort (s : State) (status : Nat) : State :=
  (s.updTabs fun t => { t with abortStatus := status, copying := true }).setTxn txAborting

/-- Schedule the flip at T (R166). -/
def pendTxn (s : State) (t : Nat) : State :=
  (s.updTabs fun x => { x with flipAt := t % 2 ^ 32 }).setTxn txPending

/-- COMMIT_NOW: T = fabric time + 1 µs; refused with BAD_ARGUMENT where the journal holds a lanyard register (R123,
R166). -/
def doCommitNow (owner : Nat) (s : State) : State :=
  if !s.ownsOpen owner then txnRefuse s
  else if s.tabs.journal.any isLanyardLoc then startAbort s stBadArgument
  else pendTxn s (s.now + 1000)

def execCommitNow (owner : Byte) (s : State) : Result := .next (doCommitNow owner.toNat s)

/-- COMMIT_AT: T = TXN_TIME, at least 1 µs and less than 2^30 ns ahead. -/
def doCommitAt (owner : Nat) (s : State) : State :=
  let t := (s.rd (R.TXN_TIME 0)).toNat
  if !s.ownsOpen owner then txnRefuse s
  else if s.ahead t < 1000 ∨ 2 ^ 30 ≤ s.ahead t then startAbort s stBadArgument
  else pendTxn s t

def execCommitAt (owner : Byte) (s : State) : Result := .next (doCommitAt owner.toNat s)

/-- ABORT (R165, R168): withdraws a held BEGIN, ends an open or pending transaction, or is late. -/
def doAbort (owner : Nat) (s : State) : State :=
  let own := s.tabs.owner == owner
  let late := txnEvent s F.TXN_EVENT_ABORT_LATE
  if s.txn = txBeginWait then
    if s.fld (R.TXN_CTRL 0) F.TXN_CTRL_OWNER = owner then
      (s.setF (R.TXN_CTRL 0) F.TXN_CTRL_OWNER s.tabs.owner).setTxn (if s.tabs.copying then txCatchup else txIdle)
    else if s.tabs.copying && own then late
    else txnRefuse s
  else if (s.txn = txOpen ∨ s.txn = txPending) ∧ own then startAbort s stCancelled
  else if s.txn = txCatchup ∧ own then late
  else txnRefuse s

/-- ABORT. -/
def execTxnAbort (owner : Byte) (s : State) : Result := .next (doAbort owner.toNat s)

/-! ## Copying between the slots (R167, R168) -/

/-- Locations a journal entry stands for: a PARTITION_BRIDGE entry stands for both halves. -/
def journalCells (l : Nat) : List Nat :=
  let o := (l - 2 ^ 24) % 0x1000000
  if 2 ^ 24 ≤ l ∧ 0x602000 ≤ o ∧ o < 0x602400 ∧ o % 0x10 = 4 then [l, l + 4] else [l]

/-- A good copy of a slot's location stands on another die that is up (R160). -/
def goodElsewhere (s : State) (d g l : Nat) : Bool :=
  ((List.range 7).map fun i => (d + 1 + i) % 8).any fun e =>
    s.dieUp e && !s.tabs.stale.contains e && !s.marked e g l

/-- SCRUB_STATUS.UNREPAIRED of a die as its marks stand. -/
def showScrub (s : State) (d : Nat) : State :=
  s.setF (R.SCRUB_STATUS d) F.SCRUB_STATUS_UNREPAIRED
    (min 65535 (s.tabs.marks.filter fun m => m.die == d && m.seen).length)

/-- Show UNREPAIRED of every die. -/
def showScrubs (s : State) : State := (List.range 8).foldl showScrub s

/-- An entry written again has good parity on every die. -/
def unmark (s : State) (g l : Nat) : State :=
  if s.tabs.marks.any fun m => m.slot == g % 2 && m.loc == l then
    showScrubs (s.updTabs fun t => { t with marks := t.marks.filter fun m => !(m.slot == g % 2 && m.loc == l) })
  else s

/-- Parity marks as a copy of a location from slot `src` leaves them: an error of the source that another die's good copy
repairs goes; one that nothing repairs is counted as unrepaired and stands in both slots (R160). -/
def copiedMarks (s : State) (src l : Nat) : List ParityMark :=
  s.tabs.marks.flatMap fun m =>
    if m.loc ≠ l then [m]
    else if m.slot = src ∧ !goodElsewhere s m.die src l then
      [{ m with seen := true }, { m with slot := (src + 1) % 2, seen := true }]
    else []

/-- The repairs that a copy makes first are logged with REPAIRED 1 (R160, R167). -/
def logRepairs (s : State) (src l : Nat) : State :=
  (s.tabs.marks.filter fun m => m.loc == l && m.slot == src && goodElsewhere s m.die src l).foldl
    (fun u m => logParity u m.die src l true) s

/-- Copy a location from one slot to the other. A bad source is repaired first where another die's copy is good; the rest
keep their parity error in both slots. -/
def copyCell (fromG : Nat) (s : State) (l : Nat) : State :=
  let src := fromG % 2
  let s1 := s.updTabs fun t =>
    (t.setSlot (src + 1) (sput (t.slot (src + 1)) l (sget (t.slot src) l []) []))
  if s.tabs.marks.isEmpty then s1
  else showScrubs ((logRepairs s1 src l).updTabs fun t => { t with marks := copiedMarks s src l })

/-- Copy every journaled location from the active slot into the staged one. -/
def copyJournal (s : State) : State :=
  (s.tabs.journal.flatMap journalCells).foldl (copyCell s.genBit) s

/-- Final status of a transaction, with DONE. -/
def endTxn (s : State) (status : Nat) : State :=
  let s1 := showJournal (s.updTabs fun t => { t with journal := [], copying := false })
  txnEvent (s1.setF (R.TXN_STATUS 0) F.TXN_STATUS_LAST_STATUS status) F.TXN_EVENT_DONE

/-- TXN_CATCHUP_DONE (R167): a held BEGIN opens. -/
def doCatchupDone (s : State) : State :=
  if s.tabs.copying && (s.txn == txCatchup || s.txn == txBeginWait) then
    let s1 := endTxn (copyJournal s) stCompleted
    if s.txn = txCatchup then s1.setTxn txIdle
    else if s.tabs.transit then s1
    else openTxn s1 (s1.fld (R.TXN_CTRL 0) F.TXN_CTRL_OWNER)
  else s

def execTxnCatchupDone (s : State) : Result := .next (doCatchupDone s)

/-- TXN_ABORT_DONE (R168): the staged slot is restored, and LAST_STATUS says how the transaction ended. -/
def doAbortDone (s : State) : State :=
  if s.txn = txAborting then (endTxn (copyJournal s) s.tabs.abortStatus).setTxn txIdle else s

def execTxnAbortDone (s : State) : Result := .next (doAbortDone s)

/-! ## The journal (R164) -/

/-- Journal some locations; none where the journal would pass 65,536 entries. -/
def journalAll (s : State) (ls : List Nat) : Option State :=
  let j := ls.foldl (fun j l => if j.contains l then j else j ++ [l]) s.tabs.journal
  if j.length ≤ 65536 then some (showJournal (s.updTabs fun t => { t with journal := j })) else none

/-- A staged write is taken now: state OPEN, and no transit-preserving reset runs (R169, R171). -/
def State.stageOk (s : State) : Bool := s.txn == txOpen && !s.tabs.transit

/-- Write a staged register, journaled under a location. -/
def stageRegs (s : State) (l : Nat) (ws : List (RegRef × Word)) : State :=
  match journalAll s [l] with
  | none => txnEvent s F.TXN_EVENT_JOURNAL_FULL
  | some t => ws.foldl (fun u w => unmark (u.putSlotReg s.staged w.1 w.2) s.staged (regLoc w.1.addr)) t

/-- Two rota entries use one colour in one direction (R122). -/
def rotaClash (a b : Nat) : Bool :=
  (a.testBit 15 && b.testBit 15 && a / 256 % 32 == b / 256 % 32) ||
  (a.testBit 7 && b.testBit 7 && a % 32 == b % 32)

/-- The bits of a rota entry that Table 5.4 names; the others are reserved and read 0 (R7). -/
def rotaMask : Word := 0x00009F9F#32

/-- A write of a rota entry: refused where another lane's staged entry of the slot has the colour (R122). -/
def stageRota (d lp lane n : Nat) (w : Word) (s : State) : State :=
  let p := 128 + lp
  let v := w &&& rotaMask
  if !s.stageOk then txnRefuse s
  else if (List.range 8).any fun l =>
      l != lane && rotaClash v.toNat (s.rdSlot s.staged (R.LANYARD_ROTA d p l n)).toNat then
    let s1 := (s.setF (R.LANYARD_CONFLICT d p) F.LANYARD_CONFLICT_LANE lane).setF (R.LANYARD_CONFLICT d p)
      F.LANYARD_CONFLICT_SLOT n
    setEvent s1 61 (R.LANYARD_STATUS d p) F.LANYARD_STATUS_CONFLICT
  else
    let r := R.LANYARD_ROTA d p lane n
    stageRegs s (regLoc r.addr) [(r, v)]

/-- The word a write leaves in a staged register: its fields, but for those out of range and a lanyard port's TRUNK. -/
def stagedWord (row : RegRow) (idx : List Nat) (old v : Word) : Word :=
  let w := writeFields false row.fields old v
  match row.reg, idx with
  | .LANYARD_ROTA_STAGE, _ =>
    let p := F.LANYARD_ROTA_STAGE_SLOT_NS.get v
    let n := F.LANYARD_ROTA_STAGE_LENGTH.get v
    let w1 := if 500 ≤ p ∧ p ≤ 64000 then w
      else F.LANYARD_ROTA_STAGE_SLOT_NS.put w (F.LANYARD_ROTA_STAGE_SLOT_NS.get old)
    if 1 ≤ n ∧ n ≤ 1024 then w1 else F.LANYARD_ROTA_STAGE_LENGTH.put w1 (F.LANYARD_ROTA_STAGE_LENGTH.get old)
  | .LANYARD_GUARD_STAGE, _ =>
    let g := F.LANYARD_GUARD_STAGE_GUARD_NS.get v
    if 80 ≤ g ∧ g ≤ 1000 then w else old
  | .PORT_PARTITION, [_, p] => if 128 ≤ p then F.PORT_PARTITION_TRUNK.put w 1 else w
  | _, _ => w

/-- Every field of a staged write lies outside its range: the write is ignored and has no other effect (R7, R136). -/
def stagedIgnored (row : RegRow) (v : Word) : Bool :=
  match row.reg with
  | .LANYARD_ROTA_STAGE =>
    let p := F.LANYARD_ROTA_STAGE_SLOT_NS.get v
    let n := F.LANYARD_ROTA_STAGE_LENGTH.get v
    !(decide (500 ≤ p) && decide (p ≤ 64000)) && !(decide (1 ≤ n) && decide (n ≤ 1024))
  | .LANYARD_GUARD_STAGE =>
    let g := F.LANYARD_GUARD_STAGE_GUARD_NS.get v
    !(decide (80 ≤ g) && decide (g ≤ 1000))
  | _ => false

/-- Write one staged register other than a rota entry or a bridge. -/
def stageOne (row : RegRow) (addr : Nat) (idx : List Nat) (v : Word) (s : State) : State :=
  let r := row.ref addr idx
  if stagedIgnored row v then s
  else if s.stageOk then stageRegs s (regLoc r.addr) [(r, stagedWord row idx (s.rdSlot s.staged r) v)] else txnRefuse s

/-- Both halves of PARTITION_BRIDGE q as one value (R9). -/
def stageBridge (q lo hi : Nat) (s : State) : State :=
  if s.stageOk then
    stageRegs s (regLoc (R.PARTITION_BRIDGE 0 q).addr)
      [(R.PARTITION_BRIDGE 0 q, BitVec.ofNat 32 lo), (R.PARTITION_BRIDGE_HI 0 q, BitVec.ofNat 32 hi)]
  else txnRefuse s

/-- Replicated registers of the forwarding block stand at die 0: the address of the copy the model keeps (R140). -/
def canonAddr (a : Nat) : Nat :=
  let o := a % 0x1000000
  if 0x10000000 ≤ a ∧ a < 0x18000000 ∧ 0x600000 ≤ o ∧ o < 0x610000 ∧ !(0x601000 ≤ o && o < 0x601400) ∧ o ≠ 0x600400 ∧
      o ≠ 0x600404 then 0x10000000 + o
  else a

/-- A held low half is taken by the next write of the high half, else the current low half (R9). -/
def takeHeldLow (s : State) (lowAddr cur : Nat) : Nat × State :=
  match sget s.heldLow lowAddr 0 with
  | 0 => (cur, s)
  | n + 1 => (n, { s with heldLow := sput s.heldLow lowAddr 0 0 })

/-- Hold the low half of a writable pair (R9). -/
def holdLow (s : State) (lowAddr : Nat) (v : Word) : State :=
  { s with heldLow := sput s.heldLow lowAddr (v.toNat + 1) 0 }

/-- A write to a staged register (R163, R171); other addresses are not staged registers and nothing happens. -/
def stagedWrite (addr : Nat) (v : Word) (s : State) : State :=
  match findReg (canonAddr addr) with
  | none => s
  | some (row, idx) =>
    match row.reg, idx with
    | .LANYARD_ROTA, [d, p, l, n] => stageRota d (p - 128) l n v s
    | .PARTITION_BRIDGE, [_, q] => holdLow s (R.PARTITION_BRIDGE 0 q).addr v
    | .PARTITION_BRIDGE_HI, [_, q] =>
      let cur := (s.rdSlot s.staged (R.PARTITION_BRIDGE 0 q)).toNat
      let (lo, s1) := takeHeldLow s (R.PARTITION_BRIDGE 0 q).addr cur
      stageBridge q lo v.toNat s1
    | .NATIVE_BLOCK, i => stageOne row (canonAddr addr) i v s
    | .PORT_PARTITION, i => stageOne row (canonAddr addr) i v s
    | .PARTITION_FLOOD, i => stageOne row (canonAddr addr) i v s
    | .LEARN_RANGE_ADDR, i => stageOne row (canonAddr addr) i v s
    | .LEARN_RANGE_CTRL, i => stageOne row (canonAddr addr) i v s
    | .LANYARD_ROTA_STAGE, i => stageOne row (canonAddr addr) i v s
    | .LANYARD_GUARD_STAGE, i => stageOne row (canonAddr addr) i v s
    | _, _ => s

/-- STAGED_REG_WRITE. -/
def execStagedRegWrite (addr value : Word) (s : State) : Result := .next (stagedWrite addr.toNat value s)

/-! ## Insertion (R150) -/

/-- What an insertion leaves: success, use of the stash, relocations, locations changed, slot and generator. -/
structure Insert where
  ok : Bool
  stash : Bool
  reloc : Nat
  changed : List Nat
  slot : SMap (List Nat)
  rng : Nat
  deriving DecidableEq, Repr

/-- Key at an override location of a slot. -/
def slotKey (m : SMap (List Nat)) (l : Nat) : Nat := entryWord (sget m (tblLoc 1 l) []) 0

/-- First free location of a list. -/
def freeLoc (m : SMap (List Nat)) (ls : List Nat) : Option Nat := ls.find? fun l => slotKey m l == 0

/-- Ways of the bucket of half i that a key has. -/
def waysOf (s : State) (i key : Nat) : List Nat := (List.range 4).map (ovrLoc i (ovrBucket s i key))

/-- Stash locations. -/
def stashLocs : List Nat := (List.range 64).map (524288 + ·)

/-- Random choice among n from the generator: the choice and the generator after. -/
def rngPick (rng n : Nat) : Nat × Nat :=
  let r := lfsrNext rng
  (r / 65536 * n / 65536, r)

/-- Put an entry at an override location. -/
def insPut (x : Insert) (l : Nat) (e : List Nat) : Insert :=
  { x with slot := sput x.slot (tblLoc 1 l) e [], changed := x.changed ++ [tblLoc 1 l] }

/-- Place displaced entries: `n` more relocations allowed, the entry in hand left half `half` (steps 3 to 5). -/
def relocate (s : State) : Nat → List Nat → Nat → Insert → Insert
  | 0, e, _, x =>
    match freeLoc x.slot stashLocs with
    | some l => { insPut x l e with stash := true }
    | none => { x with ok := false }
  | n + 1, e, half, x =>
    let other := 1 - half
    let ways := waysOf s other (entryWord e 0)
    match freeLoc x.slot ways with
    | some l => insPut { x with reloc := x.reloc + 1 } l e
    | none =>
      let (w, r) := rngPick x.rng 4
      let l := ways.getD w 0
      let out := sget x.slot (tblLoc 1 l) []
      relocate s n out other (insPut { x with reloc := x.reloc + 1, rng := r } l e)

/-- Insert a key with its entry into a slot. A failed insertion leaves the slot as it was (step 5). -/
def insertKey (s : State) (m : SMap (List Nat)) (e : List Nat) : Insert :=
  let key := entryWord e 0
  let x : Insert := { ok := true, stash := false, reloc := 0, changed := [], slot := m, rng := s.tabs.rng }
  match (ovrCands s key).find? fun l => slotKey m l == key with
  | some l => insPut x l e
  | none =>
    let b0 := waysOf s 0 key
    let b1 := waysOf s 1 key
    match freeLoc m (b0 ++ b1) with
    | some l => insPut x l e
    | none =>
      let (w, r) := rngPick x.rng 8
      let l := (b0 ++ b1).getD w 0
      let out := sget m (tblLoc 1 l) []
      let y := relocate s 32 out (w / 4) (insPut { x with rng := r } l e)
      if y.ok then y else { y with slot := m, changed := [] }

/-- Location at which a slot holds a key. -/
def keyLoc (s : State) (m : SMap (List Nat)) (key : Nat) : Option Nat :=
  (ovrCands s key).find? fun l => slotKey m l == key && key != 0

/-! ## Learning (R157) -/

/-- Write a learned entry into both slots. -/
def learnWrite (q : LearnReq) (s : State) : State :=
  let res := 2 ^ 31 + 2 ^ 24 + q.die * 256 + q.port
  let x := insertKey s (s.tabs.slot s.staged) [q.src, res, 3 * 2 ^ 30]
  let s1 := s.updTabs fun t => { t with rng := x.rng }
  if x.ok then
    let s2 := x.changed.foldl (fun u l => unmark (unmark u 0 l) 1 l) (s1.updTabs fun t => t.setSlot s.staged x.slot)
    (x.changed.foldl (copyCell s.staged) s2).lookupCount q.die q.pipe 9
  else s1.lookupCount q.die q.pipe 10

/-- LEARN_INSERT: the oldest learn request is carried out while no transaction is in progress; an entry that is not
roaming is never replaced. -/
def doLearnInsert (s : State) : State :=
  match s.tabs.learn with
  | [] => s
  | q :: rest =>
    if s.txn ≠ txIdle then s
    else
      let s1 := s.updTabs fun t => { t with learn := rest }
      match ovrFind s s.genBit q.src with
      | some l => if (s.tword s.genBit (tblLoc 1 l) 2).testBit 31 then learnWrite q s1 else s1
      | none => learnWrite q s1

def execLearnInsert (s : State) : Result := .next (doLearnInsert s)

/-! ## Table operations (R170) -/

/-- Finish a table operation with a status. -/
def tblDone (s : State) (status : Nat) : State := s.setF (R.TBL_STATUS 0) F.TBL_STATUS_STATUS status

/-- Word w of TBL_DATA. -/
def State.tblData (s : State) (w : Nat) : Nat := (s.rd (R.TBL_DATA 0 w)).toNat

/-- The entry in TBL_DATA for a table. -/
def State.tblEntry (s : State) (table : Nat) : List Nat := (List.range (tblWords table)).map s.tblData

/-- Put an entry's words into TBL_DATA. -/
def putTblData (s : State) (table : Nat) (e : List Nat) : State :=
  (List.range (tblWords table)).foldl (fun t w => t.wr (R.TBL_DATA 0 w) (BitVec.ofNat 32 (entryWord e w))) s

def State.tblIndex (s : State) : Nat := s.fld (R.TBL_INDEX 0) F.TBL_INDEX_INDEX

/-- WRITE, INSERT and DELETE are taken only in OPEN from the transaction's owner (R165, R169). -/
def tblGuard (owner : Nat) (s t : State) : State := if s.ownsOpen owner && s.stageOk then t else txnRefuse s

/-- A write that does not fit the journal (R164). -/
def tblJournalFull (s : State) : State := tblDone (txnEvent s F.TXN_EVENT_JOURNAL_FULL) stTableFull

/-- WRITE of an entry of tables 0x2 to 0x9. -/
def tblWrite (table : Nat) (s : State) : State :=
  if table < 2 ∨ tblSize table ≤ s.tblIndex then tblDone s stBadArgument
  else
    let l := tblLoc table s.tblIndex
    match journalAll s [l] with
    | none => tblJournalFull s
    | some t => tblDone (unmark (t.putEntry s.staged l (s.tblEntry table)) s.staged l) stCompleted

/-- TBL_WRITE. -/
def execTblWrite (owner : Byte) (table : Fin 16) (s : State) : Result :=
  .next (tblGuard owner.toNat s (tblWrite table.val s))

/-- Show how an insertion went. -/
def showInsert (s : State) (x : Insert) : State :=
  (s.setF (R.TBL_STATUS 0) F.TBL_STATUS_STASH (if x.stash then 1 else 0)).setF (R.TBL_STATUS 0) F.TBL_STATUS_RELOCATIONS
    x.reloc

/-- INSERT of the key in TBL_DATA. -/
def tblInsert (table : Nat) (s : State) : State :=
  let key := s.tblData 0
  if table ≠ 0 ∨ key = 0 ∨ key = 0xFFFFFFFF then tblDone s stBadArgument
  else
    let x := insertKey s (s.tabs.slot s.staged) (s.tblEntry 0)
    let s1 := showInsert (s.updTabs fun t => { t with rng := x.rng }) x
    if !x.ok then tblDone s1 stTableFull
    else match journalAll s1 x.changed with
      | none => tblJournalFull s1
      | some t =>
        let t1 := x.changed.foldl (fun u l => unmark u s.staged l) (t.updTabs fun y => y.setSlot s.staged x.slot)
        tblDone (t1.setF (R.TBL_INDEX 0) F.TBL_INDEX_INDEX ((keyLoc s x.slot key).getD 0)) stCompleted

/-- INSERT. -/
def execTblInsert (owner : Byte) (table : Fin 16) (s : State) : Result :=
  .next (tblGuard owner.toNat s (tblInsert table.val s))

/-- DELETE of the key in TBL_DATA. -/
def tblDelete (table : Nat) (s : State) : State :=
  match keyLoc s (s.tabs.slot s.staged) (s.tblData 0) with
  | none => tblDone s stBadArgument
  | some k =>
    let l := tblLoc 1 k
    if table ≠ 0 then tblDone s stBadArgument
    else match journalAll s [l] with
      | none => tblJournalFull s
      | some t => tblDone (unmark (t.putEntry s.staged l []) s.staged l) stCompleted

/-- DELETE. -/
def execTblDelete (owner : Byte) (table : Fin 16) (s : State) : Result :=
  .next (tblGuard owner.toNat s (tblDelete table.val s))

/-- Read an entry of a slot into TBL_DATA. -/
def tblRead (g table : Nat) (s : State) : State :=
  if table = 0 then
    match keyLoc s (s.tabs.slot g) (s.tblData 0) with
    | none => tblDone s stBadArgument
    | some l =>
      tblDone (putTblData (s.setF (R.TBL_INDEX 0) F.TBL_INDEX_INDEX l) 0 (s.entry g (tblLoc 1 l))) stCompleted
  else if tblSize table ≤ s.tblIndex then tblDone s stBadArgument
  else tblDone (putTblData s table (s.entry g (tblLoc table s.tblIndex))) stCompleted

/-- READ_ACTIVE: any state, any owner. -/
def execReadActive (_owner : Byte) (table : Fin 16) (s : State) : Result := .next (tblRead s.genBit table.val s)

/-- READ_STAGED. -/
def execReadStaged (_owner : Byte) (table : Fin 16) (s : State) : Result := .next (tblRead s.staged table.val s)

/-! ## Scrubbing and copying between dies -/

/-- Remove the mark of an entry on a die. -/
def clearMark (s : State) (d g l : Nat) : State :=
  s.updTabs fun t => { t with marks := t.marks.filter fun m => !(m.die == d && m.slot == g % 2 && m.loc == l) }

/-- Note that the scrubber could not repair an entry. -/
def seeMark (s : State) (d g l : Nat) : State :=
  s.updTabs fun t => { t with marks := t.marks.map fun m =>
    if m.die == d && m.slot == g % 2 && m.loc == l then { m with seen := true } else m }

/-- An entry of a die has gone bad. -/
def addMark (s : State) (d g l : Nat) : State :=
  if s.marked d g l then s else s.updTabs fun t => { t with marks := t.marks ++ [⟨d, g % 2, l, false⟩] }

/-- The scrubber meets an entry: one with a parity error is repaired from its other slot or from another die, else it
counts as unrepaired (R160). -/
def scrubEntry (d g l : Nat) (s : State) : State :=
  if !s.marked d g l then s
  else if (!s.tabs.journal.contains l && !s.marked d (g + 1) l) || goodElsewhere s d g l then
    showScrub (logParity (clearMark s d g l) d g l true) d
  else showScrub (seeMark s d g l) d

/-- TABLE_SCRUB_READ: the scrubber of die d reads one entry, bad or not; the last entry of the last table ends a pass. -/
def doScrubRead (d g table index : Nat) (bad : Bool) (s : State) : State :=
  if tblSize table ≤ index then s
  else
    let l := tblLoc table index
    let s1 := scrubEntry d g l (if bad then addMark s d g l else s)
    if g = 1 ∧ table = 9 ∧ index = 4095 then
      s1.setF (R.SCRUB_STATUS d) F.SCRUB_STATUS_PASSES (s1.fld (R.SCRUB_STATUS d) F.SCRUB_STATUS_PASSES + 1)
    else s1

def execTableScrubRead (d : Fin 8) (slot : Fin 2) (table : Fin 10) (index : Fin 524352) (bad : Bool) (s : State) :
    Result := .next (doScrubRead d.val slot.val table.val index.val bad s)

/-- DIE_TABLE_COPY: a die that was out of service copies both slots of every table from a running die (R169). -/
def doDieCopy (d : Nat) (s : State) : State :=
  if s.tabs.stale.contains d && (List.range 8).any fun e => e != d && s.dieUp e && !s.tabs.stale.contains e then
    showScrub (s.updTabs fun t => { t with stale := t.stale.filter (· != d), marks := t.marks.filter (·.die != d) }) d
  else s

def execDieTableCopy (d : Fin 8) (s : State) : Result := .next (doDieCopy d.val s)

end Sys2Proof.Machine
end

