-- ==== Sys2Proof/Machine/Lanes.lean ====
section
/-! DEFINITION. Lanes of a port as the fabric and the optics share them: stripes, LANE_SET and LANE_DOWN, a lane going down,
and what a port's loss does to the frame being received (R41 to R43, R86, R87). -/

namespace Sys2Proof.Machine

/-! ## Lane states (Table 3.2) -/

def lsOff : Nat := 0
def lsLaserCheck : Nat := 1
def lsLocking : Nat := 2
def lsHandshake : Nat := 3
def lsMeasure : Nat := 4
def lsAdmitted : Nat := 5
def lsRejected : Nat := 6
def lsRelocking : Nat := 7
def lsParked : Nat := 8
def lsFault : Nat := 9
def lsExcluded : Nat := 10
def lsDark : Nat := 11

/-! ## A port's loss (R57) -/

/-- The port goes down where it is UP, with the frame it was receiving truncated. -/
def losePort (s : State) (d p : Nat) : State := if s.portUp d p then portDown (truncateRx s d p) d p else s

/-! ## Stripes -/

/-- Masks of the active lanes. -/
def State.txMask (s : State) (d p : Nat) : Nat := s.fld (R.PORT_LANE_STATUS d p) F.PORT_LANE_STATUS_TX_ACTIVE
def State.rxMask (s : State) (d p : Nat) : Nat := s.fld (R.PORT_LANE_STATUS d p) F.PORT_LANE_STATUS_RX_ACTIVE

/-- Mask of the lane indices a data port has. -/
def State.widthMask (s : State) (d p : Nat) : Nat := ((s.laneList d p).map fun n => 2 ^ laneIndex n).sum

/-- Lane index by which a receive lane stands in the stripe: the one its marker carried, and before a marker its own
(R41). -/
def State.rxIdent (s : State) (d n : Nat) : Nat :=
  match (s.lane d n).marker with
  | some m => m.1
  | none => laneIndex n

/-- A lane is active in its port's receive stripe. -/
def State.rxActive (s : State) (d p n : Nat) : Bool := (s.rxMask d p).testBit (s.rxIdent d n)

/-- The receive direction of a lane is admitted. -/
def State.rxAdmitted (s : State) (d p n : Nat) : Bool := (s.port d p).rxAdmit.testBit (laneIndex n)

/-- Lanes up in the receive direction: active and admitted; in the transmit direction: active, and not told lost by the far
end (R43, R86). -/
def State.rxUp (s : State) (d p : Nat) : Nat :=
  ((s.laneList d p).filter fun n => s.rxActive d p n && s.rxAdmitted d p n).length
def State.txUp (s : State) (d p : Nat) : Nat :=
  ((s.laneList d p).filter fun n =>
    (s.txMask d p).testBit (laneIndex n) && s.bit (laneStatus d n) F.LANE_STATUS_FAR_ADMIT).length

/-- PORT_LANE_STATUS.UP: at least MIN_WIDTH lanes up in each direction. -/
def State.lanesUp (s : State) (d p : Nat) : Bool :=
  let m := s.fld (R.PORT_LANE_CTRL d p) F.PORT_LANE_CTRL_MIN_WIDTH
  s.portExists d p && decide (m ≤ s.txUp d p) && decide (m ≤ s.rxUp d p)

/-- Bring UP of a data port up to date; where it falls the port goes down (R87, R190). A port that has its lanes again after a slew
pause resumes its classes (R94). -/
def refreshUp (s : State) (d p : Nat) : State :=
  if 128 ≤ p then s
  else
    let up := s.lanesUp d p
    let s1 := s.setF (R.PORT_LANE_STATUS d p) F.PORT_LANE_STATUS_UP (if up then 1 else 0)
    if !up then losePort { s1 with time := { s1.time with silent := s1.time.silent.filter (· != (d, p)) } } d p
    else if (s1.port d p).slew && !s1.bit (R.OPT_THERM_STATUS (laneEngine d p)) F.OPT_THERM_STATUS_SLEW_PAUSE then
      flowPort (s1.updPort d p fun x => { x with slew := false }) d p
    else s1

/-- Set the transmit or receive stripe of a port. -/
def setTxMask (s : State) (d p m : Nat) : State :=
  refreshUp (s.setF (R.PORT_LANE_STATUS d p) F.PORT_LANE_STATUS_TX_ACTIVE m) d p
def setRxMask (s : State) (d p m : Nat) : State :=
  refreshUp (s.setF (R.PORT_LANE_STATUS d p) F.PORT_LANE_STATUS_RX_ACTIVE m) d p

/-- Codeword index of the next codeword a lane sends. -/
def State.nextIdx (s : State) (d p n : Nat) : Nat :=
  match (s.lane d n).txRows with
  | [] => (s.port d p).txIdx
  | r :: _ => r.1

/-- Send LANE_SET with a new transmit mask: four copies on every lane that stays active. The copies begin within 16 codewords,
which keeps the effective codeword 64 to 8,175 after the first; where in that range is open (R43). A port without active
lanes sends it on the lanes it adds. A port that loses its last lane has none to send it on, and changes at once (DESIGN
CHOICE, log entry 102). -/
def sendLaneSet (s : State) (d p mask : Nat) : State :=
  let cur := s.txMask d p
  if mask = cur ∧ (s.port d p).laneSetTx.isNone then s
  else if mask = 0 then setTxMask (s.updPort d p fun x => { x with laneSetTx := none }) d p 0
  else
    let stay := cur &&& mask
    let on := if stay = 0 then mask else stay
    let lanes := (s.laneList d p).filter fun n => on.testBit (laneIndex n)
    let (k, s1) := s.drawFree 13
    let idx := (s.nextIdx d p (lanes.headD p) + 80 + k % 8096) % 16384
    let s2 := s1.updPort d p fun x => { x with laneSetTx := some (mask, idx) }
    lanes.foldl (fun t n =>
      let t1 := t.updLane d n fun l =>
        { l with txq := l.txq.filter fun c => !(c.typ == 5 && c.body / 2 ^ 52 == codeLaneSet), setLeft := 0 }
      (List.range 4).foldl (fun u _ => queueCtl u d n (ctlFault codeLaneSet mask idx)) t1) s2

/-- The transmit mask a port is moving to. -/
def State.txGoal (s : State) (d p : Nat) : Nat :=
  match (s.port d p).laneSetTx with
  | some (m, _) => m
  | none => s.txMask d p

/-- Add a lane to the transmit stripe, or take it out, by LANE_SET. -/
def addTxLane (s : State) (d p n : Nat) : State := sendLaneSet s d p (setMaskBit (s.txGoal d p) (laneIndex n) true)
def dropTxLane (s : State) (d p n : Nat) : State :=
  if (s.txGoal d p).testBit (laneIndex n) then sendLaneSet s d p (setMaskBit (s.txGoal d p) (laneIndex n) false) else s

/-- Set or clear FAR_ADMIT of a lane. -/
def setFarAdmit (s : State) (d n : Nat) (b : Bool) : State :=
  s.setF (laneStatus d n) F.LANE_STATUS_FAR_ADMIT (if b then 1 else 0)

/-- Take a lane's receive direction out of its port and tell the far end by LANE_DOWN; the receive stripe changes with the far
end's LANE_SET (R43). A frame being received loses blocks (R57). -/
def loseRxLane (s : State) (d n : Nat) : State :=
  match s.portOfLane d n with
  | none => s
  | some p =>
    if 128 ≤ p then s
    else
      let i := s.rxIdent d n
      let s1 := s.updPort d p fun x =>
        { x with rxAdmit := setMaskBit x.rxAdmit (laneIndex n) false,
                 rxLost := x.rxLost || s.rxActive d p n && (x.rxOpen.isSome || x.rxHdr.isSome) }
      refreshUp (queueAll s1 d p (ctlFault codeLaneDown (2 ^ i) 0)) d p

/-- Admit a lane's receive direction. It joins the receive stripe with the far end's LANE_SET. -/
def admitRxLane (s : State) (d n : Nat) : State :=
  match s.portOfLane d n with
  | none => s
  | some p =>
    refreshUp (s.updPort d p fun x => { x with rxAdmit := setMaskBit x.rxAdmit (laneIndex n) true }) d p

/-- A lane is declared down (R87): event, count, LANE_DOWN, state RELOCKING with its window open. A lanyard lane has the event alone:
its state follows its paths (R139). -/
def laneDown (s : State) (d n : Nat) : State :=
  let s1 := setLaneEvent (s.laneCount d n 0) d n F.LANE_EVENT_DOWN
  if 128 ≤ n then s1
  else
    let s2 := (s1.setLaneState d n lsRelocking).updLane d n fun l =>
      { l with window := true, tries := 0, noCw := 0, recent := [], reseek := false }
    loseRxLane s2 d n

end Sys2Proof.Machine
end

