-- ==== Sys2Proof/Machine/Fabric.lean ====
section
/-! DEFINITION. The meanings of the die-mesh rows and of what arrives on a lane or a port: codewords, markers, frames, control
words (R19 to R25, R35 to R48, R55 to R68). -/

namespace Sys2Proof.Machine

/-! ## Die links (R19 to R25) -/

/-- A pinned frame from die a to die b is in flight on an indirect path (R24). -/
def pinnedIndirect (s : State) (a b : Nat) : Bool :=
  s.frames.any fun e => match e.2 with
    | some f => f.inDie == a && f.outDie == b && f.onMesh && f.pinned && f.via != b
    | none => false

/-- The path of a frame uses the link from die a to die b: as its first, or as its second. -/
def FrameRec.uses (f : FrameRec) (a b : Nat) : Bool :=
  (f.inDie == a && f.via == b) || (f.via == a && f.outDie == b && f.via != f.outDie)

/-- The frame's last flit has crossed the link from die a to die b: it waits in b's buffers or has left them by the link to its
egress die. -/
def crossedLink (s : State) (id : Nat) (f : FrameRec) (a b : Nat) : Bool :=
  (((s.link a b).held ++ (s.link b f.outDie).flight ++ (s.link b f.outDie).held).any fun x => x.frame == id && x.tail) && b != a

/-- Frames that still need the link between two dies, in either direction, in the order in which they came to the device. -/
def framesOnLink (s : State) (a b : Nat) : List Nat :=
  (s.frames.filter fun e => match e.2 with
    | some f => f.onMesh && ((f.uses a b && !crossedLink s e.1 f a b) || (f.uses b a && !crossedLink s e.1 f b a))
    | none => false).map (·.1)

/-- Take some frames off every link and crossbar, and start their crossings again on paths that are up (R25). -/
def rerouteFrames (s : State) (ids : List Nat) : State :=
  ids.foldl crossMesh (ids.foldl (fun t id => (offMesh t id).updFrm id fun x => { x with via := 255 }) s)

/-- Set the link fields of both ends of a pair. -/
def setBoth (s : State) (a b : Nat) (f : Fld) (n : Nat) : State :=
  (s.setF (R.D2D_LINK_STATUS a b) f n).setF (R.D2D_LINK_STATUS b a) f n

/-- Take a die link down: UP 0, DOWN_EVENT, a record by the reporting die, and the pair's traffic rerouted (R25). Replays
of the last millisecond are not otherwise observable and stand as a free value. -/
def linkDown (s : State) (d peer cause : Nat) : State :=
  if d = peer ∨ !s.linkUp d peer then s
  else
    let ids := framesOnLink s d peer
    let s1 := setBoth (setBoth s d peer F.D2D_LINK_STATUS_UP 0) d peer F.D2D_LINK_STATUS_DRAINING 0
    let s2 := setEvent (setEvent s1 62 (R.D2D_LINK_STATUS d peer) F.D2D_LINK_STATUS_DOWN_EVENT) 62
      (R.D2D_LINK_STATUS peer d) F.D2D_LINK_STATUS_DOWN_EVENT
    let s3 := (s2.updLink d peer fun l => { l with replays := [], training := false }).updLink peer d fun l =>
      { l with replays := [], training := false }
    let (n, s4) := s3.drawFree 16
    let s5 := fileRec s4 { LogRec.of 5 0x0A 0xA d peer with
      syn := [cause * 65536 + n, peer], synClass := cause - 1, counts := true }
    rerouteFrames s5 ids

/-- A flit of the link from a peer arrives in die d's buffer for its channel. The head of a frame asks for its crossing of the die: to its
destination there, or, on a first crossing of two, to the link of its second (R19, R20, R22). -/
def acceptFlit (s : State) (d peer : Nat) (f : Flit) : State :=
  let s1 := s.updLink peer d fun l => { l with held := l.held ++ [f] }
  let fr := s.frm f.frame
  let inp := slotOfLink d peer f.vc
  let s2 := if !f.head then s1
    else if f.vc % 2 = 1 ∨ f.dest = d then addXfer s1 d f.frame inp (outSlot fr) fr.cut 8 peer
    else addXfer s1 d f.frame inp (slotOfLink d f.dest (f.vc + 1)) true (f.vc + 1) peer
  creditUpdate d s2 peer

/-- FLIT_RECEIVE: the oldest flit on a channel of the link from a peer arrives; one that fails its check is replayed and
counted by its sender, and the sixteenth replay of one flit takes the link down (R19, R22, R25). -/
def doFlitReceive (d peer vc : Nat) (ok : Bool) (s : State) : State :=
  let l := s.link peer d
  match l.flight.find? fun f => f.vc == vc with
  | none => s
  | some f =>
    if !s.linkUp d peer then s
    else if ok then
      acceptFlit (s.updLink peer d fun x => { x with replays := sput x.replays vc 0 0, flight := x.flight.erase f }) d peer f
    else
      let n := sget l.replays vc 0 + 1
      let s1 := (s.count (R.D2D_REPLAY_COUNT peer d)).updLink peer d fun x => { x with replays := sput x.replays vc n 0 }
      if 16 ≤ n then linkDown s1 d peer 1 else s1

def execFlitReceive (d peer vc : Fin 8) (ok : Bool) (s : State) : Result :=
  .next (doFlitReceive d.val peer.val vc.val ok s)

/-- LINK_TRAINING_LOSS. -/
def execLinkTrainingLoss (d peer : Fin 8) (s : State) : Result := .next (linkDown s d.val peer.val 2)

/-- DIE_LINK_RETRAIN: a down link between two dies that are up retrains. -/
def doRetrain (d peer : Nat) (s : State) : State :=
  if d = peer ∨ s.linkUp d peer ∨ !s.dieUp d ∨ !s.dieUp peer then s
  else (s.updLink d peer fun l => { l with training := true }).updLink peer d fun l => { l with training := true }

def execDieLinkRetrain (d peer : Fin 8) (s : State) : Result := .next (doRetrain d.val peer.val s)

/-- One end's DRAINING after its direct link came back (R24). -/
def startDrain (s : State) (a b : Nat) : State :=
  s.setF (R.D2D_LINK_STATUS a b) F.D2D_LINK_STATUS_DRAINING (if pinnedIndirect s a b then 1 else 0)

/-- DIE_LINK_UP: a retrained link returns to service. -/
def doDieLinkUp (d peer : Nat) (s : State) : State :=
  if (s.link d peer).training && !s.linkUp d peer then
    let s1 := (s.updLink d peer fun l => { l with training := false, replays := [] }).updLink peer d fun l =>
      { l with training := false, replays := [] }
    startDrain (startDrain (setBoth s1 d peer F.D2D_LINK_STATUS_UP 1) d peer) peer d
  else s

def execDieLinkUp (d peer : Fin 8) (s : State) : Result := .next (doDieLinkUp d.val peer.val s)

/-- MESH_DRAIN_DONE: no pinned frame of the pair is on the indirect path any more (R24). -/
def doDrainDone (d peer : Nat) (s : State) : State :=
  if pinnedIndirect s d peer then s else s.setF (R.D2D_LINK_STATUS d peer) F.D2D_LINK_STATUS_DRAINING 0

def execMeshDrainDone (d peer : Fin 8) (s : State) : Result := .next (doDrainDone d.val peer.val s)

/-- CREDIT_SYNC_RECEIVE: the peer's off mask for the link toward it (R21). -/
def execCreditSyncReceive (d peer : Fin 8) (mask : Byte) (s : State) : Result :=
  .next (if d = peer then s
    else s.setF (R.D2D_LINK_STATUS d.val peer.val) F.D2D_LINK_STATUS_VC_OFF mask.toNat)

/-! ## Codewords (R35 to R48) -/

/-- Enter hunt, counted once per entry (R55). -/
def enterHunt (s : State) (d p : Nat) : State :=
  if (s.port d p).hunt then s
  else (s.updPort d p fun x => { x with hunt := true }).yfpCount d p 4

/-- Type of a control block. -/
def blkTyp (b : Block) : Nat := (b.bytes.headD 0).toNat

/-- Body of a control block. -/
def blkBody (b : Block) : Nat := beNat ((b.bytes.drop 1).take 7)

/-- CRC-32C of a control block holds (Table 2.1). -/
def blkCrcOk (b : Block) : Bool := crc32c (b.bytes.take 8) == beNat ((b.bytes.drop 8).take 4)

/-- A LINK_FAULT code of Table 2.6. -/
def faultCodeKnown (c : Nat) : Bool := decide (1 ≤ c) && decide (c ≤ 5)

/-- A good control block is discarded and counted in index 13 (R48, R117). -/
def ctlMisplaced (lanyard slot0 : Bool) (b : Block) : Bool :=
  let t := blkTyp b
  if lanyard then !(t == 1 || t == 2 || (t == 6 && slot0))
  else if slot0 then !(t == 1 || t == 2 || t == 3 || t == 5 || t == 6 || t == 7 || t == 0xAA) ||
    (t == 5 && !faultCodeKnown (blkBody b / 2 ^ 52))
  else !(t == 1 || t == 2 || t == 4)

/-- The YFP_COUNT index a block of a codeword counts in, if any. -/
def blockFault (lanyard slot0 : Bool) (b : Block) : Option Nat :=
  if !b.control then (if slot0 then some 13 else none)
  else if !blkCrcOk b then some 2
  else if ctlMisplaced lanyard slot0 b then some 13
  else none

/-- Count what the blocks of a codeword give. -/
def countBlocks (d p : Nat) (lanyard : Bool) : Bool → List Block → State → State
  | _, [], s => s
  | slot0, b :: bs, s =>
    countBlocks d p lanyard false bs (match blockFault lanyard slot0 b with
      | some i => s.yfpCount d p i
      | none => s)

/-- Code of a fault condition word in the control slot of a codeword. -/
def slotFault (bs : List Block) : Nat :=
  match bs with
  | [] => 0
  | b :: _ => if b.control && blkCrcOk b && blkTyp b == 5 then blkBody b / 2 ^ 52 else 0

/-- The far end's condition is carried by a codeword. -/
def carriesCond (x : Port) (bs : List Block) : Bool :=
  match x.farCond with
  | some c => slotFault bs == faultCode c
  | none => false

/-- Note a codeword on its lane. -/
def noteCodeword (l : Lane) (good carries : Bool) (bs : List Block) : Lane :=
  { l with rxBlocks := bs, noCw := if good then 0 else l.noCw + 1, recent := ((!good) :: l.recent).take 256,
           quiet := if carries then 0 else l.quiet + 1 }

/-! ### The port's stream (R41 to R43) -/

/-- Lanes of a port's receive stripe in stripe order, each with whether it is still received. -/
def State.stripe (s : State) (d p : Nat) : List (Nat × Bool) :=
  ((List.range 8).filterMap fun i =>
    (s.laneList d p).find? fun n => s.rxActive d p n && s.rxIdent d n == i).map fun n => (n, s.rxAdmitted d p n)

/-- Lane of a port with the lowest index in its receive stripe (R41). -/
def State.leadRx (s : State) (d p : Nat) : Option Nat := (s.stripe d p).head?.map (·.1)

/-- Codeword index of the oldest row that a lane holds. -/
def Lane.headIdx (l : Lane) : Option Nat := l.rxRows.head?.map (·.1)

/-- Codeword index i lies behind index j. -/
def idxBehind (i j : Nat) : Bool := let k := (j + 16384 - i % 16384) % 16384; decide (0 < k) && decide (k < 8192)

/-- The data blocks that one row of each stripe lane gives the port, in stripe order; a lane that is lost gives bad ones. -/
def joinRows (rows : List (List RxBlk)) : List RxBlk :=
  ((List.range 19).flatMap fun j => rows.filterMap fun r => r[j]?).filter fun b => !b.block.control

/-- The row of a lane that is lost: nothing of it is good. -/
def lostRow : List RxBlk := List.replicate 19 ⟨⟨false, zeros 32⟩, true⟩

/-- Take the oldest row off a lane. -/
def dropRow (d : Nat) (s : State) (n : Nat) : State := s.updLane d n fun l => { l with rxRows := l.rxRows.drop 1 }

/-- Join the rows that all lanes of the stripe have, codeword by codeword, for at most `n` steps: the stripe changes at the effective
codeword of a LANE_SET; rows behind those of another lane are of no use, and are dropped. -/
def joinStream (d p : Nat) : Nat → State → State
  | 0, s => s
  | n + 1, s =>
    let st := s.stripe d p
    let live := (st.filter (·.2)).map (·.1)
    match live.mapM fun m => (s.lane d m).headIdx with
    | none => s
    | some [] => s
    | some (i :: is) =>
      let late := (live.zip (i :: is)).filter fun x => (i :: is).any fun j => idxBehind x.2 j
      if !late.isEmpty then joinStream d p n ((late.map (·.1)).foldl (dropRow d) s)
      else match (s.port d p).laneSetRx with
        | some (mask, e) =>
          if e = i then joinStream d p n (setRxMask (s.updPort d p fun x => { x with laneSetRx := none }) d p mask)
          else joinStream d p n (take s st live)
        | none => joinStream d p n (take s st live)
where
  /-- Join one row of every lane of the stripe. -/
  take (s : State) (st : List (Nat × Bool)) (live : List Nat) : State :=
    let rows := st.map fun x => if x.2 then ((s.lane d x.1).rxRows.head?.map (·.2)).getD [] else lostRow
    live.foldl (dropRow d) (s.updPort d p fun x => { x with rxStream := x.rxStream ++ joinRows rows })

/-- A codeword's control slot holds an alignment marker. -/
def isMarker (bs : List Block) : Bool :=
  match bs with
  | [] => false
  | b :: _ => b.control && blkCrcOk b && blkTyp b == 0xAA

/-- The blocks of a codeword stand in their lane: the data slots as a row, under the index counted from the last marker. A lane outside
the stripe keeps the last eight rows, twice the skew that its port can have. -/
def keepRow (l : Lane) (active bad : Bool) (bs : List Block) : Lane :=
  let i := if !bad && isMarker bs then 0 else l.rxIdx
  let rows := l.rxRows ++ [(i, (bs.drop 1).map fun b => ⟨b, bad⟩)]
  { l with rxIdx := (i + 1) % 16384, rxRows := if active then rows else rows.drop (rows.length - 8) }

/-- CODEWORD_RECEIVE (R35 to R37, R42): the codeword is decoded and descrambled; what is spoilt is counted; its blocks stand in the lane for
the rows for control words, and its data slots join the port's stream, in which a block of an uncorrectable codeword is bad. -/
def doCodeword (d n : Nat) (cw : Codeword) (s : State) : State :=
  let op := s.portOfLane d n
  let p := op.getD 255
  match cw with
  | .invalid => s.updLane d n fun l => noteCodeword l false false []
  | .received syms =>
    let raw := syms.map BitVec.toNat
    let dec := rsDecode raw
    let (bs, scr) := readBlocks (s.lane d n).rxScr (msgBlocks ((dec.map (·.1)).getD raw))
    let s0 := match dec with
      | some (_, k) => s.countN (R.LANE_COUNT (laneEngine d n) (laneLocal n) 6) k
      | none => s.laneCount d n 7
    let s1 := s0.updLane d n fun l =>
      keepRow { noteCodeword l dec.isSome (dec.isSome && carriesCond (s.port d p) bs) (if dec.isSome then bs else []) with
        rxScr := scr } (s.rxActive d p n) dec.isNone bs
    if op.isNone then s1
    else
      let s2 := if dec.isSome then countBlocks d p (decide (128 ≤ n)) true bs s1 else s1.yfpCount d p 3
      if n < 128 then joinStream d p 64 s2 else s2

def execCodewordReceive (d : Fin 8) (n : Fin 144) (cw : Codeword) (s : State) : Result :=
  .next (doCodeword d.val n.val cw s)

/-- A lane is excluded by the marker check: counted, its record and state. With the receive tone check off its receive ring is parked and
re-sought as for a wrong line (R41, R92). -/
def excludeByMarker (s : State) (d n : Nat) : State :=
  let s1 := loseRxLane (fileLaneLink s d n 1 0) d n
  if s.bit (R.OPT_LANE_POLICY (laneEngine d n)) F.OPT_LANE_POLICY_RX_TONE_CHECK then
    (s1.laneCount d n 0).setLaneState d n lsRejected
  else
    let s2 := setLaneEvent (s1.laneCount d n 4) d n F.LANE_EVENT_WRONG_LINE
    let s3 := dropTxLane ((s2.setLaneState d n lsLocking).setF (laneStatus d n) F.LANE_STATUS_RX_LINE 0xF) d (s.portOfLane d n |>.getD 0) n
    (s3.setF (laneStatus d n) F.LANE_STATUS_RX_LOCK 0).updLane d n fun l => { l with reseek := true, window := false, seekRx := false }

/-- ALIGNMENT_MARKER_RECEIVE: the lane's index and group identifier; the lead lane's identifier reads in
PORT_FAR_GROUP_ID; a lane with another identifier, or with the index of another lane, is excluded (R41). Lanyard lanes
carry no markers (R117). -/
def doMarker (d n idx gid : Nat) (s : State) : State :=
  match s.portOfLane d n with
  | none => s
  | some p =>
    if 128 ≤ p then s
    else
      let dup := (s.laneList d p).any fun m =>
        m != n && s.rxAdmitted d p m && (s.lane d m).marker.map (·.1) == some idx
      let s1 := s.updLane d n fun l => { l with marker := some (idx, gid) }
      let lead := s1.leadRx d p
      let s2 := if lead = some n then s1.wr (R.PORT_FAR_GROUP_ID d p) (BitVec.ofNat 32 gid) else s1
      let leadGid := match lead with
        | some m => (s2.lane d m).marker.map (·.2)
        | none => none
      if (leadGid.isSome && leadGid != some gid) || dup then excludeByMarker s2 d n else s2

def execAlignmentMarkerReceive (d : Fin 8) (n : Fin 144) (idx _mask : Byte) (gid : Word) (s : State) : Result :=
  .next (doMarker d.val n.val idx.toNat gid.toNat s)

/-! ## Frames (R55) -/

/-- A record for a frame that arrives on a port, with the bytes that came after its header so far. -/
def rxRec (s : State) (d p peer : Nat) (h : Header) (colour : Nat) (first : Bytes) : FrameRec :=
  { FrameRec.init with frame := ⟨h, [], 0⟩, first := first, inDie := d, inPort := p, tc := hTc h, colour := colour,
                       lossless := s.lossless d p (hTc h), peer := peer }

/-- Stage a frame and bring it to a lookup pipe: its number, or none where it is dropped for lack of room. Lossless frames
of a LOSSY lanyard peer count in LANYARD_COUNT index 11 (R66, R142, R178). -/
def stageFrame (s : State) (f : FrameRec) (lossy : Bool) : Option Nat × State :=
  let d := f.inDie
  let p := f.inPort
  let b := blocksOf (hLen f.frame.hdr)
  let ll := s.pipeOf d p
  match stagePlace s d p b (f.lossless && !lossy) with
  | .full =>
    let s1 := setEvent s 62 (R.BUF_EVENT d) F.BUF_EVENT_STAGE_FULL
    (none, if f.lossless && lossy then s1.lanCount d (p - 128) 11 else dropCore s1 d p 15 f)
  | place =>
    if !f.lossless ∧ 4096 ≤ (s.backlog d ll).length then (none, dropLookup s d ll 14 f)
    else
      let (g, s1) := takeStage s f b place
      let (id, s2) := s1.addFrm g
      (some id, stageFlow (flowPipe (s2.setBacklog d ll (s2.backlog d ll ++ [id])) d ll) d p f.peer)

/-- The peer of a lanyard port reads LOSSY. -/
def peerLossy (s : State) (p d peer : Nat) : Bool :=
  decide (128 ≤ p) && decide (peer < 32) && s.bit (R.LANYARD_PEER_STATUS d p peer) F.LANYARD_PEER_STATUS_LOSSY

/-- A port in a dark partition drops what arrives as fenced (R162); any other port not UP counts in CORE_COUNT index 12
(R47). -/
def dropNotUp (s : State) (d p : Nat) (f : FrameRec) : State :=
  if s.portDark d p then dropLookup s d (s.pipeOf d p) 8 f else dropCore s d p 12 f

/-- The header block of a frame, with the bytes after it known so far: checks, mirror, policing, staging (R29, R55). A port that sends
QUARANTINED before a reset carries no frames, though its state is UP still (R47, R426). -/
def rxHead (s : State) (d p peer : Nat) (h : Header) (first : Bytes) : Option Nat × State :=
  let bad := headerCheck s h
  if (s.port d p).hunt ∧ bad = some 0 then (none, s)
  else
    let s1 := s.updPort d p fun x => { x with hunt := false }
    match bad with
    | some i => (none, if i = 0 then enterHunt (s1.yfpCount d p 0) d p else dropYfp s1 d p i h first)
    | none =>
      if !s1.portUp d p || s1.pwr.hold then
        (none, dropNotUp (mirrorRx s1 d p h first 3) d p (rxRec s1 d p peer h 3 first))
      else
        let (c, s2) := police s1 d p h
        stageFrame (mirrorRx s2 d p h first c) (rxRec s2 d p peer h c first) (peerLossy s2 p d peer)

/-- A frame has come whole: its copies have it too, and those that were placed are offered for storing (R181). -/
def frameWhole (s : State) (id : Nat) (payload : Bytes) (crc : Word) : State :=
  (id :: copiesOf s id).foldl (fun t n =>
    let t1 := t.updFrm n fun x => { x with frame := ⟨x.frame.hdr, payload, crc⟩, whole := true, await := false }
    if (s.frm n).await then offerFrame t1 n else t1) s

/-- The end of a frame: a block in an uncorrectable codeword drops it without a further count; a payload CRC failure counts
in index 1; else it is whole (R55). One cut through ends with reason 4 where a lane was lost while it arrived, 2 where its length is
not the stated one, else 1 (R57). -/
def rxTail (s : State) (d p id : Nat) (payload : Bytes) (crc : Word) (bad : Bool) : State :=
  let f := s.frm id
  let lost := (s.port d p).rxLost
  let s0 := s.updPort d p fun x => { x with rxLost := false }
  if (s.frm? id).isNone then s0
  else if bad then endBad s0 id (if lost then 4 else 1)
  else if payload.length ≠ hPlen f.frame.hdr ∨ crc.toNat ≠ payloadCrc payload then
    endBad (dropYfpRec s0 1 f) id (if lost then 4 else if payload.length ≠ hPlen f.frame.hdr then 2 else 1)
  else frameWhole s0 id payload crc

/-- A frame received whole at once. -/
def rxWhole (s : State) (d p peer : Nat) (h : Header) (payload : Bytes) (crc : Word) (bad : Bool) : State :=
  match rxHead s d p peer h ((payload ++ beBytes crc.toNat 4).take 96) with
  | (some id, t) => rxTail t d p id payload crc bad
  | (none, t) => t

/-- The header of 32 bytes. -/
def headerOf (b : Bytes) : Header :=
  let w := fun i => BitVec.ofNat 32 (beNat ((b.drop (4 * i)).take 4))
  ⟨w 0, w 1, w 2, w 3, w 4, w 5, w 6, w 7⟩

/-- Data blocks after the header of a frame. -/
def bodyBlocks (h : Header) : Nat := blocksOf (hLen h) - 1

/-- The bytes after a header have all come: the frame ends at its stated length (R49). -/
def rxFinish (s : State) (d p id : Nat) (h : Header) : State :=
  let x := s.port d p
  rxTail (s.updPort d p fun y => { y with rxOpen := none, rxAsm := [], rxBad := false }) d p id (x.rxAsm.take (hPlen h))
    (BitVec.ofNat 32 (beNat ((x.rxAsm.drop (hPlen h)).take 4))) x.rxBad

/-- Enough of a frame has come for its header to be acted on: its first four blocks, or all of a shorter one. A frame that is dropped is
skipped by its stated length (R55). -/
def rxStart (s : State) (d p : Nat) (h : Header) : State :=
  let x := s.port d p
  let n := x.rxAsm.length / 32
  if n < min 3 (bodyBlocks h) then s
  else match rxHead (s.updPort d p fun y => { y with rxHdr := none }) d p 255 h (x.rxAsm.take (min 96 (hPlen h + 4))) with
    | (some id, t) =>
      let t1 := t.updPort d p fun y => { y with rxOpen := some id }
      if n = bodyBlocks h then rxFinish t1 d p id h else t1
    | (none, t) =>
      t.updPort d p fun y => { y with rxSkip := bodyBlocks h - n, rxAsm := [], rxBad := false, rxLost := false }

/-- A data block where a frame can begin: its header, tested by its CRC; outside hunt a failure enters it (R49, R55). A block that lay in an
uncorrectable codeword is no header. -/
def rxFirst (s : State) (d p : Nat) (b : RxBlk) : State :=
  let h := headerOf b.block.bytes
  if b.bad then enterHunt s d p
  else if h.w7.toNat ≠ hCrc h then (rxHead s d p 255 h []).2
  else s.updPort d p fun y => { y with hunt := false, rxHdr := some h, rxAsm := [], rxBad := false, rxLost := false }

/-- FRAME_RECEIVE of a block: the next data block of the port's stream (R42, R49, R55). -/
def rxBlock (d p : Nat) (s : State) : State :=
  match (s.port d p).rxStream with
  | [] => s
  | b :: rest =>
    let s1 := s.updPort d p fun y => { y with rxStream := rest }
    let x := s1.port d p
    let add := s1.updPort d p fun y => { y with rxAsm := x.rxAsm ++ b.block.bytes, rxBad := x.rxBad || b.bad }
    if x.rxSkip ≠ 0 then s1.updPort d p fun y => { y with rxSkip := x.rxSkip - 1 }
    else match x.rxHdr, x.rxOpen with
      | some h, _ => rxStart add d p h
      | none, some id =>
        let h := (s1.frm id).frame.hdr
        if x.rxAsm.length / 32 + 1 = bodyBlocks h then rxFinish add d p id h else add
      | none, none => rxFirst s1 d p b

/-- FRAME_RECEIVE on a data port; the frames of a lanyard port come in bursts. -/
def doFrameReceive (d p : Nat) (ev : RxEvent) (s : State) : State :=
  if 128 ≤ p ∨ !s.portExists d p then s
  else match ev with
    | .block => rxBlock d p s
    | .head h first =>
      if (s.port d p).rxOpen.isSome then s
      else
        let (o, t) := rxHead s d p 255 h first
        t.updPort d p fun x => { x with rxOpen := o }
    | .tail payload crc bad =>
      match (s.port d p).rxOpen with
      | none => s
      | some id => rxTail (s.updPort d p fun x => { x with rxOpen := none }) d p id payload crc bad
    | .whole h payload crc bad => if (s.port d p).rxOpen.isSome then s else rxWhole s d p 255 h payload crc bad

def execFrameReceive (d : Fin 8) (p : Fin 130) (ev : RxEvent) (s : State) : Result :=
  .next (doFrameReceive d.val p.val ev s)

/-- FRAME_ABORT_RECEIVE: ends the open frame as bad, or is a stray abort (R57). -/
def doAbortReceive (d p : Nat) (s : State) : State :=
  let s1 := (s.yfpCount d p 10).updPort d p fun x =>
    { x with rxHdr := none, rxAsm := [], rxBad := false, rxSkip := 0, rxLost := false }
  match (s.port d p).rxOpen with
  | none => s1
  | some id => endBad (s1.updPort d p fun x => { x with rxOpen := none }) id 3

def execFrameAbortReceive (d : Fin 8) (p : Fin 130) (_seq : BitVec 24) (_reason : Byte) (s : State) : Result :=
  .next (doAbortReceive d.val p.val s)

/-! ## Flow control and faults (R43 to R47, R65, R68) -/

/-- XOFF_XON_RECEIVE: the far end's off mask of a data port. A lanyard port takes its masks per peer, in bursts (R132). -/
def doXoff (d p mask : Nat) (s : State) : State :=
  if 128 ≤ p then s
  else
    let s1 := s.setF (R.PORT_FC_STATUS d p) F.PORT_FC_STATUS_RX_OFF mask
    s1.updPort d p fun x => { x with pausedAt := (List.range 8).foldl (fun m c =>
      if mask.testBit c then (if sget m c 0 = 0 then sput m c (s.cycle + 1) 0 else m) else sput m c 0 0) x.pausedAt }

def execXoffXonReceive (d : Fin 8) (p : Fin 130) (mask : Byte) (s : State) : Result :=
  .next (doXoff d.val p.val mask.toNat s)

/-- XOFF_REFRESH: the mask is repeated while any class is paused. -/
def doXoffRefresh (d p : Nat) (s : State) : State :=
  let m := s.fld (R.PORT_FC_STATUS d p) F.PORT_FC_STATUS_TX_OFF
  if m = 0 ∨ 128 ≤ p then s else queueAll s d p (ctlXoff m false)

def execXoffRefresh (d : Fin 8) (p : Fin 130) (s : State) : Result := .next (doXoffRefresh d.val p.val s)

/-- The class has stayed paused for longer than PAUSE_WD_MS, at 1,600,000 core cycles each ms (R68). -/
def State.pausedLong (s : State) (d p tc : Nat) : Bool :=
  let ms := s.fld (R.PORT_YFP_CTRL d p) F.PORT_YFP_CTRL_PAUSE_WD_MS
  let at_ := sget (s.port d p).pausedAt tc 0
  s.paused d p tc && decide (ms ≠ 0) && decide (at_ ≠ 0) && decide (ms * 1600000 < s.cycle + 1 - at_)

/-- PAUSE_WATCHDOG: WD_EVENT, the count and a record; the class stays paused. The watchdog of a pause expires once (R68). -/
def doPauseWatchdog (d p tc : Nat) (s : State) : State :=
  if s.pausedLong d p tc then
    fileRec (((s.setBit (R.PORT_FC_STATUS d p) F.PORT_FC_STATUS_WD_EVENT).yfpCount d p 15).updPort d p fun x =>
        { x with pausedAt := sput x.pausedAt tc 0 0 })
      { LogRec.of 5 0x0D (portKind p) d p with
        syn := [2 * 2 ^ 24 + s.fld (R.PORT_FC_STATUS d p) F.PORT_FC_STATUS_RX_OFF, p], synClass := 2 }
  else s

def execPauseWatchdog (d : Fin 8) (p : Fin 130) (tc : Fin 8) (s : State) : Result :=
  .next (doPauseWatchdog d.val p.val tc.val s)

/-- The lanes of a port start to count codewords without the far end's condition again. -/
def resetQuiet (s : State) (d p : Nat) : State :=
  (s.laneList d p).foldl (fun t n => t.updLane d n fun l => { l with quiet := 0 }) s

/-- LINK_FAULT_RECEIVE: the far end's condition starts, and the port carries no frames (R47, R190). -/
def execLinkFaultReceive (d : Fin 8) (p : Fin 128) (code : FaultCode) (s : State) : Result :=
  .next (losePort (resetQuiet (s.updPort d.val p.val fun x => { x with farCond := some code }) d.val p.val) d.val p.val)

/-- Eight codewords have passed on every active lane without the far end's condition (R45). -/
def quietEnough (s : State) (d p : Nat) : Bool :=
  (s.laneList d p).all fun n => !s.rxActive d p n || decide (8 ≤ (s.lane d n).quiet)

/-- LINK_FAULT_CONDITION_END. -/
def execLinkFaultConditionEnd (d : Fin 8) (p : Fin 128) (s : State) : Result :=
  .next (if quietEnough s d.val p.val then s.updPort d.val p.val fun x => { x with farCond := none } else s)

/-- LANE_SET_RECEIVE: the new receive stripe and its effective codeword (R43). -/
def execLaneSetReceive (d : Fin 8) (p : Fin 128) (mask : Byte) (idx : Fin 16384) (s : State) : Result :=
  .next (s.updPort d.val p.val fun x => { x with laneSetRx := some (mask.toNat, idx.val) })

/-- LANE_SET_EFFECTIVE: the stripe of one direction changes at its effective codeword, which is the next one that the lead lane receives,
or the next one dealt to the port's lanes (R43). -/
def doLaneSetEffective (d p : Nat) (rx : Bool) (s : State) : State :=
  let x := s.port d p
  if rx then
    match x.laneSetRx with
    | none => s
    | some (m, e) =>
      if ((s.leadRx d p).all fun n => (s.lane d n).rxIdx == e) then
        setRxMask (s.updPort d p fun y => { y with laneSetRx := none }) d p m
      else s
  else
    match x.laneSetTx with
    | none => s
    | some (m, e) =>
      if x.txIdx = e then setTxMask (s.updPort d p fun y => { y with laneSetTx := none }) d p (m &&& s.widthMask d p) else s

def execLaneSetEffective (d : Fin 8) (p : Fin 128) (rx : Bool) (s : State) : Result :=
  .next (doLaneSetEffective d.val p.val rx s)

/-- LANE_DOWN_RECEIVE: the transmitter answers with LANE_SET without the lost lanes (R43). -/
def doLaneDownReceive (d p mask : Nat) (s : State) : State :=
  let lost := (s.laneList d p).filter fun n => mask.testBit (laneIndex n)
  let s1 := lost.foldl (fun t n => setFarAdmit t d n false) s
  let goal := s1.txGoal d p
  let rest := ((List.range 8).map fun i => if goal.testBit i && !mask.testBit i then 2 ^ i else 0).sum
  if rest = goal then s1 else sendLaneSet s1 d p rest

def execLaneDownReceive (d : Fin 8) (p : Fin 128) (mask : Byte) (s : State) : Result :=
  .next (doLaneDownReceive d.val p.val mask.toNat s)

/-! ## Sending codewords (R39, R40, R45) -/

/-- Fault condition a port has to send: quarantine, or an admitted port's hold before a reset (R426), fewer lanes than MIN_WIDTH up in
either direction, or the far end's LOCAL_FAULT (R45, R47, R86). -/
def State.sendCond (s : State) (d p : Nat) : Nat :=
  if s.portState d p = 1 || s.pwr.hold && decide (2 ≤ s.portState d p) then 4
  else if !s.lanesUp d p then 1
  else if (s.port d p).farCond = some .localFault then 2
  else 0

/-- Rank of a waiting control word; lower is sent first (R45). -/
def ctlRank (c : Ctl) : Nat :=
  match c.typ with
  | 2 => if c.fresh then 0 else 4
  | 5 => 1
  | 3 => 2
  | 7 => 3
  | 6 => 5
  | _ => 6

/-- The waiting word that goes first. -/
def bestCtl (q : List Ctl) : Option Ctl :=
  q.foldl (fun b c => match b with
    | none => some c
    | some x => if ctlRank c < ctlRank x then some c else some x) none

/-- TEST_STRIP words repeat until a newer one waits or the strip is over, this end's or the far end's (R81). -/
def keepsRepeating (l : Lane) (c : Ctl) : Bool :=
  c.typ == 7 && (l.step != 0 || l.farAttempt != 0) && (l.txq.filter (·.typ == 7)).length == 1

/-- A waiting word is a copy of a LANE_SET. -/
def Ctl.isLaneSet (c : Ctl) : Bool := c.typ == 5 && c.body / 2 ^ 52 == codeLaneSet

/-- The waiting word of highest rank that can go in the control slot of a codeword: the four copies of a LANE_SET keep together and clear of
the marker (R43). -/
def ctlChoice (l : Lane) (idx : Nat) : Option Ctl :=
  if l.setLeft ≠ 0 then l.txq.find? Ctl.isLaneSet
  else bestCtl (l.txq.filter fun c => !(c.isLaneSet && decide (16380 < idx)))

/-- A lane after it has sent a waiting word. -/
def sentWord (l : Lane) (c : Ctl) : Lane :=
  { l with gap := l.gap + 1, txq := if keepsRepeating l c then l.txq else l.txq.erase c,
           setLeft := if c.isLaneSet then (if l.setLeft = 0 then 3 else l.setLeft - 1) else 0 }

/-- The word for the control slot of codeword idx of a lane, and the lane after: the marker at index 0; a fault condition that must go now, in
every second slot with the marker's slot none; else the waiting word of highest rank, a fault condition among them; else IDLE. Copies of
a LANE_SET once begun stay consecutive (R40, R43, R45). -/
def nextSlot (s : State) (d p n idx : Nat) : Nat × Nat × Lane :=
  let l := s.lane d n
  let cond := s.sendCond d p
  let fault := (5, cond * 2 ^ 52, { l with gap := 0 })
  let best := ctlChoice l idx
  if idx = 0 then
    (0xAA, laneIndex n * 2 ^ 48 + s.txMask d p * 2 ^ 40 + (s.rd (R.PORT_GROUP_ID d p)).toNat, { l with gap := l.gap + 1 })
  else if cond ≠ 0 ∧ l.setLeft = 0 ∧ (1 ≤ l.gap ∨ idx = 16383) then fault
  else match best with
    | some c => (c.typ, c.body, sentWord l c)
    | none => if cond ≠ 0 then fault else (1, 0, { l with gap := l.gap + 1 })

/-- A TIME word as it leaves: SYNC and REPLY carry the time of departure, which the lane hardware stamps (R46). -/
def stampTime (s : State) (body : Nat) : Nat × State :=
  let kind := body / 2 ^ 54 % 4
  let seq := body / 2 ^ 48 % 64
  if kind = 1 then (body, s)
  else
    let s1 : State := if kind = 0 then
        { s with time := { s.time with exch := s.time.exch.map fun e =>
            if e.seq = seq then { e with t1 := ⟨BitVec.ofNat 32 s.now, BitVec.ofNat 16 s.frac⟩ } else e } }
      else s
    ((ctlTime kind seq s.now s.frac).body, s1)

/-- The lane's modulator is lit: its transmit ring is locked, the lane not off, removed or held out, its partition not dark (R78, R117,
R162). -/
def State.laneLit (s : State) (d p n : Nat) : Bool :=
  let st := s.laneState d n
  s.bit (laneStatus d n) F.LANE_STATUS_TX_LOCK && st != lsOff && st != lsFault && st != lsExcluded && !s.portDark d p

/-! ### Data slots (R39, R42) -/

/-- Frame blocks that a lane may carry in a marker period: 200.0 Gbit/s of 256-bit blocks (R39). -/
def frameBudget : Nat := 310857

/-- Fill slots in stripe order from the blocks that wait: each slot a lane and whether it may carry a frame block. A control word of the stream
needs no budget; a slot that nothing fills carries IDLE. -/
def fillSlots : List (Nat × Bool) → List Block → List (Nat × Block) × List Block
  | [], q => ([], q)
  | (n, may) :: rest, q =>
    let (b, q1) := match q with
      | [] => (ctlBlock 1 0, [])
      | b :: q1 => if may || b.control then (b, q1) else (ctlBlock 1 0, b :: q1)
    let (out, q2) := fillSlots rest q1
    ((n, b) :: out, q2)

/-- A lane takes the data slots dealt to it for codeword idx; its count of frame blocks starts again with the marker period. -/
def dealLane (idx : Nat) (slots : List (Nat × Block)) (n : Nat) (l : Lane) : Lane :=
  let mine := (slots.filter (·.1 == n)).map (·.2)
  let row := if mine.isEmpty then List.replicate 19 (ctlBlock 1 0) else mine
  { l with txRows := l.txRows ++ [(idx, row)],
           txSent := (if idx = 0 then 0 else l.txSent) + (mine.filter fun b => !b.control).length }

/-- Deal the data slots of the port's next codeword to its lit lanes, which so have their markers in the same codeword (R40, R42). The
stripe changes at the effective codeword of a LANE_SET. -/
def dealRow (s : State) (d p : Nat) (lit : List Nat) : State :=
  let idx := (s.port d p).txIdx
  let s1 := match (s.port d p).laneSetTx with
    | some (m, e) =>
      if e = idx then setTxMask (s.updPort d p fun y => { y with laneSetTx := none }) d p (m &&& s.widthMask d p) else s
    | none => s
  let act := lit.filter fun n => (s1.txMask d p).testBit (laneIndex n)
  let may := fun j n => decide ((if idx = 0 then 0 else (s1.lane d n).txSent) + j < frameBudget)
  let (slots, q) := fillSlots ((List.range 19).flatMap fun j => act.map fun n => (n, may j n)) (s1.port d p).txStream
  let s2 := s1.updPort d p fun x => { x with txStream := q, txIdx := (idx + 1) % 16384 }
  lit.foldl (fun t n => t.updLane d n (dealLane idx slots n)) s2

/-- The slots of a lane's codeword: the control slot, then its data slots, which carry PRBS31 in a test (R81). The pattern starts anywhere. -/
def slotsOf (s : State) (d n : Nat) (ctl : Block) (row : List Block) : List SlotBits × State :=
  let l := s.lane d n
  if l.prbsOn then
    let (k, s1) := if l.prbs = 0 then s.drawFree 31 else (l.prbs, s)
    let (ps, st) := prbsSlots 19 (if k = 0 then 1 else k)
    (.block ctl :: ps, s1.updLane d n fun x => { x with prbs := st })
  else (.block ctl :: row.map .block, s)

/-- CODEWORD_TRANSMIT on a data lane; a lanyard lane sends its codewords in bursts. PRBS31 fills the data slots from the codeword after the
first PRBS_ON word. -/
def doCodewordTransmit (d n : Nat) (s : State) : State :=
  match s.portOfLane d n with
  | none => s
  | some p =>
    if 128 ≤ p ∨ !s.laneLit d p n then s
    else
      let s1 := if (s.lane d n).txRows.isEmpty then dealRow s d p ((s.laneList d p).filter (s.laneLit d p)) else s
      let (idx, row) := (s1.lane d n).txRows.headD (0, [])
      let (t, b0, l) := nextSlot s1 d p n idx
      let (b, s2) := if t = 3 then stampTime s1 b0 else (b0, s1)
      let s3 := s2.setLane d n { l with txRows := l.txRows.drop 1 }
      let (slots, s4) := slotsOf s3 d n (ctlBlock t b) row
      let (syms, scr) := makeCodeword l.txScr slots
      let s5 := s4.updLane d n fun x => { x with txScr := scr, prbsOn := x.prbsOn || (t == 7 && b / 2 ^ 52 == 3) }
      (s5.emit (.codeword d n syms)).emit (.control d n t b)

def execCodewordTransmit (d : Fin 8) (n : Fin 144) (s : State) : Result := .next (doCodewordTransmit d.val n.val s)

end Sys2Proof.Machine
end

