-- ==== Sys2Proof/Machine/Gauss.lean ====
section
/-! DEFINITION. The tail of the normal distribution as the test strip uses it (R82, R85): a bit error ratio b belongs to the q with
b = erfc(q / √2) / 2. Numbers are fixed-point with 96 fraction bits; R82 states no precision, and log entry 3 gives the one taken
here. -/

namespace Sys2Proof.Machine

/-- One, in fixed point. -/
def fxOne : Int := 79228162514264337593543950336

/-- Product and quotient in fixed point. -/
def fxMul (a b : Int) : Int := a * b / fxOne
def fxDiv (a b : Int) : Int := a * fxOne / b

/-- z + z³/3 + z⁵/5 + …, for the terms from power 2k + 1 on: `pow` is z to that power, `sq` is z². -/
def atanhTerms (sq : Int) : Nat → Nat → Int → Int
  | 0, _, _ => 0
  | fuel + 1, k, pow => pow / ((2 * k + 1 : Nat) : Int) + atanhTerms sq fuel (k + 1) (fxMul pow sq)

/-- ln((1 + z) / (1 - z)) for |z| at most 1/3. -/
def lnRatio (z : Int) : Int := 2 * atanhTerms (fxMul z z) 40 0 z

/-- Natural logarithm of a / b for positive a and b: powers of two taken out, then the series. -/
def fxLn (a b : Nat) : Int :=
  let x := a * 2 ^ b.log2
  let y := b * 2 ^ a.log2
  ((a.log2 : Int) - b.log2) * lnRatio (fxOne / 3) + lnRatio (fxDiv ((x : Int) - y) ((x : Int) + y))

/-- The continued fraction x + 1/(x + 2/(x + 3/…)), entered at its k-th level. -/
def millsFrom (x : Int) : Nat → Nat → Int
  | 0, _ => x
  | fuel + 1, k => x + fxDiv ((k : Int) * fxOne) (millsFrom x fuel (k + 1))

/-- ln √(2π). -/
def lnRootTwoPi : Int := 72805811449359507210440052737

/-- Natural logarithm of the tail beyond x, for x at least 1: that of the density at x over the continued fraction. -/
def lnTail (x : Int) : Int := -(fxMul x x / 2) - lnRootTwoPi - fxLn (millsFrom x 100 1).toNat fxOne.toNat

/-- 1 - t + t²/2 - …: e to the power -t for t at most 1. -/
def expTerms (t : Int) : Nat → Nat → Int → Int
  | 0, _, _ => 0
  | fuel + 1, k, term => term + expTerms t fuel (k + 1) (-(fxMul term t) / ((k + 1 : Nat) : Int))

/-- x + x³/3 + x⁵/(3·5) + …: the area from 0 to x over the density at x. -/
def areaTerms (sq : Int) : Nat → Nat → Int → Int
  | 0, _, _ => 0
  | fuel + 1, k, term => term + areaTerms sq fuel (k + 1) (fxMul term sq / ((2 * k + 3 : Nat) : Int))

/-- √(2π). -/
def rootTwoPi : Int := 198595552305314927273837084509

/-- The tail beyond x, for x from 0 to 1. -/
def smallTail (x : Int) : Int :=
  fxOne / 2 - fxDiv (fxMul (expTerms (fxMul x x / 2) 40 0 fxOne) (areaTerms (fxMul x x) 40 0 x)) rootTwoPi

/-- Raise q bit by bit, from bit k - 1 down, while the tail beyond it is at least the bit error ratio. -/
def raiseQ (lnB : Int) : Nat → Int → Int
  | 0, q => q
  | k + 1, q => raiseQ lnB k (if lnB ≤ lnTail ((q + 2 ^ k) * 2 ^ 64) then q + 2 ^ k else q)

/-- q of a bit error ratio errors / bits of at most 10^-2, in 2^-32, rounded down (R82 step 1). -/
def qOfBer (errors bits : Nat) : Int := raiseQ (fxLn errors bits) 36 0

/-- Bit error ratio that a Q in 0.001 gives, as -log10 in 0.01 decade to the nearest (Table 3.6, word 4). -/
def berOfQ (q : Nat) : Nat :=
  let x := (q : Int) * fxOne / 1000
  let ln := if 1000 ≤ q then lnTail x else fxLn (smallTail x).toNat fxOne.toNat
  (fxDiv (-ln * 100) (fxLn 10 1) + fxOne / 2).toNat / fxOne.toNat

end Sys2Proof.Machine
end

