-- ==== Sys2Proof/Machine/Optics.lean ====
section
/-! DEFINITION. The meanings of the optical rows: link start and the test strip, relocking, wrong lines, slew pause, lane control,
laser feeds, and the fence that darkens a partition's ports (R74 to R98, R162). -/

namespace Sys2Proof.Machine

/-! ## Lines and tones (R74, R76, R77) -/

/-- Safelight tone of data line j, kHz. -/
def lineTone (j : Nat) : Nat := 1000 + 250 * j

/-- A measured tone matches a tone within ±20 kHz. -/
def toneNear (t want : Nat) : Bool := decide (want ≤ t + 20) && decide (t ≤ want + 20)

/-- Data line a tone belongs to. -/
def lineOfTone (t : Nat) : Option Nat := (List.range 8).find? fun j => toneNear t (lineTone j)

/-- The optical engine of a lane is up (R34). -/
def State.oeUp (s : State) (oe : Nat) : Bool := (s.fld R.OPTICAL_STATUS F.OPTICAL_STATUS_ENGINE_UP).testBit oe

/-- Receive tones are checked at a lane (R77). -/
def State.rxToneCheck (s : State) (d n : Nat) : Bool :=
  s.bit (R.OPT_LANE_POLICY (laneEngine d n)) F.OPT_LANE_POLICY_RX_TONE_CHECK

def State.autoTs (s : State) (d n : Nat) : Bool := s.bit (R.OPT_LANE_POLICY (laneEngine d n)) F.OPT_LANE_POLICY_AUTO_TS

/-- Show a ring locked on a line. -/
def ringLocked (s : State) (d n : Nat) (ring : Ring) (line : Nat) : State :=
  let r := laneStatus d n
  match ring with
  | .tx => ((s.setF r F.LANE_STATUS_TX_LOCK 1).setF r F.LANE_STATUS_TX_LINE line).setF r F.LANE_STATUS_TX_TONE_OK 1
  | .rx => ((s.setF r F.LANE_STATUS_RX_LOCK 1).setF r F.LANE_STATUS_RX_LINE line).setF r F.LANE_STATUS_RX_TONE_OK 1

/-- Show a ring unlocked or parked. A lane whose transmit ring has no lock sends nothing, not even what was dealt to it. -/
def ringParked (s : State) (d n : Nat) (ring : Ring) : State :=
  let r := laneStatus d n
  match ring with
  | .tx => (((s.setF r F.LANE_STATUS_TX_LOCK 0).setF r F.LANE_STATUS_TX_LINE 0xF).setF r F.LANE_STATUS_TX_TONE_OK 0).updLane d n
      fun l => { l with txRows := [] }
  | .rx => ((s.setF r F.LANE_STATUS_RX_LOCK 0).setF r F.LANE_STATUS_RX_LINE 0xF).setF r F.LANE_STATUS_RX_TONE_OK 0

/-- Both rings of a lane lose their lock, or are parked. -/
def ringsParked (s : State) (d n : Nat) : State := ringParked (ringParked s d n .tx) d n .rx

/-- A ring is locked. -/
def State.ringLock (s : State) (d n : Nat) (ring : Ring) : Bool :=
  match ring with
  | .tx => s.bit (laneStatus d n) F.LANE_STATUS_TX_LOCK
  | .rx => s.bit (laneStatus d n) F.LANE_STATUS_RX_LOCK

/-! ## Starting a strip (R79, R80) -/

/-- State in which a data lane stays until a TEST_STRIP command, where it does: FAULT after three failed re-seeks, REJECTED after
three like rejections (R90, R93). -/
def Lane.stuck (l : Lane) : Option Nat :=
  if 3 ≤ l.reseekFails.length then some lsFault else if 3 ≤ l.rejRun then some lsRejected else none

/-- The lane can be tested: it belongs to a data port, its engine is up, it is not held out or retired, and waits for no command. -/
def State.testable (s : State) (d n : Nat) (byCmd : Bool) : Bool :=
  decide (n < 128) && (s.portOfLane d n).isSome && s.oeUp (laneEngine d n) &&
    !s.bit (R.LANE_CTRL (laneEngine d n) (laneLocal n)) F.LANE_CTRL_EXCLUDE && !s.isRetired 7 d n && !s.bandHeld 7 d n &&
    (byCmd || (s.lane d n).stuck.isNone)

/-- Take a lane out of both stripes of its port. -/
def leaveStripes (s : State) (d n : Nat) : State :=
  match s.portOfLane d n with
  | none => s
  | some p => loseRxLane (setFarAdmit (dropTxLane s d p n) d n false) d n

/-- The lane's measurements and handshake start again. -/
def freshStrip (l : Lane) (step attempt : Nat) : Lane :=
  { l with step := step, attempt := attempt, seekTx := false, seekRx := false, gotReady := false, farPrbs := false,
           phasePts := [], thrPts := [], edges := [], window := false, reseek := false, farRejected := false }

/-- Start a full test strip on a lane: step 1, attempt 1. Both rings seek anew in its step 2. -/
def startStrip (s : State) (d n : Nat) : State :=
  let s1 := ringsParked ((leaveStripes s d n).laneCount d n 2) d n
  (s1.setLaneState d n lsLaserCheck).updLane d n fun l =>
    { freshStrip l 1 1 with reseeked := false, reseekFails := if 3 ≤ l.reseekFails.length then [] else l.reseekFails }

/-- With AUTO_TS 0 the lane seeks its rings and waits in LOCKING (R79). -/
def startWait (s : State) (d n : Nat) : State :=
  ((ringsParked (leaveStripes s d n) d n).setLaneState d n lsLocking).updLane d n fun l => freshStrip l 0 0

/-- A full test strip, or the wait that replaces it with AUTO_TS 0. -/
def stripOrWait (s : State) (d n : Nat) : State := if s.autoTs d n then startStrip s d n else startWait s d n

/-- A lane that waits for a TEST_STRIP command stands in the state in which it waits. -/
def showStuck (s : State) (d n : Nat) : State :=
  match (s.lane d n).stuck with
  | some st => if s.testable d n true then s.setLaneState d n st else s
  | none => s

/-- Link start of one lane. -/
def linkStartLane (d : Nat) (s : State) (n : Nat) : State :=
  if s.testable d n false then stripOrWait s d n else showStuck s d n

/-- Link start of a port (R79). -/
def linkStart (s : State) (d p : Nat) : State :=
  if 128 ≤ p ∨ !s.portExists d p then s else (s.laneList d p).foldl (linkStartLane d) s

/-- TEST_STRIP_START: a link start of a port. -/
def execTestStripStart (d : Fin 8) (p : Fin 128) (s : State) : Result := .next (linkStart s d.val p.val)

/-! ## The end of a strip (R82 to R85, R90) -/

/-- What a strip measured (Table 3.6): margin in 0.01 dB and Q in 0.001 where the fit did not fail; errors at the optimum, optimum
phase and threshold, eye width and height. -/
structure Measured where
  fit : Option (Int × Nat)
  errors : Nat
  phase : Int
  threshold : Int
  width : Nat
  height : Nat
  deriving DecidableEq, Repr

/-- Words 2, 4 and 5 of a strip that ended before it was measured: nothing states them. -/
def unmeasuredWords (s : State) : (Nat × Nat × Nat) × State :=
  let (a, s1) := s.drawFree 32
  let (b, s2) := s1.drawFree 32
  let (c, s3) := s2.drawFree 32
  ((a, b, c), s3)

/-- Words 2, 4 and 5 of a report. Without a fit nothing states the margin, Q and the ratio that Q gives. -/
def measuredWords (s : State) (m : Measured) : (Nat × Nat × Nat) × State :=
  let w5 := ofSigned 8 m.phase * 2 ^ 24 + ofSigned 8 m.threshold * 65536 + min m.width 255 * 256 + min m.height 255
  match m.fit with
  | some (margin, q) =>
    ((ofSigned 16 margin * 65536 + min q 65535, min (berOfQ q) 65535 * 65536 + min m.errors 65535, w5), s)
  | none =>
    let (a, s1) := s.drawFree 32
    let (b, s2) := s1.drawFree 16
    ((a, b * 65536 + min m.errors 65535, w5), s2)

/-- Write a lane's report: words 0, 2, 4 and 5 given, the rest taken now. -/
def writeReport (s : State) (d n w0 : Nat) (m : Nat × Nat × Nat) : State :=
  let oe := laneEngine d n
  let r := laneStatus d n
  let l := s.lane d n
  let power := s.fld (R.OPT_LINE_POWER oe (laneIndex n)) F.OPT_LINE_POWER_POWER
  let w3 := power * 65536 + s.fld r F.LANE_STATUS_TX_LINE * 4096 + s.fld r F.LANE_STATUS_RX_LINE * 256
  let w7 := s.fld (R.OPT_THERM_STATUS oe) F.OPT_THERM_STATUS_TEMP * 65536 + l.farMargin
  let ws := [w0, s.now, m.1, w3, m.2.1, m.2.2, l.txHeat * 65536 + l.rxHeat, w7]
  ws.zipIdx.foldl (fun t x => t.wr (R.LANE_TS_REPORT oe (laneLocal n) x.2) (BitVec.ofNat 32 x.1)) s

/-- Word 0 of a report. -/
def reportWord0 (d n step result attempt : Nat) : Nat :=
  d * 2 ^ 28 + n * 2 ^ 20 + step * 65536 + result * 256 + min attempt 255

/-- The words that end a strip at its measuring end: PRBS_OFF where the far end's pattern was asked for, REPORT with the margin and Q
of the report, then ADMIT or REJECT (Table 3.3, steps 8 and 9). -/
def endWords (s : State) (d n phase code w2 : Nat) : State :=
  let i := laneIndex n
  let off := if 4 ≤ (s.lane d n).step then [ctlStrip 4 i 0 0 0] else []
  (off ++ [ctlStrip 5 i (w2 / 65536) code (w2 % 65536 * 256), ctlStrip phase i (w2 / 65536) code 0]).foldl
    (fun t w => queueCtl t d n w) s

/-- A strip ends with a result code, its report and TS_DONE. -/
def endStripLane (s : State) (d n w0 code : Nat) (ws : Nat × Nat × Nat) : State :=
  setLaneEvent (((writeReport s d n w0 ws).setF (laneStatus d n) F.LANE_STATUS_LAST_RESULT code).updLane d n fun x =>
    { x with step := 0, window := false, reseeked := false }) d n F.LANE_EVENT_TS_DONE

/-- A strip ends rejected with a result code: state, counts, report, the notice after three alike (R83, R90). -/
def rejectLane (s : State) (d n code : Nat) (send : Bool) (m : Option Measured) : State :=
  let l := s.lane d n
  let run := if l.rejCode = code ∧ l.rejRun ≠ 0 then l.rejRun + 1 else 1
  let (ws, s0) := match m with
    | some x => measuredWords s x
    | none => unmeasuredWords s
  let s1 := if send then endWords s0 d n 7 code ws.1 else s0
  let s2 := endStripLane s1 d n (reportWord0 d n l.step code l.attempt) code ws
  let s3 := ((s2.setLaneState d n lsRejected).laneCount d n 3).updLane d n fun x => { x with rejRun := run, rejCode := code }
  if run = 3 then fileLaneLink s3 d n 3 code else s3

/-- A lane whose transmit direction the far end has admitted goes back to its transmit stripe. -/
def rejoinTx (s : State) (d n : Nat) : State :=
  match s.portOfLane d n with
  | some p => if s.bit (laneStatus d n) F.LANE_STATUS_FAR_ADMIT then addTxLane s d p n else s
  | none => s

/-- A strip ends admitted: the words of step 8 and 9, the stored settings, the report (R83, R85). Where the far end rejected this lane's
transmit direction in the strip, the report's result is FAR_REJECT, and LAST_RESULT shows the report's result (DESIGN CHOICE, log
entry 111). -/
def admitLane (s : State) (d n : Nat) (m : Measured) : State :=
  let l := s.lane d n
  let result := if l.farRejected then 0x15 else 0
  let (ws, s0) := measuredWords s m
  let s1 := endWords s0 d n 6 0 ws.1
  let s2 := endStripLane s1 d n (reportWord0 d n 10 result l.attempt) result ws
  let s3 := s2.setLaneState d n lsAdmitted
  let st : Stored := ⟨l.txHeat, l.rxHeat, m.phase, m.threshold,
    toSigned 16 (s.fld (R.OPT_THERM_STATUS (laneEngine d n)) F.OPT_THERM_STATUS_TEMP)⟩
  let s4 := s3.updLane d n fun x =>
    { x with rejRun := 0, noCw := 0, recent := [], reseekFails := [], stored := some st }
  rejoinTx (admitRxLane s4 d n) d n

/-- An attempt is cut short: it restarts at step 2, or after three attempts ends rejected with its cause (R84). -/
def cutAttempt (s : State) (d n cause : Nat) : State :=
  let l := s.lane d n
  if 3 ≤ l.attempt then rejectLane s d n cause true none
  else ((ringsParked s d n).setLaneState d n lsLocking).updLane d n fun x => freshStrip x 2 (l.attempt + 1)

/-- The lane is in steps 3 to 8 of a strip. -/
def State.inMeasure (s : State) (d n : Nat) : Bool :=
  (s.lane d n).step != 0 && (s.laneState d n == lsHandshake || s.laneState d n == lsMeasure)

/-! ## Steps 1 and 2 -/

/-- A data line is at or above LASER_MIN with its own tone present, as last measured; 0x8000 is no light (R97). -/
def State.lineGood (s : State) (oe j : Nat) : Bool :=
  let r := R.OPT_LINE_POWER oe j
  let power := s.fld r F.OPT_LINE_POWER_POWER
  decide (toSigned 16 (s.fld (R.OPT_TS_CTRL oe) F.OPT_TS_CTRL_LASER_MIN) ≤ toSigned 16 power) && power != 0x8000 &&
    toneNear (s.fld r F.OPT_LINE_POWER_TONE_KHZ) (lineTone j)

/-- Bring LINE_OK of an engine's line up to date. -/
def showLineOk (oe : Nat) (s : State) (j : Nat) : State :=
  let r := R.OPT_LASER_STATUS oe
  s.setF r F.OPT_LASER_STATUS_LINE_OK (setMaskBit (s.fld r F.OPT_LASER_STATUS_LINE_OK) j (s.lineGood oe j))

/-- Show a line's power and tone at an engine's data feed. -/
def showLine (s : State) (oe j : Nat) (power : BitVec 16) (tone : Nat) : State :=
  let r := R.OPT_LINE_POWER oe j
  showLineOk oe ((s.setF r F.OPT_LINE_POWER_POWER power.toNat).setF r F.OPT_LINE_POWER_TONE_KHZ tone) j

/-- LINE_OK of a lane's line. -/
def State.lineOk (s : State) (oe j : Nat) : Bool :=
  (s.fld (R.OPT_LASER_STATUS oe) F.OPT_LASER_STATUS_LINE_OK).testBit j

/-- A line of the lanyard feed is at or above LASER_MIN with its tone present (R115, R125). -/
def State.colourGood (s : State) (oe colour : Nat) (line : BitVec 16 × Nat) : Bool :=
  decide (toSigned 16 (s.fld (R.OPT_TS_CTRL oe) F.OPT_TS_CTRL_LASER_MIN) ≤ line.1.toInt) && line.1 != 0x8000#16 &&
    decide (4000 + 375 * colour ≤ 4 * line.2 + 80) && decide (4 * line.2 ≤ 4000 + 375 * colour + 80)

/-- Step 1 of a data lane's strip ends: a line too weak or without its tone ends the strip with NO_LASER; else the rings seek. -/
def dataLaserCheck (d n : Nat) (power : BitVec 16) (tone : Nat) (s : State) : State :=
  let s1 := showLine s (laneEngine d n) (laneIndex n) power tone
  if s1.lineOk (laneEngine d n) (laneIndex n) then
    (s1.setLaneState d n lsLocking).updLane d n fun l => { l with step := 2 }
  else rejectLane s1 d n 0x10 true none

/-- Step 1 of a lanyard lane's strip ends: the colours that fail it stay dark in the strip (DESIGN CHOICE, log entry 103); the rings seek
their bases. -/
def lanLaserCheck (d n : Nat) (lines : List (BitVec 16 × Nat)) (s : State) : State :=
  let weak := ((List.range 32).map fun c =>
    if s.colourGood (laneEngine d n) c (lines.getD c (0x8000#16, 0)) then 0 else 2 ^ c).sum
  ((ringsParked s d n).setLaneState d n lsLocking).updLan d ((n - 128) / 8) fun l => { l with weak := weak }

/-- TS_LASER_CHECK_DONE. -/
def doLaserCheck (d n : Nat) (power : List (BitVec 16)) (tone : List ToneKHz) (s : State) : State :=
  if s.laneState d n = lsLaserCheck then
    if n < 128 then dataLaserCheck d n (power.headD 0x8000#16) (tone.headD 0) s else lanLaserCheck d n (power.zip tone) s
  else s

def execTsLaserCheckDone (d : Fin 8) (n : Fin 144) (power : List (BitVec 16)) (tone : List ToneKHz) (s : State) : Result :=
  .next (doLaserCheck d.val n.val power tone s)

/-- The die temperature lies within 2 °C of the stored one (R88). -/
def tempClose (s : State) (d n : Nat) : Bool :=
  match (s.lane d n).stored with
  | none => false
  | some x => decide ((toSigned 16 (s.fld (R.OPT_THERM_STATUS (laneEngine d n)) F.OPT_THERM_STATUS_TEMP) - x.temp).natAbs ≤ 200)

/-- A relock try of a lane whose window is open (Table 3.6, word 0). -/
def relockTry (s : State) (d n : Nat) : State :=
  s.updLane d n fun l => { l with tries := if l.window then l.tries + 1 else l.tries }

/-- Both rings of a lane are locked: a strip goes on to its handshake; a re-seek to a fast relock while its window is open and the
temperature allows it, else to a full strip (R88, R93); a waiting lane waits. -/
def ringsReady (s : State) (d n : Nat) : State :=
  let l := s.lane d n
  if l.reseek then
    if l.window && tempClose s d n then
      relockTry ((s.setLaneState d n lsRelocking).updLane d n fun x => { x with reseek := false }) d n
    else (startStrip s d n).updLane d n fun x => { x with reseeked := l.reseeked }
  else if l.step = 2 then
    let s1 := (s.setLaneState d n lsHandshake).updLane d n fun x => { x with step := 3 }
    queueCtl s1 d n (ctlStrip 1 (laneIndex n) 0 0 (l.attempt * 65536))
  else s

/-- A ring of a data lane locks on its line's tone; with the receive check off the receive tone is not asked. A lanyard
lane's ring locks its base. -/
def doRingLock (d n : Nat) (ring : Ring) (tone : Nat) (s : State) : State :=
  let l := s.lane d n
  let seeking := s.laneState d n == lsLocking || l.reseek
  let right := toneNear tone (lineTone (laneIndex n)) || (ring == .rx && !s.rxToneCheck d n)
  if 128 ≤ n then
    (if seeking || !s.ringLock d n ring && s.laneState d n == lsAdmitted then ringLocked s d n ring 0xF else s)
  else if seeking && right then
    let s1 := (ringLocked s d n ring (laneIndex n)).updLane d n fun x =>
      match ring with
      | .tx => { x with seekTx := true }
      | .rx => { x with seekRx := true }
    if s1.ringLock d n .tx && s1.ringLock d n .rx &&
        (l.reseek || ((s1.lane d n).seekTx && (s1.lane d n).seekRx)) then
      ringsReady s1 d n
    else s1
  else s

/-- RING_LOCK. -/
def execRingLock (d : Fin 8) (n : Fin 144) (ring : Ring) (tone : ToneKHz) (s : State) : Result :=
  .next (doRingLock d.val n.val ring tone s)

/-- Three re-seeks of a lane failed within 1 s: FAULT (R93). A strip in which it re-sought ends with NO_LOCK. -/
def laneFault (s : State) (d n : Nat) : State :=
  let s0 := if (s.lane d n).step = 0 then s else rejectLane s d n 0x11 true none
  let s1 := leaveStripes (ringsParked s0 d n) d n
  let s2 := (s1.setLaneState d n lsFault).updLane d n fun l => { l with reseek := false, window := false, step := 0 }
  fileLaneLink (setLaneEvent s2 d n F.LANE_EVENT_RESEEK_FAIL) d n 4 0

/-- Core cycles in one second. -/
def secondCycles : Nat := 1600000000

/-- RING_SEEK_FAIL: ends a strip with NO_LOCK; counts against a re-seek; in RELOCKING the relock is tried again (R88). -/
def doSeekFail (d n : Nat) (ring : Ring) (s : State) : State :=
  let l := s.lane d n
  if 128 ≤ n then ringParked s d n ring
  else if l.reseek then
    let fails := ((s.cycle :: l.reseekFails).filter fun c => decide (s.cycle < c + secondCycles)).take 3
    let s1 := s.updLane d n fun x => { x with reseekFails := fails }
    if 3 ≤ fails.length then laneFault s1 d n else s1
  else if s.laneState d n = lsLocking ∧ l.step = 2 then rejectLane (ringParked s d n ring) d n 0x11 true none
  else if s.laneState d n = lsRelocking then relockTry s d n
  else s

def execRingSeekFail (d : Fin 8) (n : Fin 144) (ring : Ring) (s : State) : Result :=
  .next (doSeekFail d.val n.val ring s)

/-! ## The handshake and the measurement (R81) -/

/-- The far end is ready: PRBS_ON goes out, and the lane measures once the far end's pattern is on. -/
def handshake (s : State) (d n : Nat) : State :=
  let l := s.lane d n
  if s.laneState d n = lsHandshake ∧ l.gotReady ∧ l.step = 3 then
    let s1 := queueCtl s d n (ctlStrip 3 (laneIndex n) 0 0 0)
    (s1.setLaneState d n (if l.farPrbs then lsMeasure else lsHandshake)).updLane d n fun x => { x with step := 4 }
  else if s.laneState d n = lsHandshake ∧ l.step = 4 ∧ l.farPrbs then s.setLaneState d n lsMeasure
  else s

/-- The lane answers the far end's strip: its transmitter is lit. -/
def State.answers (s : State) (d n : Nat) : Bool :=
  match s.portOfLane d n with
  | some p => s.laneLit d p n
  | none => false

/-- REQUEST of an attempt of the far end's strip: each attempt is answered once by READY, by a lane that waits or carries no strip of
its own as well (R79). A lane that has already sent PRBS_ON in its own strip repeats it after the READY. -/
def takeRequest (d n : Nat) (w : TsWord) (s : State) : State :=
  let a := w.arg.toNat / 65536 + 1
  let l := s.lane d n
  if !s.answers d n || l.farAttempt == a then s
  else
    let s1 := queueCtl (s.updLane d n fun x => { x with farAttempt := a, farPrbs := false, prbsOn := false }) d n
      (ctlStrip 2 (laneIndex n) 0 0 0)
    if 4 ≤ l.step then queueCtl s1 d n (ctlStrip 3 (laneIndex n) 0 0 0) else s1

/-- PRBS_ON of the far end: a lane without a strip of its own now sends its pattern too. -/
def takePrbsOn (d n : Nat) (s : State) : State :=
  let l := s.lane d n
  let s1 := s.updLane d n fun x => { x with farPrbs := true }
  handshake (if l.step = 0 ∧ l.farAttempt ≠ 0 ∧ !l.farPrbs ∧ s.answers d n then
    queueCtl s1 d n (ctlStrip 3 (laneIndex n) 0 0 0) else s1) d n

/-- The far end's measurement is over: this lane's data slots return to IDLE, and its PRBS_ON is not repeated (Table 3.3, step 8). -/
def patternOff (l : Lane) : Lane :=
  { l with prbsOn := false, farPrbs := false, txq := l.txq.filter fun c => !(c.typ == 7 && c.body / 2 ^ 52 == 3) }

/-- The far end's strip is over (Table 3.3, step 9). -/
def farDone (s : State) (d n : Nat) : State := s.updLane d n fun l => { patternOff l with farAttempt := 0 }

/-- Effect of a TEST_STRIP word that names this lane's index (Table 2.4, R81, R83, R84). A word received twice has no further effect. -/
def stripWord (d n p : Nat) (w : TsWord) (s : State) : State :=
  match w.phase.val with
  | 1 => takeRequest d n w s
  | 2 => handshake (s.updLane d n fun l => { l with gotReady := true }) d n
  | 3 => takePrbsOn d n s
  | 4 => s.updLane d n patternOff
  | 5 => s.updLane d n fun l => { l with farMargin := w.margin.toNat }
  | 6 =>
    let s1 := farDone s d n
    if s.bit (laneStatus d n) F.LANE_STATUS_FAR_ADMIT then s1 else addTxLane (setFarAdmit s1 d n true) d p n
  | 7 =>
    dropTxLane (setFarAdmit ((farDone s d n).updLane d n fun l => { l with farRejected := l.step != 0 }) d n false) d p n
  | 15 =>
    let s1 := dropTxLane (setFarAdmit (farDone s d n) d n false) d p n
    if (s.lane d n).step = 0 then s1 else rejectLane s1 d n 0x17 false none
  | _ => s

/-- TEST_STRIP_WORD_RECEIVE: a word that names another lane index is discarded and counted. -/
def doStripWord (d n : Nat) (w : TsWord) (s : State) : State :=
  match s.portOfLane d n with
  | none => s
  | some p => if w.lane.val ≠ laneIndex n then s.yfpCount d p 13 else stripWord d n p w s

def execTestStripWordReceive (d : Fin 8) (n : Fin 128) (w : TsWord) (s : State) : Result :=
  .next (doStripWord d.val n.val w s)

/-- PRBS_SYNC_TIMEOUT: the checker has not synchronised, so no point is measured yet. -/
def doPrbsTimeout (d n : Nat) (s : State) : State :=
  let l := s.lane d n
  if s.inMeasure d n ∧ l.step = 4 ∧ l.phasePts = [] then rejectLane s d n 0x13 true none else s

def execPrbsSyncTimeout (d : Fin 8) (n : Fin 128) (s : State) : Result := .next (doPrbsTimeout d.val n.val s)

/-- The lane's engine is in slew pause. -/
def State.slewPaused (s : State) (oe : Nat) : Bool := s.bit (R.OPT_THERM_STATUS oe) F.OPT_THERM_STATUS_SLEW_PAUSE

/-- Points of the phase sweep, of the threshold sweep, and phases of the contour (Table 3.3). -/
def phaseCount : Nat := 32
def thresholdCount : Nat := 64
def contourCount : Nat := 8

/-- A point of a sweep, where it is that sweep's turn: the phase sweep, then the threshold sweep, then the contour. -/
def addPoint (m : SweepMeas) (l : Lane) : Lane :=
  match m with
  | .phase ph e => if l.phasePts.length < phaseCount then { l with step := 5, phasePts := l.phasePts ++ [(ph, e)] } else l
  | .threshold pt =>
    if l.phasePts.length = phaseCount ∧ l.thrPts.length < thresholdCount then { l with step := 6, thrPts := l.thrPts ++ [pt] } else l
  | .contour ph lo hi =>
    if l.thrPts.length = thresholdCount ∧ l.edges.length < contourCount then { l with step := 7, edges := l.edges ++ [(ph, lo, hi)] }
    else l

/-- TS_SWEEP_POINT_DONE: a point of the phase sweep, the threshold sweep or the contour; the sweeps wait in slew pause
(R84). -/
def doSweepPoint (d n : Nat) (m : SweepMeas) (s : State) : State :=
  if s.inMeasure d n ∧ s.laneState d n = lsMeasure ∧ !s.slewPaused (laneEngine d n) then s.updLane d n (addPoint m) else s

def execTsSweepPointDone (d : Fin 8) (n : Fin 128) (m : SweepMeas) (s : State) : Result :=
  .next (doSweepPoint d.val n.val m s)

/-! ## The margin (R82) -/

/-- A threshold point can be used: at least 10 errors, BER at most 10^-2. -/
def pointUsable (p : SweepPoint) : Bool := decide (10 ≤ p.errors) && decide (p.errors * 100 ≤ p.bits)

/-- Sums of a least-squares line through (v, q): slope and intercept. -/
def fitLine (ps : List (Int × Int)) : Rat × Rat :=
  let n : Rat := ps.length
  let sv : Rat := ((ps.map (·.1)).sum : Int)
  let sq : Rat := ((ps.map (·.2)).sum : Int)
  let svv : Rat := ((ps.map fun p => p.1 * p.1).sum : Int)
  let svq : Rat := ((ps.map fun p => p.1 * p.2).sum : Int)
  let det := n * svv - sv * sv
  ((n * svq - sv * sq) / det, (sq * svv - sv * svq) / det)

/-- q of a point, with the threshold (q in 2^-32). -/
def qPoint (p : SweepPoint) : Int × Int := (p.threshold, qOfBer p.errors p.bits)

/-- Q from the two fits. -/
def qOfFits (lo hi : List SweepPoint) : Rat :=
  let (a0, b0) := fitLine (lo.map qPoint)
  let (a1, b1) := fitLine (hi.map qPoint)
  let scale : Rat := 4294967296
  let sigma0 := scale / a0
  let sigma1 := -(scale / a1)
  let mu0 := -(b0 / a0)
  let mu1 := -(b1 / a1)
  (mu1 - mu0) / (sigma1 + sigma0)

/-- 20 × log10(x) rounded to 0.01 and limited to ±20.00, in 0.01: the number of half-way points 10^((2m - 1)/4000) that x
reaches. -/
def marginOf (x : Rat) : Int :=
  if x ≤ 0 then -2000
  else ((List.range 4000).filter fun (k : Nat) => decide ((10 : Rat) ^ (2 * ((k : Int) - 1999) - 1) ≤ x ^ 4000)).length - 2000

/-- Round down to a natural number. -/
def floorNat (x : Rat) : Nat := x.floor.toNat

/-- The choice among points measured alike at the optimum is open: a free value picks one. -/
def pickOptimum {α : Type} (s : State) (d0 : α) (xs : List α) : α × State :=
  let (k, s1) := s.drawFree 16
  (xs.getD (k % max 1 xs.length) d0, s1)

/-- Points with the fewest errors. -/
def fewestErrors {α : Type} (err : α → Nat) (xs : List α) : List α :=
  xs.filter fun x => xs.all fun y => decide (err x ≤ err y)

/-- The strip's result from its sweeps. The fit fails with fewer than 4 usable points on a side of the optimum. -/
def measure (s : State) (d n : Nat) : Measured × State :=
  let l := s.lane d n
  let (ph, s1) := pickOptimum s (0, 0) (fewestErrors (·.2) l.phasePts)
  let (pt, s2) := pickOptimum s1 ⟨0, 0, 0⟩ (fewestErrors SweepPoint.errors l.thrPts)
  let lo := l.thrPts.filter fun p => decide (p.threshold < pt.threshold) && pointUsable p
  let hi := l.thrPts.filter fun p => decide (pt.threshold < p.threshold) && pointUsable p
  let open_ := l.edges.filter fun e => decide (e.2.1 < e.2.2)
  let width := match (open_.map (·.1)).max?, (open_.map (·.1)).min? with
    | some a, some b => (a - b).toNat
    | _, _ => 0
  let height := match l.edges.find? fun e => e.1 == ph.1 with
    | some e => (e.2.2 - e.2.1).toNat
    | none => 0
  let fit := if lo.length < 4 ∨ hi.length < 4 then none
    else
      let q := qOfFits lo hi
      some (marginOf (q * 100 / 349), floorNat (q * 1000 + 1 / 2))
  ({ fit := fit, errors := pt.errors, phase := ph.1, threshold := pt.threshold, width := width, height := height }, s2)

/-- First failing result code of Table 3.5, in its order, for what a lane measured; none where it is admitted (R83). -/
def admission (s : State) (d n : Nat) (m : Measured) : Option Nat :=
  let oe := laneEngine d n
  let r := laneStatus d n
  let floor := toSigned 16 (s.fld (R.OPT_TS_CTRL oe) F.OPT_TS_CTRL_MARGIN_MIN)
  let low := match m.fit with
    | some (margin, _) => decide (margin < floor)
    | none => false
  if !s.lineOk oe (laneIndex n) || !s.bit r F.LANE_STATUS_TX_TONE_OK then some 0x10
  else if !s.ringLock d n .tx || !s.ringLock d n .rx then some 0x11
  else if s.rxToneCheck d n && !s.bit r F.LANE_STATUS_RX_TONE_OK then some 0x12
  else if low || m.height == 0 then some 0x14
  else if m.fit.isNone then some 0x18
  else none

/-- TS_MEASURE_DONE: with the sweeps complete, the margin is computed and the lane admitted or rejected (R82, R83). -/
def doMeasureDone (d n : Nat) (s : State) : State :=
  if s.inMeasure d n ∧ s.laneState d n = lsMeasure ∧ (s.lane d n).edges.length = contourCount then
    let (m, s1) := measure s d n
    match admission s1 d n m with
    | some code => rejectLane (s1.updLane d n fun l => { l with step := 9 }) d n code true (some m)
    | none => admitLane s1 d n m
  else s

def execTsMeasureDone (d : Fin 8) (n : Fin 128) (s : State) : Result := .next (doMeasureDone d.val n.val s)

/-- TEST_STRIP_TIMEOUT. In a slew pause the limit does not run (R84). -/
def doStripTimeout (d n : Nat) (s : State) : State :=
  if (s.lane d n).step = 0 ∨ s.slewPaused (laneEngine d n) then s else rejectLane s d n 0x16 true none

def execTestStripTimeout (d : Fin 8) (n : Fin 128) (s : State) : Result := .next (doStripTimeout d.val n.val s)

/-! ## Rings in service (R76, R77, R91, R92, R95) -/

/-- HEATER_UPDATE: a locked ring's heater; at 0 mW with the ring still drifting, HEATER_FLOOR, the lane down, a record
(R95). -/
def doHeater (d n : Nat) (ring : Ring) (heat : Nat) (drift : Bool) (s : State) : State :=
  if s.ringLock d n ring then
    let s1 := s.updLane d n fun l => match ring with
      | .tx => { l with txHeat := heat }
      | .rx => { l with rxHeat := heat }
    if heat = 0 ∧ drift then
      let oe := laneEngine d n
      let s2 := setEvent s1 61 (R.OPT_THERM_STATUS oe) F.OPT_THERM_STATUS_HEATER_FLOOR
      let s3 := if s.laneState d n = lsAdmitted then laneDown s2 d n else s2
      fileRec s3 (LogRec.of 9 0x0E 9 0 oe)
    else s1
  else s

def execHeaterUpdate (d : Fin 8) (n : Fin 144) (ring : Ring) (heat : BitVec 16) (drift : Bool) (s : State) : Result :=
  .next (doHeater d.val n.val ring heat.toNat drift s)

/-- A ring shows another line's tone: parked, flagged and counted, the lane out of both its stripes, a re-seek started, whose state is
LOCKING (R91 to R93). The far end's admission of the transmit direction stands until it says otherwise. -/
def wrongLine (s : State) (d n : Nat) (ring : Ring) : State :=
  let s1 := setLaneEvent ((ringParked s d n ring).laneCount d n 4) d n F.LANE_EVENT_WRONG_LINE
  let s2 := match s1.portOfLane d n with
    | some p => dropTxLane s1 d p n
    | none => s1
  let s3 := if s2.laneState d n = lsAdmitted then laneDown s2 d n else loseRxLane s2 d n
  let s4 := (s3.setLaneState d n lsLocking).updLane d n fun l =>
    { l with reseek := true, reseeked := l.step != 0, seekTx := false, seekRx := false }
  fileLaneLink s4 d n 5 0

/-- A 50 µs tone mismatch without another line's tone: a lane in service goes down (R87), a strip's attempt is cut short
(R84). -/
def toneLost (s : State) (d n : Nat) (ring : Ring) : State :=
  let r := laneStatus d n
  let s1 := match ring with
    | .tx => s.setF r F.LANE_STATUS_TX_TONE_OK 0
    | .rx => s.setF r F.LANE_STATUS_RX_TONE_OK 0
  if s.laneState d n = lsAdmitted then laneDown s1 d n
  else if s.inMeasure d n then cutAttempt s1 d n (if ring = .tx then 0x10 else 0x11)
  else s1

/-- TONE_WINDOW: the window confirms the ring's line or refutes it. A strip whose rings were re-sought already rejects the lane with
WRONG_TONE (Table 3.5). -/
def doToneWindow (d n : Nat) (ring : Ring) (tone : Nat) (s : State) : State :=
  let st := s.laneState d n
  let j := laneIndex n
  if st = lsOff ∨ st = lsParked ∨ st = lsExcluded ∨ !s.ringLock d n ring then s
  else if ring = .rx ∧ !s.rxToneCheck d n then s.setF (laneStatus d n) F.LANE_STATUS_RX_TONE_OK 1
  else match lineOfTone tone with
    | some k =>
      if k = j then
        match ring with
        | .tx => s.setF (laneStatus d n) F.LANE_STATUS_TX_TONE_OK 1
        | .rx => s.setF (laneStatus d n) F.LANE_STATUS_RX_TONE_OK 1
      else if s.inMeasure d n && (s.lane d n).reseeked then rejectLane (ringParked s d n ring) d n 0x12 true none
      else wrongLine s d n ring
    | none => toneLost s d n ring

def execToneWindow (d : Fin 8) (n : Fin 128) (ring : Ring) (tone : ToneKHz) (s : State) : Result :=
  .next (doToneWindow d.val n.val ring tone s)

/-- A lane loses light or lock: in service it goes down, in steps 3 to 8 of a strip its attempt is cut short (R84, R87); a fast relock
that it spoils is tried again (R88). -/
def lockLost (s : State) (d n : Nat) : State :=
  if s.laneState d n = lsAdmitted then laneDown s d n
  else if s.inMeasure d n then cutAttempt s d n 0x11
  else if s.laneState d n = lsRelocking ∧ (s.lane d n).light then relockTry s d n
  else s

/-- A lanyard lane that loses light or its base lock in a strip makes no record, and its colours read unmapped (R129). -/
def forgetHeard (s : State) (d n : Nat) : State :=
  s.updLan d ((n - 128) / 8) fun l => if l.strip then { l with heard := l.heard.filter fun e => e.1 / 32 != n % 8 } else l

/-- LANE_LOCK_LOSS: a ring that lost its lock shows it. -/
def doLockLoss (d : Nat) (what : LockLoss) (s : State) : State :=
  match what with
  | .ring n ring =>
    if n.val < 128 then lockLost (ringParked s d n.val ring) d n.val else forgetHeard (ringParked s d n.val ring) d n.val
  | .sampler n => if n.val < 128 then lockLost s d n.val else s

def execLaneLockLoss (d : Fin 8) (what : LockLoss) (s : State) : Result := .next (doLockLoss d.val what s)

/-- Eight codewords without a valid one, or 4 uncorrectable in 256. -/
def codewordsBad (l : Lane) : Bool := decide (8 ≤ l.noCw) || decide (4 ≤ (l.recent.filter (· == true)).length)

/-- LANE_NO_CODEWORD. -/
def doNoCodeword (d n : Nat) (s : State) : State :=
  if s.laneState d n = lsAdmitted ∧ codewordsBad (s.lane d n) then laneDown s d n else s

def execLaneNoCodeword (d : Fin 8) (n : Fin 128) (s : State) : Result := .next (doNoCodeword d.val n.val s)

/-- LIGHT_LOSS: without light on the receive fibre the receive ring has no line to hold; the transmit ring keeps its own. -/
def doLightLoss (d n : Nat) (s : State) : State :=
  let s1 := s.updLane d n fun l => { l with light := false }
  if 128 ≤ n then forgetHeard (ringParked s1 d n .rx) d n else lockLost (ringParked s1 d n .rx) d n

def execLightLoss (d : Fin 8) (n : Fin 144) (s : State) : Result := .next (doLightLoss d.val n.val s)

/-! ## Relocking (R88 to R90) -/

/-- LIGHT_RETURN: a fast relock starts, or a full strip at once where the temperature is off; from DARK a link start of
the lane. -/
def doLightReturn (d n : Nat) (s : State) : State :=
  let s1 := s.updLane d n fun l => { l with light := true }
  if 128 ≤ n then s1
  else if s.laneState d n = lsRelocking ∧ (s.lane d n).window then
    if tempClose s d n then relockTry s1 d n
    else if s.testable d n false then stripOrWait s1 d n else s1
  else if s.laneState d n = lsDark then linkStartLane d s1 n
  else s1

def execLightReturn (d : Fin 8) (n : Fin 144) (s : State) : Result := .next (doLightReturn d.val n.val s)

/-- FAST_RELOCK_DONE: the lane is admitted again with its stored settings. -/
def doFastRelock (d n txHeat rxHeat : Nat) (s : State) : State :=
  let l := s.lane d n
  let oe := laneEngine d n
  if s.laneState d n = lsRelocking ∧ l.window ∧ l.light ∧ tempClose s d n ∧ !s.slewPaused oe then
    let s0 := s.updLane d n fun x =>
      { x with txHeat := txHeat, rxHeat := rxHeat, window := false, noCw := 0, recent := [], step := 0 }
    let s1 := ringLocked (ringLocked s0 d n .tx (laneIndex n)) d n .rx (laneIndex n)
    let s2 := queueCtl s1 d n (ctlStrip 6 (laneIndex n) 0 1 0)
    let old := fun w => (s.rd (R.LANE_TS_REPORT oe (laneLocal n) w)).toNat
    let m := (old 2, old 4, old 5)
    let s3 := writeReport s2 d n (reportWord0 d n 0 1 (max 1 l.tries)) m
    let s4 := s3.wr (R.LANE_TS_REPORT oe (laneLocal n) 7)
      (BitVec.ofNat 32 (s.fld (R.OPT_THERM_STATUS oe) F.OPT_THERM_STATUS_TEMP * 65536 + old 7 % 65536))
    let s5 := ((s4.setLaneState d n lsAdmitted).setF (laneStatus d n) F.LANE_STATUS_LAST_RESULT 1).laneCount d n 1
    rejoinTx (admitRxLane (setLaneEvent s5 d n F.LANE_EVENT_FAST_RELOCK) d n) d n
  else s

def execFastRelockDone (d : Fin 8) (n : Fin 128) (txHeat rxHeat : BitVec 16) (s : State) : Result :=
  .next (doFastRelock d.val n.val txHeat.toNat rxHeat.toNat s)

/-- RELOCK_WINDOW_EXPIRE. A lane still re-seeking only closes its window (R93). -/
def doWindowExpire (d n : Nat) (s : State) : State :=
  let l := s.lane d n
  if l.window then
    let s1 := s.updLane d n fun x => { x with window := false }
    if s.laneState d n ≠ lsRelocking then s1
    else if l.light then (if s.testable d n false then stripOrWait s1 d n else s1)
    else s1.setLaneState d n lsDark
  else s

def execRelockWindowExpire (d : Fin 8) (n : Fin 128) (s : State) : Result := .next (doWindowExpire d.val n.val s)

/-- LANE_RETEST: a rejected lane, unless rejected three times alike or RETEST_S is 0 (R90). -/
def doRetest (d n : Nat) (s : State) : State :=
  if s.laneState d n = lsRejected ∧ s.testable d n false ∧
      s.fld (R.OPT_LANE_POLICY (laneEngine d n)) F.OPT_LANE_POLICY_RETEST_S ≠ 0 then
    startStrip s d n
  else s

def execLaneRetest (d : Fin 8) (n : Fin 128) (s : State) : Result := .next (doRetest d.val n.val s)

/-- Hold a lane out of its port: EXCLUDED, its rings parked. -/
def holdLane (s : State) (d n : Nat) : State :=
  let s2 := leaveStripes (ringsParked s d n) d n
  (s2.setLaneState d n lsExcluded).updLane d n fun l => { l with step := 0, window := false, reseek := false, reseeked := false }

/-- The lanyard lane is in a usable path: a colour it transmits or receives reaches, or is heard from, a peer (R127, R139). -/
def laneUsed (s : State) (d lp lane : Nat) : Bool :=
  (List.range 32).any fun c =>
    let r := R.LANYARD_PEER_STATUS d (128 + lp) c
    let q := R.LANYARD_PEER_PATH d (128 + lp) c
    (s.bit r F.LANYARD_PEER_STATUS_TX_OK && (s.fld q F.LANYARD_PEER_PATH_TX_LANES).testBit lane) ||
      (s.bit r F.LANYARD_PEER_STATUS_RX_OK && (s.fld q F.LANYARD_PEER_PATH_RX_LANES).testBit lane)

/-- State of a lanyard lane outside a strip and not excluded: FAULT once removed, OFF while nothing was discovered, ADMITTED in a usable
path, else REJECTED (R139). -/
def lanLaneState (s : State) (d lp lane : Nat) : Nat :=
  if (s.lan d lp).removed.testBit lane then lsFault
  else if (s.lan d lp).found = 0 then lsOff
  else if laneUsed s d lp lane then lsAdmitted
  else lsRejected

/-- Let an excluded lane go: a data lane is tested anew, or stays for the command that it waits for; a lanyard lane has the state its paths
give it. -/
def freeLane (s : State) (d n : Nat) : State :=
  if s.laneState d n ≠ lsExcluded then s
  else if n < 128 then
    (if s.testable d n false then startStrip s d n
     else if s.bit (R.LANE_CTRL (laneEngine d n) (laneLocal n)) F.LANE_CTRL_EXCLUDE || s.bandHeld 7 d n then s
     else showStuck (s.setLaneState d n lsOff) d n)
  else s.setLaneState d n (lanLaneState s d ((n - 128) / 8) (n % 8))

/-- A write of LANE_CTRL.EXCLUDE (R98). A retired lane ignores writes of 0 (Table 13.11). -/
def writeExclude (d n : Nat) (v : Bool) (s : State) : State :=
  let r := R.LANE_CTRL (laneEngine d n) (laneLocal n)
  let was := s.bit r F.LANE_CTRL_EXCLUDE
  if !v && s.isRetired (laneKind n) d n then s
  else
    let s1 := s.setF r F.LANE_CTRL_EXCLUDE (if v then 1 else 0)
    if v ∧ !was then holdLane s1 d n
    else if !v ∧ was then freeLane s1 d n
    else s1

/-- LANE_EXCLUDE_WRITE. -/
def execLaneExcludeWrite (d : Fin 8) (n : Fin 144) (value : Bool) (s : State) : Result :=
  .next (writeExclude d.val n.val value s)

/-! ## Heat (R94, R95) -/

/-- Ports with a lane on an optical engine: (die, port). -/
def State.oePorts (s : State) (oe : Nat) : List (Nat × Nat) :=
  let d := oe / 2
  ((List.range 64).map fun k => (d, oe % 2 * 64 + k)).filter (fun x => s.portExists x.1 x.2) ++ [(d, 128 + oe % 2)]

/-- A port enters slew pause: frames stop, lossless classes are paused, its lanes count it. -/
def slewPort (s : State) (x : Nat × Nat) : State :=
  let s1 := flowPort (s.updPort x.1 x.2 fun y => { y with slew := true }) x.1 x.2
  (s1.laneList x.1 x.2).foldl (fun t n => t.laneCount x.1 n 5) s1

/-- Band-suspect lanes of an optical engine that enter a band they are suspect in are held out; those that leave it go
(Table 13.11). `was` is the state before the band moved. -/
def bandLanes (oe : Nat) (was s : State) : State :=
  ((List.range 64).map (oe % 2 * 64 + ·)).foldl (fun s n =>
    let d := oe / 2
    if s.bandHeld 7 d n && !was.bandHeld 7 d n then holdLane s d n
    else if was.bandHeld 7 d n && !s.bandHeld 7 d n then freeLane s d n
    else s) s

/-- PHOTONIC_TEMP_SAMPLE: temperature and slope; HOT at 85 °C, with a record where the die has just reached it; slew pause
above SLEW_LIMIT. -/
def doPhotonicTemp (oe : Nat) (temp : BitVec 16) (slope : BitVec 12) (s : State) : State :=
  let r := R.OPT_THERM_STATUS oe
  let before := toSigned 16 (s.fld r F.OPT_THERM_STATUS_TEMP)
  let s1 := (s.setF r F.OPT_THERM_STATUS_TEMP temp.toNat).setF r F.OPT_THERM_STATUS_SLOPE slope.toNat
  let s2 := bandLanes oe s1 { s1 with pwr := { s1.pwr with
    bands := sput s1.pwr.bands (16 + oe) (nextBand (sget s1.pwr.bands (16 + oe) 0) temp.toInt) 0 } }
  let s3 := if 8500 ≤ temp.toInt then
      let t := setEvent s2 61 r F.OPT_THERM_STATUS_HOT
      if before < 8500 then fileRec t (LogRec.of 9 0x0E 9 0 oe) else t
    else s2
  let limit : Int := (s.fld (R.OPT_THERM_CTRL oe) F.OPT_THERM_CTRL_SLEW_LIMIT * 10 : Nat)
  if limit < slope.toInt ∧ !s.slewPaused oe then
    (s.oePorts oe).foldl slewPort (s3.setF r F.OPT_THERM_STATUS_SLEW_PAUSE 1)
  else s3

def execPhotonicTempSample (oe : Fin 16) (temp : BitVec 16) (slope : BitVec 12) (s : State) : Result :=
  .next (doPhotonicTemp oe.val temp slope s)

/-- SLEW_DRAIN_DONE: the lanes of the paused ports go down (R94 step 4). -/
def doSlewDrain (oe : Nat) (s : State) : State :=
  if s.slewPaused oe then
    (s.oePorts oe).foldl (fun t x =>
      (t.laneList x.1 x.2).foldl (fun u n =>
        if u.laneState x.1 n = lsAdmitted then laneDown (setLaneEvent u x.1 n F.LANE_EVENT_SLEW_PAUSE) x.1 n else u) t) s
  else s

def execSlewDrainDone (oe : Fin 16) (s : State) : Result := .next (doSlewDrain oe.val s)

/-- A port's slew pause ends; a port without its lanes resumes its classes once it has them. -/
def slewEndPort (s : State) (x : Nat × Nat) : State :=
  if 128 ≤ x.2 ∨ s.lanesUp x.1 x.2 then flowPort (s.updPort x.1 x.2 fun y => { y with slew := false }) x.1 x.2 else s

/-- SLEW_PAUSE_END: the slope has stayed below SLEW_RESUME. -/
def doSlewEnd (oe : Nat) (s : State) : State :=
  let r := R.OPT_THERM_STATUS oe
  let resume : Int := (s.fld (R.OPT_THERM_CTRL oe) F.OPT_THERM_CTRL_SLEW_RESUME * 10 : Nat)
  if s.slewPaused oe ∧ toSigned 12 (s.fld r F.OPT_THERM_STATUS_SLOPE) < resume then
    (s.oePorts oe).foldl slewEndPort (s.setF r F.OPT_THERM_STATUS_SLEW_PAUSE 0)
  else s

def execSlewPauseEnd (oe : Fin 16) (s : State) : Result := .next (doSlewEnd oe.val s)

/-- LASER_FEED_CHANGE: the feeds and one line of an optical engine; with both feeds lost its ENGINE_FAULT bit is set
(R34, R97). A lane in a strip whose line is lost has its attempt cut short (R84). -/
def doLaserFeed (oe : Nat) (dataFeed lanyardFeed : Bool) (j : Nat) (power : BitVec 16) (tone : Nat) (s : State) : State :=
  let r := R.OPT_LASER_STATUS oe
  let s1 := showLine s oe j power tone
  let s2 := (s1.setF r F.OPT_LASER_STATUS_DATA_FEED_OK (if dataFeed then 1 else 0)).setF r
    F.OPT_LASER_STATUS_LANYARD_FEED_OK (if lanyardFeed then 1 else 0)
  let s3 := s2.setF R.OPTICAL_STATUS F.OPTICAL_STATUS_ENGINE_FAULT
    (setMaskBit (s2.fld R.OPTICAL_STATUS F.OPTICAL_STATUS_ENGINE_FAULT) oe (!dataFeed && !lanyardFeed))
  if s.lineOk oe j && !s3.lineOk oe j then
    ((List.range 8).map fun g => oe % 2 * 64 + g * 8 + j).foldl
      (fun t n => if t.inMeasure (oe / 2) n then cutAttempt t (oe / 2) n 0x10 else t) s3
  else s3

def execLaserFeedChange (oe : Fin 16) (dataFeed lanyardFeed : Bool) (line : Fin 8) (power : BitVec 16) (tone : ToneKHz)
    (s : State) : Result :=
  .next (doLaserFeed oe.val dataFeed lanyardFeed line.val power tone s)

/-! ## Port width (R86, R96) -/

/-- The lanes a port would have overlap those of another port of its group, or cross the group's end. -/
def widthBad (s : State) (d p w : Nat) : Bool :=
  decide (8 < p % 8 + w) || (List.range 8).any fun i =>
    let q := p / 8 * 8 + i
    let wq := s.fld (R.PORT_LANE_CTRL d q) F.PORT_LANE_CTRL_WIDTH
    q != p && decide (wq ≠ 0) && decide (w ≠ 0) && decide (q < p + w) && decide (p < q + wq)

/-- A port ceases to exist: its frames go as in quarantine, its lanes are off. -/
def removePort (s : State) (d p : Nat) : State :=
  let lanes := s.laneList d p
  let s1 := enterQuarantine (truncateRx s d p) d p
  let s2 := lanes.foldl (fun t n => (t.setLaneState d n lsOff).updLane d n fun l => { l with step := 0, window := false }) s1
  ((s2.wr (R.PORT_LANE_STATUS d p) 0).setPortState d p 0).updPort d p fun x =>
    { x with rxAdmit := 0, laneSetRx := none, laneSetTx := none, farCond := none }

/-- A write of PORT_LANE_CTRL that takes effect: width, minimum width, and a link start where it is one (R79). -/
def takeLaneCtrl (d p w m : Nat) (s : State) : State :=
  let r := R.PORT_LANE_CTRL d p
  let w0 := s.fld r F.PORT_LANE_CTRL_WIDTH
  let m0 := s.fld r F.PORT_LANE_CTRL_MIN_WIDTH
  let m1 := if 1 ≤ m ∧ m ≤ w then m else m0
  let gone := (s.laneList d p).filter fun n => decide (p + w ≤ n)
  let s0 := if w = 0 ∧ w0 ≠ 0 then removePort s d p
    else gone.foldl (fun t n => (leaveStripes t d n).setLaneState d n lsOff) s
  let s1 := (s0.setF r F.PORT_LANE_CTRL_WIDTH w).setF r F.PORT_LANE_CTRL_MIN_WIDTH m1
  if w = 0 then s1
  else
    let s2 := if w0 = 0 then s1.setPortState d p 1 else s1
    let s3 := if w0 = 0 then s2 else
      refreshUp ((s2.setF (R.PORT_LANE_STATUS d p) F.PORT_LANE_STATUS_TX_ACTIVE (s2.txMask d p &&& s2.widthMask d p)).setF
        (R.PORT_LANE_STATUS d p) F.PORT_LANE_STATUS_RX_ACTIVE (s2.rxMask d p &&& s2.widthMask d p)) d p
    if w ≠ w0 ∨ m1 = m0 then linkStart s3 d p else s3

/-- A write of PORT_LANE_CTRL: ignored at lanyard ports, where it crosses the group or overlaps a port, and where the
reservations would not fit, with RESERVE_REFUSED set (R86, R96, R180). -/
def writeLaneCtrl (d p : Nat) (v : Word) (s : State) : State :=
  let w := F.PORT_LANE_CTRL_WIDTH.get v
  let t := s.setF (R.PORT_LANE_CTRL d p) F.PORT_LANE_CTRL_WIDTH w
  if 128 ≤ p ∨ widthBad s d p w then s
  else if reserveOverflow d p s t then setEvent s 62 (R.BUF_EVENT d) F.BUF_EVENT_RESERVE_REFUSED
  else flowPort (takeLaneCtrl d p w (F.PORT_LANE_CTRL_MIN_WIDTH.get v) s) d p

/-- PORT_LANE_CTRL_WRITE. -/
def execPortLaneCtrlWrite (d : Fin 8) (p : Fin 130) (value : Word) (s : State) : Result :=
  .next (writeLaneCtrl d.val p.val value s)

/-! ## Dark partitions (R162) -/

/-- Every data port with whether its partition is dark. -/
def darkPorts (s : State) : List (Nat × Nat) :=
  (List.range 8).flatMap fun d => ((List.range 128).filter fun p => s.portExists d p && s.portDark d p).map fun p => (d, p)

/-- Ports that have become dark go down; ports no longer dark have a link start. -/
def followDark (before : List (Nat × Nat)) (s : State) : State :=
  let now := darkPorts s
  let s1 := (now.filter fun x => !before.contains x).foldl (fun t x => losePort t x.1 x.2) s
  (before.filter fun x => !now.contains x).foldl (fun t x => linkStart t x.1 x.2) s1

/-- A write of PARTITION_FENCE. -/
def writeFence (q : Nat) (v : Word) (s : State) : State :=
  let r := R.PARTITION_FENCE 0 q
  let before := darkPorts s
  followDark before ((s.setF r F.PARTITION_FENCE_FENCE (F.PARTITION_FENCE_FENCE.get v)).setF r F.PARTITION_FENCE_DARK
    (F.PARTITION_FENCE_DARK.get v))

/-- PARTITION_FENCE_WRITE. -/
def execPartitionFenceWrite (q : Fin 64) (value : Word) (s : State) : Result := .next (writeFence q.val value s)

end Sys2Proof.Machine
end

