-- ==== Sys2Proof/Machine/Time.lean ====
section
/-! DEFINITION. The meanings of the time rows: exchanges, the servo, time states, master selection, the reference inputs (R100
to R110, R113). -/

namespace Sys2Proof.Machine

/-! ## The counter (R100, R102) -/

def tsFreeRun : Nat := 0
def tsAcquiring : Nat := 1
def tsLocked : Nat := 2
def tsHoldover : Nat := 3
def tsCoarse : Nat := 4

def State.timeState (s : State) : Nat := s.fld R.TIME_STATUS F.TIME_STATUS_STATE
def State.isRoot (s : State) : Bool := s.bit R.TIME_CTRL F.TIME_CTRL_ROOT
def State.updTime (s : State) (f : TimeUnit → TimeUnit) : State := { s with time := f s.time }

/-- Set a TIME_STATUS event (vector 33). -/
def timeEvent (s : State) (f : Fld) : State := setEvent s 33 R.TIME_STATUS f

/-- HOLDOVER_MS of every lanyard port counts anew (R121). -/
def freshHoldover (s : State) : State :=
  (List.range 16).foldl (fun t i => t.updLan (i / 2) (i % 2) fun l => { l with held := false }) s

/-- Enter a time state; a root always reads LOCKED (R105). Each change sets STATE_EVENT. -/
def setTimeState (s : State) (st : Nat) : State :=
  let t := if s.isRoot then tsLocked else st
  if s.timeState = t then s
  else
    let s1 := timeEvent (s.setF R.TIME_STATUS F.TIME_STATUS_STATE t) F.TIME_STATUS_STATE_EVENT
    freshHoldover (s1.updTime fun x => { x with holdAt := s.cycle })

/-- Units of 2^-56 ns in one wrap of the nanosecond counter. -/
def wrapUnits : Nat := 2 ^ 88

/-- Move the counter by an amount of 2^-56 ns: a move forward across zero raises one wrap event (R100, R104). -/
def moveTime (s : State) (by_ : Int) : State :=
  let new := (((s.time.fab : Int) + by_) % ((2 ^ 120 : Nat) : Int)).toNat
  let s1 := s.updTime fun t => { t with fab := new }
  if 0 < by_ ∧ ((s.time.fab / wrapUnits : Nat) : Int) < ((s.time.fab : Int) + by_) / (wrapUnits : Int) then
    timeEvent s1 F.TIME_STATUS_WRAP_EVENT
  else s1

/-- TIME_WRAP: the nanosecond counter passes from its last value, 0xFFFF_FFFF, to 0. -/
def doWrap (s : State) : State :=
  if s.now = 2 ^ 32 - 1 then moveTime s ((wrapUnits - s.time.fab % wrapUnits : Nat) : Int) else s

def execTimeWrap (s : State) : Result := .next (doWrap s)

/-- The time as a stamp. Replicas and lane stamps are taken as exact; R101 lets them err by ±1 ns (DESIGN CHOICE, log entry 104). -/
def State.stamp (s : State) : Stamp := ⟨BitVec.ofNat 32 s.now, BitVec.ofNat 16 s.frac⟩

/-- A stamp in 2^-16 ns. -/
def stampNat (t : Stamp) : Nat := t.ns.toNat * 65536 + t.frac.toNat

/-- Signed difference of two stamps modulo 2^32 ns, in 2^-16 ns. -/
def stampDiff (a b : Nat) : Int := toSigned 48 (a + 2 ^ 48 - b % 2 ^ 48)

/-! ## The servo (R104) -/

/-- A rational rounded to an integer; which neighbour is not stated, so a free value picks it. -/
def roundFree (s : State) (x : Rat) : Int × State :=
  if x.floor = x.ceil then (x.floor, s)
  else
    let (b, s1) := s.drawFree 1
    (x.floor + (b : Int), s1)

/-- Units as rationals. -/
def two40 : Rat := ((2 ^ 40 : Nat) : Rat)
def two80 : Rat := ((2 ^ 80 : Nat) : Rat)

/-- ±200 ppm in 2^-40. -/
def freqLimit : Int := 219902325

/-- Limit to ±200 ppm. -/
def limitFreq (f : Int) : Int := max (-freqLimit) (min freqLimit f)

/-- Show f. -/
def setFreq (s : State) (f : Int) : State :=
  (s.updTime fun t => { t with f := f }).wr R.TIME_FREQ_ADJ (BitVec.ofInt 32 f)

/-- Step the counter by -theta ns (R104). -/
def stepTime (s : State) (theta : Rat) : State :=
  let (n, s1) := roundFree s (-theta * ((2 ^ 56 : Nat) : Rat))
  let s2 := timeEvent (moveTime s1 n) F.TIME_STATUS_STEP_EVENT
  setTimeState (s2.updTime fun t => { t with count := 0, good := 0 }) tsAcquiring

/-- Show an accepted offset. -/
def showTheta (s : State) (theta : Rat) : State :=
  let (n, s1) := roundFree s (theta * 256)
  s1.wr R.TIME_OFFSET (BitVec.ofInt 32 n)

/-- Adjust the frequency by an offset at an interval of T ns. -/
def steer (s : State) (theta T : Rat) : State :=
  let ki : Rat := ((2 ^ s.fld R.TIME_SERVO F.TIME_SERVO_KI_SHIFT : Nat) : Rat)
  let kp : Rat := ((2 ^ s.fld R.TIME_SERVO F.TIME_SERVO_KP_SHIFT : Nat) : Rat)
  let (di, s1) := roundFree s (theta / T / ki * two80)
  let integ := s.time.integ + di
  let (f0, s2) := roundFree s1 (-(theta / T / kp * two40 + (integ : Rat) / two40))
  let f := limitFreq f0
  let near := decide (|theta| ≤ (s.fld R.TIME_SERVO F.TIME_SERVO_LOCK_NS : Rat))
  let s3 := (setFreq s2 f).updTime fun t =>
    { t with integ := integ, count := 0, good := if near then t.good + 1 else 0, hist := (f :: t.hist).take 64 }
  if 16 ≤ s3.time.good then setTimeState s3 tsLocked else s3

/-- The servo acts on an offset (R104). An offset that causes a step counts as accepted for TIME_OFFSET, and not for the mean of R107
(DESIGN CHOICE, log entry 105). -/
def servo (s : State) (theta T : Rat) : State :=
  if (s.fld R.TIME_SERVO F.TIME_SERVO_STEP_NS : Rat) < |theta| then
    let n := s.time.count + 1
    if s.timeState ≠ tsLocked ∨ n = 4 then stepTime (showTheta s theta) theta
    else s.updTime fun t => { t with count := n, good := 0 }
  else steer (showTheta s theta) theta T

/-- In holdover without a source f stands at its mean over the last accepted exchanges (R107). -/
def freezeFreq (s : State) : State :=
  if s.time.hist.isEmpty then s
  else
    let (m, s1) := roundFree s ((s.time.hist.sum : Rat) / (s.time.hist.length : Rat))
    setFreq s1 m

/-! ## Sources (R106) -/

/-- Priority of a source. -/
def State.srcPrio (s : State) (m : Nat × Nat) : Nat :=
  if m.1 = 255 then s.fld R.TIME_REF_CTRL F.TIME_REF_CTRL_REF_PRIO
  else s.fld (R.TIME_PORT_CTRL m.1 m.2) F.TIME_PORT_CTRL_PRIO

/-- The source can be followed: of a priority above 0 and up, a port with its lanes up and its exchanges answered, the reference after
an edge that gave an offset; a root follows no port (R105, R106, R108). -/
def State.srcUp (s : State) (m : Nat × Nat) : Bool :=
  decide (s.srcPrio m ≠ 0) &&
    (if m.1 = 255 then s.time.refUp
     else decide (m.2 < 128) && s.bit (R.PORT_LANE_STATUS m.1 m.2) F.PORT_LANE_STATUS_UP && !s.time.silent.contains m && !s.isRoot)

/-- All sources, the reference first, then ports in order. -/
def allSources : List (Nat × Nat) :=
  (255, 0) :: (List.range 8).flatMap fun d => (List.range 128).map fun p => (d, p)

/-- The up source of the highest priority; the first listed on a tie; one source can be left out. -/
def bestSource (s : State) (skip : Option (Nat × Nat)) : Option (Nat × Nat) :=
  (allSources.filter fun m => s.srcUp m && skip != some m).foldl (fun b m =>
    match b with
    | none => some m
    | some x => if s.srcPrio x < s.srcPrio m then some m else some x) none

/-- Show and take a master. -/
def setMaster (s : State) (m : Option (Nat × Nat)) : State :=
  let r := R.TIME_STATUS
  let ref := m.isSome && (m.getD (0, 0)).1 == 255
  let (d, p) := match m with
    | some x => if x.1 = 255 then (0, 255) else x
    | none => (0, 255)
  let s1 := ((s.setF r F.TIME_STATUS_REF_SELECTED (if ref then 1 else 0)).setF r F.TIME_STATUS_MASTER_DIE d).setF r
    F.TIME_STATUS_MASTER_PORT p
  s1.updTime fun t => { t with master := m, lost := false, exch := [], good := 0, discards := 0, count := 0 }

/-- Change to another master, or to none: HOLDOVER, but ACQUIRING from FREE_RUN, and COARSE stays (R105, R106). -/
def changeMaster (s : State) (m : Option (Nat × Nat)) : State :=
  let s1 := setMaster s m
  let s2 := if m.isNone then freezeFreq s1 else s1
  if s.timeState = tsCoarse then s2
  else if s.timeState = tsFreeRun then (if m.isSome then setTimeState s2 tsAcquiring else s2)
  else setTimeState s2 tsHoldover

/-- Reselect at once after a priority write. -/
def reselect (s : State) : State :=
  let best := bestSource s none
  if best = s.time.master ∧ !s.time.lost then s else changeMaster s best

/-- The selected master is lost: HOLDOVER, with the master kept for a while (R106, R107). In COARSE, which Table 4.1 leaves only by the lock
criterion, the state stays (DESIGN CHOICE, log entry 106). -/
def loseMaster (s : State) : State :=
  if s.time.master.isNone ∨ s.time.lost then s
  else
    let s1 := freezeFreq (s.updTime fun t => { t with lost := true, exch := [], good := 0 })
    if s.timeState = tsCoarse then s1 else setTimeState s1 tsHoldover

/-- MASTER_LOSS. -/
def execMasterLoss (s : State) : Result := .next (loseMaster s)

/-- HOLDOVER_SWITCH_EXPIRE: with the master still lost, the next source is selected. -/
def doSwitchExpire (s : State) : State :=
  if s.time.lost then changeMaster s (bestSource s s.time.master) else s

def execHoldoverSwitchExpire (s : State) : Result := .next (doSwitchExpire s)

/-- Number of a source. -/
def srcOf : TimeSrc → Nat × Nat
  | .ref => (255, 0)
  | .port d p => (d.val, p.val)

/-- SOURCE_QUALIFY: a source of higher priority than the current master has stayed up long enough. Without a current master, too, a source
that comes up without a priority write is taken here and not at once (DESIGN CHOICE, log entry 107). -/
def doQualify (m : Nat × Nat) (s : State) : State :=
  let higher := match s.time.master with
    | none => true
    | some x => decide (s.srcPrio x < s.srcPrio m)
  if s.srcUp m && higher && bestSource s none == some m then changeMaster s (some m) else s

def execSourceQualify (src : TimeSrc) (s : State) : Result := .next (doQualify (srcOf src) s)

/-- TENMHZ_EN is set or cleared: with it the 10 MHz input adjusts the frequency. How far that input lies from the 156.25 MHz reference is
the board's: a free value within the servo's limits (R108; log entry 2). -/
def useTenMhz (was : Bool) (s : State) : State :=
  let on := s.bit R.TIME_REF_CTRL F.TIME_REF_CTRL_TENMHZ_EN
  if on = was then s
  else if on then
    let (x, s1) := s.drawFree 32
    s1.updTime fun t => { t with tenAdj := limitFreq (toSigned 32 x) }
  else s.updTime fun t => { t with tenAdj := 0 }

/-- PPS_OUT_EN is set: 1PPS_OUT first rises at its anchor (R108). -/
def startPpsOut (was : Bool) (s : State) : State :=
  if s.bit R.TIME_REF_CTRL F.TIME_REF_CTRL_PPS_OUT_EN && !was then
    s.updTime fun t => { t with ppsOutAt := (s.rd R.TIME_PPS_OUT_ANCHOR).toNat }
  else s

/-- A write of TIME_PPS_OUT_ANCHOR: the next rising edge is the new first one. -/
def writePpsAnchor (v : Word) (s : State) : State :=
  (s.wr R.TIME_PPS_OUT_ANCHOR v).updTime fun t => { t with ppsOutAt := v.toNat }

/-- A write of TIME_REF_CTRL: turning 1PPS_IN on or off forgets what was expected of it (R108). -/
def writeRefCtrl (v : Word) (s : State) : State :=
  let r := R.TIME_REF_CTRL
  let was := s.bit r F.TIME_REF_CTRL_PPS_IN_EN
  let s1 := startPpsOut (s.bit r F.TIME_REF_CTRL_PPS_OUT_EN) (useTenMhz (s.bit r F.TIME_REF_CTRL_TENMHZ_EN)
    (s.wr r (v &&& 0x0000FF07#32)))
  if was = s1.bit r F.TIME_REF_CTRL_PPS_IN_EN then s1
  else s1.updTime fun t => { t with ppsExpect := none, refUp := false }

/-- TIME_PRIO_WRITE: the register, then reselection. -/
def writePrio (src : TimeSrc) (v : Word) (s : State) : State :=
  match src with
  | .ref => reselect (writeRefCtrl v s)
  | .port d p => reselect (s.wr (R.TIME_PORT_CTRL d.val p.val) (v &&& 0xFFFF00FF#32))

def execTimePrioWrite (src : TimeSrc) (value : Word) (s : State) : Result := .next (writePrio src value s)

/-- A write of TIME_CTRL: an interval below 16 is ignored; ROOT makes the device read LOCKED and follow no port (R105). A
root that ceases to be one starts from FREE_RUN. -/
def writeTimeCtrl (v : Word) (s : State) : State :=
  let r := R.TIME_CTRL
  let was := s.isRoot
  let s1 := setInRange s r F.TIME_CTRL_INTERVAL_US v 16 65535
  let s2 := s1.setF r F.TIME_CTRL_HOLDOVER_SWITCH_MS (F.TIME_CTRL_HOLDOVER_SWITCH_MS.get v)
  let s3 := s2.setF r F.TIME_CTRL_ROOT (F.TIME_CTRL_ROOT.get v)
  if s3.isRoot ∧ !was then
    setTimeState (if (s3.time.master.getD (255, 0)).1 = 255 then s3 else setMaster s3 none) tsLocked
  else if was ∧ !s3.isRoot then reselect (setTimeState (setMaster s3 none) tsFreeRun)
  else s3

/-! ## Exchanges (R103) -/

/-- Queue a TIME word for the lead lane of a port. SYNC and REPLY are stamped as they leave (R46). -/
def sendTime (s : State) (d p kind seq : Nat) (t : Stamp) : State :=
  queueLead s d p (ctlTime kind seq t.ns.toNat t.frac.toNat)

/-- SYNC_INTERVAL: SYNC is sent on the master port; t1 is set anew as it departs. -/
def doSyncInterval (s : State) : State :=
  match s.time.master with
  | none => s
  | some (d, p) =>
    if d = 255 ∨ s.isRoot then s
    else
      let q := s.time.seq
      (sendTime s d p 0 q s.stamp).updTime fun t =>
        { t with seq := (q + 1) % 64, exch := t.exch ++ [⟨q, s.stamp, none⟩] }

def execSyncInterval (s : State) : Result := .next (doSyncInterval s)

/-- SYNC_RECEIVE: FOLLOW with the arrival time, then REPLY with its departure. -/
def execSyncReceive (d : Fin 8) (p : Fin 128) (seq : Fin 64) (_t1 : Stamp) (s : State) : Result :=
  .next (sendTime (sendTime s d.val p.val 1 seq.val s.stamp) d.val p.val 2 seq.val s.stamp)

/-- FOLLOW_RECEIVE: t2 of the exchange. -/
def doFollow (d p seq : Nat) (t2 : Stamp) (s : State) : State :=
  if s.time.master = some (d, p) then
    s.updTime fun t => { t with exch := t.exch.map fun e => if e.seq = seq then { e with t2 := some t2 } else e }
  else s

def execFollowReceive (d : Fin 8) (p : Fin 128) (seq : Fin 64) (t2 : Stamp) (s : State) : Result :=
  .next (doFollow d.val p.val seq.val t2 s)

/-- Delay and offset of an exchange in ns (R103). -/
def exchangeOf (t1 t2 t3 t4 : Nat) (asymPs : Int) : Rat × Rat :=
  let a : Rat := (stampDiff t4 t1 : Rat)
  let b : Rat := (stampDiff t3 t2 : Rat)
  let c : Rat := (stampDiff t1 t2 : Rat)
  let e : Rat := (stampDiff t4 t3 : Rat)
  ((a - b) / 2 / 65536, (c + e) / 2 / 65536 - (asymPs : Rat) / 1000)

/-- Interval in ns. -/
def State.intervalNs (s : State) : Rat := (s.fld R.TIME_CTRL F.TIME_CTRL_INTERVAL_US * 1000 : Nat)

/-- REPLY_RECEIVE: a complete exchange feeds the servo; a lost master that answers is kept. -/
def doReply (d p seq : Nat) (t3 : Stamp) (s : State) : State :=
  match s.time.exch.find? fun e => e.seq == seq with
  | none => s
  | some e =>
    match e.t2 with
    | none => s
    | some t2 =>
      if s.time.master ≠ some (d, p) then s
      else
        let asym := toSigned 16 (s.fld (R.TIME_PORT_CTRL d p) F.TIME_PORT_CTRL_ASYM_PS)
        let (dl, th) := exchangeOf (stampNat e.t1) (stampNat t2) (stampNat t3) (stampNat s.stamp) asym
        let s1 := s.updTime fun t =>
          { t with exch := t.exch.filter (·.seq != seq), discards := 0, lost := false, silent := t.silent.filter (· != (d, p)) }
        let (n, s2) := roundFree s1 (dl * 256)
        servo (s2.wr (R.TIME_PORT_DELAY d p) (BitVec.ofInt 32 n)) th s.intervalNs

def execReplyReceive (d : Fin 8) (p : Fin 128) (seq : Fin 64) (t3 : Stamp) (s : State) : Result :=
  .next (doReply d.val p.val seq.val t3 s)

/-- TIME_EXCHANGE_TIMEOUT: the oldest exchange is discarded; the eighth in a row loses the master, which is not up as a source until it
completes an exchange or its lanes come up anew (R105, R106). A discarded exchange breaks the run of the lock criterion (DESIGN CHOICE,
log entry 106). -/
def doExchangeTimeout (s : State) : State :=
  match s.time.exch with
  | [] => s
  | _ :: rest =>
    let s1 := s.updTime fun t => { t with exch := rest, discards := t.discards + 1, good := 0 }
    if 8 ≤ s1.time.discards then
      loseMaster (s1.updTime fun t => { t with silent := (t.master.toList ++ t.silent).dedup })
    else s1

def execTimeExchangeTimeout (s : State) : Result := .next (doExchangeTimeout s)

/-! ## Reference inputs (R108) -/

/-- PPS_LOAD_WRITE. -/
def writePpsLoad (v : Word) (s : State) : State := (s.wr R.TIME_PPS_LOAD v).updTime fun t => { t with ppsLoad := true }

def execPpsLoadWrite (value : Word) (s : State) : Result := .next (writePpsLoad value s)

/-- One second in 2^-16 ns. -/
def secondUnits : Nat := 1000000000 * 65536

/-- The edge that sets fabric time: bits 31:0 take the loaded value, WRAPS stays, no wrap event. R108 step 1 says that WRAPS keeps its value
and that the setting changes it; the model keeps it (DESIGN CHOICE, log entry 108). -/
def ppsSet (s : State) : State :=
  let v := (s.rd R.TIME_PPS_LOAD).toNat
  let s1 := s.updTime fun t =>
    { t with fab := t.fab / wrapUnits * wrapUnits + v * 2 ^ 56, ppsLoad := false, count := 0, good := 0,
             ppsExpect := some ((v * 65536 + secondUnits) % 2 ^ 48) }
  setTimeState (timeEvent s1 F.TIME_STATUS_STEP_EVENT) tsAcquiring

/-- An edge with an expectation: within ±1 ms it gives θ, which the servo takes where the reference is followed; a root's servo takes it
whatever REF_PRIO is (DESIGN CHOICE, log entry 109). The next edge is expected a second after this one by the time before a step
(DESIGN CHOICE, log entry 108). -/
def ppsExpected (s : State) (e : Nat) : State :=
  let now := stampNat s.stamp
  let th := stampDiff now e
  if (1000000 * 65536 : Int) < |th| then s
  else
    let s1 := s.updTime fun t => { t with refUp := true, ppsExpect := some ((now + secondUnits) % 2 ^ 48), lost :=
      (if (t.master.getD (0, 0)).1 = 255 then false else t.lost) }
    if s.isRoot ∨ s.time.master = some (255, 0) then servo s1 ((th : Rat) / 65536) 1000000000 else s1

/-- PPS_EDGE. -/
def doPpsEdge (s : State) : State :=
  if !s.bit R.TIME_REF_CTRL F.TIME_REF_CTRL_PPS_IN_EN then s
  else if s.time.ppsLoad then ppsSet s
  else match s.time.ppsExpect with
    | none => s.updTime fun t => { t with ppsExpect := some ((stampNat s.stamp + secondUnits) % 2 ^ 48) }
    | some e => ppsExpected s e

def execPpsEdge (s : State) : Result := .next (doPpsEdge s)

/-- PPS_LOSS: 1 ms has passed after the expected edge: the reference is lost. -/
def doPpsLoss (s : State) : State :=
  match s.time.ppsExpect with
  | none => s
  | some e =>
    if stampDiff (stampNat s.stamp) e < (1000000 * 65536 : Int) then s
    else
      let s1 := s.updTime fun t => { t with ppsExpect := none, refUp := false }
      if s.time.master = some (255, 0) then loseMaster s1 else s1

def execPpsLoss (s : State) : Result := .next (doPpsLoss s)

/-- How far the time lies past an edge of 1PPS_OUT, in ns: past the last one, where it lies after the next one by seconds. -/
def State.ppsOutLate (s : State) : Int :=
  let dt := toSigned 32 (s.now + 2 ^ 32 - s.time.ppsOutAt % 2 ^ 32)
  if dt < -2 then dt else (dt + 2) % 1000000000 - 2

/-- PPS_OUT_EDGE: 1PPS_OUT rises at its anchor and at each second after it, within ±2 ns, unless the pads are held (R108, R422). -/
def doPpsOutEdge (s : State) : State :=
  let late := s.ppsOutLate
  if !s.bit R.TIME_REF_CTRL F.TIME_REF_CTRL_PPS_OUT_EN || decide (late < -2) || decide (2 < late) then s
  else
    let s1 := s.updTime fun t => { t with ppsOutAt := ((s.now : Int) - late + 1000000000).toNat % 2 ^ 32 }
    if s.bit R.PAD_RELEASE F.PAD_RELEASE_HELD then s1 else s1.emit (.pin "1PPS_OUT" true)

def execPpsOutEdge (s : State) : Result := .next (doPpsOutEdge s)

end Sys2Proof.Machine
end

