-- ==== Sys2Proof/Machine/Lanyard.lean ====
section
/-! DEFINITION. The meanings of the lanyard rows and of the table flip: slots, bursts, verification, discovery, headroom (R117
to R139, R166). -/

namespace Sys2Proof.Machine

/-! ## Bursts (R118, R119) -/

/-- Codewords of a burst. -/
def burstCodewords (p g : Nat) : Nat := (p - g) * 224 / 5440

/-- Data blocks of a burst. -/
def burstBlocks (p g : Nat) : Nat := 19 * (burstCodewords p g - 1)

/-- Largest frame that fits: whole blocks, at most a frame of 9,216 payload bytes. -/
def burstMaxFrame (p g : Nat) : Nat := min 9252 (32 * burstBlocks p g)

/-- P, LENGTH and G of the active rota. -/
def State.slotNs (s : State) (d lp : Nat) : Nat := s.fld (R.LANYARD_ROTA_ACTIVE d (128 + lp)) F.LANYARD_ROTA_ACTIVE_SLOT_NS
def State.rotaLen (s : State) (d lp : Nat) : Nat := s.fld (R.LANYARD_ROTA_ACTIVE d (128 + lp)) F.LANYARD_ROTA_ACTIVE_LENGTH
def State.guardNs (s : State) (d lp : Nat) : Nat := s.fld (R.LANYARD_STATUS d (128 + lp)) F.LANYARD_STATUS_GUARD_NS

/-- B_n of the active rota. -/
def State.slotStart (s : State) (d lp n : Nat) : Nat :=
  ((s.rd (R.LANYARD_ROTA_ANCHOR d (128 + lp))).toNat + n * s.slotNs d lp) % 2 ^ 32

/-- How far a time in ns has passed another, modulo 2^32, as a signed number. -/
def sincens (now t : Nat) : Int := toSigned 32 (now + 2 ^ 32 - t % 2 ^ 32)

/-- The slot that begins now, or `early` ns from now: the next slot, or a later one where slots have passed without the
rota; none before the next slot's time. -/
def State.dueSlot (s : State) (d lp early : Nat) : Option Nat :=
  let n := (s.lan d lp).slot
  let dt := sincens (s.now + early) (s.slotStart d lp n)
  if dt < 0 then none else some (n + dt.toNat / s.slotNs d lp)

/-! ## Rota entries (Table 5.4) -/

/-- Active entry of a lane for slot n. -/
def State.rotaEntry (s : State) (d lp lane n : Nat) : Nat :=
  (s.rdActive (R.LANYARD_ROTA d (128 + lp) lane (n % s.rotaLen d lp))).toNat

def entryTx (e : Nat) : Bool := e.testBit 15
def entryTxColour (e : Nat) : Nat := e / 256 % 32
def entryRx (e : Nat) : Bool := e.testBit 7
def entryRxColour (e : Nat) : Nat := e % 32

/-! ## Port state -/

def lanyardOff : Nat := 0
def lanyardDiscovery : Nat := 1
def lanyardActive : Nat := 2
def lanyardNoPath : Nat := 3

def State.lanState (s : State) (d lp : Nat) : Nat := s.fld (R.LANYARD_STATUS d (128 + lp)) F.LANYARD_STATUS_STATE

/-- The time lanyard transmission may continue in HOLDOVER has passed (R121). -/
def State.holdoverPast (s : State) (d lp : Nat) : Bool :=
  decide (s.fld (R.LANYARD_PORT_CTRL d (128 + lp)) F.LANYARD_PORT_CTRL_HOLDOVER_MS * 1600000 ≤ s.cycle - s.time.holdAt)

/-- The state a lanyard port has: DISCOVERY while the strip runs; OFF while ENABLE is 0 or nothing was discovered; else what
the last strip found. -/
def State.lanStateNow (s : State) (d lp : Nat) : Nat :=
  let l := s.lan d lp
  if l.strip then lanyardDiscovery
  else if !s.bit (R.LANYARD_PORT_CTRL d (128 + lp)) F.LANYARD_PORT_CTRL_ENABLE then lanyardOff
  else if l.found = 1 then lanyardActive
  else if l.found = 2 then lanyardNoPath
  else lanyardOff

/-- Bring LANYARD_STATUS.STATE up to date; the port goes down or comes back with it (R139). -/
def showLanState (s : State) (d lp : Nat) : State :=
  let was := s.lanState d lp
  let now := s.lanStateNow d lp
  let s1 := s.setF (R.LANYARD_STATUS d (128 + lp)) F.LANYARD_STATUS_STATE now
  if was = now then s1
  else if now = lanyardActive then portBack s1 d (128 + lp)
  else if was = lanyardActive then losePort s1 d (128 + lp)
  else s1

/-- A write of LANYARD_PORT_CTRL. -/
def writeLanyardCtrl (d lp : Nat) (v : Word) (s : State) : State :=
  showLanState (s.wr (R.LANYARD_PORT_CTRL d (128 + lp)) (v &&& 0xBFFFFF00#32)) d lp

/-- The time state lets a lanyard port transmit (R121). -/
def State.lanMayTransmit (s : State) (d lp : Nat) : Bool :=
  s.timeState == tsLocked || (s.timeState == tsHoldover && !(s.lan d lp).held)

/-- The rota runs. -/
def State.rotaRuns (s : State) (d lp : Nat) : Bool := s.lanState d lp == lanyardActive

/-- TX_SUSPENDED: the lanes of a port that is not OFF are dark for want of a time state that lets them transmit (R121). -/
def State.txSuspended (s : State) (d lp : Nat) : Bool := s.lanState d lp != lanyardOff && !s.lanMayTransmit d lp

/-- Lane number of lane L of a lanyard port. -/
def lanyardLane (lp lane : Nat) : Nat := 128 + lp * 8 + lane

/-- The lane can receive: it is not removed from the rota nor excluded, and its optical engine is up. -/
def State.lanRxOk (s : State) (d lp lane : Nat) : Bool :=
  let n := lanyardLane lp lane
  !(s.lan d lp).removed.testBit lane && s.laneState d n != lsExcluded && !s.bandHeld 8 d n && s.oeUp (laneEngine d n)

/-- The lane can carry light: it can receive, and its optical engine has its lanyard feed and no slew pause. -/
def State.lanLaneOk (s : State) (d lp lane : Nat) : Bool :=
  let oe := laneEngine d (lanyardLane lp lane)
  s.lanRxOk d lp lane && !s.slewPaused oe && s.bit (R.OPT_LASER_STATUS oe) F.OPT_LASER_STATUS_LANYARD_FEED_OK

/-! ## Slots (R118, R121, R134) -/

/-- Verification bit of a ring of a lane for a colour. -/
def State.verified (s : State) (d lp lane ring colour : Nat) : Bool :=
  (s.fld (R.LANYARD_LANE_VERIFY d (128 + lp) lane ring) F.LANYARD_LANE_VERIFY_COLOUR_OK).testBit colour

/-- The checks of R134 pass for a lane that would transmit on a colour. -/
def State.slotCheck (s : State) (d lp lane colour : Nat) : Bool :=
  s.verified d lp lane 0 colour &&
    s.bit (R.LANYARD_PEER_STATUS d (128 + lp) colour) F.LANYARD_PEER_STATUS_TX_OK &&
    (s.fld (R.LANYARD_PEER_PATH d (128 + lp) colour) F.LANYARD_PEER_PATH_TX_LANES).testBit lane

/-- The check of a slot that is due: the lanes whose check passes for slot n (R134). -/
def slotCheckAt (d lp : Nat) (s : State) (due : Option Nat) : State :=
  match due with
  | none => s
  | some n =>
    let ok := (List.range 8).filter fun l =>
      entryTx (s.rotaEntry d lp l n) && s.slotCheck d lp l (entryTxColour (s.rotaEntry d lp l n))
    s.updLan d lp fun x => { x with slot := n, checked := (ok.map (2 ^ ·)).sum }

/-- LANYARD_SLOT_CHECK: at B_n − 50 ns, the slot that begins 50 ns from now. -/
def doSlotCheck (d lp : Nat) (s : State) : State := slotCheckAt d lp s (s.dueSlot d lp 50)

def execLanyardSlotCheck (d : Fin 8) (lp : Fin 2) (s : State) : Result := .next (doSlotCheck d.val lp.val s)

/-- The journal holds a lanyard register of a port. -/
def journalsRota (s : State) (d lp : Nat) : Bool :=
  s.tabs.journal.any fun l =>
    let a := l - 2 ^ 24
    let o := a % 0x1000000
    isLanyardLoc l && (a - 0x10000000) / 0x1000000 == d &&
      (if o < 0x680000 then o / 0x1000 % 2 == lp else (o - 0x680000) / 0x8000 == lp)

/-- Data blocks of the burst of slot n that end by a pending flip of the port's rota at T; all of them where none is due in the slot (R123). -/
def State.burstRoom (s : State) (d lp n : Nat) : Nat :=
  let p := s.slotNs d lp
  let g := s.guardNs d lp
  let all := burstBlocks p g
  let dt := sincens s.tabs.flipAt ((s.slotStart d lp n + g) % 2 ^ 32)
  if s.txn = txPending ∧ journalsRota s d lp ∧ dt < ((p - g : Nat) : Int) then
    let blocks := dt.toNat * 224 / 272
    min all ((blocks / 20 - 1) * 19 + (if 20 ≤ blocks then blocks % 20 - 1 else 0))
  else all

/-- Head of a lanyard queue that can be sent in `room` blocks: whole at this die, its class not paused by the peer. -/
def lanHead (s : State) (d lp q room : Nat) : Option Nat :=
  match sget (s.lan d lp).queues q [] with
  | [] => none
  | (id, _) :: _ =>
    let f := s.frm id
    if f.arrived && decide (blocksOf (hLen f.frame.hdr) ≤ room) && !(sget (s.lan d lp).xoff (q / 2) 0).testBit f.tc then
      some id
    else none

/-- Take the head of a lanyard queue. -/
def popLan (s : State) (d lp q : Nat) : State :=
  s.updLan d lp fun l => { l with queues := supd l.queues q [] List.tail }

/-- A frame leaves in a burst: counted, mirrored, its cells free. -/
def sendLan (s : State) (d lp q id : Nat) : State :=
  let f := s.frm id
  let out := sentFrame f
  discardFrame ((mirrorTx ((popLan s d lp q).lanCount d lp 2) d (128 + lp) out.hdr (out.payload ++ beBytes out.crc.toNat 4) f.tc
    f.colour).updFrm id fun x => { x with sent := true }) id

/-- Fill a burst on a colour: the COLLECTIVE queue first, then the SPRAYED one, each head offered the room left (R131). -/
def fillBurst (d lp colour : Nat) : Nat → Nat → State → List Frame → List Frame × State
  | 0, _, s, acc => (acc, s)
  | k + 1, room, s, acc =>
    let pick := match lanHead s d lp (2 * colour) room with
      | some id => some (2 * colour, id)
      | none => (lanHead s d lp (2 * colour + 1) room).map fun id => (2 * colour + 1, id)
    match pick with
    | none => (acc, s)
    | some (q, id) =>
      let f := s.frm id
      fillBurst d lp colour k (room - blocksOf (hLen f.frame.hdr)) (sendLan s d lp q id) (acc ++ [sentFrame f])

/-- A lanyard port starts no frames: it is not in state UP, its die or a slew pause holds it, or a reset is to follow (R94, R192,
R426). -/
def State.lanQuiet (s : State) (d lp : Nat) : Bool := !s.portUp d (128 + lp) || s.noStart d (128 + lp) || s.pwr.hold

/-- A burst leaves: LANYARD_ID, the off mask for the colour's peer, the frames (R118, R132). -/
def sendBurst (d lp n lane colour : Nat) (s : State) : State :=
  let p := 128 + lp
  let len := s.rotaLen d lp
  let id := ctlLanyardId (s.rd (R.LANYARD_SRC_ADDR d p)).toNat colour (n % len)
  let mask := sget (s.lan d lp).txOff colour 0
  let k := ((sget (s.lan d lp).queues (2 * colour) []).length + (sget (s.lan d lp).queues (2 * colour + 1) []).length)
  let (fs, s1) := fillBurst d lp colour (if s.lanQuiet d lp then 0 else k) (s.burstRoom d lp n) s []
  let s2 := ((s1.emit (.control d (lanyardLane lp lane) id.typ id.body)).emit
    (.control d (lanyardLane lp lane) 2 (mask * 2 ^ 48))).emit (.burst d p lane colour fs)
  let s3 := s2.lanCount d lp 0
  if mask = 0 then s3 else s3.lanCount d lp 12

/-- One lane at a slot boundary: a burst where its entry transmits and everything allows it, else a dark slot. -/
def slotLane (d lp n checked : Nat) (s : State) (lane : Nat) : State :=
  let e := s.rotaEntry d lp lane n
  if !entryTx e then s
  else if s.lanMayTransmit d lp && checked.testBit lane && s.lanLaneOk d lp lane then
    sendBurst d lp n lane (entryTxColour e) s
  else s.lanCount d lp 1

/-- The boundary of a slot that is due (R118). A slot whose check was not made for it stays dark. -/
def slotBoundaryAt (d lp : Nat) (s : State) (due : Option Nat) : State :=
  match due with
  | none => s
  | some n =>
    let l := s.lan d lp
    let checked := if n = l.slot then l.checked else 0
    let s1 := (s.updLan d lp fun x => { x with slot := n + 1, checked := 0 }).setF (R.LANYARD_STATUS d (128 + lp))
      F.LANYARD_STATUS_ROTA_INDEX (n % s.rotaLen d lp)
    if s.rotaRuns d lp then (List.range 8).foldl (slotLane d lp n checked) s1 else s1

/-- LANYARD_SLOT_BOUNDARY of the slot that begins now. -/
def doSlotBoundary (d lp : Nat) (s : State) : State := slotBoundaryAt d lp s (s.dueSlot d lp 0)

def execLanyardSlotBoundary (d : Fin 8) (lp : Fin 2) (s : State) : Result := .next (doSlotBoundary d.val lp.val s)

/-! ## Reception (R132, R133) -/

/-- A slot in which a port receives: its rota entry for each lane, the index its bursts carry, and when the first bit is due. -/
structure RxSlot where
  entries : List Nat
  index : Nat
  due : Nat
  guard : Nat
  deriving DecidableEq, Repr

/-- Number of the slot whose receive ring is tuned at a time t: the ring starts to retune at B_n + D + (G - 60) / 2. The slot `n` begins at
`b` (R120). -/
def slotAt (t b n slotNs delay g : Nat) : Int :=
  (n : Int) + (2 * sincens t b - 2 * (delay : Int) - ((g : Int) - 60)) / (2 * (slotNs : Int))

/-- The slot in which a lanyard port receives at fabric time t: of the active rota, or before its first slot one of the rota that the last
flip ended (R120, R123). -/
def State.rxSlot (s : State) (d lp t : Nat) : Option RxSlot :=
  let l := s.lan d lp
  let delay := s.fld (R.LANYARD_RX_DELAY d (128 + lp)) F.LANYARD_RX_DELAY_DELAY_NS
  let g := s.guardNs d lp
  let m := slotAt t (s.slotStart d lp l.slot) l.slot (s.slotNs d lp) delay g
  if 0 ≤ m then
    let n := m.toNat
    some ⟨(List.range 8).map fun x => s.rotaEntry d lp x n, n % s.rotaLen d lp, s.slotStart d lp n + g + delay, g⟩
  else match l.old with
    | none => none
    | some o =>
      let b := o.anchor + o.next * o.slotNs
      let k := slotAt t b o.next o.slotNs delay o.guard
      (o.entries.find? fun e => (e.1 : Int) == k).map fun e =>
        ⟨e.2, e.1 % o.len, o.anchor + e.1 * o.slotNs + o.guard + delay, o.guard⟩

/-- The first bit of a burst arrives within ±(G - 60) / 2 of its expected time (R120). -/
def RxSlot.inTime (x : RxSlot) (first : Nat) : Bool := decide (2 * (sincens first x.due).natAbs + 60 ≤ x.guard)

/-- The peer entry heard on a colour by a lane: RX_OK with that RX_COLOUR, the lane in RX_LANES. -/
def State.peerHeard (s : State) (d lp lane colour : Nat) : Option Nat :=
  (List.range 32).find? fun c =>
    let r := R.LANYARD_PEER_STATUS d (128 + lp) c
    s.bit r F.LANYARD_PEER_STATUS_RX_OK && s.fld r F.LANYARD_PEER_STATUS_RX_COLOUR == colour &&
      (s.fld (R.LANYARD_PEER_PATH d (128 + lp) c) F.LANYARD_PEER_PATH_RX_LANES).testBit lane

/-- A failed burst: the fourth in a row on a lane and colour is recorded. -/
def burstFailed (d lp lane colour : Nat) (s : State) : State :=
  let k := lane * 32 + colour
  let n := sget (s.lan d lp).failed k 0 + 1
  let s1 := s.updLan d lp fun l => { l with failed := sput l.failed k n 0 }
  if n = 4 then
    fileRec s1 { LogRec.of 5 0x0D 8 d (lanyardLane lp lane) with syn := [6 * 2 ^ 24, lane * 256 + colour], synClass := 6 }
  else s1

/-- One frame of a good burst: R55, then the native block (R133). A frame outside the native block has passed the header check, and is
mirrored and policed as one that arrived. -/
def burstFrame (d lp peer : Nat) (s : State) (f : Frame × Bool) : State :=
  let p := 128 + lp
  let h := f.1.hdr
  let body := f.1.payload ++ beBytes f.1.crc.toNat 4
  let good := (headerCheck s h).isNone && !f.2 && f.1.payload.length == hPlen h && f.1.crc.toNat == payloadCrc f.1.payload
  if good && !inNative s (hDest h) && s.portUp d p then
    let (c, s1) := police s d p h
    (mirrorRx s1 d p h body c).lanCount d lp 9
  else rxWhole s d p peer h f.1.payload f.1.crc f.2

/-- Fabric time of what a lane takes: of the first bit of a burst, else now. -/
def burstTime (s : State) : BurstRx → Nat
  | .burst _ _ _ first _ _ => first.toNat
  | .silent | .badId => s.now

/-- A burst in a receive slot (R132, R133). -/
def burstAt (d lp lane : Nat) (b : BurstRx) (s : State) (slot : Option RxSlot) : State :=
  match slot with
  | none => s
  | some rx =>
    let e := rx.entries.getD lane 0
    let x := entryRxColour e
    match s.peerHeard d lp lane x with
    | none => s
    | some peer =>
      if !s.rotaRuns d lp || !entryRx e || !s.lanRxOk d lp lane then s
      else match b with
        | .silent => burstFailed d lp lane x (s.lanCount d lp 5)
        | .badId => burstFailed d lp lane x (s.lanCount d lp 5)
        | .burst src colour idx first xoff frames =>
          let badSrc := src != s.rd (R.LANYARD_PEER_ADDR d (128 + lp) peer)
          let badCol := colour.val != x
          let badSlot := idx.val != rx.index
          let s1 := if badSrc then s.lanCount d lp 6 else s
          let s2 := if badCol then s1.lanCount d lp 7 else s1
          let s3 := if badSlot then s2.lanCount d lp 8 else s2
          let s4 := if rx.inTime first.toNat then s3 else s3.lanCount d lp 10
          if badSrc || badCol || badSlot then burstFailed d lp lane x s4
          else
            let s5 := (s4.updLan d lp fun l => { l with failed := sput l.failed (lane * 32 + x) 0 0 }).lanCount d lp 4
            let s6 := match xoff with
              | some m => s5.updLan d lp fun l => { l with xoff := sput l.xoff peer m.toNat 0 }
              | none => s5
            frames.foldl (burstFrame d lp peer) s6

/-- LANYARD_BURST_RECEIVE in the slot in which its first bit arrives. -/
def doBurst (d lp lane : Nat) (b : BurstRx) (s : State) : State := burstAt d lp lane b s (s.rxSlot d lp (burstTime s b))

def execLanyardBurstReceive (d : Fin 8) (lp : Fin 2) (lane : Fin 8) (b : BurstRx) (s : State) : Result :=
  .next (doBurst d.val lp.val lane.val b s)

/-- LANYARD_HOLDOVER_EXPIRE: HOLDOVER has lasted HOLDOVER_MS, at 1,600,000 core cycles each ms (R121). -/
def execLanyardHoldoverExpire (d : Fin 8) (lp : Fin 2) (s : State) : Result :=
  .next (if s.timeState = tsHoldover ∧ s.holdoverPast d.val lp.val then s.updLan d.val lp.val fun l => { l with held := true } else s)

/-- LANYARD_WAIT_EXPIRE: the head of a queue has waited MAX_WAIT_US, at 1,600 core cycles each µs: dropped and counted (R131). -/
def doWaitExpire (d lp q : Nat) (s : State) : State :=
  match sget (s.lan d lp).queues q [] with
  | [] => s
  | (id, since) :: _ =>
    if s.fld (R.LANYARD_PORT_CTRL d (128 + lp)) F.LANYARD_PORT_CTRL_MAX_WAIT_US * 1600 ≤ s.cycle - since then
      discardFrame ((popLan s d lp q).lanCount d lp 3) id
    else s

def execLanyardWaitExpire (d : Fin 8) (lp : Fin 2) (queue : Fin 64) (s : State) : Result :=
  .next (doWaitExpire d.val lp.val queue.val s)

/-! ## Verification (R134, R135) -/

/-- Number of a ring: 0 transmit, 1 receive. -/
def ringNo : Ring → Nat
  | .tx => 0
  | .rx => 1

/-- The tone in kHz is that of a lanyard colour, within 20 kHz (R115). -/
def colourTone (tone colour : Nat) : Bool :=
  decide (4000 + 375 * colour ≤ 4 * tone + 80) && decide (4 * tone ≤ 4000 + 375 * colour + 80)

/-- Set or clear a verification bit. -/
def setVerify (s : State) (d lp lane ring colour : Nat) (b : Bool) : State :=
  let r := R.LANYARD_LANE_VERIFY d (128 + lp) lane ring
  s.setF r F.LANYARD_LANE_VERIFY_COLOUR_OK (setMaskBit (s.fld r F.LANYARD_LANE_VERIFY_COLOUR_OK) colour b)

/-- Number of a lane, ring and colour in the re-seek map. -/
def reseekKey (lane ring colour : Nat) : Nat := (lane * 2 + ring) * 32 + colour

def setReseek (s : State) (d lp lane ring colour b : Nat) : State :=
  s.updLan d lp fun l => { l with reseek := sput l.reseek (reseekKey lane ring colour) b 0 }

/-- A detector finds the wrong tone (R134); the colour is re-sought (R135). -/
def wrongColour (d lp lane ring colour : Nat) (s : State) : State :=
  let n := lanyardLane lp lane
  let s1 := setLaneEvent (setVerify s d lp lane ring colour false) d n F.LANE_EVENT_WRONG_LINE
  let s2 := fileLaneLink ((s1.lanCount d lp 13).laneCount d n 4) d n 5 0
  setReseek s2 d lp lane ring colour 1

/-- LANYARD_TONE_DECISION. -/
def doToneDecision (d lp lane ring colour tone : Nat) (s : State) : State :=
  if (s.lan d lp).removed.testBit lane ∧ !(s.lan d lp).strip then s
  else if colourTone tone colour then
    (if sget (s.lan d lp).reseek (reseekKey lane ring colour) 0 = 1 then s
     else setVerify s d lp lane ring colour true)
  else wrongColour d lp lane ring colour s

def execLanyardToneDecision (d : Fin 8) (lp : Fin 2) (lane : Fin 8) (ring : Ring) (colour : Fin 32) (tone : ToneKHz)
    (s : State) : Result :=
  .next (doToneDecision d.val lp.val lane.val (ringNo ring) colour.val tone s)

/-- A lane is removed from the rota (R135). -/
def removeLane (d lp lane : Nat) (s : State) : State :=
  let n := lanyardLane lp lane
  let s1 := s.updLan d lp fun l => { l with removed := setMaskBit l.removed lane true }
  fileLaneLink (setLaneEvent (s1.setLaneState d n lsFault) d n F.LANE_EVENT_RESEEK_FAIL) d n 4 0

/-- A failed re-seek: counted, and the third of a lane within 1 s removes it. -/
def reseekFailed (d lp lane : Nat) (s : State) : State :=
  let n := lanyardLane lp lane
  let fails := ((s.cycle :: (s.lane d n).reseekFails).filter fun c => decide (s.cycle < c + secondCycles)).take 3
  let s1 := (s.lanCount d lp 14).updLane d n fun l => { l with reseekFails := fails }
  if 3 ≤ fails.length then removeLane d lp lane s1 else s1

/-- LANYARD_RESEEK_DONE. -/
def doLanReseek (d lp lane ring colour : Nat) (ok : Bool) (s : State) : State :=
  if sget (s.lan d lp).reseek (reseekKey lane ring colour) 0 = 0 ∨ (s.lan d lp).removed.testBit lane then s
  else if ok then setReseek (setVerify s d lp lane ring colour true) d lp lane ring colour 0
  else reseekFailed d lp lane s

def execLanyardReseekDone (d : Fin 8) (lp : Fin 2) (lane : Fin 8) (ring : Ring) (colour : Fin 32) (ok : Bool)
    (s : State) : Result :=
  .next (doLanReseek d.val lp.val lane.val (ringNo ring) colour.val ok s)

/-- LANYARD_ROTA_WRITE (R122, R123). -/
def execLanyardRotaWrite (d : Fin 8) (lp : Fin 2) (lane : Fin 8) (n : Fin 1024) (value : Word) (s : State) : Result :=
  .next (stageRota d.val lp.val lane.val n.val value s)

/-! ## Headroom (R132) -/

/-- Slots of the active rota, in order, in which some lane of a mask has an entry that satisfies a condition. -/
def State.rotaSlots (s : State) (d lp lanes : Nat) (cond : Nat → Bool) : List Bool :=
  (List.range (s.rotaLen d lp)).map fun n => (List.range 8).any fun l => lanes.testBit l && cond (s.rotaEntry d lp l n)

/-- Lanes that carry bursts to the peer of a colour, and those that take bursts from it: removed lanes and lanes outside its paths are dark
or idle (R133 to R135). -/
def State.txCarriers (s : State) (d lp j : Nat) : Nat :=
  if s.bit (R.LANYARD_PEER_STATUS d (128 + lp) j) F.LANYARD_PEER_STATUS_TX_OK then
    s.fld (R.LANYARD_PEER_PATH d (128 + lp) j) F.LANYARD_PEER_PATH_TX_LANES &&& s.lanLanes d lp
  else 0
def State.rxCarriers (s : State) (d lp j : Nat) : Nat :=
  if s.bit (R.LANYARD_PEER_STATUS d (128 + lp) j) F.LANYARD_PEER_STATUS_RX_OK then
    s.fld (R.LANYARD_PEER_PATH d (128 + lp) j) F.LANYARD_PEER_PATH_RX_LANES &&& s.lanLanes d lp
  else 0

/-- Positions that hold true. -/
def truePos (xs : List Bool) : List Nat := (List.range xs.length).filter fun i => xs.getD i false

/-- Longest interval in slots between consecutive true positions of a cycle. -/
def longestGap (len : Nat) : List Nat → Nat
  | [] => 0
  | a :: rest =>
    let ps := a :: rest
    ((ps.zip (rest ++ [a + len])).map fun x => x.2 - x.1).foldl max 0

/-- Largest number of true positions in any `span` consecutive slots of a cycle. -/
def mostIn (xs : List Bool) (span : Nat) : Nat :=
  let len := xs.length
  let total := (xs.filter id).length
  let part := ((List.range len).map fun i =>
    ((List.range (span % len)).filter fun k => xs.getD ((i + k) % len) false).length).foldl max 0
  span / len * total + part

/-- H_j in cells and whether the peer reads LOSSY, for the peer entry of colour j. -/
def headroomOf (s : State) (d lp j : Nat) : Nat × Bool :=
  let r := R.LANYARD_PEER_STATUS d (128 + lp) j
  let txs := s.rotaSlots d lp (s.txCarriers d lp j) fun e => entryTx e && entryTxColour e == j
  let rxs := s.rotaSlots d lp (s.rxCarriers d lp j) fun e => entryRx e && entryRxColour e == s.fld r F.LANYARD_PEER_STATUS_RX_COLOUR
  let hears := rxs.any id
  let p := s.slotNs d lp
  let delay := s.fld (R.LANYARD_RX_DELAY d (128 + lp)) F.LANYARD_RX_DELAY_DELAY_NS
  if !hears then (0, false)
  else if !txs.any id then (0, true)
  else
    let span := longestGap (s.rotaLen d lp) (truePos txs) + 1 + ceilDiv delay p
    (ceilDiv (32 * burstBlocks p (s.guardNs d lp) * mostIn rxs span) 256, false)

/-- Show H_j and LOSSY of every peer of a port. -/
def showHeadroom (s : State) (d lp : Nat) : State :=
  (List.range 32).foldl (fun t j =>
    let (h, lossy) := headroomOf s d lp j
    let r := R.LANYARD_PEER_STATUS d (128 + lp) j
    (t.setF r F.LANYARD_PEER_STATUS_HEADROOM_CELLS (min h 65535)).setF r F.LANYARD_PEER_STATUS_LOSSY
      (if lossy then 1 else 0)) s

/-- The reservations of a die fit its staging. -/
def State.reserveFits (s : State) (d : Nat) : Bool :=
  decide (s.reserveSum d (fun _ => true) ≤ s.fld (R.BUF_POOL_CTRL d) F.BUF_POOL_CTRL_STAGE_CELLS)

/-- Peers of a port, from colour `n - 1` downward, read LOSSY until the reservation fits (R180). -/
def lossyUntilFit (d lp : Nat) : Nat → State → State
  | 0, s => s
  | n + 1, s =>
    if s.reserveFits d then s
    else
      let r := R.LANYARD_PEER_STATUS d (128 + lp) n
      lossyUntilFit d lp n
        (if s.bit r F.LANYARD_PEER_STATUS_ENABLE then s.setF r F.LANYARD_PEER_STATUS_LOSSY 1 else s)

/-- Recompute the headroom of a port; what does not fit reads LOSSY, with RESERVE_REFUSED set. -/
def newHeadroom (s : State) (d lp : Nat) : State :=
  let s1 := showHeadroom s d lp
  if s1.reserveFits d then s1
  else setEvent (lossyUntilFit d lp 32 s1) 62 (R.BUF_EVENT d) F.BUF_EVENT_RESERVE_REFUSED

/-! ## Colour-map discovery (R125 to R129) -/

/-- LANYARD_TS_ARM. -/
def armStrip (d lp : Nat) (s : State) : State := s.setBit (R.LANYARD_TS_CTRL d (128 + lp)) F.LANYARD_TS_CTRL_ARM

def execLanyardTsArm (d : Fin 8) (lp : Fin 2) (s : State) : Result := .next (armStrip d.val lp.val s)

/-- The start time S. -/
def State.stripAt (s : State) (d lp : Nat) : Nat := (s.rd (R.LANYARD_TS_START d (128 + lp))).toNat

/-- Put the lanes of a port that are not excluded into a state. -/
def setLanLanes (s : State) (d lp : Nat) (st : Nat → Nat) : State :=
  (List.range 8).foldl (fun t l =>
    let n := lanyardLane lp l
    if t.laneState d n = lsExcluded then t else t.setLaneState d n (st l)) s

/-- LANYARD_TS_START: at S an armed strip starts; the port carries no frames. -/
def doTsStart (d lp : Nat) (s : State) : State :=
  if s.bit (R.LANYARD_TS_CTRL d (128 + lp)) F.LANYARD_TS_CTRL_ARM && s.reached (s.stripAt d lp) && !(s.lan d lp).strip then
    setLanLanes (showLanState (s.updLan d lp fun l => { l with strip := true, heard := [], reports := [], weak := 0 }) d lp) d lp
      fun _ => lsLaserCheck
  else s

def execLanyardTsStart (d : Fin 8) (lp : Fin 2) (s : State) : Result := .next (doTsStart d.val lp.val s)

/-- The record of a lane for a colour. -/
def State.heardOn (s : State) (d lp lane colour : Nat) : Option Heard :=
  sget (s.lan d lp).heard (lane * 32 + colour) none

/-- Lanes that heard some source on a colour, with what they heard; the first such lane names the source. -/
def State.heardLanes (s : State) (d lp colour : Nat) : List (Nat × Heard) :=
  let all := (List.range 8).filterMap fun l => (s.heardOn d lp l colour).map fun h => (l, h)
  match all with
  | [] => []
  | (_, h) :: _ => all.filter fun x => x.2.src == h.src

/-- BER_DECADES of a port. -/
def State.berGoal (s : State) (d lp : Nat) : Nat := s.fld (R.LANYARD_TS_CTRL d (128 + lp)) F.LANYARD_TS_CTRL_BER_DECADES

/-- Mask of the lanes among some records that reached the threshold. -/
def goodLanes (goal : Nat) (xs : List (Nat × Heard)) : Nat :=
  ((xs.filter fun x => decide (goal ≤ x.2.quality)).map fun x => 2 ^ x.1).sum

/-- Worst quality among some records. -/
def worstQuality (xs : List (Nat × Heard)) : Nat :=
  match xs with
  | [] => 0
  | (_, h) :: rest => rest.foldl (fun q x => min q x.2.quality) h.quality

/-- The records as sweep 1 left them (R126). -/
def sweepOne (xs : List (Nat × Heard)) : List (Nat × Heard) := xs.map fun x => (x.1, { x.2 with quality := x.2.mapQuality })

/-- PRBS31 bits of a discovery slot's burst: all data blocks in sweep 1; in sweep 2 without the 32 of the report (R126). -/
def discoveryBits (second : Bool) : Nat := 256 * (burstBlocks 64000 1000 - if second then 32 else 0)

/-- Quality of errors among bits: -log10 of their ratio in 0.01 decade, rounded down. -/
def qualityOf (errors bits : Nat) : Nat := (fxLn bits errors * 100 / fxLn 10 1).toNat

/-- Quality that a count of errors gives. Without an error the ratio has no logarithm: the quality is free above that of one error (R126;
log entry 2). -/
def quality (s : State) (errors bits : Nat) : Nat × State :=
  if errors = 0 then
    let (x, s1) := s.drawFree 16
    (max x (qualityOf 1 bits), s1)
  else (qualityOf errors bits, s)

/-- Report block of a colour, of the map of sweep 1 (Table 5.6, R126). -/
def reportBlock (s : State) (d lp colour : Nat) : Bytes :=
  let xs := sweepOne (s.heardLanes d lp colour)
  let src := match xs with
    | [] => 0
    | (_, h) :: _ => h.src
  let delay := match xs with
    | [] => 0
    | (_, h) :: _ => h.delay
  let self := !xs.isEmpty && src == (s.rd (R.LANYARD_SRC_ADDR d (128 + lp))).toNat
  let w1 := (if xs.isEmpty then 0 else 2 ^ 31) + (if self then 2 ^ 30 else 0) + worstQuality xs % 65536
  let w2 := goodLanes (s.berGoal d lp) xs * 2 ^ 24 + delay % 65536
  let b := [src, w1, w2, 0, 0, 0, 0].flatMap (beBytes · 4)
  b ++ beBytes (crc32c b) 4

/-- The burst a lane sends in a discovery slot, where its transmit ring is locked and the colour passed the laser check: LANYARD_ID, and in
sweep 2 the report. -/
def sendDiscovery (d lp lane t colour : Nat) (second : Bool) (s : State) : State :=
  let n := lanyardLane lp lane
  if s.lanMayTransmit d lp && s.oeUp (laneEngine d n) && s.bit (laneStatus d n) F.LANE_STATUS_TX_LOCK &&
      !(s.lan d lp).weak.testBit colour then
    let id := ctlLanyardId (s.rd (R.LANYARD_SRC_ADDR d (128 + lp))).toNat colour t
    let s1 := s.emit (.control d n id.typ id.body)
    if second then s1.emit (.report d (128 + lp) lane colour ((List.range 32).flatMap (reportBlock s d lp))) else s1
  else s

/-- The burst heard in a discovery slot: on its colour, with its rota index; a burst of another rota index is ignored (R129). -/
def heardSource (o : DiscoveryObs) (t colour : Nat) : Option Nat :=
  match o.heard with
  | some (src, c, slot) => if c.val = colour ∧ slot.val = t then some src.toNat else none
  | none => none

/-- Record what a lane heard: sweep 1 makes the map; sweep 2 adds its errors to those of a source heard in sweep 1 (R126). -/
def recordHeard (d lp lane t colour : Nat) (second : Bool) (o : DiscoveryObs) (s : State) : State :=
  let put := fun (h : Heard) (s : State) => s.updLan d lp fun l => { l with heard := sput l.heard (lane * 32 + colour) (some h) none }
  match heardSource o t colour with
  | none => s
  | some src =>
    if second then
      match s.heardOn d lp lane colour with
      | some h =>
        if h.src = src then
          let (q, s1) := quality s (h.errors + o.errors.toNat) (discoveryBits false + discoveryBits true)
          put { h with quality := q } s1
        else s
      | none => s
    else
      let (q, s1) := quality s o.errors.toNat (discoveryBits false)
      put ⟨src, o.errors.toNat, q, q, o.delay.toNat⟩ s1

/-- The reports of a peer heard in sweep 2 that name this port. -/
def takeReports (d lp t colour : Nat) (o : DiscoveryObs) (s : State) : State :=
  match heardSource o t colour with
  | none => s
  | some src =>
    let own := s.rd (R.LANYARD_SRC_ADDR d (128 + lp))
    let mine := (o.blocks.take 32).zipIdx.filter fun x => x.1.crcOk && x.1.valid && x.1.src == own
    s.updLan d lp fun l => { l with reports := (l.reports ++ mine.map fun x =>
      ({ peer := src, colour := x.2, lanes := x.1.lanes.toNat, quality := x.1.quality.toNat } : PeerReport)).dedup }

/-- Discovery slot t of a sweep is open: its 64,000 ns run from S + 2,200 µs, or S + 4,248 µs, + 64 t µs (Table 5.5). -/
def State.discoveryOpen (s : State) (d lp : Nat) (second : Bool) (t : Nat) : Bool :=
  let dt := sincens s.now (s.stripAt d lp + (if second then 4248000 else 2200000) + 64000 * t)
  decide (0 ≤ dt) && decide (dt < 64000)

/-- LANYARD_DISCOVERY_SLOT, of a lane that has come through steps 1 and 2; without its base lock a lane hears nothing. -/
def doDiscovery (d lp : Nat) (second : Bool) (t lane : Nat) (o : DiscoveryObs) (s : State) : State :=
  let n := lanyardLane lp lane
  let st := s.laneState d n
  if !(s.lan d lp).strip || !(st == lsLocking || st == lsMeasure) || !s.discoveryOpen d lp second t then s
  else
    let colour := (t + 4 * lane) % 32
    let s1 := sendDiscovery d lp lane t colour second (s.setLaneState d n lsMeasure)
    if !s.bit (laneStatus d n) F.LANE_STATUS_RX_LOCK then s1
    else
      let s2 := recordHeard d lp lane t colour second o s1
      if second then takeReports d lp t colour o s2 else s2

def execLanyardDiscoverySlot (d : Fin 8) (lp : Fin 2) (second : Bool) (t : Fin 32) (lane : Fin 8) (obs : DiscoveryObs)
    (s : State) : Result :=
  .next (doDiscovery d.val lp.val second t.val lane.val obs s)

/-- The peer entry of transmit colour c (R127): colour c reaches the peer whose report names this port in block c; the peer was
heard on some colour x. -/
def fillPeer (d lp : Nat) (s : State) (c : Nat) : State :=
  let p := 128 + lp
  let l := s.lan d lp
  let own := (s.rd (R.LANYARD_SRC_ADDR d p)).toNat
  let r := R.LANYARD_PEER_STATUS d p c
  let self := (s.heardLanes d lp c).any fun x => x.2.src == own
  let rep := if self then none else l.reports.find? fun q => q.colour == c && q.peer != own
  let peer := match rep with
    | some q => q.peer
    | none => 0
  let txLanes := match rep with
    | some q => q.lanes
    | none => 0
  let txQ := match rep with
    | some q => q.quality
    | none => 0
  let heard := if rep.isNone then none else (List.range 32).find? fun x => (s.heardLanes d lp x).any fun y => y.2.src == peer
  let xs := match heard with
    | some x => s.heardLanes d lp x
    | none => []
  let rxLanes := goodLanes (s.berGoal d lp) xs
  let b2n := fun (b : Bool) => if b then 1 else 0
  let s1 := s.wr (R.LANYARD_PEER_ADDR d p c) (BitVec.ofNat 32 peer)
  let s2 := (s1.setF r F.LANYARD_PEER_STATUS_TX_OK (b2n (txLanes != 0))).setF r F.LANYARD_PEER_STATUS_RX_OK
    (b2n (rxLanes != 0))
  let s3 := (s2.setF r F.LANYARD_PEER_STATUS_SELF (b2n self)).setF r F.LANYARD_PEER_STATUS_RX_COLOUR (heard.getD 0)
  s3.wr (R.LANYARD_PEER_PATH d p c) (BitVec.ofNat 32
    (txLanes % 256 * 2 ^ 24 + rxLanes * 65536 + min (txQ / 10) 255 * 256 + min (worstQuality xs / 10) 255))

/-- Delays of the peers with RX_OK. -/
def peerDelays (s : State) (d lp : Nat) : List Nat :=
  (List.range 32).flatMap fun c =>
    let r := R.LANYARD_PEER_STATUS d (128 + lp) c
    if s.bit r F.LANYARD_PEER_STATUS_RX_OK then
      (s.heardLanes d lp (s.fld r F.LANYARD_PEER_STATUS_RX_COLOUR)).map fun x => x.2.delay
    else []

/-- D, SPREAD_NS and SPREAD_EXCEEDED (R128). A half nanosecond of the midpoint goes either way. -/
def setRxDelay (s : State) (d lp : Nat) : State :=
  match peerDelays s d lp with
  | [] => s
  | x :: rest =>
    let lo := rest.foldl min x
    let hi := rest.foldl max x
    let r := R.LANYARD_RX_DELAY d (128 + lp)
    let g := F.LANYARD_GUARD_STAGE_GUARD_NS.get (s.rdSlot s.staged (R.LANYARD_GUARD_STAGE d (128 + lp)))
    let (b, s1) := if (lo + hi) % 2 = 1 then s.drawFree 1 else (0, s)
    let s2 := (s1.setF r F.LANYARD_RX_DELAY_DELAY_NS ((lo + hi) / 2 + b)).setF r F.LANYARD_RX_DELAY_SPREAD_NS
      (min (hi - lo) 1023)
    s2.setF r F.LANYARD_RX_DELAY_SPREAD_EXCEEDED (if g < hi - lo + 80 then 1 else 0)

/-- Some colour has both TX_OK and RX_OK. -/
def anyPath (s : State) (d lp : Nat) : Bool :=
  (List.range 32).any fun c =>
    let r := R.LANYARD_PEER_STATUS d (128 + lp) c
    s.bit r F.LANYARD_PEER_STATUS_TX_OK && s.bit r F.LANYARD_PEER_STATUS_RX_OK

/-- State of each lane after a strip, or as it stood before one that was cancelled (R139). -/
def restLanes (s : State) (d lp : Nat) : State :=
  setLanLanes s d lp (lanLaneState s d lp)

/-- Report of each lane: FIT_FAILED where no path was found; what was not measured as one margin is free. -/
def lanReports (s : State) (d lp code : Nat) : State :=
  (List.range 8).foldl (fun t l =>
    let n := lanyardLane lp l
    let (ws, t1) := unmeasuredWords t
    (writeReport t1 d n (reportWord0 d n 6 code 1) ws).setF (laneStatus d n) F.LANE_STATUS_LAST_RESULT code) s

/-- LANYARD_TS_COMPLETE: step 6. -/
def doTsComplete (d lp : Nat) (s : State) : State :=
  let p := 128 + lp
  if (s.lan d lp).strip && s.reached (s.stripAt d lp + 6296000) then
    let s1 := (List.range 32).foldl (fillPeer d lp) s
    let path := anyPath s1 d lp
    let s2 := newHeadroom (setRxDelay s1 d lp) d lp
    let s3 := (s2.updLan d lp fun l =>
      { l with strip := false, found := if path then 1 else 2, removed := 0, checked := 0, failed := [], reseek := [] }).setF
      (R.LANYARD_TS_CTRL d p) F.LANYARD_TS_CTRL_ARM 0
    let s4 := lanReports (restLanes s3 d lp) d lp (if path then 0 else 0x18)
    showLanState (setEvent s4 61 (R.LANYARD_STATUS d p) F.LANYARD_STATUS_DISCOVERY_DONE) d lp
  else s

def execLanyardTsComplete (d : Fin 8) (lp : Fin 2) (s : State) : Result := .next (doTsComplete d.val lp.val s)

/-- A CANCEL before step 6 ends the strip; peer entries and D stay (R129). -/
def cancelStrip (d lp : Nat) (s : State) : State :=
  let s1 := (s.updLan d lp fun l => { l with strip := false, heard := [], reports := [] }).setF
    (R.LANYARD_TS_CTRL d (128 + lp)) F.LANYARD_TS_CTRL_ARM 0
  if (s.lan d lp).strip then showLanState (restLanes s1 d lp) d lp else s1

/-! ## The flip (R123, R166) -/

/-- Keep of the rota that ends the slots whose bursts may still arrive: those within D and a slot of the end (R120, R123). -/
def saveRota (s : State) (x : Nat × Nat) : State :=
  let (d, lp) := x
  let p := s.slotNs d lp
  let next := (s.lan d lp).slot
  let delay := s.fld (R.LANYARD_RX_DELAY d (128 + lp)) F.LANYARD_RX_DELAY_DELAY_NS
  let kept := (List.range (delay / p + 3)).filterMap fun i =>
    if i ≤ next then some (next - i, (List.range 8).map fun l => s.rotaEntry d lp l (next - i)) else none
  s.updLan d lp fun l => { l with
    old := some ⟨(s.rd (R.LANYARD_ROTA_ANCHOR d (128 + lp))).toNat, p, s.rotaLen d lp, s.guardNs d lp, next, kept⟩ }

/-- The staged rota of a port takes effect with anchor T. -/
def flipRota (t : Nat) (s : State) (x : Nat × Nat) : State :=
  let (d, lp) := x
  let p := 128 + lp
  let stage := s.rdActive (R.LANYARD_ROTA_STAGE d p)
  let slotNs := F.LANYARD_ROTA_STAGE_SLOT_NS.get stage
  let g := F.LANYARD_GUARD_STAGE_GUARD_NS.get (s.rdActive (R.LANYARD_GUARD_STAGE d p))
  let s1 := (s.wr (R.LANYARD_ROTA_ANCHOR d p) (BitVec.ofNat 32 t)).wr (R.LANYARD_ROTA_ACTIVE d p) stage
  let s2 := (s1.setF (R.LANYARD_STATUS d p) F.LANYARD_STATUS_GUARD_NS g).setF (R.LANYARD_WINDOW d p)
    F.LANYARD_WINDOW_DATA_BLOCKS (burstBlocks slotNs g)
  let s3 := s2.setF (R.LANYARD_WINDOW d p) F.LANYARD_WINDOW_MAX_FRAME (burstMaxFrame slotNs g)
  newHeadroom (s3.updLan d lp fun l => { l with slot := 0, checked := 0 }) d lp

/-- TXN_FLIP: at T every die that is up increments TXN_GEN; the commit point. -/
def doFlip (s : State) : State :=
  if s.txn = txPending ∧ s.reached s.tabs.flipAt then
    let t := s.tabs.flipAt
    let before := darkPorts s
    let ports := ((List.range 16).map fun i => (i / 2, i % 2)).filter fun x => journalsRota s x.1 x.2
    let s0 := ports.foldl saveRota s
    let s1 := (s0.wr (R.TXN_GEN 0) (s.rd (R.TXN_GEN 0) + 1)).wr (R.TXN_FLIP_TIME 0) (BitVec.ofNat 32 t)
    let s2 := (s1.setF (R.TXN_STATUS 0) F.TXN_STATUS_FLIP_TIME_STATE s.timeState).setTxn txCatchup
    let down := (List.range 8).filter fun d => !s.dieUp d
    let s3 := s2.updTabs fun x => { x with copying := true, seedLocked := true, stale := (x.stale ++ down).dedup }
    let s4 := ports.foldl (flipRota t) s3
    followDark before (txnEvent s4 F.TXN_EVENT_FLIP)
  else s

def execTxnFlip (s : State) : Result := .next (doFlip s)

end Sys2Proof.Machine
end

