-- ==== Sys2Proof/Machine/Integrity.lean ====
section
/-! DEFINITION. The logbook, the classification and retirement of units, fault notices and the random-operand self-test (R346 to
R360). -/

namespace Sys2Proof.Machine

/-! ## Units (R347, R354, R355, Table 13.11) -/

/-- Units of a kind of Table 13.11; 0 for another kind. -/
def unitsOfKind (k : Nat) : Nat :=
  match k with
  | 2 => 1024
  | 3 => 16
  | 4 => 128
  | 5 => 128
  | 6 => 32
  | 7 => 1024
  | 8 => 128
  | _ => 0

/-- The unit number is one of its kind (R12). -/
def unitInRange (k die u : Nat) : Bool :=
  match k with
  | 2 => decide (die < 8) && decide (u < 128)
  | 3 => decide (die < 8) && decide (128 ≤ u) && decide (u < 130)
  | 4 | 5 => decide (die < 8) && decide (u < 16)
  | 6 => die == 10 && decide (u < 32)
  | 7 => decide (die < 8) && decide (u < 128)
  | 8 => decide (die < 8) && decide (128 ≤ u) && decide (u < 144)
  | _ => false

/-- Retire budget of a kind: its unit count shifted right by BUDGET_SHIFT, at least 1 (R355). -/
def State.budget (s : State) (k : Nat) : Nat :=
  max 1 (unitsOfKind k / 2 ^ s.fld R.INTEG_CLASS_CTRL F.INTEG_CLASS_CTRL_BUDGET_SHIFT)

/-- A LOG_TIME lies within h hours of another. -/
def withinHours (h now t : Nat) : Bool := decide (now ≤ t + h * 3600)

/-- Retirements of a kind within BUDGET_H hours. -/
def State.budgetUsed (s : State) (k : Nat) : Nat :=
  (s.integ.retired.filter fun r => r.1 == k &&
    withinHours (s.fld R.INTEG_CLASS_CTRL F.INTEG_CLASS_CTRL_BUDGET_H) s.logTime r.2).length

/-- Units in HELD: of a kind, or of all kinds for none. -/
def State.heldUnits (s : State) (k : Option Nat) : Nat :=
  (s.integ.units.filter fun u => u.2.state == 4 && (match k with
    | some x => u.1 / 2 ^ 20 == x
    | none => true)).length

/-- A STATE_CHANGE record of a unit, mechanism POLICY (R354). -/
def fileStateChange (s : State) (kind die unit : Nat) : State := fileRec s (LogRec.of 6 0x10 kind die unit)

/-- An engine is retired: its dispatch ends, its knots are orphaned, it takes no more (Tables 9.9, 13.11). -/
def retireEngine (s : State) (e : Nat) : State :=
  if s.engState e = 7 then s
  else
    let s1 := (resetAborts s e).updEng e Engine.idle
    let s2 := (s1.setEngState e 7).setF (engReg R.ENGINE_STATUS e) F.ENGINE_STATUS_DISPATCH 3
    xchkAbandon (orphanAll (dropQueued s2 e) e) e

/-- State of a DMA channel (Table 14.23). -/
def State.dmaState (s : State) (c : Nat) : Nat := s.fld (R.DMA_CH_STATUS c) F.DMA_CH_STATUS_STATE
def setDmaState (s : State) (c st : Nat) : State :=
  withCause s (c + 1) fun t => t.setF (R.DMA_CH_STATUS c) F.DMA_CH_STATUS_STATE st

/-- What retirement does to a unit (Table 13.11). -/
def retireEffect (s : State) (kind die unit : Nat) : State :=
  match kind with
  | 2 | 3 => writeQuarantine die unit s
  | 4 => retireEngine s (die * 16 + unit)
  | 6 => setDmaState s unit 4
  | 7 | 8 => writeExclude die unit true s
  | _ => s

/-- Kinds and numbers of the units of a die that can be retired. -/
def dieUnits (d : Nat) : List (Nat × Nat) :=
  if d < 8 then
    (List.range 128).map (fun u => (2, u)) ++ [(3, 128), (3, 129)] ++ (List.range 16).map (fun u => (4, u)) ++
    (List.range 16).map (fun u => (5, u)) ++ (List.range 128).map (fun u => (7, u)) ++
    (List.range 16).map (fun u => (8, 128 + u))
  else if d = 10 then (List.range 32).map (fun u => (6, u))
  else []

/-- DIE_FAULT of a die, and a notice for it, where all its units are retired (R34, R356). -/
def checkDie (s : State) (d : Nat) : State :=
  let us := dieUnits d
  let mask := s.fld R.DIE_STATUS F.DIE_STATUS_DIE_FAULT
  if !us.isEmpty && us.all (fun u => s.isRetired u.1 d u.2) && !mask.testBit d then
    fileStateChange (s.setF R.DIE_STATUS F.DIE_STATUS_DIE_FAULT (mask + 2 ^ d)) 1 d d
  else s

/-- Retire a unit: its state, the budget, the event, the record, the effect. -/
def retireUnit (s : State) (kind die unit : Nat) : State :=
  let h := s.health kind die unit
  let s1 := s.setHealth kind die unit { h with state := 3, occ := [] }
  let s2 : State := { s1 with integ := { s1.integ with retired := (kind, s.logTime) :: s1.integ.retired } }
  let s3 := setEvent (s2.integCount 14) 51 R.INTEG_EVENT F.INTEG_EVENT_RETIRED
  checkDie (retireEffect (fileStateChange s3 kind die unit) kind die unit) die

/-- A band-suspect unit enters a band it is suspect in (Table 13.11). An engine's notice names the other knots homed there than
the one whose record made it suspect; where there is none, none is filed, and how it names them is open. -/
def bandEnter (s : State) (kind die unit knot : Nat) : State :=
  match kind with
  | 2 | 3 => writeQuarantine die unit s
  | 4 =>
    if ((s.knotsOf (die * 16 + unit)).filter (· != knot)).isEmpty then s
    else
    let ws := (List.range 6).map fun i => (Config.freeValue 32 (s.free + i)).toNat
    fileRec { s with free := s.free + 6 } { LogRec.of 9 0x10 4 die unit with syn := ws }
  | 7 => holdLane s die unit
  | _ => s

/-- A unit is held to its band no longer. -/
def bandLeave (s : State) (kind die unit : Nat) : State := if kind = 7 then freeLane s die unit else s

/-- The place whose temperature a sample gave moves to another band: units suspect in a band enter or leave it (R347). -/
def moveBand (s : State) (place : Nat) (temp : Int) : State :=
  let t : State := { s with pwr := { s.pwr with
    bands := sput s.pwr.bands place (nextBand (sget s.pwr.bands place 0) temp) 0 } }
  s.integ.units.foldl (fun t u =>
    let k := u.1 / 2 ^ 20
    let d := u.1 / 2 ^ 16 % 16
    let n := u.1 % 65536
    if tempPlace k d n ≠ place then t
    else if t.bandHeld k d n && !s.bandHeld k d n then bandEnter t k d n 16384
    else if s.bandHeld k d n && !t.bandHeld k d n then bandLeave t k d n
    else t) t

/-! ## Classification (R353 to R355) -/

/-- A first suspicion: BAND_SUSPECT where every occurrence lies in one band and the unit passed a self-test in another within
the window, else SUSPECT. -/
def firstSuspicion (s : State) (r : LogRec) (h : UnitHealth) (hits : List (Nat × Nat × Nat)) : State :=
  let win := s.fld R.INTEG_CLASS_CTRL F.INTEG_CLASS_CTRL_WINDOW_H
  let oneBand := hits.all fun o => o.2.2 == r.band
  let passed := h.passes.any fun p => p.2 != r.band && withinHours win r.logTime p.1
  let h1 := if oneBand && passed then { h with state := 2, bands := setMaskBit h.bands r.band true } else { h with state := 1 }
  let s1 := s.setHealth r.kind r.die r.unit { h1 with suspicions := min 15 (h.suspicions + 1), occ := [] }
  let s2 := fileStateChange (s1.integCount 13) r.kind r.die r.unit
  if s2.bandHeld r.kind r.die r.unit then bandEnter s2 r.kind r.die r.unit r.knot else s2

/-- A second suspicion: RETIRED within the budget, else HELD; held by the budget it is escalated. A kind outside Table 13.11
cannot be retired and is HELD. -/
def secondSuspicion (s : State) (r : LogRec) (h : UnitHealth) : State :=
  let h1 := { h with suspicions := min 15 (h.suspicions + 1), occ := [] }
  let s1 := s.setHealth r.kind r.die r.unit h1
  let auto := s.bit R.INTEG_CTRL F.INTEG_CTRL_AUTO_RETIRE && unitsOfKind r.kind != 0
  if auto && decide (s.budgetUsed r.kind < s.budget r.kind) then retireUnit s1 r.kind r.die r.unit
  else
    let held := s.bandHeld r.kind r.die r.unit
    let s2 := fileStateChange (s1.setHealth r.kind r.die r.unit { h1 with state := 4 }) r.kind r.die r.unit
    let s3 := if held then bandLeave s2 r.kind r.die r.unit else s2
    if auto then
      setEvent (fileRec (s3.integCount 15) (LogRec.of 7 0x10 r.kind r.die r.unit)) 51 R.INTEG_EVENT F.INTEG_EVENT_ESCALATION
    else s3

/-- Classify a record: what word 7 [23:16] counts, and the state with the unit's health. -/
def classify (s : State) (r : LogRec) : Nat × State :=
  if !r.counts then (if r.cls = 1 then min 255 r.folded else 0, s)
  else
    let h := s.health r.kind r.die r.unit
    let times := if r.cls = 4 ∧ r.folded ≠ 0 then r.folded else 1
    let h1 := { h with occ := List.replicate times (r.signature, r.logTime, r.band) ++ h.occ }
    let win := s.fld R.INTEG_CLASS_CTRL F.INTEG_CLASS_CTRL_WINDOW_H
    let hits := h1.occ.filter fun o => o.1 == r.signature && withinHours win r.logTime o.2.1
    let s1 := s.setHealth r.kind r.die r.unit h1
    let n := min 255 hits.length
    if hits.length < s.fld R.INTEG_CLASS_CTRL F.INTEG_CLASS_CTRL_REPEAT then (n, s1)
    else if h.state = 0 then (n, firstSuspicion s1 r h1 hits)
    else if h.state = 1 ∨ h.state = 2 then (n, secondSuspicion s1 r h1)
    else (n, s1)

/-! ## The record (R350, Table 13.5) -/

/-- The sixteen words of a record: unit state and occurrences as given. -/
def recWords (r : LogRec) (state occ : Nat) : List Nat :=
  let ws := [2 ^ 28 + (if r.estimated then 2 ^ 27 else 0) + r.cls % 256 * 2 ^ 16 + r.mech % 256 * 2 ^ 8 + r.status % 256,
    r.seq % 2 ^ 32, r.logTime % 2 ^ 32, r.fabNs % 2 ^ 32,
    r.kind % 16 * 2 ^ 28 + r.die % 16 * 2 ^ 24 + r.unit % 65536,
    r.slot % 256 * 2 ^ 24 + r.op % 256 * 2 ^ 16 + r.knot % 16384,
    r.temp % 65536 * 65536 + r.mv % 65536,
    r.band % 16 * 2 ^ 28 + state % 16 * 2 ^ 24 + min 255 occ * 2 ^ 16 + r.gen % 256 * 256] ++
    ((List.range 6).map fun i => r.syn.getD i 0 % 2 ^ 32) ++ [r.signature % 2 ^ 32]
  ws ++ [crc32c (leWords ws)]

/-- Put a record into the fallback queue: slot PROD mod 64, the oldest overwritten where 64 are pending (R357). -/
def fallback (s : State) (ws : List Nat) : State :=
  withCause s 51 fun s =>
    let prod := s.rd R.INTEG_FB_PROD
    let full := decide (64 ≤ (prod - s.rd R.INTEG_FB_CONS).toNat)
    let s1 := (List.range 16).foldl
      (fun s w => s.wr (R.INTEG_FB_RECORD (prod.toNat % 64) w) (BitVec.ofNat 32 (ws.getD w 0))) s
    let s2 := (s1.wr R.INTEG_FB_PROD (prod + 1)).setBit R.INTEG_EVENT F.INTEG_EVENT_RECORD
    if full then s2.setBit R.INTEG_EVENT F.INTEG_EVENT_FB_OVERRUN else s2

/-- Unit of a record's words: kind, die, number. -/
def wordsUnit (ws : List Nat) : Nat × Nat × Nat :=
  let w := ws.getD 4 0
  (w / 2 ^ 28, w / 2 ^ 24 % 16, w % 65536)

/-- A slot of the logbook holds a STATE_CHANGE record of a unit that is not GOOD. -/
def State.mustCarry (s : State) (ws : List Nat) : Bool :=
  !ws.isEmpty && ws.getD 0 0 / 2 ^ 16 % 256 == 6 &&
    (let u := wordsUnit ws
     (s.health u.1 u.2.1 u.2.2).state != 0)

/-- Queue a fault notice for a record (R357, R360, R406): the 257th drops the oldest. -/
def queueNotice (s : State) (ws : List Nat) (cls : Nat) : State :=
  if !s.bit R.INTEG_CTRL F.INTEG_CTRL_NOTICE_EN || cls == 1 || cls == 0xA then s
  else
    let late := !s.bit R.MGMT_KEY_CTRL F.MGMT_KEY_CTRL_KEY_SET || s.fld R.MGMT_STATUS F.MGMT_STATUS_BOOT_STAGE != 2
    let n : Notice := ⟨s.integ.noticeSeq % 2 ^ 32, 0, 0, late, cls == 7, ws⟩
    let g := s.integ
    let add : Integ → Integ := fun g => { g with fresh := g.fresh ++ [n], noticeSeq := g.noticeSeq + 1 }
    if g.fresh.length + g.unacked.length < 256 then { s with integ := add g }
    else
      let g1 := if g.unacked.isEmpty then { g with fresh := g.fresh.drop 1 } else { g with unacked := g.unacked.drop 1 }
      setEvent (({ s with integ := add g1 } : State).integCount 3) 51 R.INTEG_EVENT F.INTEG_EVENT_NOTICE_DROPPED

/-- I3C in-band interrupt with one data byte, where ENEC enabled them (R408). -/
def raiseIbi (s : State) (b : Nat) : State := if s.bit R.I3C_STATUS F.I3C_STATUS_IBI_EN then s.emit (.ibi b) else s

/-- The integrity collector takes a record to the fallback queue and to the notices, whether or not the management processor runs
(R357). -/
def report (s : State) (ws : List Nat) (cls : Nat) : State :=
  let s1 := queueNotice (fallback s ws) ws cls
  if cls = 2 ∨ cls = 3 ∨ cls = 7 then raiseIbi s1 1 else s1

/-- The collector classifies the oldest record that waits, lays it out, reports it, and hands it on for the logbook. -/
def collect (s : State) : State :=
  match s.integ.queue with
  | [] => s
  | r :: rest =>
    let c := classify { s with integ := { s.integ with queue := rest } } r
    let ws := recWords r (c.2.health r.kind r.die r.unit).state c.1
    report { c.2 with integ := { c.2.integ with toBook := c.2.integ.toBook ++ [ws] } } ws r.cls

/-- A record takes the next slot of the logbook. -/
def bookRec (ws : List Nat) (s : State) : State :=
  ({ s with integ := { s.integ with
      book := sput s.integ.book (s.integ.written % 65536) ws [], written := s.integ.written + 1 } } : State).integCount 0

/-- The fresh STATE_CHANGE record that carries a unit's state and suspicion count forward (R349). -/
def carryWords (s : State) (ws : List Nat) : List Nat :=
  let u := wordsUnit ws
  let h := s.health u.1 u.2.1 u.2.2
  recWords (stampRec s (LogRec.of 6 0x11 u.1 u.2.1 u.2.2)) h.state h.suspicions

/-- Write a record, and before it those that the wrap must carry forward: each takes the slot of the record it renews. -/
def writeBook (ws : List Nat) : Nat → State → State
  | 0, s => bookRec ws s
  | n + 1, s =>
    let old := sget s.integ.book (s.integ.written % 65536) []
    if s.mustCarry old then
      let c := carryWords s old
      let s1 : State := { s with integ := { s.integ with seq := s.integ.seq + 1 }, free := s.free + 2 }
      writeBook ws n (bookRec c (report s1 c 6))
    else bookRec ws s

/-- The management processor runs (R391). -/
def State.mgmtRuns (s : State) : Bool := s.fld R.MGMT_STATUS F.MGMT_STATUS_BOOT_STAGE == 2

/-- The management processor, where it runs, writes the oldest record that the collector handed on. -/
def bookNext (s : State) : State :=
  match s.integ.toBook with
  | [] => s
  | ws :: rest =>
    if s.mgmtRuns then writeBook ws 65536 { s with integ := { s.integ with toBook := rest } } else s

/-- LOGBOOK_WRITE: the collector classifies and reports the oldest record that waits (R357), and the management processor writes
the oldest laid out (R349). -/
def doLogbookWrite (s : State) : State := bookNext (collect s)

def execLogbookWrite (s : State) : Result := .next (doLogbookWrite s)

/-- LOGBOOK_HEARTBEAT: 60 minutes of always-on ticks after the last one, a HEARTBEAT record; its mechanism is open. -/
def execLogbookHeartbeat (s : State) : Result :=
  if s.pwr.aon < s.integ.heartAt + 90000000000 then .next s
  else
    let (m, s1) := s.drawFree 8
    .next (fileRec { s1 with integ := { s1.integ with heartAt := s1.pwr.aon } } (LogRec.of 0xA m 0 0 0))

/-! ## Fault notices (R359, R360, R406) -/

/-- The device tag: the first 4 bytes of SHA-256 of the identity public key; 0 until IDENTITY_OK (R359, R398). -/
def State.deviceTag (s : State) : Bytes :=
  if s.bit R.MGMT_STATUS F.MGMT_STATUS_IDENTITY_OK then (sha256 s.mgmt.pub).take 4 else zeros 4

/-- The bytes of a notice as its send number stands (Table 13.12). -/
def noticeBytes (s : State) (n : Notice) : Bytes :=
  let head := beBytes 0x56464E31 4 ++ beBytes n.seq 4 ++ beBytes n.sends 2 ++
    beBytes ((if n.late then 1 else 0) + (if n.escalation then 2 else 0)) 2 ++ s.deviceTag ++ leWords n.words
  head ++ hmac s.mgmt.key head

/-- The fault manager's address (R402). -/
def State.fmAddr (s : State) : Nat :=
  ((List.range (if s.bit R.MGMT_NET_CFG F.MGMT_NET_CFG_IPV6 then 4 else 1)).map fun w =>
    (s.rd (R.MGMT_FM_ADDR w)).toNat * 2 ^ (32 * w)).sum

/-- Notices can leave: the processor runs, a key is held, and the port is in use (R357, R406). -/
def State.canNotify (s : State) : Bool :=
  s.fld R.MGMT_STATUS F.MGMT_STATUS_BOOT_STAGE == 2 && s.bit R.MGMT_KEY_CTRL F.MGMT_KEY_CTRL_KEY_SET &&
    s.bit R.MGMT_NET_CFG F.MGMT_NET_CFG_EN

/-- Send a notice: index 2 counts it. -/
def sendNotice (s : State) (n : Notice) : State :=
  (s.emit (.datagram s.fmAddr (s.fld R.INTEG_NOTICE_CTRL F.INTEG_NOTICE_CTRL_DEST_PORT) (noticeBytes s n))).integCount 2

/-- FAULT_NOTICE_SEND: the oldest notice not yet sent leaves for the first time. -/
def doNoticeSend (s : State) : State :=
  match s.integ.fresh with
  | [] => s
  | n :: rest =>
    if !s.canNotify then s
    else
      let n1 := { n with sends := 1, sentAt := s.pwr.aon }
      sendNotice { s with integ := { s.integ with fresh := rest, unacked := s.integ.unacked ++ [n1] } } n1

def execFaultNoticeSend (s : State) : Result := .next (doNoticeSend s)

/-- AON_TICK of the next resend of a notice: 10 ms after its first send, then at intervals that double (R360). -/
def Notice.due (n : Notice) : Nat := n.sentAt + 250000 * 2 ^ (n.sends - 1)

/-- FAULT_NOTICE_RESEND: the resend timer of an unacknowledged notice has run out. -/
def doNoticeResend (i : Nat) (s : State) : State :=
  match s.integ.unacked[i]? with
  | none => s
  | some n =>
    if !s.canNotify || decide (s.fld R.INTEG_NOTICE_CTRL F.INTEG_NOTICE_CTRL_SENDS ≤ n.sends) || decide (s.pwr.aon < n.due) then s
    else
      let n1 := { n with sends := n.sends + 1, sentAt := s.pwr.aon }
      sendNotice { s with integ := { s.integ with unacked := s.integ.unacked.set i n1 } } n1

def execFaultNoticeResend (i : Fin 256) (s : State) : Result := .next (doNoticeResend i.val s)

/-! ## Self-test (R346, R347) -/

/-- An engine passed a slice in its die's current band within the last BAND_AGE_H hours (R347). -/
def State.bandPassed (s : State) (e : Nat) : Bool :=
  (s.health 4 (e / 16) (e % 16)).passes.any fun p => p.2 == s.bandOf 4 (e / 16) (e % 16) &&
    withinHours (s.fld R.INTEG_CTRL F.INTEG_CTRL_BAND_AGE_H) s.logTime p.1

/-- Slices of an engine in the last 1 s, 1.6 × 10^9 core cycles. -/
def State.lastSlices (s : State) (e : Nat) : List (Nat × Nat) := (s.eng e).slices.filter fun x => decide (s.cycle < x.1 + 1600000000)

/-- A slice of so many cycles stays within an engine's self-test duty over 1 s: ST_DUTY, in 0.01 %, or one tenth of it where the
current band has a pass (R346, R347). -/
def State.dutyLeft (s : State) (e took : Nat) : Bool :=
  let used := ((s.lastSlices e).map (·.2)).sum + took
  let duty := s.fld R.INTEG_CTRL F.INTEG_CTRL_ST_DUTY
  if s.bandPassed e then decide (used ≤ duty * 16000) else decide (used ≤ duty * 160000)

/-- An engine can run a self-test slice: READY, no dispatch pending for GATE_IDLE cycles, its duty not used up, its die not
throttled (R346, R347, R415). -/
def State.slicable (s : State) (e took : Nat) : Bool :=
  s.engState e == 3 && (s.eng e).noWork && s.dutyLeft e took &&
    decide ((s.eng e).idleAt + s.fld (engReg R.ENGINE_DISPATCH_CTRL e) F.ENGINE_DISPATCH_CTRL_GATE_IDLE ≤ s.pwr.clk) &&
    s.fld (R.DIE_PWR_STATUS (e / 16)) F.DIE_PWR_STATUS_STAGE == 0

/-- An engine ran a slice of so many cycles. -/
def noteSlice (took : Nat) (s : State) (e : Nat) : State :=
  s.updEng e fun g => { g with slices := (s.cycle, took) :: s.lastSlices e }

/-- An engine passed a slice in its die's band. -/
def notePass (s : State) (e : Nat) : State :=
  let h := s.health 4 (e / 16) (e % 16)
  s.setHealth 4 (e / 16) (e % 16) { h with passes := (s.logTime, s.bandOf 4 (e / 16) (e % 16)) :: h.passes }

/-- A SELF_TEST_FAIL record (Table 13.9): mechanism, the engine, the other of its pair, run and vector, syndrome class, and how
many occurrences it counts as. -/
def fileSelfTest (s : State) (mech e other run vec cls times : Nat) : State :=
  fileRec s { LogRec.of 4 mech 4 (e / 16) (e % 16) with
    syn := [run, other % 256 * 65536 + vec % 65536], synClass := cls, counts := cls != 5, folded := times }

/-- The engine that failed a slice reruns the operands; a failure that repeats counts as REPEAT occurrences at once. -/
def failSlice (s : State) (e other : Nat) (o : SliceObs) (good : Nat) : State :=
  let repeated := o.rerun.toNat != good
  fileSelfTest ((noteSlice o.took.val s e).integCount 12) 7 e other o.run.toNat o.vector.toNat o.where_.val
    (if repeated then s.fld R.INTEG_CLASS_CTRL F.INTEG_CLASS_CTRL_REPEAT else 1)

/-- The third engine that reruns the operands where the signatures of e and q differ, if it is free (R346). -/
def State.thirdOf (s : State) (e q took : Nat) : Option Nat :=
  let t := e / 16 * 16 + (e % 16 ^^^ 4)
  if t ≠ q ∧ s.slicable t took then some t else none

/-- Both engines failed a slice, and it is not told which: syndrome class 5, ambiguous. -/
def failBoth (s : State) (e q : Nat) (o : SliceObs) : State :=
  let rec1 := fun (s : State) (a b : Nat) => fileSelfTest s 7 a b o.run.toNat o.vector.toNat 5 1
  rec1 (rec1 (s.integCount 12) e q) q e

/-- The outcome of a slice of engines e and q. -/
def judgeSlice (s : State) (e q : Nat) (o : SliceObs) : State :=
  if o.sig1 = o.sig2 then notePass (notePass (s.integCount 11) e) q
  else match s.thirdOf e q o.took.val with
    | none => failBoth s e q o
    | some t =>
      let s1 := noteSlice o.took.val s t
      if o.sig3 = o.sig2 then failSlice s1 e q o o.sig2.toNat
      else if o.sig3 = o.sig1 then failSlice s1 q e o o.sig1.toNat
      else failBoth s1 e q o

/-- SELF_TEST_SLICE: two idle engines of a die run a slice on the same operands. A slice that a dispatch stops is discarded; the
engines' registers are saved and restored. -/
def doSelfTestSlice (e ee : Nat) (stopped : Bool) (o : SliceObs) (s : State) : State :=
  let q := e / 16 * 16 + ee
  let n := o.took.val
  if q == e || !s.bit R.INTEG_CTRL F.INTEG_CTRL_ST_EN || !s.slicable e n || !s.slicable q n then s
  else
    let s1 := noteSlice n (noteSlice n s e) q
    if stopped then s1 else judgeSlice s1 e q o

def execSelfTestSlice (e : Fin 128) (ee : Fin 16) (stopped : Bool) (obs : SliceObs) (s : State) : Result :=
  .next (doSelfTestSlice e.val ee.val stopped obs s)

/-! ## Registers of the block (R352, R358) -/

/-- A write of INTEG_LOG_TIME. -/
def writeLogTime (v : Word) (s : State) : State :=
  let s1 := (s.wr R.INTEG_LOG_TIME v).setBit R.INTEG_STATUS F.INTEG_STATUS_TIME_VALID
  { s1 with integ := { s1.integ with logTick := s1.pwr.aon } }

def execIntegLogTimeWrite (value : Word) (s : State) : Result := .next (writeLogTime value s)

/-- KIND, DIE and UNIT of a write to INTEG_UNIT_CMD. -/
def unitOf (v : Word) : Nat × Nat × Nat :=
  (F.INTEG_UNIT_CMD_KIND.get v, F.INTEG_UNIT_CMD_DIE.get v, F.INTEG_UNIT_CMD_UNIT.get v)

/-- The RW fields of INTEG_UNIT_CMD are written, and the command runs on its unit: another kind, or a number out of range, gives
BAD_ARGUMENT. LAST_STATUS tells the result. -/
def unitCmd (v : Word) (f : Nat → Nat → Nat → State → Nat × State) (s : State) : State :=
  let s1 := s.wr R.INTEG_UNIT_CMD (v &&& 0x0FF0FFFF#32)
  let u := unitOf v
  let (st, s2) := if unitInRange u.1 u.2.1 u.2.2 then f u.1 u.2.1 u.2.2 s1 else (0x10, s1)
  s2.setF R.INTEG_UNIT_STATUS F.INTEG_UNIT_STATUS_LAST_STATUS st

/-- QUERY. -/
def opUnitQuery (v : Word) (s : State) : State :=
  unitCmd v (fun k d u s =>
    let h := s.health k d u
    let r := R.INTEG_UNIT_STATUS
    (0, ((s.setF r F.INTEG_UNIT_STATUS_STATE h.state).setF r F.INTEG_UNIT_STATUS_SUSPICIONS h.suspicions).setF r
      F.INTEG_UNIT_STATUS_BAND_MASK h.bands)) s

def execUnitQuery (value : Word) (s : State) : Result := .next (opUnitQuery value s)

/-- RETIRE: the budget never refuses it. Of a unit retired already nothing changes but a record is written. -/
def opUnitRetire (v : Word) (s : State) : State :=
  unitCmd v (fun k d u s => (0, if s.isRetired k d u then fileStateChange s k d u else retireUnit s k d u)) s

def execUnitRetire (value : Word) (s : State) : Result := .next (opUnitRetire value s)

/-- RESTORE: GOOD again, with no suspicion; a retired unit stays retired. -/
def opUnitRestore (v : Word) (s : State) : State :=
  unitCmd v (fun k d u s =>
    let h := s.health k d u
    if h.state = 3 then (0x17, s)
    else if h.state = 0 then (0, fileStateChange s k d u)
    else
      let held := s.bandHeld k d u
      let s1 := fileStateChange (s.setHealth k d u { UnitHealth.init with passes := h.passes }) k d u
      (0, if held then bandLeave s1 k d u else s1)) s

def execUnitRestore (value : Word) (s : State) : Result := .next (opUnitRestore value s)

end Sys2Proof.Machine
end

