-- ==== Sys2Proof/Machine/Knots.lean ====
section
/-! DEFINITION. Knots (R280 to R291, R306, R312): LOAD, FLUSH, UNLOAD, READ, ADVANCE, SET_ANCHOR, drain markers, admission of
frames, in-band operations, the claim of a cross-check partner, and the status of a broadcast. -/

namespace Sys2Proof.Machine

/-! ## The checks of LOAD (R281, R282, R284) -/

/-- A knot entry as 64 words. -/
def Knot.ofWords (ws : List Word) : Knot := { Knot.init with words := ws }

/-- A HOLD_GATHER knot served in hardware (R320): it uses no dispatch. -/
def Knot.hwGather (x : Knot) : Bool := x.type == 9 && !x.param.testBit 15

/-- Reserved bits of Table 11.1 are 0. -/
def Knot.reservedClear (x : Knot) : Bool :=
  x.get 0 12 11 == 0 && x.get 1 31 31 == 0 && x.get 1 20 16 == 0 && x.get 2 15 11 == 0 && x.get 9 27 21 == 0 &&
    [12, 13, 14, 15].all fun w => x.get w 31 0 == 0

/-- Senders a knot can have: its members, peers and parent (R284). -/
def Knot.senders (x : Knot) : Nat :=
  ((List.range 1024).filter x.isMember).length + ((List.range 16).filter fun k => x.peer k != 0).length +
    (if x.parentAddr = 0 then 0 else 1)

/-- FORMAT and PARAM are in the range of the knot's type (Table 11.2, R284, R320). -/
def Knot.typeOk (x : Knot) : Bool :=
  match x.type with
  | 1 | 2 | 3 | 4 => x.param == 0
  | 5 =>
    if x.format = 11 then decide (8 + 2 * x.param ≤ 9216)
    else if x.format = 12 then decide (8 + 4 * x.param ≤ 9216) else false
  | 6 => x.format == 12 && decide (1 ≤ x.param) && decide (x.param ≤ 256)
  | 7 => decide (x.expected / 2 + 1 ≤ x.param) && decide (x.param ≤ x.expected)
  | 8 => x.format == 8 && x.param == 0
  | 9 | 10 => x.param % 2 ^ 15 == 0 && x.expected == 1
  | _ => false

/-- Step 1 of R284. -/
def fieldsOk (s : State) (x : Knot) : Bool :=
  x.reservedClear && x.typeOk && decide (x.format ≤ 13) && (!x.native || x.format == 0) &&
    decide (x.entry < s.fld (engReg R.ENGINE_IMEM_CTRL x.home) F.ENGINE_IMEM_CTRL_LIMIT) &&
    decide (1 ≤ x.expected) && decide (x.expected ≤ 1040) && decide (x.expected ≤ x.senders) && decide (x.epBits ≤ 10)

/-- Another knot of the same engine and partition has another job tag (step 5 of R284). -/
def State.tagClash (s : State) (k : Nat) (x : Knot) (home : Nat) : Bool :=
  s.knots.any fun y => y.1 != k && y.2.state != 0 && y.2.home == home && y.2.part == x.part && y.2.jobTag != x.jobTag

/-- The engine is READY or ACTIVE. -/
def State.engLive (s : State) (e : Nat) : Bool := s.engState e == 3 || s.engState e == 4

/-- The checks of R284 in order: the status of the first failure, or 0. -/
def loadCheck (s : State) (k : Nat) (x : Knot) : Nat :=
  if !fieldsOk s x then 0x10
  else if s.engState x.home = 6 ∨ s.engState x.home = 7 then 0x17
  else if !s.engLive x.home then 0x10
  else match partition (s.layout x.home) x.part with
    | none => 0x10
    | some p =>
      if p.2 < x.stateBytes ∨ 2 ^ 20 < x.stateBytes then 0x11
      else if s.tagClash k x x.home then 0x10
      else 0

/-- A knot enters LOADED under its next generation, and its LOADED dispatch is queued (R284, R291). -/
def enterLoaded (s : State) (k : Nat) (x : Knot) : State :=
  let gen := ((s.knot k).gen + 1) % 256
  let w0 := (x.words.getD 0 0).toNat
  let y := x.setWord 0 (BitVec.ofNat 32 (w0 / 2 ^ 24 * 2 ^ 24 + gen * 2 ^ 16 + w0 % 2 ^ 16))
  let s1 := s.setKnot k { Knot.init with state := 1, gen := gen, words := y.words }
  if x.hwGather then s1
  else wakeAsk (s1.updEng x.home fun g => { g with control := g.control ++ [(k, 1, gen)] }) x.home

/-- LOAD an entry into a FREE or FLUSHED knot: status and state. -/
def loadKnot (s : State) (k : Nat) (x : Knot) : Nat × State :=
  if (s.knot k).state ≠ 0 ∧ (s.knot k).state ≠ 3 then (0x10, s)
  else
    let st := loadCheck s k x
    (st, if st = 0 then enterLoaded s k x else s)

/-! ## The command interface (R312) -/

/-- A write to KNOT_CMD of interface i is taken: BUSY is 0, and KNOT holds the knot ID. -/
def State.knotBusy (s : State) (i : Nat) : Bool := s.bit (R.KNOT_CMD_STATUS i) F.KNOT_CMD_STATUS_BUSY

/-- The command of interface i on knot k ended with a status. -/
def finishKnotCmd (s : State) (i k st : Nat) : State :=
  let r := R.KNOT_CMD_STATUS i
  let x := s.knot k
  setEvent (s.wr r (BitVec.ofNat 32 (st % 256 * 2 ^ 16 + x.state % 16 * 2 ^ 12 + x.gen % 256))) (52 + i)
    (R.KNOT_EVENT i) F.KNOT_EVENT_CMD_DONE

/-- Run a command of interface i on knot k where the interface is free. -/
def knotCmd (i k : Nat) (f : State → State) (s : State) : State :=
  if s.knotBusy i then s else f (s.setF (R.KNOT_CMD i) F.KNOT_CMD_KNOT k)

/-- The entry that KNOT_DATA of interface i holds. -/
def State.knotData (s : State) (i : Nat) : Knot := Knot.ofWords ((List.range 64).map fun w => s.rd (R.KNOT_DATA i w))

/-- OP LOAD. -/
def opKnotLoad (i k : Nat) : State → State := knotCmd i k fun s =>
  let (st, s1) := loadKnot s k (s.knotData i)
  finishKnotCmd s1 i k st

/-- LOAD. -/
def execKnotLoad (i : Fin 8) (k : Fin 16384) (s : State) : Result := .next (opKnotLoad i.val k.val s)

/-- UNLOAD: a FLUSHED knot becomes FREE and keeps its generation (R286). -/
def opKnotUnload (i k : Nat) : State → State := knotCmd i k fun s =>
  if (s.knot k).state = 3 then finishKnotCmd (s.setKnot k { Knot.init with gen := (s.knot k).gen }) i k 0
  else finishKnotCmd s i k 0x10

def execKnotUnload (i : Fin 8) (k : Fin 16384) (s : State) : Result := .next (opKnotUnload i.val k.val s)

/-- READ: the entry into KNOT_DATA; for a FREE knot, its last generation alone (Table 11.20). -/
def opKnotRead (i k : Nat) : State → State := knotCmd i k fun s =>
  let x := s.knot k
  let ws : List Word := if x.state = 0 then [BitVec.ofNat 32 (x.gen * 2 ^ 16)] else x.words
  finishKnotCmd ((List.range 64).foldl (fun s w => s.wr (R.KNOT_DATA i w) (ws.getD w 0)) s) i k 0

/-- KNOT_READ. -/
def execKnotRead (i : Fin 8) (k : Fin 16384) (s : State) : Result := .next (opKnotRead i.val k.val s)

/-- SET_ANCHOR: from KNOT_DATA word 1, for a LOADED knot. -/
def opKnotAnchor (i k : Nat) : State → State := knotCmd i k fun s =>
  if (s.knot k).state = 1 then
    finishKnotCmd (setAnchor s k (s.rd (R.KNOT_DATA i 1)).toNat) i k 0
  else finishKnotCmd s i k 0x10

def execSetAnchor (i : Fin 8) (k : Fin 16384) (s : State) : Result := .next (opKnotAnchor i.val k.val s)

/-! ## Flush (R285, R288) -/

/-- Drop the queued TIMER and FRAME dispatches of a knot with their frames, and its frames that wait for receive cells. -/
def dropKnotQueued (s : State) (e k : Nat) : State :=
  let g := s.eng e
  let isK := fun c => match g.rxAt c with
    | some f => hKnot f.hdr == k
    | none => false
  let waiting := g.rxWait.filter fun id => hKnot (s.frm id).frame.hdr == k
  let gone := g.frameQ.filter isK
  let s1 := s.setEng e { g with timer := g.timer.filter (· != k), frameQ := g.frameQ.filter fun c => !isK c,
                                rx := g.rx.filter fun f => !gone.contains f.cell,
                                rxWait := g.rxWait.filter fun id => !waiting.contains id }
  waiting.foldl discardFrame s1

/-- Give up every sample of a knot (R345). -/
def xchkDropKnot (s : State) (k : Nat) : State :=
  (List.range 128).foldl (fun s q => match (s.eng q).xchk with
    | some x => if x.knot = k then xchkAbandon s q else s
    | none => s) s

/-- Steps 1 and 2 of R285. The home die's own marker needs no link. -/
def startFlush (s : State) (k : Nat) (w : FlushWait) : State :=
  let x := s.knot k
  let e := x.home
  let s1 := s.setKnot k { x with state := 2, timer := none, flush := some ⟨2 ^ (e / 16), x.state, [w]⟩ }
  if x.state = 4 then s1
  else
    let s2 := xchkDropKnot (dropKnotQueued s1 e k) k
    if x.hwGather then s2
    else wakeAsk (s2.updEng e fun g => { g with control := g.control ++ [(k, 2, x.gen)] }) e

/-- Join a flush in progress. -/
def joinFlush (s : State) (k : Nat) (w : FlushWait) : State :=
  s.updKnot k fun x => { x with flush := x.flush.map fun f => { f with waits := f.waits ++ [w] } }

/-- OP FLUSH: BUSY until the flush ends. -/
def opKnotFlush (i k : Nat) : State → State := knotCmd i k fun s =>
  let busy := s.setBit (R.KNOT_CMD_STATUS i) F.KNOT_CMD_STATUS_BUSY
  match (s.knot k).state with
  | 1 | 4 => startFlush busy k ⟨false, i, false, true⟩
  | 2 => joinFlush busy k ⟨false, i, false, true⟩
  | 3 => finishKnotCmd s i k 0
  | _ => finishKnotCmd s i k 0x10

def execKnotCmdFlush (i : Fin 8) (k : Fin 16384) (s : State) : Result := .next (opKnotFlush i.val k.val s)

/-- OP ADVANCE: accepted by a LOADED or ORPHANED knot. -/
def opKnotAdvance (i k : Nat) : State → State := knotCmd i k fun s =>
  match (s.knot k).state with
  | 1 | 4 => startFlush (s.setBit (R.KNOT_CMD_STATUS i) F.KNOT_CMD_STATUS_BUSY) k ⟨false, i, true, true⟩
  | _ => finishKnotCmd s i k 0x10

def execKnotAdvance (i : Fin 8) (k : Fin 16384) (s : State) : Result := .next (opKnotAdvance i.val k.val s)

/-- The frame is a knot's and has not reached the knot's home die. -/
def FrameRec.knotFlight (f : FrameRec) (k : Nat) : Bool :=
  (f.service == 1 || f.service == 2) && !f.arrived && hKnot f.frame.hdr == k

/-- Frames of a knot from a die are on their way to its home die. -/
def State.fromDie (s : State) (k d : Nat) : Bool :=
  s.frames.any fun f => match f.2 with
    | some f => f.knotFlight k && f.inDie == d
    | none => false

/-- DRAIN_MARKER_RECEIVE (step 3 of R285): the last marker of a die arrives behind every frame of the knot that the die had
sent. -/
def doDrainMarker (k d : Nat) (s : State) : State :=
  let x := s.knot k
  if x.state = 2 ∧ !s.fromDie k d then
    s.setKnot k { x with flush := x.flush.map fun f => { f with markers := setMaskBit f.markers d true } }
  else s

def execDrainMarkerReceive (k : Fin 16384) (d : Fin 8) (s : State) : Result := .next (doDrainMarker k.val d.val s)

/-- Frames of a knot sent by an engine and still in the device. -/
def State.knotSends (s : State) (k : Nat) : Bool :=
  s.frames.any fun f => match f.2 with
    | some f => f.origin == .engine && f.txCells != 0 && hKnot f.frame.hdr == k
    | none => false

/-- Hold work of a knot is outstanding. -/
def State.knotHold (s : State) (k : Nat) : Bool :=
  s.hold.ops.any (fun o => o.knot == k) || s.hold.scatters.any (fun x => x.knot == k) ||
    s.hold.gathers.any (fun q => q.2.any fun g => g.knot == k) ||
    s.dies.any (fun d => d.2.holdIn.any fun id => hKnot (s.frm id).frame.hdr == k)

/-- The knot's engine still works for it: a queued or running dispatch. -/
def Engine.worksFor (g : Engine) (k : Nat) : Bool :=
  g.control.any (fun c => c.1 == k) || (match g.disp with
    | some d => d.knot == k
    | none => false)

/-- Step 4 of R285 is done. A flush of an ORPHANED knot does not wait, and one whose home engine has stopped stops waiting for
it; a gather served in hardware needs no engine and waits for its Hold operations alone. -/
def flushReady (s : State) (k : Nat) (x : Knot) (f : Flush) : Bool :=
  f.markers % 256 == 255 &&
    (f.prev == 4 ||
      (if x.hwGather then !s.knotHold k
      else !s.engTakes x.home ||
        (!(s.eng x.home).worksFor k && !s.knotSends k && !s.knotHold k && x.bcast.isNone)))

/-- The frames of a knot that wait at its home die are dropped, and its retained frames released. -/
def dropArrived (s : State) (k e : Nat) : State :=
  let d := e / 16
  let ids := (s.die d).knotIn.filter fun id => hKnot (s.frm id).frame.hdr == k
  let s1 := ids.foldl (fun s id => discardFrame (s.knotCount d 1) id)
    (s.updDie d fun x => { x with knotIn := x.knotIn.filter fun id => !ids.contains id })
  s1.updEng e fun g => { g with rx := g.rx.filter fun f => !(f.retained && hKnot f.hdr == k) }

/-- The engine that R288 chooses for an ORPHANED knot: the home die first, then the dies after it. -/
def newHome (s : State) (k : Nat) (x : Knot) : Option Nat :=
  let image := s.rd (engReg R.ENGINE_IMAGE_ID x.home)
  ((List.range 128).map fun i => (x.home / 16 + i / 16) % 8 * 16 + i % 16).find? fun e =>
    s.engLive e && s.rd (engReg R.ENGINE_IMAGE_ID e) == image && !s.tagClash k x e &&
      (match partition (s.layout e) x.part with
        | some p => decide (x.stateBytes ≤ p.2)
        | none => false)

/-- An entry with its home replaced. -/
def Knot.withHome (x : Knot) (e : Nat) : Knot :=
  x.setWord 1 (BitVec.ofNat 32 ((x.words.getD 1 0).toNat % 2 ^ 24 + e % 128 * 2 ^ 24 + x.get 1 31 31 * 2 ^ 31))

/-- The reload of ADVANCE (R288): status and state. -/
def advanceReload (s : State) (k prev : Nat) : Nat × State :=
  let x := s.knot k
  if prev = 4 then
    match newHome s k x with
    | none => let (w6, s1) := s.drawFree 32
              (0x17, statusToControl s1 k x.lastTc 0x17 w6)
    | some e => loadKnot s k (x.withHome e)
  else loadKnot s k x

/-- Answer one that waited for a flush. -/
def answerFlush (k advSt : Nat) (s : State) (w : FlushWait) : State :=
  let st := if w.advance then advSt else 0
  if w.inband then (if w.answer then statusToControl s k w.at_ st (s.knot k).gen else s)
  else finishKnotCmd s w.at_ k st

/-- KNOT_FLUSH_DONE (R285): the knot enters FLUSHED; an ADVANCE then reloads it, and those that wait are answered. -/
def doFlushDone (k : Nat) (s : State) : State :=
  let x := s.knot k
  match x.flush with
  | none => s
  | some f =>
    if x.state ≠ 2 ∨ !flushReady s k x f then s
    else
      let d := x.home / 16
      let s1 := dropArrived (s.setKnot k { x with state := 3, timer := none, flush := none }) k x.home
      let s2 := (setEvent s1 (52 + d) (R.KNOT_EVENT d) F.KNOT_EVENT_FLUSH_DONE).knotCount d 14
      let (st, s3) := if f.waits.any (·.advance) then advanceReload s2 k f.prev else (0, s2)
      f.waits.foldl (answerFlush k st) s3

def execKnotFlushDone (k : Fin 16384) (s : State) : Result := .next (doFlushDone k.val s)

/-- A CANCEL of a flush before its end returns the knot to the state it held (R285). -/
def cancelFlush (s : State) (k : Nat) : State :=
  s.updKnot k fun x => match x.flush with
    | some f => if x.state = 2 then { x with state := f.prev, flush := none } else x
    | none => x

/-! ## Admission (R289 to R291) -/

/-- The member index of a frame (Table 11.4). -/
def memberIndex (x : Knot) (f : FrameRec) : Option Nat :=
  let h := f.frame.hdr
  let src := hSrc h
  let byAddr :=
    let l := (aLeaf src : Int) - aLeaf x.memberBase
    let e := (src % 1024 : Int) - (x.memberBase % 1024 : Nat)
    let m := (l * 2 ^ x.epBits + e).toNat
    if aPartPod src = aPartPod x.memberBase ∧ 0 ≤ l ∧ 0 ≤ e ∧ e < 2 ^ x.epBits ∧ m < 1024 then some m else none
  let byPort := if f.origin = .port ∧ f.inPort < 128 then some (128 * f.inDie + f.inPort) else none
  match (List.range 16).find? fun k => x.peer k == src && src != 0 with
  | some k => some (1024 + k)
  | none =>
    if src = x.parentAddr ∧ src ≠ 0 then some 1087
    else match (if x.byAddress then byAddr else byPort) with
      | some m => some m
      | none => if hType h = tKnotCtrl ∧ src = x.controlAddr ∧ src ≠ 0 then some 1086 else none

/-- The frame is a KNOT_CTRL from the knot's CONTROL_ADDR. -/
def fromControl (x : Knot) (h : Header) : Bool :=
  hType h == tKnotCtrl && hSrc h == x.controlAddr && x.controlAddr != 0

/-- The frame's type is admitted by the knot's type (Table 11.2), from the sender with index m. -/
def typeAdmitted (x : Knot) (h : Header) (m : Option Nat) : Bool :=
  let t := hType h
  fromControl x h ||
    (match x.type with
      | 1 | 2 | 5 | 6 | 8 => t == tContrib
      | 3 => t == tResult && m == some 1087
      | 4 => t == tKnotCtrl && (h.w5 == 1 || (h.w5 == 2 && m == some 1087))
      | 7 => t == tVote
      | 9 => t == tGatherReq
      | 10 => t == tScatter
      | _ => false)

/-- The frame's sender is a member. -/
def isSender (x : Knot) (h : Header) (m : Option Nat) : Bool :=
  fromControl x h || (match m with
    | some m => decide (1024 ≤ m) || x.isMember m
    | none => false)

/-- Window lanes of a format are 192 bits wide (Table 9.8). -/
def wideFormat (f : Nat) : Bool := f == 0 || f == 8 || f == 10

/-- Bytes of one sparse pair of the knot. -/
def Knot.pairBytes (x : Knot) : Nat :=
  let l := if x.type = 6 then 1 else x.param
  if x.format = 11 then 8 + 2 * l else 8 + 4 * l

/-- The format check of Table 11.5, for types that carry an element format. -/
def formatOk (x : Knot) (h : Header) (m : Option Nat) : Bool :=
  let w := (x.type == 1 || x.type == 2) && (match m with
    | some m => (decide (1024 ≤ m) && decide (m < 1040)) || (x.childWindows && decide (m < 1024))
    | none => false)
  let want := if x.native then 0 else if w then (if wideFormat x.format then 10 else 8) else x.format
  !typeCarriesFormat (hType h) ||
    (hFmt h == want &&
      (match x.type with
        | 5 | 6 => hPlen h % x.pairBytes == 0
        | 8 => hPlen h == 4
        | 9 => decide (hPlen h ≤ 504) && hPlen h % 8 == 0
        | _ => true))

/-- Operation codes of Table 11.6 that the device executes. -/
def isDeviceOp (c : Nat) : Bool := c == 0x10 || c == 0x11 || c == 0x12

/-- Operation codes of Table 11.6. -/
def isKnotOp (c : Nat) : Bool := c == 1 || c == 2 || isDeviceOp c || (decide (0x20 ≤ c) && decide (c ≤ 0x2F))

/-- What admission decides. -/
inductive Admit where
  | drop (i : Nat)
  | inband
  | take (m : Nat)
  deriving DecidableEq, Repr

/-- The checks of Table 11.5 in order, and the in-band operations of R291. -/
def admitKnot (x : Knot) (f : FrameRec) : Admit :=
  let h := f.frame.hdr
  let c := h.w5.toNat
  let m := memberIndex x f
  if x.state ≠ 1 then .drop 1
  else if hType h = tKnotCtrl ∧ (!isKnotOp c || (isDeviceOp c && !fromControl x h)) then .drop 8
  else if hType h = tKnotCtrl ∧ isDeviceOp c then .inband
  else if hGen h ≠ x.gen then .drop 2
  else if aPart (hSrc h) ≠ x.jobPart ∨ hChannel h ≠ x.channel then .drop 3
  else if !typeAdmitted x h m then .drop 4
  else if !isSender x h m then .drop 5
  else if !formatOk x h m then .drop 6
  else .take (m.getD 1086)

/-- Execute an in-band operation (R291). -/
def runInband (s : State) (k : Nat) (h : Header) : State :=
  let wants := hResp h
  if h.w5 = 0x10 then startFlush s k ⟨true, hTc h, false, wants⟩
  else if h.w5 = 0x11 then startFlush s k ⟨true, hTc h, true, wants⟩
  else
    let s1 := setAnchor s k h.w6.toNat
    if wants then statusToControl s1 k (hTc h) 0 (s1.knot k).gen else s1

/-! ## Cross-check: the choice and the claim (R343, R344) -/

/-- h of R343. -/
def xchkHash (k gen seg : Nat) : Nat := crc32c (beBytes k 2 ++ beBytes gen 1 ++ beBytes seg 4)

/-- The segment is sampled; an engine held to its band is sampled whole (Table 13.11). -/
def State.sampled (s : State) (k gen seg e : Nat) : Bool :=
  s.engHeld e || s.bit R.INTEG_CTRL F.INTEG_CTRL_XCHK_EN &&
    xchkHash k gen seg % 2 ^ s.fld R.INTEG_CTRL F.INTEG_CTRL_XCHK_SHIFT == 0

/-- The partners that R344 tries. -/
def xchkPartners (e : Nat) : List Nat := [e / 16 * 16 + (e % 16 ^^^ 8), e / 16 * 16 + (e % 16 ^^^ 4)]

/-- XCHK_CLAIM: the first admitted contribution of a sampled segment claims a partner, or the sample is given up. -/
def xchkClaim (s : State) (k e seg : Nat) : State :=
  let x := s.knot k
  let gen := x.gen
  if !((x.type == 1 || x.type == 2) && !x.native) || !s.sampled k gen seg e || s.xchkDone e k gen seg ||
      (s.partnerOf e k gen fun y => y.seg == seg).isSome then s
  else match (xchkPartners e).find? fun q => s.engLive q && (s.eng q).xchk.isNone with
    | some q => s.updEng q fun g => { g with xchk := some ⟨e, k, gen, seg, [], 0, [], [], none, 0, x.anchor⟩ }
    | none => (s.updEng e fun g => { g with xdone := g.xdone ++ [(k, gen, seg)] }).integCount 10

/-- KNOT_FRAME_ADMIT (R290): the first frame that waits at die d is admitted, executed or dropped. -/
def doKnotFrameAdmit (d : Nat) (s : State) : State :=
  match (s.die d).knotIn with
  | [] => s
  | id :: rest =>
    let f := s.frm id
    let h := f.frame.hdr
    let k := hKnot h
    let x := s.knot k
    let s1 := s.updDie d fun y => { y with knotIn := rest }
    let dk := s.knotDie k d
    match admitKnot x f with
    | .drop i => discardFrame (s1.knotCount dk i) id
    | .inband => runInband (discardFrame (s1.knotCount dk 7) id) k h
    | .take m =>
      let s2 := ((s1.knotCount dk 0).updKnot k fun y => { y with lastTc := hTc h }).updFrm id fun g =>
        { g with member := m }
      if hType h = tGatherReq ∧ x.hwGather then s2.updDie d fun y => { y with holdIn := y.holdIn ++ [id] }
      else
        let s3 := s2.updEng x.home fun g => { g with rxWait := g.rxWait ++ [id] }
        if hType h = tContrib then xchkClaim s3 k x.home h.w5.toNat else s3

def execKnotFrameAdmit (d : Fin 8) (s : State) : Result := .next (doKnotFrameAdmit d.val s)

/-! ## The status of a broadcast (R306) -/

/-- BROADCAST_STATUS: every copy has left or been dropped; the parent is told, and the record clears. -/
def doBroadcastStatus (k : Nat) (s : State) : State :=
  let x := s.knot k
  match x.bcast with
  | none => s
  | some (tc, w6) =>
    if s.knotSends k then s
    else
      let s1 := s.setKnot k { x with bcast := none, missed := 0 }
      if x.parentAddr = 0 then s1
      else if x.missed = 0 then sendStatus s1 k x.parentAddr tc x.gen 0 0 w6 []
      else sendStatus s1 k x.parentAddr tc x.gen 0x10 4 w6 (leBytes x.missed 136)

def execBroadcastStatus (k : Fin 16384) (s : State) : Result := .next (doBroadcastStatus k.val s)

end Sys2Proof.Machine
end

