-- ==== Sys2Proof/Machine/HostRing.lean ====
section
/-! DEFINITION. The command ring and the completion queue (R370 to R373, R375), the commands NOP, INJECT, SUSPEND, RESUME and CANCEL
(R376 to R378), and the end of long operations. -/

namespace Sys2Proof.Machine

/-! ## Entries (R371) -/

/-- Word i of an entry. -/
def Cmd.w (c : Cmd) (i : Nat) : Nat := c.words.getD i 0
def Cmd.tag (c : Cmd) : Nat := c.w 0 % 2 ^ 16
def Cmd.op (c : Cmd) : Nat := c.w 0 / 2 ^ 24
def Cmd.irq (c : Cmd) : Bool := (c.w 0).testBit 16
def Cmd.target (c : Cmd) : Nat := c.w 1 % 2 ^ 16

/-- Words i and i + 1 as an address. -/
def Cmd.w64 (c : Cmd) (i : Nat) : Nat := c.w i + 2 ^ 32 * c.w (i + 1)

/-- Every word from i on is 0. -/
def Cmd.zeroFrom (c : Cmd) (i : Nat) : Bool := (c.words.drop i).all (· == 0)

/-- The bits of word i above bit n - 1 are 0. -/
def Cmd.below (c : Cmd) (i n : Nat) : Bool := decide (c.w i < 2 ^ n)

/-- Unused argument words and the reserved bits of the others are 0, by opcode (Table 14.5). -/
def Cmd.argsClear (c : Cmd) : Bool :=
  match c.op with
  | 0x02 => c.below 4 14 && c.w 5 / 2 ^ 27 % 16 == 0 && c.w 5 / 2 ^ 8 % 2 ^ 16 == 0 && c.zeroFrom 7
  | 0x10 => c.below 2 27 && c.w 2 / 2 ^ 8 % 2 ^ 16 == 0 && c.below 3 8 && c.w 5 == 0 && c.zeroFrom 8
  | 0x11 => c.below 6 1 && c.zeroFrom 7
  | 0x12 => c.below 2 8 && c.zeroFrom 3
  | 0x13 | 0x14 => c.w 6 / 4 % 2 ^ 14 == 0 && c.zeroFrom 7
  | 0x15 => c.below 2 14 && c.zeroFrom 3
  | 0x16 => c.below 5 9 && c.w 5 / 16 % 16 == 0 && c.zeroFrom 6
  | 0x17 => c.zeroFrom 7
  | 0x18 => c.below 3 17 && c.zeroFrom 6
  | _ => c.zeroFrom 2

/-- The opcode is one of Table 14.5. -/
def opDefined (o : Nat) : Bool := o == 1 || o == 2 || (decide (0x10 ≤ o) && decide (o ≤ 0x18)) || o == 0x20 || o == 0x21 || o == 0x22

/-- The opcode is a long operation (R373). -/
def opLong (o : Nat) : Bool := decide (0x10 ≤ o) && decide (o ≤ 0x18)

/-- The opcode names a target. -/
def opTargets (o : Nat) : Bool := o == 0x20 || o == 0x21 || o == 0x22

/-- Reserved fields and unused words of the entry are 0. -/
def Cmd.clean (c : Cmd) : Bool :=
  c.w 0 / 2 ^ 17 % 2 ^ 7 == 0 && c.below 1 16 && (opTargets c.op || c.target == 0) && c.argsClear

/-- Two long operations name the same target (R373). -/
def Cmd.sameTarget (a b : Cmd) : Bool :=
  a.op == b.op && (match a.op with
    | 0x10 => a.w 2 == b.w 2
    | 0x11 => (List.range 4).any fun i => a.w (2 + i) &&& b.w (2 + i) != 0
    | 0x13 | 0x14 => false
    | 0x15 => a.w 2 == b.w 2
    | 0x16 => true
    | _ => false)

/-- Loads and checkpoints that have a die in common. -/
def Cmd.sameDies (a b : Cmd) : Bool :=
  (a.op == 0x13 || a.op == 0x14) && (b.op == 0x13 || b.op == 0x14) && a.w 6 % 4 &&& b.w 6 % 4 != 0

/-! ## Completions (R372, R375) -/

/-- Change the host interface. -/
def State.updHost (s : State) (f : HostIf → HostIf) : State := { s with host := f s.host }

/-- An INTERNAL_ERROR leaves a record against the management processor; its mechanism is open (R373). -/
def fileInternal (s : State) : State :=
  let (m, s1) := s.drawFree 8
  fileRec s1 { LogRec.of 2 m 0xD 10 0 with status := 0x1F }

/-- Queue the completion of a command. -/
def complete (s : State) (c : Cmd) (st w2 w3 : Nat) : State :=
  let x : Cpl := ⟨c.tag, c.op, st, w2 % 2 ^ 32, w3 % 2 ^ 32, c.irq⟩
  let s1 := s.updHost fun h => { h with waiting := h.waiting ++ [x] }
  if st = 0x1F then fileInternal s1 else s1

/-- Slots of the completion queue. -/
def State.cplSize (s : State) : Nat := 2 ^ s.fld R.CPL_RING_CTRL F.CPL_RING_CTRL_SIZE_LOG2

/-- Slots the device may write; none while the queue is not in use. -/
def State.cplFree (s : State) : Nat :=
  if s.bit R.CPL_RING_CTRL F.CPL_RING_CTRL_EN then s.cplSize - s.host.cplOut.length else 0

/-- CPL_FULL: a completion waits for queue space. -/
def State.cplFull (s : State) : Bool := decide (s.cplFree < s.host.waiting.length)

/-- The sixteen bytes of an entry (Table 14.4). -/
def Cpl.bytes (x : Cpl) (phase : Bool) : Bytes :=
  leWords [(if phase then 2 ^ 31 else 0) + x.status % 256 * 2 ^ 16 + x.tag % 2 ^ 16, x.op % 256 * 2 ^ 24, x.w2, x.w3]

/-- COMPLETION_WRITE: the oldest completion that waits is written where a slot is free, and vector 0 follows R375. From that of an FW_UPDATE
the 100 ms to an activation run (R401). -/
def doCompletionWrite (s : State) : State :=
  match s.host.waiting with
  | [] => s
  | x :: rest =>
    if s.cplFree = 0 then s
    else
      let base := s.rd64 R.CPL_RING_BASE R.CPL_RING_BASE_HI / 4096 * 4096
      let t := s.fld R.CPL_RING_TAIL F.CPL_RING_TAIL_INDEX % s.cplSize
      let next := (t + 1) % s.cplSize
      withCause s 0 fun s =>
        let s1 := (s.hostWrite (base + t * 16) (x.bytes s.host.cplPhase)).setF R.CPL_RING_TAIL F.CPL_RING_TAIL_INDEX next
        let s2 := if x.op = 0x16 then { s1 with mgmt := { s1.mgmt with activateAt := s1.pwr.aon + 2500000 } } else s1
        s2.updHost fun h => { h with waiting := rest, cplOut := h.cplOut ++ [x.irq],
                                     cplPhase := if next = 0 then !h.cplPhase else h.cplPhase }

def execCompletionWrite (s : State) : Result := .next (doCompletionWrite s)

/-- A write of CPL_RING_HEAD releases entries. -/
def writeCplHead (v : Word) (s : State) : State :=
  causeWrite s 0 fun s =>
    let r := R.CPL_RING_HEAD
    let n := s.cplSize
    let gone := (v.toNat % 4096 % n + n - s.fld r F.CPL_RING_HEAD_INDEX % n) % n
    (s.setF r F.CPL_RING_HEAD_INDEX (v.toNat % 4096)).updHost fun h => { h with cplOut := h.cplOut.drop gone }

/-- CPL_RING_HEAD_WRITE. -/
def execCplRingHeadWrite (value : Word) (s : State) : Result := .next (writeCplHead value s)

/-! ## The command ring (R370, R389) -/

def writeCmdTail (v : Word) (s : State) : State := s.setF R.CMD_RING_TAIL F.CMD_RING_TAIL_INDEX (v.toNat % 4096)

/-- CMD_RING_TAIL_WRITE. -/
def execCmdRingTailWrite (value : Word) (s : State) : Result := .next (writeCmdTail value s)

/-- A SIZE_LOG2 that a write takes: only 4 to 12, and only while EN is 0. -/
def ringSize (old new : Nat) (en : Bool) : Nat := if en || decide (new < 4) || decide (12 < new) then old else new

/-- A write of CMD_RING_CTRL. -/
def writeCmdCtrl (v : Word) (s : State) : State :=
  let r := R.CMD_RING_CTRL
  let en := s.bit r F.CMD_RING_CTRL_EN
  let size := ringSize (s.fld r F.CMD_RING_CTRL_SIZE_LOG2) (F.CMD_RING_CTRL_SIZE_LOG2.get v) en
  let s1 := (s.setF r F.CMD_RING_CTRL_SIZE_LOG2 size).setF r F.CMD_RING_CTRL_EN (F.CMD_RING_CTRL_EN.get v)
  if !en && F.CMD_RING_CTRL_EN.get v == 1 then
    (s1.setF R.CMD_RING_HEAD F.CMD_RING_HEAD_INDEX 0).setF R.CMD_RING_TAIL F.CMD_RING_TAIL_INDEX 0
  else s1

/-- A write of CPL_RING_CTRL. -/
def writeCplCtrl (v : Word) (s : State) : State :=
  causeWrite s 0 fun s =>
    let r := R.CPL_RING_CTRL
    let en := s.bit r F.CPL_RING_CTRL_EN
    let size := ringSize (s.fld r F.CPL_RING_CTRL_SIZE_LOG2) (F.CPL_RING_CTRL_SIZE_LOG2.get v) en
    let s1 := ((s.setF r F.CPL_RING_CTRL_SIZE_LOG2 size).setF r F.CPL_RING_CTRL_IRQ_THRESH
      (F.CPL_RING_CTRL_IRQ_THRESH.get v)).setF r F.CPL_RING_CTRL_EN (F.CPL_RING_CTRL_EN.get v)
    if !en && F.CPL_RING_CTRL_EN.get v == 1 then
      ((s1.setF R.CPL_RING_HEAD F.CPL_RING_HEAD_INDEX 0).setF R.CPL_RING_TAIL F.CPL_RING_TAIL_INDEX 0).updHost
        fun h => { h with cplOut := [], cplPhase := true }
    else s1

/-- RING_ENABLE_WRITE: of the completion queue, or of the command ring. -/
def execRingEnableWrite (cpl : Bool) (value : Word) (s : State) : Result :=
  .next (if cpl then writeCplCtrl value s else writeCmdCtrl value s)

/-- Entries of the command ring. -/
def State.cmdSize (s : State) : Nat := 2 ^ s.fld R.CMD_RING_CTRL F.CMD_RING_CTRL_SIZE_LOG2

/-- The device may fetch: the ring is in use and not empty, the processor runs, no completion waits for space, and fewer than 32
long operations hold slots (R372, R373, R391). -/
def State.canFetch (s : State) : Bool :=
  s.bit R.CMD_RING_CTRL F.CMD_RING_CTRL_EN &&
    s.fld R.CMD_RING_HEAD F.CMD_RING_HEAD_INDEX % s.cmdSize != s.fld R.CMD_RING_TAIL F.CMD_RING_TAIL_INDEX % s.cmdSize &&
    s.fld R.MGMT_STATUS F.MGMT_STATUS_BOOT_STAGE == 2 && !s.cplFull && decide (s.host.ops.length < 32)

/-- A long operation that no command has worked on. -/
def LongOp.fresh (c : Cmd) : LongOp :=
  { cmd := c, begun := false, committed := false, ended := false, status := 0, w2 := 0, w3 := 0, asked := false,
    paused := false, pos := 0, todo := 0, items := [], data := [] }

/-- The checks of R373 at the fetch of a long operation. -/
def State.longBad (s : State) (c : Cmd) : Bool :=
  !c.clean || s.host.ops.any fun o => o.cmd.tag == c.tag || o.cmd.sameTarget c || o.cmd.sameDies c

/-- A fetched entry takes its place. One with an undefined opcode completes in ring order with the short commands before it. -/
def takeCmd (s : State) (c : Cmd) : State :=
  if opLong c.op then
    if s.longBad c then complete s c 0x10 0 0 else s.updHost fun h => { h with ops := h.ops ++ [LongOp.fresh c] }
  else if opDefined c.op || !s.host.fetched.isEmpty then s.updHost fun h => { h with fetched := h.fetched ++ [c] }
  else complete s c 0x10 0 0

/-- CMD_FETCH: the entry at HEAD is fetched; a PCIe error stops the ring. -/
def doCmdFetch (err : Bool) (s : State) : State :=
  if !s.canFetch then s
  else if err then (s.setF R.CMD_RING_CTRL F.CMD_RING_CTRL_EN 0).setBit R.CMD_EVENT F.CMD_EVENT_FETCH_ERROR
  else
    let h := s.fld R.CMD_RING_HEAD F.CMD_RING_HEAD_INDEX % s.cmdSize
    let base := s.rd64 R.CMD_RING_BASE R.CMD_RING_BASE_HI / 4096 * 4096
    let c : Cmd := ⟨toLeWords 16 (s.hostRead (base + h * 64) 64)⟩
    takeCmd (s.setF R.CMD_RING_HEAD F.CMD_RING_HEAD_INDEX ((h + 1) % s.cmdSize)) c

def execCmdFetch (err : Bool) (s : State) : Result := .next (doCmdFetch err s)

/-! ## Short commands -/

/-- The short commands that stand first are taken from those fetched: entries with undefined opcodes complete. -/
def settleShort : List Cmd → State → State
  | [], s => s.updHost fun h => { h with fetched := [] }
  | c :: rest, s =>
    if opDefined c.op then s.updHost fun h => { h with fetched := c :: rest } else settleShort rest (complete s c 0x10 0 0)

/-- Complete the oldest short command. -/
def finishShort (s : State) (c : Cmd) (st : Nat) : State :=
  settleShort (s.host.fetched.drop 1) (complete s c st 0 0)

/-- Work on the oldest short command where it has the given opcode: an internal failure and an entry that is not clean end it. -/
def shortCmd (op : Nat) (fail : Bool) (f : Cmd → State → State) (s : State) : State :=
  match s.host.fetched with
  | [] => s
  | c :: _ =>
    if c.op ≠ op then s
    else if fail then finishShort s c 0x1F
    else if !c.clean then finishShort s c 0x10
    else f c s

/-- NOP. -/
def execCmdNop (fail : Bool) (s : State) : Result := .next (shortCmd 1 fail (fun c s => finishShort s c 0) s)

/-- The frame that an INJECT names, with header word 7 and the payload CRC written by the device; none where the length does not
match header word 4 (R376). -/
def injectFrame (s : State) (c : Cmd) : Option Frame :=
  let len := c.w 4 % 2 ^ 14
  let b := s.hostRead (c.w64 2) len
  let w := fun i => BitVec.ofNat 32 (beNat ((b.drop (4 * i)).take 4))
  let h : Header := ⟨w 0, w 1, w 2, w 3, w 4, w 5, w 6, 0⟩
  if len < 36 ∨ 9252 < len ∨ len ≠ 36 + hPlen h then none
  else some (mkFrame h ((b.drop 28).take (hPlen h)))

/-- A host's frame in lookup on a die. -/
def injectLookup (s : State) (d : Nat) (f : Frame) : State :=
  let (id, s1) := s.addFrm { FrameRec.init with frame := f, inDie := d, origin := .host, tc := hTc f.hdr, whole := true }
  originate s1 d id

/-- A host's frame in the timed queue of a port. -/
def injectTimed (s : State) (d p l : Nat) (f : Frame) : State :=
  let (id, s1) := s.addFrm { FrameRec.init with frame := f, inDie := d, origin := .host, tc := hTc f.hdr, whole := true,
                                                outDie := d, outPort := p, looked := true, arrived := true }
  s1.updPort d p fun x => { x with timed := x.timed ++ [(id, l)] }

/-- INJECT with TIMED 1: the checks of R112 and R376, in the order retired, quarantined, argument. -/
def injectToPort (c : Cmd) (d p : Nat) (f : Frame) (s : State) : State :=
  if 128 ≤ p ∨ !s.portExists d p then finishShort s c 0x10
  else if s.isRetired 2 d p then finishShort s c 0x17
  else if s.portState d p = 1 then finishShort s c 0x18
  else if 2 ^ 30 ≤ s.ahead (c.w 6) ∧ !s.reached (c.w 6) then finishShort (s.tqCount d p 3) c 0x10
  else if 256 ≤ (s.port d p).timed.length then finishShort s c 0x10
  else finishShort (injectTimed s d p (c.w 6) f) c 0

/-- INJECT. -/
def opInject (c : Cmd) (s : State) : State :=
  let d := c.w 5 / 2 ^ 24 % 8
  match injectFrame s c with
  | none => finishShort s c 0x10
  | some f =>
    if (c.w 5).testBit 31 then injectToPort c d (c.w 5 % 256) f s
    else finishShort (injectLookup s d f) c 0

def execInject (fail : Bool) (s : State) : Result := .next (shortCmd 2 fail opInject s)

/-! ## Long operations: slots, suspension, cancellation (R373, R377, R378) -/

/-- The long operation of a tag. -/
def State.op? (s : State) (tag : Nat) : Option LongOp := s.host.ops.find? fun o => o.cmd.tag == tag

/-- Change the long operation of a tag. -/
def updOp (s : State) (tag : Nat) (f : LongOp → LongOp) : State :=
  s.updHost fun h => { h with ops := h.ops.map fun o => if o.cmd.tag = tag then f o else o }

/-- A long operation ends with a status and RESULT; its completion is queued by LONG_OP_COMPLETE. -/
def endOp (s : State) (tag st w2 w3 : Nat) : State :=
  updOp s tag fun o => { o with ended := true, status := st, w2 := w2, w3 := w3, paused := false, items := [], data := [] }

/-- The operation has a suspend point (Table 14.5). -/
def hasSuspend (op : Nat) : Bool := op == 0x11 || op == 0x12 || op == 0x13 || op == 0x14 || op == 0x16 || op == 0x18

/-- Port of a TEST_STRIP. -/
def stripPort (c : Cmd) : Nat × Nat := (c.w 2 / 2 ^ 24 % 8, c.w 2 % 256)

/-- The operation has passed its commit point: that of TEST_STRIP and KNOT_FLUSH shows in what they work on (R84, R129,
R285). -/
def State.opCommitted (s : State) (o : LongOp) : Bool :=
  o.committed || o.begun && (match o.cmd.op with
    | 0x10 =>
      let (d, p) := stripPort o.cmd
      if p < 128 then o.items.all fun x => (s.lane d x.1).step == 0
      else !s.bit (R.LANYARD_TS_CTRL d p) F.LANYARD_TS_CTRL_ARM && !(s.lan d (p - 128)).strip
    | 0x15 => (s.knot (o.cmd.w 2)).state != 2
    | _ => false)

/-- A lane whose command is cancelled before it sent ADMIT or REJECT sends ABORT and ends its strip with ABORTED; it returns to the state
it held: one that was admitted by fast relock with its stored settings, one that was in a strip or a seek by a new one (R84,
Table 3.5). -/
def cancelLane (d : Nat) (s : State) (x : Nat × Nat) : State :=
  let (n, was) := x
  let l := s.lane d n
  if l.step = 0 then s
  else
    let (ws, s0) := unmeasuredWords (queueCtl s d n (ctlStrip 15 (laneIndex n) 0 0x17 0))
    let s1 := (endStripLane s0 d n (reportWord0 d n l.step 0x17 l.attempt) 0x17 ws).updLane d n fun y => { y with reseek := false }
    if was = lsAdmitted ∨ was = lsRelocking then
      (s1.setLaneState d n lsRelocking).updLane d n fun y => { y with window := true, tries := 0 }
    else if was = lsLaserCheck ∨ was = lsHandshake ∨ was = lsMeasure then startStrip s1 d n
    else if was = lsLocking then stripOrWait s1 d n
    else if was = lsFault then ((ringsParked s1 d n).setLaneState d n was).updLane d n fun y =>
      { y with reseekFails := List.replicate 3 s.cycle }
    else s1.setLaneState d n was

/-- Free the pending rows of a load that ends before its first flip (R332). -/
def freeLoad (s : State) (o : LongOp) : State :=
  o.items.foldl (fun s x =>
    if x.2 = 1 then s
    else
      let m := s.holdDie x.1
      match lookupPending s m x.1 with
      | (.at_ a row, s1) => freeRow (putEntry s1 a ⟨0, 0, false, false⟩) m (shapeOf x.1) row
      | (_, s1) => s1) s

/-- A flush that a CANCEL ends: those that wait for it too are answered CANCELLED (R285). -/
def cancelKnotFlush (s : State) (k : Nat) : State :=
  match (s.knot k).flush with
  | none => s
  | some f =>
    f.waits.foldl (fun s w =>
      if w.inband then (if w.answer then statusToControl s k w.at_ 1 (s.knot k).gen else s)
      else finishKnotCmd s w.at_ k 1) (cancelFlush s k)

/-- Undo what an operation has done before its commit point (R378). -/
def undoOp (s : State) (o : LongOp) : State :=
  if !o.begun then s
  else match o.cmd.op with
    | 0x10 =>
      let (d, p) := stripPort o.cmd
      if p < 128 then o.items.foldl (cancelLane d) s else cancelStrip d (p - 128) s
    | 0x13 => freeLoad s o
    | 0x15 => cancelKnotFlush s (o.cmd.w 2)
    | 0x16 =>
      if o.cmd.w 5 % 16 ≠ 0 then s
      else if s.bit R.MGMT_STATUS F.MGMT_STATUS_SLOT then { s with mgmt := { s.mgmt with flash := { s.mgmt.flash with slotA := [] } } }
      else { s with mgmt := { s.mgmt with flash := { s.mgmt.flash with slotB := [] } } }
    | _ => s

/-- The target of a short command is remembered as completed. -/
def State.opDone (s : State) (tag : Nat) : Bool := s.host.done.elem tag

/-- SUSPEND (R377): its target pauses at the next suspend point, and the SUSPEND waits for that. -/
def opSuspend (c : Cmd) (s : State) : State :=
  match s.op? c.target with
  | none => finishShort s c (if s.opDone c.target then 2 else 0x10)
  | some o =>
    if o.paused then finishShort s c 3
    else if !hasSuspend o.cmd.op then finishShort s c 0x10
    else if o.ended || s.opCommitted o && (o.cmd.op == 0x13 || o.cmd.op == 0x16) then finishShort s c 2
    else updOp s c.target fun o => { o with asked := true }

def execSuspend (fail : Bool) (s : State) : Result := .next (shortCmd 0x20 fail opSuspend s)

/-- RESUME (R377). -/
def opResume (c : Cmd) (s : State) : State :=
  match s.op? c.target with
  | some o =>
    if o.paused then finishShort (updOp s c.target fun o => { o with paused := false }) c 0 else finishShort s c 0x10
  | none => finishShort s c 0x10

def execResume (fail : Bool) (s : State) : Result := .next (shortCmd 0x21 fail opResume s)

/-- CANCEL (R378). Of a SELF_TEST past its commit point the remaining runs stop (R348). -/
def opCancel (c : Cmd) (s : State) : State :=
  match s.op? c.target with
  | none => finishShort s c (if s.opDone c.target then 2 else 0x10)
  | some o =>
    if o.ended then finishShort s c 2
    else if s.opCommitted o then
      finishShort (if o.cmd.op = 0x11 then
        updOp s c.target fun o => { o with todo := 0, ended := true, paused := false, items := [] } else s) c 2
    else finishShort (endOp (undoOp s o) c.target 1 0 0) c 0

def execCancel (fail : Bool) (s : State) : Result := .next (shortCmd 0x22 fail opCancel s)

/-- The SUSPEND that waits for a target completes. -/
def answerSuspend (s : State) (tag st : Nat) : State :=
  match s.host.fetched with
  | c :: _ => if c.op = 0x20 ∧ c.target = tag then finishShort s c st else s
  | [] => s

/-- SUSPEND_POINT_REACHED: the operation that was asked to pauses, and the SUSPEND completes with SUSPENDED. -/
def doSuspendPoint (tag : Nat) (s : State) : State :=
  match s.op? tag with
  | some o =>
    if o.asked && !o.ended then
      answerSuspend (updOp s tag fun o => { o with asked := false, paused := true }) tag 3
    else s
  | none => s

def execSuspendPointReached (tag : BitVec 16) (s : State) : Result := .next (doSuspendPoint tag.toNat s)

/-- LONG_OP_COMPLETE: an operation that has ended, or that fails inside, leaves its slot; its completion is queued and its tag
remembered. A SUSPEND that waited for it gives ALREADY_DONE. -/
def doLongOpComplete (tag : Nat) (internal : Bool) (s : State) : State :=
  match s.op? tag with
  | none => s
  | some o =>
    if !o.ended && !internal then s
    else
      let s0 := if o.ended || s.opCommitted o then s else undoOp s o
      let s1 := s0.updHost fun h => { h with ops := h.ops.filter (fun x => x.cmd.tag != tag),
                                             done := (tag :: h.done).take 64 }
      let s2 := if internal then complete s1 o.cmd 0x1F 0 0 else complete s1 o.cmd o.status o.w2 o.w3
      if o.asked then answerSuspend s2 tag 2 else s2

def execLongOpComplete (tag : BitVec 16) (internal : Bool) (s : State) : Result :=
  .next (doLongOpComplete tag.toNat internal s)

/-- A restart of the management processor ends every long operation that has not passed its commit point with INTERNAL_ERROR
(R379, R391); those past it go on. -/
def restartOps (s : State) : State :=
  s.host.ops.foldl (fun s o =>
    if o.ended || s.opCommitted o then s else endOp (undoOp s o) o.cmd.tag 0x1F 0 0) s

/-! ## MSI-X (R369) -/

/-- A vector's mask is cleared: a cause still pending sends its message. -/
def unmask (v : Nat) (s : State) : State :=
  if s.bit (R.MSIX_CTRL v) F.MSIX_CTRL_MASK then
    let s1 := s.setF (R.MSIX_CTRL v) F.MSIX_CTRL_MASK 0
    if irqPending s1 v then sendMsi s1 v else s1
  else s

/-- MSIX_UNMASK. -/
def execMsixUnmask (v : Fin 64) (s : State) : Result := .next (unmask v.val s)

end Sys2Proof.Machine
end

