-- ==== Sys2Proof/Machine/DevMem.lean ====
section
/-! DEFINITION. The 48-bit device-internal address space (R434): engine memories (R219, R226), the data of the memory-side dies
(R315), reads and writes by BAR2 and DMA. -/

namespace Sys2Proof.Machine

/-- What lies at a device-internal address. -/
inductive DevPlace where
  /-- Nothing. -/
  | empty
  /-- A region of an engine: engine, region (0 state SRAM, 2 instruction memory, 3 packet staging as in Table 13.9, 1 the tag
  sample buffer), offset in it. -/
  | engine (e region off : Nat)
  /-- An engine window outside its regions. -/
  | gap
  /-- A data byte of a memory-side die. -/
  | hold (m : Nat)
  deriving DecidableEq, Repr

/-- Region of an offset in an engine window (Table 9.2). -/
def windowPlace (e o : Nat) : DevPlace :=
  if o < 0x40000 then .engine e 2 o
  else if 0x100000 ≤ o ∧ o < 0x280000 then .engine e 0 (o - 0x100000)
  else if 0x300000 ≤ o ∧ o < 0x320000 then .engine e 3 (o - 0x300000)
  else if 0x380000 ≤ o ∧ o < 0x382000 then .engine e 1 (o - 0x380000)
  else .gap

/-- What lies at a device-internal address (Table 17.6). -/
def devPlace (a : Nat) : DevPlace :=
  if 0x10000000 ≤ a ∧ a < 0x30000000 then windowPlace ((a - 0x10000000) / 0x400000) ((a - 0x10000000) % 0x400000)
  else if holdBase 8 ≤ a ∧ a < holdBase 8 + holdBytes then .hold 8
  else if holdBase 9 ≤ a ∧ a < holdBase 9 + holdBytes then .hold 9
  else .empty

/-- The byte at a device-internal address; 0 where nothing lies. -/
def State.devByte (s : State) (a : Nat) : Byte :=
  match devPlace a with
  | .empty | .gap => 0
  | .engine e r o =>
    if r = 2 then sget (s.eng e).imem o 0
    else if r = 0 then sget (s.eng e).core.sram o 0
    else if r = 3 then sget (s.eng e).core.stage o 0
    else BitVec.ofNat 8 ((s.rd (R.ENGINE_TAG_BUF (e / 16) (e % 16) (o / 32) (o % 32 / 4))).toNat / 2 ^ (o % 4 * 8))
  | .hold _ => sget s.hold.mem a 0

/-- Log what a read's error check found at an address (R226, R316, R342). -/
def devUpset (s : State) (hw : DevHw) : State :=
  match hw with
  | .ok => s
  | .corrected a y =>
    match devPlace a.toNat with
    | .engine e r o => eccCorrected s e r (o / 128) y.toNat
    | .hold m => noteCorrected s m ((a.toNat - holdBase m) / 128)
    | _ => s
  | .uncorrectable a y =>
    match devPlace a.toNat with
    | .engine e r o => fileEngine s e 2 1 0xFF 0 0 0 [r * 65536 + y.toNat, o / 128] r
    | .hold _ =>
      { s with hold := { s.hold with bad := s.hold.bad.filter (· != a.toNat / 128) ++ [a.toNat / 128],
                                     badAddr := s.hold.badAddr.filter (· != a.toNat / 128) } }
    | _ => s

/-- The byte at an address lies in an 8-byte word with an uncorrectable error: the word the read's check names in an engine,
or any word of a bad line of the Hold. -/
def devBad (s : State) (hw : DevHw) (a : Nat) : Bool :=
  match devPlace a with
  | .engine _ _ _ =>
    match hw with
    | .uncorrectable b _ => b.toNat / 8 == a / 8
    | _ => false
  | .hold _ => s.hold.bad.elem (a / 128)
  | _ => false

/-- Report the bad lines of the Hold that a read of n bytes meets (R316). -/
def devReport (s : State) (a n : Nat) : State := (meetBad (meetBad s 8 (max a (holdBase 8)) (min n (a + n - holdBase 8)) 1).2 9
  (max a (holdBase 9)) (min n (a + n - holdBase 9)) 1).2

/-- A read of n bytes of device memory: the bytes, all ones in words with an uncorrectable error, the offset of the first such byte,
and the state with the error logged. The error counts only where the read covers it. -/
def devRead (s : State) (a n : Nat) (hw : DevHw) : Bytes × Option Nat × State :=
  let covers := fun (b : BitVec 48) => decide (a / 8 ≤ b.toNat / 8) && decide (b.toNat / 8 * 8 < a + n)
  let hw := match hw with
    | .ok => DevHw.ok
    | .corrected b y => if covers b then .corrected b y else .ok
    | .uncorrectable b y => if covers b then .uncorrectable b y else .ok
  let s1 := devUpset s hw
  let as := (List.range n).map (a + ·)
  (as.map fun x => if devBad s1 hw x then 0xFF else s.devByte x, (List.range n).find? fun i => devBad s1 hw (a + i),
   devReport s1 a n)

/-- How a write of a byte to device memory fares. -/
inductive DevWrite where
  /-- It is taken. -/
  | taken
  /-- It is ignored: an engine window outside its regions (R219). -/
  | ignored
  /-- It is discarded by an engine that is not HALTED (R226). -/
  | running (e : Nat)
  /-- It is discarded by the Hold (R315). -/
  | holdClosed
  /-- It is not accepted: nothing lies there, or a tag sample buffer. -/
  | refused
  deriving DecidableEq, Repr

/-- The ring region of a memory-side die covers an address (Table 12.1). -/
def State.inHoldRing (s : State) (m a : Nat) : Bool :=
  let b := holdBase m + s.rd64 (R.HOLD_RING_BASE m) (R.HOLD_RING_BASE_HI m)
  decide (b ≤ a) && decide (a < b + (s.rd (R.HOLD_RING_SIZE m)).toNat * 1024)

/-- How a write to an address fares (R219, R226, R315, R434). -/
def State.devWritable (s : State) (a : Nat) : DevWrite :=
  match devPlace a with
  | .empty => .refused
  | .gap => .ignored
  | .engine e r _ => if r = 1 then .refused else if s.engState e = 1 then .taken else .running e
  | .hold m => if !s.bit (R.HOLD_CTRL m) F.HOLD_CTRL_EN || s.inHoldRing m a then .taken else .holdClosed

/-- Store one byte that is taken. -/
def devPoke (s : State) (a : Nat) (b : Byte) : State :=
  match devPlace a with
  | .engine e r o =>
    s.updEng e fun g =>
      if r = 2 then { g with imem := sput g.imem o b 0 }
      else if r = 0 then { g with core := { g.core with sram := sput g.core.sram o b 0 } }
      else { g with core := { g.core with stage := sput g.core.stage o b 0 } }
  | .hold _ => { s with hold := { s.hold with mem := sput s.hold.mem a b 0 } }
  | _ => s

/-- Lines of the Hold that a write of n bytes at a replaces whole lose their error (R316). -/
def mendLines (s : State) (a n : Nat) : State :=
  mendBad s fun l => decide (a ≤ l * 128) && decide (l * 128 + 128 ≤ a + n) && s.devWritable (l * 128) == .taken

/-- Store the bytes of a write that are taken. -/
def devStore : Bytes → Nat → State → State
  | [], _, s => s
  | b :: bs, a, s => devStore bs (a + 1) (if s.devWritable a = .taken then devPoke s a b else s)

/-- Whether some byte of n at a fares as p says. -/
def State.devAny (s : State) (a n : Nat) (p : DevWrite → Bool) : Bool := (List.range n).any fun i => p (s.devWritable (a + i))

/-- Engines whose memories a write of n bytes at a reaches while they are not HALTED. -/
def State.devRunning (s : State) (a n : Nat) : List Nat :=
  ((List.range n).filterMap fun i => match s.devWritable (a + i) with
    | .running e => some e
    | _ => none).dedup

/-- The engines that refused a write say so (R226). -/
def noteRefused (s : State) (es : List Nat) : State := es.foldl (fun s e => engEvent s e F.ENGINE_EVENT_HOST_WRITE_REFUSED) s

/-- A write to device memory: each byte as its address says. -/
def devWrite (s : State) (a : Nat) (b : Bytes) : State :=
  noteRefused (mendLines (devStore b a s) a b.length) (s.devRunning a b.length)

end Sys2Proof.Machine
end

