-- ==== Sys2Proof/Machine/Observe.lean ====
section
/-! DEFINITION. The contact-sheet ring (R210) and exposures of counter sets (R211, R212). -/

namespace Sys2Proof.Machine

/-! ## Contact sheet ring (R210) -/

/-- Records written and not consumed. -/
def State.csPending (s : State) : Nat := (s.rd R.CS_RING_PROD - s.rd R.CS_RING_CONS).toNat

/-- Ring size in records. -/
def State.csSize (s : State) : Nat := 2 ^ s.fld R.CS_RING_CTRL F.CS_RING_CTRL_SIZE_LOG2

/-- Write a record to the slot at PROD and advance PROD. -/
def csPut (s : State) (rec : Bytes) : State :=
  let base := s.rd64 R.CS_RING_BASE R.CS_RING_BASE_HI / 4096 * 4096
  let a := base + (s.rd R.CS_RING_PROD).toNat % s.csSize * 144
  withCause s 34 fun s =>
    let s1 := if s.bit R.CS_RING_CTRL F.CS_RING_CTRL_DEST then devWrite s a rec else s.hostWrite a rec
    s1.wr R.CS_RING_PROD (s1.rd R.CS_RING_PROD + 1)

/-- CS_RECORD_WRITE: the oldest record of a die's buffer goes to the ring, or is lost where the ring is full in STOP mode. While
the ring is not in use the records wait. -/
def doCsRecordWrite (d : Nat) (s : State) : State :=
  match (s.die d).csBuf with
  | [] => s
  | (p, rec) :: rest =>
    if !s.bit R.CS_RING_CTRL F.CS_RING_CTRL_EN then s
    else
      let s1 := s.updDie d fun x => { x with csBuf := rest }
      if s.csPending = s.csSize ∧ !s.bit R.CS_RING_CTRL F.CS_RING_CTRL_MODE then csLost s1 d p else csPut s1 rec

def execCsRecordWrite (d : Fin 8) (s : State) : Result := .next (doCsRecordWrite d.val s)

/-! ## Exposures (R211, R212) -/

/-- Counters of a set of Table 8.6, in order. -/
def exposureSet (d n : Nat) : List RegRef :=
  match n with
  | 0 => (List.range 130).flatMap fun p =>
      (List.range 16).map (R.YFP_COUNT d p) ++ (List.range 16).map (R.CORE_COUNT d p) ++
      (List.range 16).map (R.TM_COUNT d p) ++ (List.range 4).map (R.TQ_COUNT d p)
  | 1 => (List.range 16).flatMap fun ll => (List.range 16).map (R.LOOKUP_COUNT d ll)
  | 2 => (List.range 2).flatMap fun lp => (List.range 16).map (R.LANYARD_COUNT d (128 + lp))
  | 3 => (List.range 8704).flatMap fun i => (List.range 3).map (R.POLICER_COUNT d i)
  | 4 => (List.range 2).flatMap fun j => (List.range 72).flatMap fun k => (List.range 8).map (R.LANE_COUNT (2 * d + j) k)
  | _ => []

/-- Counters of the sets a mask selects, in ascending set number. -/
def exposureRegs (d sets : Nat) : List RegRef := (maskBits sets 5).flatMap (exposureSet d)

/-- The image of an exposure: header and sets (R212). -/
def exposureImage (s : State) (d sets seq : Nat) : Bytes :=
  leWords ([d * 2 ^ 24 + sets * 2 ^ 16 + seq % 65536, s.now, s.wraps, s.fld R.TIME_STATUS F.TIME_STATUS_STATE, 0, 0, 0, 0] ++
    (exposureRegs d sets).map fun r => (s.rd r).toNat)

/-- Capture the selected sets in one cycle; the live counters are zeroed with CLEAR (R211). -/
def captureNow (s : State) (d : Nat) : State :=
  let c := R.EXPOSURE_CTRL d
  let sets := s.fld c F.EXPOSURE_CTRL_SETS
  let seq := (s.fld (R.EXPOSURE_STATUS d) F.EXPOSURE_STATUS_SEQ + 1) % 65536
  let img := exposureImage s d sets seq
  let s1 := if s.bit c F.EXPOSURE_CTRL_CLEAR then (exposureRegs d sets).foldl (fun s r => s.wr r 0) s else s
  (s1.setF (R.EXPOSURE_STATUS d) F.EXPOSURE_STATUS_SEQ seq).updDie d fun x => { x with expo := ⟨none, some img⟩ }

/-- DEST, CLEAR and SETS of a write to EXPOSURE_CTRL. -/
def writeExposure (s : State) (d : Nat) (v : Word) : State := s.wr (R.EXPOSURE_CTRL d) (v &&& 0x19F#32)

/-- The OP is refused. -/
def refuseExposure (s : State) (d : Nat) : State := s.setBit (R.EXPOSURE_STATUS d) F.EXPOSURE_STATUS_REFUSED

/-- Begin an exposure unless one is BUSY. -/
def beginExposure (s : State) (d : Nat) (f : State → State) : State :=
  let st := R.EXPOSURE_STATUS d
  if s.bit st F.EXPOSURE_STATUS_BUSY then refuseExposure s d else f s

/-- OP NOW. -/
def opExposeNow (d : Nat) (v : Word) (s : State) : State :=
  beginExposure (writeExposure s d v) d fun s => captureNow (s.setBit (R.EXPOSURE_STATUS d) F.EXPOSURE_STATUS_BUSY) d

def execExposureNow (d : Fin 8) (value : Word) (s : State) : Result := .next (opExposeNow d.val value s)

/-- OP AT: T must lie at least 1 µs and less than 2^30 ns ahead. -/
def opExposeAt (d : Nat) (v : Word) (s : State) : State :=
  beginExposure (writeExposure s d v) d fun s =>
    let t := (s.rd (R.EXPOSURE_TIME d)).toNat
    if 1000 ≤ s.ahead t ∧ s.ahead t < 2 ^ 30 then
      (s.setBit (R.EXPOSURE_STATUS d) F.EXPOSURE_STATUS_BUSY).updDie d fun x => { x with expo := ⟨some t, none⟩ }
    else refuseExposure s d

def execExposureAt (d : Fin 8) (value : Word) (s : State) : Result := .next (opExposeAt d.val value s)

/-- EXPOSURE_CAPTURE: the stated time is reached. -/
def doExposureCapture (d : Nat) (s : State) : State :=
  match (s.die d).expo.sched with
  | some t => if s.reached t then captureNow s d else s
  | none => s

def execExposureCapture (d : Fin 8) (s : State) : Result := .next (doExposureCapture d.val s)

/-- EXPOSURE_WRITE_DONE: the captured image is written, and DONE is set. -/
def doExposureWriteDone (d : Nat) (s : State) : State :=
  match (s.die d).expo.image with
  | none => s
  | some img =>
    let a := s.rd64 (R.EXPOSURE_ADDR d) (R.EXPOSURE_ADDR_HI d) / 64 * 64
    let s1 := s.updDie d fun x => { x with expo := ⟨none, none⟩ }
    let s2 := if s1.bit (R.EXPOSURE_CTRL d) F.EXPOSURE_CTRL_DEST then devWrite s1 a img else s1.hostWrite a img
    let s3 := s2.setF (R.EXPOSURE_STATUS d) F.EXPOSURE_STATUS_BUSY 0
    setEvent s3 (35 + d) (R.EXPOSURE_STATUS d) F.EXPOSURE_STATUS_DONE

def execExposureWriteDone (d : Fin 8) (s : State) : Result := .next (doExposureWriteDone d.val s)

end Sys2Proof.Machine
end

