-- ==== Sys2Proof/Machine/Dma.lean ====
section
/-! DEFINITION. BAR2 accesses (R367, R433) and the DMA channels (R380 to R387). -/

namespace Sys2Proof.Machine

/-! ## BAR2 -/

/-- Device-internal address of a BAR2 offset. -/
def State.bar2Addr (s : State) (o : Nat) : Nat := s.fld R.BAR2_WINDOW F.BAR2_WINDOW_BASE * 2 ^ 32 + o

/-- Count one in a field that saturates. -/
def State.countF (s : State) (r : RegRef) (f : Fld) : State := s.setF r f (min f.ones (s.fld r f + 1))

/-- BAR2_READ: the bytes are returned. -/
def execBar2Read (o : Word) (len : Fin 513) (hw : DevHw) (s : State) : Result :=
  let (b, _, s1) := devRead s (s.bar2Addr o.toNat) len.val hw
  .next (s1.emit (.readBytes b))

/-- BAR2_WRITE: a request with a byte that nothing accepts counts once. -/
def execBar2Write (o : Word) (data : Bytes) (s : State) : Result :=
  let a := s.bar2Addr o.toNat
  let bad := s.devAny a data.length (· == .refused)
  let s1 := devWrite s a data
  .next (if bad then s1.countF R.HOST_BAD_ACCESS F.HOST_BAD_ACCESS_BAR2 else s1)

/-- A write of BAR2_WINDOW. -/
def writeWindow (v : Word) (s : State) : State := s.setF R.BAR2_WINDOW F.BAR2_WINDOW_BASE (F.BAR2_WINDOW_BASE.get v)

/-- BAR2_WINDOW_WRITE. -/
def execBar2WindowWrite (value : Word) (s : State) : Result := .next (writeWindow value s)

/-! ## Channels -/

def State.ch (s : State) (c : Nat) : DmaCh := sget s.host.dma c DmaCh.init
def State.updCh (s : State) (c : Nat) (f : DmaCh → DmaCh) : State :=
  s.updHost fun h => { h with dma := sput h.dma c (f (s.ch c)) DmaCh.init }

/-- Descriptors of the ring, and completion records of the queue, in the active set. -/
def DmaSet.ringSize (a : DmaSet) : Nat := 2 ^ F.DMA_CH_RING_CFG_RING_SIZE_LOG2.get a.cfg
def DmaSet.cplSize (a : DmaSet) : Nat := 2 ^ F.DMA_CH_RING_CFG_CPL_SIZE_LOG2.get a.cfg

/-- The ring lies in device memory. -/
def DmaSet.inDevice (a : DmaSet) : Bool := F.DMA_CH_RING_CFG_RING_SPACE.get a.cfg == 1

/-- The channel stands at no descriptor. -/
def State.dmaIdle (s : State) (c : Nat) : Bool := (s.ch c).run.isNone

/-- A write of DMA_CH_TAIL: a channel that waits for a descriptor it does not own fetches it again. -/
def writeDmaTail (c : Nat) (v : Word) (s : State) : State :=
  (s.setF (R.DMA_CH_TAIL c) F.DMA_CH_TAIL_INDEX (v.toNat % 2 ^ 16)).updCh c fun x => { x with parked := false }

/-- DMA_CH_TAIL_WRITE. -/
def execDmaChTailWrite (c : Fin 32) (value : Word) (s : State) : Result := .next (writeDmaTail c.val value s)

/-- A write of DMA_CH_CTRL: RUN 1 starts a channel that is stopped or in error, RUN 0 stops one at its boundary. -/
def writeDmaCtrl (c : Nat) (v : Word) (s : State) : State :=
  let r := R.DMA_CH_CTRL c
  causeWrite s (c + 1) fun s =>
    let s1 := (s.setF r F.DMA_CH_CTRL_RUN (F.DMA_CH_CTRL_RUN.get v)).setF r F.DMA_CH_CTRL_IRQ_EN (F.DMA_CH_CTRL_IRQ_EN.get v)
    let w := F.DMA_CH_CTRL_WEIGHT.get v
    let s2 := if w = 0 then s1 else s1.setF r F.DMA_CH_CTRL_WEIGHT w
    let st := R.DMA_CH_STATUS c
    if s.dmaState c = 4 ∨ !s.dmaIdle c then s2
    else if F.DMA_CH_CTRL_RUN.get v = 1 then
      (if s.dmaState c = 0 ∨ s.dmaState c = 3 then s2.setF st F.DMA_CH_STATUS_STATE 1 else s2)
    else s2.setF st F.DMA_CH_STATUS_STATE 0

/-- DMA_RUN_WRITE. -/
def execDmaRunWrite (c : Fin 32) (value : Word) (s : State) : Result := .next (writeDmaCtrl c.val value s)

/-! ## Descriptors (R380 to R385) -/

/-- A descriptor (Table 14.6). -/
structure DmaDesc where
  src : Nat
  dst : Nat
  len : Nat
  w5 : Nat

def DmaDesc.own (d : DmaDesc) : Bool := d.w5.testBit 31
def DmaDesc.irq (d : DmaDesc) : Bool := d.w5.testBit 30
def DmaDesc.srcDev (d : DmaDesc) : Bool := d.w5.testBit 29
def DmaDesc.dstDev (d : DmaDesc) : Bool := d.w5.testBit 28
def DmaDesc.srcFix (d : DmaDesc) : Bool := d.w5.testBit 27
def DmaDesc.dstFix (d : DmaDesc) : Bool := d.w5.testBit 26
def DmaDesc.swap (d : DmaDesc) : Nat := d.w5 / 2 ^ 24 % 4
def DmaDesc.width (d : DmaDesc) : Nat := 2 ^ (d.w5 / 2 ^ 22 % 4)

/-- Bytes of a swap group. -/
def swapGroup (sw : Nat) : Nat := if sw = 0 then 1 else if sw = 1 then 2 else 4

/-- Swap one group (Table 14.7). -/
def swapOne (sw : Nat) (b : Bytes) : Bytes :=
  match sw, b with
  | 1, [a, b] => [b, a]
  | 2, [a, b, c, d] => [c, d, a, b]
  | 3, [a, b, c, d] => [d, c, b, a]
  | _, b => b

/-- Swap n groups. -/
def swapGroups (sw : Nat) : Nat → Bytes → Bytes
  | 0, _ => []
  | n + 1, b => swapOne sw (b.take (swapGroup sw)) ++ swapGroups sw n (b.drop (swapGroup sw))

/-- Bytes that one side spans: LENGTH, or FIXED_WIDTH for a fixed side. -/
def DmaDesc.span (d : DmaDesc) (fixed : Bool) : Nat := if fixed then d.width else d.len

/-- A fixed side breaks a rule of R382 or R383. -/
def DmaDesc.fixBad (d : DmaDesc) (fixed : Bool) (a : Nat) : Bool :=
  fixed && (a % d.width != 0 || d.len % d.width != 0 || decide (d.width < swapGroup d.swap))

/-- The descriptor breaks an alignment, width, swap or space rule, or lies outside 48 bits on a device side. -/
def DmaDesc.bad (d : DmaDesc) : Bool :=
  d.len % swapGroup d.swap != 0 || d.fixBad d.srcFix d.src || d.fixBad d.dstFix d.dst ||
    (d.srcDev && decide (2 ^ 48 < d.src + d.span d.srcFix)) || (d.dstDev && decide (2 ^ 48 < d.dst + d.span d.dstFix))

/-- The destination refuses a byte (R226, R315, R434). -/
def dstRefused (w : DevWrite) : Bool :=
  match w with
  | .taken | .ignored => false
  | .running _ | .holdClosed | .refused => true

/-- The descriptor that is in execution. -/
def DmaRun.desc (r : DmaRun) : DmaDesc := ⟨r.src, r.dst, r.len, r.word5⟩

/-- Where a side's access to byte k of the transfer begins. -/
def DmaDesc.at_ (fixed : Bool) (a k : Nat) : Nat := if fixed then a else a + k

/-- Read n bytes of the stream from byte k on: the bytes, where the first bad byte stands, the state with the error logged. -/
def dmaRead (s : State) (d : DmaDesc) (k n : Nat) (hw : DevHw) : Bytes × Option Nat × State :=
  let a := DmaDesc.at_ d.srcFix d.src k
  let m := if d.srcFix then d.width else n
  let (b, bad, s1) := if d.srcDev then devRead s a m hw else (s.hostRead a m, none, s)
  (if d.srcFix then (List.replicate (n / d.width) b).flatten else b, bad, s1)

/-- Write bytes of the stream to the destination from byte k on; a fixed one keeps the last access. -/
def dmaWrite (s : State) (d : DmaDesc) (k : Nat) (b : Bytes) : State :=
  let a := DmaDesc.at_ d.dstFix d.dst k
  let put := fun (s : State) (b : Bytes) => if d.dstDev then devWrite s a b else s.hostWrite a b
  if b.isEmpty then s
  else if d.dstFix then put s (b.drop (b.length - d.width)) else put s b

/-- First byte of n, from byte k of the transfer on, that the destination refuses. -/
def dmaRefused (s : State) (d : DmaDesc) (k n : Nat) : Option Nat :=
  if !d.dstDev then none
  else if d.dstFix then (if s.devAny d.dst d.width dstRefused then some 0 else none)
  else (List.range n).find? fun i => dstRefused (s.devWritable (d.dst + k + i))

/-- Where a stretch of n bytes ends early, and with which status: a destination that refuses a byte, an uncorrectable error in the source,
or a PCIe error after some bytes (Table 14.8). -/
def dmaStop (refused bad : Option Nat) (pcie : Option Word) : Option (Nat × Nat) :=
  let err := match bad, pcie with
    | some k, some m => some (min k m.toNat)
    | some k, none => some k
    | none, some m => some m.toNat
    | none, none => none
  match refused, err with
  | none, none => none
  | some k, none => some (k, 0x10)
  | none, some k => some (k, 0x1F)
  | some j, some k => if j ≤ k then some (j, 0x10) else some (k, 0x1F)

/-- Move n bytes of a descriptor in execution, or those before the error that ends it. -/
def dmaMove (c n : Nat) (hw : DevHw) (pcie : Option Word) (r : DmaRun) (s : State) : State :=
  let d := r.desc
  let (b, bad, s1) := dmaRead s d r.written n hw
  let refused := dmaRefused s1 d r.written n
  let sw := swapGroups d.swap (n / swapGroup d.swap) b
  let g := max (swapGroup d.swap) (if d.dstFix then d.width else 1)
  let (m, r1) := match dmaStop refused bad (if d.srcDev && d.dstDev then none else pcie) with
    | none => (n, { r with written := r.written + n, through := r.written + n == r.len })
    | some (k, st) =>
      let m := min k (n - 1) / g * g
      (m, { r with written := r.written + m, through := true, status := st })
  let s2 := if refused.isSome then noteRefused s1 (s1.devRunning (DmaDesc.at_ d.dstFix d.dst r.written) (if d.dstFix then d.width else n)) else s1
  let s3 := dmaWrite s2 d r.written (sw.take m)
  (s3.updHost fun h => { h with dmaHeld := h.dmaHeld + m }).updCh c fun x => { x with run := some r1 }

/-- The descriptor as it begins: through at once where its channel is retired, it moves nothing, it breaks a rule, or the destination's
check before the first write refuses it (R385). -/
def dmaBegin (retired : Bool) (idx : Nat) (d : DmaDesc) (s : State) : DmaRun × State :=
  let r : DmaRun := ⟨idx, d.src, d.dst, d.len, d.w5, 0, true, 0⟩
  let n := d.span d.dstFix
  if retired then ({ r with status := 0x17 }, s)
  else if d.len = 0 then (r, s)
  else if d.bad then ({ r with status := 0x10 }, s)
  else if d.dstDev && s.devAny d.dst n dstRefused then ({ r with status := 0x10 }, noteRefused s (s.devRunning d.dst n))
  else ({ r with through := false }, s)

/-- Address of the channel's descriptor at HEAD. -/
def State.dmaAt (s : State) (c : Nat) : Nat :=
  (s.ch c).act.ring / 4096 * 4096 + s.fld (R.DMA_CH_STATUS c) F.DMA_CH_STATUS_HEAD % (s.ch c).act.ringSize * 32

/-- Read bytes of the ring. -/
def State.ringBytes (s : State) (c a n : Nat) : Bytes :=
  if (s.ch c).act.inDevice then (List.range n).map fun i => s.devByte (a + i) else s.hostRead a n

/-- The descriptor at an address. -/
def State.descAt (s : State) (c a : Nat) : DmaDesc :=
  let b := s.ringBytes c a 32
  ⟨leNat (b.take 8), leNat ((b.drop 8).take 8), leNat ((b.drop 16).take 4), leNat ((b.drop 20).take 4)⟩

/-- The channel may fetch: RUN is 1, it is idle or retired, HEAD is not TAIL, it waits for nothing, and it is not paused in a
band it is suspect in (R381, Table 13.11). -/
def State.dmaReady (s : State) (c : Nat) : Bool :=
  let n := (s.ch c).act.ringSize
  s.bit (R.DMA_CH_CTRL c) F.DMA_CH_CTRL_RUN && (s.dmaState c == 1 || s.dmaState c == 4) && s.dmaIdle c &&
    !(s.ch c).parked && !s.bandHeld 6 10 c &&
    s.fld (R.DMA_CH_STATUS c) F.DMA_CH_STATUS_HEAD % n != s.fld (R.DMA_CH_TAIL c) F.DMA_CH_TAIL_INDEX % n

/-- The channel has work for the DMA engine: data of a descriptor still to move, or a descriptor to fetch. -/
def State.dmaWork (s : State) (c : Nat) : Bool :=
  match (s.ch c).run with
  | some r => !r.through
  | none => s.dmaReady c

/-- Bytes that a turn of a channel may move: WEIGHT × 4 KiB, at most 64 KiB while another channel has work (R386). -/
def State.dmaLimit (s : State) (c : Nat) : Nat :=
  let w := s.fld (R.DMA_CH_CTRL c) F.DMA_CH_CTRL_WEIGHT * 4096
  if (List.range 32).any fun k => k != c && s.dmaWork k then min w 65536 else w

/-- Bytes left of a turn in which `held` are moved, in whole accesses of 8. -/
def State.dmaLeft (s : State) (c held : Nat) : Nat := (s.dmaLimit c - held) / 8 * 8

/-- Whose turn of the engine it is, and the bytes moved in it (R386): the channel that has it keeps it while it has work and bytes are
left; then the next channel with work, in ring order, begins a turn. -/
def State.dmaTurnOf (s : State) : Option (Nat × Nat) :=
  let t := s.host.dmaTurn
  if s.dmaWork t && s.dmaLeft t s.host.dmaHeld != 0 then some (t, s.host.dmaHeld)
  else (((List.range 32).map fun i => (t + 1 + i) % 32).find? s.dmaWork).map fun c => (c, 0)

/-- The channel in turn moves data of its descriptor, as far as the turn lets it. -/
def dmaServe (c : Nat) (hw : DevHw) (pcie : Option Word) (s : State) : State :=
  match (s.ch c).run with
  | none => s
  | some r =>
    if r.through then s else dmaMove c (min (r.len - r.written) (s.dmaLeft c s.host.dmaHeld)) hw pcie r s

/-- The channel in turn fetches the descriptor at HEAD and, where the device owns it, begins it. -/
def dmaFetch (c : Nat) (s : State) : State :=
  let d := s.descAt c (s.dmaAt c)
  if !d.own then s.updCh c fun x => { x with parked := true }
  else
    let retired := s.dmaState c == 4
    let (r, s1) := dmaBegin retired (s.fld (R.DMA_CH_STATUS c) F.DMA_CH_STATUS_HEAD) d s
    (if retired then s1 else setDmaState s1 c 2).updCh c fun x => { x with run := some r }

/-- DMA_DESC_FETCH: where it is the channel's turn of the engine, it fetches a descriptor unless one is in execution, and moves data of
it up to the end of the turn; the rest follows in later turns. -/
def doDmaFetch (c : Nat) (hw : DevHw) (pcie : Option Word) (s : State) : State :=
  match s.dmaTurnOf with
  | none => s
  | some (t, held) =>
    if t ≠ c then s
    else
      let s1 := s.updHost fun h => { h with dmaTurn := c, dmaHeld := held }
      dmaServe c hw pcie (if s.dmaIdle c then dmaFetch c s1 else s1)

def execDmaDescFetch (c : Fin 32) (hw : DevHw) (pcieErr : Option Word) (s : State) : Result :=
  .next (doDmaFetch c.val hw pcieErr s)

/-- The completion record of a descriptor (R384). -/
def dmaRecord (s : State) (c : Nat) (r : DmaRun) : Bytes :=
  leWords [(if (s.ch c).phase then 2 ^ 31 else 0) + r.status * 2 ^ 16 + r.word5 % 2 ^ 16, c * 2 ^ 16 + r.idx % 2 ^ 16, r.written, s.now]

/-- Write OWN back, append the record, advance HEAD. -/
def dmaWriteBack (s : State) (c : Nat) (r : DmaRun) : State :=
  let a := s.dmaAt c + 20
  let x := s.ch c
  let w5 := leBytes (r.word5 % 2 ^ 31) 4
  let s1 := if x.act.inDevice then devWrite s a w5 else s.hostWrite a w5
  let i := R.DMA_CH_CPL_INDEX c
  let t := s1.fld i F.DMA_CH_CPL_INDEX_TAIL % x.act.cplSize
  let next := (t + 1) % x.act.cplSize
  let s2 := (s1.hostWrite (x.act.cpl / 4096 * 4096 + t * 16) (dmaRecord s1 c r)).setF i F.DMA_CH_CPL_INDEX_TAIL next
  let s3 := s2.setF (R.DMA_CH_STATUS c) F.DMA_CH_STATUS_HEAD ((r.idx + 1) % x.act.ringSize)
  s3.updCh c fun x => { x with run := none, used := x.used + 1, phase := if next = 0 then !x.phase else x.phase }

/-- State of the channel after a descriptor: RETIRED stays, a failure is ERROR, STOP or RUN 0 stop it. -/
def dmaAfter (s : State) (c : Nat) (r : DmaRun) : State :=
  let ctrl := R.DMA_CH_CTRL c
  let set := fun (s : State) n => s.setF (R.DMA_CH_STATUS c) F.DMA_CH_STATUS_STATE n
  if s.dmaState c = 4 then s
  else if r.status ≠ 0 then set s 3
  else if r.word5.testBit 21 then set (s.setF ctrl F.DMA_CH_CTRL_RUN 0) 0
  else set s (if s.bit ctrl F.DMA_CH_CTRL_RUN then 1 else 0)

/-- DMA_DESC_COMPLETE: a descriptor whose data is through finishes; a channel whose completion queue is full waits. -/
def doDmaComplete (c : Nat) (s : State) : State :=
  match (s.ch c).run with
  | none => s
  | some r =>
    if !r.through || decide ((s.ch c).act.cplSize ≤ (s.ch c).used) then s
    else
      let s1 := (dmaWriteBack s c r).setF (R.DMA_CH_STATUS c) F.DMA_CH_STATUS_LAST_STATUS r.status
      withCause s1 (c + 1) fun s =>
        let s2 := if r.word5.testBit 30 then s.setBit (R.DMA_CH_STATUS c) F.DMA_CH_STATUS_DONE else s
        dmaAfter s2 c r

def execDmaDescComplete (c : Fin 32) (s : State) : Result := .next (doDmaComplete c.val s)

/-- A write of DMA_CH_CPL_INDEX releases completion records. -/
def writeDmaCpl (c : Nat) (v : Word) (s : State) : State :=
  let i := R.DMA_CH_CPL_INDEX c
  let n := (s.ch c).act.cplSize
  let gone := (v.toNat % 2 ^ 16 % n + n - s.fld i F.DMA_CH_CPL_INDEX_HEAD % n) % n
  (s.setF i F.DMA_CH_CPL_INDEX_HEAD (v.toNat % 2 ^ 16)).updCh c fun x => { x with used := x.used - gone }

/-! ## Shadow registers (R387) -/

/-- Arm the shadow set. -/
def armShadow (c : Nat) (s : State) : State :=
  (s.setBit (R.DMA_CH_SHADOW_CTRL c) F.DMA_CH_SHADOW_CTRL_ARM).setBit (R.DMA_CH_STATUS c) F.DMA_CH_STATUS_SHADOW_PENDING

/-- DMA_SHADOW_ARM. -/
def execDmaShadowArm (c : Fin 32) (s : State) : Result := .next (armShadow c.val s)

/-- A size that a write to DMA_CH_RING_CFG takes: 4 to 16. -/
def dmaSize (old new : Nat) : Nat := if new < 4 ∨ 16 < new then old else new

/-- A write of DMA_CH_RING_CFG, into the shadow. -/
def writeDmaCfg (c : Nat) (v : Word) (s : State) : State :=
  let r := R.DMA_CH_RING_CFG c
  let f := F.DMA_CH_RING_CFG_CPL_SIZE_LOG2
  let g := F.DMA_CH_RING_CFG_RING_SIZE_LOG2
  ((s.setF r F.DMA_CH_RING_CFG_RING_SPACE (F.DMA_CH_RING_CFG_RING_SPACE.get v)).setF r f (dmaSize (s.fld r f) (f.get v))).setF r g
    (dmaSize (s.fld r g) (g.get v))

/-- The settings that the shadow registers hold. -/
def State.shadowSet (s : State) (c : Nat) : DmaSet :=
  ⟨s.rd64 (R.DMA_CH_RING_BASE c) (R.DMA_CH_RING_BASE_HI c), s.rd64 (R.DMA_CH_CPL_BASE c) (R.DMA_CH_CPL_BASE_HI c),
    s.rd (R.DMA_CH_RING_CFG c)⟩

/-- Indices of a channel whose base has changed. -/
def zeroIndices (c : Nat) (s : State) : State :=
  (((s.setF (R.DMA_CH_STATUS c) F.DMA_CH_STATUS_HEAD 0).setF (R.DMA_CH_TAIL c) F.DMA_CH_TAIL_INDEX 0).wr
    (R.DMA_CH_CPL_INDEX c) 0).updCh c fun x => { x with parked := false, used := 0, phase := true }

/-- DMA_SHADOW_HANDOVER: at a descriptor boundary the armed set becomes the active one. A shadow or ARM write in the same cycle
keeps it armed for the next. -/
def doHandover (c : Nat) (late : Bool) (s : State) : State :=
  let ctrl := R.DMA_CH_SHADOW_CTRL c
  let st := R.DMA_CH_STATUS c
  if !s.bit ctrl F.DMA_CH_SHADOW_CTRL_ARM || !s.dmaIdle c then s
  else
    let n := s.shadowSet c
    let old := (s.ch c).act
    let s1 := s.updCh c fun x => { x with act := n }
    let s2 := if n.ring ≠ old.ring ∨ n.cpl ≠ old.cpl then zeroIndices c s1 else s1
    if late then s2.setBit st F.DMA_CH_STATUS_SHADOW_LATE
    else (s2.setF ctrl F.DMA_CH_SHADOW_CTRL_ARM 0).setF st F.DMA_CH_STATUS_SHADOW_PENDING 0

def execDmaShadowHandover (c : Fin 32) (late : Bool) (s : State) : Result := .next (doHandover c.val late s)

end Sys2Proof.Machine
end

