-- ==== Sys2Proof/Machine/Xchk.lean ====
section
/-! DEFINITION. Cross-check sampling (R343 to R345): the partner's additions, the comparison with the home's result, and the end
of a sample that is not finished in time. -/

namespace Sys2Proof.Machine

/-- Elements of an MX block's bytes after its scale byte, b bits each, most significant bits first (R60). -/
def mxElems (b : Nat) (body : Bytes) : List Nat :=
  let n := beNat body
  (List.range 32).map fun i => n / 2 ^ (b * (31 - i)) % 2 ^ b

/-- The blocks of k units of u bytes of a payload. -/
def unitsOf (u : Nat) : Nat → Bytes → List Bytes
  | 0, _ => []
  | k + 1, b => b.take u :: unitsOf u k (b.drop u)

/-- q of every element of a payload of a format under an anchor (R293). -/
def wireQuant (fmt : Nat) (a : Int) (b : Bytes) : List Int :=
  let w := winBits fmt
  let q := fun v => quantise w (anchorOf fmt a) v
  let us := unitsOf (fmtUnit fmt) (b.length / fmtUnit fmt) b
  if isMx fmt then
    us.flatMap fun u => (mxElems (elemBits fmt) (u.drop 1)).map fun x => q (scaled (elemVal fmt x) (beNat (u.take 1)))
  else us.map fun u => q (elemVal fmt (beNat u))

/-- Bytes of a lane of a window frame (R303). -/
def laneBytes (fmt : Nat) : Nat := winBits fmt / 8

/-- Lanes of a window frame's payload. -/
def wireLanes (fmt : Nat) (b : Bytes) : List Int :=
  (unitsOf (laneBytes fmt) (b.length / laneBytes fmt) b).map fun u => sx (winBits fmt) (beNat u)

/-- Add values to the lanes of a check window from a first lane on. -/
def addLanes (w : Nat) (first : Nat) (qs : List Int) (m : SMap Int) : SMap Int :=
  (((List.range qs.length).map (first + ·)).zip qs).foldl (fun m x => supd m x.1 0 (winAdd w · x.2)) m

/-- XCHK_ADD (R344): engine q adds the next copied contribution into its check window. An uncorrectable error in the window
abandons the sample (R342). -/
def doXchkAdd (q : Nat) (bad : Bool) (s : State) : State :=
  match (s.eng q).xchk with
  | none => s
  | some x =>
    if bad then
      xchkAbandon (fileEngine s q 2 1 0xFF 0 x.knot x.gen [6 * 65536] 6) q
    else match x.queue with
      | [] => s
      | it :: rest =>
        let fmt := (s.knot x.knot).format
        let vs := if it.window then wireLanes fmt it.payload else wireQuant fmt it.anchor it.payload
        s.updEng q fun g => { g with xchk := some { x with
          queue := rest, lanes := addLanes (winBits fmt) it.first vs x.lanes, extent := max x.extent (it.first + vs.length),
          anchor := it.anchor } }

def execXchkAdd (q : Fin 128) (bad : Bool) (s : State) : Result := .next (doXchkAdd q.val bad s)

/-! ## The comparison (R345) -/

/-- Σ S mod M over the check window. -/
def checkResidue (x : Xchk) : Nat := modM ((x.lanes.map (·.2)).sum)

/-- Lanes first to first + n − 1 of the check window. -/
def checkLanes (x : Xchk) (first n : Nat) : List Int := sgets x.lanes first n 0

/-- Wire bytes of lanes rounded to a format (R295, R296, R60). -/
def roundWire (fmt : Nat) (a : Int) (ss : List Int) : Bytes :=
  if isMx fmt then
    (blocks32 (ss.length / 32) ss).flatMap fun b =>
      let r := roundBlock fmt fmt a b
      let body := r.2.1.foldl (fun n x => n * 2 ^ elemBits fmt + x) 0
      beBytes r.1 1 ++ beBytes body (elemBits fmt * 4)
  else ss.flatMap fun v => beBytes (roundLane fmt fmt a v).bits (fmtUnit fmt)

/-- The first element of a result frame that differs from the check window; none where they agree. -/
def firstDiff (fmt : Nat) (x : Xchk) (o : XchkOut) : Option Nat :=
  let off := o.first - x.seg
  if o.window then
    let got := wireLanes fmt o.payload
    let want := checkLanes x off got.length
    ((List.range got.length).find? fun i => got.getD i 0 != want.getD i 0).map (off + ·)
  else
    let u := fmtUnit fmt
    let per := if isMx fmt then 32 else 1
    let n := o.payload.length / u
    let want := roundWire fmt x.anchor (checkLanes x off (n * per))
    ((List.range n).find? fun i =>
      (o.payload.drop (i * u)).take u != (want.drop (i * u)).take u).map fun i => off + i * per

/-- Lanes that a result frame carries. -/
def outLanes (fmt : Nat) (o : XchkOut) : Nat :=
  if o.window then o.payload.length / laneBytes fmt
  else o.payload.length / fmtUnit fmt * (if isMx fmt then 32 else 1)

/-- The home has sent its last result frame of the segment: its frames reach the segment's end. -/
def Xchk.allSent (x : Xchk) (fmt : Nat) : Bool := x.outs.any fun o => decide (x.extent ≤ o.first - x.seg + outLanes fmt o)

/-- A MISMATCH record of a cross-check (Table 13.9). -/
def fileXchk (s : State) (e seg diff q knot gen cls st : Nat) : State :=
  fileRec s { LogRec.of 3 6 4 (e / 16) (e % 16) with
    status := st, knot := knot, gen := gen, syn := [seg, diff % 65536 * 65536 + q / 16 * 256 + q % 16], synClass := cls,
    counts := true }

/-- Let the held result frames of a segment go (Table 13.11). -/
def releaseResults (s : State) (e knot seg : Nat) : State :=
  let mine := (s.eng e).heldRes.filter fun h => h.1 == knot && h.2.1 == seg
  mine.foldl (fun s h => if (s.frm h.2.2).looked then offerMember s h.2.2 else originate s (e / 16) h.2.2)
    (s.updEng e fun g => { g with heldRes := g.heldRes.filter fun h => !(h.1 == knot && h.2.1 == seg) })

/-- Results of the segment are held. -/
def State.holdsResults (s : State) (e knot seg : Nat) : Bool :=
  (s.eng e).heldRes.any fun h => h.1 == knot && h.2.1 == seg

/-- XCHK_COMPARE: the home has sent its last result frame and the partner has added every contribution (Table 13.3). -/
def doXchkCompare (q : Nat) (s : State) : State :=
  match (s.eng q).xchk with
  | none => s
  | some x =>
    match x.csum with
    | none => s
    | some csum =>
      let fmt := (s.knot x.knot).format
      if !x.queue.isEmpty || !x.allSent fmt then s
      else
        let held := s.holdsResults x.home x.knot x.seg
        let s1 := (s.updEng q fun g => { g with xchk := none }).updEng x.home fun g =>
          { g with xdone := g.xdone ++ [(x.knot, x.gen, x.seg)] }
        let tell := fun (t : State) => statusToControl t x.knot (s.knot x.knot).lastTc 0x15 x.seg
        if checkResidue x ≠ csum % resM then
          let s2 := fileXchk (s1.integCount 8) q x.seg 0 q x.knot x.gen 0 0
          if held then tell (dropHeld s2 x.home x.knot x.seg) else s2
        else match x.outs.filterMap (firstDiff fmt x) with
          | [] => releaseResults (s1.integCount 7) x.home x.knot x.seg
          | diff :: _ =>
            let s2 := fileXchk (s1.integCount 9) x.home x.seg diff q x.knot x.gen 1 0x15
            let s3 := setEvent (tell s2) 51 R.INTEG_EVENT F.INTEG_EVENT_RESULT_WRONG
            dropHeld s3 x.home x.knot x.seg

def execXchkCompare (q : Fin 128) (s : State) : Result := .next (doXchkCompare q.val s)

/-- XCHK_ABANDON_TIMEOUT: the partner has not finished within 50 µs of the home's seal. -/
def doXchkTimeout (q : Nat) (s : State) : State :=
  match (s.eng q).xchk with
  | none => s
  | some x => if x.csum.isSome && s.reached (x.sealAt + 50000) then xchkAbandon s q else s

def execXchkAbandonTimeout (q : Fin 128) (s : State) : Result := .next (doXchkTimeout q.val s)

end Sys2Proof.Machine
end

