-- ==== Sys2Proof/Machine/Hold.lean ====
section
/-! DEFINITION. The Parameter Hold (R314 to R338): row operations and locks, gathers, transactional scatters, the patrol, configuration and enabling. -/

namespace Sys2Proof.Machine

/-! ## Locks (R327) -/

/-- The lock of a key, if held. -/
def State.lockOf (s : State) (key : Nat) : Option RowLock := s.hold.locks.find? (·.key == key)

/-- The key is locked by another dispatch than (e, serial). -/
def State.lockedByOther (s : State) (key e serial : Nat) : Bool :=
  match s.lockOf key with
  | some l => !(l.engine == e && l.serial == serial)
  | none => false

/-- Keys a dispatch holds locked. -/
def State.locksOf (s : State) (e serial : Nat) : List Nat :=
  (s.hold.locks.filter fun l => l.engine == e && l.serial == serial).map (·.key)

/-- The dispatch is still the current one of its engine. -/
def State.dispatchLive (s : State) (e serial : Nat) : Bool :=
  match (s.eng e).disp with
  | some d => d.serial == serial
  | none => false

def takeLock (s : State) (key e serial : Nat) : State :=
  { s with hold := { s.hold with locks := s.hold.locks ++ [⟨key, e, serial⟩] } }
def dropLock (s : State) (key e serial : Nat) : State :=
  { s with hold := { s.hold with locks := s.hold.locks.filter fun l =>
      !(l.key == key && l.engine == e && l.serial == serial) } }

/-- The order and count rules refuse a lock request. -/
def lockRefused (s : State) (o : HoldOp) : Bool :=
  let ks := s.locksOf o.engine o.serial
  ks.any (fun k => decide (o.key ≤ k)) || decide (64 ≤ ks.length)

/-! ## Row operations (R326, R330) -/

/-- The effect of an operation on its row. -/
structure RowRes where
  st : Nat
  data : Option Bytes
  s : State
  deriving DecidableEq, Repr

/-- HGET's read: the first `len` bytes of the image; an absent row reads as zeros. -/
def readRow (s : State) (m key len mech : Nat) : RowRes :=
  match lookupRow s m key mech with
  | (.error, s1) => ⟨0x1F, some (zeros len), s1⟩
  | (.absent, s1) => ⟨0, some (zeros len), s1⟩
  | (.at_ _ row, s1) =>
    let a := s1.rowAddr m (shapeOf key) row
    match meetBad s1 m a len mech with
    | (true, s2) => ⟨0x1F, some (zeros len), s2⟩
    | (false, s2) => ⟨0, some (s2.holdRead a len), s2⟩

/-- HPUT's write outside a transaction. -/
def writeRow (s : State) (m key mech : Nat) (b : Bytes) : RowRes :=
  match lookupRow s m key mech with
  | (.error, s1) => ⟨0x1F, none, s1⟩
  | (.at_ _ row, s1) => ⟨0, none, s1.holdWrite (s1.rowAddr m (shapeOf key) row) b⟩
  | (.absent, s1) =>
    match createRow s1 m key false with
    | (.inl a, s2) => ⟨0, none, s2.holdWrite a b⟩
    | (.inr st, s2) => ⟨st, none, s2⟩

/-- HPUT in a transaction: the bytes are staged. An absent key is given its row and a pending entry, so that the commit cannot
fail. -/
def stageRow (s : State) (o : HoldOp) (m mech : Nat) : RowRes :=
  let add := fun (t : State) => ({ t with hold := { t.hold with
    staged := t.hold.staged ++ [⟨o.engine, o.serial, o.key, o.data⟩] } } : State)
  match lookupRow s m o.key mech with
  | (.error, s1) => ⟨0x1F, none, s1⟩
  | (.at_ _ _, s1) => ⟨0, none, add s1⟩
  | (.absent, s1) =>
    if s1.hold.staged.any fun w => w.engine == o.engine && w.serial == o.serial && w.key == o.key then ⟨0, none, add s1⟩
    else match createRow s1 m o.key true with
      | (.inl _, s2) => ⟨0, none, add s2⟩
      | (.inr st, s2) => ⟨st, none, s2⟩

/-- The dispatch's transaction is still open. -/
def State.txnOpen (s : State) (o : HoldOp) : Bool :=
  match s.scatter? o.engine o.serial with
  | some x => x.txn && !x.settled
  | none => false

/-- HUNLK in a transaction discards it: the outcome told is not COMPLETED; which other code of Table 0.8 is open. -/
def unlockTxn (s : State) (o : HoldOp) : State :=
  let (x, s1) := s.drawCode failCodes
  let s2 := discardStaged s1 o.engine o.serial
  updScatter s2 o.engine o.serial fun y => { y with settled := true, bad := if y.bad = 0 then x else y.bad }

/-- Run an operation whose row is not locked by another. -/
def rowOp (s : State) (o : HoldOp) (mech : Nat) : RowRes :=
  let m := s.holdDie o.key
  if s.badKey o.key then ⟨0x10, none, s⟩
  else if o.len > s.imageBytes (shapeOf o.key) then ⟨0x10, none, s⟩
  else if !s.holdOnline m then ⟨0x17, none, s⟩
  else match o.kind with
    | .get => readRow s m o.key o.len mech
    | .getLock =>
      let r := readRow s m o.key o.len mech
      if r.st = 0 ∧ s.dispatchLive o.engine o.serial then
        { r with s := if o.granted then r.s else takeLock r.s o.key o.engine o.serial }
      else { r with s := dropLock r.s o.key o.engine o.serial }
    | .put =>
      if o.txn then (if s.txnOpen o then stageRow s o m mech else ⟨0, none, s⟩) else writeRow s m o.key mech o.data
    | .putUnlock =>
      if o.txn then (if s.txnOpen o then stageRow s o m mech else ⟨0, none, s⟩)
      else
        let r := writeRow s m o.key mech o.data
        if r.st = 0 then { r with s := dropLock r.s o.key o.engine o.serial } else r
    | .unlock =>
      if !(s.locksOf o.engine o.serial).contains o.key then ⟨0x10, none, s⟩
      else if o.txn then ⟨0, none, unlockTxn s o⟩
      else ⟨0, none, dropLock s o.key o.engine o.serial⟩

/-- The operation completes: data into the transmit area, status to HSTAT and to the scatter's outcome. -/
def completeOp (s : State) (o : HoldOp) (r : RowRes) : State :=
  let s1 := { r.s with hold := { r.s.hold with ops := s.hold.ops.erase o } }
  let s2 := match r.data with
    | some b => s1.updEng o.engine fun g => g.stageIn o.tx b
    | none => s1
  let s3 := s2.updEng o.engine fun g => { g with holdLast := r.st }
  let s4 := s3.count (R.HOLD_COUNT (s.holdDie o.key) 9)
  updScatter s4 o.engine o.serial fun x => { x with bad := if x.bad = 0 then r.st else x.bad }

/-- An operation of the engine issued before it must complete first: one on the same key, or an earlier lock request. -/
def earlierOp (s : State) (o : HoldOp) : Bool :=
  (s.hold.ops.takeWhile (· != o)).any fun p =>
    p.engine == o.engine && (p.key == o.key || (p.kind == .getLock && o.kind == .getLock))

/-- Something waits for the lock of a key ahead of place t: an operation of an engine or a gather. Waiting is first in, first
out (R327). -/
def State.waitsBefore (s : State) (key t : Nat) : Bool :=
  (s.hold.ops.any fun p => p.waited && p.key == key && decide (p.ticket < t)) ||
    s.hold.gathers.any fun q => q.2.any fun g => g.waited && g.key == key && decide (g.ticket < t)

/-- The place of one that waits or would wait: the one it has, else the next. -/
def State.waitPlace (s : State) (ticket : Nat) : Nat := if ticket = 0 then s.hold.ticket + 1 else ticket

/-- Another request waits for the key ahead of this one (R327). -/
def waiterAhead (s : State) (o : HoldOp) : Bool := s.waitsBefore o.key (s.waitPlace o.ticket)

/-- An outstanding operation changed in place. -/
def setOp (s : State) (o p : HoldOp) : State := { s with hold := { s.hold with ops := s.hold.ops.replace o p } }

/-- An operation begins to wait for a lock: a place in the order, and index 14 (R327). -/
def waitOp (s : State) (o : HoldOp) : State :=
  let t := s.waitPlace o.ticket
  let s1 := setOp (s.count (R.HOLD_COUNT (s.holdDie o.key) 14)) o { o with waited := true, ticket := t }
  { s1 with hold := { s1.hold with ticket := max s1.hold.ticket t } }

/-- HOLD_OP_COMPLETE (R326, R327): the i-th outstanding operation of engine e is carried out, or waits for a lock. -/
def doHoldOpComplete (e i : Nat) (hw : HoldHw) (s0 : State) : State :=
  let s := holdUpset s0 hw
  match (s.hold.ops.filter fun o => o.engine == e)[i]? with
  | none => s
  | some o =>
    let m := s.holdDie o.key
    if (s.holdPath (e / 16) m).isNone || earlierOp s o || o.waited then s
    else if o.kind == .getLock && !o.granted && lockRefused s o then completeOp s o ⟨0x10, none, s⟩
    else if s.lockedByOther o.key e o.serial || (!o.granted && waiterAhead s o) then waitOp s o
    else completeOp s o (rowOp s o (holdMech hw))

def execHoldOpComplete (e : Fin 128) (i : Fin 8) (hw : HoldHw) (s : State) : Result :=
  .next (doHoldOpComplete e.val i.val hw s)

/-- The operation is the first that waits for its key on die m, and the lock is free. -/
def State.grantable (s : State) (m : Nat) (o : HoldOp) : Bool :=
  o.waited && s.holdDie o.key == m && !s.lockedByOther o.key o.engine o.serial && !waiterAhead s o

/-- HOLD_LOCK_GRANT (R327): on die m, the first request that waits for a lock now free has it. -/
def doHoldLockGrant (m : Nat) (s : State) : State :=
  match s.hold.ops.find? (s.grantable m) with
  | none => s
  | some o =>
    let lock := o.kind == .getLock && s.dispatchLive o.engine o.serial
    let s1 := setOp s o { o with waited := false, granted := lock }
    if lock then takeLock s1 o.key o.engine o.serial else s1

def execHoldLockGrant (m : Fin 2) (s : State) : Result := .next (doHoldLockGrant (8 + m.val) s)

/-! ## Transactional scatters and their outcome (R329, R330) -/

/-- Operations of a dispatch are outstanding. -/
def State.opsOf (s : State) (e serial : Nat) : Bool := s.hold.ops.any fun o => o.engine == e && o.serial == serial

/-- Apply one staged write: its row is there, pending or live. -/
def applyStaged (s : State) (w : Staged) : State :=
  let m := s.holdDie w.key
  match lookupPending s m w.key with
  | (.at_ a row, s1) =>
    (putEntry s1 a ⟨w.key, row, true, false⟩).holdWrite (s1.rowAddr m (shapeOf w.key) row) w.data
  | (_, s1) =>
    match lookupRow s1 m w.key 1 with
    | (.at_ _ row, s2) => s2.holdWrite (s2.rowAddr m (shapeOf w.key) row) w.data
    | (_, s2) => s2

/-- HOLD_TXN_COMMIT: every operation of an ended transactional dispatch is complete; its writes are applied, or discarded. -/
def doHoldTxnCommit (e : Nat) (s : State) : State :=
  match s.hold.scatters.find? fun x => x.engine == e && x.txn && x.ended && !x.settled with
  | none => s
  | some x =>
    if s.opsOf e x.serial then s
    else
      let mine := s.hold.staged.filter fun w => w.engine == e && w.serial == x.serial
      let keys := mine.map (·.key) ++ s.locksOf e x.serial
      let dies := (keys.map s.holdDie).dedup
      let lost := dies.any fun m => !s.holdOnline m
      if x.bad ≠ 0 ∨ lost then
        let s1 := discardStaged s e x.serial
        updScatter s1 e x.serial fun y => { y with settled := true, bad := if y.bad = 0 then 0x17 else y.bad }
      else
        let s1 := mine.foldl applyStaged s
        let s2 := dies.foldl (fun s m => s.count (R.HOLD_COUNT m 12)) s1
        let s3 := { s2 with hold := { s2.hold with
          staged := s2.hold.staged.filter fun w => !(w.engine == e && w.serial == x.serial) } }
        updScatter (releaseLocks s3 e x.serial) e x.serial fun y => { y with settled := true }

def execHoldTxnCommit (e : Fin 128) (s : State) : Result := .next (doHoldTxnCommit e.val s)

/-- SCATTER_STATUS (R329): the dispatch and its operations have ended; the requester is told where it asked. -/
def doScatterStatus (e : Nat) (s : State) : State :=
  match s.hold.scatters.find? fun x => x.engine == e && x.ended && x.settled && !s.opsOf e x.serial with
  | none => s
  | some x =>
    let s1 := { s with hold := { s.hold with scatters := s.hold.scatters.filter (· != x) } }
    if x.wants then sendStatus s1 x.knot x.dest x.tc (s.knot x.knot).gen 0 x.bad x.word3 [] else s1

def execScatterStatus (e : Fin 128) (s : State) : Result := .next (doScatterStatus e.val s)

/-! ## Gathers (R322 to R325) -/

/-- Keys of a gather request (R322). -/
def gatherKeys (f : Frame) : List Nat :=
  (f.hdr.w5.toNat * 2 ^ 32 + f.hdr.w6.toNat) ::
    (List.range (f.payload.length / 8)).map fun i => beNat ((f.payload.drop (8 * i)).take 8)

def State.gathersOf (s : State) (d : Nat) : List Gather := sget s.hold.gathers d []
def setGathers (s : State) (d : Nat) (q : List Gather) : State :=
  { s with hold := { s.hold with gathers := sput s.hold.gathers d q [] } }

/-- HOLD_GATHER_SERVE: the agent of die d takes the next admitted request, at most 64 in service. -/
def doHoldGatherServe (d : Nat) (s : State) : State :=
  match (s.die d).holdIn with
  | [] => s
  | id :: rest =>
    if 64 ≤ (s.gathersOf d).length then s
    else
      let f := (s.frm id).frame
      let g : Gather := { hdr := f.hdr, knot := hKnot f.hdr, keys := gatherKeys f, pos := 0, waited := false }
      let s1 := s.updDie d fun x => { x with holdIn := rest }
      setGathers (discardFrame s1 id) d (s1.gathersOf d ++ [g])

def execHoldGatherServe (d : Fin 8) (s : State) : Result := .next (doHoldGatherServe d.val s)

/-- Bytes of responses in the agent's staging: built and not yet across. -/
def State.rspBytes (s : State) (d : Nat) : Nat :=
  (s.frames.map fun x => match x.2 with
    | some f => if f.origin = .holdRsp ∧ f.inDie = d ∧ !f.arrived then hLen f.frame.hdr else 0
    | none => 0).sum

/-- A record: key, position, flags, value (Table 12.4), with its counts (Table 12.26). -/
def gatherRecord (sh0 mech : Nat) (s : State) (key pos : Nat) : Bytes × State :=
  let m := s.holdDie key
  let v := s.valueBytes sh0
  let s0 := s.count (R.HOLD_COUNT m 1)
  let mk := fun (flags : Nat) (b : Bytes) => beBytes key 8 ++ beBytes pos 1 ++ beBytes flags 1 ++ zeros 6 ++ b
  if s.badKey key || shapeOf key != sh0 then (mk 8 (zeros v), s0.count (R.HOLD_COUNT m 6))
  else if !s.holdOnline m then (mk 2 (zeros v), s0.count (R.HOLD_COUNT m 4))
  else match lookupRow s0 m key mech with
    | (.error, s1) => (mk 4 (zeros v), s1.count (R.HOLD_COUNT m 5))
    | (.absent, s1) => (mk 1 (zeros v), s1.count (R.HOLD_COUNT m 3))
    | (.at_ _ row, s1) =>
      let a := s1.rowAddr m sh0 row
      match meetBad s1 m a v mech with
      | (true, s2) => (mk 4 (zeros v), s2.count (R.HOLD_COUNT m 5))
      | (false, s2) => (mk 0 (s2.holdRead a v), s2)

/-- A gather may not read a key's row now: an engine holds its lock, or something waits for it ahead of the gather (R324,
R327). -/
def State.gatherBlocked (s : State) (g : Gather) (key : Nat) : Bool :=
  (s.lockOf key).isSome || s.waitsBefore key (s.waitPlace g.ticket)

/-- A gather in service changed in place. -/
def setGather (s : State) (d : Nat) (g h : Gather) : State := setGathers s d ((s.gathersOf d).replace g h)

/-- A gather waits for the lock of a key; the wait counts once for a response (index 14). -/
def waitGather (s : State) (d : Nat) (g : Gather) (key : Nat) : State :=
  let t := s.waitPlace g.ticket
  let s1 := setGather (if g.waited then s else s.count (R.HOLD_COUNT (s.holdDie key) 14)) d g
    { g with waited := true, key := key, ticket := t }
  { s1 with hold := { s1.hold with ticket := max s1.hold.ticket t } }

/-- HOLD_GATHER_RESPONSE: the i-th request in service on die d gets its next response frame, where staging has room and no row
of the frame is locked by an engine or waited for ahead of it. -/
def doHoldGatherResponse (d i : Nat) (hw : HoldHw) (s0 : State) : State :=
  let s := holdUpset s0 hw
  match (s.gathersOf d)[i]? with
  | none => s
  | some g =>
    let sh0 := shapeOf (g.keys.headD 0)
    let per := 9216 / (16 + s.valueBytes sh0)
    let ks := (g.keys.drop g.pos).take per
    let last := g.pos + ks.length == g.keys.length
    let plen := ks.length * (16 + s.valueBytes sh0)
    if ks.any fun k => (s.holdPath d (s.holdDie k)).isNone then s
    else if 262144 < s.rspBytes d + 36 + plen then s
    else match ks.find? (s.gatherBlocked g) with
      | some k => waitGather s d g k
      | none =>
        let (b, s1) := ((List.range ks.length).zip ks).foldl (fun (acc : Bytes × State) x =>
          let r := gatherRecord sh0 (holdMech hw) acc.2 x.2 (g.pos + x.1)
          (acc.1 ++ r.1, r.2)) ([], s)
        let k0 := ks.headD 0
        let h := mkHeader 1 tGatherRsp (s.fld (R.HOLD_CTRL 8) F.HOLD_CTRL_RSP_TC)
          (s.fld R.YFP_DEV_CTRL F.YFP_DEV_CTRL_ORIGIN_HOP_LIMIT) (hChannel g.hdr) (if last then 8 else 0) (hSrc g.hdr)
          (hDest g.hdr) (hSeq g.hdr) (hGen g.hdr) g.knot plen (hFmt g.hdr) (k0 / 2 ^ 32) (k0 % 2 ^ 32)
        let (id, s2) := s1.addFrm { FrameRec.init with
          frame := mkFrame h b, inDie := d, origin := .holdRsp, engine := d * 16, tc := hTc h, whole := true }
        let s3 := if last then (setGathers s2 d ((s2.gathersOf d).erase g)).count (R.HOLD_COUNT 8 0)
          else setGather s2 d g { g with pos := g.pos + ks.length, waited := false, ticket := 0 }
        originate (s3.count (R.HOLD_COUNT 8 2)) d id

def execHoldGatherResponse (d : Fin 8) (i : Fin 64) (hw : HoldHw) (s : State) : Result :=
  .next (doHoldGatherResponse d.val i.val hw s)

/-! ## The patrol (R316) -/

/-- HOLD_SCRUB: the patrol of die m reads its next line, unless it is stopped. -/
def doHoldScrub (m : Nat) (hw : HoldHw) (s0 : State) : State :=
  if s0.fld (R.HOLD_SCRUB_CTRL m) F.HOLD_SCRUB_CTRL_PASS_H = 0 then s0
  else
    let s := holdUpset s0 hw
    let l := sget s.hold.patrol m 0
    let next := if l + 1 < 941176470 then l + 1 else 0
    let s1 := { s with hold := { s.hold with patrol := sput s.hold.patrol m next 0 } }
    let r := R.HOLD_SCRUB_STATUS m
    let s2 := if next = 0 then s1.setF r F.HOLD_SCRUB_STATUS_PASSES ((s1.fld r F.HOLD_SCRUB_STATUS_PASSES + 1) % 65536)
      else s1
    (meetBad s2 m (holdBase m + l * 128) 128 (holdMech hw)).2

def execHoldScrub (m : Fin 2) (hw : HoldHw) (s : State) : Result := .next (doHoldScrub (8 + m.val) hw s)

/-! ## Configuration and enabling (R315, R335, R336) -/

def State.holdEn (s : State) (m : Nat) : Bool := s.bit (R.HOLD_CTRL m) F.HOLD_CTRL_EN

/-- A write refused: HOLD_EVENT.CONFIG_REFUSED. -/
def holdRefused (s : State) (m : Nat) : State := setEvent s 62 (R.HOLD_EVENT m) F.HOLD_EVENT_CONFIG_REFUSED

/-- Regions of a die as (place, size), those of size 0 left out (Table 12.1). -/
def holdRegions (s : State) (m : Nat) : List (Nat × Nat) :=
  let idx := 2 ^ s.fld (R.HOLD_INDEX_CTRL m) F.HOLD_INDEX_CTRL_BUCKETS_LOG2 * 128
  let pools := (List.range 16).map fun sh =>
    (s.rd64 (R.HOLD_POOL_BASE m sh) (R.HOLD_POOL_BASE_HI m sh), (s.rd (R.HOLD_POOL_ROWS m sh)).toNat * s.imageBytes sh)
  ([(0, idx), (idx, 100663296),
    (s.rd64 (R.HOLD_RING_BASE m) (R.HOLD_RING_BASE_HI m), (s.rd (R.HOLD_RING_SIZE m)).toNat * 1024)] ++ pools).filter
      fun r => r.2 != 0

/-- No two regions of a list overlap, and each fits. -/
def regionsOk : List (Nat × Nat) → Bool
  | [] => true
  | r :: rs =>
    decide (r.1 + r.2 ≤ holdBytes) &&
      rs.all (fun q => decide (r.1 + r.2 ≤ q.1) || decide (q.1 + q.2 ≤ r.1)) && regionsOk rs

/-- Set RSP_TC in both instances. -/
def setRspTc (s : State) (v : Nat) : State :=
  (s.setF (R.HOLD_CTRL 8) F.HOLD_CTRL_RSP_TC v).setF (R.HOLD_CTRL 9) F.HOLD_CTRL_RSP_TC v

/-- A write to HOLD_CTRL of die m. RSP_TC is configuration of both dies, and keeps its value while either is enabled. EN rising
checks the regions and starts the clear; EN falling turns the die off. -/
def writeHoldCtrl (m : Nat) (v : Word) (s : State) : State :=
  let tc := F.HOLD_CTRL_RSP_TC.get v
  let s1 := if tc = s.fld (R.HOLD_CTRL m) F.HOLD_CTRL_RSP_TC then s
    else if s.holdEn 8 || s.holdEn 9 then holdRefused s m
    else setRspTc s tc
  let en := F.HOLD_CTRL_EN.get v == 1
  if en == s.holdEn m then s1
  else if en then
    if regionsOk (holdRegions s1 m) then
      let s2 := (s1.setBit (R.HOLD_CTRL m) F.HOLD_CTRL_EN).setF (R.HOLD_STATUS m) F.HOLD_STATUS_STATE 1
      { s2 with hold := { s2.hold with lost := setMaskBit s2.hold.lost m false } }
    else holdRefused s1 m
  else (s1.setF (R.HOLD_CTRL m) F.HOLD_CTRL_EN 0).setF (R.HOLD_STATUS m) F.HOLD_STATUS_STATE 0

/-- HOLD_ENABLE: a write of HOLD_CTRL. -/
def execHoldEnable (m : Fin 2) (value : Word) (s : State) : Result := .next (writeHoldCtrl (8 + m.val) value s)

/-- HOLD_CLEAR_DONE: the index is clear, every row of the die is absent, and the die is ONLINE. -/
def doHoldClearDone (m : Nat) (s : State) : State :=
  if s.fld (R.HOLD_STATUS m) F.HOLD_STATUS_STATE ≠ 1 then s
  else
    let b := holdBase m
    let n := 2 ^ s.fld (R.HOLD_INDEX_CTRL m) F.HOLD_INDEX_CTRL_BUCKETS_LOG2 * 128
    let s1 := { s with hold := { s.hold with
      mem := s.hold.mem.filter fun c => !(decide (b ≤ c.1) && decide (c.1 < b + n)),
      cache := sput s.hold.cache m [] [] } }
    let s2 := (List.range 16).foldl (fun s sh => setRows s m sh [])
      (mendBad s1 fun l => decide (b ≤ l * 128) && decide (l * 128 < b + n))
    setEvent (s2.setF (R.HOLD_STATUS m) F.HOLD_STATUS_STATE 2) 62 (R.HOLD_EVENT m) F.HOLD_EVENT_CLEAR_DONE

def execHoldClearDone (m : Fin 2) (s : State) : Result := .next (doHoldClearDone (8 + m.val) s)

/-- Formats a row's values may have (R317). -/
def rowFormat (f : Nat) : Bool := decide (f ≤ 4) || (decide (8 ≤ f) && decide (f ≤ 10))

/-- A HOLD_SHAPE word that is taken: a row format, and line counts in range. -/
def shapeWordOk (v : Word) : Bool :=
  rowFormat (F.HOLD_SHAPE_VALUE_FORMAT.get v) && decide (F.HOLD_SHAPE_STATE_LINES.get v ≤ 64) &&
    decide (1 ≤ F.HOLD_SHAPE_VALUE_LINES.get v) && decide (F.HOLD_SHAPE_VALUE_LINES.get v ≤ 32)

/-- Reserved bits of HOLD_SHAPE read 0. -/
def shapeWord (v : Word) : Word := v &&& 0x8F007F3F#32

/-- Write a configuration register that is free to be written. -/
def putHoldReg (s : State) (m : Nat) (r : HoldReg) (v : Nat) : State :=
  match r with
  | .seed => (s.wr (R.HOLD_SEED 8) (BitVec.ofNat 32 v)).wr (R.HOLD_SEED 9) (BitVec.ofNat 32 v)
  | .indexCtrl =>
    let n := v % 32
    if 16 ≤ n ∧ n ≤ 27 then s.setF (R.HOLD_INDEX_CTRL m) F.HOLD_INDEX_CTRL_BUCKETS_LOG2 n else s
  | .ringBase => s.wr64 (R.HOLD_RING_BASE m) (R.HOLD_RING_BASE_HI m) (v / 4096 * 4096)
  | .ringSize => s.wr (R.HOLD_RING_SIZE m) (BitVec.ofNat 32 v)
  | .shape sh =>
    let w := BitVec.ofNat 32 v
    if shapeWordOk w then (s.wr (R.HOLD_SHAPE 8 sh.val) (shapeWord w)).wr (R.HOLD_SHAPE 9 sh.val) (shapeWord w) else s
  | .poolBase sh => s.wr64 (R.HOLD_POOL_BASE m sh.val) (R.HOLD_POOL_BASE_HI m sh.val) (v / 128 * 128)
  | .poolRows sh => s.wr (R.HOLD_POOL_ROWS m sh.val) (BitVec.ofNat 32 v)

/-- Registers that both dies share. -/
def holdShared (r : HoldReg) : Bool :=
  match r with
  | .seed => true
  | .shape _ => true
  | _ => false

/-- A write of a configuration register: taken while EN is 0, on both dies for a shared register (R336, R337). HOLD_SEED is an RWL field,
whose locked writes have no other effect (R6, R7; DEDUCED, log entry 110); others at such a time set CONFIG_REFUSED (R336). -/
def writeHoldReg (m : Nat) (r : HoldReg) (v : Nat) (s : State) : State :=
  if !(if holdShared r then s.holdEn 8 || s.holdEn 9 else s.holdEn m) then putHoldReg s m r v
  else match r with
    | .seed => s
    | _ => holdRefused s m

/-- HOLD_CONFIG_WRITE. -/
def execHoldConfigWrite (m : Fin 2) (reg : HoldReg) (value : BitVec 64) (s : State) : Result :=
  .next (writeHoldReg (8 + m.val) reg value.toNat s)

/-- HOLD_DIE_LOSS (R335): the die's rows become unavailable. -/
def doHoldDieLoss (m : Nat) (s : State) : State :=
  ({ s with hold := { s.hold with lost := setMaskBit s.hold.lost m true } }).setF (R.HOLD_STATUS m)
    F.HOLD_STATUS_STATE 3

def execHoldDieLoss (m : Fin 2) (s : State) : Result := .next (doHoldDieLoss (8 + m.val) s)

/-- MEMORY_LINK_LOSS (R321): the Hold agent of the die goes through another switch die. -/
def execMemoryLinkLoss (d : Fin 8) (m : Fin 2) (s : State) : Result :=
  .next { s with hold := { s.hold with linkDown := setMaskBit s.hold.linkDown (d.val * 2 + m.val) true } }

/-- MEMORY_LINK_RETURN. -/
def execMemoryLinkReturn (d : Fin 8) (m : Fin 2) (s : State) : Result :=
  .next { s with hold := { s.hold with linkDown := setMaskBit s.hold.linkDown (d.val * 2 + m.val) false } }

end Sys2Proof.Machine
end

