-- ==== Sys2Proof/Machine/LongOps.lean ====
section
/-! DEFINITION. The long operations of Table 14.5: TEST_STRIP, SELF_TEST, TABLE_SCRUB, HOLD_LOAD, HOLD_CHECKPOINT, KNOT_FLUSH, FW_UPDATE,
ATTEST and LOGBOOK_READ. Each command of this file is one stretch of its operation, from one suspend point to the next. -/

namespace Sys2Proof.Machine

/-- Run a stretch of the operation of a tag where it has the opcode and may run: it has not ended, is not suspended, and stands at no
suspend point where it was asked to pause. -/
def longOp (op tag : Nat) (f : LongOp → State → State) (s : State) : State :=
  match s.op? tag with
  | some o => if o.cmd.op = op && !o.ended && !o.paused && !o.asked then f o s else s
  | none => s

/-! ## TEST_STRIP (R79, R84, R125, R129, R374) -/

/-- The reports of lanes, packed in order. -/
def stripReports (s : State) (d : Nat) (ns : List Nat) : Bytes :=
  ns.flatMap fun n => leWords ((List.range 8).map fun w => (s.rd (R.LANE_TS_REPORT (laneEngine d n) (laneLocal n) w)).toNat)

/-- Mask of those lanes that are admitted, by lane index in the port. -/
def admittedMask (s : State) (d : Nat) (ns : List Nat) (p0 : Nat) : Nat :=
  ns.foldl (fun m n => if s.laneState d n = lsAdmitted then setMaskBit m (n - p0) true else m) 0

/-- The command on a data port: the masked lanes start their strips. -/
def beginStripPort (o : LongOp) (d p : Nat) (s : State) : State :=
  let w := (s.portLanes d p).2
  let mask := o.cmd.w 3 % 256
  let ns := (maskBits mask 8).map (p + ·)
  if !s.portExists d p || decide (2 ^ w ≤ mask) then endOp s o.cmd.tag 0x10 0 0
  else if s.isRetired 2 d p || ns.any fun n => s.isRetired 7 d n then endOp s o.cmd.tag 0x17 0 0
  else if ns.any fun n => !s.testable d n true then endOp s o.cmd.tag 0x10 0 0
  else
    let items := ns.map fun n => (n, s.laneState d n)
    updOp (ns.foldl (fun s n => startStrip s d n) s) o.cmd.tag fun o => { o with begun := true, items := items }

/-- The command on a lanyard port: the strip is armed at S. -/
def beginStripLanyard (o : LongOp) (d p : Nat) (s : State) : State :=
  if 129 < p then endOp s o.cmd.tag 0x10 0 0
  else if s.isRetired 3 d p then endOp s o.cmd.tag 0x17 0 0
  else
    let s1 := s.wr (R.LANYARD_TS_START d p) (BitVec.ofNat 32 (o.cmd.w 4))
    updOp (armStrip d (p - 128) s1) o.cmd.tag fun o => { o with begun := true }

/-- The tested lanes have all ended: the reports are written and the operation ends. -/
def endStrip (o : LongOp) (d p : Nat) (ns : List Nat) (s : State) : State :=
  endOp (s.hostWrite (o.cmd.w64 6) (stripReports s d ns)) o.cmd.tag 0 (admittedMask s d ns (if p < 128 then p else 128 + (p - 128) * 8)) 0

/-- A stretch of TEST_STRIP. -/
def opTestStrip (o : LongOp) (s : State) : State :=
  let (d, p) := stripPort o.cmd
  if !o.begun then if p < 128 then beginStripPort o d p s else beginStripLanyard o d p s
  else if p < 128 then
    if o.items.all fun x => (s.lane d x.1).step == 0 then endStrip o d p (o.items.map (·.1)) s else s
  else if !s.bit (R.LANYARD_TS_CTRL d p) F.LANYARD_TS_CTRL_ARM && !(s.lan d (p - 128)).strip then
    endStrip o d p ((List.range 8).map (lanyardLane (p - 128))) s
  else s

def execTestStrip (tag : BitVec 16) (s : State) : Result := .next (longOp 0x10 tag.toNat opTestStrip s)

/-! ## SELF_TEST (R348) -/

/-- The engine mask of the command. -/
def engineMask (c : Cmd) : Nat := ((List.range 4).map fun i => c.w (2 + i) * 2 ^ (32 * i)).sum

/-- Engines that passed their runs count a passed self-test. -/
def notePasses (s : State) (items : List (Nat × Nat)) : State :=
  items.foldl (fun s x => if x.2 = 1 then notePass s x.1 else s) s

/-- One engine run. A RANDOM run is made of slices, which count and fail as R346 has them (R348); the first failure, or the end of the last run, is the commit point. -/
def selfTestRun (o : LongOp) (e : Nat) (obs : RunObs) (s : State) : State :=
  let left := setMaskBit o.todo e false
  let random := !(o.cmd.w 6).testBit 0
  let s0 := if random then s.countN (R.INTEG_COUNT 11) obs.slices.toNat else s
  let times := if random && obs.repeated then s.fld R.INTEG_CLASS_CTRL F.INTEG_CLASS_CTRL_REPEAT else 1
  let s1 := if obs.failed then
      fileSelfTest (if random then s0.integCount 12 else s0) (if random then 7 else 8) e obs.other.toNat obs.run.toNat
        obs.vector.toNat obs.where_.val times
    else s0
  let failed := o.w2 + (if obs.failed then 1 else 0)
  let items := o.items ++ [(e, if obs.failed then 0 else 1)]
  let s2 := updOp s1 o.cmd.tag fun o =>
    { o with todo := left, w2 := failed, w3 := o.w3 + 1, items := items, committed := o.committed || obs.failed }
  if left = 0 then endOp (notePasses s2 items) o.cmd.tag 0 failed (o.w3 + 1) else s2

/-- A stretch of SELF_TEST: the checks, or the run of the lowest-numbered engine left. -/
def opSelfTest (obs : RunObs) (o : LongOp) (s : State) : State :=
  let mask := engineMask o.cmd
  let es := maskBits mask 128
  if !o.begun then
    if es.any fun e => s.isRetired 4 (e / 16) (e % 16) then endOp s o.cmd.tag 0x17 0 0
    else if es.any fun e => s.engState e != 3 || s.homed e != 0 then endOp s o.cmd.tag 0x10 0 0
    else if es.isEmpty then endOp s o.cmd.tag 0 0 0
    else updOp s o.cmd.tag fun o => { o with begun := true, todo := mask }
  else match (List.range 128).find? o.todo.testBit with
    | some e => selfTestRun o e obs s
    | none => endOp s o.cmd.tag 0 o.w2 o.w3

def execSelfTest (tag : BitVec 16) (obs : RunObs) (s : State) : Result :=
  .next (longOp 0x11 tag.toNat (opSelfTest obs) s)

/-! ## TABLE_SCRUB (R160, R374) -/

/-- Scrub one table of a die: entries repaired, and those it could not repair. -/
def scrubTable (d table : Nat) (s : State) : Nat × Nat × State :=
  let ms := s.tabs.marks.filter fun m => m.die == d && m.loc / 2 ^ 20 == table
  let t := ms.foldl (fun s m => scrubEntry d m.slot m.loc s) s
  let bad := (ms.filter fun m => t.marked d m.slot m.loc).length
  (ms.length - bad, bad, t)

/-- A stretch of TABLE_SCRUB: one of the ten tables of one die. The first repair, or the end of the pass, is the commit point. -/
def opTableScrub (o : LongOp) (s : State) : State :=
  let ds := maskBits (o.cmd.w 2) 8
  match ds[o.pos / 10]? with
  | none => endOp s o.cmd.tag 0 o.w2 o.w3
  | some d =>
    let (good, bad, s1) := scrubTable d (o.pos % 10) s
    let last := decide (ds.length * 10 ≤ o.pos + 1)
    let s2 := updOp s1 o.cmd.tag fun o =>
      { o with begun := true, pos := o.pos + 1, w2 := o.w2 + good, w3 := o.w3 + bad, committed := o.committed || good != 0 }
    if last then endOp s2 o.cmd.tag 0 (o.w2 + good) (o.w3 + bad) else s2

def execTableScrub (tag : BitVec 16) (s : State) : Result := .next (longOp 0x12 tag.toNat opTableScrub s)

/-! ## HOLD_LOAD (R331, R332) -/

/-- Memory-side dies, and shapes, of the masks of a Hold operation. -/
def Cmd.hasDie (c : Cmd) (m : Nat) : Bool := (c.w 6).testBit (m - 8)
def Cmd.hasShape (c : Cmd) (sh : Nat) : Bool := (c.w 6).testBit (16 + sh)

/-- A die of the mask is out of service. -/
def State.holdOut (s : State) (c : Cmd) : Bool := [8, 9].any fun m => c.hasDie m && !s.holdOnline m

/-- The header of a record: key, flags, reserved bytes, image bytes (Table 12.8). -/
structure HoldRec where
  key : Nat
  flags : Nat
  rsvd : Nat
  len : Nat

/-- The record at an address of the stream. -/
def recordAtHost (s : State) (a : Nat) : HoldRec :=
  ⟨leNat (s.hostRead a 8), leNat (s.hostRead (a + 8) 1), leNat (s.hostRead (a + 9) 3), leNat (s.hostRead (a + 12) 4)⟩

/-- The record is malformed: reserved bits, a length that is no multiple of 128, an image with DELETE, or more than is left. -/
def HoldRec.malformed (r : HoldRec) (left : Nat) : Bool :=
  decide (1 < r.flags) || r.rsvd != 0 || r.len % 128 != 0 || (r.flags == 1 && r.len != 0) || decide (left < 16 + r.len)

/-- A load ends with a status before its first flip: its pending rows are freed. -/
def failLoad (o : LongOp) (st : Nat) (s : State) : State := endOp (freeLoad s o) o.cmd.tag st o.w2 o.w3

/-- Note a key of the load: any earlier note of it is replaced. -/
def noteKey (items : List (Nat × Nat)) (key del : Nat) : List (Nat × Nat) := items.filter (·.1 != key) ++ [(key, del)]

/-- Take one record whose die and shape the masks name. -/
def loadRecord (o : LongOp) (r : HoldRec) (a : Nat) (s : State) : State :=
  let m := s.holdDie r.key
  let next := o.pos + 16 + r.len
  if s.badKey r.key || decide (s.imageBytes (shapeOf r.key) < r.len) then failLoad o 0x10 s
  else
    let s1 := freeLoad s { o with items := o.items.filter fun x => x.1 == r.key }
    if r.flags = 1 then
      updOp s1 o.cmd.tag fun o => { o with pos := next, w2 := o.w2 + 1, items := noteKey o.items r.key 1 }
    else match createRow s1 m r.key true with
      | (.inl ra, s2) =>
        updOp (s2.holdWrite ra (s2.hostRead (a + 16) r.len)) o.cmd.tag fun o =>
          { o with pos := next, w2 := o.w2 + 1, items := noteKey o.items r.key 0 }
      | (.inr st, s2) => failLoad { o with items := o.items.filter fun x => x.1 != r.key } st s2

/-- Read the next record of the stream. -/
def loadNext (o : LongOp) (s : State) : State :=
  let a := o.cmd.w64 2 + o.pos
  let left := o.cmd.w64 4 - o.pos
  let r := recordAtHost s a
  if left < 16 ∨ r.malformed left then failLoad o 0x10 s
  else if !o.cmd.hasDie (s.holdDie r.key) || !o.cmd.hasShape (shapeOf r.key) then
    updOp s o.cmd.tag fun o => { o with pos := o.pos + 16 + r.len, w3 := o.w3 + 1 }
  else loadRecord o r a s

/-- Place in the index of a key of the load: its pending entry, or for a DELETE its entry. -/
def flipPlace (s : State) (x : Nat × Nat) : Nat :=
  let m := s.holdDie x.1
  match (if x.2 = 1 then (lookupRow s m x.1 1).1 else (lookupPending s m x.1).1) with
  | .at_ a _ => a
  | _ => 2 ^ 48

/-- The key of the load that stands first in the index. -/
def firstFlip (s : State) : List (Nat × Nat) → Option (Nat × Nat)
  | [] => none
  | x :: xs => match firstFlip s xs with
    | none => some x
    | some y => if flipPlace s y < flipPlace s x then some y else some x

/-- Remove a key's entry and free its row. -/
def removeRow (s : State) (m key : Nat) : State :=
  match lookupRow s m key 1 with
  | (.at_ a row, s1) => freeRow (putEntry s1 a ⟨0, 0, false, false⟩) m (shapeOf key) row
  | (_, s1) => s1

/-- Flip one key: its old row goes, its pending row becomes the row. -/
def flipKey (s : State) (x : Nat × Nat) : State :=
  let m := s.holdDie x.1
  let s1 := removeRow s m x.1
  if x.2 = 1 then s1
  else match lookupPending s1 m x.1 with
    | (.at_ a row, s2) => putEntry s2 a ⟨x.1, row, true, false⟩
    | (_, s2) => s2

/-- The flips: one key under its lock, in index order. -/
def loadFlip (o : LongOp) (s : State) : State :=
  match firstFlip s o.items with
  | none => endOp s o.cmd.tag 0 o.w2 o.w3
  | some x =>
    if (s.lockOf x.1).isSome then s
    else
      let rest := o.items.filter fun y => y.1 != x.1
      let s1 := updOp (flipKey s x) o.cmd.tag fun o => { o with committed := true, items := rest }
      if rest.isEmpty then endOp s1 o.cmd.tag 0 o.w2 o.w3 else s1

/-- A stretch of HOLD_LOAD: the checks, one record, or one flip. -/
def opHoldLoad (o : LongOp) (s : State) : State :=
  if !o.committed && s.holdOut o.cmd then failLoad o 0x17 s
  else if !o.begun then updOp s o.cmd.tag fun o => { o with begun := true }
  else if o.pos < o.cmd.w64 4 then loadNext o s
  else loadFlip o s

def execHoldLoad (tag : BitVec 16) (s : State) : Result := .next (longOp 0x13 tag.toNat opHoldLoad s)

/-! ## HOLD_CHECKPOINT (R331, R333) -/

/-- The last byte of a live index entry of the masks, at or above an address. -/
def liveByte (s : State) (c : Cmd) (from_ : Nat) (k : Nat) (v : Byte) : Bool :=
  decide (from_ ≤ k) && k % 16 == 15 && v.toNat / 64 == 2 &&
    ([8, 9].any fun m => c.hasDie m && decide (holdBase m ≤ k) &&
      decide (k < holdBase m + 128 * 2 ^ s.fld (R.HOLD_INDEX_CTRL m) F.HOLD_INDEX_CTRL_BUCKETS_LOG2)) &&
    c.hasShape ((sget s.hold.mem (k - 8) 0).toNat / 16)

/-- Address of the next live entry of the masks at or above an address, die by die and in bucket order. -/
def nextLive (s : State) (c : Cmd) (from_ : Nat) : Option Nat := (sfind? s.hold.mem (liveByte s c from_)).map (· - 15)

/-- The checkpoint ends with the bytes written as its RESULT. -/
def endCheckpoint (o : LongOp) (st bytes : Nat) (s : State) : State := endOp s o.cmd.tag st (bytes % 2 ^ 32) (bytes / 2 ^ 32)

/-- Write the record of a live entry. -/
def checkpointRow (o : LongOp) (a : Nat) (s : State) : State :=
  let m := if a < holdBase 9 then 8 else 9
  let e := s.entryAt a
  let sh := shapeOf e.key
  let n := s.imageBytes sh
  if (s.lockOf e.key).isSome then s
  else if o.cmd.w64 4 < o.todo + 16 + n then endCheckpoint o 0x16 o.todo s
  else
    let bucket := meetBad s m (a / 128 * 128) 128 1
    let row := meetBad bucket.2 m (s.rowAddr m sh e.row) n 1
    match bucket.1 || row.1, row.2 with
    | true, s1 => endCheckpoint o 0x1F o.todo s1
    | false, s1 =>
      let b := leBytes e.key 8 ++ zeros 4 ++ leBytes n 4 ++ s1.holdRead (s1.rowAddr m sh e.row) n
      let s2 := updOp (s1.hostWrite (o.cmd.w64 2 + o.todo) b) o.cmd.tag fun o =>
        { o with pos := a + 16, todo := o.todo + 16 + n }
      match nextLive s2 o.cmd (a + 16) with
      | some _ => s2
      | none => endCheckpoint o 0 (o.todo + 16 + n) s2

/-- A stretch of HOLD_CHECKPOINT: the checks, or one row read under its lock. -/
def opHoldCheckpoint (o : LongOp) (s : State) : State :=
  if s.holdOut o.cmd then endCheckpoint o 0x17 o.todo s
  else if !o.begun then updOp s o.cmd.tag fun o => { o with begun := true }
  else match nextLive s o.cmd o.pos with
    | some a => checkpointRow o a s
    | none => endCheckpoint o 0 o.todo s

def execHoldCheckpoint (tag : BitVec 16) (s : State) : Result := .next (longOp 0x14 tag.toNat opHoldCheckpoint s)

/-! ## KNOT_FLUSH (R285) -/

/-- A stretch of KNOT_FLUSH: the flush begins or is joined; it ends when the knot has left FLUSHING. -/
def opKnotFlushLong (o : LongOp) (s : State) : State :=
  let k := o.cmd.w 2 % 2 ^ 14
  let x := s.knot k
  let begin_ := fun s => updOp s o.cmd.tag fun o => { o with begun := true }
  if o.begun then if x.state = 2 then s else endOp s o.cmd.tag 0 (x.gen % 256) 0
  else match x.state with
    | 1 | 4 => begin_ (startFlush s k ⟨true, 0, false, false⟩)
    | 2 => begin_ s
    | 3 => endOp s o.cmd.tag 0 (x.gen % 256) 0
    | _ => endOp s o.cmd.tag 0x10 0 0

def execKnotFlush (tag : BitVec 16) (s : State) : Result := .next (longOp 0x15 tag.toNat opKnotFlushLong s)

/-! ## Signed objects (R393, R396, R397) -/

/-- A little-endian word of an object. -/
def objWord (b : Bytes) (i : Nat) : Nat := leNat ((b.drop i).take 4)

/-- Bytes of an object's body, as its header states. -/
def objBody (b : Bytes) : Bytes := (b.drop 8192).take (objWord b 16)

/-- The header's magic, kind, target and length, against the length of the object (R393, R401). -/
def objForm (b : Bytes) (kind : Nat) : Bool :=
  objWord b 0 == 0x31465A56 && objWord b 20 == kind && objWord b 4 == 0x10241100 && b.length == 8192 + objWord b 16 &&
    decide (b.length ≤ (if kind = 0 then 2 ^ 23 else 2 ^ 16))

/-- Signer, signature over bytes 0 to 95, and the hash that binds the body, under a public key (R393). -/
def objSigned (b key : Bytes) : Bool :=
  (b.drop 24).take 32 == sha256 key && Config.slhVerify key (b.take 96) ((b.drop 96).take 7856) &&
    (b.drop 56).take 32 == sha256 (objBody b)

/-- The Ulirak root that signs ownership records: production, or engineering for samples (R1, R397). -/
def State.ownerRoot (s : State) : Bytes :=
  if s.mgmt.flash.manuf.good && s.mgmt.flash.manuf.sample then Config.engineeringRoot else Config.rootKey

/-- The owner's key, OWNERSHIP_SEQ and MIN_SEC_VERSION of the ownership record in force (Table 15.4). -/
def State.ownerKey (s : State) : Bytes := ((objBody s.mgmt.ownRec).drop 16).take 32
def State.ownerSeq (s : State) : Option Nat := if s.mgmt.ownRec.isEmpty then none else some (objWord (objBody s.mgmt.ownRec) 48)
def State.minSec (s : State) : Nat := if s.mgmt.ownRec.isEmpty then 0 else objWord (objBody s.mgmt.ownRec) 52

/-- The slot in use is B. -/
def State.slotB (s : State) : Bool := s.bit R.MGMT_STATUS F.MGMT_STATUS_SLOT

/-- The slot selector copy in force: the valid one with the higher write count (R392). -/
def Flash.sel (f : Flash) : Selector :=
  if f.selA.valid && (!f.selB.valid || decide (f.selB.count ≤ f.selA.count)) then f.selA else f.selB

/-- Write the slot selector: the copy that is not in force takes the new contents and the next count (R392). -/
def Flash.putSel (f : Flash) (active prev confirmed : Bool) : Flash :=
  let n : Selector := ⟨active, prev, confirmed, f.sel.count + 1, true, false⟩
  if f.selA.valid && (!f.selB.valid || decide (f.selB.count ≤ f.selA.count)) then { f with selB := n } else { f with selA := n }

def State.updMgmt (s : State) (f : Mgmt → Mgmt) : State := { s with mgmt := f s.mgmt }
def State.updFlash (s : State) (f : Flash → Flash) : State := s.updMgmt fun m => { m with flash := f m.flash }

/-! ## FW_UPDATE (R401) -/

/-- Phase 1: the status of the first check that fails, or 0. -/
def updateCheck (s : State) (kind : Nat) (b : Bytes) : Nat :=
  let key := if kind = 0 then Config.rootKey else if kind = 1 then s.ownerRoot else s.ownerKey
  if !objForm b kind then 0x10
  else if (kind = 2 && s.mgmt.ownRec.isEmpty) || !objSigned b key then 0x15
  else if kind = 0 && decide (objWord b 12 < s.minSec) then 0x10
  else if kind = 1 && (match s.ownerSeq with
    | some n => decide (objWord (objBody b) 48 ≤ n)
    | none => false) then 0x10
  else 0

/-- RESULT word 2: VERSION, or OWNERSHIP_SEQ for kind 1. -/
def updateResult (kind : Nat) (b : Bytes) : Nat := if kind = 1 then objWord (objBody b) 48 else objWord b 8

/-- A restart follows the update where ACTIVATE asks for it. -/
def endUpdate (o : LongOp) (w3 : Nat) (s : State) : State :=
  let s1 := if (o.cmd.w 5).testBit 8 then s.updMgmt fun m => { m with activate := true } else s
  endOp s1 o.cmd.tag 0 (updateResult (o.cmd.w 5 % 16) o.data) w3

/-- Write the next 64 KiB block to the inactive slot. -/
def updateBlock (o : LongOp) (s : State) : State :=
  let b := o.data.take (o.pos + 65536)
  let s1 := s.updFlash fun f => if s.slotB then { f with slotA := b } else { f with slotB := b }
  updOp s1 o.cmd.tag fun o => { o with pos := o.pos + 65536 }

/-- A stretch of FW_UPDATE: the check; a block of the slot, or the record, whose write is its commit point; the selector write,
which is the commit point of firmware. -/
def opFwUpdate (o : LongOp) (s : State) : State :=
  let kind := o.cmd.w 5 % 16
  if !o.begun then
    let b := s.hostRead (o.cmd.w64 2) (min (o.cmd.w 4) (2 ^ 23 + 1))
    let st := if 2 < kind then 0x10 else updateCheck s kind b
    if st ≠ 0 then endOp s o.cmd.tag st 0 0 else updOp s o.cmd.tag fun o => { o with begun := true, data := b }
  else if kind = 1 then endUpdate o 0 (s.updFlash fun f => { f with owner := o.data })
  else if kind = 2 then endUpdate o 0 (s.updFlash fun f => { f with config := o.data })
  else if o.pos < o.data.length then updateBlock o s
  else endUpdate o (if s.slotB then 0 else 1) (s.updFlash fun f => f.putSel (!s.slotB) s.slotB false)

def execFwUpdate (tag : BitVec 16) (s : State) : Result := .next (longOp 0x16 tag.toNat opFwUpdate s)

/-! ## ATTEST (R399, R400) -/

/-- Measurement register r as 32 bytes. -/
def State.measure (s : State) (r : Nat) : Bytes := leWords ((List.range 8).map fun w => (s.rd (R.MGMT_MEASURE r w)).toNat)

/-- Set a measurement register. -/
def setMeasure (s : State) (r : Nat) (b : Bytes) : State :=
  (toLeWords 8 b).zipIdx.foldl (fun s x => s.wr (R.MGMT_MEASURE r x.2) (BitVec.ofNat 32 x.1)) s

/-- M4: the images and limits of the 128 engines. -/
def engineMeasure (s : State) : Bytes :=
  sha256 ((List.range 128).flatMap fun e => leWords
    [(s.rd (engReg R.ENGINE_IMAGE_ID e)).toNat, s.fld (engReg R.ENGINE_IMEM_CTRL e) F.ENGINE_IMEM_CTRL_LIMIT,
     (s.rd (engReg R.ENGINE_IMEM_CRC e)).toNat, s.engState e])

/-- Flags of the report. -/
def reportFlags (s : State) : Nat :=
  let b := fun (x : Bool) n => if x then n else 0
  b (s.bit R.DEVICE_ID F.DEVICE_ID_SAMPLE) 1 + b (s.bit R.MGMT_STATUS F.MGMT_STATUS_OWNED) 2 +
    b (s.bit R.MGMT_STATUS F.MGMT_STATUS_TRIAL) 4 + b s.mgmt.fellBack 8 +
    b (s.bit R.INTEG_STATUS F.INTEG_STATUS_TIME_VALID) 16

/-- The attestation report (Table 15.5). -/
def attestReport (s : State) (nonce : Bytes) : Bytes :=
  leBytes 0x31544156 4 ++ leBytes 1 2 ++ leBytes (reportFlags s) 2 ++ leBytes (s.rd R.DEVICE_ID).toNat 4 ++
  leBytes s.mgmt.reports 4 ++ nonce ++ s.mgmt.pub ++
  (if s.mgmt.ownRec.isEmpty then zeros 32 else padTo 32 s.ownerKey) ++ (List.range 8).flatMap s.measure ++
  leBytes (s.rd R.MGMT_FW_VERSION).toNat 4 ++ leBytes s.mgmt.secVersion 4 ++ leBytes s.logTime 4 ++ leBytes s.now 4 ++
  leBytes s.wraps 4 ++ leBytes s.mgmt.flash.manuf.cert.length 4 ++ leBytes s.pwr.aon 8 ++
  leBytes (s.rd R.DIE_STATUS).toNat 4 ++ leBytes (s.rd R.OPTICAL_STATUS).toNat 4 ++ zeros 8

/-- No older ATTEST is outstanding: attestations run one at a time. -/
def State.attestTurn (s : State) (tag : Nat) : Bool :=
  match s.host.ops.find? fun o => o.cmd.op == 0x17 && !o.ended with
  | some o => o.cmd.tag == tag
  | none => false

/-- A stretch of ATTEST: the report is made and signed; then it is written, which is the commit point. -/
def opAttest (o : LongOp) (s : State) : State :=
  let need := 416 + 7856 + s.mgmt.flash.manuf.cert.length
  if !s.attestTurn o.cmd.tag then s
  else if s.mgmt.idFailed then endOp s o.cmd.tag 0x1F 0 0
  else if !s.bit R.MGMT_STATUS F.MGMT_STATUS_IDENTITY_OK then s
  else if !o.begun then
    if o.cmd.w 6 < need then endOp s o.cmd.tag 0x10 0 0
    else
      let s1 := setMeasure (s.updMgmt fun m => { m with reports := m.reports + 1 }) 4 (engineMeasure s)
      let rep := attestReport s1 (s.hostRead (o.cmd.w64 2) 32)
      let out := rep ++ padTo 7856 (Config.slhSign s.mgmt.seed rep) ++ s.mgmt.flash.manuf.cert
      updOp s1 o.cmd.tag fun o => { o with begun := true, data := out }
  else endOp (s.hostWrite (o.cmd.w64 4) o.data) o.cmd.tag 0 o.data.length 0

def execAttest (tag : BitVec 16) (s : State) : Result := .next (longOp 0x17 tag.toNat opAttest s)

/-! ## LOGBOOK_READ (R349, R374) -/

/-- A record's CRC holds. -/
def bookGood (ws : List Nat) : Bool := ws.length == 16 && crc32c (leWords (ws.take 15)) == ws.getD 15 0

/-- The logbook's good records from the oldest. -/
def State.bookList (s : State) : List (List Nat) :=
  let all := s.integ.book
  let next := s.integ.written % 65536
  let order := if s.integ.written < 65536 then all
    else all.filter (fun x => decide (next ≤ x.1)) ++ all.filter (fun x => decide (x.1 < next))
  (order.map (·.2)).filter bookGood

/-- Up to n records from a sequence on, oldest first; from the oldest where the sequence has left the logbook. -/
def State.bookFrom (s : State) (first n : Nat) : List (List Nat) :=
  (s.bookList.filter fun ws => decide (first ≤ ws.getD 1 0)).take n

/-- A stretch of LOGBOOK_READ: the records are found; then each is written. The sequence of the first is open where there is
none. -/
def opLogbookRead (o : LongOp) (s : State) : State :=
  let n := o.cmd.w 3
  if !o.begun then
    if n = 0 ∨ 65536 < n then endOp s o.cmd.tag 0x10 0 0
    else match s.bookFrom (o.cmd.w 2) n with
      | [] =>
        let (x, s1) := s.drawFree 32
        endOp s1 o.cmd.tag 0 0 x
      | ws :: rest =>
        updOp s o.cmd.tag fun o => { o with begun := true, w3 := ws.getD 1 0, data := (ws :: rest).flatMap leWords }
  else
    let s1 := s.hostWrite (o.cmd.w64 4 + o.pos) ((o.data.drop o.pos).take 64)
    if o.data.length ≤ o.pos + 64 then endOp s1 o.cmd.tag 0 (o.w2 + 1) o.w3
    else updOp s1 o.cmd.tag fun o => { o with pos := o.pos + 64, w2 := o.w2 + 1 }

def execLogbookRead (tag : BitVec 16) (s : State) : Result := .next (longOp 0x18 tag.toNat opLogbookRead s)

end Sys2Proof.Machine
end

