-- ==== Sys2Proof/Machine/Tick.lean ====
section
/-! DEFINITION. One core cycle of 0.625 ns without a command (R27, R100, R110, R244). -/

namespace Sys2Proof.Machine

/-- The device is in P3: only the always-on domain runs (R410). -/
def State.inP3 (s : State) : Bool := s.fld R.PWR_STATUS F.PWR_STATUS_STATE == 3

/-- What one core cycle adds to the pair WRAPS, fabric time, in 2^-56 ns: 0.625 ns × (1 + f) (R100, R104). -/
def cycleStep (f : Int) : Int := 5 * 2 ^ 53 + 5 * 2 ^ 13 * f

/-- The I/O die has its rails (R411, R440). -/
def State.ioUp (s : State) : Bool := s.bit R.PWR_STATUS F.PWR_STATUS_PWR_GOOD && s.pwr.railEn && s.pwr.vaux

/-- The always-on counter counts every 64 core cycles, which are 40 ns, while VAUX is present (R110). -/
def tickAon (s : State) : State :=
  if s.cycle % 64 = 0 ∧ s.pwr.vaux then { s with pwr := { s.pwr with aon := (s.pwr.aon + 1) % 2 ^ 64 } } else s

/-- The engine whose ENGINE_PMC_CTRL stands at an address, die × 16 + engine. -/
def pmcEngine (a : Nat) : Option Nat :=
  let o := a % 0x1000000
  if 0x10000000 ≤ a ∧ a < 0x18000000 ∧ 0xA00000 ≤ o ∧ o < 0xB00000 ∧ 0x80 ≤ o % 0x10000 ∧ o % 0x10000 < 0x100 ∧ o % 16 = 0 then
    some ((a - 0x10000000) / 0x1000000 * 16 + (o - 0xA00000) / 0x10000)
  else none

/-- Programmable counters of cycles gated or not gated (codes 0x02 and 0x03) count this one (R244). -/
def tickPmc (s : State) : State :=
  ((s.regs.filterMap fun r => pmcEngine r.1).dedup).foldl (fun s e =>
    pmc s e (if s.bit (engReg R.ENGINE_STATUS e) F.ENGINE_STATUS_GATED then 3 else 2) 1) s

/-- The core clock of the switch dies runs: not in P2 nor P3 (R243, R410). -/
def State.coreRuns (s : State) : Bool := decide (s.fld R.PWR_STATUS F.PWR_STATUS_STATE < 2)

/-- What a cycle of the core clock counts. -/
def tickCore (s : State) : State :=
  if s.coreRuns then tickPmc { s with pwr := { s.pwr with clk := s.pwr.clk + 1 } } else s

/-- One cycle of 0.625 ns. -/
def tick (s : State) : State :=
  let s1 := tickAon { s with cycle := s.cycle + 1 }
  if s1.inP3 || !s1.ioUp then s1 else tickCore (moveTime s1 (cycleStep (s1.time.f + s1.time.tenAdj)))

end Sys2Proof.Machine
end

