-- ==== Sys2Proof/Machine/Resets.lean ====
section
/-! DEFINITION. What resets and power states keep and clear (R336, R356, R379, R411, R417, R424, R453): the bodies that the rows of
power and reset share. -/

namespace Sys2Proof.Machine

/-! ## Registers by block -/

/-- Always-on registers (R417, R429): they outlast everything but power-on and an always-on brown-out. -/
def isAon (a : Nat) : Bool :=
  [0x01400000, 0x01400010, 0x01400014, 0x01400018, 0x0140001C, 0x01400020, 0x01400044, 0x015000A0, 0x01500300].elem a

/-- Registers that a reset of the PCIe endpoint returns to their reset values (Table 14.30). -/
def isEndpoint (a : Nat) : Bool :=
  a == 0x200 || a == 0x300 || (decide (0x8000 ≤ a) && decide (a < 0xA000)) ||
    (decide (0x01100000 ≤ a) && decide (a < 0x01102000)) || (decide (0x01200000 ≤ a) && decide (a < 0x01200100))

/-- Registers that a warm reset keeps: the time unit, power, management and integrity blocks, the memory-side dies, DEVICE_ID, DIE_STATUS,
and the MSI-X table (Tables 14.30, 16.9). -/
def warmKeeps (a : Nat) : Bool :=
  a == 0 || a == 0x10 || (decide (0x8000 ≤ a) && decide (a < 0xA000)) ||
    (decide (0x01300000 ≤ a) && decide (a < 0x01600000)) || (decide (0x08000000 ≤ a) && decide (a < 0x0A000000))

/-- Registers of the optical engines. -/
def isOptical (a : Nat) : Bool := decide (0x0C000000 ≤ a) && decide (a < 0x0D000000)

/-- Registers of a die's mesh block, and DIE_PWR_STATUS. -/
def isMesh (a : Nat) : Bool :=
  decide (0x10000000 ≤ a) && decide (a < 0x18000000) && decide (0x408000 ≤ a % 0x1000000) && decide (a % 0x1000000 < 0x409000)
def isDiePwr (a : Nat) : Bool := decide (0x01400100 ≤ a) && decide (a < 0x01400180)

/-- Keep the registers whose address satisfies p; the others return to their reset values. -/
def keepRegs (p : Nat → Bool) (s : State) : State :=
  { s with regs := s.regs.filter fun r => p r.1, heldLow := [], capHigh := [] }

/-- Lanes with nothing but the light on their fibres. -/
def darkLanes (s : State) : SMap Lane :=
  s.lanes.filterMap fun l => if l.2.light then some (l.1, { Lane.init with light := true }) else none

/-! ## Units that stay retired (R356) -/

/-- Reapply the retired states of the logbook. -/
def reapply (s : State) : State :=
  s.integ.units.foldl (fun s u =>
    let k := u.1 / 2 ^ 20
    let d := u.1 / 2 ^ 16 % 16
    let n := u.1 % 65536
    if u.2.state ≠ 3 then s
    else
      let s1 := if k = 4 then s.setEngState (d * 16 + n) 7
        else if k = 6 ∨ k = 7 ∨ k = 8 then retireEffect s k d n else s
      let mask := s1.fld R.DIE_STATUS F.DIE_STATUS_DIE_FAULT
      let us := dieUnits d
      if !us.isEmpty && us.all (fun u => s1.isRetired u.1 d u.2) then
        s1.setF R.DIE_STATUS F.DIE_STATUS_DIE_FAULT (setMaskBit mask d true)
      else s1) s

/-! ## The management processor stops (R379, R391, R394, R398) -/

/-- The processor restarts: boot begins again, BOOT_LOCK and the identity go. Requests that wait stay (R404). DEVICE_ID.SAMPLE and ID_VALID
read what the last boot loaded until stage 1 loads them again: R2 leaves open what they read meanwhile (DESIGN CHOICE, log entry 87). -/
def stopMgmt (s : State) : State :=
  let m := R.MGMT_STATUS
  let s1 := ((s.setF m F.MGMT_STATUS_BOOT_STAGE 0).setF m F.MGMT_STATUS_BOOT_LOCKED 0).setF m F.MGMT_STATUS_IDENTITY_OK 0
  let s2 := s1.setF R.MGMT_BOOT_CTRL F.MGMT_BOOT_CTRL_BOOT_LOCK 0
  { s2 with mgmt := { s2.mgmt with pub := [], seed := [], idFailed := false, activate := false }
            pwr := { s2.pwr with released := true } }

/-- The processor restarts while commands run: long operations follow R379. -/
def restartMgmt (s : State) : State := stopMgmt (restartOps s)

/-! ## Commands and DMA (R379, R453) -/

/-- Pending rows of loads that are abandoned. -/
def dropLoads (s : State) : State :=
  s.host.ops.foldl (fun s o => if o.cmd.op = 0x13 && !o.committed then freeLoad s o else s) s

/-- The host interface after a reset: commands abandoned, channels stopped; the level of PERST_N stays. -/
def freshHost (s : State) : HostIf := { HostIf.init with perst := s.host.perst, perstP3 := s.host.perstP3 }

/-- A reset of the PCIe endpoint (R428, R453). -/
def resetEndpoint (s : State) : State :=
  let s1 := keepRegs (fun a => !isEndpoint a) (dropLoads s)
  reapply { s1 with host := freshHost s1, heldLow := s.heldLow, capHigh := s.capHigh }

/-! ## Dispatches that a reset ends in the Hold (R330, R336) -/

/-- Row operations end: staged writes not committed are discarded and locks released. -/
def dropHoldOps (s : State) : State :=
  let s1 := s.hold.scatters.foldl (fun s x => if x.settled then s else discardStaged s x.engine x.serial) s
  { s1 with hold := { s1.hold with locks := [], ops := [], staged := [], scatters := [], gathers := [] } }

/-! ## Warm reset (R424) -/

/-- Dies and optical engines that are down, in the order of Table 16.2: dies by number, optical engine n as 16 + n. -/
def State.downList (s : State) : List Nat :=
  let up := s.fld R.DIE_STATUS F.DIE_STATUS_DIE_UP
  let oe := s.fld R.OPTICAL_STATUS F.OPTICAL_STATUS_ENGINE_UP
  ([8, 9] ++ List.range 8).filter (fun d => !up.testBit d) ++ ((List.range 16).filter fun n => !oe.testBit n).map (16 + ·)

/-- What a warm reset does once the datapath has been held: switch dies, optical engines, knots, tables, commands and DMA start again;
the dies that are down restart by R412. -/
def warmBody (s : State) : State :=
  let s1 := keepRegs (fun a => warmKeeps a && !isDiePwr a) (dropHoldOps (dropLoads s))
  let up := s1.fld R.DIE_STATUS F.DIE_STATUS_DIE_UP
  let fault := s1.fld R.DIE_STATUS F.DIE_STATUS_DIE_FAULT
  let s2 := (s1.setF R.DIE_STATUS F.DIE_STATUS_DIE_UP (up / 256 * 256)).setF R.DIE_STATUS F.DIE_STATUS_DIE_FAULT (fault / 256 * 256)
  let s3 : State := { s2 with
    frames := [], links := [], ports := [], lanes := darkLanes s2, lany := [], dies := [], tabs := Tables.init, engines := [],
    knots := [], host := freshHost s2, pwr := { s2.pwr with clk := 0, hold := false, request := [] } }
  reapply { s3 with pwr := { s3.pwr with stagger := s3.downList } }

/-! ## Cold reset and power-on reset (R411, R424) -/

/-- The integrity collector after a reset of the I/O die: the logbook and the units' states stay; what waited in the die is lost. -/
def coldInteg (g : Integ) (tick : Nat) : Integ :=
  { g with queue := [], toBook := [], corrAt := [], corrN := [], fresh := [], unacked := [], logTick := tick }

/-- The management processor's lasting state: flash, the session key, the I3C target, and counts since power-on. -/
def coldMgmt (m : Mgmt) : Mgmt :=
  { Mgmt.init with flash := m.flash, key := m.key, keyGot := m.keyGot, reports := m.reports, high := m.high, seen := m.seen,
                   wakeCount := m.wakeCount, aonTag := m.aonTag, mwl := m.mwl, mrl := m.mrl, rstact := m.rstact }

/-- Every die and optical engine, the Hold and the processor start again; the always-on domain and the logbook stay. Fabric time begins
at 0 in FREE_RUN (R110); LOG_TIME runs on, and is as valid as it was since power-on (R352). -/
def coldBody (s : State) : State :=
  let good := s.fld R.PWR_STATUS F.PWR_STATUS_PWR_GOOD
  let wd := s.fld R.MGMT_STATUS F.MGMT_STATUS_WD_RESTARTS
  let t : State := { State.reset with
    regs := s.regs.filter fun r => isAon r.1, cycle := s.cycle, nextFrame := s.nextFrame, lanes := darkLanes s,
    hostMem := s.hostMem, host := freshHost s, integ := coldInteg s.integ s.pwr.aon, mgmt := coldMgmt s.mgmt, out := s.out,
    free := s.free, pending := s.pending,
    time := { TimeUnit.init with savedFab := s.time.savedFab, savedTick := s.time.savedTick },
    pwr := { s.pwr with clk := 0, hold := false, request := [], stagger := [], released := false } }
  let t1 := (t.setF R.PWR_STATUS F.PWR_STATUS_PWR_GOOD good).setF R.MGMT_STATUS F.MGMT_STATUS_WD_RESTARTS wd
  let t2 := t1.setF R.INTEG_STATUS F.INTEG_STATUS_TIME_VALID (s.fld R.INTEG_STATUS F.INTEG_STATUS_TIME_VALID)
  reapply (t2.wr R.INTEG_LOG_TIME (BitVec.ofNat 32 s.logTime))

/-- The processor is released where the rails are good and wanted (R411, R440). -/
def release (s : State) : State :=
  if s.ioUp && !s.pwr.tripped then
    { s with pwr := { s.pwr with released := true } }
  else s

/-- LOG_TIME of the newest record of the logbook (R352). -/
def State.newestTime (s : State) : Nat :=
  if s.integ.written = 0 then 0 else (sget s.integ.book ((s.integ.written - 1) % 65536) []).getD 2 0

/-- A power-on start: the always-on domain too begins at its reset values (R411, R418). -/
def powerOnBody (s : State) : State :=
  let t0 := coldBody { s with regs := s.regs.filter fun r => r.1 == 0x01400004 }
  let pwr := { Power.init with dieTemp := s.pwr.dieTemp, bands := s.pwr.bands, tellBrown := s.pwr.tellBrown }
  let mgmt := { Mgmt.init with flash := s.mgmt.flash }
  let t1 := t0.setF R.MGMT_STATUS F.MGMT_STATUS_WD_RESTARTS 0
  let t2 : State := { t1 with pwr := pwr, mgmt := mgmt, time := TimeUnit.init, integ := { coldInteg t1.integ 0 with heartAt := 0 } }
  t2.wr R.INTEG_LOG_TIME (BitVec.ofNat 32 s.newestTime)

/-! ## P2 (R420) -/

/-- Ports that are not quarantined, by die and port. -/
def State.livePorts (s : State) : List (Nat × Nat) :=
  s.regs.filterMap fun r =>
    let o := r.1 % 0x1000000
    if 0x10000000 ≤ r.1 ∧ r.1 < 0x18000000 ∧ o < 130 * 0x1000 ∧ o % 0x1000 = 0x70C ∧ 0x20000000 ≤ r.2.toNat then
      some ((r.1 - 0x10000000) / 0x1000000, o / 0x1000)
    else none

/-- An engine in retention: instruction memory and state SRAM stay. -/
def retained (g : Engine) : Engine :=
  { Engine.init with imem := g.imem, core := { Core.init with sram := g.core.sram }, serial := g.serial, base := g.base,
                     xdone := g.xdone, tagSeq := g.tagSeq }

/-- Every engine that runs is halted. -/
def haltAll (s : State) : State :=
  (List.range 128).foldl (fun s e =>
    if s.engState e = 2 ∨ s.engState e = 3 ∨ s.engState e = 4 ∨ s.engState e = 5 then enterHalted s e else s) s

/-- Entry to P2: ports quarantined, engines halted, the packet buffer discarded, switch dies in retention, optical engines down. -/
def enterP2 (s : State) : State :=
  let s1 := haltAll (s.livePorts.foldl (fun s x => writeQuarantine x.1 x.2 s) s)
  let s2 := keepRegs (fun a => !isOptical a && !isMesh a) s1
  let s3 : State := { s2 with
    frames := [], links := [], ports := [], lanes := darkLanes s2, lany := [], dies := [],
    engines := s2.engines.map fun g => (g.1, retained g.2) }
  let up := s3.fld R.DIE_STATUS F.DIE_STATUS_DIE_UP
  reapply ((s3.setF R.DIE_STATUS F.DIE_STATUS_DIE_UP (up / 256 * 256)).setF R.OPTICAL_STATUS F.OPTICAL_STATUS_ENGINE_UP 0)

end Sys2Proof.Machine
end

