-- ==== Sys2Proof/Machine/Power.lean ====
section
/-! DEFINITION. Power states, wake, resets, staggered start, adaptive voltage and throttling (chapter 16, R428, R440, R444, R445). -/

namespace Sys2Proof.Machine

def State.updPwr (s : State) (f : Power → Power) : State := { s with pwr := f s.pwr }

/-- State of the device, P0 to P3 as 0 to 3, and the target of the transition in progress, 15 for none (R419). -/
def State.pState (s : State) : Nat := s.fld R.PWR_STATUS F.PWR_STATUS_STATE
def State.pTarget (s : State) : Nat := s.fld R.PWR_STATUS F.PWR_STATUS_TRANSITION
def setPState (s : State) (n : Nat) : State := s.setF R.PWR_STATUS F.PWR_STATUS_STATE n
def setPTarget (s : State) (n : Nat) : State := s.setF R.PWR_STATUS F.PWR_STATUS_TRANSITION n
def setPLast (s : State) (st : Nat) : State := s.setF R.PWR_STATUS F.PWR_STATUS_LAST_STATUS st
def State.pwrGood (s : State) : Bool := s.bit R.PWR_STATUS F.PWR_STATUS_PWR_GOOD

/-- Drive RAIL_EN (R411). -/
def driveRails (s : State) (b : Bool) : State := (s.updPwr fun p => { p with railEn := b }).emit (.pin "RAIL_EN" b)

/-! ## Rank of resets (R425) -/

/-- A transition in progress ends with CANCELLED; a restart of dies from P2 starts no more of them. -/
def cancelTransition (s : State) : State :=
  if s.pTarget = 15 then s
  else (setPLast (setPTarget s 15) 1).updPwr fun p => { p with latched := false, stagger := if s.pTarget < 2 then [] else p.stagger }

/-- A reset of a rank is requested: absorbed where a higher or equal one runs, else it takes over. -/
def requestReset (lvl : Nat) (go : State → State) (s : State) : State :=
  if lvl ≤ s.pwr.level then s.setBit R.RESET_CAUSE F.RESET_CAUSE_ABSORBED
  else go ((cancelTransition s).updPwr fun p => { p with level := lvl })

/-- A cold or warm reset holds the datapath for 1 µs: frames in transmission are truncated, and admitted ports send QUARANTINED
(R426). -/
def holdDatapath (s : State) : State :=
  (s.livePorts.foldl (fun s x => truncateTx s x.1 x.2) s).updPwr fun p => { p with hold := true, holdAt := s.cycle }

def requestCold (s : State) : State := requestReset 4 holdDatapath s
def requestWarm (s : State) : State := requestReset 3 holdDatapath s

/-- RESET_HOLD_DONE: after 1 µs, 1,600 core cycles, the requested cold or warm reset takes effect. -/
def doHoldDone (s : State) : State :=
  if !s.pwr.hold || decide (s.cycle < s.pwr.holdAt + 1600) then s
  else if s.pwr.level = 4 then release (coldBody s)
  else
    let t := warmBody s
    if t.pState = 2 then setPState t 0 else t

def execResetHoldDone (s : State) : Result := .next (doHoldDone s)

/-! ## Wake (R421, R423) -/

/-- A wake source asserts: its bit of SOURCES; FIRST where it is the first, or has a lower code than one of the same cycle. -/
def noteWake (code : Nat) (first : Bool) (s : State) : State :=
  let r := R.WAKE_SOURCE
  let s1 := s.setF r F.WAKE_SOURCE_SOURCES (setMaskBit (s.fld r F.WAKE_SOURCE_SOURCES) (code - 1) true)
  if first then (s1.setF r F.WAKE_SOURCE_FIRST code).updPwr fun p => { p with wakeAt := s.cycle }
  else if s.pwr.wakeAt = s.cycle then s1.setF r F.WAKE_SOURCE_FIRST (min code (s.fld r F.WAKE_SOURCE_FIRST))
  else s1

/-- The rails are good: the device starts as from a cold reset, in P0, with fabric time reloaded in state COARSE (R110). -/
def wakeStart (s : State) : State :=
  let fab := (s.time.savedFab + (s.pwr.aon + 2 ^ 64 - s.time.savedTick) % 2 ^ 64 * 40 * 2 ^ 56) % 2 ^ 120
  setTimeState ((setPState s 0).updPwr (fun p => { p with waking := false, latched := false, released := true }) |>.updTime
    fun t => { t with fab := fab }) tsCoarse

/-- A wake begins: the rails come up, and the start follows when they are good. -/
def beginWake (s : State) : State :=
  let s1 := driveRails (s.updPwr fun p => { p with waking := true, level := 4 }) true
  if s1.ioUp then wakeStart s1 else s1

/-- A wake source that is enabled asserts: it wakes the device from P3, aborts an entry that has not latched the pads, or
follows one that has. -/
def wakeSource (code : Nat) (s : State) : State :=
  if s.pState = 3 then
    let s1 := noteWake code (!s.pwr.waking) s
    if s.pwr.waking then s1 else beginWake s1
  else if s.pTarget = 3 then
    if s.pwr.latched then (noteWake code (!s.pwr.waking) s).updPwr fun p => { p with waking := true }
    else noteWake code true (cancelTransition s)
  else s

/-- Whether the timer's value has passed. -/
def State.timerPassed (s : State) : Bool :=
  s.bit R.WAKE_EN F.WAKE_EN_TIMER && decide (s.rd64 R.WAKE_TIMER R.WAKE_TIMER_HI ≤ s.pwr.aon)

/-- WAKE_TIMER_EXPIRE: a value already passed when the entry began does not abort it. -/
def doWakeTimer (s : State) : State :=
  let early := s.pState != 3 && decide (s.rd64 R.WAKE_TIMER R.WAKE_TIMER_HI ≤ s.time.savedTick)
  if s.timerPassed && !early then wakeSource 4 s else s

def execWakeTimerExpire (s : State) : Result := .next (doWakeTimer s)

/-- GPIO_WAKE: an edge on GPIO i. -/
def doGpioWake (i : Nat) (rising : Bool) (s : State) : State :=
  if (s.fld R.WAKE_EN F.WAKE_EN_GPIO).testBit i && (s.fld R.WAKE_EN F.WAKE_EN_GPIO_POL).testBit i == rising then wakeSource (5 + i) s
  else s

def execGpioWake (i : Fin 4) (rising : Bool) (s : State) : Result := .next (doGpioWake i.val rising s)

/-! ## Power states (R419 to R422) -/

/-- What P2 asks for: knots FREE or FLUSHED, no transaction open or pending, no long operation but LOGBOOK_READ. -/
def State.mayEnterP2 (s : State) : Bool :=
  s.knots.all (fun k => k.2.state == 0 || k.2.state == 3) && s.txn != txOpen && s.txn != txPending &&
    s.host.ops.all fun o => o.cmd.op == 0x18

/-- A request for a state (R420). A request for P2 in P2 changes nothing; which code of Table 0.8 it leaves is
free (log entry 2). -/
def requestState (target : Nat) (s : State) : State :=
  let st := s.pState
  if target < 2 then
    if st = 2 then (setPTarget s target).updPwr fun p => { p with stagger := s.downList }
    else setPLast (setPState s target) 0
  else if target = 2 then
    if st = 2 then let (v, s1) := s.drawCode (0 :: failCodes); setPLast s1 v
    else if s.mayEnterP2 then
      setPTarget ((enterP2 s).updPwr fun p => { p with stagger := [], level := if p.level = 3 then 0 else p.level }) 2
    else setPLast s stBadArgument
  else if st = 2 then
    (setPTarget s 3).updTime fun t => { t with savedFab := s.time.fab, savedTick := s.pwr.aon }
  else setPLast s stBadArgument

/-- A write of PWR_CTRL: refused while a transition runs; else AON_LP_EN, and the state its TARGET names (values above 3 name none). -/
def writePwrCtrl (target : Nat) (lp : Bool) (s : State) : State :=
  if s.pTarget ≠ 15 then setPLast s stBadArgument
  else
    let s1 := s.setF R.PWR_CTRL F.PWR_CTRL_AON_LP_EN lp.toNat
    if target ≤ 3 then requestState target s1 else s1

def execPwrTargetP0 (lp : Bool) (s : State) : Result := .next (writePwrCtrl 0 lp s)
def execPwrTargetP1 (lp : Bool) (s : State) : Result := .next (writePwrCtrl 1 lp s)
def execPwrTargetP2 (lp : Bool) (s : State) : Result := .next (writePwrCtrl 2 lp s)
def execPwrTargetP3 (lp : Bool) (s : State) : Result := .next (writePwrCtrl 3 lp s)

/-- The last steps of an entry to P3: PLLs stop and RAIL_EN goes low; what is not always-on is lost. A source that has asserted, or a
timer value already passed, wakes the device at once (R421, R423). -/
def enterP3 (s : State) : State :=
  let t := driveRails (setPState (coldBody (setPLast (setPTarget s 15) 0)) 3) false
  let t1 := t.updPwr fun p => { p with level := 0 }
  if s.pwr.waking then beginWake t1
  else if t1.timerPassed then beginWake (noteWake 4 true t1)
  else t1

/-- PWR_TRANSITION_DONE: a transition ends. An entry to P3 ends in two parts: the pads are latched, and then the rest follows. -/
def doTransitionDone (s : State) : State :=
  if s.pTarget = 2 then setPLast (setPTarget (setPState s 2) 15) 0
  else if s.pTarget < 2 then
    if s.pwr.stagger.isEmpty then setPLast (setPTarget (setPState s s.pTarget) 15) 0 else s
  else if s.pTarget = 3 then
    if s.pwr.latched then enterP3 s
    else (s.setBit R.PAD_RELEASE F.PAD_RELEASE_HELD).updPwr fun p => { p with latched := true }
  else s

def execPwrTransitionDone (s : State) : Result := .next (doTransitionDone s)

/-- A write of PAD_RELEASE: GO releases the pads. -/
def releasePads (s : State) : State := s.setF R.PAD_RELEASE F.PAD_RELEASE_HELD 0

def execPadReleaseGo (s : State) : Result := .next (releasePads s)

/-! ## Rails (R411, R416, R418) -/

/-- POWER_ON_RESET: VAUX rises; the slot pins are sampled (R445). -/
def doPowerOn (slot : BitVec 4) (s : State) : State :=
  let brown := s.fld R.RESET_CAUSE F.RESET_CAUSE_AON_BROWNOUT
  let t := powerOnBody s
  let t1 := (t.setF R.I3C_STATUS F.I3C_STATUS_SLOT slot.toNat).setF R.RESET_CAUSE F.RESET_CAUSE_AON_BROWNOUT brown
  release (driveRails t1 true)

def execPowerOnReset (slot : BitVec 4) (s : State) : Result := .next (doPowerOn slot s)

/-- AON_BROWNOUT: the always-on domain is lost but for the latch of its cause. -/
def doBrownout (s : State) : State :=
  let slot := s.fld R.I3C_STATUS F.I3C_STATUS_SLOT
  let t := (powerOnBody s).setF R.I3C_STATUS F.I3C_STATUS_SLOT slot
  let t1 := (t.setBit R.RESET_CAUSE F.RESET_CAUSE_AON_BROWNOUT).updPwr fun p => { p with tellBrown := true }
  release (driveRails t1 true)

def execAonBrownout (s : State) : Result := .next (if s.pwr.vaux then doBrownout s else s)

/-- VAUX_REMOVAL: everything volatile is lost, and THERMTRIP_N is released. -/
def doVauxRemoval (s : State) : State :=
  let t := driveRails ((powerOnBody s).updPwr fun p => { p with vaux := false, tellBrown := false }) false
  if s.pwr.tripped then t.emit (.pin "THERMTRIP_N" true) else t

def execVauxRemoval (s : State) : Result := .next (doVauxRemoval s)

/-- PWR_GOOD_RISE: the I/O die is released into boot, or a wake starts. -/
def doGoodRise (s : State) : State :=
  if s.pwrGood then s
  else
    let s1 := s.setBit R.PWR_STATUS F.PWR_STATUS_PWR_GOOD
    if s1.ioUp && s.pwr.waking && s.pState == 3 then wakeStart s1
    else if s.pState = 3 then s1
    else release s1

def execPwrGoodRise (s : State) : Result := .next (doGoodRise s)

/-- PWR_GOOD_FALL: a cold reset at once while RAIL_EN is high, held until PWR_GOOD rises. -/
def doGoodFall (s : State) : State :=
  if !s.pwrGood then s
  else
    let s1 := s.setF R.PWR_STATUS F.PWR_STATUS_PWR_GOOD 0
    if !s.pwr.railEn then s1
    else
      let s2 := s1.setBit R.RESET_CAUSE F.RESET_CAUSE_COLD_REG
      let s3 := if 4 ≤ s.pwr.level then s2.setBit R.RESET_CAUSE F.RESET_CAUSE_ABSORBED else cancelTransition s2
      coldBody (s3.updPwr fun p => { p with level := max 4 p.level })

def execPwrGoodFall (s : State) : Result := .next (doGoodFall s)

/-- THERMTRIP (R416): THERMTRIP_N low, RAIL_EN low, cold reset held; nothing is sent. -/
def thermTrip (s : State) : State :=
  let s1 := (cancelTransition s).setBit R.RESET_CAUSE F.RESET_CAUSE_THERMTRIP
  driveRails ((coldBody (s1.updPwr fun p => { p with tripped := true, tellTrip := true, level := max 4 p.level })).emit
    (.pin "THERMTRIP_N" false)) false

/-! ## Reset triggers (R424 to R428, R444, R445) -/

/-- RESET_PIN: a low of RESET_N of 1 µs. -/
def doResetPin (s : State) : State :=
  let s1 := s.setBit R.RESET_CAUSE F.RESET_CAUSE_RESET_PIN
  if s.pwr.tripped then
    release (driveRails ((s1.updPwr fun p => { p with tripped := false }).emit (.pin "THERMTRIP_N" true)) true)
  else if s.pState = 3 ∨ (s.pTarget = 3 ∧ s.pwr.latched) then wakeSource 9 s1
  else requestCold s1

def execResetPin (s : State) : Result := .next (doResetPin s)

/-- A write of RESET_CTRL (R429): ignored without CONFIRM; PERST_ACTION is taken unless it is 0b11. -/
def resetWrite (v : Word) (act : State → State) (s : State) : State :=
  if F.RESET_CTRL_CONFIRM.get v ≠ 0xA5 then s
  else
    let a := F.RESET_CTRL_PERST_ACTION.get v
    act (if a = 3 then s else s.setF R.RESET_CTRL F.RESET_CTRL_PERST_ACTION a)

def askCold (s : State) : State := requestCold (s.setBit R.RESET_CAUSE F.RESET_CAUSE_COLD_REG)
def askWarm (s : State) : State := requestWarm (s.setBit R.RESET_CAUSE F.RESET_CAUSE_WARM)

def execResetCold (value : Word) (s : State) : Result := .next (resetWrite value askCold s)
def execResetWarm (value : Word) (s : State) : Result := .next (resetWrite value askWarm s)

/-- Knots in a transit-preserving reset: FLUSHED with their generation kept, but hardware-served gathers (R427). A flush under way
is answered: it has ended; an ADVANCE has not. -/
def flushForTransit (s : State) : State :=
  s.knots.foldl (fun s e =>
    let x := s.knot e.1
    if x.state = 0 ∨ (x.state = 1 ∧ x.hwGather) then s
    else
      let s1 := s.setKnot e.1 { x with state := 3, timer := none, flush := none }
      match x.flush with
      | none => s1
      | some f => f.waits.foldl (answerFlush e.1 stInternal) s1) s

/-- RESET_TRANSIT takes effect: the processor restarts, knots are flushed, every engine is reset with its memory, counters
and registers (R236, R427). -/
def startTransit (s : State) : State :=
  let s1 := flushForTransit ((restartMgmt s).updTabs fun t => { t with transit := true })
  (List.range 128).foldl resetEngineAll s1

def askTransit (s : State) : State := requestReset 2 startTransit s

def execResetTransit (value : Word) (s : State) : Result := .next (resetWrite value askTransit s)

/-- TRANSIT_RESET_END: the processor has reached step 5 of boot; a BEGIN that waits opens (R169). -/
def doTransitEnd (s : State) : State :=
  if s.pwr.level = 2 ∧ s.fld R.MGMT_STATUS F.MGMT_STATUS_BOOT_STAGE = 2 then
    let s1 := (s.setBit R.RESET_CAUSE F.RESET_CAUSE_TRANSIT).updPwr fun p => { p with level := 0 }
    let s2 := s1.updTabs fun t => { t with transit := false }
    if s2.txn = txBeginWait ∧ !s2.tabs.copying then openTxn s2 (s2.fld (R.TXN_CTRL 0) F.TXN_CTRL_OWNER) else s2
  else s

def execTransitResetEnd (s : State) : Result := .next (doTransitEnd s)

/-- A unit reset of a DMA channel: its registers at their reset values, the descriptor in execution dropped (R424). A retired
channel stays retired (R356). -/
def resetChannel (c : Nat) (s : State) : State :=
  let lo := 0x01100000 + c * 0x100
  let inBlock := fun (a : Nat) => decide (lo ≤ a) && decide (a < lo + 0x100)
  let t : State := { s with
    regs := s.regs.filter fun r => !inBlock r.1
    heldLow := s.heldLow.filter fun r => !inBlock r.1
    capHigh := s.capHigh.filter fun r => !inBlock r.1
    host := { s.host with dma := sput s.host.dma c DmaCh.init DmaCh.init } }
  if s.isRetired 6 10 c then setDmaState t c 4 else t

/-- UNIT_RESET: one port, engine or DMA channel. -/
def unitReset (kind die unit : Nat) (s : State) : State :=
  if !unitInRange kind die unit then s
  else match kind with
    | 2 | 3 => if s.portExists die unit then linkStart (writeQuarantine die unit s) die unit else s
    | 4 => if s.engState (die * 16 + unit) = 0 ∨ s.engState (die * 16 + unit) = 7 then s else resetEngine s (die * 16 + unit)
    | 6 => resetChannel unit s
    | _ => s

/-- A write of UNIT_RESET: absorbed while a higher reset runs; it cancels a transition (R425). -/
def writeUnitReset (v : Word) (s : State) : State :=
  let k := F.UNIT_RESET_KIND.get v
  if k ≠ 2 ∧ k ≠ 3 ∧ k ≠ 4 ∧ k ≠ 6 then s
  else if !unitInRange k (F.UNIT_RESET_DIE.get v) (F.UNIT_RESET_UNIT.get v) then s
  else if 0 < s.pwr.level then s.setBit R.RESET_CAUSE F.RESET_CAUSE_ABSORBED
  else unitReset k (F.UNIT_RESET_DIE.get v) (F.UNIT_RESET_UNIT.get v) (cancelTransition s)

def execUnitReset (value : Word) (s : State) : Result := .next (writeUnitReset value s)

/-- PERST_N or a hot reset outside P3: the endpoint is reset, and PERST_ACTION may ask for more (R428, R453). -/
def endpointReset (s : State) : State :=
  let s1 := resetEndpoint (s.setBit R.RESET_CAUSE F.RESET_CAUSE_PERST)
  match s.fld R.RESET_CTRL F.RESET_CTRL_PERST_ACTION with
  | 1 => askWarm s1
  | 2 => requestCold s1
  | _ => s1

/-- PERST_ASSERT: in P3, where the endpoint has no power, only the level is seen. -/
def doPerstAssert (s : State) : State :=
  let s1 := s.updHost fun h => { h with perst := true }
  if s.pState = 3 then s1.updHost fun h => { h with perstP3 := true } else endpointReset s1

def execPerstAssert (s : State) : Result := .next (doPerstAssert s)

/-- PERST_DEASSERT: after an assertion in P3 it wakes the device. -/
def doPerstDeassert (s : State) : State :=
  let s1 := s.updHost fun h => { h with perst := false, perstP3 := false }
  if s.host.perstP3 && s.bit R.WAKE_EN F.WAKE_EN_PCIE then wakeSource 3 s1 else s1

def execPerstDeassert (s : State) : Result := .next (doPerstDeassert s)

/-- PCIE_HOT_RESET. -/
def doHotReset (s : State) : State := if s.pState = 3 then s else endpointReset s

def execPcieHotReset (s : State) : Result := .next (doHotReset s)

/-! ## Staggered start (R412, R444) -/

/-- A switch die starts: DIE_UP, its rail at 0.70 V (R414). -/
def startDie (d : Nat) (s : State) : State :=
  let s1 := s.setF R.DIE_STATUS F.DIE_STATUS_DIE_UP (setMaskBit (s.fld R.DIE_STATUS F.DIE_STATUS_DIE_UP) d true)
  if d < 8 then
    (s1.setF (R.DIE_PWR_STATUS d) F.DIE_PWR_STATUS_VDD_MV 700).updPwr fun p => { p with request := sput p.request d 700 0 }
  else s1

/-- An optical engine starts: ENGINE_UP, and the link start of its ports (R79). -/
def startOptical (n : Nat) (s : State) : State :=
  let s1 := s.setF R.OPTICAL_STATUS F.OPTICAL_STATUS_ENGINE_UP (setMaskBit (s.fld R.OPTICAL_STATUS F.OPTICAL_STATUS_ENGINE_UP) n true)
  (s1.oePorts n).foldl (fun s x => linkStart s x.1 x.2) s1

/-- STAGGER_STEP: STEP_US after the step before, the next die starts; `temp` is the junction that a switch die reads at its step. After
the last, a cold or warm reset has ended. -/
def doStagger (temp : BitVec 16) (s : State) : State :=
  match s.pwr.stagger with
  | [] => s
  | k :: rest =>
    let s1 := s.updPwr fun p => { p with
      stagger := rest, stepAt := s.cycle + s.fld R.PWR_STAGGER F.PWR_STAGGER_STEP_US * 1600
      level := if rest.isEmpty && decide (3 ≤ p.level) then 0 else p.level }
    if s.cycle < s.pwr.stepAt then s
    else if 16 ≤ k then startOptical (k - 16) s1
    else
      let s2 := startDie k s1
      if 8 ≤ k then s2
      else
        let s3 := (s2.setF (R.DIE_PWR_STATUS k) F.DIE_PWR_STATUS_TEMP temp.toNat).updPwr
          fun p => { p with dieTemp := sput p.dieTemp k temp.toNat 0 }
        if 12500 ≤ temp.toInt then thermTrip s3 else moveBand s3 k temp.toInt

def execStaggerStep (temp : BitVec 16) (s : State) : Result := .next (doStagger temp s)

/-! ## Adaptive voltage (R414) -/

/-- The voltage asked for, and the voltage the die then measures. -/
def askRail (s : State) (d mv : Nat) (measured : BitVec 10) : State :=
  (s.setF (R.DIE_PWR_STATUS d) F.DIE_PWR_STATUS_VDD_MV measured.toNat).updPwr
    fun p => { p with request := sput p.request d (max 620 (min 780 mv)) 0 }

/-- AVS_MARGIN_CHANGE: the margin has fallen; the request rises by a number of 5 mV steps. -/
def execAvsMarginChange (d : Fin 8) (steps : Fin 33) (measured : BitVec 10) (s : State) : Result :=
  .next (if s.dieUp d.val then askRail s d.val (sget s.pwr.request d.val 0 + 5 * steps.val) measured else s)

/-- AVS_LOWER_STEP: the request falls by 5 mV, at most once in 1 ms. -/
def execAvsLowerStep (d : Fin 8) (measured : BitVec 10) (s : State) : Result :=
  .next (if s.dieUp d.val && decide (sget s.pwr.lowerAt d.val 0 ≤ s.cycle) then
      (askRail s d.val (sget s.pwr.request d.val 0 - 5) measured).updPwr fun p =>
        { p with lowerAt := sput p.lowerAt d.val (s.cycle + 1600000) 0 }
    else s)

/-- AVS_TIMEOUT: the last voltage is held and a record written; its mechanism is free (log entry 2). -/
def doAvsTimeout (d : Nat) (s : State) : State :=
  if s.dieUp d then
    let (m, s1) := s.drawFree 8
    fileRec (s1.updPwr fun p => { p with request := sput p.request d (s.fld (R.DIE_PWR_STATUS d) F.DIE_PWR_STATUS_VDD_MV) 0 })
      (LogRec.of 9 m 1 d d)
  else s

def execAvsTimeout (d : Fin 8) (s : State) : Result := .next (doAvsTimeout d.val s)

/-! ## Temperature and throttling (R415) -/

/-- Whether a stage with an entry point, in 0.01 °C, holds at a temperature: entered there, left H below. -/
def stageHolds (was : Bool) (entry hyst t : Int) : Bool := decide (entry ≤ t) || (was && decide (entry - hyst < t))

/-- Throttle stage at a temperature, from the stage before. -/
def throttleStage (old : Nat) (t0 hyst t : Int) : Nat :=
  if stageHolds (decide (3 ≤ old)) 11500 hyst t then 3
  else if stageHolds (decide (2 ≤ old)) (t0 + 300) hyst t then 2
  else if stageHolds (decide (1 ≤ old)) t0 hyst t then 1
  else 0

/-- A die enters or leaves PAUSE: its ports' flow control follows. -/
def pauseDie (d : Nat) (s : State) : State :=
  (List.range 130).foldl (fun s p => if s.portExists d p then flowPort s d p else s) s

/-- JUNCTION_TEMP_SAMPLE: the hottest junction of a switch die. -/
def doJunction (d : Nat) (temp : BitVec 16) (s : State) : State :=
  if !s.dieUp d then s
  else
    let r := R.DIE_PWR_STATUS d
    let t := temp.toInt
    let before := toSigned 16 (s.fld r F.DIE_PWR_STATUS_TEMP)
    let s1 := (s.setF r F.DIE_PWR_STATUS_TEMP temp.toNat).updPwr fun p => { p with dieTemp := sput p.dieTemp d temp.toNat 0 }
    if 12500 ≤ t then thermTrip s1
    else
      let s2 := moveBand s1 d t
      let old := s.fld r F.DIE_PWR_STATUS_STAGE
      let new := throttleStage old (100 * s.fld R.THERM_CTRL F.THERM_CTRL_THROTTLE_C : Nat) (100 * s.fld R.THERM_CTRL F.THERM_CTRL_HYST_C : Nat) t
      let s3 := s2.setF r F.DIE_PWR_STATUS_STAGE new
      let s4 := if new = old then s3 else fileRec s3 (LogRec.of 9 0x0E 1 d d)
      let s5 := if old = 0 ∧ 0 < new then raiseIbi s4 2 else s4
      let s6 := if before < 10500 ∧ 10500 ≤ t then fileRec s5 (LogRec.of 9 0x0E 1 d d) else s5
      if (old = 3) ≠ (new = 3) then pauseDie d s6 else s6

def execJunctionTempSample (d : Fin 8) (temp : BitVec 16) (s : State) : Result := .next (doJunction d.val temp s)

/-- IO_DIE_TEMP_SAMPLE: DMA channels enter or leave temperature bands (R347). -/
def execIoDieTempSample (temp : BitVec 16) (s : State) : Result :=
  .next (moveBand (s.updPwr fun p => { p with dieTemp := sput p.dieTemp 10 temp.toNat 0 }) 10 temp.toInt)

/-- CONTROL_LINK_LOSS: a die stops answering: DIE_FAULT and a record, whose mechanism is free (R34; log entry 2). -/
def doControlLoss (d : Nat) (s : State) : State :=
  let m := s.fld R.DIE_STATUS F.DIE_STATUS_DIE_FAULT
  let (k, s1) := s.drawFree 8
  fileRec (s1.setF R.DIE_STATUS F.DIE_STATUS_DIE_FAULT (setMaskBit m d true)) (LogRec.of 2 k 1 d d)

def execControlLinkLoss (d : Fin 11) (s : State) : Result := .next (doControlLoss d.val s)

end Sys2Proof.Machine
end

