-- ==== Sys2Proof/Machine/MgmtBoot.lean ====
section
/-! DEFINITION. The management processor's start: boot chain, records, identity, confirmation, recovery, watchdog, session key
(R391 to R400, R405, R406). -/

namespace Sys2Proof.Machine

def State.bootStage (s : State) : Nat := s.fld R.MGMT_STATUS F.MGMT_STATUS_BOOT_STAGE
def setBootStage (s : State) (n : Nat) : State := s.setF R.MGMT_STATUS F.MGMT_STATUS_BOOT_STAGE n

/-- Set an event of MGMT_EVENT (vector 63). -/
def mgmtEvent (s : State) (f : Fld) : State := setEvent s 63 R.MGMT_EVENT f

/-! ## Signed objects (R393, R396, R397) -/

/-- The ownership record in flash, where it is accepted: signed by the Ulirak root, and naming this device. -/
def Flash.accepted (f : Flash) : Bytes :=
  let root := if f.manuf.good && f.manuf.sample then Config.engineeringRoot else Config.rootKey
  if objForm f.owner 1 && objSigned f.owner root && f.manuf.good && (objBody f.owner).take 16 == f.manuf.serial then f.owner else []

/-- The configuration record in flash, where its signer is the owner. -/
def Flash.config? (f : Flash) : Bytes :=
  let own := f.accepted
  if !own.isEmpty && objForm f.config 2 && objSigned f.config (((objBody own).drop 16).take 32) then f.config else []

/-- The ROM's check of an image (steps 2 and 3): form, Ulirak signer and signature, SEC_VERSION. -/
def Flash.imageOk (f : Flash) (b : Bytes) : Bool :=
  let own := f.accepted
  let least := if own.isEmpty then 0 else objWord (objBody own) 52
  objForm b 0 && objSigned b Config.rootKey && decide (least ≤ objWord b 12)

/-- Image of a slot. -/
def Flash.slot (f : Flash) (b : Bool) : Bytes := if b then f.slotB else f.slotA

/-- An image that has passed is started: M0, its versions, stage 1. -/
def startImage (b : Bytes) (s : State) : State :=
  let s1 := setMeasure s 0 (sha256 (b.take (8192 + objWord b 16)))
  setBootStage ((s1.wr R.MGMT_FW_VERSION (BitVec.ofNat 32 (objWord b 8))).updMgmt fun m => { m with secVersion := objWord b 12 }) 1

/-- A start by fallback or recovery shows in FALLBACK_BOOT. -/
def noteFallback (s : State) : State := (mgmtEvent s F.MGMT_EVENT_FALLBACK_BOOT).updMgmt fun m => { m with fellBack := true }

/-- M5: the slot selector's copy in force (R400). -/
def measureSelector (s : State) : State :=
  let c := s.mgmt.flash.sel
  setMeasure s 5 (sha256 (Config.selectorBytes c.active c.prev c.confirmed c.count))

/-- A slot that is still TRIAL when the ROM finds it again: the previous slot becomes active and CONFIRMED, and a record is written,
whose mechanism is free (R395; log entry 2). -/
def dropTrial (s : State) : State :=
  let c := s.mgmt.flash.sel
  if !c.confirmed && c.tried then
    let (m, s1) := s.drawFree 8
    fileRec (noteFallback (s1.updFlash fun f => f.putSel c.prev c.active true)) (LogRec.of 2 m 0xD 10 0)
  else s

/-- The ROM marks a TRIAL slot as booted, in the copy in force. -/
def Flash.markTried (f : Flash) : Flash :=
  if f.selA.valid && (!f.selB.valid || decide (f.selB.count ≤ f.selA.count)) then { f with selA := { f.selA with tried := true } }
  else { f with selB := { f.selB with tried := true } }

/-- Start the image of a slot. -/
def bootSlot (b trial : Bool) (s : State) : State :=
  let s1 := (s.setF R.MGMT_STATUS F.MGMT_STATUS_SLOT b.toNat).setF R.MGMT_STATUS F.MGMT_STATUS_TRIAL trial.toNat
  measureSelector (startImage (s.mgmt.flash.slot b) s1)

/-- Both slots failed: FAILED, then RECOVERY; the interrupt of R408; a cold or power-on reset is over. -/
def bootFailed (s : State) : State :=
  raiseIbi ((setBootStage (setBootStage s 0xF) 3).updPwr fun p => { p with level := if 3 ≤ p.level then 0 else p.level }) 3

/-- The slot that the ROM boots: after a watchdog restart the one that last ran, unless it was dropped as TRIAL (R391, R395); else the active
one. -/
def slotToBoot (rerun : Option Bool) (dropped : Bool) (c : Selector) : Bool :=
  match rerun with
  | some b => if dropped then c.active else b
  | none => c.active

/-- BOOT_ROM_START (steps 1 to 3): the I/O die is released and the ROM starts its slot, else the other. -/
def doBootRom (s : State) : State :=
  if !s.pwr.released || s.bootStage != 0 then s
  else
    let up := s.fld R.DIE_STATUS F.DIE_STATUS_DIE_UP
    let s1 := (s.setF R.DIE_STATUS F.DIE_STATUS_DIE_UP (setMaskBit up 10 true)).updPwr fun p => { p with released := false }
    let s2 := dropTrial (s1.updMgmt fun m => { m with fellBack := false, rerun := none })
    let c := s2.mgmt.flash.sel
    let b := slotToBoot s.mgmt.rerun (!s.mgmt.flash.sel.confirmed && s.mgmt.flash.sel.tried) c
    let trial := b == c.active && !c.confirmed
    if s2.mgmt.flash.imageOk (s2.mgmt.flash.slot b) then
      bootSlot b trial (if trial then s2.updFlash Flash.markTried else s2)
    else if s2.mgmt.flash.imageOk (s2.mgmt.flash.slot (!b)) then bootSlot (!b) false (noteFallback s2)
    else bootFailed s2

def execBootRomStart (s : State) : Result := .next (doBootRom s)

/-- The registers that a configuration record gives first values to: the RWL registers of chapter 15 in their order (R397). -/
def configRegs : List RegRef :=
  [R.MGMT_NET_CFG, R.MGMT_MAC_ADDR, R.MGMT_MAC_ADDR_HI, R.MGMT_IP_ADDR 0, R.MGMT_IP_ADDR 1, R.MGMT_IP_ADDR 2, R.MGMT_IP_ADDR 3,
   R.MGMT_FM_ADDR 0, R.MGMT_FM_ADDR 1, R.MGMT_FM_ADDR 2, R.MGMT_FM_ADDR 3, R.MGMT_PORTS]

/-- The bits of those registers that have fields. -/
def configMask (i : Nat) : Nat := if i = 0 then 0xF0000FFF else if i = 2 then 0xFFFF else 0xFFFFFFFF

/-- Word i of the configuration record in force. -/
def State.cfgWord (s : State) (i : Nat) : Nat := objWord (objBody s.mgmt.cfgRec) (4 * i)

/-- Write windows of REG_WRITE: offset and length, at most eight (R397). -/
def State.writeWindows (s : State) : List (Nat × Nat) :=
  if s.mgmt.cfgRec.isEmpty then []
  else (List.range 8).map fun k => (s.cfgWord (12 + 2 * k), s.cfgWord (13 + 2 * k))

/-- Load the management registers, and STEP_US where the record gives one in range (R394 step 5, R412). -/
def loadConfig (s : State) : State :=
  if s.mgmt.cfgRec.isEmpty then s
  else
    let s1 := configRegs.zipIdx.foldl (fun t x => t.wr x.1 (BitVec.ofNat 32 (s.cfgWord x.2 &&& configMask x.2))) s
    let us := s.cfgWord 28
    if 50 ≤ us ∧ us ≤ 2000 then s1.setF R.PWR_STAGGER F.PWR_STAGGER_STEP_US us else s1

/-- M1 to M3, and the records in force (R397, R400). -/
def takeRecords (s : State) : State :=
  let f := s.mgmt.flash
  let s1 := s.updMgmt fun m => { m with ownRec := f.accepted, cfgRec := f.config? }
  let m := fun (b : Bytes) => if b.isEmpty then zeros 32 else sha256 b
  let s2 := setMeasure (setMeasure (setMeasure s1 1 (m f.accepted)) 2 (m f.config?)) 3 (if f.manuf.good then sha256 f.manuf.raw else zeros 32)
  let s3 := s2.setF R.MGMT_STATUS F.MGMT_STATUS_OWNED (!f.accepted.isEmpty).toNat
  if f.manuf.good then
    (s3.setF R.DEVICE_ID F.DEVICE_ID_SAMPLE f.manuf.sample.toNat).setF R.DEVICE_ID F.DEVICE_ID_ID_VALID 1
  else s3

/-- BOOT_LOCK takes force (R394). -/
def lockBoot (s : State) : State :=
  (s.setF R.MGMT_BOOT_CTRL F.MGMT_BOOT_CTRL_BOOT_LOCK 1).setF R.MGMT_STATUS F.MGMT_STATUS_BOOT_LOCKED 1

/-- Records of a thermal trip or a brown-out before this start (R416, R418); the mechanism of the second is free (log entry 2). -/
def tellCauses (s : State) : State :=
  let s1 := if s.pwr.tellTrip then fileRec s (LogRec.of 9 0x0E 0 0 0) else s
  let s2 := if s.pwr.tellBrown then let (m, t) := s1.drawFree 8; fileRec t (LogRec.of 9 m 0 0 0) else s1
  s2.updPwr fun p => { p with tellTrip := false, tellBrown := false }

/-- STAGE1_DONE (steps 4 to 6): records, registers, BOOT_LOCK of an owned device; the dies that are down begin their staggered start
but in P2. -/
def doStage1 (s : State) : State :=
  if s.bootStage ≠ 1 then s
  else
    let s1 := loadConfig (takeRecords s)
    let s2 := if s1.mgmt.ownRec.isEmpty then s1 else lockBoot s1
    let s3 := tellCauses (setBootStage s2 2)
    if s3.pState < 2 ∧ s3.pTarget = 15 then s3.updPwr fun p => { p with stagger := s3.downList } else s3

def execStage1Done (s : State) : Result := .next (doStage1 s)

/-- A write of MGMT_BOOT_CTRL. -/
def writeBootLock (v : Word) (s : State) : State := if F.MGMT_BOOT_CTRL_BOOT_LOCK.get v = 1 then lockBoot s else s

def execBootLockWrite (value : Word) (s : State) : Result := .next (writeBootLock value s)

/-! ## Identity, confirmation, recovery, watchdog -/

/-- IDENTITY_READY: the seed that the unclonable function gave, and whether its correction succeeded (R398). -/
def doIdentity (seed : Bytes) (ok : Bool) (s : State) : State :=
  if s.bootStage ≠ 2 ∨ s.bit R.MGMT_STATUS F.MGMT_STATUS_IDENTITY_OK then s
  else
    let pub := Config.identityKey seed
    if ok && s.mgmt.flash.manuf.good && sha256 pub == s.mgmt.flash.manuf.pubHash then
      (s.setF R.MGMT_STATUS F.MGMT_STATUS_IDENTITY_OK 1).updMgmt fun m =>
        { m with pub := pub, seed := seed, idFailed := false, aonTag := (sha256 pub).take 4 }
    else fileRec (s.updMgmt fun m => { m with idFailed := true }) { LogRec.of 2 7 0xD 10 0 with synClass := 4 }

def execIdentityReady (seed : BitVec 256) (ok : Bool) (s : State) : Result := .next (doIdentity (beBytes seed.toNat 32) ok s)

/-- FW_CONFIRM: the slot that runs in TRIAL is confirmed (R395). -/
def doConfirm (s : State) : State :=
  if s.bootStage = 2 ∧ s.bit R.MGMT_STATUS F.MGMT_STATUS_TRIAL then
    let c := s.mgmt.flash.sel
    let s1 := (s.updFlash fun f => f.putSel c.active c.prev true).setF R.MGMT_STATUS F.MGMT_STATUS_TRIAL 0
    mgmtEvent s1 F.MGMT_EVENT_FW_CONFIRMED
  else s

def execFwConfirm (s : State) : Result := .next (doConfirm s)

/-- FW_ACTIVATE_RESTART: 100 ms after the completion of an activating update is written (R401). -/
def doActivate (s : State) : State :=
  let waits := (s.host.ops.any fun o => o.cmd.op == 0x16) || s.host.waiting.any fun c => c.op == 0x16
  if s.mgmt.activate && decide (s.mgmt.activateAt ≤ s.pwr.aon) && !waits then restartMgmt s else s

def execFwActivateRestart (s : State) : Result := .next (doActivate s)

/-- MGMT_WATCHDOG: a record, a count, an event, and the restart (R391). -/
def doWatchdog (s : State) : State :=
  if s.ioUp then
    let s1 := fileRec s (LogRec.of 2 0xC 0xD 10 0)
    (restartMgmt (mgmtEvent (s1.countF R.MGMT_STATUS F.MGMT_STATUS_WD_RESTARTS) F.MGMT_EVENT_WD_RESTART)).updMgmt fun m =>
      { m with rerun := some s.slotB }
  else s

def execMgmtWatchdog (s : State) : Result := .next (doWatchdog s)

/-- A write of the control word of MGMT_RECOVERY: GO is set by a 1 (Table 0.6), and stands until a reset (DESIGN CHOICE, log entry 87). GO in
RECOVERY fetches the image, verifies it and runs it from SRAM (R400). -/
def writeRecovery (v : Word) (s : State) : State :=
  let n := F.MGMT_RECOVERY_CTRL_LENGTH.get v
  let s0 := s.setF R.MGMT_RECOVERY_CTRL F.MGMT_RECOVERY_CTRL_LENGTH n
  let s1 := if F.MGMT_RECOVERY_CTRL_GO.get v = 1 then s0.setBit R.MGMT_RECOVERY_CTRL F.MGMT_RECOVERY_CTRL_GO else s0
  if F.MGMT_RECOVERY_CTRL_GO.get v = 1 ∧ s.bootStage = 3 then
    let b := s.hostRead (s.rd64 R.MGMT_RECOVERY R.MGMT_RECOVERY_HI) n
    if s.mgmt.flash.imageOk b then
      startImage b (noteFallback (measureSelector (s1.setF R.MGMT_STATUS F.MGMT_STATUS_TRIAL 0)))
    else s1
  else s1

def execRecoveryGo (value : Word) (s : State) : Result := .next (writeRecovery value s)

/-! ## Session key (R405, R406) -/

/-- A word of the session key, ignored under KEY_LOCK; a key is held once all eight have been written. -/
def writeKeyWord (w : Nat) (v : Word) (s : State) : State :=
  if s.bit R.MGMT_KEY_CTRL F.MGMT_KEY_CTRL_KEY_LOCK then s
  else
    let k := s.mgmt.key
    let got := setMaskBit s.mgmt.keyGot w true
    let s1 := s.updMgmt fun m => { m with key := k.take (4 * w) ++ leBytes v.toNat 4 ++ k.drop (4 * w + 4), keyGot := got }
    if got = 255 then s1.setF R.MGMT_KEY_CTRL F.MGMT_KEY_CTRL_KEY_SET 1 else s1

def execSessionKeyWrite (w : Fin 8) (value : Word) (s : State) : Result := .next (writeKeyWord w.val value s)

end Sys2Proof.Machine
end

