-- ==== Sys2Proof/Machine/Bar0.lean ====
section
/-! DEFINITION. BAR0: what a register write does by its access codes (R5 to R7) and by what its chapter says of it, what a read
returns, 64-bit pairs (R9), fields that clear on read (R10), replicated registers (R140), and the commands of these. -/

namespace Sys2Proof.Machine

/-! ## Values a write does not take -/

/-- A word whose field keeps its old value unless p takes the new one. -/
def keepUnless (f : Fld) (p : Nat → Bool) (old v : Word) : Word := if p (f.get v) then v else f.put v (f.get old)

/-- A range. -/
def within (lo hi n : Nat) : Bool := decide (lo ≤ n) && decide (n ≤ hi)

/-- The buffer thresholds of a port (R195): the minimum changes only while it is quarantined; XON stays below XOFF. -/
def vetBuf (quiet : Bool) (old v : Word) : Word :=
  let v1 := keepUnless F.PORT_BUF_CTRL_MIN_CELLS (fun n => quiet && decide (74 ≤ n)) old v
  let v2 := keepUnless F.PORT_BUF_CTRL_XOFF_CELLS (within 16 255) old v1
  keepUnless F.PORT_BUF_CTRL_XON_CELLS (fun n => decide (n < F.PORT_BUF_CTRL_XOFF_CELLS.get v2)) old v2

/-- The slew limits of an optical engine (R97). -/
def vetSlew (old v : Word) : Word :=
  let v1 := keepUnless F.OPT_THERM_CTRL_SLEW_LIMIT (within 0 0x50) old v
  keepUnless F.OPT_THERM_CTRL_SLEW_RESUME (fun n => decide (n < F.OPT_THERM_CTRL_SLEW_LIMIT.get v1)) old v1

/-- The classification settings (R364). -/
def vetClass (old v : Word) : Word :=
  keepUnless F.INTEG_CLASS_CTRL_BUDGET_H (within 1 255) old
    (keepUnless F.INTEG_CLASS_CTRL_WINDOW_H (within 1 255) old (keepUnless F.INTEG_CLASS_CTRL_REPEAT (within 2 15) old v))

/-- A written word with each field that its description says is ignored at its old value. -/
def vetWord (s : State) (r : Reg) (idx : List Nat) (old v : Word) : Word :=
  match r with
  | .OPT_LANE_POLICY => keepUnless F.OPT_LANE_POLICY_RELOCK_WINDOW_US (within 0 1000) old v
  | .OPT_THERM_CTRL => vetSlew old v
  | .PORT_HOLD_CTRL => keepUnless F.PORT_HOLD_CTRL_HOLD_US (within 1 1000) old v
  | .PORT_BUF_CTRL => vetBuf (s.portState (idx.getD 0 0) (idx.getD 1 0) == 1) old v
  | .TM_QUEUE_CTRL => keepUnless F.TM_QUEUE_CTRL_QUANTUM (within 0x91 0x3FF) old v
  | .ENGINE_DISPATCH_CTRL =>
    keepUnless F.ENGINE_DISPATCH_CTRL_GATE_IDLE (within 16 0xFFF) old
      (keepUnless F.ENGINE_DISPATCH_CTRL_BUDGET (within 256 0xFFFFF) old v)
  | .ENGINE_TAG_CTRL => keepUnless F.ENGINE_TAG_CTRL_SHIFT (within 0 20) old v
  | .INTEG_CTRL =>
    keepUnless F.INTEG_CTRL_ST_DUTY (within 0 0x32) old (keepUnless F.INTEG_CTRL_XCHK_SHIFT (within 0 20) old v)
  | .INTEG_CLASS_CTRL => vetClass old v
  | .INTEG_NOTICE_CTRL => keepUnless F.INTEG_NOTICE_CTRL_SENDS (within 1 15) old v
  | .PWR_STAGGER => keepUnless F.PWR_STAGGER_STEP_US (within 50 2000) old v
  | .THERM_CTRL =>
    keepUnless F.THERM_CTRL_HYST_C (within 1 10) old (keepUnless F.THERM_CTRL_THROTTLE_C (within 70 100) old v)
  | _ => v

/-- RWL fields of a register are locked (R6). -/
def State.locked (s : State) (r : Reg) : Bool :=
  match r with
  | .OVR_SEED => s.tabs.seedLocked
  | .PS_HASH_SEED => s.tabs.seedLocked
  | _ => s.bit R.MGMT_BOOT_CTRL F.MGMT_BOOT_CTRL_BOOT_LOCK

/-- A write with no effect beyond the register (R5 to R7). -/
def plainWrite (row : RegRow) (r : RegRef) (idx : List Nat) (v : Word) (s : State) : State :=
  s.wr r (writeFields (s.locked row.reg) row.fields (s.rd r) (vetWord s row.reg idx (s.rd r) v))

/-! ## 64-bit pairs (R9) -/

/-- Low half of a 64-bit pair. -/
def isPairLow (r : Reg) : Bool :=
  match r with
  | .TIME_NOW_LO | .AON_TICK | .ENGINE_CYCLE | .HOST_IRQ_PENDING => true
  | .EXPOSURE_ADDR | .CS_RING_BASE | .ENGINE_PMC | .HOLD_RING_BASE | .HOLD_POOL_BASE | .CMD_RING_BASE | .CPL_RING_BASE
  | .DMA_CH_RING_BASE | .DMA_CH_CPL_BASE | .MGMT_MAC_ADDR | .MGMT_RECOVERY | .WAKE_TIMER | .PARTITION_BRIDGE => true
  | _ => false

/-- High half of a 64-bit pair. -/
def isPairHigh (r : Reg) : Bool :=
  match r with
  | .TIME_NOW_HI | .AON_TICK_HI | .ENGINE_CYCLE_HI | .HOST_IRQ_PENDING_HI => true
  | .EXPOSURE_ADDR_HI | .CS_RING_BASE_HI | .ENGINE_PMC_HI | .HOLD_RING_BASE_HI | .HOLD_POOL_BASE_HI | .CMD_RING_BASE_HI
  | .CPL_RING_BASE_HI | .DMA_CH_RING_BASE_HI | .DMA_CH_CPL_BASE_HI | .MGMT_MAC_ADDR_HI | .MGMT_RECOVERY_HI | .WAKE_TIMER_HI
  | .PARTITION_BRIDGE_HI => true
  | _ => false

/-- Both halves of the pair that a half belongs to are writable. -/
def pairWritable (r : Reg) : Bool :=
  match r with
  | .TIME_NOW_LO | .AON_TICK | .ENGINE_CYCLE | .HOST_IRQ_PENDING => false
  | .TIME_NOW_HI | .AON_TICK_HI | .ENGINE_CYCLE_HI | .HOST_IRQ_PENDING_HI => false
  | r => isPairLow r || isPairHigh r

/-- The pair takes no write now: a ring base while its ring is in use (R216, R389), a locked field (R6). -/
def pairShut (s : State) (hi : Reg) : Bool :=
  match hi with
  | .CS_RING_BASE_HI => s.bit R.CS_RING_CTRL F.CS_RING_CTRL_EN
  | .CMD_RING_BASE_HI => s.bit R.CMD_RING_CTRL F.CMD_RING_CTRL_EN
  | .CPL_RING_BASE_HI => s.bit R.CPL_RING_CTRL F.CPL_RING_CTRL_EN
  | .MGMT_MAC_ADDR_HI => s.locked hi
  | _ => false

/-- Both halves written in one cycle. -/
def putPair (hi : RegRow) (idx : List Nat) (addr lo : Nat) (v : Word) (s : State) : State :=
  let both := lo + v.toNat * 2 ^ 32
  match hi.reg with
  | .HOLD_RING_BASE_HI => writeHoldReg (idx.getD 0 8) .ringBase both s
  | .HOLD_POOL_BASE_HI => writeHoldReg (idx.getD 0 8) (.poolBase (Fin.ofNat 16 (idx.getD 1 0))) both s
  | r =>
    if pairShut s r then s
    else
      match findReg (addr - 4) with
      | some (row, i) =>
        plainWrite hi (hi.ref addr idx) idx v (plainWrite row (row.ref (addr - 4) i) i (BitVec.ofNat 32 lo) s)
      | none => s

/-- A write of the high half of a writable pair: with the low half held, else the current one (R9). -/
def writePairHigh (hi : RegRow) (idx : List Nat) (addr : Nat) (v : Word) (s : State) : State :=
  let (lo, s1) := takeHeldLow s (addr - 4) (sget s.regs (addr - 4) 0).toNat
  putPair hi idx addr lo v s1

/-! ## Writes that do more, by chapter -/

/-- Lanyard port 0 or 1 of port 128 or 129. -/
def lanyPort (p : Nat) : Nat := p - 128

/-- OP of TXN_CTRL. -/
def writeTxnCtrl (v : Word) (s : State) : State :=
  let o := F.TXN_CTRL_OWNER.get v
  match F.TXN_CTRL_OP.get v with
  | 1 => doBegin o s
  | 2 => doCommitNow o s
  | 3 => doCommitAt o s
  | 4 => doAbort o s
  | _ => s

/-- A write of TBL_CMD starts an operation; a code that Table 6.29 does not give ends BAD_ARGUMENT. -/
def writeTblCmd (v : Word) (s : State) : State :=
  let o := F.TBL_CMD_OWNER.get v
  let t := F.TBL_CMD_TABLE.get v
  match F.TBL_CMD_OP.get v with
  | 1 => tblGuard o s (tblWrite t s)
  | 2 => tblRead s.genBit t s
  | 3 => tblRead s.staged t s
  | 4 => tblGuard o s (tblInsert t s)
  | 5 => tblGuard o s (tblDelete t s)
  | _ => tblDone s stBadArgument

/-- OP of ENGINE_CTRL. -/
def writeEngineCtrl (e : Nat) (v : Word) (s : State) : State :=
  let s1 := writeGateEn s e (F.ENGINE_CTRL_GATE_EN.get v == 1)
  match F.ENGINE_CTRL_OP.get v with
  | 1 => opEngineStart e s1
  | 2 => opEngineHalt e s1
  | 3 => opEngineReset e s1
  | _ => s1

/-- OP of KNOT_CMD; without one only KNOT is written. -/
def writeKnotCmd (i : Nat) (v : Word) (s : State) : State :=
  let k := F.KNOT_CMD_KNOT.get v
  match F.KNOT_CMD_OP.get v with
  | 1 => opKnotLoad i k s
  | 2 => opKnotFlush i k s
  | 3 => opKnotUnload i k s
  | 4 => opKnotRead i k s
  | 5 => opKnotAdvance i k s
  | 6 => opKnotAnchor i k s
  | _ => knotCmd i k (fun t => t) s

/-- OP of INTEG_UNIT_CMD; without one only its fields are written. -/
def writeUnitCmd (v : Word) (s : State) : State :=
  match F.INTEG_UNIT_CMD_OP.get v with
  | 1 => opUnitQuery v s
  | 2 => opUnitRetire v s
  | 3 => opUnitRestore v s
  | _ => s.wr R.INTEG_UNIT_CMD (v &&& 0x0FF0FFFF#32)

/-- OP of EXPOSURE_CTRL. -/
def writeExposureCtrl (d : Nat) (v : Word) (s : State) : State :=
  match F.EXPOSURE_CTRL_OP.get v with
  | 1 => opExposeNow d v s
  | 2 => opExposeAt d v s
  | _ => writeExposure s d v

/-- OP of RESET_CTRL. -/
def writeResetCtrl (v : Word) (s : State) : State :=
  match F.RESET_CTRL_OP.get v with
  | 1 => resetWrite v askCold s
  | 2 => resetWrite v askWarm s
  | 3 => resetWrite v askTransit s
  | _ => resetWrite v (fun t => t) s

/-- A write of TIME_NOW_HI sets the wrap count at once (R9, R100). -/
def writeWraps (v : Word) (s : State) : State :=
  s.updTime fun t => { t with fab := t.fab % 2 ^ 88 + v.toNat * 2 ^ 88 }

/-- A policer's rates or bursts change: its buckets are settled first (R205). -/
def settleBuckets (i : Nat) (s : State) : State :=
  (List.range 8).foldl (fun t d => t.setBucket d i (s.bucketNow d i)) s

/-- A write of CS_PORT_CTRL or CS_COPY_CTRL restarts the counts of its sources (R208). -/
def restartSources (d p : Nat) (s : State) : State := s.updPort d p fun x => { x with mirRx := 0, mirTx := 0, mirDrop := 0 }

/-- A write of CS_RING_CTRL: the size changes only while EN is 0. -/
def writeCsCtrl (v : Word) (s : State) : State :=
  let r := R.CS_RING_CTRL
  let old := s.rd r
  let n := if s.bit r F.CS_RING_CTRL_EN then F.CS_RING_CTRL_SIZE_LOG2.put v (F.CS_RING_CTRL_SIZE_LOG2.get old)
    else keepUnless F.CS_RING_CTRL_SIZE_LOG2 (within 4 24) old v
  withCause s 34 fun s => s.wr r n

/-- Registers of chapters 1 to 6. -/
def writeFabricReg (row : RegRow) (addr : Nat) (idx : List Nat) (v : Word) (s : State) : Option State :=
  let d := idx.getD 0 0
  let p := idx.getD 1 0
  match row.reg with
  | .PORT_LANE_CTRL => some (writeLaneCtrl d p v s)
  | .OPT_TS_CTRL => some ((List.range 8).foldl (showLineOk d) (plainWrite row (row.ref addr idx) idx v s))
  | .LANE_CTRL => some (writeExclude (d / 2) (if p < 64 then d % 2 * 64 + p else 128 + d % 2 * 8 + (p - 64)) (F.LANE_CTRL_EXCLUDE.get v == 1) s)
  | .PARTITION_FENCE => some (writeFence p v s)
  | .PORT_YFP_CTRL => some (writeReserve d p .yfpCtrl v s)
  | .PORT_HEADROOM => some (writeReserve d p .headroom v s)
  | .LANYARD_PEER_STATUS => some (writeReserve d p (.peer (Fin.ofNat 32 (idx.getD 2 0))) v s)
  | .TIME_CTRL => some (writeTimeCtrl v s)
  | .TIME_REF_CTRL => some (writePrio .ref v s)
  | .TIME_PORT_CTRL => some (writePrio (.port (Fin.ofNat 8 d) (Fin.ofNat 128 p)) v s)
  | .TIME_PPS_LOAD => some (writePpsLoad v s)
  | .TIME_PPS_OUT_ANCHOR => some (writePpsAnchor v s)
  | .TIME_NOW_HI => some (writeWraps v s)
  | .LANYARD_PORT_CTRL => some (writeLanyardCtrl d (lanyPort p) v s)
  | .LANYARD_TS_CTRL =>
    let s1 := plainWrite row (row.ref addr idx) idx (F.LANYARD_TS_CTRL_ARM.put v 0) s
    some (if F.LANYARD_TS_CTRL_ARM.get v = 1 then armStrip d (lanyPort p) s1 else s1)
  | .NATIVE_BLOCK | .LEARN_RANGE_ADDR | .LEARN_RANGE_CTRL | .PARTITION_BRIDGE | .PARTITION_BRIDGE_HI | .PARTITION_FLOOD
  | .PORT_PARTITION | .LANYARD_ROTA | .LANYARD_ROTA_STAGE | .LANYARD_GUARD_STAGE => some (stagedWrite addr v s)
  | .TXN_CTRL => some (writeTxnCtrl v s)
  | .TBL_CMD => some (writeTblCmd v s)
  | _ => none

/-- Registers of chapters 7 to 12. -/
def writeCoreReg (row : RegRow) (addr : Nat) (idx : List Nat) (v : Word) (s : State) : Option State :=
  let d := idx.getD 0 0
  let p := idx.getD 1 0
  let plain := plainWrite row (row.ref addr idx) idx v
  match row.reg with
  | .BUF_POOL_CTRL => some (writeBufConfig d true v s)
  | .BUF_RESERVE => some (writeBufConfig d false v s)
  | .SPRAY_SEED => some (writeSpraySeed d v s)
  | .PORT_BUF_CTRL => some (flowPort (plain s) d p)
  | .PORT_ADMIT => some (if F.PORT_ADMIT_ADMIT.get v = 1 then writeAdmit d p s else writeQuarantine d p s)
  | .TM_SHAPER => some (writeShaper d p (idx.getD 2 0) v s)
  | .CS_PORT_CTRL => some (restartSources d p (plain s))
  | .CS_COPY_CTRL => some ((plain s).updDie d fun x => { x with mirCopy := 0 })
  | .CS_RING_CTRL => some (writeCsCtrl v s)
  | .EXPOSURE_CTRL => some (writeExposureCtrl d v s)
  | .POLICER_CFG0 => some (writePolicer0 p v s)
  | .POLICER_CFG1 => some (plain (settleBuckets p s))
  | .POLICER_CFG2 => some (plain (settleBuckets p s))
  | .ENGINE_CTRL => some (writeEngineCtrl (d * 16 + p) v s)
  | .ENGINE_PART_CTRL => some (doEngineLayoutWrite (d * 16 + p) v s)
  | .ENGINE_TAG_SEED => some ((plain s).updEng (d * 16 + p) fun g => { g with tagGen := 0 })
  | .KNOT_CMD => some (writeKnotCmd d v s)
  | .HOLD_CTRL => some (writeHoldCtrl d v s)
  | .HOLD_SEED => some (writeHoldReg d .seed v.toNat s)
  | .HOLD_INDEX_CTRL => some (writeHoldReg d .indexCtrl v.toNat s)
  | .HOLD_RING_SIZE => some (writeHoldReg d .ringSize v.toNat s)
  | .HOLD_SHAPE => some (writeHoldReg d (.shape (Fin.ofNat 16 p)) v.toNat s)
  | .HOLD_POOL_ROWS => some (writeHoldReg d (.poolRows (Fin.ofNat 16 p)) v.toNat s)
  | _ => none

/-- Registers of chapters 13 to 16. -/
def writeHostReg (row : RegRow) (addr : Nat) (idx : List Nat) (v : Word) (s : State) : Option State :=
  let c := idx.getD 0 0
  match row.reg with
  | .INTEG_LOG_TIME => some (writeLogTime v s)
  | .INTEG_UNIT_CMD => some (writeUnitCmd v s)
  | .CMD_RING_CTRL => some (writeCmdCtrl v s)
  | .CMD_RING_TAIL => some (writeCmdTail v s)
  | .CPL_RING_CTRL => some (writeCplCtrl v s)
  | .CPL_RING_HEAD => some (writeCplHead v s)
  | .BAR2_WINDOW => some (writeWindow v s)
  | .MSIX_CTRL => some (if F.MSIX_CTRL_MASK.get v = 0 then unmask c s else plainWrite row (row.ref addr idx) idx v s)
  | .DMA_CH_CTRL => some (writeDmaCtrl c v s)
  | .DMA_CH_TAIL => some (writeDmaTail c v s)
  | .DMA_CH_CPL_INDEX => some (writeDmaCpl c v s)
  | .DMA_CH_RING_CFG => some (writeDmaCfg c v s)
  | .DMA_CH_SHADOW_CTRL => some (if F.DMA_CH_SHADOW_CTRL_ARM.get v = 1 then armShadow c s else s)
  | .MGMT_BOOT_CTRL => some (writeBootLock v s)
  | .MGMT_SESSION_KEY => some (writeKeyWord c v s)
  | .MGMT_RECOVERY_CTRL => some (writeRecovery v s)
  | .PWR_CTRL => some (writePwrCtrl (F.PWR_CTRL_TARGET.get v) (F.PWR_CTRL_AON_LP_EN.get v == 1) s)
  | .PAD_RELEASE => some (if F.PAD_RELEASE_GO.get v = 1 then releasePads s else s)
  | .RESET_CTRL => some (writeResetCtrl v s)
  | .UNIT_RESET => some (writeUnitReset v s)
  | _ => none

/-- The vector whose cause a register holds (R368, Table 14.2), and which a write of it may send again (R369). -/
def causeVector (r : Reg) (idx : List Nat) : Option Nat :=
  let d := idx.getD 0 0
  match r with
  | .DMA_CH_STATUS => some (d + 1)
  | .TIME_STATUS => some 33
  | .CS_RING_CONS => some 34
  | .EXPOSURE_STATUS => some (35 + d)
  | .ENGINE_EVENT => some (43 + d)
  | .INTEG_EVENT => some 51
  | .KNOT_EVENT => some (52 + d)
  | .TXN_EVENT => some 60
  | .LANE_EVENT => some 61
  | .OPT_THERM_STATUS => some 61
  | .LANYARD_STATUS => some 61
  | .BUF_EVENT => some 62
  | .TM_EVENT => some 62
  | .HOLD_EVENT => some 62
  | .D2D_LINK_STATUS => some 62
  | .MGMT_EVENT => some 63
  | _ => none

/-- The vector whose enable a register holds: its condition can rise by a write. -/
def enableVector (r : Reg) (idx : List Nat) : Option Nat :=
  match r with
  | .ENGINE_IRQ_EN => some (43 + idx.getD 0 0)
  | .MGMT_IRQ_EN => some 63
  | _ => none

/-- A write with no effect beyond the register and its interrupt. -/
def causedWrite (row : RegRow) (r : RegRef) (idx : List Nat) (v : Word) (s : State) : State :=
  match causeVector row.reg idx with
  | some n => causeWrite s n (plainWrite row r idx v)
  | none =>
    match enableVector row.reg idx with
    | some n => withCause s n (plainWrite row r idx v)
    | none => plainWrite row r idx v s

/-! ## Replication (R140) -/

/-- Policer configuration is replicated too: the copy the model keeps stands at die 0. -/
def canonPolicer (a : Nat) : Nat :=
  let o := a % 0x1000000
  if 0x10000000 ≤ a ∧ a < 0x18000000 ∧ 0x900000 ≤ o ∧ o < 0x922000 then 0x10000000 + o else a

/-- The address of the copy that stands for a register. -/
def canonReg (a : Nat) : Nat := canonPolicer (canonAddr a)

/-! ## A write and a read -/

/-- A write of an aligned word at a BAR0 address; a reserved offset ignores it (R7). -/
def bar0Write (addr : Nat) (v : Word) (s : State) : State :=
  let a := canonReg addr
  match findReg a with
  | none => s
  | some (row, idx) =>
    match writeFabricReg row a idx v s <|> writeCoreReg row a idx v s <|> writeHostReg row a idx v s with
    | some t => t
    | none =>
      if pairWritable row.reg then
        if isPairLow row.reg then (if row.reg == .MGMT_MAC_ADDR && s.locked row.reg then s else holdLow s a v)
        else writePairHigh row idx a v s
      else causedWrite row (row.ref a idx) idx v s

/-- Bits v to v + 31 of the pending vectors. -/
def irqWord (s : State) (v : Nat) : Nat :=
  ((List.range 32).map fun i => if irqPending s (v + i) then 2 ^ i else 0).sum

/-- Vectors pending while masked, from v (R368). -/
def pbaWord (s : State) (v : Nat) : Nat :=
  ((List.range 32).map fun i =>
    if irqPending s (v + i) && s.bit (R.MSIX_CTRL (v + i)) F.MSIX_CTRL_MASK then 2 ^ i else 0).sum

/-- Read values that chapters 2 to 8 compute. -/
def liveFabric (s : State) (r : Reg) (idx : List Nat) (w : Word) : Word :=
  let d := idx.getD 0 0
  let p := idx.getD 1 0
  match r with
  | .TIME_NOW_LO => BitVec.ofNat 32 s.now
  | .TIME_NOW_HI => BitVec.ofNat 32 s.wraps
  | .AON_TICK => BitVec.ofNat 32 s.pwr.aon
  | .AON_TICK_HI => BitVec.ofNat 32 (s.pwr.aon / 2 ^ 32)
  | .PORT_LANE_STATUS =>
    if p < 128 then w
    else
      let lanes := s.lanLanes d (lanyPort p)
      F.PORT_LANE_STATUS_UP.put (F.PORT_LANE_STATUS_RX_ACTIVE.put (F.PORT_LANE_STATUS_TX_ACTIVE.put w lanes) lanes)
        (s.rotaRuns d (lanyPort p)).toNat
  | .LANE_STATUS =>
    if p < 64 then
      (if s.bit (R.OPT_LANE_POLICY d) F.OPT_LANE_POLICY_RX_TONE_CHECK then w else F.LANE_STATUS_RX_TONE_OK.put w 1)
    else F.LANE_STATUS_TX_LINE.put (F.LANE_STATUS_RX_LINE.put w 15) 15
  | .LANYARD_STATUS =>
    F.LANYARD_STATUS_TX_SUSPENDED.put w (s.txSuspended d (lanyPort p)).toNat
  | .PORT_HEADROOM => F.PORT_HEADROOM_BYTES.put w (s.headroomNow d p)
  | .BUF_SHARED_STATUS => F.BUF_SHARED_STATUS_FREE.put w (if s.dieUp d then s.sharedFree d else 0)
  | .BUF_STAGE_STATUS =>
    F.BUF_STAGE_STATUS_LOSSY_FREE.put w (if s.dieUp d then s.lossyStage d - s.lossyCells d fun _ => true else 0)
  | .PORT_CORE_STATUS => F.PORT_CORE_STATUS_EGRESS_CELLS.put w (s.egressCells d p)
  | .PORT_STAGE_STATUS =>
    F.PORT_STAGE_STATUS_RESERVED_CELLS.put (F.PORT_STAGE_STATUS_USED_CELLS.put w (s.port d p).usedCells)
      (s.reserve d p)
  | .TM_QUEUE_STATUS =>
    let t := idx.getD 2 0
    let off := (s.fld (R.PORT_FC_STATUS d p) F.PORT_FC_STATUS_RX_OFF).testBit t
    F.TM_QUEUE_STATUS_PAUSED.put (F.TM_QUEUE_STATUS_ELIGIBLE.put (F.TM_QUEUE_STATUS_DEPTH_CELLS.put w (s.depth d p t))
      (s.eligible d p t).toNat) off.toNat
  | .TM_QUEUE_CREDIT => BitVec.ofNat 32 (s.creditBytes d p (idx.getD 2 0))
  | _ => w

/-- Receive and transmit cells an engine has in use. -/
def stageCells (s : State) (e : Nat) : Nat × Nat :=
  (((s.eng e).rx.map (·.cells)).sum, ((List.range 128).filter fun c => s.txBusy e (txBase + 256 * c) 256).length)

/-- Read values that chapters 9 to 14 compute. -/
def liveHost (s : State) (r : Reg) (idx : List Nat) (w : Word) : Word :=
  let d := idx.getD 0 0
  let e := d * 16 + idx.getD 1 0
  match r with
  | .ENGINE_KNOT_STATUS => BitVec.ofNat 32 (s.homed e)
  | .ENGINE_STAGE_STATUS =>
    F.ENGINE_STAGE_STATUS_RX_USED.put (F.ENGINE_STAGE_STATUS_TX_USED.put w (stageCells s e).2) (stageCells s e).1
  | .ENGINE_CYCLE => BitVec.ofNat 32 (s.engCycle e)
  | .ENGINE_CYCLE_HI => BitVec.ofNat 32 ((s.engCycle e) / 2 ^ 32)
  | .INTEG_STATUS => F.INTEG_STATUS_HELD.put w (min 65535 (s.heldUnits none))
  | .INTEG_BUDGET =>
    F.INTEG_BUDGET_HELD.put (F.INTEG_BUDGET_USED.put (F.INTEG_BUDGET_LIMIT.put w (s.budget d)) (min 255 (s.budgetUsed d)))
      (min 255 (s.heldUnits (some d)))
  | .INTEG_LOG_TIME => BitVec.ofNat 32 s.logTime
  | .HOST_IRQ_PENDING => BitVec.ofNat 32 (irqWord s 0)
  | .HOST_IRQ_PENDING_HI => BitVec.ofNat 32 (irqWord s 32)
  | .MSIX_PBA => BitVec.ofNat 32 (pbaWord s (32 * d))
  | .CMD_EVENT => F.CMD_EVENT_LONG_OPS.put (F.CMD_EVENT_CPL_FULL.put w s.cplFull.toNat) s.host.ops.length
  | .PARITY_LOG =>
    match sget s.tabs.plog d [] with
    | [] => 0
    | x :: _ => BitVec.ofNat 32 (2 ^ 31 + x % 2 ^ 31)
  | .HOLD_ECC_LOG =>
    match sget s.hold.elog d [] with
    | [] => 0
    | x :: _ => BitVec.ofNat 32 (2 ^ 31 + x % 2 ^ 31)
  | _ => w

/-- A register that a table transaction writes (R163). -/
def isStaged (r : Reg) : Bool :=
  match r with
  | .NATIVE_BLOCK | .LEARN_RANGE_ADDR | .LEARN_RANGE_CTRL | .PARTITION_BRIDGE | .PARTITION_BRIDGE_HI | .PARTITION_FLOOD
  | .PORT_PARTITION | .LANYARD_ROTA | .LANYARD_ROTA_STAGE | .LANYARD_GUARD_STAGE => true
  | _ => false

/-- A register as it reads now, before fields that clear on read do so: WO fields read 0, since no write stores them. -/
def liveWord (s : State) (row : RegRow) (r : RegRef) (idx : List Nat) : Word :=
  if isStaged row.reg then s.rdActive r else liveHost s row.reg idx (liveFabric s row.reg idx (s.rd r))

/-- What a read takes away: a log queue's head, RC fields (R10). -/
def afterRead (row : RegRow) (r : RegRef) (idx : List Nat) (s : State) : State :=
  let d := idx.getD 0 0
  match row.reg with
  | .PARITY_LOG => s.updTabs fun t => { t with plog := sput t.plog d ((sget t.plog d []).drop 1) [] }
  | .HOLD_ECC_LOG => { s with hold := { s.hold with elog := sput s.hold.elog d ((sget s.hold.elog d []).drop 1) [] } }
  | _ => if row.fields.any (fun f => f.acc == .RC) then s.wr r (clearRc row.fields (s.rd r)) else s

/-- Capture the high half with the read of the low half at an address (R9). -/
def captureHigh (addr : Nat) (s : State) : State :=
  match findReg (addr + 4) with
  | some (row, idx) =>
    { s with capHigh := sput s.capHigh (addr + 4) ((liveWord s row (row.ref (addr + 4) idx) idx).toNat + 1) 0 }
  | none => s

/-- A read of an aligned word: its value and the state after (R5, R7, R9, R10). -/
def bar0Read (addr : Nat) (s : State) : Word × State :=
  let a := canonReg addr
  match findReg a with
  | none => (0, s)
  | some (row, idx) =>
    let r := row.ref a idx
    if isPairLow row.reg then (liveWord s row r idx, captureHigh a s)
    else if isPairHigh row.reg then
      match sget s.capHigh a 0 with
      | 0 => (liveWord s row r idx, s)
      | n + 1 => (BitVec.ofNat 32 n, { s with capHigh := sput s.capHigh a 0 0 })
    else (liveWord s row r idx, afterRead row r idx s)

/-- A request is an aligned access of 4 bytes (R8). -/
def goodAccess (addr len : Nat) : Bool := decide (addr % 4 = 0) && len == 4

/-- A BAR0 request that is not: counted, a read returns zeros (R8). -/
def badAccess (len : Nat) (write : Bool) (s : State) : State :=
  let s1 := s.countF R.HOST_BAD_ACCESS F.HOST_BAD_ACCESS_BAR0
  if write then s1 else s1.emit (.readBytes (zeros len))

/-- A write of a word at any offset. -/
def wordWrite (addr : Nat) (v : Word) (s : State) : State :=
  if goodAccess addr 4 then bar0Write addr v s else badAccess 4 true s

/-- A read of a word at any offset: its value, and the state after. -/
def wordRead (addr : Nat) (s : State) : Word × State :=
  if goodAccess addr 4 then bar0Read addr s else (0, badAccess 4 true s)

/-- A read whose data is returned. -/
def readOut (addr : Nat) (s : State) : State :=
  let (w, s1) := wordRead addr s
  s1.emit (.readWord w.toNat)

/-! ## The commands -/

/-- BAR0_REG_WRITE (R5). -/
def execBar0RegWrite (addr value : Word) (s : State) : Result := .next (wordWrite addr.toNat value s)

/-- BAR0_BAD_ACCESS (R8); of an access that is a good one, no effect. -/
def execBar0BadAccess (addr : Word) (len : Nat) (write : Bool) (s : State) : Result :=
  .next (if goodAccess addr.toNat len then s else badAccess len write s)

/-- The register at an address satisfies p. -/
def regAt (p : Reg → Bool) (addr : Nat) : Bool :=
  match findReg (canonReg addr) with
  | some (row, _) => p row.reg
  | none => false

/-- PAIR_LOW_READ (R9); at other addresses an ordinary read. -/
def execPairLowRead (addr : Word) (s : State) : Result :=
  .next (readOut addr.toNat s)

/-- PAIR_LOW_WRITE (R9); no effect where there is no low half of a writable pair. -/
def execPairLowWrite (addr value : Word) (s : State) : Result :=
  .next (if regAt (fun r => isPairLow r && pairWritable r) addr.toNat then bar0Write addr.toNat value s else s)

/-- PAIR_HIGH_WRITE (R9); no effect where there is no high half of a writable pair. -/
def execPairHighWrite (addr value : Word) (s : State) : Result :=
  .next (if regAt (fun r => isPairHigh r && pairWritable r) addr.toNat then bar0Write addr.toNat value s else s)

/-- RC_FIELD_READ (R10): events of the same cycle come in commands after it, so each is returned by exactly one read. -/
def execRcFieldRead (addr : Word) (s : State) : Result := .next (readOut addr.toNat s)

/-- REPLICATED_WRITE (R140): one copy stands for the eight, so the write of one die's register is the write of all. -/
def execReplicatedWrite (addr value : Word) (s : State) : Result := .next (wordWrite addr.toNat value s)

/-- CHANNEL_CLASS_WRITE (R73). -/
def execChannelClassWrite (d : Fin 8) (q : Fin 64) (w : Fin 16) (value : Word) (s : State) : Result :=
  .next (bar0Write (R.CHANNEL_CLASS d.val q.val w.val).addr value s)

end Sys2Proof.Machine
end

