-- ==== Sys2Proof/Machine/MgmtNet.lean ====
section
/-! DEFINITION. The management port: frames, requests and responses, the wake datagram (R402 to R405), and the I3C target (R407,
R408). -/

namespace Sys2Proof.Machine

/-! ## Frames (R402) -/

/-- Count in MGMT_COUNT. -/
def mgmtCount (s : State) (i : Nat) : State := s.count (R.MGMT_COUNT i)

/-- The port's own address: four words in IPv6, one in IPv4. -/
def State.netAddr (s : State) : Nat :=
  ((List.range (if s.bit R.MGMT_NET_CFG F.MGMT_NET_CFG_IPV6 then 4 else 1)).map fun w =>
    (s.rd (R.MGMT_IP_ADDR w)).toNat * 2 ^ (32 * w)).sum

/-- The port works: in use, its link up, the device not in P3, and boot past step 5, where the port begins to serve (R394). -/
def State.netUp (s : State) : Bool :=
  s.bootStage == 2 && s.bit R.MGMT_NET_CFG F.MGMT_NET_CFG_EN && s.bit R.MGMT_STATUS F.MGMT_STATUS_LINK_UP && s.pState != 3

/-- The tag is the one expected: none, or one with VLAN_ID where VLAN_EN is set. -/
def State.tagOk (s : State) (t : Option (BitVec 12)) : Bool :=
  match t with
  | none => !s.bit R.MGMT_NET_CFG F.MGMT_NET_CFG_VLAN_EN
  | some v => s.bit R.MGMT_NET_CFG F.MGMT_NET_CFG_VLAN_EN && v.toNat == s.fld R.MGMT_NET_CFG F.MGMT_NET_CFG_VLAN_ID

/-- An IP packet of a version is for this device. -/
def State.forUs (s : State) (v6 : Bool) (dst : Nat) : Bool :=
  v6 == s.bit R.MGMT_NET_CFG F.MGMT_NET_CFG_IPV6 && dst == s.netAddr

/-- The port's MAC address. -/
def State.macBytes (s : State) : Bytes := beBytes (s.rd64 R.MGMT_MAC_ADDR R.MGMT_MAC_ADDR_HI) 6

/-- A message has the form of Table 15.6. -/
def msgForm (b : Bytes) : Bool :=
  b.take 4 == beBytes 0x564D5031 4 && decide (beNat ((b.drop 10).take 2) ≤ 1024) &&
    decide (b.length = 48 + beNat ((b.drop 10).take 2))

/-- A datagram to the request port: queued, or dropped where 256 wait (R404). -/
def queueReq (r : MgmtReq) (s : State) : State :=
  if !msgForm r.raw then mgmtCount s 5
  else if 256 ≤ s.mgmt.reqs.length then mgmtCount s 4
  else s.updMgmt fun m => { m with reqs := m.reqs ++ [r] }

/-- What a frame carries is answered, taken or dropped. A datagram to the wake port has its effect in P3 alone (R405). -/
def takeContent (c : MgmtContent) (s : State) : State :=
  match c with
  | .arp target asker =>
    if s.forUs false target.toNat then s.emit (.netReply 0 asker.toNat s.macBytes) else mgmtCount s 5
  | .neighbour target asker =>
    if s.forUs true target.toNat then s.emit (.netReply 1 asker.toNat s.macBytes) else mgmtCount s 5
  | .echo v6 dst src data => if s.forUs v6 dst.toNat then s.emit (.netReply 2 src.toNat data) else mgmtCount s 5
  | .udp v6 dst src dport sport data =>
    if !s.forUs v6 dst.toNat then mgmtCount s 5
    else if dport.toNat = s.fld R.MGMT_PORTS F.MGMT_PORTS_REQ_PORT then queueReq ⟨src.toNat, sport.toNat, data⟩ s
    else if dport.toNat = s.fld R.MGMT_PORTS F.MGMT_PORTS_WAKE_PORT then s
    else mgmtCount s 5
  | .other => mgmtCount s 5

/-- MGMT_FRAME_RECEIVE. -/
def doMgmtFrame (f : MgmtFrame) (s : State) : State :=
  if !s.netUp then s
  else if s.tagOk f.vlan && decide (f.len.toNat ≤ 1518) then takeContent f.content s
  else mgmtCount s 5

def execMgmtFrameReceive (f : MgmtFrame) (s : State) : Result := .next (doMgmtFrame f s)

/-- MGMT_LINK_CHANGE: LINK_UP, and its event where it changed. -/
def doMgmtLink (up : Bool) (s : State) : State :=
  if s.pState = 3 ∨ s.bit R.MGMT_STATUS F.MGMT_STATUS_LINK_UP = up then s
  else mgmtEvent (s.setF R.MGMT_STATUS F.MGMT_STATUS_LINK_UP up.toNat) F.MGMT_EVENT_LINK_CHANGE

def execMgmtLinkChange (up : Bool) (s : State) : Result := .next (doMgmtLink up s)

/-! ## Requests (R403, R404) -/

def MgmtReq.seq (r : MgmtReq) : Nat := beNat ((r.raw.drop 4).take 4)
def MgmtReq.typ (r : MgmtReq) : Nat := beNat ((r.raw.drop 8).take 1)
def MgmtReq.bodyLen (r : MgmtReq) : Nat := beNat ((r.raw.drop 10).take 2)
def MgmtReq.tag (r : MgmtReq) : Bytes := (r.raw.drop 12).take 4
def MgmtReq.body (r : MgmtReq) : Bytes := (r.raw.drop 16).take r.bodyLen
/-- Word i of the body. -/
def MgmtReq.w (r : MgmtReq) (i : Nat) : Nat := beNat ((r.body.drop (4 * i)).take 4)

/-- The HMAC of a message holds under the session key. -/
def State.hmacOk (s : State) (raw : Bytes) (len : Nat) : Bool :=
  s.bit R.MGMT_KEY_CTRL F.MGMT_KEY_CTRL_KEY_SET && hmac s.mgmt.key (raw.take (16 + len)) == raw.drop (16 + len)

/-- The index of MGMT_COUNT under which a request is dropped. -/
def State.dropIndex (s : State) (r : MgmtReq) : Option Nat :=
  if !s.hmacOk r.raw r.bodyLen then some 1
  else if s.mgmt.seen.contains r.seq || decide (r.seq + 65 ≤ s.mgmt.high) then some 2
  else if r.tag != s.deviceTag && r.tag != zeros 4 then some 3
  else none

/-- Drop a request. -/
def dropReq (i : Nat) (s : State) : State :=
  if i = 1 then mgmtEvent (mgmtCount s 1) F.MGMT_EVENT_AUTH_FAIL else mgmtCount s i

/-- Accept a request: index 0 and the replay window. -/
def acceptReq (r : MgmtReq) (s : State) : State :=
  (mgmtCount s 0).updMgmt fun m =>
    let h := max m.high (r.seq + 1)
    { m with high := h, seen := (r.seq :: m.seen).filter fun q => decide (h < q + 65) }

/-- The response to a request, signed under a key. -/
def respond (r : MgmtReq) (key : Bytes) (status : Nat) (body : Bytes) (s : State) : State :=
  let head := beBytes 0x564D5031 4 ++ beBytes r.seq 4 ++ beBytes (r.typ % 128 + 128) 1 ++ beBytes status 1 ++
    beBytes body.length 2 ++ s.deviceTag ++ body
  s.emit (.datagram r.addr r.port (head ++ hmac key head))

/-- Requests at the head of the queue that are dropped, or have a type that Table 15.7 does not give, which are answered
BAD_ARGUMENT. -/
def settleReqs : List MgmtReq → State → State
  | [], s => s.updMgmt fun m => { m with reqs := [] }
  | r :: rest, s =>
    match s.dropIndex r with
    | some i => settleReqs rest (dropReq i s)
    | none =>
      if r.typ = 0 ∨ 6 < r.typ then settleReqs rest (respond r s.mgmt.key stBadArgument [] (acceptReq r s))
      else s.updMgmt fun m => { m with reqs := r :: rest }

/-- Process the oldest request where it has a type: f gives its status, response body and effect. -/
def serveReq (typ : Nat) (f : MgmtReq → State → Nat × Bytes × State) (s : State) : State :=
  if s.bootStage ≠ 2 then s
  else
    let s1 := settleReqs s.mgmt.reqs s
    match s1.mgmt.reqs with
    | [] => s1
    | r :: rest =>
      if r.typ ≠ typ then s
      else
        let key := s1.mgmt.key
        let s2 := acceptReq r (s1.updMgmt fun m => { m with reqs := rest })
        let (st, body, s3) := f r s2
        respond r key st body s3

/-- ECHO. -/
def reqEcho (r : MgmtReq) (s : State) : Nat × Bytes × State := (0, r.body, s)

def execEcho (s : State) : Result := .next (serveReq 1 reqEcho s)

/-- End the resends of a notice, and count it. -/
def ackNotice (n : Nat) (s : State) : State :=
  mgmtCount { s with integ := { s.integ with
    fresh := s.integ.fresh.filter fun x => x.seq != n, unacked := s.integ.unacked.filter fun x => x.seq != n } } 6

/-- NOTICE_ACK. -/
def reqNoticeAck (r : MgmtReq) (s : State) : Nat × Bytes × State :=
  let n := r.bodyLen
  if n = 0 ∨ 256 < n ∨ n % 4 ≠ 0 then (stBadArgument, [], s)
  else (0, [], (List.range (n / 4)).foldl (fun t i => ackNotice (r.w i) t) s)

def execNoticeAck (s : State) : Result := .next (serveReq 2 reqNoticeAck s)

/-- Read n registers from an offset, in order: their bytes big-endian. -/
def readRegs (addr : Nat) : Nat → Bytes → State → Bytes × State
  | 0, b, s => (b, s)
  | n + 1, b, s =>
    let (w, s1) := wordRead addr s
    readRegs (addr + 4) n (b ++ beBytes w.toNat 4) s1

/-- REG_READ. -/
def reqRegRead (r : MgmtReq) (s : State) : Nat × Bytes × State :=
  if r.bodyLen ≠ 8 ∨ r.w 1 = 0 ∨ 64 < r.w 1 then (stBadArgument, [], s)
  else
    let (b, s1) := readRegs (r.w 0) (r.w 1) [] s
    (0, b, s1)

def execRegRead (s : State) : Result := .next (serveReq 3 reqRegRead s)

/-- An offset lies in some write window (R397). -/
def State.inWindow (s : State) (o : Nat) : Bool :=
  s.writeWindows.any fun w => decide (w.1 ≤ o) && decide (o + 4 ≤ w.1 + w.2)

/-- REG_WRITE: every offset is checked before any is written. -/
def reqRegWrite (r : MgmtReq) (s : State) : Nat × Bytes × State :=
  let n := r.bodyLen
  let pairs := (List.range (n / 8)).map fun i => (r.w (2 * i), r.w (2 * i + 1))
  if n = 0 ∨ 512 < n ∨ n % 8 ≠ 0 then (stBadArgument, [], s)
  else if pairs.all fun x => s.inWindow x.1 then
    (0, [], pairs.foldl (fun t x => wordWrite x.1 (BitVec.ofNat 32 x.2) t) s)
  else (stBadArgument, [], s)

def execRegWrite (s : State) : Result := .next (serveReq 4 reqRegWrite s)

/-- LOGBOOK_READ of the management protocol. -/
def reqLogbook (r : MgmtReq) (s : State) : Nat × Bytes × State :=
  if r.bodyLen ≠ 8 ∨ r.w 1 = 0 ∨ 16 < r.w 1 then (stBadArgument, [], s)
  else (0, (s.bookFrom (r.w 0) (r.w 1)).flatMap leWords, s)

def execMgmtLogbookRead (s : State) : Result := .next (serveReq 5 reqLogbook s)

/-- KEY_ROTATE: the response goes out under the old key. -/
def reqKeyRotate (r : MgmtReq) (s : State) : Nat × Bytes × State :=
  if r.bodyLen ≠ 32 then (stBadArgument, [], s)
  else (0, [], mgmtEvent (s.updMgmt fun m => { m with key := r.body }) F.MGMT_EVENT_KEY_ROTATED)

def execKeyRotate (s : State) : Result := .next (serveReq 6 reqKeyRotate s)

/-! ## Wake datagram (R405) -/

/-- A wake message: form, TYPE 0x10, eight bytes of body, HMAC, the device's tag, a count above the last one used. -/
def State.wakeOk (s : State) (b : Bytes) : Bool :=
  msgForm b && b.getD 8 0 == 0x10 && beNat ((b.drop 10).take 2) == 8 && s.hmacOk b 8 && (b.drop 16).take 4 == s.mgmt.aonTag &&
    decide (s.mgmt.wakeCount ≤ beNat ((b.drop 20).take 4))

/-- WAKE_DATAGRAM: a datagram that reached the wake port. -/
def doWakeDatagram (b : Bytes) (s : State) : State :=
  if (s.pState = 3 ∨ s.pTarget = 3) ∧ s.bit R.WAKE_EN F.WAKE_EN_MGMT ∧ s.wakeOk b then
    wakeSource 1 ((mgmtCount s 7).updMgmt fun m => { m with wakeCount := beNat ((b.drop 20).take 4) + 1 })
  else s

def execWakeDatagram (data : Bytes) (s : State) : Result := .next (doWakeDatagram data s)

/-! ## I3C target (R407) -/

/-- The target answers what is sent to its dynamic address. -/
def State.i3cAddr (s : State) : Bool := s.pwr.vaux && s.bit R.I3C_STATUS F.I3C_STATUS_ADDR_VALID

/-- A command code that can come as broadcast reaches the target. -/
def State.i3cHears (s : State) (bcast : Bool) : Bool := s.pwr.vaux && (bcast || s.bit R.I3C_STATUS F.I3C_STATUS_ADDR_VALID)

/-- The provisional ID. -/
def State.pid (s : State) : Nat :=
  0x2C5 * 2 ^ 33 + 0x1024 * 2 ^ 16 + s.fld R.I3C_STATUS F.I3C_STATUS_SLOT * 2 ^ 12 + (s.rd R.DEVICE_ID).toNat / 256 % 256 * 16

/-- Bus and device characteristics. -/
def i3cBcr : Byte := 0x06
def i3cDcr : Byte := 0x00

/-- Set the dynamic address. -/
def setDynAddr (a : Nat) (s : State) : State :=
  (s.setF R.I3C_STATUS F.I3C_STATUS_DYN_ADDR a).setF R.I3C_STATUS F.I3C_STATUS_ADDR_VALID 1

/-- ENTDAA: one round. The target takes part while it has no address, and wins where no other ID is lower. -/
def doEntdaa (a : Nat) (others : List Nat) (s : State) : State :=
  if s.pwr.vaux && !s.bit R.I3C_STATUS F.I3C_STATUS_ADDR_VALID && others.all (fun x => decide (s.pid ≤ x)) then
    setDynAddr a (s.emit (.i3c (beBytes s.pid 6 ++ [i3cBcr, i3cDcr])))
  else s

def execEntdaa (addr : BitVec 7) (others : List (BitVec 48)) (s : State) : Result :=
  .next (doEntdaa addr.toNat (others.map (·.toNat)) s)

/-- RSTDAA. -/
def doRstdaa (s : State) : State :=
  if s.pwr.vaux then (s.setF R.I3C_STATUS F.I3C_STATUS_DYN_ADDR 0).setF R.I3C_STATUS F.I3C_STATUS_ADDR_VALID 0 else s

def execRstdaa (s : State) : Result := .next (doRstdaa s)

/-- SETNEWDA. -/
def execSetnewda (addr : BitVec 7) (s : State) : Result := .next (if s.i3cAddr then setDynAddr addr.toNat s else s)

/-- Bytes that the target returns to a command code sent to its address. -/
def i3cReturn (b : Bytes) (s : State) : State := if s.i3cAddr then s.emit (.i3c b) else s

/-- GETPID. -/
def execGetpid (s : State) : Result := .next (i3cReturn (beBytes s.pid 6) s)
/-- GETBCR. -/
def execGetbcr (s : State) : Result := .next (i3cReturn [i3cBcr] s)
/-- GETDCR. -/
def execGetdcr (s : State) : Result := .next (i3cReturn [i3cDcr] s)

/-- GETSTATUS: two bytes whose content is open (log entry 2). -/
def execGetstatus (s : State) : Result :=
  .next (let (x, s1) := s.drawFree 16; i3cReturn (beBytes x 2) s1)

/-- GETMWL. -/
def execGetmwl (s : State) : Result := .next (i3cReturn (beBytes s.mgmt.mwl 2) s)

/-- GETMRL: the length, and the one data byte of an in-band interrupt. -/
def execGetmrl (s : State) : Result := .next (i3cReturn (beBytes s.mgmt.mrl 2 ++ [1]) s)

/-- SETMWL. -/
def execSetmwl (bcast : Bool) (len : BitVec 16) (s : State) : Result :=
  .next (if s.i3cHears bcast then s.updMgmt fun m => { m with mwl := len.toNat } else s)

/-- SETMRL. -/
def execSetmrl (bcast : Bool) (len : BitVec 16) (s : State) : Result :=
  .next (if s.i3cHears bcast then s.updMgmt fun m => { m with mrl := len.toNat } else s)

/-- ENEC: bit 0 of the events byte names the in-band interrupt. -/
def execEnec (bcast : Bool) (events : Byte) (s : State) : Result :=
  .next (if s.i3cHears bcast && events.toNat.testBit 0 then s.setF R.I3C_STATUS F.I3C_STATUS_IBI_EN 1 else s)

/-- DISEC. -/
def execDisec (bcast : Bool) (events : Byte) (s : State) : Result :=
  .next (if s.i3cHears bcast && events.toNat.testBit 0 then s.setF R.I3C_STATUS F.I3C_STATUS_IBI_EN 0 else s)

/-- RSTACT: the target reset action. -/
def execRstact (bcast : Bool) (action : Byte) (s : State) : Result :=
  .next (if s.i3cHears bcast then s.updMgmt fun m => { m with rstact := action.toNat } else s)

/-- Hottest junction of the switch dies, 16-bit two's complement. -/
def State.hottest (s : State) : Nat :=
  ofSigned 16 (((List.range 8).map fun d => toSigned 16 (sget s.pwr.dieTemp d 0)).foldl max (-32768))

/-- The status block (R408). -/
def State.statusBlock (s : State) : Bytes :=
  [BitVec.ofNat 8 s.pState, BitVec.ofNat 8 s.bootStage] ++ leBytes s.hottest 2 ++ leBytes (s.rd R.DIE_STATUS).toNat 4 ++
    leBytes (min 65535 (s.heldUnits none)) 2 ++ zeros 2 ++ s.mgmt.aonTag

/-- I3C_PRIVATE_READ of n bytes. -/
def execI3cPrivateRead (n : Fin 17) (s : State) : Result := .next (i3cReturn (s.statusBlock.take n.val) s)

/-- I3C_PRIVATE_WRITE: 0xA5 alone wakes the device in P3 where WAKE_EN.I3C is set. -/
def doI3cWrite (b : Bytes) (s : State) : State :=
  if s.i3cAddr && b == [0xA5] && s.bit R.WAKE_EN F.WAKE_EN_I3C then wakeSource 2 s else s

def execI3cPrivateWrite (data : Bytes) (s : State) : Result := .next (doI3cWrite data s)

end Sys2Proof.Machine
end

