-- ==== Sys2Proof/Machine/Dispatch.lean ====
section
/-! DEFINITION. The dispatch: one arm per command, each one direct call of its meaning. -/

namespace Sys2Proof.Machine

/-- The effect of a command on everything but the queue. -/
def exec (i : Instr) (s : State) : Host.Outcome State Fault Refusal :=
  match i with
  | .bar0RegWrite addr value => Sys2Proof.Machine.execBar0RegWrite addr value s
  | .bar0BadAccess addr len write => Sys2Proof.Machine.execBar0BadAccess addr len write s
  | .pairLowRead addr => Sys2Proof.Machine.execPairLowRead addr s
  | .pairLowWrite addr value => Sys2Proof.Machine.execPairLowWrite addr value s
  | .pairHighWrite addr value => Sys2Proof.Machine.execPairHighWrite addr value s
  | .rcFieldRead addr => Sys2Proof.Machine.execRcFieldRead addr s
  | .replicatedWrite addr value => Sys2Proof.Machine.execReplicatedWrite addr value s
  | .channelClassWrite d q w value => Sys2Proof.Machine.execChannelClassWrite d q w value s
  | .flitReceive d peer vc ok => Sys2Proof.Machine.execFlitReceive d peer vc ok s
  | .linkTrainingLoss d peer => Sys2Proof.Machine.execLinkTrainingLoss d peer s
  | .dieLinkRetrain d peer => Sys2Proof.Machine.execDieLinkRetrain d peer s
  | .dieLinkUp d peer => Sys2Proof.Machine.execDieLinkUp d peer s
  | .meshDrainDone d peer => Sys2Proof.Machine.execMeshDrainDone d peer s
  | .creditSyncReceive d peer mask => Sys2Proof.Machine.execCreditSyncReceive d peer mask s
  | .codewordReceive d n cw => Sys2Proof.Machine.execCodewordReceive d n cw s
  | .alignmentMarkerReceive d n idx mask gid => Sys2Proof.Machine.execAlignmentMarkerReceive d n idx mask gid s
  | .frameReceive d p ev => Sys2Proof.Machine.execFrameReceive d p ev s
  | .frameAbortReceive d p seq reason => Sys2Proof.Machine.execFrameAbortReceive d p seq reason s
  | .xoffXonReceive d p mask => Sys2Proof.Machine.execXoffXonReceive d p mask s
  | .xoffRefresh d p => Sys2Proof.Machine.execXoffRefresh d p s
  | .pauseWatchdog d p tc => Sys2Proof.Machine.execPauseWatchdog d p tc s
  | .linkFaultReceive d p code => Sys2Proof.Machine.execLinkFaultReceive d p code s
  | .linkFaultConditionEnd d p => Sys2Proof.Machine.execLinkFaultConditionEnd d p s
  | .laneSetReceive d p mask idx => Sys2Proof.Machine.execLaneSetReceive d p mask idx s
  | .laneSetEffective d p rx => Sys2Proof.Machine.execLaneSetEffective d p rx s
  | .laneDownReceive d p mask => Sys2Proof.Machine.execLaneDownReceive d p mask s
  | .testStripWordReceive d n w => Sys2Proof.Machine.execTestStripWordReceive d n w s
  | .portLaneCtrlWrite d p value => Sys2Proof.Machine.execPortLaneCtrlWrite d p value s
  | .testStripStart d p => Sys2Proof.Machine.execTestStripStart d p s
  | .tsLaserCheckDone d n power tone => Sys2Proof.Machine.execTsLaserCheckDone d n power tone s
  | .ringLock d n ring tone => Sys2Proof.Machine.execRingLock d n ring tone s
  | .ringSeekFail d n ring => Sys2Proof.Machine.execRingSeekFail d n ring s
  | .prbsSyncTimeout d n => Sys2Proof.Machine.execPrbsSyncTimeout d n s
  | .tsSweepPointDone d n m => Sys2Proof.Machine.execTsSweepPointDone d n m s
  | .tsMeasureDone d n => Sys2Proof.Machine.execTsMeasureDone d n s
  | .testStripTimeout d n => Sys2Proof.Machine.execTestStripTimeout d n s
  | .heaterUpdate d n ring heat drift => Sys2Proof.Machine.execHeaterUpdate d n ring heat drift s
  | .toneWindow d n ring tone => Sys2Proof.Machine.execToneWindow d n ring tone s
  | .laneLockLoss d what => Sys2Proof.Machine.execLaneLockLoss d what s
  | .laneNoCodeword d n => Sys2Proof.Machine.execLaneNoCodeword d n s
  | .lightLoss d n => Sys2Proof.Machine.execLightLoss d n s
  | .lightReturn d n => Sys2Proof.Machine.execLightReturn d n s
  | .fastRelockDone d n txHeat rxHeat => Sys2Proof.Machine.execFastRelockDone d n txHeat rxHeat s
  | .relockWindowExpire d n => Sys2Proof.Machine.execRelockWindowExpire d n s
  | .laneRetest d n => Sys2Proof.Machine.execLaneRetest d n s
  | .laneExcludeWrite d n value => Sys2Proof.Machine.execLaneExcludeWrite d n value s
  | .photonicTempSample oe temp slope => Sys2Proof.Machine.execPhotonicTempSample oe temp slope s
  | .slewDrainDone oe => Sys2Proof.Machine.execSlewDrainDone oe s
  | .slewPauseEnd oe => Sys2Proof.Machine.execSlewPauseEnd oe s
  | .syncInterval => Sys2Proof.Machine.execSyncInterval s
  | .syncReceive d p seq t1 => Sys2Proof.Machine.execSyncReceive d p seq t1 s
  | .followReceive d p seq t2 => Sys2Proof.Machine.execFollowReceive d p seq t2 s
  | .replyReceive d p seq t3 => Sys2Proof.Machine.execReplyReceive d p seq t3 s
  | .timeExchangeTimeout => Sys2Proof.Machine.execTimeExchangeTimeout s
  | .timeWrap => Sys2Proof.Machine.execTimeWrap s
  | .masterLoss => Sys2Proof.Machine.execMasterLoss s
  | .holdoverSwitchExpire => Sys2Proof.Machine.execHoldoverSwitchExpire s
  | .sourceQualify src => Sys2Proof.Machine.execSourceQualify src s
  | .timePrioWrite src value => Sys2Proof.Machine.execTimePrioWrite src value s
  | .ppsLoadWrite value => Sys2Proof.Machine.execPpsLoadWrite value s
  | .ppsEdge => Sys2Proof.Machine.execPpsEdge s
  | .ppsLoss => Sys2Proof.Machine.execPpsLoss s
  | .ppsOutEdge => Sys2Proof.Machine.execPpsOutEdge s
  | .timedLaunch d p => Sys2Proof.Machine.execTimedLaunch d p s
  | .timedDrop d p => Sys2Proof.Machine.execTimedDrop d p s
  | .lanyardSlotCheck d lp => Sys2Proof.Machine.execLanyardSlotCheck d lp s
  | .lanyardSlotBoundary d lp => Sys2Proof.Machine.execLanyardSlotBoundary d lp s
  | .lanyardBurstReceive d lp lane b => Sys2Proof.Machine.execLanyardBurstReceive d lp lane b s
  | .lanyardHoldoverExpire d lp => Sys2Proof.Machine.execLanyardHoldoverExpire d lp s
  | .lanyardWaitExpire d lp queue => Sys2Proof.Machine.execLanyardWaitExpire d lp queue s
  | .lanyardToneDecision d lp lane ring colour tone => Sys2Proof.Machine.execLanyardToneDecision d lp lane ring colour tone s
  | .lanyardReseekDone d lp lane ring colour ok => Sys2Proof.Machine.execLanyardReseekDone d lp lane ring colour ok s
  | .lanyardRotaWrite d lp lane n value => Sys2Proof.Machine.execLanyardRotaWrite d lp lane n value s
  | .lanyardTsArm d lp => Sys2Proof.Machine.execLanyardTsArm d lp s
  | .lanyardTsStart d lp => Sys2Proof.Machine.execLanyardTsStart d lp s
  | .lanyardDiscoverySlot d lp second t lane obs => Sys2Proof.Machine.execLanyardDiscoverySlot d lp second t lane obs s
  | .lanyardTsComplete d lp => Sys2Proof.Machine.execLanyardTsComplete d lp s
  | .frameLookup d ll => Sys2Proof.Machine.execFrameLookup d ll s
  | .learnInsert => Sys2Proof.Machine.execLearnInsert s
  | .tableScrubRead d slot table index bad => Sys2Proof.Machine.execTableScrubRead d slot table index bad s
  | .partitionFenceWrite q value => Sys2Proof.Machine.execPartitionFenceWrite q value s
  | .txnBegin owner => Sys2Proof.Machine.execTxnBegin owner s
  | .commitNow owner => Sys2Proof.Machine.execCommitNow owner s
  | .commitAt owner => Sys2Proof.Machine.execCommitAt owner s
  | .txnAbort owner => Sys2Proof.Machine.execTxnAbort owner s
  | .txnFlip => Sys2Proof.Machine.execTxnFlip s
  | .txnCatchupDone => Sys2Proof.Machine.execTxnCatchupDone s
  | .txnAbortDone => Sys2Proof.Machine.execTxnAbortDone s
  | .stagedRegWrite addr value => Sys2Proof.Machine.execStagedRegWrite addr value s
  | .tblWrite owner table => Sys2Proof.Machine.execTblWrite owner table s
  | .tblInsert owner table => Sys2Proof.Machine.execTblInsert owner table s
  | .tblDelete owner table => Sys2Proof.Machine.execTblDelete owner table s
  | .readActive owner table => Sys2Proof.Machine.execReadActive owner table s
  | .readStaged owner table => Sys2Proof.Machine.execReadStaged owner table s
  | .dieTableCopy d => Sys2Proof.Machine.execDieTableCopy d s
  | .schedulerSlot d => Sys2Proof.Machine.execSchedulerSlot d s
  | .depthBroadcast d => Sys2Proof.Machine.execDepthBroadcast d s
  | .frameEgressAdmit d => Sys2Proof.Machine.execFrameEgressAdmit d s
  | .egressWaitAdmit d => Sys2Proof.Machine.execEgressWaitAdmit d s
  | .cutThroughUnderrun d p => Sys2Proof.Machine.execCutThroughUnderrun d p s
  | .egressSchedule d p => Sys2Proof.Machine.execEgressSchedule d p s
  | .portDown d p => Sys2Proof.Machine.execPortDown d p s
  | .portBack d p => Sys2Proof.Machine.execPortBack d p s
  | .portHoldExpire d p => Sys2Proof.Machine.execPortHoldExpire d p s
  | .portQuarantine d p => Sys2Proof.Machine.execPortQuarantine d p s
  | .portAdmit d p => Sys2Proof.Machine.execPortAdmit d p s
  | .portReserveWrite d p reg value => Sys2Proof.Machine.execPortReserveWrite d p reg value s
  | .bufConfigWrite d pool value => Sys2Proof.Machine.execBufConfigWrite d pool value s
  | .spraySeedWrite d value => Sys2Proof.Machine.execSpraySeedWrite d value s
  | .shaperWrite d p t value => Sys2Proof.Machine.execShaperWrite d p t value s
  | .policerEnableWrite ix value => Sys2Proof.Machine.execPolicerEnableWrite ix value s
  | .csRecordWrite d => Sys2Proof.Machine.execCsRecordWrite d s
  | .exposureNow d value => Sys2Proof.Machine.execExposureNow d value s
  | .exposureAt d value => Sys2Proof.Machine.execExposureAt d value s
  | .exposureCapture d => Sys2Proof.Machine.execExposureCapture d s
  | .exposureWriteDone d => Sys2Proof.Machine.execExposureWriteDone d s
  | .engineFrameArrive e bad hw => Sys2Proof.Machine.execEngineFrameArrive e bad hw s
  | .engineDispatch e bad hw => Sys2Proof.Machine.execEngineDispatch e bad hw s
  | .dispatchEnd e => Sys2Proof.Machine.execDispatchEnd e s
  | .dispatchBudget e => Sys2Proof.Machine.execDispatchBudget e s
  | .knotTimerExpire k => Sys2Proof.Machine.execKnotTimerExpire k s
  | .engineStart e gate => Sys2Proof.Machine.execEngineStart e gate s
  | .engineStartCheckDone e => Sys2Proof.Machine.execEngineStartCheckDone e s
  | .engineHalt e gate => Sys2Proof.Machine.execEngineHalt e gate s
  | .engineReset e gate => Sys2Proof.Machine.execEngineReset e gate s
  | .engineResetDone e => Sys2Proof.Machine.execEngineResetDone e s
  | .engineLayoutWrite e value => Sys2Proof.Machine.execEngineLayoutWrite e value s
  | .engineGate e => Sys2Proof.Machine.execEngineGate e s
  | .engineWake e => Sys2Proof.Machine.execEngineWake e s
  | .nop e hw => Sys2Proof.Machine.execNop e hw s
  | .pld e hw => Sys2Proof.Machine.execPld e hw s
  | .pst e hw => Sys2Proof.Machine.execPst e hw s
  | .psend e hw => Sys2Proof.Machine.execPsend e hw s
  | .pret e hw => Sys2Proof.Machine.execPret e hw s
  | .pacq e hw => Sys2Proof.Machine.execPacq e hw s
  | .prel e hw => Sys2Proof.Machine.execPrel e hw s
  | .hget e hw => Sys2Proof.Machine.execHget e hw s
  | .hput e hw => Sys2Proof.Machine.execHput e hw s
  | .hunlk e hw => Sys2Proof.Machine.execHunlk e hw s
  | .pldw e hw => Sys2Proof.Machine.execPldw e hw s
  | .mld e hw => Sys2Proof.Machine.execMld e hw s
  | .mst e hw => Sys2Proof.Machine.execMst e hw s
  | .mldx e hw => Sys2Proof.Machine.execMldx e hw s
  | .mstx e hw => Sys2Proof.Machine.execMstx e hw s
  | .vadd e hw => Sys2Proof.Machine.execVadd e hw s
  | .vsub e hw => Sys2Proof.Machine.execVsub e hw s
  | .vmul e hw => Sys2Proof.Machine.execVmul e hw s
  | .vfma e hw => Sys2Proof.Machine.execVfma e hw s
  | .vmin e hw => Sys2Proof.Machine.execVmin e hw s
  | .vmax e hw => Sys2Proof.Machine.execVmax e hw s
  | .vand e hw => Sys2Proof.Machine.execVand e hw s
  | .vor e hw => Sys2Proof.Machine.execVor e hw s
  | .vxor e hw => Sys2Proof.Machine.execVxor e hw s
  | .vshl e hw => Sys2Proof.Machine.execVshl e hw s
  | .vshr e hw => Sys2Proof.Machine.execVshr e hw s
  | .vsra e hw => Sys2Proof.Machine.execVsra e hw s
  | .vcmp e hw => Sys2Proof.Machine.execVcmp e hw s
  | .vsel e hw => Sys2Proof.Machine.execVsel e hw s
  | .vbcast e hw => Sys2Proof.Machine.execVbcast e hw s
  | .vshuf e hw => Sys2Proof.Machine.execVshuf e hw s
  | .vhred e hw => Sys2Proof.Machine.execVhred e hw s
  | .vrcp e hw => Sys2Proof.Machine.execVrcp e hw s
  | .vrsqrt e hw => Sys2Proof.Machine.execVrsqrt e hw s
  | .vcvt e hw => Sys2Proof.Machine.execVcvt e hw s
  | .vexp e hw => Sys2Proof.Machine.execVexp e hw s
  | .vmxunpk e hw => Sys2Proof.Machine.execVmxunpk e hw s
  | .vmxpk e hw => Sys2Proof.Machine.execVmxpk e hw s
  | .vins e hw => Sys2Proof.Machine.execVins e hw s
  | .aacc e hw => Sys2Proof.Machine.execAacc e hw s
  | .aldw e hw => Sys2Proof.Machine.execAldw e hw s
  | .astw e hw => Sys2Proof.Machine.execAstw e hw s
  | .aclr e hw => Sys2Proof.Machine.execAclr e hw s
  | .arnd e hw => Sys2Proof.Machine.execArnd e hw s
  | .ares e hw => Sys2Proof.Machine.execAres e hw s
  | .aaddw e hw => Sys2Proof.Machine.execAaddw e hw s
  | .smrg e hw => Sys2Proof.Machine.execSmrg e hw s
  | .ssort e hw => Sys2Proof.Machine.execSsort e hw s
  | .sfind e hw => Sys2Proof.Machine.execSfind e hw s
  | .addOp e hw => Sys2Proof.Machine.execAddOp e hw s
  | .subOp e hw => Sys2Proof.Machine.execSubOp e hw s
  | .andOp e hw => Sys2Proof.Machine.execAndOp e hw s
  | .orOp e hw => Sys2Proof.Machine.execOrOp e hw s
  | .xorOp e hw => Sys2Proof.Machine.execXorOp e hw s
  | .shl e hw => Sys2Proof.Machine.execShl e hw s
  | .shr e hw => Sys2Proof.Machine.execShr e hw s
  | .sra e hw => Sys2Proof.Machine.execSra e hw s
  | .mulOp e hw => Sys2Proof.Machine.execMulOp e hw s
  | .addi e hw => Sys2Proof.Machine.execAddi e hw s
  | .li e hw => Sys2Proof.Machine.execLi e hw s
  | .addm e hw => Sys2Proof.Machine.execAddm e hw s
  | .cmp e hw => Sys2Proof.Machine.execCmp e hw s
  | .cmpi e hw => Sys2Proof.Machine.execCmpi e hw s
  | .extOp e hw => Sys2Proof.Machine.execExtOp e hw s
  | .vx e hw => Sys2Proof.Machine.execVx e hw s
  | .pmov e hw => Sys2Proof.Machine.execPmov e hw s
  | .xp e hw => Sys2Proof.Machine.execXp e hw s
  | .plog e hw => Sys2Proof.Machine.execPlog e hw s
  | .br e hw => Sys2Proof.Machine.execBr e hw s
  | .jal e hw => Sys2Proof.Machine.execJal e hw s
  | .jr e hw => Sys2Proof.Machine.execJr e hw s
  | .endOp e hw => Sys2Proof.Machine.execEndOp e hw s
  | .karr e hw => Sys2Proof.Machine.execKarr e hw s
  | .kcsum e hw => Sys2Proof.Machine.execKcsum e hw s
  | .kseal e hw => Sys2Proof.Machine.execKseal e hw s
  | .kfail e hw => Sys2Proof.Machine.execKfail e hw s
  | .kfree e hw => Sys2Proof.Machine.execKfree e hw s
  | .krd e hw => Sys2Proof.Machine.execKrd e hw s
  | .kwr e hw => Sys2Proof.Machine.execKwr e hw s
  | .ktimer e hw => Sys2Proof.Machine.execKtimer e hw s
  | .sanc e hw => Sys2Proof.Machine.execSanc e hw s
  | .astat e hw => Sys2Proof.Machine.execAstat e hw s
  | .rdres e hw => Sys2Proof.Machine.execRdres e hw s
  | .waitOp e hw => Sys2Proof.Machine.execWaitOp e hw s
  | .hstat e hw => Sys2Proof.Machine.execHstat e hw s
  | .rdcyc e hw => Sys2Proof.Machine.execRdcyc e hw s
  | .rdtime e hw => Sys2Proof.Machine.execRdtime e hw s
  | .holdOpComplete e ix hw => Sys2Proof.Machine.execHoldOpComplete e ix hw s
  | .knotLoad ix k => Sys2Proof.Machine.execKnotLoad ix k s
  | .knotCmdFlush ix k => Sys2Proof.Machine.execKnotCmdFlush ix k s
  | .knotUnload ix k => Sys2Proof.Machine.execKnotUnload ix k s
  | .knotRead ix k => Sys2Proof.Machine.execKnotRead ix k s
  | .knotAdvance ix k => Sys2Proof.Machine.execKnotAdvance ix k s
  | .setAnchor ix k => Sys2Proof.Machine.execSetAnchor ix k s
  | .drainMarkerReceive k d => Sys2Proof.Machine.execDrainMarkerReceive k d s
  | .knotFlushDone k => Sys2Proof.Machine.execKnotFlushDone k s
  | .knotFrameAdmit d => Sys2Proof.Machine.execKnotFrameAdmit d s
  | .broadcastStatus k => Sys2Proof.Machine.execBroadcastStatus k s
  | .xchkAdd q bad => Sys2Proof.Machine.execXchkAdd q bad s
  | .xchkCompare q => Sys2Proof.Machine.execXchkCompare q s
  | .xchkAbandonTimeout q => Sys2Proof.Machine.execXchkAbandonTimeout q s
  | .holdGatherServe d => Sys2Proof.Machine.execHoldGatherServe d s
  | .holdGatherResponse d ix hw => Sys2Proof.Machine.execHoldGatherResponse d ix hw s
  | .holdLockGrant m => Sys2Proof.Machine.execHoldLockGrant m s
  | .holdTxnCommit e => Sys2Proof.Machine.execHoldTxnCommit e s
  | .scatterStatus e => Sys2Proof.Machine.execScatterStatus e s
  | .holdScrub m hw => Sys2Proof.Machine.execHoldScrub m hw s
  | .holdEnable m value => Sys2Proof.Machine.execHoldEnable m value s
  | .holdClearDone m => Sys2Proof.Machine.execHoldClearDone m s
  | .holdConfigWrite m reg value => Sys2Proof.Machine.execHoldConfigWrite m reg value s
  | .holdDieLoss m => Sys2Proof.Machine.execHoldDieLoss m s
  | .logbookWrite => Sys2Proof.Machine.execLogbookWrite s
  | .logbookHeartbeat => Sys2Proof.Machine.execLogbookHeartbeat s
  | .faultNoticeSend => Sys2Proof.Machine.execFaultNoticeSend s
  | .faultNoticeResend ix => Sys2Proof.Machine.execFaultNoticeResend ix s
  | .selfTestSlice e ee stopped obs => Sys2Proof.Machine.execSelfTestSlice e ee stopped obs s
  | .integLogTimeWrite value => Sys2Proof.Machine.execIntegLogTimeWrite value s
  | .unitQuery value => Sys2Proof.Machine.execUnitQuery value s
  | .unitRetire value => Sys2Proof.Machine.execUnitRetire value s
  | .unitRestore value => Sys2Proof.Machine.execUnitRestore value s
  | .cmdRingTailWrite value => Sys2Proof.Machine.execCmdRingTailWrite value s
  | .cmdFetch err => Sys2Proof.Machine.execCmdFetch err s
  | .completionWrite => Sys2Proof.Machine.execCompletionWrite s
  | .cplRingHeadWrite value => Sys2Proof.Machine.execCplRingHeadWrite value s
  | .ringEnableWrite cpl value => Sys2Proof.Machine.execRingEnableWrite cpl value s
  | .cmdNop fail => Sys2Proof.Machine.execCmdNop fail s
  | .inject fail => Sys2Proof.Machine.execInject fail s
  | .testStrip tag => Sys2Proof.Machine.execTestStrip tag s
  | .selfTest tag obs => Sys2Proof.Machine.execSelfTest tag obs s
  | .tableScrub tag => Sys2Proof.Machine.execTableScrub tag s
  | .holdLoad tag => Sys2Proof.Machine.execHoldLoad tag s
  | .holdCheckpoint tag => Sys2Proof.Machine.execHoldCheckpoint tag s
  | .knotFlush tag => Sys2Proof.Machine.execKnotFlush tag s
  | .fwUpdate tag => Sys2Proof.Machine.execFwUpdate tag s
  | .attest tag => Sys2Proof.Machine.execAttest tag s
  | .logbookRead tag => Sys2Proof.Machine.execLogbookRead tag s
  | .suspend fail => Sys2Proof.Machine.execSuspend fail s
  | .resume fail => Sys2Proof.Machine.execResume fail s
  | .cancel fail => Sys2Proof.Machine.execCancel fail s
  | .suspendPointReached tag => Sys2Proof.Machine.execSuspendPointReached tag s
  | .longOpComplete tag internal => Sys2Proof.Machine.execLongOpComplete tag internal s
  | .msixUnmask v => Sys2Proof.Machine.execMsixUnmask v s
  | .bar2Read o len hw => Sys2Proof.Machine.execBar2Read o len hw s
  | .bar2Write o data => Sys2Proof.Machine.execBar2Write o data s
  | .bar2WindowWrite value => Sys2Proof.Machine.execBar2WindowWrite value s
  | .dmaChTailWrite c value => Sys2Proof.Machine.execDmaChTailWrite c value s
  | .dmaRunWrite c value => Sys2Proof.Machine.execDmaRunWrite c value s
  | .dmaDescFetch c hw pcieErr => Sys2Proof.Machine.execDmaDescFetch c hw pcieErr s
  | .dmaDescComplete c => Sys2Proof.Machine.execDmaDescComplete c s
  | .dmaShadowArm c => Sys2Proof.Machine.execDmaShadowArm c s
  | .dmaShadowHandover c late => Sys2Proof.Machine.execDmaShadowHandover c late s
  | .perstAssert => Sys2Proof.Machine.execPerstAssert s
  | .perstDeassert => Sys2Proof.Machine.execPerstDeassert s
  | .pcieHotReset => Sys2Proof.Machine.execPcieHotReset s
  | .mgmtWatchdog => Sys2Proof.Machine.execMgmtWatchdog s
  | .bootRomStart => Sys2Proof.Machine.execBootRomStart s
  | .stage1Done => Sys2Proof.Machine.execStage1Done s
  | .bootLockWrite value => Sys2Proof.Machine.execBootLockWrite value s
  | .identityReady seed ok => Sys2Proof.Machine.execIdentityReady seed ok s
  | .fwConfirm => Sys2Proof.Machine.execFwConfirm s
  | .fwActivateRestart => Sys2Proof.Machine.execFwActivateRestart s
  | .recoveryGo value => Sys2Proof.Machine.execRecoveryGo value s
  | .mgmtFrameReceive f => Sys2Proof.Machine.execMgmtFrameReceive f s
  | .mgmtLinkChange up => Sys2Proof.Machine.execMgmtLinkChange up s
  | .echo => Sys2Proof.Machine.execEcho s
  | .noticeAck => Sys2Proof.Machine.execNoticeAck s
  | .regRead => Sys2Proof.Machine.execRegRead s
  | .regWrite => Sys2Proof.Machine.execRegWrite s
  | .mgmtLogbookRead => Sys2Proof.Machine.execMgmtLogbookRead s
  | .keyRotate => Sys2Proof.Machine.execKeyRotate s
  | .wakeDatagram data => Sys2Proof.Machine.execWakeDatagram data s
  | .sessionKeyWrite w value => Sys2Proof.Machine.execSessionKeyWrite w value s
  | .entdaa addr others => Sys2Proof.Machine.execEntdaa addr others s
  | .rstdaa => Sys2Proof.Machine.execRstdaa s
  | .setnewda addr => Sys2Proof.Machine.execSetnewda addr s
  | .getpid => Sys2Proof.Machine.execGetpid s
  | .getbcr => Sys2Proof.Machine.execGetbcr s
  | .getdcr => Sys2Proof.Machine.execGetdcr s
  | .getstatus => Sys2Proof.Machine.execGetstatus s
  | .getmwl => Sys2Proof.Machine.execGetmwl s
  | .getmrl => Sys2Proof.Machine.execGetmrl s
  | .setmwl bcast len => Sys2Proof.Machine.execSetmwl bcast len s
  | .setmrl bcast len => Sys2Proof.Machine.execSetmrl bcast len s
  | .enec bcast events => Sys2Proof.Machine.execEnec bcast events s
  | .disec bcast events => Sys2Proof.Machine.execDisec bcast events s
  | .rstact bcast action => Sys2Proof.Machine.execRstact bcast action s
  | .i3cPrivateRead n => Sys2Proof.Machine.execI3cPrivateRead n s
  | .i3cPrivateWrite data => Sys2Proof.Machine.execI3cPrivateWrite data s
  | .powerOnReset slot => Sys2Proof.Machine.execPowerOnReset slot s
  | .pwrGoodRise => Sys2Proof.Machine.execPwrGoodRise s
  | .pwrGoodFall => Sys2Proof.Machine.execPwrGoodFall s
  | .staggerStep temp => Sys2Proof.Machine.execStaggerStep temp s
  | .avsMarginChange d steps measured => Sys2Proof.Machine.execAvsMarginChange d steps measured s
  | .avsLowerStep d measured => Sys2Proof.Machine.execAvsLowerStep d measured s
  | .avsTimeout d => Sys2Proof.Machine.execAvsTimeout d s
  | .junctionTempSample d temp => Sys2Proof.Machine.execJunctionTempSample d temp s
  | .aonBrownout => Sys2Proof.Machine.execAonBrownout s
  | .pwrTargetP0 lp => Sys2Proof.Machine.execPwrTargetP0 lp s
  | .pwrTargetP1 lp => Sys2Proof.Machine.execPwrTargetP1 lp s
  | .pwrTargetP2 lp => Sys2Proof.Machine.execPwrTargetP2 lp s
  | .pwrTargetP3 lp => Sys2Proof.Machine.execPwrTargetP3 lp s
  | .pwrTransitionDone => Sys2Proof.Machine.execPwrTransitionDone s
  | .wakeTimerExpire => Sys2Proof.Machine.execWakeTimerExpire s
  | .gpioWake ix rising => Sys2Proof.Machine.execGpioWake ix rising s
  | .resetPin => Sys2Proof.Machine.execResetPin s
  | .padReleaseGo => Sys2Proof.Machine.execPadReleaseGo s
  | .resetCold value => Sys2Proof.Machine.execResetCold value s
  | .resetWarm value => Sys2Proof.Machine.execResetWarm value s
  | .resetTransit value => Sys2Proof.Machine.execResetTransit value s
  | .resetHoldDone => Sys2Proof.Machine.execResetHoldDone s
  | .transitResetEnd => Sys2Proof.Machine.execTransitResetEnd s
  | .unitReset value => Sys2Proof.Machine.execUnitReset value s
  | .codewordTransmit d n => Sys2Proof.Machine.execCodewordTransmit d n s
  | .controlLinkLoss die => Sys2Proof.Machine.execControlLinkLoss die s
  | .memoryLinkLoss d m => Sys2Proof.Machine.execMemoryLinkLoss d m s
  | .memoryLinkReturn d m => Sys2Proof.Machine.execMemoryLinkReturn d m s
  | .laserFeedChange oe dataFeed lanyardFeed line power tone => Sys2Proof.Machine.execLaserFeedChange oe dataFeed lanyardFeed line power tone s
  | .vauxRemoval => Sys2Proof.Machine.execVauxRemoval s
  | .ioDieTempSample temp => Sys2Proof.Machine.execIoDieTempSample temp s

end Sys2Proof.Machine
end

