-- ==== Sys2Proof/Safety.lean ====
section
/-! DEFINITION. What a safe step is: one that answers a next state, neither a fault nor a refusal; and the invariant of the registers and
host memory. -/

namespace Sys2Proof

/-- A step's answer is a next state. -/
def completes (r : Host.Outcome Machine.State Machine.Fault Machine.Refusal) : Prop := ∃ t, r = .next t

/-- A step from s is safe. -/
def safeStep (s : Machine.State) : Prop := completes (Machine.step s)

/-- The registers and the host memory are in canonical form: numbers strictly rising, and in host memory no byte listed that reads as an
unlisted one. -/
def Machine.State.canonical (s : Machine.State) : Bool := Machine.keysRising s.regs && Machine.Memory.wf s.hostMem

end Sys2Proof
end

