-- ==== Sys2Proof/Certificates/Slice0/Obligations.lean ====
section
/-! DEFINITION. The statements about the model, by block of the device. Each docstring names the rules of the spec that its statement
formalises. -/

open Sys2Proof Sys2Proof.Machine

/-- A step with command c at the front of the queue is c's effect on the state with the queue's rest, and never touches that rest. With no
command waiting a step is one core cycle of 0.625 ns: the clock moves on by one and the queue stays empty (R27; that the clock moves
just then is the model's choice, log entry 7). -/
def Obligations.StepRunsFrontCommand : Prop :=
  (∀ (c : Instr) (rest : List Instr) (s : State),
    step { s with pending := c :: rest } = exec c { s with pending := rest } ∧
    ∃ t, step { s with pending := c :: rest } = .next t ∧ t.pending = rest) ∧
  (∀ (s : State), ∃ t, step { s with pending := [] } = .next t ∧ t.cycle = s.cycle + 1 ∧ t.pending = [])

/-- Every command, whatever it carries and in every state, answers a next state, leaves the core clock and the queue as they are, and
never takes back what has left the package. -/
def Obligations.EveryCommandCompletes : Prop :=
  ∀ (c : Instr) (s : State), ∃ t, exec c s = .next t ∧ t.pending = s.pending ∧ t.cycle = s.cycle ∧ s.out <:+ t.out

/-- Every step, from every state, keeps the canonical form of the registers and of host memory. -/
def Obligations.StepKeepsCanonical : Prop :=
  ∀ (s t : State), s.canonical = true → step s = .next t → t.canonical = true

/-- The state after reset has the canonical form, nothing of it written. -/
def Obligations.ResetIsCanonical : Prop :=
  State.reset.canonical = true ∧ State.reset.regs = [] ∧ State.reset.hostMem = [] ∧ State.reset.pending = []

/-- A software write of a register word, bit by bit, for any field table: a bit of a field takes what the field's access code says (RW takes
the written bit; RO, WO and RC keep it; W1C clears and W1S sets it where 1 is written; RWL as RW unless locked), where no other field of
the table covers the bit; and a bit of no field keeps (R7). A read clears the RC fields alone, and every WO field begins at the 0 that it
reads (R5). -/
def Obligations.WriteByAccessCode : Prop :=
  (∀ (locked : Bool) (fs : List FieldRow) (r : FieldRow) (old v : Word) (b : Nat),
    r ∈ fs → r.fld.mask.getLsbD b = true → (∀ q ∈ fs, q ≠ r → q.fld.mask.getLsbD b = false) →
    (writeFields locked fs old v).getLsbD b =
      match r.acc with
      | .RW => v.getLsbD b
      | .W1C => old.getLsbD b && !v.getLsbD b
      | .W1S => old.getLsbD b || v.getLsbD b
      | .RWL => if locked then old.getLsbD b else v.getLsbD b
      | .RO => old.getLsbD b
      | .WO => old.getLsbD b
      | .RC => old.getLsbD b) ∧
  (∀ (locked : Bool) (fs : List FieldRow) (old v : Word) (b : Nat),
    (∀ q ∈ fs, q.fld.mask.getLsbD b = false) → (writeFields locked fs old v).getLsbD b = old.getLsbD b) ∧
  (∀ (fs : List FieldRow) (r : FieldRow) (w : Word) (b : Nat),
    r ∈ fs → r.fld.mask.getLsbD b = true → (∀ q ∈ fs, q ≠ r → q.fld.mask.getLsbD b = false) →
    (clearRc fs w).getLsbD b = match r.acc with
      | .RC => false
      | .RW => w.getLsbD b
      | .RO => w.getLsbD b
      | .WO => w.getLsbD b
      | .W1C => w.getLsbD b
      | .W1S => w.getLsbD b
      | .RWL => w.getLsbD b) ∧
  (∀ row ∈ regIndex, ∀ f ∈ row.fields, f.acc = .WO → f.reset = 0)

/-- BAR0 requests at an aligned address. A write of a reserved offset has no effect (R7). A write of a register that is no pair and that no
chapter gives more writes it field by field, the fields that are ignored at their old value, and nothing else (R5) but, where the register
holds a cause or an enable, the message of its vector (R369). REPLICATED_WRITE is the same write at any die's copy; a staged register's
goes to the transaction (R140, R163). RC_FIELD_READ returns the register and clears its RC fields; a log's takes its oldest entry (R5,
R10). CHANNEL_CLASS_WRITE writes the map of all eight dies (R73). 64-bit pairs (R9): a read of the low half returns it and captures the
high half of the same cycle; the next read of the high half returns what was captured. A write of the low half of a writable pair is
held and changes no register, of a locked one it has no effect (R6); the write of the high half then applies both, with none held with
the current low half; the pairs of a Hold die take both as the Hold does (R336), the partition bridges as the transaction does. -/
def Obligations.Bar0Accesses : Prop :=
  (∀ (a v : Word) (s : State), a.toNat % 4 = 0 → findReg (canonReg a.toNat) = none →
    exec (.bar0RegWrite a v) s = .next s ∧ exec (.replicatedWrite a v) s = .next s) ∧
  (∀ (a v : Word) (s : State) (row : RegRow) (idx : List Nat), a.toNat % 4 = 0 → findReg (canonReg a.toNat) = some (row, idx) →
    pairWritable row.reg = false →
    row.reg ∉ [.PORT_LANE_CTRL, .OPT_TS_CTRL, .LANE_CTRL, .PARTITION_FENCE, .PORT_YFP_CTRL, .PORT_HEADROOM,
      .LANYARD_PEER_STATUS, .TIME_CTRL, .TIME_REF_CTRL, .TIME_PORT_CTRL, .TIME_PPS_LOAD, .TIME_PPS_OUT_ANCHOR,
      .TIME_NOW_HI, .LANYARD_PORT_CTRL, .LANYARD_TS_CTRL, .NATIVE_BLOCK, .LEARN_RANGE_ADDR, .LEARN_RANGE_CTRL,
      .PARTITION_BRIDGE, .PARTITION_BRIDGE_HI, .PARTITION_FLOOD, .PORT_PARTITION, .LANYARD_ROTA,
      .LANYARD_ROTA_STAGE, .LANYARD_GUARD_STAGE, .TXN_CTRL, .TBL_CMD, .BUF_POOL_CTRL, .BUF_RESERVE, .SPRAY_SEED,
      .PORT_BUF_CTRL, .PORT_ADMIT, .TM_SHAPER, .CS_PORT_CTRL, .CS_COPY_CTRL, .CS_RING_CTRL, .EXPOSURE_CTRL,
      .POLICER_CFG0, .POLICER_CFG1, .POLICER_CFG2, .ENGINE_CTRL, .ENGINE_PART_CTRL, .ENGINE_TAG_SEED, .KNOT_CMD,
      .HOLD_CTRL, .HOLD_SEED, .HOLD_INDEX_CTRL, .HOLD_RING_SIZE, .HOLD_SHAPE, .HOLD_POOL_ROWS, .INTEG_LOG_TIME,
      .INTEG_UNIT_CMD, .CMD_RING_CTRL, .CMD_RING_TAIL, .CPL_RING_CTRL, .CPL_RING_HEAD, .BAR2_WINDOW, .MSIX_CTRL,
      .DMA_CH_CTRL, .DMA_CH_TAIL, .DMA_CH_CPL_INDEX, .DMA_CH_RING_CFG, .DMA_CH_SHADOW_CTRL, .MGMT_BOOT_CTRL,
      .MGMT_SESSION_KEY, .MGMT_RECOVERY_CTRL, .PWR_CTRL, .PAD_RELEASE, .RESET_CTRL, .UNIT_RESET] →
    let r := row.ref (canonReg a.toNat) idx
    let w := writeFields (s.locked row.reg) row.fields (s.rd r) (vetWord s row.reg idx (s.rd r) v)
    ∃ t, exec (.bar0RegWrite a v) s = .next t ∧ exec (.replicatedWrite a v) s = .next t ∧
      t = { s.wr r w with hostMem := t.hostMem, out := t.out } ∧
      (causeVector row.reg idx = none → enableVector row.reg idx = none → t = s.wr r w)) ∧
  (∀ (a b v : Word) (s : State), a.toNat % 4 = 0 → b.toNat % 4 = 0 → canonReg a.toNat = canonReg b.toNat →
    exec (.replicatedWrite a v) s = exec (.bar0RegWrite b v) s) ∧
  (∀ (a v : Word) (s : State) (row : RegRow) (idx : List Nat), a.toNat % 4 = 0 → findReg (canonReg a.toNat) = some (row, idx) →
    isStaged row.reg = true → exec (.replicatedWrite a v) s = .next (stagedWrite (canonReg a.toNat) v s)) ∧
  (∀ (a : Word) (s : State) (row : RegRow) (idx : List Nat), a.toNat % 4 = 0 → findReg (canonReg a.toNat) = some (row, idx) →
    isPairLow row.reg = false → isPairHigh row.reg = false → row.reg ∉ [.PARITY_LOG, .HOLD_ECC_LOG] →
    (row.fields.any fun f => f.acc == .RC) = true →
    let r := row.ref (canonReg a.toNat) idx
    exec (.rcFieldRead a) s = .next ((s.wr r (clearRc row.fields (s.rd r))).emit (.readWord (liveWord s row r idx).toNat))) ∧
  (∀ (s : State), exec (.rcFieldRead 0x200#32) s =
    .next ((s.wr R.HOST_BAD_ACCESS 0).emit (.readWord (s.rd R.HOST_BAD_ACCESS).toNat))) ∧
  (∀ (d : Fin 8) (s : State) (x : Nat) (l : List Nat), sget s.tabs.plog d.val [] = x :: l →
    exec (.rcFieldRead (BitVec.ofNat 32 (R.PARITY_LOG d.val).addr)) s =
      .next ((s.updTabs fun t => { t with plog := sput t.plog d.val l [] }).emit (.readWord (2 ^ 31 + x % 2 ^ 31)))) ∧
  (∀ (d d2 : Fin 8) (q : Fin 64) (w : Fin 16) (v : Word) (s : State), ∃ t, exec (.channelClassWrite d q w v) s = .next t ∧
    t = s.wr (R.CHANNEL_CLASS 0 q.val w.val) v ∧ (bar0Read (R.CHANNEL_CLASS d2.val q.val w.val).addr t).1 = v) ∧
  (∀ (a : Word) (s : State) (row hi : RegRow) (i j : List Nat), a.toNat % 4 = 0 → findReg (canonReg a.toNat) = some (row, i) →
    isPairLow row.reg = true → findReg (canonReg a.toNat + 4) = some (hi, j) → isPairHigh hi.reg = true →
    let high := liveWord s hi (hi.ref (canonReg a.toNat + 4) j) j
    ∃ t, exec (.pairLowRead a) s = .next t ∧
      t.out = .readWord (liveWord s row (row.ref (canonReg a.toNat) i) i).toNat :: s.out ∧
      t = { s with capHigh := t.capHigh, out := t.out } ∧
      ∀ (u : State) (b : Nat), u.capHigh = t.capHigh → canonReg b = canonReg a.toNat + 4 → (bar0Read b u).1 = high) ∧
  (∀ (a v : Word) (s : State) (row : RegRow) (i : List Nat), a.toNat % 4 = 0 → findReg (canonReg a.toNat) = some (row, i) →
    isPairLow row.reg = true → pairWritable row.reg = true → row.reg ≠ .PARTITION_BRIDGE →
    exec (.pairLowWrite a v) s = .next (if row.reg = .MGMT_MAC_ADDR ∧ s.locked row.reg = true then s
      else { s with heldLow := sput s.heldLow (canonReg a.toNat) (v.toNat + 1) 0 })) ∧
  (∀ (d : Fin 8) (q : Fin 64) (v : Word) (s : State),
    exec (.pairLowWrite (BitVec.ofNat 32 (R.PARTITION_BRIDGE d.val q.val).addr) v) s =
      .next { s with heldLow := sput s.heldLow (R.PARTITION_BRIDGE 0 q.val).addr (v.toNat + 1) 0 }) ∧
  (∀ (a v : Word) (s : State) (hi row : RegRow) (j i : List Nat), a.toNat % 4 = 0 → findReg (canonReg a.toNat) = some (hi, j) →
    isPairHigh hi.reg = true → pairWritable hi.reg = true → findReg (canonReg a.toNat - 4) = some (row, i) →
    let low := canonReg a.toNat - 4
    let u := { s with heldLow := if sget s.heldLow low 0 = 0 then s.heldLow else sput s.heldLow low 0 0 }
    let lo := if sget s.heldLow low 0 = 0 then (sget s.regs low 0).toNat else sget s.heldLow low 0 - 1
    (hi.reg ∉ [.HOLD_RING_BASE_HI, .HOLD_POOL_BASE_HI, .PARTITION_BRIDGE_HI] →
      exec (.pairHighWrite a v) s = .next (if pairShut u hi.reg = true then u
        else plainWrite hi (hi.ref (canonReg a.toNat) j) j v (plainWrite row (row.ref low i) i (BitVec.ofNat 32 lo) u))) ∧
    (hi.reg = .HOLD_RING_BASE_HI →
      exec (.pairHighWrite a v) s = .next (writeHoldReg (j.getD 0 8) .ringBase (lo + v.toNat * 2 ^ 32) u)) ∧
    (hi.reg = .HOLD_POOL_BASE_HI → exec (.pairHighWrite a v) s =
      .next (writeHoldReg (j.getD 0 8) (.poolBase (Fin.ofNat 16 (j.getD 1 0))) (lo + v.toNat * 2 ^ 32) u)) ∧
    (hi.reg = .PARTITION_BRIDGE_HI → exec (.pairHighWrite a v) s = .next (stagedWrite (canonReg a.toNat) v s))) ∧
  (∀ (v w : Word) (s : State), ∃ t, exec (.pairLowWrite 0x1400018#32 v) s = .next t ∧ t.regs = s.regs ∧
    ∀ u : State, u.heldLow = t.heldLow → ∃ x, exec (.pairHighWrite 0x140001C#32 w) u = .next x ∧
      x.rd R.WAKE_TIMER = v ∧ x.rd R.WAKE_TIMER_HI = w ∧ sget x.heldLow 0x1400018 0 = 0) ∧
  (∀ (w : Word) (s : State), sget s.heldLow 0x1400018 0 = 0 → ∃ x, exec (.pairHighWrite 0x140001C#32 w) s = .next x ∧
      x.rd R.WAKE_TIMER = s.rd R.WAKE_TIMER ∧ x.rd R.WAKE_TIMER_HI = w)

/-- A request to BAR0 that is not a 4-byte-aligned access of 4 bytes: a read of n bytes returns n bytes of zero, a write is discarded, and
each counts one in HOST_BAD_ACCESS, which saturates (R8). -/
def Obligations.Bar0BadAccess : Prop :=
  (∀ (a : Word) (n : Nat) (s : State), a.toNat % 4 ≠ 0 ∨ n ≠ 4 →
    exec (.bar0BadAccess a n true) s = .next (s.countF R.HOST_BAD_ACCESS F.HOST_BAD_ACCESS_BAR0) ∧
    exec (.bar0BadAccess a n false) s =
      .next ((s.countF R.HOST_BAD_ACCESS F.HOST_BAD_ACCESS_BAR0).emit (.readBytes (zeros n)))) ∧
  (∀ (a v : Word) (s : State), a.toNat % 4 ≠ 0 →
    exec (.bar0RegWrite a v) s = .next (s.countF R.HOST_BAD_ACCESS F.HOST_BAD_ACCESS_BAR0) ∧
    exec (.replicatedWrite a v) s = .next (s.countF R.HOST_BAD_ACCESS F.HOST_BAD_ACCESS_BAR0)) ∧
  (∀ s : State, (s.countF R.HOST_BAD_ACCESS F.HOST_BAD_ACCESS_BAR0).fld R.HOST_BAD_ACCESS F.HOST_BAD_ACCESS_BAR0 =
    min 65535 (s.fld R.HOST_BAD_ACCESS F.HOST_BAD_ACCESS_BAR0 + 1))

/-- Die links. A flit that fails its check is replayed and counted by its sender, and the sixteenth replay of one flit takes the link down;
a good one ends its channel's run of replays and leaves the link for the die's buffer, and the head of a frame asks for its crossing of the
die: to its destination there, or to the link of its second crossing, on the next channel. The off mask follows the buffer. Loss of
training takes an up link down: UP and DRAINING are 0 and DOWN_EVENT is set at both ends, the event is recorded, and the frames that
still need the link start again. A down link between two dies that are up retrains, and comes up again; its end drains while a pinned
frame is under way on an indirect path, until none is. CREDIT_SYNC sets the off mask and nothing else (R19 to R25). -/
def Obligations.DieLinks : Prop :=
  (∀ (d peer vc : Fin 8) (ok : Bool) (s : State),
    (s.link peer.val d.val).flight.find? (fun f => f.vc == vc.val) = none ∨ s.linkUp d.val peer.val = false →
    exec (.flitReceive d peer vc ok) s = .next s) ∧
  (∀ (d peer vc : Fin 8) (f : Flit) (s : State), s.linkUp d.val peer.val = true →
    (s.link peer.val d.val).flight.find? (fun f => f.vc == vc.val) = some f →
    let n := sget (s.link peer.val d.val).replays vc.val 0 + 1
    let bad := (s.count (R.D2D_REPLAY_COUNT peer.val d.val)).updLink peer.val d.val fun x => { x with replays := sput x.replays vc.val n 0 }
    let off := s.updLink peer.val d.val fun x => { x with replays := sput x.replays vc.val 0 0, flight := x.flight.erase f }
    let took := off.updLink peer.val d.val fun l => { l with held := l.held ++ [f] }
    (n < 16 → exec (.flitReceive d peer vc false) s = .next bad) ∧
    (16 ≤ n → exec (.flitReceive d peer vc false) s = .next (linkDown bad d.val peer.val 1)) ∧
    (f.head = false → exec (.flitReceive d peer vc true) s = .next (creditUpdate d.val took peer.val)) ∧
    (f.head = true → f.vc % 2 = 1 ∨ f.dest = d.val → exec (.flitReceive d peer vc true) s = .next (creditUpdate d.val
      (addXfer took d.val f.frame (slotOfLink d.val peer.val f.vc) (outSlot (s.frm f.frame)) (s.frm f.frame).cut 8 peer.val)
      peer.val)) ∧
    (f.head = true → f.vc % 2 ≠ 1 → f.dest ≠ d.val → exec (.flitReceive d peer vc true) s = .next (creditUpdate d.val
      (addXfer took d.val f.frame (slotOfLink d.val peer.val f.vc) (slotOfLink d.val f.dest (f.vc + 1)) true (f.vc + 1) peer.val)
      peer.val))) ∧
  (∀ (d peer : Fin 8) (s : State),
    (d = peer ∨ s.linkUp d.val peer.val = false → exec (.linkTrainingLoss d peer) s = .next s) ∧
    (d ≠ peer → s.linkUp d.val peer.val = true →
      let r1 := R.D2D_LINK_STATUS d.val peer.val
      let r2 := R.D2D_LINK_STATUS peer.val d.val
      let s1 := (((s.setF r1 F.D2D_LINK_STATUS_UP 0).setF r2 F.D2D_LINK_STATUS_UP 0).setF r1 F.D2D_LINK_STATUS_DRAINING 0).setF r2
        F.D2D_LINK_STATUS_DRAINING 0
      let s2 := setEvent (setEvent s1 62 r1 F.D2D_LINK_STATUS_DOWN_EVENT) 62 r2 F.D2D_LINK_STATUS_DOWN_EVENT
      let s3 := (s2.updLink d.val peer.val fun l => { l with replays := [], training := false }).updLink peer.val d.val fun l =>
        { l with replays := [], training := false }
      exec (.linkTrainingLoss d peer) s =
        .next (rerouteFrames (fileRec (s3.drawFree 16).2 { LogRec.of 5 0x0A 0xA d.val peer.val with
          syn := [2 * 65536 + (s3.drawFree 16).1, peer.val], synClass := 1, counts := true }) (framesOnLink s d.val peer.val)))) ∧
  (∀ (d peer : Fin 8) (s : State), d ≠ peer → s.linkUp d.val peer.val = false → s.dieUp d.val = true → s.dieUp peer.val = true →
    exec (.dieLinkRetrain d peer) s =
      .next ((s.updLink d.val peer.val fun l => { l with training := true }).updLink peer.val d.val fun l => { l with training := true })) ∧
  (∀ (d peer : Fin 8) (s : State), d = peer ∨ s.linkUp d.val peer.val = true ∨ s.dieUp d.val = false ∨ s.dieUp peer.val = false →
    exec (.dieLinkRetrain d peer) s = .next s) ∧
  (∀ (d peer : Fin 8) (s : State),
    ((s.link d.val peer.val).training = false ∨ s.linkUp d.val peer.val = true → exec (.dieLinkUp d peer) s = .next s) ∧
    ((s.link d.val peer.val).training = true → s.linkUp d.val peer.val = false →
      let s1 := (s.updLink d.val peer.val fun l => { l with training := false, replays := [] }).updLink peer.val d.val fun l =>
        { l with training := false, replays := [] }
      let s2 := (s1.setF (R.D2D_LINK_STATUS d.val peer.val) F.D2D_LINK_STATUS_UP 1).setF (R.D2D_LINK_STATUS peer.val d.val)
        F.D2D_LINK_STATUS_UP 1
      let s3 := s2.setF (R.D2D_LINK_STATUS d.val peer.val) F.D2D_LINK_STATUS_DRAINING (if pinnedIndirect s2 d.val peer.val then 1 else 0)
      exec (.dieLinkUp d peer) s = .next (s3.setF (R.D2D_LINK_STATUS peer.val d.val) F.D2D_LINK_STATUS_DRAINING
        (if pinnedIndirect s3 peer.val d.val then 1 else 0)))) ∧
  (∀ (d peer : Fin 8) (s : State),
    (pinnedIndirect s d.val peer.val = true → exec (.meshDrainDone d peer) s = .next s) ∧
    (pinnedIndirect s d.val peer.val = false →
      exec (.meshDrainDone d peer) s = .next (s.setF (R.D2D_LINK_STATUS d.val peer.val) F.D2D_LINK_STATUS_DRAINING 0))) ∧
  (∀ (d peer : Fin 8) (mask : Byte) (s : State), d ≠ peer →
    exec (.creditSyncReceive d peer mask) s = .next (s.setF (R.D2D_LINK_STATUS d.val peer.val) F.D2D_LINK_STATUS_VC_OFF mask.toNat))

/-- What arrives on a lane. A codeword is decoded, and its twenty blocks are descrambled; one that decodes counts its corrected symbols and
an uncorrectable one counts on the lane, and on the lane's port; its data slots stand in the lane as a row, bad in an uncorrectable one,
and on a data lane join the port's stream; a codeword that is none counts as missing. A marker leaves its index and group identifier with
its lane, and the identifier of the lead lane reads in PORT_FAR_GROUP_ID; a lane of another group, or with the index of another admitted
lane, is excluded; lanyard lanes carry none (R35 to R42, R48, R55, R117). -/
def Obligations.CodewordReception : Prop :=
  (∀ (d : Fin 8) (n : Fin 144) (syms : List (BitVec 10)) (s : State), s.portOfLane d.val n.val = none →
    let raw := syms.map BitVec.toNat
    let act := s.rxActive d.val 255 n.val
    (∀ m k, rsDecode raw = some (m, k) →
      let x := readBlocks (s.lane d.val n.val).rxScr (msgBlocks m)
      exec (.codewordReceive d n (.received syms)) s =
        .next ((s.countN (R.LANE_COUNT (laneEngine d.val n.val) (laneLocal n.val) 6) k).updLane d.val n.val fun l =>
          keepRow { noteCodeword l true (carriesCond (s.port d.val 255) x.1) x.1 with rxScr := x.2 } act false x.1)) ∧
    (rsDecode raw = none →
      let x := readBlocks (s.lane d.val n.val).rxScr (msgBlocks raw)
      exec (.codewordReceive d n (.received syms)) s = .next ((s.laneCount d.val n.val 7).updLane d.val n.val fun l =>
        keepRow { noteCodeword l false false [] with rxScr := x.2 } act true x.1))) ∧
  (∀ (d : Fin 8) (n : Fin 144) (p : Nat) (syms : List (BitVec 10)) (s : State), s.portOfLane d.val n.val = some p →
    let raw := syms.map BitVec.toNat
    let act := s.rxActive d.val p n.val
    let join := fun (t : State) => if n.val < 128 then joinStream d.val p 64 t else t
    (∀ m k, rsDecode raw = some (m, k) →
      let x := readBlocks (s.lane d.val n.val).rxScr (msgBlocks m)
      exec (.codewordReceive d n (.received syms)) s = .next (join (countBlocks d.val p (decide (128 ≤ n.val)) true x.1
        ((s.countN (R.LANE_COUNT (laneEngine d.val n.val) (laneLocal n.val) 6) k).updLane d.val n.val fun l =>
          keepRow { noteCodeword l true (carriesCond (s.port d.val p) x.1) x.1 with rxScr := x.2 } act false x.1)))) ∧
    (rsDecode raw = none →
      let x := readBlocks (s.lane d.val n.val).rxScr (msgBlocks raw)
      exec (.codewordReceive d n (.received syms)) s = .next (join (((s.laneCount d.val n.val 7).updLane d.val n.val fun l =>
        keepRow { noteCodeword l false false [] with rxScr := x.2 } act true x.1).yfpCount d.val p 3)))) ∧
  (∀ (d : Fin 8) (n : Fin 144) (s : State),
    exec (.codewordReceive d n .invalid) s = .next (s.updLane d.val n.val fun l =>
      { l with rxBlocks := [], noCw := l.noCw + 1, recent := (true :: l.recent).take 256, quiet := l.quiet + 1 })) ∧
  (∀ (d : Fin 8) (n : Fin 144) (idx mask : Byte) (gid : Word) (s : State),
    (s.portOfLane d.val n.val = none → exec (.alignmentMarkerReceive d n idx mask gid) s = .next s) ∧
    (∀ p, s.portOfLane d.val n.val = some p → 128 ≤ p → exec (.alignmentMarkerReceive d n idx mask gid) s = .next s) ∧
    (∀ p, s.portOfLane d.val n.val = some p → p < 128 →
      let dup := (s.laneList d.val p).any fun m =>
        m != n.val && s.rxAdmitted d.val p m && (s.lane d.val m).marker.map (·.1) == some idx.toNat
      let s1 := s.updLane d.val n.val fun l => { l with marker := some (idx.toNat, gid.toNat) }
      let s2 := if s1.leadRx d.val p = some n.val then s1.wr (R.PORT_FAR_GROUP_ID d.val p) gid else s1
      let leadGid := (s1.leadRx d.val p).bind fun m => (s2.lane d.val m).marker.map (·.2)
      exec (.alignmentMarkerReceive d n idx mask gid) s =
        .next (if (leadGid.isSome && leadGid != some gid.toNat) || dup then excludeByMarker s2 d.val n.val else s2)))

/-- The checks of a frame's header on a data port, in their order (R55): in hunt a bad header CRC is passed over without a count; out of it
it counts in index 0 and starts the hunt; another failed check drops the frame and counts at that check; on a port that is not UP, or
that sends QUARANTINED before a reset (R47, R426), the frame is dropped; else it is policed and staged. -/
def Obligations.FrameHeaderChecks : Prop :=
  ∀ (d p peer : Nat) (h : Header) (first : Bytes) (s : State),
    let s1 := s.updPort d p fun x => { x with hunt := false }
    ((s.port d p).hunt = true → headerCheck s h = some 0 → rxHead s d p peer h first = (none, s)) ∧
    ((s.port d p).hunt = false → headerCheck s h = some 0 →
      rxHead s d p peer h first = (none, enterHunt (s1.yfpCount d p 0) d p)) ∧
    (∀ i, headerCheck s h = some (i + 1) → rxHead s d p peer h first = (none, dropYfp s1 d p (i + 1) h first)) ∧
    (headerCheck s h = none → s1.portUp d p = false ∨ s.pwr.hold = true → rxHead s d p peer h first =
      (none, dropNotUp (mirrorRx s1 d p h first 3) d p (rxRec s1 d p peer h 3 first))) ∧
    (headerCheck s h = none → s1.portUp d p = true → s.pwr.hold = false → rxHead s d p peer h first =
      stageFrame (mirrorRx (police s1 d p h).2 d p h first (police s1 d p h).1)
        (rxRec (police s1 d p h).2 d p peer h (police s1 d p h).1 first) (peerLossy (police s1 d p h).2 p d peer))

/-- FRAME_RECEIVE on a data port that exists. The next data block of the port's stream is skipped while the stated length of a dropped frame
lasts; else it is the first block of a frame, which a bad one or a bad header CRC is not, or goes on with the open one: the header is acted
on with the first four blocks or the whole of a shorter frame, and the frame ends with its stated length (R49, R55). A port carries one
frame at a time, so a head or a whole frame given at once has no effect while one is open, and a tail none while none is. At its end a
frame with a block in an uncorrectable codeword, and one whose payload CRC or length fails, ends as bad, with reason 4 where a lane was
lost, 2 where the length is wrong, else 1; any other is whole (R55, R57). Lanyard ports take their frames in bursts. FRAME_ABORT_RECEIVE
ends the open frame as bad and counts index 10 (R57). -/
def Obligations.FrameReception : Prop :=
  (∀ (d : Fin 8) (p : Fin 130) (ev : RxEvent) (s : State), 128 ≤ p.val ∨ s.portExists d.val p.val = false →
    exec (.frameReceive d p ev) s = .next s) ∧
  (∀ (d : Fin 8) (p : Fin 130) (s : State), p.val < 128 → s.portExists d.val p.val = true →
    let x := s.port d.val p.val
    (x.rxStream = [] → exec (.frameReceive d p .block) s = .next s) ∧
    (∀ b rest, x.rxStream = b :: rest →
      let s1 := s.updPort d.val p.val fun y => { y with rxStream := rest }
      let add := s1.updPort d.val p.val fun y => { y with rxAsm := x.rxAsm ++ b.block.bytes, rxBad := x.rxBad || b.bad }
      (x.rxSkip ≠ 0 → exec (.frameReceive d p .block) s = .next (s1.updPort d.val p.val fun y => { y with rxSkip := x.rxSkip - 1 })) ∧
      (∀ h, x.rxSkip = 0 → x.rxHdr = some h → exec (.frameReceive d p .block) s = .next (rxStart add d.val p.val h)) ∧
      (∀ id, x.rxSkip = 0 → x.rxHdr = none → x.rxOpen = some id →
        let h := (s.frm id).frame.hdr
        exec (.frameReceive d p .block) s =
          .next (if x.rxAsm.length / 32 + 1 = bodyBlocks h then rxFinish add d.val p.val id h else add)) ∧
      (x.rxSkip = 0 → x.rxHdr = none → x.rxOpen = none →
        let h := headerOf b.block.bytes
        (b.bad = true → exec (.frameReceive d p .block) s = .next (enterHunt s1 d.val p.val)) ∧
        (b.bad = false → h.w7.toNat ≠ hCrc h → exec (.frameReceive d p .block) s = .next (rxHead s1 d.val p.val 255 h []).2) ∧
        (b.bad = false → h.w7.toNat = hCrc h → exec (.frameReceive d p .block) s = .next (s1.updPort d.val p.val fun y =>
          { y with hunt := false, rxHdr := some h, rxAsm := [], rxBad := false, rxLost := false }))))) ∧
  (∀ (d : Fin 8) (p : Fin 130) (h : Header) (b : Bytes) (crc : Word) (bad : Bool) (id : Nat) (s : State),
    p.val < 128 → s.portExists d.val p.val = true → (s.port d.val p.val).rxOpen = some id →
    let s1 := s.updPort d.val p.val fun x => { x with rxOpen := none }
    exec (.frameReceive d p (.head h b)) s = .next s ∧ exec (.frameReceive d p (.whole h b crc bad)) s = .next s ∧
    exec (.frameReceive d p (.tail b crc bad)) s = .next (rxTail s1 d.val p.val id b crc bad)) ∧
  (∀ (d : Fin 8) (p : Fin 130) (h : Header) (b : Bytes) (crc : Word) (bad : Bool) (s : State),
    p.val < 128 → s.portExists d.val p.val = true → (s.port d.val p.val).rxOpen = none →
    exec (.frameReceive d p (.tail b crc bad)) s = .next s ∧
    exec (.frameReceive d p (.head h b)) s = .next ((rxHead s d.val p.val 255 h b).2.updPort d.val p.val fun x =>
      { x with rxOpen := (rxHead s d.val p.val 255 h b).1 }) ∧
    exec (.frameReceive d p (.whole h b crc bad)) s =
      .next (match rxHead s d.val p.val 255 h ((b ++ beBytes crc.toNat 4).take 96) with
      | (some id, t) => rxTail t d.val p.val id b crc bad
      | (none, t) => t)) ∧
  (∀ (d p id : Nat) (b : Bytes) (crc : Word) (bad : Bool) (f : FrameRec) (s : State), s.frm? id = some f →
    let lost := (s.port d p).rxLost
    let s0 := s.updPort d p fun x => { x with rxLost := false }
    (bad = true → rxTail s d p id b crc bad = endBad s0 id (if lost then 4 else 1)) ∧
    (bad = false → b.length ≠ hPlen f.frame.hdr → rxTail s d p id b crc bad = endBad (dropYfpRec s0 1 f) id (if lost then 4 else 2)) ∧
    (bad = false → b.length = hPlen f.frame.hdr → crc.toNat ≠ payloadCrc b →
      rxTail s d p id b crc bad = endBad (dropYfpRec s0 1 f) id (if lost then 4 else 1)) ∧
    (bad = false → b.length = hPlen f.frame.hdr → crc.toNat = payloadCrc b →
      rxTail s d p id b crc bad = frameWhole s0 id b crc)) ∧
  (∀ (d : Fin 8) (p : Fin 130) (seq : BitVec 24) (reason : Byte) (s : State),
    let s1 := (s.yfpCount d.val p.val 10).updPort d.val p.val fun x =>
      { x with rxHdr := none, rxAsm := [], rxBad := false, rxSkip := 0, rxLost := false }
    ((s.port d.val p.val).rxOpen = none → exec (.frameAbortReceive d p seq reason) s = .next s1) ∧
    (∀ id, (s.port d.val p.val).rxOpen = some id → exec (.frameAbortReceive d p seq reason) s =
      .next (endBad (s1.updPort d.val p.val fun x => { x with rxOpen := none }) id 3)))

/-- Flow control. XOFF_XON sets the off mask of a data port and notes for each class since when it is paused, keeping the time of a class
that already was (R65, R68); a lanyard port takes its masks in bursts (R132). XOFF_REFRESH queues the port's own mask again on its lanes
while any class is off. PAUSE_WATCHDOG sets WD_EVENT, counts index 15 and is recorded, where the class has been paused for longer than
PAUSE_WD_MS, and leaves the class paused; one pause expires once (R68). -/
def Obligations.FlowControlReceived : Prop :=
  (∀ (d : Fin 8) (p : Fin 130) (mask : Byte) (s : State), 128 ≤ p.val → exec (.xoffXonReceive d p mask) s = .next s) ∧
  (∀ (d : Fin 8) (p : Fin 130) (mask : Byte) (s : State), p.val < 128 → ∃ t, exec (.xoffXonReceive d p mask) s = .next t ∧
    t.regs = (s.setF (R.PORT_FC_STATUS d.val p.val) F.PORT_FC_STATUS_RX_OFF mask.toNat).regs ∧
    t.ports = (s.setPort d.val p.val { s.port d.val p.val with pausedAt := (t.port d.val p.val).pausedAt }).ports ∧
    ∀ c < 8, sget (t.port d.val p.val).pausedAt c 0 =
      if mask.toNat.testBit c then (if sget (s.port d.val p.val).pausedAt c 0 = 0 then s.cycle + 1
        else sget (s.port d.val p.val).pausedAt c 0) else 0) ∧
  (∀ (d : Fin 8) (p : Fin 130) (s : State),
    (s.fld (R.PORT_FC_STATUS d.val p.val) F.PORT_FC_STATUS_TX_OFF = 0 ∨ 128 ≤ p.val → exec (.xoffRefresh d p) s = .next s) ∧
    (s.fld (R.PORT_FC_STATUS d.val p.val) F.PORT_FC_STATUS_TX_OFF ≠ 0 → p.val < 128 → exec (.xoffRefresh d p) s =
      .next (queueAll s d.val p.val (ctlXoff (s.fld (R.PORT_FC_STATUS d.val p.val) F.PORT_FC_STATUS_TX_OFF) false)))) ∧
  (∀ (d : Fin 8) (p : Fin 130) (tc : Fin 8) (s : State),
    let fc := R.PORT_FC_STATUS d.val p.val
    let ms := s.fld (R.PORT_YFP_CTRL d.val p.val) F.PORT_YFP_CTRL_PAUSE_WD_MS
    let since := sget (s.port d.val p.val).pausedAt tc.val 0
    (s.paused d.val p.val tc.val = false ∨ ms = 0 ∨ since = 0 ∨ s.cycle + 1 - since ≤ ms * 1600000 →
      exec (.pauseWatchdog d p tc) s = .next s) ∧
    (s.paused d.val p.val tc.val = true → ms ≠ 0 → since ≠ 0 → ms * 1600000 < s.cycle + 1 - since →
      exec (.pauseWatchdog d p tc) s = .next (fileRec
        (((s.setBit fc F.PORT_FC_STATUS_WD_EVENT).yfpCount d.val p.val 15).updPort d.val p.val fun x =>
          { x with pausedAt := sput x.pausedAt tc.val 0 0 })
        { LogRec.of 5 0x0D (portKind p.val) d.val p.val with
          syn := [2 * 2 ^ 24 + s.fld fc F.PORT_FC_STATUS_RX_OFF, p.val], synClass := 2 })))

/-- Fault conditions and lane sets. LINK_FAULT leaves the far end's condition with the port and the port carries no frames; the condition ends
only once eight codewords without it have passed on every active lane (R45, R47). LANE_SET is kept until its codeword, and then, not before, the
stripe of that direction changes; LANE_DOWN takes the lost lanes out of what is sent and is answered with LANE_SET
(R43). -/
def Obligations.FaultsAndLaneSets : Prop :=
  (∀ (d : Fin 8) (p : Fin 128) (code : FaultCode) (s : State), exec (.linkFaultReceive d p code) s =
    .next (losePort (resetQuiet (s.updPort d.val p.val fun x => { x with farCond := some code }) d.val p.val) d.val p.val)) ∧
  (∀ (d : Fin 8) (p : Fin 128) (s : State),
    let quiet := ∀ n ∈ s.laneList d.val p.val, s.rxActive d.val p.val n = true → 8 ≤ (s.lane d.val n).quiet
    (quiet → exec (.linkFaultConditionEnd d p) s = .next (s.updPort d.val p.val fun x => { x with farCond := none })) ∧
    (¬ quiet → exec (.linkFaultConditionEnd d p) s = .next s)) ∧
  (∀ (d : Fin 8) (p : Fin 128) (mask : Byte) (idx : Fin 16384) (s : State), exec (.laneSetReceive d p mask idx) s =
    .next (s.updPort d.val p.val fun x => { x with laneSetRx := some (mask.toNat, idx.val) })) ∧
  (∀ (d : Fin 8) (p : Fin 128) (m i : Nat) (s : State),
    ((s.port d.val p.val).laneSetRx = none → exec (.laneSetEffective d p true) s = .next s) ∧
    ((s.port d.val p.val).laneSetTx = none → exec (.laneSetEffective d p false) s = .next s) ∧
    ((s.port d.val p.val).laneSetRx = some (m, i) →
      (∀ n, s.leadRx d.val p.val = some n → (s.lane d.val n).rxIdx = i) → exec (.laneSetEffective d p true) s =
      .next (setRxMask (s.updPort d.val p.val fun y => { y with laneSetRx := none }) d.val p.val m)) ∧
    (∀ n, (s.port d.val p.val).laneSetRx = some (m, i) → s.leadRx d.val p.val = some n → (s.lane d.val n).rxIdx ≠ i →
      exec (.laneSetEffective d p true) s = .next s) ∧
    ((s.port d.val p.val).laneSetTx = some (m, i) → (s.port d.val p.val).txIdx ≠ i → exec (.laneSetEffective d p false) s = .next s) ∧
    ((s.port d.val p.val).laneSetTx = some (m, i) → (s.port d.val p.val).txIdx = i → exec (.laneSetEffective d p false) s =
      .next (setTxMask (s.updPort d.val p.val fun y => { y with laneSetTx := none }) d.val p.val (m &&& s.widthMask d.val p.val)))) ∧
  (∀ (d : Fin 8) (p : Fin 128) (mask : Byte) (s : State),
    let s1 := ((s.laneList d.val p.val).filter fun n => mask.toNat.testBit (laneIndex n)).foldl
      (fun t n => setFarAdmit t d.val n false) s
    let rest := ((List.range 8).map fun i =>
      if (s1.txGoal d.val p.val).testBit i && !mask.toNat.testBit i then 2 ^ i else 0).sum
    exec (.laneDownReceive d p mask) s =
      .next (if rest = s1.txGoal d.val p.val then s1 else sendLaneSet s1 d.val p.val rest))

/-- CODEWORD_TRANSMIT on a data lane that is lit. The port deals the data slots of a codeword to all its lit lanes at once, so a lane that
holds none takes part in the next (R40, R42). At codeword index 0 the control slot carries the alignment marker: lane index, transmit
stripe, group identifier (R40). Else a fault condition the port has to send goes in every second slot, and in the last before a marker,
unless the copies of a LANE_SET have begun; else the waiting word of highest rank; else the fault condition; else IDLE (R39, R43, R45). A
TIME word leaves with the time of its departure (R46). The codeword is the control slot and the data slots, or PRBS31 (R81), scrambled and
encoded (R35, R36). An unlit lane and a lanyard lane send none. -/
def Obligations.CodewordTransmission : Prop :=
  (∀ (d : Fin 8) (n : Fin 144) (s : State),
    (∀ p, s.portOfLane d.val n.val = some p → 128 ≤ p ∨ s.laneLit d.val p n.val = false) →
    exec (.codewordTransmit d n) s = .next s) ∧
  (∀ (d : Fin 8) (n : Fin 144) (p : Nat) (s : State), s.portOfLane d.val n.val = some p → p < 128 → s.laneLit d.val p n.val = true →
    let s1 := if (s.lane d.val n.val).txRows.isEmpty then dealRow s d.val p ((s.laneList d.val p).filter (s.laneLit d.val p)) else s
    let idx := ((s1.lane d.val n.val).txRows.headD (0, [])).1
    let row := ((s1.lane d.val n.val).txRows.headD (0, [])).2
    let l := s1.lane d.val n.val
    let cond := s1.sendCond d.val p
    let sent := fun (typ body : Nat) (x : Lane) (u : State) =>
      let r := slotsOf (u.setLane d.val n.val { x with txRows := x.txRows.drop 1 }) d.val n.val (ctlBlock typ body) row
      let c := makeCodeword x.txScr r.1
      ((r.2.updLane d.val n.val fun y => { y with txScr := c.2, prbsOn := y.prbsOn || (typ == 7 && body / 2 ^ 52 == 3) }).emit
        (.codeword d.val n.val c.1)).emit (.control d.val n.val typ body)
    (idx = 0 → exec (.codewordTransmit d n) s = .next (sent 0xAA
      (laneIndex n.val * 2 ^ 48 + s1.txMask d.val p * 2 ^ 40 + (s1.rd (R.PORT_GROUP_ID d.val p)).toNat) { l with gap := l.gap + 1 } s1)) ∧
    (idx ≠ 0 → cond ≠ 0 → l.setLeft = 0 → 1 ≤ l.gap ∨ idx = 16383 →
      exec (.codewordTransmit d n) s = .next (sent 5 (cond * 2 ^ 52) { l with gap := 0 } s1)) ∧
    (idx ≠ 0 → cond ≠ 0 → l.setLeft = 0 → ctlChoice l idx = none →
      exec (.codewordTransmit d n) s = .next (sent 5 (cond * 2 ^ 52) { l with gap := 0 } s1)) ∧
    (idx ≠ 0 → cond = 0 → ctlChoice l idx = none →
      exec (.codewordTransmit d n) s = .next (sent 1 0 { l with gap := l.gap + 1 } s1)) ∧
    (∀ c, idx ≠ 0 → cond = 0 ∨ l.setLeft ≠ 0 ∨ (l.gap = 0 ∧ idx ≠ 16383) → ctlChoice l idx = some c → c.typ ≠ 3 →
      exec (.codewordTransmit d n) s = .next (sent c.typ c.body (sentWord l c) s1)) ∧
    (∀ c, idx ≠ 0 → cond = 0 ∨ l.setLeft ≠ 0 ∨ (l.gap = 0 ∧ idx ≠ 16383) → ctlChoice l idx = some c → c.typ = 3 →
      exec (.codewordTransmit d n) s = .next (sent 3 (stampTime s1 c.body).1 (sentWord l c) (stampTime s1 c.body).2)))

/-- The test strip (R79 to R85, R125). A link start begins a strip on every lane of the port that can be tested, and shows FAULT or REJECTED on
one that waits for a command. In LASER_CHECK a line of enough power with its tone starts the seek of step 2, another ends the strip with
NO_LASER; a lanyard lane notes its weak colours. A ring that locks on its lane's tone shows its line; with both locked the handshake
begins. A seek that fails in step 2 ends with NO_LOCK. A TEST_STRIP word that names another lane index is discarded and counted; a
REQUEST of a new attempt is answered by READY, and READY, PRBS_OFF, REPORT and REJECT are taken. Without PRBS before the first point the
lane is rejected with NO_PRBS. Points of a sweep are kept in the order of the sweeps unless the engine is in slew pause. With the sweeps
complete the first check of Table 3.5 that fails rejects the lane with its code, else it is admitted. The timeout of a running strip
rejects it, but not in a slew pause. -/
def Obligations.TestStrip : Prop :=
  (∀ (d : Fin 8) (p : Fin 128) (s : State), s.portExists d.val p.val = true → exec (.testStripStart d p) s =
    .next ((s.laneList d.val p.val).foldl (fun t n =>
      if t.testable d.val n false then stripOrWait t d.val n else showStuck t d.val n) s)) ∧
  (∀ (d : Fin 8) (n : Fin 144) (power : List (BitVec 16)) (tone : List ToneKHz) (s : State), 128 ≤ n.val → s.laneState d.val n.val = lsLaserCheck →
    let weak := ((List.range 32).map fun c =>
      if s.colourGood (laneEngine d.val n.val) c ((power.zip tone).getD c (0x8000#16, 0)) then 0 else 2 ^ c).sum
    exec (.tsLaserCheckDone d n power tone) s =
      .next (((ringsParked s d.val n.val).setLaneState d.val n.val lsLocking).updLan d.val ((n.val - 128) / 8) fun l =>
        { l with weak := weak })) ∧
  (∀ (d : Fin 8) (n : Fin 144) (power : BitVec 16) (tone : ToneKHz) (s : State), n.val < 128 →
    let oe := laneEngine d.val n.val
    let s1 := showLine s oe (laneIndex n.val) power tone
    (s.laneState d.val n.val ≠ lsLaserCheck → exec (.tsLaserCheckDone d n [power] [tone]) s = .next s) ∧
    (s.laneState d.val n.val = lsLaserCheck → s1.lineOk oe (laneIndex n.val) = true → exec (.tsLaserCheckDone d n [power] [tone]) s =
      .next ((s1.setLaneState d.val n.val lsLocking).updLane d.val n.val fun l => { l with step := 2 })) ∧
    (s.laneState d.val n.val = lsLaserCheck → s1.lineOk oe (laneIndex n.val) = false →
      exec (.tsLaserCheckDone d n [power] [tone]) s = .next (rejectLane s1 d.val n.val 0x10 true none))) ∧
  (∀ (d : Fin 8) (n : Fin 144) (tone : ToneKHz) (s : State), n.val < 128 →
    let right := toneNear tone (lineTone (laneIndex n.val)) = true
    let seeking := s.laneState d.val n.val = lsLocking ∨ (s.lane d.val n.val).reseek = true
    let s1 := (ringLocked s d.val n.val .tx (laneIndex n.val)).updLane d.val n.val fun x => { x with seekTx := true }
    (¬ (right ∧ seeking) → exec (.ringLock d n .tx tone) s = .next s) ∧
    (right → seeking → s1.ringLock d.val n.val .rx = false → exec (.ringLock d n .tx tone) s = .next s1) ∧
    (right → seeking → s1.ringLock d.val n.val .tx = true → s1.ringLock d.val n.val .rx = true →
      (s.lane d.val n.val).reseek = true ∨ (s.lane d.val n.val).seekRx = true →
      exec (.ringLock d n .tx tone) s = .next (ringsReady s1 d.val n.val))) ∧
  (∀ (d : Fin 8) (n : Fin 144) (ring : Ring) (s : State),
    (128 ≤ n.val → exec (.ringSeekFail d n ring) s = .next (ringParked s d.val n.val ring)) ∧
    (n.val < 128 → (s.lane d.val n.val).reseek = false → s.laneState d.val n.val = lsLocking → (s.lane d.val n.val).step = 2 →
      exec (.ringSeekFail d n ring) s = .next (rejectLane (ringParked s d.val n.val ring) d.val n.val 0x11 true none)) ∧
    (n.val < 128 → (s.lane d.val n.val).reseek = true →
      let fails := ((s.cycle :: (s.lane d.val n.val).reseekFails).filter fun c => decide (s.cycle < c + 1600000000)).take 3
      let s1 := s.updLane d.val n.val fun x => { x with reseekFails := fails }
      exec (.ringSeekFail d n ring) s = .next (if 3 ≤ fails.length then laneFault s1 d.val n.val else s1))) ∧
  (∀ (d : Fin 8) (n : Fin 128) (w : TsWord) (p : Nat) (s : State), s.portOfLane d.val n.val = some p →
    (w.lane.val ≠ laneIndex n.val → exec (.testStripWordReceive d n w) s = .next (s.yfpCount d.val p 13)) ∧
    (w.lane.val = laneIndex n.val → w.phase = 2 → exec (.testStripWordReceive d n w) s =
      .next (handshake (s.updLane d.val n.val fun l => { l with gotReady := true }) d.val n.val)) ∧
    (w.lane.val = laneIndex n.val → w.phase = 5 → exec (.testStripWordReceive d n w) s =
      .next (s.updLane d.val n.val fun l => { l with farMargin := w.margin.toNat })) ∧
    (w.lane.val = laneIndex n.val → w.phase = 1 → s.answers d.val n.val = true →
      (s.lane d.val n.val).farAttempt ≠ w.arg.toNat / 65536 + 1 → (s.lane d.val n.val).step < 4 →
      exec (.testStripWordReceive d n w) s = .next (queueCtl (s.updLane d.val n.val fun x =>
        { x with farAttempt := w.arg.toNat / 65536 + 1, farPrbs := false, prbsOn := false }) d.val n.val
        (ctlStrip 2 (laneIndex n.val) 0 0 0))) ∧
    (w.lane.val = laneIndex n.val → w.phase = 4 → exec (.testStripWordReceive d n w) s =
      .next (s.updLane d.val n.val patternOff)) ∧
    (w.lane.val = laneIndex n.val → w.phase = 7 → exec (.testStripWordReceive d n w) s =
      .next (dropTxLane (setFarAdmit ((farDone s d.val n.val).updLane d.val n.val fun l => { l with farRejected := l.step != 0 })
        d.val n.val false) d.val p n.val))) ∧
  (∀ (d : Fin 8) (n : Fin 128) (s : State), s.inMeasure d.val n.val = true →
    ((s.lane d.val n.val).step = 4 → (s.lane d.val n.val).phasePts = [] →
      exec (.prbsSyncTimeout d n) s = .next (rejectLane s d.val n.val 0x13 true none)) ∧
    ((s.lane d.val n.val).step ≠ 4 → exec (.prbsSyncTimeout d n) s = .next s)) ∧
  (∀ (d : Fin 8) (n : Fin 128) (m : SweepMeas) (s : State),
    (s.slewPaused (laneEngine d.val n.val) = true → exec (.tsSweepPointDone d n m) s = .next s) ∧
    (s.inMeasure d.val n.val = true → s.laneState d.val n.val = lsMeasure → s.slewPaused (laneEngine d.val n.val) = false →
      exec (.tsSweepPointDone d n m) s = .next (s.updLane d.val n.val fun l => match m with
        | .phase ph e => if l.phasePts.length < 32 then { l with step := 5, phasePts := l.phasePts ++ [(ph, e)] } else l
        | .threshold pt =>
          if l.phasePts.length = 32 ∧ l.thrPts.length < 64 then { l with step := 6, thrPts := l.thrPts ++ [pt] } else l
        | .contour ph lo hi =>
          if l.thrPts.length = 64 ∧ l.edges.length < 8 then { l with step := 7, edges := l.edges ++ [(ph, lo, hi)] } else l))) ∧
  (∀ (d : Fin 8) (n : Fin 128) (s : State), s.inMeasure d.val n.val = true → s.laneState d.val n.val = lsMeasure →
    (s.lane d.val n.val).edges.length = 8 →
    let r := measure s d.val n.val
    (∀ code, admission r.2 d.val n.val r.1 = some code → exec (.tsMeasureDone d n) s =
      .next (rejectLane (r.2.updLane d.val n.val fun l => { l with step := 9 }) d.val n.val code true (some r.1))) ∧
    (admission r.2 d.val n.val r.1 = none → exec (.tsMeasureDone d n) s = .next (admitLane r.2 d.val n.val r.1))) ∧
  (∀ (d n : Nat) (m : Measured) (s : State),
    let oe := laneEngine d n
    let bad10 := s.lineOk oe (laneIndex n) = false ∨ s.bit (laneStatus d n) F.LANE_STATUS_TX_TONE_OK = false
    let bad11 := s.ringLock d n .tx = false ∨ s.ringLock d n .rx = false
    let bad12 := s.rxToneCheck d n = true ∧ s.bit (laneStatus d n) F.LANE_STATUS_RX_TONE_OK = false
    let bad14 := m.height = 0 ∨ ∃ x q, m.fit = some (x, q) ∧ x < toSigned 16 (s.fld (R.OPT_TS_CTRL oe) F.OPT_TS_CTRL_MARGIN_MIN)
    (bad10 → admission s d n m = some 0x10) ∧ (¬ bad10 → bad11 → admission s d n m = some 0x11) ∧
    (¬ bad10 → ¬ bad11 → bad12 → admission s d n m = some 0x12) ∧
    (¬ bad10 → ¬ bad11 → ¬ bad12 → bad14 → admission s d n m = some 0x14) ∧
    (¬ bad10 → ¬ bad11 → ¬ bad12 → ¬ bad14 → m.fit = none → admission s d n m = some 0x18) ∧
    (¬ bad10 → ¬ bad11 → ¬ bad12 → ¬ bad14 → m.fit ≠ none → admission s d n m = none)) ∧
  (∀ (d : Fin 8) (n : Fin 128) (s : State),
    ((s.lane d.val n.val).step = 0 ∨ s.slewPaused (laneEngine d.val n.val) = true → exec (.testStripTimeout d n) s = .next s) ∧
    ((s.lane d.val n.val).step ≠ 0 → s.slewPaused (laneEngine d.val n.val) = false →
      exec (.testStripTimeout d n) s = .next (rejectLane s d.val n.val 0x16 true none)))

/-- Lanes in service. A heater update keeps a locked ring's heat, and at no heat with the ring still drifting sets HEATER_FLOOR, takes an
admitted lane down and is recorded (R76, R95). A tone window that shows the lane's own line confirms it (R77), one that shows another
line in service parks the ring and starts a re-seek (R91). An admitted lane goes down when it loses lock, its codewords or its light
(R87). When light returns within the window and the temperature is close, a fast relock is tried, and admits the lane again with its
stored settings (R88, R89), in its transmit stripe too where the far end admits it; when the window closes the lane is tested, or is dark
without light. A rejected lane is tested again unless it was rejected three times alike (R90) or its re-seeks failed (R93). A lanyard lane
that loses light or its base lock in a strip makes no record (R129). -/
def Obligations.LanesInService : Prop :=
  (∀ (d : Fin 8) (n : Fin 144) (heat : BitVec 16) (drift : Bool) (s : State),
    let s1 := s.updLane d.val n.val fun l => { l with txHeat := heat.toNat }
    let oe := laneEngine d.val n.val
    let s2 := setEvent s1 61 (R.OPT_THERM_STATUS oe) F.OPT_THERM_STATUS_HEATER_FLOOR
    (s.ringLock d.val n.val .tx = false → exec (.heaterUpdate d n .tx heat drift) s = .next s) ∧
    (s.ringLock d.val n.val .tx = true → heat ≠ 0 ∨ drift = false → exec (.heaterUpdate d n .tx heat drift) s = .next s1) ∧
    (s.ringLock d.val n.val .tx = true → heat = 0 → drift = true → exec (.heaterUpdate d n .tx heat drift) s =
      .next (fileRec (if s.laneState d.val n.val = lsAdmitted then laneDown s2 d.val n.val else s2) (LogRec.of 9 0x0E 9 0 oe)))) ∧
  (∀ (d : Fin 8) (n : Fin 128) (tone : ToneKHz) (s : State), s.laneState d.val n.val = lsAdmitted →
    s.ringLock d.val n.val .tx = true →
    (lineOfTone tone = some (laneIndex n.val) →
      exec (.toneWindow d n .tx tone) s = .next (s.setF (laneStatus d.val n.val) F.LANE_STATUS_TX_TONE_OK 1)) ∧
    (∀ k, lineOfTone tone = some k → k ≠ laneIndex n.val →
      exec (.toneWindow d n .tx tone) s = .next (wrongLine s d.val n.val .tx)) ∧
    (lineOfTone tone = none →
      exec (.toneWindow d n .tx tone) s = .next (laneDown (s.setF (laneStatus d.val n.val) F.LANE_STATUS_TX_TONE_OK 0) d.val n.val))) ∧
  (∀ (d : Fin 8) (n : Fin 144) (ring : Ring) (s : State),
    (n.val < 128 → s.laneState d.val n.val = lsAdmitted →
      exec (.laneLockLoss d (.sampler n)) s = .next (laneDown s d.val n.val)) ∧
    (128 ≤ n.val → exec (.laneLockLoss d (.sampler n)) s = .next s ∧
      exec (.laneLockLoss d (.ring n ring)) s = .next (forgetHeard (ringParked s d.val n.val ring) d.val n.val)) ∧
    (n.val < 128 → (ringParked s d.val n.val ring).laneState d.val n.val = lsAdmitted →
      exec (.laneLockLoss d (.ring n ring)) s = .next (laneDown (ringParked s d.val n.val ring) d.val n.val))) ∧
  (∀ (d : Fin 8) (n : Fin 128) (s : State), s.laneState d.val n.val = lsAdmitted →
    (codewordsBad (s.lane d.val n.val) = true → exec (.laneNoCodeword d n) s = .next (laneDown s d.val n.val)) ∧
    (codewordsBad (s.lane d.val n.val) = false → exec (.laneNoCodeword d n) s = .next s)) ∧
  (∀ (d : Fin 8) (n : Fin 144) (s : State),
    let s1 := ringParked (s.updLane d.val n.val fun l => { l with light := false }) d.val n.val .rx
    (128 ≤ n.val → exec (.lightLoss d n) s = .next (forgetHeard s1 d.val n.val)) ∧
    (n.val < 128 → s1.laneState d.val n.val = lsAdmitted → exec (.lightLoss d n) s = .next (laneDown s1 d.val n.val))) ∧
  (∀ (d : Fin 8) (n : Fin 144) (s : State),
    let s1 := s.updLane d.val n.val fun l => { l with light := true }
    (128 ≤ n.val → exec (.lightReturn d n) s = .next s1) ∧
    (n.val < 128 → s.laneState d.val n.val = lsRelocking → (s.lane d.val n.val).window = true → tempClose s d.val n.val = true →
      exec (.lightReturn d n) s = .next (s1.updLane d.val n.val fun l => { l with tries := l.tries + 1 })) ∧
    (n.val < 128 → s.laneState d.val n.val = lsRelocking → (s.lane d.val n.val).window = true → tempClose s d.val n.val = false →
      s.testable d.val n.val false = true → exec (.lightReturn d n) s = .next (stripOrWait s1 d.val n.val)) ∧
    (n.val < 128 → s.laneState d.val n.val = lsDark → exec (.lightReturn d n) s =
      .next (if s1.testable d.val n.val false then stripOrWait s1 d.val n.val else showStuck s1 d.val n.val))) ∧
  (∀ (d : Fin 8) (n : Fin 128) (tx rx : BitVec 16) (s : State), s.laneState d.val n.val = lsRelocking →
    (s.lane d.val n.val).window = true → (s.lane d.val n.val).light = true → tempClose s d.val n.val = true →
    s.slewPaused (laneEngine d.val n.val) = false →
    let oe := laneEngine d.val n.val
    let ln := laneLocal n.val
    let j := laneIndex n.val
    let s0 := s.updLane d.val n.val fun x =>
      { x with txHeat := tx.toNat, rxHeat := rx.toNat, window := false, noCw := 0, recent := [], step := 0 }
    let s1 := queueCtl (ringLocked (ringLocked s0 d.val n.val .tx j) d.val n.val .rx j) d.val n.val (ctlStrip 6 j 0 1 0)
    let old := fun w => (s.rd (R.LANE_TS_REPORT oe ln w)).toNat
    let s2 := writeReport s1 d.val n.val (reportWord0 d.val n.val 0 1 (max 1 (s.lane d.val n.val).tries)) (old 2, old 4, old 5)
    let s3 := s2.wr (R.LANE_TS_REPORT oe ln 7)
      (BitVec.ofNat 32 (s.fld (R.OPT_THERM_STATUS oe) F.OPT_THERM_STATUS_TEMP * 65536 + old 7 % 65536))
    let s4 := ((s3.setLaneState d.val n.val lsAdmitted).setF (laneStatus d.val n.val) F.LANE_STATUS_LAST_RESULT 1).laneCount d.val n.val 1
    exec (.fastRelockDone d n tx rx) s =
      .next (rejoinTx (admitRxLane (setLaneEvent s4 d.val n.val F.LANE_EVENT_FAST_RELOCK) d.val n.val) d.val n.val)) ∧
  (∀ (d : Fin 8) (n : Fin 128) (s : State),
    let s1 := s.updLane d.val n.val fun x => { x with window := false }
    ((s.lane d.val n.val).window = false → exec (.relockWindowExpire d n) s = .next s) ∧
    ((s.lane d.val n.val).window = true → s.laneState d.val n.val = lsRelocking → (s.lane d.val n.val).light = false →
      exec (.relockWindowExpire d n) s = .next (s1.setLaneState d.val n.val lsDark)) ∧
    ((s.lane d.val n.val).window = true → s.laneState d.val n.val = lsRelocking → (s.lane d.val n.val).light = true →
      exec (.relockWindowExpire d n) s = .next (if s.testable d.val n.val false then stripOrWait s1 d.val n.val else s1))) ∧
  (∀ (d : Fin 8) (n : Fin 128) (s : State),
    let may := s.laneState d.val n.val = lsRejected ∧ s.testable d.val n.val false = true ∧
      s.fld (R.OPT_LANE_POLICY (laneEngine d.val n.val)) F.OPT_LANE_POLICY_RETEST_S ≠ 0
    (may → exec (.laneRetest d n) s = .next (startStrip s d.val n.val)) ∧ (¬ may → exec (.laneRetest d n) s = .next s) ∧
    (3 ≤ (s.lane d.val n.val).rejRun ∨ 3 ≤ (s.lane d.val n.val).reseekFails.length → exec (.laneRetest d n) s = .next s))

/-- Lanes held out, widths, heat and light. EXCLUDE holds a lane out with its rings parked and lets it go again, and a retired lane stays
out (R98). A write of PORT_LANE_CTRL is ignored at a lanyard port or where it overlaps another port, is refused with RESERVE_REFUSED where
the reservations would not fit, and else is taken (R86, R96, R180). A temperature sample shows temperature and slope, sets HOT at 85
degrees, and starts a slew pause above SLEW_LIMIT; once drained the ports' lanes go down, and the pause ends below SLEW_RESUME (R94, R95).
A laser feed change shows the feeds and the line, and with both feeds lost sets ENGINE_FAULT (R34, R97). -/
def Obligations.LaneControlAndHeat : Prop :=
  (∀ (d : Fin 8) (n : Fin 144) (v : Bool) (s : State),
    let r := R.LANE_CTRL (laneEngine d.val n.val) (laneLocal n.val)
    (s.isRetired (laneKind n.val) d.val n.val = true → exec (.laneExcludeWrite d n false) s = .next s) ∧
    (s.bit r F.LANE_CTRL_EXCLUDE = false → exec (.laneExcludeWrite d n true) s =
      .next (holdLane (s.setF r F.LANE_CTRL_EXCLUDE 1) d.val n.val)) ∧
    (s.bit r F.LANE_CTRL_EXCLUDE = true → s.isRetired (laneKind n.val) d.val n.val = false → exec (.laneExcludeWrite d n false) s =
      .next (freeLane (s.setF r F.LANE_CTRL_EXCLUDE 0) d.val n.val)) ∧
    (s.bit r F.LANE_CTRL_EXCLUDE = v → v = true ∨ s.isRetired (laneKind n.val) d.val n.val = false →
      exec (.laneExcludeWrite d n v) s = .next (s.setF r F.LANE_CTRL_EXCLUDE (if v then 1 else 0)))) ∧
  (∀ (d : Fin 8) (p : Fin 130) (v : Word) (s : State),
    let w := F.PORT_LANE_CTRL_WIDTH.get v
    let t := s.setF (R.PORT_LANE_CTRL d.val p.val) F.PORT_LANE_CTRL_WIDTH w
    (128 ≤ p.val ∨ widthBad s d.val p.val w = true → exec (.portLaneCtrlWrite d p v) s = .next s) ∧
    (p.val < 128 → widthBad s d.val p.val w = false → reserveOverflow d.val p.val s t = true →
      exec (.portLaneCtrlWrite d p v) s = .next (setEvent s 62 (R.BUF_EVENT d.val) F.BUF_EVENT_RESERVE_REFUSED)) ∧
    (p.val < 128 → widthBad s d.val p.val w = false → reserveOverflow d.val p.val s t = false →
      exec (.portLaneCtrlWrite d p v) s =
        .next (flowPort (takeLaneCtrl d.val p.val w (F.PORT_LANE_CTRL_MIN_WIDTH.get v) s) d.val p.val))) ∧
  (∀ (oe : Fin 16) (temp : BitVec 16) (slope : BitVec 12) (s : State),
    let r := R.OPT_THERM_STATUS oe.val
    let limit : Int := (s.fld (R.OPT_THERM_CTRL oe.val) F.OPT_THERM_CTRL_SLEW_LIMIT * 10 : Nat)
    let s1 := (s.setF r F.OPT_THERM_STATUS_TEMP temp.toNat).setF r F.OPT_THERM_STATUS_SLOPE slope.toNat
    let s2 := bandLanes oe.val s1 { s1 with pwr := { s1.pwr with
      bands := sput s1.pwr.bands (16 + oe.val) (nextBand (sget s1.pwr.bands (16 + oe.val) 0) temp.toInt) 0 } }
    (temp.toInt < 8500 → slope.toInt ≤ limit ∨ s.slewPaused oe.val = true → exec (.photonicTempSample oe temp slope) s = .next s2) ∧
    (temp.toInt < 8500 → limit < slope.toInt → s.slewPaused oe.val = false → exec (.photonicTempSample oe temp slope) s =
      .next ((s.oePorts oe.val).foldl slewPort (s2.setF r F.OPT_THERM_STATUS_SLEW_PAUSE 1))) ∧
    (8500 ≤ temp.toInt → slope.toInt ≤ limit → exec (.photonicTempSample oe temp slope) s =
      .next (if toSigned 16 (s.fld r F.OPT_THERM_STATUS_TEMP) < 8500 then
        fileRec (setEvent s2 61 r F.OPT_THERM_STATUS_HOT) (LogRec.of 9 0x0E 9 0 oe.val)
      else setEvent s2 61 r F.OPT_THERM_STATUS_HOT))) ∧
  (∀ (oe : Fin 16) (s : State),
    (s.slewPaused oe.val = false → exec (.slewDrainDone oe) s = .next s ∧ exec (.slewPauseEnd oe) s = .next s) ∧
    (s.slewPaused oe.val = true → exec (.slewDrainDone oe) s =
      .next ((s.oePorts oe.val).foldl (fun t x =>
        (t.laneList x.1 x.2).foldl (fun u n => if u.laneState x.1 n = lsAdmitted then
          laneDown (setLaneEvent u x.1 n F.LANE_EVENT_SLEW_PAUSE) x.1 n else u) t) s)) ∧
    (s.slewPaused oe.val = true → toSigned 12 (s.fld (R.OPT_THERM_STATUS oe.val) F.OPT_THERM_STATUS_SLOPE) <
        ((s.fld (R.OPT_THERM_CTRL oe.val) F.OPT_THERM_CTRL_SLEW_RESUME * 10 : Nat) : Int) →
      exec (.slewPauseEnd oe) s =
        .next ((s.oePorts oe.val).foldl slewEndPort (s.setF (R.OPT_THERM_STATUS oe.val) F.OPT_THERM_STATUS_SLEW_PAUSE 0)))) ∧
  (∀ (oe : Fin 16) (df lf : Bool) (j : Fin 8) (power : BitVec 16) (tone : ToneKHz) (s : State),
    let r := R.OPT_LASER_STATUS oe.val
    let s2 := ((showLine s oe.val j.val power tone).setF r F.OPT_LASER_STATUS_DATA_FEED_OK (if df then 1 else 0)).setF r
      F.OPT_LASER_STATUS_LANYARD_FEED_OK (if lf then 1 else 0)
    let s3 := s2.setF R.OPTICAL_STATUS F.OPTICAL_STATUS_ENGINE_FAULT
      (setMaskBit (s2.fld R.OPTICAL_STATUS F.OPTICAL_STATUS_ENGINE_FAULT) oe.val (!df && !lf))
    (s.lineOk oe.val j.val = false ∨ s3.lineOk oe.val j.val = true → exec (.laserFeedChange oe df lf j power tone) s = .next s3) ∧
    (s.lineOk oe.val j.val = true → s3.lineOk oe.val j.val = false → exec (.laserFeedChange oe df lf j power tone) s =
      .next (((List.range 8).map fun g => oe.val % 2 * 64 + g * 8 + j.val).foldl
        (fun t n => if t.inMeasure (oe.val / 2) n then cutAttempt t (oe.val / 2) n 0x10 else t) s3)))

/-- A stated fabric time T counts as reached when (now - T) mod 2^32 < 2^31 (R102). It is not reached exactly where it lies 1 to 2^31 ns ahead
of now, so a time further ahead reads as past. -/
def Obligations.TimeReached : Prop :=
  ∀ (s : State) (t : BitVec 32),
    s.reached t.toNat = decide ((BitVec.ofNat 32 s.now - t).toNat < 2 ^ 31) ∧
    (s.reached t.toNat = false ↔ 1 ≤ s.ahead t.toNat ∧ s.ahead t.toNat ≤ 2 ^ 31)

/-- Exchanges of TIME words. At the interval SYNC leaves on the master port with its departure time, and the sequence moves on modulo 64;
a root and a device without a master port send none. A SYNC received is answered by FOLLOW and REPLY. FOLLOW leaves its time with its
exchange. REPLY ends the exchange: mean delay and offset follow from the four stamps, the delay is shown, and the servo acts on the
offset; a REPLY without its FOLLOW, or from another port, ends none. The words wait in the control queue of the port's lead lane, and
SYNC and REPLY take their stamp as they leave. An exchange that times out is discarded, and with it the run of the lock criterion (the
model's choice, log entry 106); the eighth in a row loses the master, which is no source until it answers again (R103 to R106). -/
def Obligations.TimeExchanges : Prop :=
  (∀ (s : State), s.time.master = none ∨ (∃ p, s.time.master = some (255, p)) ∨ s.isRoot = true → exec .syncInterval s = .next s) ∧
  (∀ (d p : Nat) (s : State), s.time.master = some (d, p) → d ≠ 255 → s.isRoot = false → exec .syncInterval s =
    .next ((queueLead s d p (ctlTime 0 s.time.seq s.now s.frac)).updTime fun t =>
      { t with seq := (s.time.seq + 1) % 64, exch := t.exch ++ [⟨s.time.seq, s.stamp, none⟩] })) ∧
  (∀ (d : Fin 8) (p : Fin 128) (seq : Fin 64) (t1 : Stamp) (n : Nat) (s : State),
    (s.leadTx d.val p.val = none → exec (.syncReceive d p seq t1) s = .next s) ∧
    (s.leadTx d.val p.val = some n → exec (.syncReceive d p seq t1) s = .next
      (s.updLane d.val n fun l => { l with txq :=
        l.txq ++ [ctlTime 1 seq.val s.now s.frac] ++ [ctlTime 2 seq.val s.now s.frac] }))) ∧
  (∀ (s : State) (seq : Fin 64), stampTime s (ctlTime 1 seq.val s.now s.frac).body = ((ctlTime 1 seq.val s.now s.frac).body, s)) ∧
  (∀ (d : Fin 8) (p : Fin 128) (seq : Fin 64) (t2 : Stamp) (s : State),
    (s.time.master ≠ some (d.val, p.val) → exec (.followReceive d p seq t2) s = .next s) ∧
    (s.time.master = some (d.val, p.val) → exec (.followReceive d p seq t2) s = .next (s.updTime fun t =>
      { t with exch := t.exch.map fun e => if e.seq = seq.val then { e with t2 := some t2 } else e }))) ∧
  (∀ (d : Fin 8) (p : Fin 128) (seq : Fin 64) (t3 : Stamp) (s : State),
    (s.time.exch.find? (fun e => e.seq == seq.val) = none → exec (.replyReceive d p seq t3) s = .next s) ∧
    (∀ e, s.time.exch.find? (fun e => e.seq == seq.val) = some e → e.t2 = none ∨ s.time.master ≠ some (d.val, p.val) →
      exec (.replyReceive d p seq t3) s = .next s) ∧
    (∀ e t2, s.time.exch.find? (fun e => e.seq == seq.val) = some e → e.t2 = some t2 → s.time.master = some (d.val, p.val) →
      let x := exchangeOf (stampNat e.t1) (stampNat t2) (stampNat t3) (stampNat s.stamp)
        (toSigned 16 (s.fld (R.TIME_PORT_CTRL d.val p.val) F.TIME_PORT_CTRL_ASYM_PS))
      let s1 := s.updTime fun t =>
        { t with exch := t.exch.filter (·.seq != seq.val), discards := 0, lost := false,
                 silent := t.silent.filter (· != (d.val, p.val)) }
      let r := roundFree s1 (x.1 * 256)
      exec (.replyReceive d p seq t3) s =
        .next (servo (r.2.wr (R.TIME_PORT_DELAY d.val p.val) (BitVec.ofInt 32 r.1)) x.2 s.intervalNs))) ∧
  (∀ (s : State),
    (s.time.exch = [] → exec .timeExchangeTimeout s = .next s) ∧
    (∀ e rest, s.time.exch = e :: rest →
      let s1 := s.updTime fun t => { t with exch := rest, discards := t.discards + 1, good := 0 }
      exec .timeExchangeTimeout s = .next (if 8 ≤ s.time.discards + 1 then
        loseMaster (s1.updTime fun t => { t with silent := (t.master.toList ++ t.silent).dedup }) else s1)))

/-- The servo on an offset (R104). Beyond STEP_NS in LOCKED the first three in a row are discarded and counted; the fourth, and any outside
LOCKED, steps the counter by it, sets STEP_EVENT and takes the state to ACQUIRING. Within STEP_NS the frequency is steered, and stays
within 200 ppm. -/
def Obligations.ServoOnOffset : Prop :=
  (∀ (s : State) (theta T : ℚ), (s.fld R.TIME_SERVO F.TIME_SERVO_STEP_NS : ℚ) < |theta| → s.timeState = tsLocked →
    s.time.count ≠ 3 → servo s theta T = s.updTime fun t => { t with count := t.count + 1, good := 0 }) ∧
  (∀ (s : State) (theta T : ℚ), (s.fld R.TIME_SERVO F.TIME_SERVO_STEP_NS : ℚ) < |theta| →
    s.timeState ≠ tsLocked ∨ s.time.count = 3 → servo s theta T = stepTime (showTheta s theta) theta) ∧
  (∀ (s : State) (theta T : ℚ), |theta| ≤ (s.fld R.TIME_SERVO F.TIME_SERVO_STEP_NS : ℚ) →
    servo s theta T = steer (showTheta s theta) theta T ∧
    -219902325 ≤ (servo s theta T).time.f ∧ (servo s theta T).time.f ≤ 219902325) ∧
  (∀ (s : State) (theta : ℚ), (stepTime s theta).time.count = 0)

/-- Masters (R106, R107). A lost master is kept for HOLDOVER_SWITCH_MS with the device in HOLDOVER (in COARSE that state stays: the model's
choice, log entry 106), and then the next source is selected. A source of higher priority that has stayed up becomes the master; a port
that lost the master by its discards is not up. A write of a priority writes the register and makes the device reselect:
where the best source is the one it follows nothing else changes.
The wrap of fabric time and the reference inputs (R100, R105, R108). From its last value the nanosecond counter passes to 0, the wrap
count moves on by one, and WRAP_EVENT is set; it wraps from no other value. A root always reads LOCKED. TIME_PPS_LOAD waits for the edge. With PPS_IN_EN off an edge has no effect; with a load pending it sets
bits 31 to 0 of fabric time, the fraction is 0 and the wrap count stays; without an expectation it fixes the next one a second later;
an expected edge outside 1 ms is ignored. 1 ms after an edge that did not come the reference is lost, a lost master where it was followed.
1PPS_OUT rises within 2 ns of its time, where it is enabled and the pads are not held. -/
def Obligations.MastersAndReferenceEdges : Prop :=
  (∀ (s : State),
    (s.time.master = none ∨ s.time.lost = true → exec .masterLoss s = .next s) ∧
    (∀ m, s.time.master = some m → s.time.lost = false →
      let s1 := freezeFreq (s.updTime fun t => { t with lost := true, exch := [], good := 0 })
      exec .masterLoss s = .next (if s.timeState = tsCoarse then s1 else setTimeState s1 tsHoldover)) ∧
    (s.time.lost = false → exec .holdoverSwitchExpire s = .next s) ∧
    (s.time.lost = true → exec .holdoverSwitchExpire s = .next (changeMaster s (bestSource s s.time.master)))) ∧
  (∀ (src : TimeSrc) (s : State),
    let higher := ∀ x, s.time.master = some x → s.srcPrio x < s.srcPrio (srcOf src)
    (s.srcUp (srcOf src) = true → higher → bestSource s none = some (srcOf src) →
      exec (.sourceQualify src) s = .next (changeMaster s (some (srcOf src)))) ∧
    (s.srcUp (srcOf src) = false → exec (.sourceQualify src) s = .next s)) ∧
  (∀ (d : Fin 8) (p : Fin 128) (v : Word) (s : State),
    let s1 := s.wr (R.TIME_PORT_CTRL d.val p.val) (v &&& 0xFFFF00FF#32)
    (bestSource s1 none = s.time.master → s.time.lost = false → exec (.timePrioWrite (.port d p) v) s = .next s1) ∧
    (bestSource s1 none ≠ s.time.master ∨ s.time.lost = true →
      exec (.timePrioWrite (.port d p) v) s = .next (changeMaster s1 (bestSource s1 none)))) ∧
  (∀ (v : Word) (s : State), exec (.timePrioWrite .ref v) s = .next (reselect (writeRefCtrl v s))) ∧
  (∀ (m : Nat × Nat) (s : State), m ∈ s.time.silent → m.1 ≠ 255 → s.srcUp m = false) ∧
  (∀ (s : State), s.now ≠ 2 ^ 32 - 1 → exec .timeWrap s = .next s) ∧
  (∀ (s : State), s.now = 2 ^ 32 - 1 → s.wraps + 1 < 2 ^ 32 → ∃ t, exec .timeWrap s = .next t ∧ t.now = 0 ∧ t.frac = 0 ∧
    t.wraps = s.wraps + 1 ∧ t.bit R.TIME_STATUS F.TIME_STATUS_WRAP_EVENT = true) ∧
  (∀ (s : State) (st : Nat), s.isRoot = true → st < 8 → (setTimeState s st).timeState = tsLocked) ∧
  (∀ (v : Word) (s : State), exec (.ppsLoadWrite v) s = .next ((s.wr R.TIME_PPS_LOAD v).updTime fun t => { t with ppsLoad := true })) ∧
  (∀ (s : State), s.bit R.TIME_REF_CTRL F.TIME_REF_CTRL_PPS_IN_EN = false → exec .ppsEdge s = .next s) ∧
  (∀ (s : State), s.bit R.TIME_REF_CTRL F.TIME_REF_CTRL_PPS_IN_EN = true → s.time.ppsLoad = true → s.time.fab < 2 ^ 120 →
    ∃ t, exec .ppsEdge s = .next t ∧ t.now = (s.rd R.TIME_PPS_LOAD).toNat ∧ t.frac = 0 ∧ t.wraps = s.wraps ∧ t.time.ppsLoad = false) ∧
  (∀ (s : State), s.bit R.TIME_REF_CTRL F.TIME_REF_CTRL_PPS_IN_EN = true → s.time.ppsLoad = false →
    (s.time.ppsExpect = none → exec .ppsEdge s = .next (s.updTime fun t =>
      { t with ppsExpect := some ((stampNat s.stamp + 65536000000000) % 2 ^ 48) })) ∧
    (∀ e, s.time.ppsExpect = some e → 65536000000 < |stampDiff (stampNat s.stamp) e| → exec .ppsEdge s = .next s)) ∧
  (∀ (s : State),
    (s.time.ppsExpect = none → exec .ppsLoss s = .next s) ∧
    (∀ e, s.time.ppsExpect = some e → stampDiff (stampNat s.stamp) e < 65536000000 → exec .ppsLoss s = .next s) ∧
    (∀ e, s.time.ppsExpect = some e → 65536000000 ≤ stampDiff (stampNat s.stamp) e →
      let s1 := s.updTime fun t => { t with ppsExpect := none, refUp := false }
      exec .ppsLoss s = .next (if s.time.master = some (255, 0) then loseMaster s1 else s1))) ∧
  (∀ (s : State),
    let s1 := s.updTime fun t => { t with ppsOutAt := ((s.now : Int) - s.ppsOutLate + 1000000000).toNat % 2 ^ 32 }
    (s.bit R.TIME_REF_CTRL F.TIME_REF_CTRL_PPS_OUT_EN = true → -2 ≤ s.ppsOutLate → s.ppsOutLate ≤ 2 →
      (s.bit R.PAD_RELEASE F.PAD_RELEASE_HELD = false → exec .ppsOutEdge s = .next (s1.emit (.pin "1PPS_OUT" true))) ∧
      (s.bit R.PAD_RELEASE F.PAD_RELEASE_HELD = true → exec .ppsOutEdge s = .next s1)) ∧
    (s.bit R.TIME_REF_CTRL F.TIME_REF_CTRL_PPS_OUT_EN = false ∨ s.ppsOutLate < -2 ∨ 2 < s.ppsOutLate →
      exec .ppsOutEdge s = .next s))

/-- Lanyard slots. The check of a slot leaves the lanes whose verification, peer and path allow their colour, and the boundary takes the
slot: it shows the rota index, and while the rota runs every lane whose entry transmits sends its burst where its check was made for
this slot, the time state and the lane allow it, and counts a dark slot otherwise (R118, R121, R134). Without a slot that is due neither
has an effect. HOLDOVER_MS stops transmission only once HOLDOVER has lasted so long (R121). A frame that waited MAX_WAIT_US at the head
of its queue is dropped and counted (R131). -/
def Obligations.LanyardSlots : Prop :=
  (∀ (d : Fin 8) (lp : Fin 2) (s : State),
    (s.dueSlot d.val lp.val 50 = none → exec (.lanyardSlotCheck d lp) s = .next s) ∧
    (∀ n, s.dueSlot d.val lp.val 50 = some n → exec (.lanyardSlotCheck d lp) s = .next (s.updLan d.val lp.val fun x =>
      { x with slot := n, checked := (((List.range 8).filter fun l => entryTx (s.rotaEntry d.val lp.val l n) &&
        s.slotCheck d.val lp.val l (entryTxColour (s.rotaEntry d.val lp.val l n))).map (2 ^ ·)).sum }))) ∧
  (∀ (d : Fin 8) (lp : Fin 2) (s : State),
    (s.dueSlot d.val lp.val 0 = none → exec (.lanyardSlotBoundary d lp) s = .next s) ∧
    (∀ n, s.dueSlot d.val lp.val 0 = some n →
      let s1 := (s.updLan d.val lp.val fun x => { x with slot := n + 1, checked := 0 }).setF (R.LANYARD_STATUS d.val (128 + lp.val))
        F.LANYARD_STATUS_ROTA_INDEX (n % s.rotaLen d.val lp.val)
      let ok := if n = (s.lan d.val lp.val).slot then (s.lan d.val lp.val).checked else 0
      (s.rotaRuns d.val lp.val = false → exec (.lanyardSlotBoundary d lp) s = .next s1) ∧
      (s.rotaRuns d.val lp.val = true → exec (.lanyardSlotBoundary d lp) s =
        .next ((List.range 8).foldl (slotLane d.val lp.val n ok) s1)))) ∧
  (∀ (d lp n ok lane : Nat) (s : State),
    let e := s.rotaEntry d lp lane n
    (entryTx e = false → slotLane d lp n ok s lane = s) ∧
    (entryTx e = true → s.lanMayTransmit d lp = true → ok.testBit lane = true → s.lanLaneOk d lp lane = true →
      slotLane d lp n ok s lane = sendBurst d lp n lane (entryTxColour e) s) ∧
    (entryTx e = true → s.lanMayTransmit d lp = false ∨ ok.testBit lane = false ∨ s.lanLaneOk d lp lane = false →
      slotLane d lp n ok s lane = s.lanCount d lp 1)) ∧
  (∀ (d : Fin 8) (lp : Fin 2) (s : State),
    let lasts := s.fld (R.LANYARD_PORT_CTRL d.val (128 + lp.val)) F.LANYARD_PORT_CTRL_HOLDOVER_MS * 1600000
    (s.timeState = tsHoldover → lasts ≤ s.cycle - s.time.holdAt →
      exec (.lanyardHoldoverExpire d lp) s = .next (s.updLan d.val lp.val fun l => { l with held := true })) ∧
    (s.timeState ≠ tsHoldover ∨ s.cycle - s.time.holdAt < lasts → exec (.lanyardHoldoverExpire d lp) s = .next s)) ∧
  (∀ (d : Fin 8) (lp : Fin 2) (q : Fin 64) (s : State),
    (sget (s.lan d.val lp.val).queues q.val [] = [] → exec (.lanyardWaitExpire d lp q) s = .next s) ∧
    (∀ id c rest, sget (s.lan d.val lp.val).queues q.val [] = (id, c) :: rest →
      let limit := s.fld (R.LANYARD_PORT_CTRL d.val (128 + lp.val)) F.LANYARD_PORT_CTRL_MAX_WAIT_US * 1600
      (s.cycle - c < limit → exec (.lanyardWaitExpire d lp q) s = .next s) ∧
      (limit ≤ s.cycle - c → exec (.lanyardWaitExpire d lp q) s = .next (discardFrame
        ((s.updLan d.val lp.val fun l => { l with queues := supd l.queues q.val [] List.tail }).lanCount d.val lp.val 3) id))))

/-- A burst in the receive slot in which its first bit arrives, whose lane listens to a peer's colour (R120, R132, R133). Without a burst, or
with a bad LANYARD_ID, index 5 counts and the lane and colour have failed once more. A burst of another source, colour or slot counts at
each that is wrong and fails too; one whose first bit lies outside the timing margin (G - 60) / 2 counts index 10. A good burst counts
index 4, ends the run of failures, leaves the peer's off mask, and its frames are received. Outside a receive slot of a heard peer, and
at a lane that cannot receive, the device takes nothing. -/
def Obligations.LanyardBursts : Prop :=
  (∀ (d : Fin 8) (lp : Fin 2) (lane : Fin 8) (b : BurstRx) (s : State),
    s.rxSlot d.val lp.val (burstTime s b) = none ∨ s.rotaRuns d.val lp.val = false ∨ s.lanRxOk d.val lp.val lane.val = false →
    exec (.lanyardBurstReceive d lp lane b) s = .next s) ∧
  (∀ (d : Fin 8) (lp : Fin 2) (lane : Fin 8) (b : BurstRx) (rx : RxSlot) (s : State),
    s.rxSlot d.val lp.val (burstTime s b) = some rx →
    let e := rx.entries.getD lane.val 0
    (entryRx e = false ∨ s.peerHeard d.val lp.val lane.val (entryRxColour e) = none →
      exec (.lanyardBurstReceive d lp lane b) s = .next s) ∧
    (∀ peer, s.rotaRuns d.val lp.val = true → s.lanRxOk d.val lp.val lane.val = true → entryRx e = true →
      s.peerHeard d.val lp.val lane.val (entryRxColour e) = some peer →
      let x := entryRxColour e
      (b = .silent ∨ b = .badId → exec (.lanyardBurstReceive d lp lane b) s =
        .next (burstFailed d.val lp.val lane.val x (s.lanCount d.val lp.val 5))) ∧
      (∀ (src : Word) (colour : Fin 32) (slot : Fin 1024) (first : BitVec 32) (mask : Option Byte) (frames : List (Frame × Bool)),
        b = .burst src colour slot first mask frames →
        let addr := s.rd (R.LANYARD_PEER_ADDR d.val (128 + lp.val) peer)
        let s1 := if src = addr then s else s.lanCount d.val lp.val 6
        let s2 := if colour.val = x then s1 else s1.lanCount d.val lp.val 7
        let s3 := if slot.val = rx.index then s2 else s2.lanCount d.val lp.val 8
        let s4 := if rx.inTime first.toNat then s3 else s3.lanCount d.val lp.val 10
        (src ≠ addr ∨ colour.val ≠ x ∨ slot.val ≠ rx.index →
          exec (.lanyardBurstReceive d lp lane b) s = .next (burstFailed d.val lp.val lane.val x s4)) ∧
        (src = addr → colour.val = x → slot.val = rx.index →
          let s5 := (s4.updLan d.val lp.val fun l => { l with failed := sput l.failed (lane.val * 32 + x) 0 0 }).lanCount d.val lp.val 4
          exec (.lanyardBurstReceive d lp lane b) s = .next (frames.foldl (burstFrame d.val lp.val peer)
            (mask.elim s5 fun m => s5.updLan d.val lp.val fun l => { l with xoff := sput l.xoff peer m.toNat 0 })))))) ∧
  (∀ (rx : RxSlot) (first : Nat), rx.inTime first = true ↔ 2 * |sincens first rx.due| ≤ (rx.guard : Int) - 60)

/-- Verification of lanyard tones (R134, R135). The tone of the colour sets its bit, unless the colour is being re-sought; any other clears
the bit, sets WRONG_LINE, counts, is recorded, and the colour is re-sought. A re-seek that succeeds sets the bit; one that fails counts,
and the third within a second removes the lane. A removed lane is not verified outside the strip. -/
def Obligations.LanyardVerification : Prop :=
  (∀ (d : Fin 8) (lp : Fin 2) (lane : Fin 8) (ring : Ring) (colour : Fin 32) (tone : ToneKHz) (s : State),
    let key := (lane.val * 2 + ringNo ring) * 32 + colour.val
    let n := 128 + lp.val * 8 + lane.val
    ((s.lan d.val lp.val).removed.testBit lane.val = true → (s.lan d.val lp.val).strip = false →
      exec (.lanyardToneDecision d lp lane ring colour tone) s = .next s) ∧
    ((s.lan d.val lp.val).removed.testBit lane.val = false → colourTone tone colour.val = true →
      sget (s.lan d.val lp.val).reseek key 0 = 0 → exec (.lanyardToneDecision d lp lane ring colour tone) s =
        .next (setVerify s d.val lp.val lane.val (ringNo ring) colour.val true)) ∧
    ((s.lan d.val lp.val).removed.testBit lane.val = false → colourTone tone colour.val = false →
      let s1 := setLaneEvent (setVerify s d.val lp.val lane.val (ringNo ring) colour.val false) d.val n F.LANE_EVENT_WRONG_LINE
      let s2 := fileLaneLink ((s1.lanCount d.val lp.val 13).laneCount d.val n 4) d.val n 5 0
      exec (.lanyardToneDecision d lp lane ring colour tone) s =
        .next (s2.updLan d.val lp.val fun l => { l with reseek := sput l.reseek key 1 0 }))) ∧
  (∀ (d : Fin 8) (lp : Fin 2) (lane : Fin 8) (ring : Ring) (colour : Fin 32) (ok : Bool) (s : State),
    let key := (lane.val * 2 + ringNo ring) * 32 + colour.val
    let n := 128 + lp.val * 8 + lane.val
    (sget (s.lan d.val lp.val).reseek key 0 = 0 → exec (.lanyardReseekDone d lp lane ring colour ok) s = .next s) ∧
    (sget (s.lan d.val lp.val).reseek key 0 ≠ 0 → (s.lan d.val lp.val).removed.testBit lane.val = false →
      exec (.lanyardReseekDone d lp lane ring colour true) s =
        .next ((setVerify s d.val lp.val lane.val (ringNo ring) colour.val true).updLan d.val lp.val fun l =>
          { l with reseek := sput l.reseek key 0 0 })) ∧
    (sget (s.lan d.val lp.val).reseek key 0 ≠ 0 → (s.lan d.val lp.val).removed.testBit lane.val = false →
      let fails := ((s.cycle :: (s.lane d.val n).reseekFails).filter fun c => decide (s.cycle < c + 1600000000)).take 3
      let s1 := (s.lanCount d.val lp.val 14).updLane d.val n fun l => { l with reseekFails := fails }
      exec (.lanyardReseekDone d lp lane ring colour false) s =
        .next (if 3 ≤ fails.length then removeLane d.val lp.val lane.val s1 else s1)))

/-- The rota and colour-map discovery (R122, R125 to R129). A write of a rota entry goes to the staged rota. ARM arms the strip; at its start
time an armed strip starts, the port carries no frames and its lanes are measured from LASER_CHECK. In a slot of a sweep, while it is
open, a lane that came through the steps before it sends its burst and, with its receive ring locked, records what it heard; sweep 2
records no source that sweep 1 did not hear there. After the sweeps the peers are filled in, D and the headroom are set, ARM is 0,
and DISCOVERY_DONE is set. -/
def Obligations.LanyardDiscovery : Prop :=
  (∀ (d : Fin 8) (lp : Fin 2) (lane : Fin 8) (n : Fin 1024) (v : Word) (s : State),
    exec (.lanyardRotaWrite d lp lane n v) s = .next (stageRota d.val lp.val lane.val n.val v s)) ∧
  (∀ (d : Fin 8) (lp : Fin 2) (s : State),
    exec (.lanyardTsArm d lp) s = .next (s.setBit (R.LANYARD_TS_CTRL d.val (128 + lp.val)) F.LANYARD_TS_CTRL_ARM)) ∧
  (∀ (d : Fin 8) (lp : Fin 2) (s : State),
    let armed := s.bit (R.LANYARD_TS_CTRL d.val (128 + lp.val)) F.LANYARD_TS_CTRL_ARM
    let due := s.reached (s.stripAt d.val lp.val)
    (armed = false ∨ due = false ∨ (s.lan d.val lp.val).strip = true → exec (.lanyardTsStart d lp) s = .next s) ∧
    (armed = true → due = true → (s.lan d.val lp.val).strip = false → exec (.lanyardTsStart d lp) s =
      .next (setLanLanes (showLanState (s.updLan d.val lp.val fun l => { l with strip := true, heard := [], reports := [], weak := 0 }) d.val
        lp.val) d.val lp.val fun _ => lsLaserCheck))) ∧
  (∀ (d : Fin 8) (lp : Fin 2) (second : Bool) (t : Fin 32) (lane : Fin 8) (o : DiscoveryObs) (s : State),
    let n := 128 + lp.val * 8 + lane.val
    let colour := (t.val + 4 * lane.val) % 32
    let s1 := sendDiscovery d.val lp.val lane.val t.val colour second (s.setLaneState d.val n lsMeasure)
    let s2 := recordHeard d.val lp.val lane.val t.val colour second o s1
    let due := s.discoveryOpen d.val lp.val second t.val
    let ready := s.laneState d.val n = lsLocking ∨ s.laneState d.val n = lsMeasure
    ((s.lan d.val lp.val).strip = false ∨ ¬ ready ∨ due = false →
      exec (.lanyardDiscoverySlot d lp second t lane o) s = .next s) ∧
    ((s.lan d.val lp.val).strip = true → ready → due = true →
      (s.bit (laneStatus d.val n) F.LANE_STATUS_RX_LOCK = false → exec (.lanyardDiscoverySlot d lp second t lane o) s = .next s1) ∧
      (s.bit (laneStatus d.val n) F.LANE_STATUS_RX_LOCK = true → exec (.lanyardDiscoverySlot d lp second t lane o) s =
        .next (if second then takeReports d.val lp.val t.val colour o s2 else s2)))) ∧
  (∀ (d lp lane t colour : Nat) (o : DiscoveryObs) (s : State),
    s.heardOn d lp lane colour = none → recordHeard d lp lane t colour true o s = s) ∧
  (∀ (d : Fin 8) (lp : Fin 2) (s : State), (s.lan d.val lp.val).strip = true →
    s.reached (s.stripAt d.val lp.val + 6296000) = true →
    let p := 128 + lp.val
    let s1 := (List.range 32).foldl (fillPeer d.val lp.val) s
    let path := anyPath s1 d.val lp.val
    let s2 := newHeadroom (setRxDelay s1 d.val lp.val) d.val lp.val
    let s3 := (s2.updLan d.val lp.val fun l =>
      { l with strip := false, found := if path then 1 else 2, removed := 0, checked := 0, failed := [], reseek := [] }).setF
      (R.LANYARD_TS_CTRL d.val p) F.LANYARD_TS_CTRL_ARM 0
    let s4 := lanReports (restLanes s3 d.val lp.val) d.val lp.val (if path then 0 else 0x18)
    exec (.lanyardTsComplete d lp) s =
      .next (showLanState (setEvent s4 61 (R.LANYARD_STATUS d.val p) F.LANYARD_STATUS_DISCOVERY_DONE) d.val lp.val))

/-- FRAME_LOOKUP. With nothing in its backlog a pipe takes an originated frame that waits; else it looks its next frame up, and pauses the
classes of the ports it serves as its backlog asks (R67, R142). A pipe that is out looks nothing up, and one with nothing of its own
serves the backlog of the pipe of its pair that is out (Table 13.11). Every lookup counts index 0; the ingress partition check drops
at index 7, a fence at index 8, a miss at index 4, and a hit is acted on under the generation sampled at entry (R141, R143, R162). -/
def Obligations.FrameLookup : Prop :=
  (∀ (d : Fin 8) (ll : Fin 16) (s : State),
    let pair := ll.val ^^^ 1
    (s.pipeOut d.val ll.val = true → exec (.frameLookup d ll) s = .next s) ∧
    (s.pipeOut d.val ll.val = false → nextOfBacklog s d.val ll.val = none → s.pipeOut d.val pair = false →
      exec (.frameLookup d ll) s = .next (flowPipe (pullOriginated s d.val ll.val) d.val ll.val)) ∧
    (∀ id, s.pipeOut d.val ll.val = false → nextOfBacklog s d.val ll.val = some id →
      let t := lookupFrame (s.setBacklog d.val ll.val ((s.backlog d.val ll.val).filter (· != id))) d.val ll.val id
      exec (.frameLookup d ll) s = .next (flowPipe (pullOriginated t d.val ll.val) d.val ll.val)) ∧
    (∀ id, s.pipeOut d.val ll.val = false → nextOfBacklog s d.val ll.val = none → s.pipeOut d.val pair = true →
      nextOfBacklog s d.val pair = some id →
      let t := lookupFrame (s.setBacklog d.val pair ((s.backlog d.val pair).filter (· != id))) d.val ll.val id
      exec (.frameLookup d ll) s = .next (flowPipe (pullOriginated t d.val pair) d.val pair))) ∧
  (∀ (d ll id : Nat) (s : State),
    let f := s.frm id
    let s1 := s.lookupCount d ll 0
    let found := resolve (learnCheck s1 d ll f) d ll s.genBit (hDest f.frame.hdr)
    (ingressBad s f = true → lookupFrame s d ll id = lookupDrop s1 d ll 7 id) ∧
    (ingressBad s f = false → frameFenced s f = true → lookupFrame s d ll id = lookupDrop s1 d ll 8 id) ∧
    (ingressBad s f = false → frameFenced s f = false → found.1 = none →
      lookupFrame s d ll id = lookupDrop found.2 d ll 4 id) ∧
    (∀ r src, ingressBad s f = false → frameFenced s f = false → found.1 = some (r, src) → src ≠ .flood →
      lookupFrame s d ll id = afterHit found.2 d ll s.genBit id r src))

/-- The states of the table transaction (R165 to R169). BEGIN opens from IDLE with an empty journal, waits during a catch-up, and is refused in
any other state. COMMIT_NOW flips 1 us ahead and COMMIT_AT at TXN_TIME, where it lies at least 1 us and less than 2^30 ns ahead, else
the transaction aborts with BAD_ARGUMENT; both are refused but in OPEN and from the owner. ABORT ends an open or pending transaction of
its owner, and is late in the catch-up. At T the generation moves on and the catch-up begins; it ends COMPLETED in IDLE, or opens a
BEGIN that waited. An abort ends with its status in IDLE. -/
def Obligations.TableTransactions : Prop :=
  (∀ (o : Byte) (s : State),
    let s1 := s.setF (R.TXN_CTRL 0) F.TXN_CTRL_OWNER o.toNat
    (s.txn = txIdle → s.tabs.transit = false → exec (.txnBegin o) s =
      .next ((showJournal (s1.updTabs fun t => { t with journal := [], owner := o.toNat })).setTxn txOpen)) ∧
    (s.txn = txCatchup ∨ (s.txn = txIdle ∧ s.tabs.transit = true) → exec (.txnBegin o) s = .next (s1.setTxn txBeginWait)) ∧
    (s.txn ≠ txIdle → s.txn ≠ txCatchup → exec (.txnBegin o) s = .next (txnRefuse s))) ∧
  (∀ (o : Byte) (s : State), ¬ (s.txn = txOpen ∧ s.tabs.owner = o.toNat) →
    exec (.commitNow o) s = .next (txnRefuse s) ∧ exec (.commitAt o) s = .next (txnRefuse s)) ∧
  (∀ (o : Byte) (s : State), s.txn = txOpen → s.tabs.owner = o.toNat →
    let t := (s.rd (R.TXN_TIME 0)).toNat
    (s.tabs.journal.any isLanyardLoc = true → exec (.commitNow o) s = .next (startAbort s stBadArgument)) ∧
    (s.tabs.journal.any isLanyardLoc = false → exec (.commitNow o) s =
      .next ((s.updTabs fun x => { x with flipAt := (s.now + 1000) % 2 ^ 32 }).setTxn txPending)) ∧
    (s.ahead t < 1000 ∨ 2 ^ 30 ≤ s.ahead t → exec (.commitAt o) s = .next (startAbort s stBadArgument)) ∧
    (1000 ≤ s.ahead t → s.ahead t < 2 ^ 30 → exec (.commitAt o) s =
      .next ((s.updTabs fun x => { x with flipAt := t % 2 ^ 32 }).setTxn txPending))) ∧
  (∀ (o : Byte) (s : State),
    (s.txn = txOpen ∨ s.txn = txPending → s.tabs.owner = o.toNat → exec (.txnAbort o) s =
      .next ((s.updTabs fun t => { t with abortStatus := stCancelled, copying := true }).setTxn txAborting)) ∧
    (s.txn = txCatchup → s.tabs.owner = o.toNat → exec (.txnAbort o) s = .next (txnEvent s F.TXN_EVENT_ABORT_LATE)) ∧
    (s.txn ≠ txBeginWait → s.tabs.owner ≠ o.toNat → exec (.txnAbort o) s = .next (txnRefuse s))) ∧
  (∀ (s : State),
    (s.txn ≠ txPending ∨ s.reached s.tabs.flipAt = false → exec .txnFlip s = .next s) ∧
    (s.txn = txPending → s.reached s.tabs.flipAt = true →
      let ports := ((List.range 16).map fun i => (i / 2, i % 2)).filter fun x => journalsRota s x.1 x.2
      let s0 := ports.foldl saveRota s
      let s1 := (s0.wr (R.TXN_GEN 0) (s.rd (R.TXN_GEN 0) + 1)).wr (R.TXN_FLIP_TIME 0) (BitVec.ofNat 32 s.tabs.flipAt)
      let s2 := (s1.setF (R.TXN_STATUS 0) F.TXN_STATUS_FLIP_TIME_STATE s.timeState).setTxn txCatchup
      let s3 := s2.updTabs fun x => { x with
        copying := true, seedLocked := true, stale := (x.stale ++ (List.range 8).filter fun d => !s.dieUp d).dedup }
      exec .txnFlip s = .next (followDark (darkPorts s) (txnEvent (ports.foldl (flipRota s.tabs.flipAt) s3) F.TXN_EVENT_FLIP)))) ∧
  (∀ (s : State),
    (s.tabs.copying = false → exec .txnCatchupDone s = .next s) ∧
    (s.tabs.copying = true → s.txn = txCatchup → exec .txnCatchupDone s =
      .next ((endTxn (copyJournal s) stCompleted).setTxn txIdle)) ∧
    (s.tabs.copying = true → s.txn = txBeginWait → s.tabs.transit = false →
      let s1 := endTxn (copyJournal s) stCompleted
      exec .txnCatchupDone s = .next (openTxn s1 (s1.fld (R.TXN_CTRL 0) F.TXN_CTRL_OWNER))) ∧
    (s.txn ≠ txAborting → exec .txnAbortDone s = .next s) ∧
    (s.txn = txAborting → exec .txnAbortDone s = .next ((endTxn (copyJournal s) s.tabs.abortStatus).setTxn txIdle)))

/-- Table operations (R150, R164, R165, R170, R171). WRITE, INSERT and DELETE are refused but in OPEN and from the owner. A WRITE within its
table journals the location, leaves the entry of TBL_DATA in the staged slot and nothing in the active one, and ends COMPLETED; outside
it ends BAD_ARGUMENT; so do an INSERT or DELETE of another table, an INSERT of a reserved key, and a DELETE of a key not held. A read
puts the entry of its slot into TBL_DATA. A staged register is written, journaled, in OPEN alone; a write all of whose fields lie out of
range is ignored without any other effect. -/
def Obligations.TableOperations : Prop :=
  (∀ (o : Byte) (t : Fin 16) (s : State), ¬ (s.txn = txOpen ∧ s.tabs.owner = o.toNat ∧ s.tabs.transit = false) →
    exec (.tblWrite o t) s = .next (txnRefuse s) ∧ exec (.tblInsert o t) s = .next (txnRefuse s) ∧
    exec (.tblDelete o t) s = .next (txnRefuse s)) ∧
  (∀ (o : Byte) (t : Fin 16) (s : State), s.txn = txOpen → s.tabs.owner = o.toNat → s.tabs.transit = false →
    let bad := s.setF (R.TBL_STATUS 0) F.TBL_STATUS_STATUS stBadArgument
    let l := tblLoc t.val s.tblIndex
    (t.val < 2 ∨ tblSize t.val ≤ s.tblIndex → exec (.tblWrite o t) s = .next bad) ∧
    (2 ≤ t.val → s.tblIndex < tblSize t.val → (∀ u, journalAll s [l] = some u → exec (.tblWrite o t) s =
      .next (tblDone (unmark (u.putEntry s.staged l (s.tblEntry t.val)) s.staged l) stCompleted)) ∧
      (journalAll s [l] = none → exec (.tblWrite o t) s = .next (tblJournalFull s))) ∧
    (t.val ≠ 0 ∨ s.tblData 0 = 0 ∨ s.tblData 0 = 0xFFFFFFFF → exec (.tblInsert o t) s = .next bad) ∧
    (t.val = 0 → s.tblData 0 ≠ 0 → s.tblData 0 ≠ 0xFFFFFFFF →
      let x := insertKey s (s.tabs.slot s.staged) (s.tblEntry 0)
      let s1 := showInsert (s.updTabs fun y => { y with rng := x.rng }) x
      (x.ok = false → exec (.tblInsert o t) s = .next (tblDone s1 stTableFull)) ∧
      (∀ u, x.ok = true → journalAll s1 x.changed = some u → exec (.tblInsert o t) s = .next (tblDone
        ((x.changed.foldl (fun v l => unmark v s.staged l) (u.updTabs fun y => y.setSlot s.staged x.slot)).setF (R.TBL_INDEX 0)
          F.TBL_INDEX_INDEX ((keyLoc s x.slot (s.tblData 0)).getD 0)) stCompleted))) ∧
    (t.val ≠ 0 ∨ keyLoc s (s.tabs.slot s.staged) (s.tblData 0) = none → exec (.tblDelete o t) s = .next bad) ∧
    (∀ k u, t.val = 0 → keyLoc s (s.tabs.slot s.staged) (s.tblData 0) = some k → journalAll s [tblLoc 1 k] = some u →
      exec (.tblDelete o t) s = .next (tblDone (unmark (u.putEntry s.staged (tblLoc 1 k) []) s.staged (tblLoc 1 k)) stCompleted))) ∧
  (∀ (l : Nat) (e : List Nat) (s : State), e.any (· != 0) = true →
    (s.putEntry s.staged l e).entry s.staged l = e ∧ ∀ a, (s.putEntry s.staged l e).entry s.genBit a = s.entry s.genBit a) ∧
  (∀ (o : Byte) (t : Fin 16) (s : State), t.val ≠ 0 → s.tblIndex < tblSize t.val →
    exec (.readActive o t) s = .next (tblDone (putTblData s t.val (s.entry s.genBit (tblLoc t.val s.tblIndex))) stCompleted) ∧
    exec (.readStaged o t) s = .next (tblDone (putTblData s t.val (s.entry s.staged (tblLoc t.val s.tblIndex))) stCompleted)) ∧
  (∀ (o : Byte) (t : Fin 16) (s : State), t.val ≠ 0 → tblSize t.val ≤ s.tblIndex →
    exec (.readActive o t) s = .next (tblDone s stBadArgument) ∧ exec (.readStaged o t) s = .next (tblDone s stBadArgument)) ∧
  (∀ (a v : Word) (s : State) (row : RegRow) (idx : List Nat), findReg (canonAddr a.toNat) = some (row, idx) →
    row.reg = .NATIVE_BLOCK ∨ row.reg = .PARTITION_FLOOD ∨ row.reg = .LEARN_RANGE_ADDR ∨ row.reg = .LANYARD_ROTA_STAGE →
    let r := row.ref (canonAddr a.toNat) idx
    (stagedIgnored row v = true → exec (.stagedRegWrite a v) s = .next s) ∧
    (stagedIgnored row v = false → s.txn ≠ txOpen ∨ s.tabs.transit = true → exec (.stagedRegWrite a v) s = .next (txnRefuse s)) ∧
    (stagedIgnored row v = false → s.txn = txOpen → s.tabs.transit = false → exec (.stagedRegWrite a v) s =
      .next (stageRegs s (regLoc r.addr) [(r, stagedWord row idx (s.rdSlot s.staged r) v)])))

/-- Learning, scrubbing, fences (R157, R160, R162, R169). A learn request is carried out only while no transaction is in progress, and never
replaces an entry that is not roaming. The scrubber reads one entry, repairs a bad one where a good copy stands, and counts a pass at
the last entry. A die that was out of service copies its tables from a running one. A fence is written, and ports that become dark or
cease to be so follow it. -/
def Obligations.LearnScrubFence : Prop :=
  (∀ (s : State), s.tabs.learn = [] ∨ s.txn ≠ txIdle → exec .learnInsert s = .next s) ∧
  (∀ (q : LearnReq) (rest : List LearnReq) (s : State), s.tabs.learn = q :: rest → s.txn = txIdle →
    let s1 := s.updTabs fun t => { t with learn := rest }
    (ovrFind s s.genBit q.src = none → exec .learnInsert s = .next (learnWrite q s1)) ∧
    (∀ l, ovrFind s s.genBit q.src = some l → (s.tword s.genBit (tblLoc 1 l) 2).testBit 31 = true →
      exec .learnInsert s = .next (learnWrite q s1)) ∧
    (∀ l, ovrFind s s.genBit q.src = some l → (s.tword s.genBit (tblLoc 1 l) 2).testBit 31 = false →
      exec .learnInsert s = .next s1)) ∧
  (∀ (d : Fin 8) (g : Fin 2) (t : Fin 10) (i : Fin 524352) (bad : Bool) (s : State),
    let l := tblLoc t.val i.val
    let s1 := scrubEntry d.val g.val l (if bad then addMark s d.val g.val l else s)
    (tblSize t.val ≤ i.val → exec (.tableScrubRead d g t i bad) s = .next s) ∧
    (i.val < tblSize t.val → ¬ (g.val = 1 ∧ t.val = 9 ∧ i.val = 4095) → exec (.tableScrubRead d g t i bad) s = .next s1) ∧
    (g.val = 1 → t.val = 9 → i.val = 4095 → exec (.tableScrubRead d g t i bad) s =
      .next (s1.setF (R.SCRUB_STATUS d.val) F.SCRUB_STATUS_PASSES (s1.fld (R.SCRUB_STATUS d.val) F.SCRUB_STATUS_PASSES + 1))) ∧
    (s.marked d.val g.val l = false → scrubEntry d.val g.val l s = s)) ∧
  (∀ (d : Fin 8) (s : State),
    let may := s.tabs.stale.contains d.val = true ∧ ∃ e < 8, e ≠ d.val ∧ s.dieUp e = true ∧ s.tabs.stale.contains e = false
    (may → exec (.dieTableCopy d) s = .next (showScrub (s.updTabs fun t =>
      { t with stale := t.stale.filter (· != d.val), marks := t.marks.filter (·.die != d.val) }) d.val)) ∧
    (¬ may → exec (.dieTableCopy d) s = .next s)) ∧
  (∀ (q : Fin 64) (v : Word) (s : State),
    let r := R.PARTITION_FENCE 0 q.val
    exec (.partitionFenceWrite q v) s = .next (followDark (darkPorts s) ((s.setF r F.PARTITION_FENCE_FENCE
      (F.PARTITION_FENCE_FENCE.get v)).setF r F.PARTITION_FENCE_DARK (F.PARTITION_FENCE_DARK.get v))))

/-- The crossbar (R17, R21, R173 to R175). A slot time first tries again the frames that could not start. It matches the requests of the
crossings that are ready and not locked out in three iterations; no input and no output is matched twice, every match is a request, and
none touches an input or output that a locked crossing uses in this slot time. The locked crossings that move and the matched ones move
one cell each, from cells of the die or from the receive buffer of the link they come by, and the off masks are sent where they changed: a
channel is off below 512 free flits of its 1,024, and stays off up to 768. A broadcast of depths changes the depths the other dies hold,
and no others. That the two channels of a logical link output are locked each on its own is the model's choice (log entry 14). -/
def Obligations.CrossbarSlot : Prop :=
  (∀ (d : Fin 8) (s : State),
    let s0 := retryCrossings s d.val
    let m := matchSlot s0 d.val
    let won := m.1.filterMap fun m => (s0.die d.val).xfers.find? fun t =>
      t.inp == m.1 && t.out == m.2 && t.ready s0 d.val && !t.locked && !barred (s0.die d.val).xfers t
    let s1 := s0.updDie d.val fun z => { z with grant := m.2.grant, accept := m.2.accept }
    exec (.schedulerSlot d) s =
      .next ((List.range 8).foldl (creditUpdate d.val) ((movingLocked s0 d.val ++ won).foldl (moveCell d.val) s1))) ∧
  (∀ (d : Nat) (s : State),
    ((matchSlot s d).1.map Prod.fst).Nodup ∧ ((matchSlot s d).1.map Prod.snd).Nodup ∧
    (∀ m ∈ (matchSlot s d).1, (∃ t ∈ (s.die d).xfers, t.inp = m.1 ∧ t.out = m.2 ∧ t.ready s d = true ∧ t.locked = false ∧
      barred (s.die d).xfers t = false) ∧ ∀ l ∈ movingLocked s d, l.inp ≠ m.1 ∧ l.out ≠ m.2)) ∧
  (∀ (d : Nat) (s : State),
    ((movingLocked s d).map (·.inp)).Nodup ∧ ((movingLocked s d).map (·.out)).Nodup ∧
    ∀ t ∈ movingLocked s d, t ∈ (s.die d).xfers ∧ t.locked = true ∧ t.ready s d = true) ∧
  (∀ (l : Link) (v : Nat), v < 8 →
    let free := 1024 - (l.held.filter (·.vc == v)).length
    (offWanted l).testBit v = (decide (free < 512) || (l.offSent.testBit v && decide (free ≤ 768)))) ∧
  (∀ (d : Fin 8) (s : State), ∃ t, exec (.depthBroadcast d) s = .next t ∧ t.regs = s.regs ∧ t.die d.val = s.die d.val ∧
    ∀ e : Fin 8, e ≠ d → t.die e.val = { s.die e.val with depths := learnDepths d.val (depthsOf s d.val) (s.die e.val).depths })

/-- Admission at the egress (R184 to R187, R190 to R192). Free cells go first to the frames that wait. The oldest arrival is offered: a copy
of a multicast frame whose port is not up is skipped; a frame for a port that is quarantined or absent is dropped in index 12, an ordered
one for a port whose PORT_HOLD has ended in index 10. Another behind an earlier frame of its port and class waits; else the first region
with room takes it: the port's minimum, the shared pool under its share, the engine reserve for a frame the device made. A frame that no
region takes waits where it is lossless or device-made; a lossy one pushes out up to four tail frames where the pool is too full, and is
dropped in index 3 where they do not free its cells, in index 4 where its share alone is spent. A slot that a cut-through frame cannot
fill counts in index 2 (R182). -/
def Obligations.EgressAdmission : Prop :=
  (∀ (d : Fin 8) (s : State), exec (.egressWaitAdmit d) s = .next (admitWaiters d.val (s.die d.val).waitQ [] s)) ∧
  (∀ (d : Fin 8) (s : State), (s.die d.val).waitQ = [] →
    ((s.die d.val).admitQ = [] → exec (.frameEgressAdmit d) s = .next s) ∧
    (∀ id rest, (s.die d.val).admitQ = id :: rest →
      exec (.frameEgressAdmit d) s = .next (admitFrame (s.updDie d.val fun x => { x with admitQ := rest }) id))) ∧
  (∀ (f : FrameRec) (s : State), f.service = 0 → f.outPort < 128 → f.mcast = false →
    let st := s.portState f.outDie f.outPort
    (st = 0 ∨ st = 1 → orderedRefusal s f = some 12) ∧
    (st = 2 → f.sprayed = false → orderedRefusal s f = some 10) ∧
    (st = 3 ∨ st = 4 → orderedRefusal s f = none)) ∧
  (∀ (id : Nat) (s : State), (s.frm id).mcast = true → s.portUp (s.frm id).outDie (s.frm id).outPort = false →
    admitFrame s id = discardFrame s id) ∧
  (∀ (id : Nat) (s : State), s.skips (s.frm id) = false →
    let f := s.frm id
    let c := cellsOf (hLen f.frame.hdr)
    let held := blockedByWaiter s id (s.die f.outDie).waitQ = true
    let s1 := noteShared s f c
    let k := s1.pushClass f.outDie f.tc
    (∀ i, orderedRefusal s f = some i → admitFrame s id = discardFrame (dropCore s f.outDie f.outPort i f) id) ∧
    (orderedRefusal s f = none → held → admitFrame s id = waitFrame s id) ∧
    (orderedRefusal s f = none → ¬ held →
      (∀ g, admitRegion s1 f c = some g → admitFrame s id = admitTo s1 id g c) ∧
      (admitRegion s1 f c = none → mustWait f = true → admitFrame s id = waitFrame s1 id) ∧
      (∀ t, admitRegion s1 f c = none → mustWait f = false → s1.sharedFree f.outDie < c → pushOut f.outDie k c 4 s1 = some t →
        admitFrame s id = admitTo t id .shared c) ∧
      (admitRegion s1 f c = none → mustWait f = false → s1.sharedFree f.outDie < c → pushOut f.outDie k c 4 s1 = none →
        admitFrame s id = discardFrame (dropCore s1 f.outDie f.outPort 3 f) id) ∧
      (admitRegion s1 f c = none → mustWait f = false → c ≤ s1.sharedFree f.outDie →
        admitFrame s id = discardFrame (dropCore s1 f.outDie f.outPort 4 f) id))) ∧
  (∀ (d k c : Nat) (s : State) (n : Nat) (t : State), pushOut d k c n s = some t → c ≤ t.sharedFree d) ∧
  (∀ (f : FrameRec) (s : State) (p c : Nat), f.outPort = p → f.service = 0 →
    (s.port f.outDie p).minUsed + c ≤ s.fld (R.PORT_BUF_CTRL f.outDie p) F.PORT_BUF_CTRL_MIN_CELLS →
    admitRegion s f c = some .portMin) ∧
  (∀ (d : Fin 8) (p : Fin 128) (s : State),
    (∀ id, (s.port d.val p.val).tx = some id → (s.frm id).cut = true →
      exec (.cutThroughUnderrun d p) s = .next (s.coreCount d.val p.val 2)) ∧
    ((∀ id, (s.port d.val p.val).tx = some id → (s.frm id).cut = false) → exec (.cutThroughUnderrun d p) s = .next s))

/-- The states of a port (R190 to R193, R180, R194). A port in state UP goes down to HOLD: its frame in transmission is truncated, its sprayed
frames placed anew, its ordered frames held, the timed frames already due kept apart; in any other state nothing happens. A port in DOWN
or HOLD that is ready comes UP, the timed frames that met a limit dropped, and its held frames go back to their queues. PORT_HOLD's end in HOLD leaves DOWN and drops what was held, lossless frames of a slew pause apart.
Quarantine takes any port that is neither absent nor quarantined. Admission checks in the order of the table, and records the status;
only a port that passes is admitted. A write that would overflow the reservation is refused with RESERVE_REFUSED. STAGE_CELLS and the
reserves take only values of their range and only while every port of the die is quarantined. -/
def Obligations.PortStates : Prop :=
  (∀ (d : Fin 8) (p : Fin 130) (s : State),
    let st := s.portState d.val p.val
    let s1 := truncateTx (clearRxPause ((s.setPortState d.val p.val 3).updPort d.val p.val fun x =>
      { x with overdue := (x.timed.filter fun e => s.reached e.2).map (·.1) }) d.val p.val) d.val p.val
    (st ≠ 4 → exec (.portDown d p) s = .next s) ∧
    (st = 4 → 128 ≤ p.val → exec (.portDown d p) s = .next s1) ∧
    (st = 4 → p.val < 128 → exec (.portDown d p) s =
      .next (holdOrdered (skipMcast (resprayPort s1 d.val p.val) d.val p.val) d.val p.val)) ∧
    (s.portReady d.val p.val = true → st = 2 ∨ st = 3 → exec (.portBack d p) s = .next (releaseHeld
      (((settleTimed s d.val p.val).setPortState d.val p.val 4).updPort d.val p.val fun x => { x with pastHold := false }) d.val p.val)) ∧
    (s.portReady d.val p.val = false ∨ (st ≠ 2 ∧ st ≠ 3) → exec (.portBack d p) s = .next s) ∧
    (st ≠ 3 → exec (.portHoldExpire d p) s = .next s) ∧
    (st = 3 → (s.port d.val p.val).slew = false → exec (.portHoldExpire d p) s =
      .next ((s.port d.val p.val).held.foldl (fun t id => discardFrame (dropCore t d.val p.val 9 (t.frm id)) id)
        ((s.setPortState d.val p.val 2).updPort d.val p.val fun y => { y with held := [], pastHold := true }))) ∧
    (st = 0 ∨ st = 1 → exec (.portQuarantine d p) s = .next s) ∧
    (st ≠ 0 → st ≠ 1 → exec (.portQuarantine d p) s = .next (enterQuarantine s d.val p.val))) ∧
  (∀ (d : Fin 8) (p : Fin 130) (s : State),
    let others := s.reserveSum d.val fun q => decide (q ≠ p.val) && s.bit (R.PORT_ADMIT d.val q) F.PORT_ADMIT_ADMIT
    let retired := s.isRetired (portKind p.val) d.val p.val
    let tables := s.gen ≠ 0 ∧ s.tabs.stale.contains d.val = false
    let room := others + s.reserve d.val p.val ≤ s.fld (R.BUF_POOL_CTRL d.val) F.BUF_POOL_CTRL_STAGE_CELLS
    let failed := fun st => s.setF (R.PORT_ADMIT d.val p.val) F.PORT_ADMIT_LAST_STATUS st
    (s.portState d.val p.val ≠ 1 → exec (.portAdmit d p) s = .next s) ∧
    (s.portState d.val p.val = 1 → retired = true → exec (.portAdmit d p) s = .next (failed 0x17)) ∧
    (s.portState d.val p.val = 1 → retired = false → ¬ tables → exec (.portAdmit d p) s = .next (failed 0x18)) ∧
    (s.portState d.val p.val = 1 → retired = false → tables → ¬ room → exec (.portAdmit d p) s = .next (failed 0x10)) ∧
    (s.portState d.val p.val = 1 → retired = false → tables → room → exec (.portAdmit d p) s = .next (portBack
      (((failed 0).setF (R.PORT_ADMIT d.val p.val) F.PORT_ADMIT_ADMIT 1).setPortState d.val p.val 2) d.val p.val))) ∧
  (∀ (d : Fin 8) (p : Fin 130) (reg : ReserveReg) (v : Word) (s : State),
    let t := reserveWrite d.val p.val reg v s
    (reserveOverflow d.val p.val s t = true → exec (.portReserveWrite d p reg v) s =
      .next (setEvent s 62 (R.BUF_EVENT d.val) F.BUF_EVENT_RESERVE_REFUSED)) ∧
    (reserveOverflow d.val p.val s t = false → exec (.portReserveWrite d p reg v) s = .next (flowPort t d.val p.val))) ∧
  (∀ (d : Fin 8) (pool : Bool) (v : Word) (s : State),
    (allQuarantined s d.val = false → exec (.bufConfigWrite d pool v) s = .next s) ∧
    (allQuarantined s d.val = true → 8192 ≤ F.BUF_POOL_CTRL_STAGE_CELLS.get v → F.BUF_POOL_CTRL_STAGE_CELLS.get v ≤ 65536 →
      exec (.bufConfigWrite d true v) s = .next (s.setF (R.BUF_POOL_CTRL d.val) F.BUF_POOL_CTRL_STAGE_CELLS
        (F.BUF_POOL_CTRL_STAGE_CELLS.get v))) ∧
    (allQuarantined s d.val = true → F.BUF_POOL_CTRL_STAGE_CELLS.get v < 8192 ∨ 65536 < F.BUF_POOL_CTRL_STAGE_CELLS.get v →
      exec (.bufConfigWrite d true v) s = .next s) ∧
    (allQuarantined s d.val = true → exec (.bufConfigWrite d false v) s = .next (setInRange (setInRange s (R.BUF_RESERVE d.val)
      F.BUF_RESERVE_HOLD_RSP_CELLS v 1024 16384) (R.BUF_RESERVE d.val) F.BUF_RESERVE_ENGINE_CELLS v 1024 16384)))

/-- Sending (R112, R181, R199 to R202). While the port is UP, may start frames and its transmitter is free, the due timed frame goes first, on
time or late; then a frame that was cut through to the port; else the highest level with an eligible class sends the head of the class that
its round robin picks: the class in its turn while it is eligible and its head fits its deficit, else the next one, which gains its
quantum. A timed frame is not launched before its time, is dropped in index 3 where the port was down at its time, and in index 2 where it
still waits at its time plus DROP_US. A frame charges its class's credit with its bytes. Setting EN gives a class the credit BURST, and a
write clips the credit to the new BURST. A write of SPRAY_SEED reseeds the generators. -/
def Obligations.EgressSending : Prop :=
  (∀ (d : Fin 8) (p : Fin 128) (s : State),
    let may := s.portUp d.val p.val = true ∧ s.txFree d.val p.val = true ∧ s.noStart d.val p.val = false
    let s1 := settleTimed (endTx s d.val p.val) d.val p.val
    (¬ may → exec (.egressSchedule d p) s = .next s) ∧
    (∀ id l, may → s1.timedDue d.val p.val = some (id, l) → exec (.egressSchedule d p) s = .next (sendTimed s1 d.val p.val id l)) ∧
    (∀ id, may → s1.timedDue d.val p.val = none → s1.cutNext d.val p.val = some id →
      exec (.egressSchedule d p) s = .next (startCut s1 d.val p.val id)) ∧
    (∀ s2, may → s1.timedDue d.val p.val = none → s1.cutNext d.val p.val = none → pickLevel d.val p.val 8 s1 = (none, s2) →
      exec (.egressSchedule d p) s = .next s2) ∧
    (∀ t s2 id, may → s1.timedDue d.val p.val = none → s1.cutNext d.val p.val = none → pickLevel d.val p.val 8 s1 = (some t, s2) →
      s2.headFrame d.val p.val t = some id → exec (.egressSchedule d p) s = .next (sendClass s2 d.val p.val t id))) ∧
  (∀ (d p n t : Nat) (s s2 : State), pickLevel d p n s = (some t, s2) →
    s.eligible d p t = true ∧ s.prio d p t < n ∧
    ∀ u < 8, s.eligible d p u = true → s.prio d p u < n → s.prio d p u ≤ s.prio d p t) ∧
  (∀ (d p level : Nat) (s : State),
    (s.turnGoesOn d p level = true → drrPick s d p level = (some (sget (s.port d p).turn level 0 - 1), s.port d p)) ∧
    (∀ t x, s.turnGoesOn d p level = false → drrPick s d p level = (some t, x) → s.prio d p t = level ∧ s.eligible d p t = true ∧
      x.deficit = supd (s.port d p).deficit t 0 (· + s.quantum d p t))) ∧
  (∀ (d : Fin 8) (p : Fin 128) (s : State),
    let s1 := settleTimed s d.val p.val
    exec (.timedDrop d p) s = .next s1 ∧
    (s1.timedDue d.val p.val = none → exec (.timedLaunch d p) s = .next s1) ∧
    (∀ id l, s1.timedDue d.val p.val = some (id, l) → s1.portUp d.val p.val = true → s1.txFree d.val p.val = true →
      s1.noStart d.val p.val = false → exec (.timedLaunch d p) s = .next (sendTimed (endTx s1 d.val p.val) d.val p.val id l)) ∧
    (∀ id l rest, (s.port d.val p.val).timed = (id, l) :: rest → s.reached l = false → s.timedDue d.val p.val = none)) ∧
  (∀ (d p id l : Nat) (s : State),
    let late := s.reached (l + s.fld (R.TQ_CTRL d p) F.TQ_CTRL_DROP_US * 1000)
    (s.portUp d p = false → s.reached l = true → (s.port d p).overdue.contains id = false → s.timedLost d p id l = some 3) ∧
    (s.portUp d p = true → late = true → s.timedLost d p id l = some 2) ∧
    (s.portUp d p = true → late = false → s.timedLost d p id l = none)) ∧
  (∀ (d : Fin 8) (p : Fin 128) (t : Fin 8) (id : Nat) (s : State), (chargeStart s d.val p.val t.val id).creditNow d.val p.val t.val =
    s.creditNow d.val p.val t.val - (hLen (s.frm id).frame.hdr * 65536 : Nat)) ∧
  (∀ (d : Fin 8) (p : Fin 130) (t : Fin 8) (v : Word) (s : State), ∃ u, exec (.shaperWrite d p t v) s = .next u ∧
    (let r := R.TM_SHAPER d.val p.val t.val
     let full : Int := (burstUnits (u.fld r F.TM_SHAPER_BURST) : Nat)
     u.fld r F.TM_SHAPER_EN = F.TM_SHAPER_EN.get v ∧
     (s.bit r F.TM_SHAPER_EN = false → F.TM_SHAPER_EN.get v = 1 → u.creditNow d.val p.val t.val = full) ∧
     (s.bit r F.TM_SHAPER_EN = true ∨ F.TM_SHAPER_EN.get v = 0 →
       u.creditNow d.val p.val t.val = min (s.creditNow d.val p.val t.val) full) ∧
     u.fld r F.TM_SHAPER_RATE = (if F.TM_SHAPER_RATE.get v ≤ 16000 then F.TM_SHAPER_RATE.get v else s.fld r F.TM_SHAPER_RATE) ∧
     u.fld r F.TM_SHAPER_BURST = (if 37 ≤ F.TM_SHAPER_BURST.get v then F.TM_SHAPER_BURST.get v else s.fld r F.TM_SHAPER_BURST))) ∧
  (∀ (d : Fin 8) (v : Word) (s : State), ∃ u, exec (.spraySeedWrite d v) s = .next u ∧ u.rd (R.SPRAY_SEED d.val) = v ∧
    (u.die d.val).spray = [] ∧ ∀ e, e ≠ d.val → u.die e = s.die e)

/-- Policing (R205, R207). A frame longer than the peak bucket holds is red and takes from neither, one longer than the committed bucket is
yellow and takes from the peak bucket, another is green and takes from both. A write to word 0 that sets EN is refused, with
POLICER_REFUSED on every die, where PIR is below CIR, a burst below 37 or an action is reserved; a write that sets EN from 0
and is not refused fills both buckets. -/
def Obligations.Policing : Prop :=
  (∀ (b : Bucket) (len : Nat),
    (b.tp < len * 65536 → markFrame b len = (2, b)) ∧
    (len * 65536 ≤ b.tp → b.tc < len * 65536 → markFrame b len = (1, { b with tp := b.tp - len * 65536 })) ∧
    (len * 65536 ≤ b.tp → len * 65536 ≤ b.tc →
      markFrame b len = (0, { b with tp := b.tp - len * 65536, tc := b.tc - len * 65536 }))) ∧
  (∀ (d i : Nat) (s : State),
    (s.bucketNow d i).tp ≤ s.fld (R.POLICER_CFG2 0 i) F.POLICER_CFG2_PBS * 2 ^ 24 ∧
    (s.bucketNow d i).tc ≤ s.fld (R.POLICER_CFG1 0 i) F.POLICER_CFG1_CBS * 2 ^ 24) ∧
  (∀ (i : Fin 8704) (v : Word) (s : State),
    let bad := s.fld (R.POLICER_CFG1 0 i.val) F.POLICER_CFG1_PIR < F.POLICER_CFG0_CIR.get v ∨
      s.fld (R.POLICER_CFG1 0 i.val) F.POLICER_CFG1_CBS < 37 ∨ s.fld (R.POLICER_CFG2 0 i.val) F.POLICER_CFG2_PBS < 37 ∨
      F.POLICER_CFG0_YELLOW_ACT.get v = 3 ∨ F.POLICER_CFG0_RED_ACT.get v = 3
    let r := R.POLICER_CFG0 0 i.val
    (F.POLICER_CFG0_EN.get v = 1 → bad → exec (.policerEnableWrite i v) s = .next ((List.range 8).foldl
      (fun t d => setEvent t 62 (R.TM_EVENT d) F.TM_EVENT_POLICER_REFUSED)
      (s.wr r (F.POLICER_CFG0_EN.put (v &&& 0xFF003FFF#32) 0)))) ∧
    (F.POLICER_CFG0_EN.get v = 0 ∨ ¬ bad → ∃ t, exec (.policerEnableWrite i v) s = .next t ∧ t.rd r = v &&& 0xFF003FFF#32) ∧
    (F.POLICER_CFG0_EN.get v = 1 → ¬ bad → s.bit r F.POLICER_CFG0_EN = false → ∃ t, exec (.policerEnableWrite i v) s = .next t ∧
      ∀ d < 8, (t.bucketNow d i.val).tp = burstUnits (s.fld (R.POLICER_CFG2 0 i.val) F.POLICER_CFG2_PBS) ∧
        (t.bucketNow d i.val).tc = burstUnits (s.fld (R.POLICER_CFG1 0 i.val) F.POLICER_CFG1_CBS)))

/-- Contact-sheet records and exposures (R210, R211). The oldest record of a die goes to the ring where the ring is in use, and is lost where
the ring is full in STOP mode. NOW captures at once; AT keeps its time where it lies at least 1 us and less than 2^30 ns ahead, and is
refused else; both are refused while one is busy. The capture zeroes the counters of its sets where CLEAR is set, and advances SEQ. Once the
image is written, the exposure is not busy and DONE is set. -/
def Obligations.ContactSheetAndExposures : Prop :=
  (∀ (d : Fin 8) (s : State),
    ((s.die d.val).csBuf = [] → exec (.csRecordWrite d) s = .next s) ∧
    (s.bit R.CS_RING_CTRL F.CS_RING_CTRL_EN = false → exec (.csRecordWrite d) s = .next s) ∧
    (∀ p rec rest, (s.die d.val).csBuf = (p, rec) :: rest → s.bit R.CS_RING_CTRL F.CS_RING_CTRL_EN = true →
      let s1 := s.updDie d.val fun x => { x with csBuf := rest }
      (s.csPending = s.csSize → s.bit R.CS_RING_CTRL F.CS_RING_CTRL_MODE = false →
        exec (.csRecordWrite d) s = .next (csLost s1 d.val p)) ∧
      (s.csPending ≠ s.csSize ∨ s.bit R.CS_RING_CTRL F.CS_RING_CTRL_MODE = true →
        exec (.csRecordWrite d) s = .next (csPut s1 rec)))) ∧
  (∀ (d : Fin 8) (v : Word) (s : State),
    let s1 := s.wr (R.EXPOSURE_CTRL d.val) (v &&& 0x19F#32)
    let busy := s1.setBit (R.EXPOSURE_STATUS d.val) F.EXPOSURE_STATUS_BUSY
    let no := s1.setBit (R.EXPOSURE_STATUS d.val) F.EXPOSURE_STATUS_REFUSED
    let t := (s1.rd (R.EXPOSURE_TIME d.val)).toNat
    (s.bit (R.EXPOSURE_STATUS d.val) F.EXPOSURE_STATUS_BUSY = true →
      exec (.exposureNow d v) s = .next no ∧ exec (.exposureAt d v) s = .next no) ∧
    (s.bit (R.EXPOSURE_STATUS d.val) F.EXPOSURE_STATUS_BUSY = false → exec (.exposureNow d v) s = .next (captureNow busy d.val)) ∧
    (s.bit (R.EXPOSURE_STATUS d.val) F.EXPOSURE_STATUS_BUSY = false → 1000 ≤ s1.ahead t → s1.ahead t < 2 ^ 30 →
      exec (.exposureAt d v) s = .next (busy.updDie d.val fun x => { x with expo := ⟨some t, none⟩ })) ∧
    (s1.ahead t < 1000 ∨ 2 ^ 30 ≤ s1.ahead t → exec (.exposureAt d v) s = .next no)) ∧
  (∀ (d : Fin 8) (s : State),
    (∀ t, (s.die d.val).expo.sched = some t → s.reached t = true → exec (.exposureCapture d) s = .next (captureNow s d.val)) ∧
    (∀ t, (s.die d.val).expo.sched = some t → s.reached t = false → exec (.exposureCapture d) s = .next s) ∧
    ((s.die d.val).expo.sched = none → exec (.exposureCapture d) s = .next s)) ∧
  (∀ (d : Nat) (s : State),
    let t := captureNow s d
    (s.bit (R.EXPOSURE_CTRL d) F.EXPOSURE_CTRL_CLEAR = true →
      ∀ r ∈ exposureRegs d (s.fld (R.EXPOSURE_CTRL d) F.EXPOSURE_CTRL_SETS), r.addr ≠ (R.EXPOSURE_STATUS d).addr → t.rd r = 0) ∧
    (s.bit (R.EXPOSURE_CTRL d) F.EXPOSURE_CTRL_CLEAR = false → t.fld (R.EXPOSURE_STATUS d) F.EXPOSURE_STATUS_SEQ =
      (s.fld (R.EXPOSURE_STATUS d) F.EXPOSURE_STATUS_SEQ + 1) % 65536)) ∧
  (∀ (d : Fin 8) (s : State),
    ((s.die d.val).expo.image = none → exec (.exposureWriteDone d) s = .next s) ∧
    (∀ img, (s.die d.val).expo.image = some img →
      let a := s.rd64 (R.EXPOSURE_ADDR d.val) (R.EXPOSURE_ADDR_HI d.val) / 64 * 64
      let s1 := s.updDie d.val fun x => { x with expo := ⟨none, none⟩ }
      let s2 := if s.bit (R.EXPOSURE_CTRL d.val) F.EXPOSURE_CTRL_DEST then devWrite s1 a img else s1.hostWrite a img
      exec (.exposureWriteDone d) s = .next (setEvent (s2.setF (R.EXPOSURE_STATUS d.val) F.EXPOSURE_STATUS_BUSY 0) (35 + d.val)
        (R.EXPOSURE_STATUS d.val) F.EXPOSURE_STATUS_DONE)))

/-- The slot operations as a whole (Tables 10.3 to 10.12, R238 to R240, R252, R253). Each row is one operation code of one class of slot.
Where its engine's next slot is not of that code, or the engine stalls or aborts before it, the row does what arming the slot does;
where a hardware check stops the slot, the dispatch aborts; where a P, M, S or C slot's guard is false the slot passes without effect,
PST and MST apart, whose guards mask bytes. Arming a slot: an engine without a dispatch, or at its END, does nothing; a braid that has issued
goes on to its next slot; another starts only below BUDGET; beyond LIMIT or illegal it aborts; one that waits counts a stall, and a
corrected fetch takes one cycle more. A braid that passes names no register as destination twice (R229). After slot 7 comes the next braid, or the target of a branch whose two delay
braids are done (R230). -/
def Obligations.EngineOperations : Prop :=
  (∀ (e : Fin 128) (hw : OpHw) (s : State),
    let table : List ((OpHw → Instr) × Cls × Nat) :=
      [(.pld e, .P, 0x01), (.pst e, .P, 0x02), (.psend e, .P, 0x03), (.pret e, .P, 0x04), (.pacq e, .P, 0x05), (.prel e, .P, 0x06),
       (.hget e, .P, 0x07), (.hput e, .P, 0x08), (.hunlk e, .P, 0x09), (.pldw e, .P, 0x0A),
       (.mld e, .M, 0x01), (.mst e, .M, 0x02), (.mldx e, .M, 0x03), (.mstx e, .M, 0x04),
       (.vadd e, .V, 0x01), (.vsub e, .V, 0x02), (.vmul e, .V, 0x03), (.vfma e, .V, 0x04), (.vmin e, .V, 0x05), (.vmax e, .V, 0x06),
       (.vand e, .V, 0x07), (.vor e, .V, 0x08), (.vxor e, .V, 0x09), (.vshl e, .V, 0x0A), (.vshr e, .V, 0x0B), (.vsra e, .V, 0x0C),
       (.vcmp e, .V, 0x0D), (.vsel e, .V, 0x0E), (.vbcast e, .V, 0x0F), (.vshuf e, .V, 0x10), (.vhred e, .V, 0x11), (.vrcp e, .V, 0x12),
       (.vrsqrt e, .V, 0x13), (.vcvt e, .V, 0x14), (.vexp e, .V, 0x15), (.vmxunpk e, .V, 0x16), (.vmxpk e, .V, 0x17), (.vins e, .V, 0x18),
       (.aacc e, .A, 0x01), (.aldw e, .A, 0x02), (.astw e, .A, 0x03), (.aclr e, .A, 0x04), (.arnd e, .A, 0x05), (.ares e, .A, 0x06),
       (.aaddw e, .A, 0x07), (.smrg e, .S, 0x01), (.ssort e, .S, 0x02), (.sfind e, .S, 0x03)] ++
      [(.addOp e, .C, 0x01), (.subOp e, .C, 0x02), (.andOp e, .C, 0x03), (.orOp e, .C, 0x04), (.xorOp e, .C, 0x05), (.shl e, .C, 0x06),
       (.shr e, .C, 0x07), (.sra e, .C, 0x08), (.mulOp e, .C, 0x09), (.addi e, .C, 0x0A), (.li e, .C, 0x0B), (.addm e, .C, 0x0C),
       (.cmp e, .C, 0x0D), (.cmpi e, .C, 0x0E), (.extOp e, .C, 0x0F), (.vx e, .C, 0x10), (.pmov e, .C, 0x11), (.xp e, .C, 0x12),
       (.plog e, .C, 0x13), (.br e, .C, 0x20), (.jal e, .C, 0x21), (.jr e, .C, 0x22), (.endOp e, .C, 0x30), (.karr e, .C, 0x31),
       (.kcsum e, .C, 0x32), (.kseal e, .C, 0x33), (.kfail e, .C, 0x34), (.kfree e, .C, 0x35), (.krd e, .C, 0x36), (.kwr e, .C, 0x37),
       (.ktimer e, .C, 0x38), (.sanc e, .C, 0x39), (.astat e, .C, 0x3A), (.rdres e, .C, 0x3B), (.waitOp e, .C, 0x3C), (.hstat e, .C, 0x3D),
       (.rdcyc e, .C, 0x3E), (.rdtime e, .C, 0x3F)]
    ∀ p ∈ table,
      (∀ t, armSlot p.2.1 false p.2.2 e.val hw s = .stop t → exec (p.1 hw) s = .next t) ∧
      (∀ t k w u cause depth, armSlot p.2.1 false p.2.2 e.val hw s = .go t k w →
        hwCheck t e.val k p.2.2 hw = (u, some (cause, depth)) → exec (p.1 hw) s = .next (abortDispatch u e.val cause depth)) ∧
      (∀ t k w u, armSlot p.2.1 false p.2.2 e.val hw s = .go t k w → hwCheck t e.val k p.2.2 hw = (u, none) →
        p.2.1 = .C ∨ p.2.1 = .S ∨ ((p.2.1 = .P ∨ p.2.1 = .M) ∧ p.2.2 ≠ 2) → guardOn (u.eng e.val).view w = false →
        exec (p.1 hw) s = .next (slotDone u e.val k))) ∧
  (∀ (e : Fin 128) (hw : OpHw) (s : State),
    (∀ t, armSlot .P true 0 e.val hw s = .stop t → exec (.nop e hw) s = .next t) ∧
    (∀ t k w u cause depth, armSlot .P true 0 e.val hw s = .go t k w → hwCheck t e.val k 0 hw = (u, some (cause, depth)) →
      exec (.nop e hw) s = .next (abortDispatch u e.val cause depth)) ∧
    (∀ t k w u, armSlot .P true 0 e.val hw s = .go t k w → hwCheck t e.val k 0 hw = (u, none) →
      exec (.nop e hw) s = .next (slotDone u e.val k))) ∧
  (∀ (c : Cls) (op e : Nat) (hw : OpHw) (s : State),
    let g := s.eng e
    (g.disp = none ∨ g.ended = true → armSlot c false op e hw s = .stop s) ∧
    (∀ d, g.disp = some d → g.ended = false →
      let wf := winFormat (s.knot d.knot)
      let w := slotWord g.imem g.pc g.slot
      let ws := braidWords g.imem g.pc
      let budget := s.fld (engReg R.ENGINE_DISPATCH_CTRL e) F.ENGINE_DISPATCH_CTRL_BUDGET
      let limit := s.fld (engReg R.ENGINE_IMEM_CTRL e) F.ENGINE_IMEM_CTRL_LIMIT
      (g.issued = true → clsOf g.slot = c → w.op = op → armSlot c false op e hw s = .go s g.slot w) ∧
      (g.issued = true → clsOf g.slot ≠ c ∨ w.op ≠ op → armSlot c false op e hw s = .stop s) ∧
      (g.issued = false → budget ≤ g.count → armSlot c false op e hw s = .stop s) ∧
      (g.issued = false → g.count < budget → limit ≤ g.pc → armSlot c false op e hw s = .stop (abortDispatch s e causeImem 5)) ∧
      (g.issued = false → g.count < budget → g.pc < limit → braidLegal wf ws = false →
        armSlot c false op e hw s = .stop (abortDispatch s e causeIllegal 4)) ∧
      (g.issued = false → g.count < budget → g.pc < limit → braidLegal wf ws = true → clsOf g.slot = c → w.op = op →
        (∀ ev, outsideWait s e (g.core.commit g.count g.lc) ws = some ev → armSlot c false op e hw s = .stop (stallCycle s e ev)) ∧
        (outsideWait s e (g.core.commit g.count g.lc) ws = none →
          armSlot c false op e hw s =
            .go (issueBraid (if fixedFetch hw then fetchCycle s e else s) e wf (s.partOf e d.knot).1 ws) 0 w)))) ∧
  (∀ (wf : Nat) (ws : List Word128) (i j : Nat) (r : Dst), braidLegal wf ws = true → i < j → j < ws.length →
    r ∈ slotOuts wf i (ws.getD i (Word128.ofNat 0)) → r ∉ slotOuts wf j (ws.getD j (Word128.ofNat 0))) ∧
  (∀ (e : Nat) (s : State),
    (∀ k < 7, ((slotDone s e k).eng e).slot = k + 1 ∧ ((slotDone s e k).eng e).pc = (s.eng e).pc) ∧
    ((s.eng e).ended = false →
      let g := (slotDone s e 7).eng e
      g.slot = 0 ∧ g.issued = false ∧ g.count = (s.eng e).count + 1 ∧
      ((s.eng e).branch = none → g.pc = (s.eng e).pc + 1) ∧
      (∀ a, (s.eng e).branch = some (a, 0) → g.pc = a ∧ g.branch = none) ∧
      (∀ a n, (s.eng e).branch = some (a, n + 1) → g.pc = (s.eng e).pc + 1 ∧ g.branch = some (a, n))))

/-- Scalar operations (R269): x[RD] takes, one braid later, a function of x[RA], x[RB] and IMM modulo 2^64. A shift amount is
(x[RB] + IMM) mod 64, and SRA fills with the sign; ADDM adds modulo 2^31 - 1; EXT takes IMM[13:8] + 1 bits from bit IMM[5:0] up. -/
def Obligations.ScalarOperations : Prop :=
  ∀ (e : Fin 128) (s t : State) (k : Nat) (w : Word128),
    let c := (t.eng e.val).view
    let a := c.getX w.ra
    let b := c.getX w.rb
    let sh := (b + w.imm) % 64
    let m := 2 ^ 31 - 1
    let table : List (Instr × Nat × Nat) :=
      [(.addOp e .ok, 0x01, a + b), (.subOp e .ok, 0x02, a + 2 ^ 64 - b), (.andOp e .ok, 0x03, a &&& b), (.orOp e .ok, 0x04, a ||| b),
       (.xorOp e .ok, 0x05, a ^^^ b), (.shl e .ok, 0x06, a * 2 ^ sh), (.shr e .ok, 0x07, a / 2 ^ sh),
       (.sra e .ok, 0x08, if 2 ^ 63 ≤ a % 2 ^ 64 then a % 2 ^ 64 / 2 ^ sh + (2 ^ 64 - 2 ^ (64 - sh)) else a % 2 ^ 64 / 2 ^ sh),
       (.mulOp e .ok, 0x09, a * b), (.addi e .ok, 0x0A, a + w.imm), (.li e .ok, 0x0B, w.imm), (.addm e .ok, 0x0C, (a + b) % m),
       (.extOp e .ok, 0x0F, a / 2 ^ (w.imm % 64) % 2 ^ (w.imm / 256 % 64 + 1))]
    ∀ p ∈ table, armSlot .C false p.2.1 e.val .ok s = .go t k w → guardOn c w = true →
      exec p.1 s = .next (slotDone (putC e.val k (.x w.rd) (p.2.2 % 2 ^ 64) t) e.val k)

/-- Predicates, moves and branches (R269, R270, R275). CMP and CMPI write 64 ones or 64 zeros for the condition of MOD, signed or not; PLOG
combines predicates; VX, PMOV and XP move. BR, JAL and JR branch to a target after two delay braids, JAL with the address of the braid
after them in x[RD]; a branch in the delay braids of a taken one aborts the dispatch. END lets no later braid issue. -/
def Obligations.PredicatesAndBranches : Prop :=
  (∀ (e : Fin 128) (s t : State) (k : Nat) (w : Word128),
    let c := (t.eng e.val).view
    let a := c.getX w.ra
    let cond := fun b => match w.mod with
      | 0 => decide (a = b) | 1 => decide (a ≠ b) | 2 => decide (sx 64 a < sx 64 b) | 3 => decide (a < b)
      | 4 => decide (sx 64 a ≤ sx 64 b) | _ => decide (a ≤ b)
    let p := c.getP w.ra
    let q := c.getP w.rb
    let table : List (Instr × Nat × Dst × Nat) :=
      [(.cmp e .ok, 0x0D, .p w.rd, if cond (c.getX w.rb) then 2 ^ 64 - 1 else 0), (.cmpi e .ok, 0x0E, .p w.rd, if cond w.imm then 2 ^ 64 - 1 else 0),
       (.vx e .ok, 0x10, .x w.rd, c.getV w.ra / 2 ^ (64 * (w.imm % 16)) % 2 ^ 64), (.pmov e .ok, 0x11, .p w.rd, a), (.xp e .ok, 0x12, .x w.rd, p),
       (.plog e .ok, 0x13, .p w.rd, match w.mod with
        | 0 => p &&& q | 1 => p ||| q | 2 => p ^^^ q | _ => p &&& (2 ^ 64 - 1 - q % 2 ^ 64))]
    ∀ x ∈ table, armSlot .C false x.2.1 e.val .ok s = .go t k w → guardOn c w = true →
      exec x.1 s = .next (slotDone (putC e.val k x.2.2.1 x.2.2.2 t) e.val k)) ∧
  (∀ (e : Fin 128) (s t : State) (k : Nat) (w : Word128),
    let c := (t.eng e.val).view
    let jump := fun (target : Nat) (u : State) => pmc (u.updEng e.val fun g => { g with branch := some (target, 2) }) e.val 0x13 1
    let abort := abortDispatch t e.val causeIllegal 4
    (armSlot .C false 0x20 e.val .ok s = .go t k w → guardOn c w = true →
      ((t.eng e.val).branch = none → exec (.br e .ok) s = .next (slotDone (jump w.imm t) e.val k)) ∧
      ((t.eng e.val).branch ≠ none → exec (.br e .ok) s = .next abort)) ∧
    (armSlot .C false 0x21 e.val .ok s = .go t k w → guardOn c w = true →
      ((t.eng e.val).branch = none → exec (.jal e .ok) s =
        .next (slotDone (jump w.imm (putC e.val k (.x w.rd) ((t.eng e.val).pc + 3) t)) e.val k)) ∧
      ((t.eng e.val).branch ≠ none → exec (.jal e .ok) s = .next abort)) ∧
    (armSlot .C false 0x22 e.val .ok s = .go t k w → guardOn c w = true →
      ((t.eng e.val).branch = none → exec (.jr e .ok) s = .next (slotDone (jump (c.getX w.ra) t) e.val k)) ∧
      ((t.eng e.val).branch ≠ none → exec (.jr e .ok) s = .next abort)) ∧
    (armSlot .C false 0x30 e.val .ok s = .go t k w → guardOn c w = true →
      exec (.endOp e .ok) s = .next (slotDone (t.updEng e.val fun g => { g with ended := true }) e.val k)) ∧
    (armSlot .C false 0x3C e.val .ok s = .go t k w → guardOn c w = true → exec (.waitOp e .ok) s = .next (slotDone t e.val k)))

/-- Vector operations (R254, R260 to R263). v[RD] takes, three braids later and in the lanes that the guard covers, the operation's lanes;
VCMP writes a predicate, the conversions the elements of their part, the MX operations a pair and the scales. Lane i of a two-operand
operation is the operation on lanes i. Integer lanes add, subtract and multiply modulo their width; floating-point lanes are rounded
once. A shuffle takes lane b_i mod lanes of a; a broadcast fills every lane. -/
def Obligations.VectorOperations : Prop :=
  (∀ (e : Fin 128) (s t : State) (k : Nat) (w : Word128),
    let c := (t.eng e.val).view
    let a := c.getV w.ra
    let b := c.getV w.rb
    let n := tyBits w.fmt
    let la := lanesOf a n (1024 / n)
    let f32 := fun (f : FFmt → FVal → Nat) => ofLanes 32 ((lanesOf a 32 32).map fun x => f fp32 (fp32.decode x))
    let cvt := vecCvt w.fmt (w.mod % 16) (w.mod / 16) a
    let ex := vecExp w.fmt (w.mod / 16) a
    let iw := if w.m 0 then 64 else 32
    let table : List (Instr × Nat × Nat × Nat × Nat) :=
      [(.vadd e .ok, 0x01, n, ones 1024, lanes2 n (laneAdd w.fmt) a b), (.vsub e .ok, 0x02, n, ones 1024, lanes2 n (laneSub w.fmt) a b),
       (.vmul e .ok, 0x03, n, ones 1024, lanes2 n (laneMul w.fmt) a b),
       (.vfma e .ok, 0x04, n, ones 1024, ofLanes n ((List.range (tyLanes w.fmt)).map fun i =>
          laneFma w.fmt (laneOf a n i) (laneOf b n i) (laneOf (c.getV w.rc) n i))),
       (.vmin e .ok, 0x05, n, ones 1024, lanes2 n (laneMin w.fmt) a b), (.vmax e .ok, 0x06, n, ones 1024, lanes2 n (laneMax w.fmt) a b),
       (.vand e .ok, 0x07, n, ones 1024, a &&& b), (.vor e .ok, 0x08, n, ones 1024, a ||| b), (.vxor e .ok, 0x09, n, ones 1024, a ^^^ b),
       (.vshl e .ok, 0x0A, n, ones 1024, ofLanes n (la.map fun x => x * 2 ^ (w.imm % 32) % 2 ^ n)),
       (.vshr e .ok, 0x0B, n, ones 1024, ofLanes n (la.map fun x => x / 2 ^ (w.imm % 32))),
       (.vsra e .ok, 0x0C, n, ones 1024, ofLanes n (la.map fun x => tc n (sx n x / (2 ^ (w.imm % 32) : Nat)))),
       (.vsel e .ok, 0x0E, n, ones 1024, vecSel (c.getP w.rc) a b), (.vbcast e .ok, 0x0F, n, ones 1024, vecBcast n (c.getX w.ra)),
       (.vshuf e .ok, 0x10, n, ones 1024, vecShuf n a b), (.vhred e .ok, 0x11, n, ones 1024, vecHred w.fmt w.mod a),
       (.vrcp e .ok, 0x12, 32, ones 1024, f32 frcp), (.vrsqrt e .ok, 0x13, 32, ones 1024, f32 frsqrt),
       (.vcvt e .ok, 0x14, elemBits (w.mod % 16), cvt.2, cvt.1), (.vexp e .ok, 0x15, 16, ex.2, ex.1),
       (.vins e .ok, 0x18, iw, ones 1024, vecIns iw (w.imm % (1024 / iw)) a (c.getX w.rb))]
    ∀ p ∈ table, armSlot .V false p.2.1 e.val .ok s = .go t k w →
      exec p.1 s = .next (slotDone (t.updEng e.val fun g => g.later k 3 (.v w.rd) (p.2.2.2.1 &&& laneMask g.view w p.2.2.1) p.2.2.2.2) e.val k)) ∧
  (∀ (e : Fin 128) (s t : State) (k : Nat) (w : Word128),
    let c := (t.eng e.val).view
    let n := tyBits w.fmt / 16
    let mask := match guardVal c w with
      | none => ones 64
      | some p => ofLanes n ((List.range (tyLanes w.fmt)).map fun i => if guardBit p (tyBits w.fmt) i then ones n else 0)
    let un := mxUnpack w.fmt (c.getPair w.ra)
    let pk := mxPack w.fmt (if w.fmt = 6 then c.getPair w.ra else c.getV w.ra) (c.getV w.rb)
    let put := fun b r v u => putV e.val k w b r (ones 1024) v u
    (armSlot .V false 0x0D e.val .ok s = .go t k w → exec (.vcmp e .ok) s = .next (slotDone
      (t.updEng e.val fun g => g.later k 3 (.p w.rd) mask (vecCmp w.fmt w.mod (c.getV w.ra) (c.getV w.rb))) e.val k)) ∧
    (armSlot .V false 0x16 e.val .ok s = .go t k w → exec (.vmxunpk e .ok) s = .next (slotDone
      (put 8 w.rc un.2 (if w.fmt = 6 then put 8 (w.rd + 1) (un.1 / 2 ^ 1024) (put 8 w.rd (un.1 % 2 ^ 1024) t)
        else put (elemBits w.fmt) w.rd (un.1 % 2 ^ 1024) t)) e.val k)) ∧
    (armSlot .V false 0x17 e.val .ok s = .go t k w → exec (.vmxpk e .ok) s =
      .next (slotDone (put 8 (w.rd + 1) (pk / 2 ^ 1024) (put 8 w.rd (pk % 2 ^ 1024) t)) e.val k))) ∧
  (∀ (w i : Nat) (f : Nat → Nat → Nat) (a b : Nat), i < 1024 / w →
    laneOf (lanes2 w f a b) w i = f (laneOf a w i) (laneOf b w i) % 2 ^ w ∧
    laneOf (vecShuf w a b) w i = laneOf a w (laneOf b w i % (1024 / w)) ∧ laneOf (vecBcast w a) w i = a % 2 ^ w) ∧
  (∀ (t a b : Nat), t = 0 ∨ t = 1 → let n := if t = 1 then 32 else 16
    laneAdd t a b = (a + b) % 2 ^ n ∧ laneMul t a b = a * b % 2 ^ n ∧ (laneSub t a b + b) % 2 ^ n = a % 2 ^ n) ∧
  (∀ (p a b i : Nat), i < 1024 → (vecSel p a b).testBit i = (if p.testBit (i / 16) then a.testBit i else b.testBit i))

/-- The A and S slots (R264 to R268, R292 to R296, R299). The operand is a register group or an aligned image inside the partition, else the
dispatch aborts. AACC adds the quantised source to the window, exactly while the sum is in range: addition commutes, saturates at the
codes of the infinities and keeps NaN. ALDW and ASTW move lanes, ACLR clears them, ARES adds their residue, AADDW adds windows, ARND
rounds the window out and with MOD[2] clears it. SMRG merges two sorted sets, SSORT sorts one, SFIND searches it; a merge reads no more
keys than it was given, and a sort yields its keys in order. -/
def Obligations.AccumulatorsAndSets : Prop :=
  (∀ (e : Fin 128) (s t : State) (k : Nat) (w : Word128),
    let c := (t.eng e.val).view
    let regs := WinAt.regs w.rd (winRegs w.fmt)
    let lanes := mapLanes c w (srcBits w.fmt) (winBits w.fmt) (aLanes w.fmt)
    let abort := abortDispatch t e.val causePartition 4
    let at1 := winAt t e.val w (w.m 0) (winRegs w.fmt) (winBytes w.fmt)
    let at2 := winAt t e.val w true 0 (winBytes w.fmt)
    let atN := winAt t e.val w (w.m 0) (winRegs w.fmt) ((w.mod / 8 + 1) * winBytes w.fmt)
    let at7 := winAt t e.val w (w.m 0) 1 768
    let kn := t.knot (t.eng e.val).knotGen.1
    let wf := winFormat kn
    let at5 := winAt t e.val w (w.m 0) (winRegs wf) (winBytes wf)
    (armSlot .A false 1 e.val .ok s = .go t k w → at1 = none → exec (.aacc e .ok) s = .next abort) ∧
    (∀ x, armSlot .A false 1 e.val .ok s = .go t k w → at1 = some x → w.m 1 = false →
      let v := accWindow w.fmt (x.get c) (aSource c w) (c.getV w.rc) ((guardVal c w).getD 0) (guardVal c w).isNone c.anchor +
        keepAbove (x.get c) (winBits w.fmt * aLanes w.fmt)
      exec (.aacc e .ok) s = .next (slotDone (pmc (countLines (t.updEng e.val fun g => (WinAt.write g 4 (winMask c w) v x).aUnit (portCycles x) 4)
        e.val 2 x) e.val 0x16 (lanesOn c w (srcBits w.fmt) (aLanes w.fmt))) e.val k)) ∧
    (∀ x, armSlot .A false 1 e.val .ok s = .go t k w → at1 = some x → w.m 1 = true →
      let v := accNative (x.get c) (c.getV w.rb) ((guardVal c w).getD 0) (guardVal c w).isNone
      exec (.aacc e .ok) s = .next (slotDone (pmc (countLines (t.updEng e.val fun g =>
        (WinAt.write { g with newFlags := g.newFlags ||| 4 } 4 (winMask c w) v x).aUnit (portCycles x) 4) e.val 2 x)
        e.val 0x16 (lanesOn c w (srcBits w.fmt) (aLanes w.fmt))) e.val k)) ∧
    (armSlot .A false 2 e.val .ok s = .go t k w → at2 = none → exec (.aldw e .ok) s = .next abort) ∧
    (∀ x, armSlot .A false 2 e.val .ok s = .go t k w → at2 = some x → exec (.aldw e .ok) s = .next (slotDone (countLines (t.updEng e.val fun g =>
      (regs.write g 4 (winMask c w) (lanes (regs.get c) (laneOf (x.get c) (winBits w.fmt)))).aUnit (portCycles x) 4) e.val 1 x) e.val k)) ∧
    (∀ x, armSlot .A false 3 e.val .ok s = .go t k w → at2 = some x → exec (.astw e .ok) s = .next (slotDone (countLines (t.updEng e.val fun g =>
      (x.write g 4 (winMask c w) (lanes (x.get c) (laneOf (regs.get c) (winBits w.fmt)))).aUnit (portCycles x) 4) e.val 1 x) e.val k)) ∧
    (∀ x, armSlot .A false 4 e.val .ok s = .go t k w → atN = some x → exec (.aclr e .ok) s = .next (slotDone (countLines (t.updEng e.val fun g =>
      (x.write g (w.mod / 8 + 5) (ofLanes (8 * winBytes w.fmt) ((windowsOf w (x.get c)).map fun _ => winMask c w))
        (ofLanes (8 * winBytes w.fmt) ((windowsOf w (x.get c)).map fun v => lanes v fun _ => 0))).aUnit (w.mod / 8 + 1) (w.mod / 8 + 5)) e.val 1 x) e.val k)) ∧
    (∀ x, armSlot .A false 5 e.val .ok s = .go t k w → at5 = some x → ∃ u, exec (.arnd e .ok) s = .next (slotDone (countLines u e.val
        (if w.m 2 then 2 else 1) x) e.val k) ∧
      u = t.updEng e.val fun g =>
        let r := roundOut c w wf kn.native (x.get c)
        let fl := (if r.ovf then 1 else 0) + (if r.nan then 2 else 0) + (if kn.native then 4 else 0)
        let g1 := { g with newFlags := g.newFlags ||| fl }.laterCycle k 6 false (.v w.rd) (laneMask c w (srcBits w.fmt)) (r.dest % 2 ^ 1024)
        let g2 := if w.fmt = 6 then g1.laterCycle k 6 false (.v (w.rd + 1)) (laneMask c w (srcBits w.fmt)) (r.dest / 2 ^ 1024) else g1
        let g3 := if isMx w.fmt then g2.laterCycle k 6 false (.v w.rc) (laneMask c w 8) r.scales else g2
        (if w.m 2 then x.write g3 6 (coverMask c w (srcBits w.fmt) (winBits wf) (aLanes wf)) 0 else g3).aUnit 1 6) ∧
    (∀ x, armSlot .A false 6 e.val .ok s = .go t k w → atN = some x → exec (.ares e .ok) s = .next (slotDone (countLines (t.updEng e.val fun g =>
      { g with newRes := g.newRes + ((windowsOf w (x.get c)).map fun v => winResidue w.fmt (lanes 0 (laneOf v (winBits w.fmt)))).sum }.aUnit
        (w.mod / 8 + 1) (w.mod / 8 + 5)) e.val 1 x) e.val k)) ∧
    (∀ x, armSlot .A false 7 e.val .ok s = .go t k w → at7 = some x →
      let W := if w.fmt = 8 then 96 else 192
      exec (.aaddw e .ok) s = .next (slotDone (pmc (countLines (t.updEng e.val fun g => (x.write g 4
        (coverMask c w (1024 / (6144 / W)) W (6144 / W)) (addWindows W (6144 / W) (x.get c) (c.getW w.rb) ((guardVal c w).getD 0) (guardVal c w).isNone)).aUnit 1 4) e.val 2 x) e.val 0x16
        (lanesOn c w (1024 / (6144 / W)) (6144 / W))) e.val k))) ∧
  (∀ (w : Nat) (a b : Int), winAdd w a b = winAdd w b a ∧ (a = winNan w → winAdd w a b = winNan w) ∧
    (a ≠ winNan w → b ≠ winNan w → -winMax w < a → a < winMax w → -winMax w < b → b < winMax w → -winMax w ≤ a + b → a + b ≤ winMax w →
      winAdd w a b = a + b)) ∧
  (∀ (e : Fin 128) (s t : State) (k : Nat) (w : Word128),
    let c := (t.eng e.val).view
    let m := smrg (w.m 0) (w.m 1) (w.m 2) (w.m 3) (c.getV w.ra) (c.getV w.rb)
    let occ := max 1 (ceilDiv m.2.2.2 16)
    let o := ssort (w.m 0) (c.getV w.ra)
    (armSlot .S false 1 e.val .ok s = .go t k w → guardOn c w = true → exec (.smrg e .ok) s = .next (slotDone (t.updEng e.val fun g =>
      (((g.laterCycle k (occ + 4) true (.v w.rd) (ones 1024) m.1).laterCycle k (occ + 4) true (.v (w.rd + 1)) (ones 1024) m.2.1).laterCycle
        k (occ + 4) true (.x w.rc) (ones 64) m.2.2.1).sUnitBusy occ (occ + 4)) e.val k)) ∧
    (armSlot .S false 2 e.val .ok s = .go t k w → guardOn c w = true → exec (.ssort e .ok) s = .next (slotDone (t.updEng e.val fun g =>
      ((g.laterCycle k 5 true (.v w.rd) (ones 1024) o.1).laterCycle k 5 true (.v (w.rd + 1)) (ones 1024) o.2).sUnitBusy 1 5) e.val k)) ∧
    (armSlot .S false 3 e.val .ok s = .go t k w → guardOn c w = true → exec (.sfind e .ok) s = .next (slotDone (t.updEng e.val fun g =>
      (g.laterCycle k 5 true (.x w.rd) (ones 64) (sfind (w.m 0) (c.getV w.ra) (c.getX w.rb))).sUnitBusy 1 5) e.val k))) ∧
  (∀ (desc keep : Bool) (lim : Option Nat × Bool) (as bs : List Nat) (n : Nat),
    let m := mergeLoop desc keep lim as bs n ⟨[], 0, 0⟩
    m.i ≤ as.length ∧ m.j ≤ bs.length ∧ m.out.length ≤ n ∧ m.out.length ≤ m.i + m.j) ∧
  (∀ (desc : Bool) (x : Nat × Nat) (l : List (Nat × Nat)),
    l.Pairwise (fun a b => keyBefore desc b.1 a.1 = false) → (keyInsert desc x l).Pairwise (fun a b => keyBefore desc b.1 a.1 = false))

/-- The P and M slots (R222, R255 to R259). PLD loads 128 bytes that the dispatch may address and PST stores into the transmit area, both
swapped in groups of 2^MOD bytes; an access elsewhere aborts. PSEND of a header outside what the dispatch may address aborts with
STAGING_RANGE; one that does not begin a transmit cell, or of an illegal route or length, with ILLEGAL_BRAID; so does a result whose record did not pass. A blocked knot's result goes nowhere and is counted in index 10. PRET keeps the dispatched frame, PACQ and PREL
name a retained frame of the knot, and PREL takes its cells from the dispatch. HGET, HPUT and HUNLK put a request behind the engine's earlier ones. PLDW loads a window
register in wire order. MLD, MST, MLDX and MSTX access the partition, at a multiple of their size below x[RA] + IMM. -/
def Obligations.PacketAndMemory : Prop :=
  (∀ (e : Fin 128) (s t : State) (k : Nat) (w : Word128),
    let g := t.eng e.val
    let c := g.view
    let a := addrOf c w
    let done := fun u => slotDone u e.val k
    let runs := fun (cls : Cls) (op : Nat) => armSlot cls false op e.val .ok s = .go t k w
    let abort := fun cause => abortDispatch t e.val cause 4
    (runs .P 1 → guardOn c w = true → g.stageOk a 128 = false → exec (.pld e .ok) s = .next (abort causeStaging)) ∧
    (runs .P 1 → guardOn c w = true → g.stageOk a 128 = true → exec (.pld e .ok) s = .next (done
      (t.setEng e.val (g.later k 3 (.v w.rd) (ones 1024) (leNat (swapBytes (w.mod % 4) (g.stageRead c a 128))))))) ∧
    (runs .P 2 → inTx a 128 = false → exec (.pst e .ok) s = .next (abort causeStaging)) ∧
    (runs .P 2 → inTx a 128 = true → exec (.pst e .ok) s = .next (done (t.setEng e.val { g with core := { g.core with
      stage := (pstBytes c w).foldl (fun m b => sput m (a + b.1) b.2 0) g.core.stage } }))) ∧
    (runs .P 0x0A → guardOn c w = true → g.stageOk a 768 = false → exec (.pldw e .ok) s = .next (abort causeStaging)) ∧
    (runs .P 0x0A → guardOn c w = true → g.stageOk a 768 = true →
      let v := winFromWire (if w.fmt = 8 then 12 else 24) (g.stageRead c a 768)
      exec (.pldw e .ok) s = .next (done (t.setEng e.val { g.laterCycle k 8 false (.w w.rd) (ones 6144) v with pFree := g.lc + 6 }))) ∧
    (runs .P 5 → guardOn c w = true → g.retainedAt (c.getX w.ra) = none → exec (.pacq e .ok) s = .next (abort causeIllegal)) ∧
    (∀ f, runs .P 5 → guardOn c w = true → g.retainedAt (c.getX w.ra) = some f → exec (.pacq e .ok) s =
      .next (done (t.setEng e.val { g with disp := g.disp.map fun d => { d with acq := d.acq ++ [f.cell] } }))) ∧
    (runs .P 6 → guardOn c w = true → g.retainedAt (c.getX w.ra) = none → exec (.prel e .ok) s = .next (abort causeIllegal)) ∧
    (∀ f d, runs .P 6 → guardOn c w = true → g.retainedAt (c.getX w.ra) = some f → g.disp = some d → d.cell ≠ f.cell →
      exec (.prel e .ok) s = .next (done (t.setEng e.val { g with rx := g.rx.filter fun r => r.cell != f.cell,
                                                                  disp := some { d with acq := d.acq.filter (· != f.cell) } }))) ∧
    (runs .P 7 → guardOn c w = true → holdLimits w.imm (c.getX w.rb) = true → exec (.hget e .ok) s = .next (done
      (issueHold t e.val (if w.m 0 then .getLock else .get) (c.getX w.ra) w.imm (c.getX w.rb) []))) ∧
    (runs .P 7 → guardOn c w = true → holdLimits w.imm (c.getX w.rb) = false → exec (.hget e .ok) s = .next (abort causeStaging)) ∧
    (runs .P 8 → guardOn c w = true → holdLimits w.imm (c.getX w.rb) = true → exec (.hput e .ok) s = .next (done
      (issueHold t e.val (if w.m 0 then .putUnlock else .put) (c.getX w.ra) w.imm (c.getX w.rb) (c.stageGet (c.getX w.rb) w.imm)))) ∧
    (runs .P 8 → guardOn c w = true → holdLimits w.imm (c.getX w.rb) = false → exec (.hput e .ok) s = .next (abort causeStaging)) ∧
    (runs .P 9 → guardOn c w = true → exec (.hunlk e .ok) s = .next (done (issueHold t e.val .unlock (c.getX w.ra) 0 0 [])))) ∧
  (∀ (e : Fin 128) (s t : State) (k : Nat) (w : Word128) (d : Dispatch),
    let g := t.eng e.val
    let c := g.view
    let a := c.getX w.ra
    let h := stageHeader c a
    let x := t.knot d.knot
    let result := w.m 2 = true
    let route := w.mod % 4 ≠ 3
    let fits := a % 256 = 0 ∧ txBase ≤ a ∧ hPlen h ≤ 9216 ∧ a + hLen h ≤ stageEnd
    let place := route ∧ g.stageOk a 28 = true ∧ fits
    let blocked := x.blocked = true ∧ (result ∨ (x.type = 2 ∧ w.mod % 4 = 2))
    let payload := c.stageGet (a + 32) (hPlen h)
    armSlot .P false 3 e.val .ok s = .go t k w → guardOn c w = true → g.disp = some d →
    (¬ route → exec (.psend e .ok) s = .next (abortDispatch t e.val causeIllegal 4)) ∧
    (route → g.stageOk a 28 = false → exec (.psend e .ok) s = .next (abortDispatch t e.val causeStaging 4)) ∧
    (route → g.stageOk a 28 = true → ¬ fits → exec (.psend e .ok) s = .next (abortDispatch t e.val causeIllegal 4)) ∧
    (place → blocked → exec (.psend e .ok) s = .next (slotDone (t.knotCount (e.val / 16) 10) e.val k)) ∧
    (place → ¬ blocked → ¬ result →
      exec (.psend e .ok) s = .next (slotDone (sendFrame t e.val d a (w.mod % 4) false none h payload) e.val k)) ∧
    (place → ¬ blocked → result → recordAt t e.val d.knot (c.getX w.rc) c = none →
      exec (.psend e .ok) s = .next (abortDispatch t e.val causePartition 4)) ∧
    (∀ seg, place → ¬ blocked → result → recordAt t e.val d.knot (c.getX w.rc) c = some (seg, false) →
      exec (.psend e .ok) s = .next (abortDispatch t e.val causeIllegal 4)) ∧
    (∀ seg, place → ¬ blocked → result → recordAt t e.val d.knot (c.getX w.rc) c = some (seg, true) →
      exec (.psend e .ok) s = .next (slotDone (sendFrame t e.val d a (w.mod % 4) true (some seg) h payload) e.val k))) ∧
  (∀ (e : Fin 128) (s t : State) (k : Nat) (w : Word128) (d : Dispatch),
    let g := t.eng e.val
    armSlot .P false 4 e.val .ok s = .go t k w → guardOn g.view w = true → g.disp = some d →
    (d.kind ≠ 0 → exec (.pret e .ok) s = .next (abortDispatch t e.val causeIllegal 4)) ∧
    (d.kind = 0 → exec (.pret e .ok) s = .next (slotDone (t.setEng e.val ({ g with
      rx := g.rx.map fun (f : RxFrame) => if f.cell = d.cell then { f with retained := true } else f }.later k 3 (.x w.rd) (ones 64)
        (d.cell * 256))) e.val k))) ∧
  (∀ (e : Fin 128) (s t : State) (k : Nat) (w : Word128),
    let g := t.eng e.val
    let c := g.view
    let place := fun n => ramAddr (t.partOf e.val g.knotGen.1) (addrOf c w / n * n) n
    let runs := fun (op : Nat) => armSlot .M false op e.val .ok s = .go t k w
    let abort := abortDispatch t e.val causePartition 4
    (runs 1 → guardOn c w = true → place 128 = none → exec (.mld e .ok) s = .next abort) ∧
    (runs 2 → place 128 = none → exec (.mst e .ok) s = .next abort) ∧
    (runs 3 → guardOn c w = true → place 8 = none → exec (.mldx e .ok) s = .next abort) ∧
    (runs 4 → guardOn c w = true → place 8 = none → exec (.mstx e .ok) s = .next abort) ∧
    (∀ b, runs 1 → guardOn c w = true → place 128 = some b → exec (.mld e .ok) s = .next (slotDone
      (t.updEng e.val fun g => g.later k 3 (.v w.rd) (ones 1024) (leNat (c.ramGet b 128))) e.val k)) ∧
    (∀ b, runs 3 → guardOn c w = true → place 8 = some b → exec (.mldx e .ok) s = .next (slotDone
      (t.updEng e.val fun g => g.later k 3 (.x w.rd) (ones 64) (leNat (c.ramGet b 8))) e.val k)) ∧
    (∀ b, runs 4 → guardOn c w = true → place 8 = some b → exec (.mstx e .ok) s = .next (slotDone
      (t.updEng e.val fun g => g.store k ((List.range 8).map fun i => (b + i, BitVec.ofNat 8 (laneOf (c.getX w.rb) 8 i)))) e.val k)) ∧
    (∀ b, runs 2 → place 128 = some b → guardVal c w = none → exec (.mst e .ok) s = .next (slotDone
      (t.updEng e.val fun g => g.store k ((List.range 128).map fun i => (b + i, BitVec.ofNat 8 (laneOf (c.getV w.rb) 8 i)))) e.val k)) ∧
    (∀ b p, runs 2 → place 128 = some b → guardVal c w = some p → exec (.mst e .ok) s = .next (slotDone
      (t.updEng e.val fun g => g.store k (((List.range 128).filter fun i => p.testBit (i / 2)).map fun i =>
        (b + i, BitVec.ofNat 8 (laneOf (c.getV w.rb) 8 i)))) e.val k))) ∧
  (∀ (sw : Nat) (b : Bytes), sw < 4 → b.length = 128 → swapBytes sw (swapBytes sw b) = b)

/-- Segment control records (R271 to R273). A record outside the partition or off its grid aborts. KARR records a sender once: it answers
-3 for a sealed record, -2 for a busy record of another segment, -1 for a sender already there, else the new count, with the record
busy for the segment and the sender's bit set. KCSUM adds a checksum modulo 2^31 - 1. KSEAL of a sealed record answers false; else it
seals with SHORT of senders 0x04, a wrong checksum 0x15 or passes, and answers true only where it passed. KFAIL seals as failed with the
status of IMM; KFREE zeroes the record. -/
def Obligations.SegmentRecords : Prop :=
  (∀ (e : Fin 128) (s t : State) (k : Nat) (w : Word128) (d : Dispatch),
    let g := t.eng e.val
    let c := g.view
    let x := fun n u => slotDone (putC e.val k (.x w.rd) n u) e.val k
    let seg := c.getX w.rb % 2 ^ 32
    armSlot .C false 0x31 e.val .ok s = .go t k w → guardOn c w = true → g.disp = some d →
    (d.kind ≠ 0 → exec (.karr e .ok) s = .next (abortDispatch t e.val causeIllegal 4)) ∧
    (d.kind = 0 → readRec t e.val c (c.getX w.ra) = none → exec (.karr e .ok) s = .next (abortDispatch t e.val causePartition 4)) ∧
    (∀ r, d.kind = 0 → readRec t e.val c (c.getX w.ra) = some r →
      let cell := r.at_ + 16 + d.member / 8
      let old := (sget c.sram cell 0).toNat
      (r.sealed = true → exec (.karr e .ok) s = .next (x (2 ^ 64 - 3) t)) ∧
      (r.sealed = false → r.busy = true → r.seg ≠ seg → exec (.karr e .ok) s = .next (x (2 ^ 64 - 2) t)) ∧
      (r.sealed = false → r.busy = false ∨ r.seg = seg → old.testBit (d.member % 8) = true →
        exec (.karr e .ok) s = .next (x (2 ^ 64 - 1) t)) ∧
      (r.sealed = false → r.busy = false ∨ r.seg = seg → old.testBit (d.member % 8) = false →
        let n := (r.count + 1) % 65536
        let u := (writeRec t e.val { r with busy := true, seg := seg, count := n }).updEng e.val fun g =>
          { g with core := g.core.ramPut cell [BitVec.ofNat 8 (setMaskBit old (d.member % 8) true)] }
        exec (.karr e .ok) s = .next (x n (xchkCopy u e.val d seg))))) ∧
  (∀ (e : Fin 128) (s t : State) (k : Nat) (w : Word128),
    let g := t.eng e.val
    let c := g.view
    let b := c.getX w.rb
    let m := 2 ^ 31 - 1
    let r? := readRec t e.val c (c.getX w.ra)
    let abort := fun cause => abortDispatch t e.val cause 4
    let runs := fun (op : Nat) => armSlot .C false op e.val .ok s = .go t k w ∧ guardOn c w = true
    let knot := t.knot g.knotGen.1
    let p := fun v u => slotDone (putC e.val k (.p w.rd) v u) e.val k
    (runs 0x32 → r? = none → exec (.kcsum e .ok) s = .next (abort causePartition)) ∧
    (∀ r, runs 0x32 → r? = some r → r.csum ≠ m → b < m →
      exec (.kcsum e .ok) s = .next (slotDone (writeRec t e.val { r with csum := (r.csum + b) % m }) e.val k)) ∧
    (∀ r, runs 0x32 → r? = some r → r.csum = m ∨ m ≤ b →
      exec (.kcsum e .ok) s = .next (slotDone (writeRec t e.val { r with csum := m }) e.val k)) ∧
    (runs 0x33 → r? = none → exec (.kseal e .ok) s = .next (abort causePartition)) ∧
    (∀ r, runs 0x33 → r? = some r → r.sealed = true → exec (.kseal e .ok) s = .next (p 0 t)) ∧
    (∀ r, runs 0x33 → r? = some r → r.sealed = false →
      let shut := fun st => writeRec t e.val { r with sealed := true, status := st, passed := decide (st = 0) }
      let fail := fun st => p 0 (segFailed (shut st) e.val g.knotGen.1 g.knotGen.2 r.seg)
      (r.count ≠ knot.expected → exec (.kseal e .ok) s = .next (fail 4)) ∧
      (r.count = knot.expected → r.csum ≠ b % m → exec (.kseal e .ok) s = .next (fail 0x15)) ∧
      (r.count = knot.expected → r.csum = b % m → r.status ≠ 0 → exec (.kseal e .ok) s = .next (fail r.status)) ∧
      (r.count = knot.expected → r.csum = b % m → r.status = 0 →
        let u := (shut 0).knotCount (e.val / 16) 9
        (u.partnerOf e.val g.knotGen.1 g.knotGen.2 (fun y => y.seg == r.seg) = none →
          exec (.kseal e .ok) s = .next (p (2 ^ 64 - 1) u)) ∧
        (∀ q, u.partnerOf e.val g.knotGen.1 g.knotGen.2 (fun y => y.seg == r.seg) = some q →
          exec (.kseal e .ok) s = .next (p (2 ^ 64 - 1) (u.updEng q fun g => { g with xchk := g.xchk.map fun x =>
            { x with csum := some r.csum, sealAt := t.now } }))))) ∧
    (runs 0x34 → w.imm % 256 = 0 ∨ isStatus (w.imm % 256) = false → exec (.kfail e .ok) s = .next (abort causeIllegal)) ∧
    (∀ r, runs 0x34 → w.imm % 256 ≠ 0 → isStatus (w.imm % 256) = true → r? = some r → exec (.kfail e .ok) s = .next (slotDone
      (segFailed (writeRec t e.val { r with sealed := true, passed := false, status := w.imm % 256 }) e.val g.knotGen.1 g.knotGen.2 r.seg)
      e.val k)) ∧
    (runs 0x35 → r? = none → exec (.kfree e .ok) s = .next (abort causePartition)) ∧
    (∀ r, runs 0x35 → r? = some r → exec (.kfree e .ok) s = .next (slotDone
      (t.updEng e.val fun g => { g with core := g.core.ramPut r.at_ (zeros 256) }) e.val k)))

/-- Knot fields, timers and synchronisation (R271, R274, R275). KRD reads a field by the codes 0 to 9 of the table, KWR writes ANCHOR (3) and
USER (9), each other code aborts. KTIMER arms the knot's timer x[RA] ns ahead or cancels it. SANC sets the anchor in force, ASTAT and
RDRES read and clear the flags and the residue accumulator, HSTAT, RDCYC and RDTIME read. -/
def Obligations.KnotFieldsAndSync : Prop :=
  (∀ (e : Fin 128) (s t : State) (k : Nat) (w : Word128),
    let g := t.eng e.val
    let c := g.view
    let kn := g.knotGen.1
    let x := t.knot kn
    let a := c.getX w.ra
    let runs := fun (op : Nat) => armSlot .C false op e.val .ok s = .go t k w ∧ guardOn c w = true
    let put := fun v u => slotDone (putC e.val k (.x w.rd) v u) e.val k
    let abort := abortDispatch t e.val causeIllegal 4
    let fields : List Nat := [x.type, x.expected, x.format, tc 64 x.anchor, x.gen, x.jobTag, if x.native then 1 else 0, x.resultAddr,
      x.serviceAddr, x.get 10 31 0 + 2 ^ 32 * x.get 11 31 0]
    (∀ v, runs 0x36 → fields[w.imm]? = some v → exec (.krd e .ok) s = .next (put v t)) ∧
    (runs 0x36 → 10 ≤ w.imm → exec (.krd e .ok) s = .next abort) ∧
    (runs 0x37 → w.imm = 3 → exec (.kwr e .ok) s = .next (slotDone (t.updKnot kn fun y =>
      y.setWord 1 (BitVec.ofNat 32 (y.get 1 31 16 * 65536 + a % 65536))) e.val k)) ∧
    (runs 0x37 → w.imm = 9 → exec (.kwr e .ok) s = .next (slotDone (t.updKnot kn fun y =>
      (y.setWord 10 (BitVec.ofNat 32 a)).setWord 11 (BitVec.ofNat 32 (a / 2 ^ 32))) e.val k)) ∧
    (runs 0x37 → w.imm ≠ 3 → w.imm ≠ 9 → exec (.kwr e .ok) s = .next abort) ∧
    (runs 0x38 → a = 0 → exec (.ktimer e .ok) s = .next (slotDone (t.updKnot kn fun y => { y with timer := none }) e.val k)) ∧
    (runs 0x38 → a ≠ 0 → exec (.ktimer e .ok) s =
      .next (slotDone (t.updKnot kn fun y => { y with timer := some (t.wraps * 2 ^ 32 + t.now + a) }) e.val k)) ∧
    (runs 0x39 → exec (.sanc e .ok) s =
      .next (slotDone (t.updEng e.val fun g => { g with core := { g.core with anchor := toSigned 16 a } }) e.val k)) ∧
    (runs 0x3A → exec (.astat e .ok) s =
      .next (put c.flags (t.updEng e.val fun g => { g with core := { g.core with flags := 0 } }))) ∧
    (runs 0x3B → exec (.rdres e .ok) s =
      .next (put c.res (t.updEng e.val fun g => { g with core := { g.core with res := 0 } }))) ∧
    (runs 0x3D → exec (.hstat e .ok) s =
      .next (put ((t.hold.ops.filter fun o => o.engine == e.val).length % 256 * 256 + g.holdLast % 256) t)) ∧
    (runs 0x3E → exec (.rdcyc e .ok) s = .next (put ((t.pwr.clk - g.base) % 2 ^ 64) t)) ∧
    (runs 0x3F → exec (.rdtime e .ok) s = .next (put (t.wraps * 2 ^ 32 + t.now) t))) ∧
  (∀ (k : Knot) (v : Nat), k.words.length = 64 → ((k.setWord 1 (BitVec.ofNat 32 (k.get 1 31 16 * 65536 + v % 65536))).anchor =
      toSigned 16 (v % 65536)) ∧ (k.setWord 1 (BitVec.ofNat 32 (k.get 1 31 16 * 65536 + v % 65536))).home = k.home)

/-- Dispatch (R220, R221, R225, R238, R275). A frame for an engine that takes no dispatch is dropped in index 5, one with bad cells in index
2, and one without room waits; else it lies in free contiguous cells at an end of the free cells it takes, and is queued. A READY engine that runs takes a CONTROL dispatch
before a TIMER one before a FRAME one. At END the frame's cells and the locks are released and the engine counts a dispatch. At BUDGET
a dispatch aborts. A knot's timer that is reached queues a TIMER dispatch and is spent. -/
def Obligations.EngineDispatch : Prop :=
  (∀ (e : Fin 128) (bad : Bool) (s : State),
    ((s.eng e.val).rxWait = [] → exec (.engineFrameArrive e bad .ok) s = .next s) ∧
    (∀ id rest, (s.eng e.val).rxWait = id :: rest →
      let pop := s.updEng e.val fun g => { g with rxWait := rest }
      let n := cellsOf (hLen (s.frm id).frame.hdr)
      (s.engTakes e.val = false → exec (.engineFrameArrive e bad .ok) s = .next (discardFrame (pop.engCount e.val 5) id)) ∧
      (s.engTakes e.val = true → exec (.engineFrameArrive e true .ok) s = .next (discardFrame (dropBadStaging pop e.val) id)) ∧
      (s.engTakes e.val = true → (s.eng e.val).rxRoom n = [] → exec (.engineFrameArrive e false .ok) s = .next s) ∧
      (s.engTakes e.val = true → (s.eng e.val).rxRoom n ≠ [] → ∃ c ∈ (s.eng e.val).rxRoom n,
        exec (.engineFrameArrive e false .ok) s = .next (receiveFrame (s.drawFree 9).2 e.val id c)))) ∧
  (∀ (g : Engine) (n c : Nat), 0 < n → c ∈ g.rxRoom n → c + n ≤ 384 ∧
    (∀ f ∈ g.rx, ∀ i, c ≤ i → i < c + n → ¬ (f.cell ≤ i ∧ i < f.cell + f.cells)) ∧
    (c = 0 ∨ g.rxTaken (c - 1) = true ∨ g.rxTaken (c + n) = true)) ∧
  (∀ (e : Fin 128) (bad : Bool) (s : State),
    let g := s.eng e.val
    let may := s.engState e.val = 3 ∧ s.bit (engReg R.ENGINE_STATUS e.val) F.ENGINE_STATUS_GATED = false ∧ g.disp = none ∧
      s.dieHeld (e.val / 16) = false
    (¬ may → exec (.engineDispatch e bad .ok) s = .next s) ∧
    (∀ k op gen rest, may → g.control = (k, op, gen) :: rest → exec (.engineDispatch e bad .ok) s =
      .next (beginControl (s.setEng e.val { g with control := rest }) e.val k op gen)) ∧
    (∀ k rest, may → g.control = [] → g.timer = k :: rest → exec (.engineDispatch e bad .ok) s =
      .next (beginTimer (s.setEng e.val { g with timer := rest }) e.val k)) ∧
    (∀ c rest f, may → g.control = [] → g.timer = [] → g.frameQ = c :: rest → g.rxAt c = some f →
      exec (.engineDispatch e false .ok) s = .next (beginFrame (s.setEng e.val { g with frameQ := rest }) e.val f) ∧
      exec (.engineDispatch e true .ok) s =
        .next ((dropBadStaging (s.setEng e.val { g with frameQ := rest, rx := g.rx.filter fun r => r.cell != c }) e.val).markIdle e.val)) ∧
    (may → g.control = [] → g.timer = [] → g.frameQ = [] → exec (.engineDispatch e bad .ok) s = .next s)) ∧
  (∀ (e : Fin 128) (s : State),
    let g := s.eng e.val
    let budget := s.fld (engReg R.ENGINE_DISPATCH_CTRL e.val) F.ENGINE_DISPATCH_CTRL_BUDGET
    (g.disp = none ∨ g.ended = false → exec (.dispatchEnd e) s = .next s) ∧
    (∀ d, g.disp = some d → g.ended = true → exec (.dispatchEnd e) s =
      .next (afterDispatch ((endHold ((tagDrain s e.val).updEng e.val fun g => (g.freeFrame d).idle) e.val d.serial).engCount e.val 0) e.val)) ∧
    (g.disp.isSome = true → g.ended = false → g.issued = false → g.slot = 0 → budget ≤ g.count → exec (.dispatchBudget e) s =
      .next (abortDispatch s e.val causeBudget 4)) ∧
    (g.disp = none ∨ g.ended = true ∨ g.count < budget → exec (.dispatchBudget e) s = .next s)) ∧
  (∀ (k : Fin 16384) (s : State),
    let x := s.knot k.val
    (x.timer = none → exec (.knotTimerExpire k) s = .next s) ∧
    (∀ t, x.timer = some t → t ≤ s.fab64 → x.state = 1 ∨ x.state = 2 → exec (.knotTimerExpire k) s =
      .next (wakeAsk ((s.setKnot k.val { x with timer := none }).updEng x.home fun g => { g with timer := g.timer ++ [k.val] }) x.home)) ∧
    (∀ t, x.timer = some t → s.fab64 < t ∨ (x.state ≠ 1 ∧ x.state ≠ 2) → exec (.knotTimerExpire k) s = .next s))

/-- Control of an engine (R223, R234 to R237, R241, R242). START is accepted in HALTED; the check compares LIMIT and the CRC-32C of the
instruction memory, and leads to READY, or back to HALTED with its status. HALT is refused while a knot is homed there, stops a READY
engine at once and an ACTIVE one at the end of its dispatch. RESET is refused only in RESET and RETIRED; its end is HALTED. The layout
changes only in HALTED. A READY engine without work for GATE_IDLE cycles gates its clock where GATE_EN is set; one that was asked to wake runs again and
counts a wake. -/
def Obligations.EngineControl : Prop :=
  (∀ (e : Fin 128) (gate : Bool) (s : State),
    let s0 := s.setF (engReg R.ENGINE_CTRL e.val) F.ENGINE_CTRL_GATE_EN (if gate then 1 else 0)
    let no := engEvent s0 e.val F.ENGINE_EVENT_OP_REFUSED
    let st := s0.engState e.val
    (st = 1 → exec (.engineStart e gate) s = .next (s0.setEngState e.val 2)) ∧
    (st ≠ 1 → exec (.engineStart e gate) s = .next no) ∧
    (s0.homed e.val ≠ 0 → exec (.engineHalt e gate) s = .next no) ∧
    (s0.homed e.val = 0 → st = 3 → exec (.engineHalt e gate) s = .next (enterHalted s0 e.val)) ∧
    (s0.homed e.val = 0 → st = 4 → exec (.engineHalt e gate) s = .next (s0.setEngState e.val 5)) ∧
    (s0.homed e.val = 0 → st ≠ 3 → st ≠ 4 → exec (.engineHalt e gate) s = .next no) ∧
    (st = 0 ∨ st = 7 → exec (.engineReset e gate) s = .next no) ∧
    (st ≠ 0 → st ≠ 7 → exec (.engineReset e gate) s = .next (resetEngine s0 e.val))) ∧
  (∀ (e : Fin 128) (s : State),
    let limit := s.fld (engReg R.ENGINE_IMEM_CTRL e.val) F.ENGINE_IMEM_CTRL_LIMIT
    let crc := crc32c (sgets (s.eng e.val).imem 0 (limit * 128) 0)
    let result := fun st => s.setF (engReg R.ENGINE_STATUS e.val) F.ENGINE_STATUS_START_STATUS st
    let done := fun u => engEvent u e.val F.ENGINE_EVENT_START_DONE
    (s.engState e.val ≠ 2 → exec (.engineStartCheckDone e) s = .next s) ∧
    (s.engState e.val = 2 → limit = 0 ∨ 2048 < limit → exec (.engineStartCheckDone e) s =
      .next (done (enterHalted (result 0x10) e.val))) ∧
    (s.engState e.val = 2 → 0 < limit → limit ≤ 2048 → crc ≠ (s.rd (engReg R.ENGINE_IMEM_CRC e.val)).toNat →
      exec (.engineStartCheckDone e) s = .next (done (enterHalted (result 0x15) e.val))) ∧
    (s.engState e.val = 2 → 0 < limit → limit ≤ 2048 → crc = (s.rd (engReg R.ENGINE_IMEM_CRC e.val)).toNat →
      exec (.engineStartCheckDone e) s = .next (done (((result 0).setEngState e.val 3).markIdle e.val)))) ∧
  (∀ (e : Fin 128) (v : Word) (s : State),
    (s.engState e.val = 0 → exec (.engineResetDone e) s = .next (enterHalted s e.val)) ∧
    (s.engState e.val ≠ 0 → exec (.engineResetDone e) s = .next s) ∧
    (s.engState e.val = 1 → exec (.engineLayoutWrite e v) s =
      .next (s.setF (engReg R.ENGINE_PART_CTRL e.val) F.ENGINE_PART_CTRL_LAYOUT (v.toNat % 4))) ∧
    (s.engState e.val ≠ 1 → exec (.engineLayoutWrite e v) s = .next (engEvent s e.val F.ENGINE_EVENT_OP_REFUSED))) ∧
  (∀ (layout n m : Nat) (a b : Nat × Nat), partition layout n = some a → partition layout m = some b →
    a.1 + a.2 ≤ 0x180000 ∧ (n < m → a.1 + a.2 ≤ b.1)) ∧
  (∀ (e : Fin 128) (s : State),
    let status := engReg R.ENGINE_STATUS e.val
    let quiet := s.bit (engReg R.ENGINE_CTRL e.val) F.ENGINE_CTRL_GATE_EN = true ∧ s.engState e.val = 3 ∧ (s.eng e.val).noWork = true ∧
      (s.eng e.val).idleAt + s.fld (engReg R.ENGINE_DISPATCH_CTRL e.val) F.ENGINE_DISPATCH_CTRL_GATE_IDLE ≤ s.pwr.clk
    let woken := s.bit status F.ENGINE_STATUS_GATED = true ∧ (s.eng e.val).waking = true
    (quiet → exec (.engineGate e) s = .next (s.setBit status F.ENGINE_STATUS_GATED)) ∧
    (¬ quiet → exec (.engineGate e) s = .next s) ∧
    (woken → exec (.engineWake e) s = .next (pmc (((s.setF status F.ENGINE_STATUS_GATED 0).updEng e.val fun g =>
      { g with waking := false, idleAt := s.pwr.clk }).engCount e.val 6) e.val 0x18 1)) ∧
    (¬ woken → exec (.engineWake e) s = .next s))

/-- Row operations of the Hold (R326, R327, R329, R330, R335). An outstanding operation waits while its die cannot be reached or an earlier one
of its engine comes first; a lock request against the order or beyond 64 locks ends with 0x10; one on a row another dispatch has
locked, or behind one that waits for it, waits and counts in index 14; another is carried out. A bad key or a length beyond the image gives 0x10, a die that is not ONLINE
0x17; an unlock of a row not held gives 0x10. What is written reads back. A lock now free goes to the first that waits. A
transaction's writes are applied when every operation of its ended dispatch is complete, and are discarded after a failure or the loss of a
die. A scatter's requester is told its outcome where it asked. -/
def Obligations.HoldRows : Prop :=
  (∀ (e : Fin 128) (i : Fin 8) (hw : HoldHw) (s0 : State),
    let s := holdUpset s0 hw
    let mine := s.hold.ops.filter fun o => o.engine == e.val
    (mine[i.val]? = none → exec (.holdOpComplete e i hw) s0 = .next s) ∧
    (∀ o, mine[i.val]? = some o →
      let m := s.holdDie o.key
      let first := (s.holdPath (e.val / 16) m).isSome = true ∧ earlierOp s o = false ∧ o.waited = false
      let refused := o.kind = .getLock ∧ o.granted = false ∧ lockRefused s o = true
      let held := s.lockedByOther o.key e.val o.serial = true ∨ (o.granted = false ∧ waiterAhead s o = true)
      (¬ first → exec (.holdOpComplete e i hw) s0 = .next s) ∧
      (first → refused → exec (.holdOpComplete e i hw) s0 = .next (completeOp s o ⟨0x10, none, s⟩)) ∧
      (first → ¬ refused → held → exec (.holdOpComplete e i hw) s0 = .next
        (let t := s.waitPlace o.ticket
         let s1 := setOp (s.count (R.HOLD_COUNT m 14)) o { o with waited := true, ticket := t }
         { s1 with hold := { s1.hold with ticket := max s1.hold.ticket t } })) ∧
      (first → ¬ refused → ¬ held → exec (.holdOpComplete e i hw) s0 = .next (completeOp s o (rowOp s o (holdMech hw)))))) ∧
  (∀ (o : HoldOp) (mech : Nat) (s : State),
    (s.badKey o.key = true ∨ s.imageBytes (shapeOf o.key) < o.len → (rowOp s o mech).st = 0x10 ∧ (rowOp s o mech).s = s) ∧
    (s.badKey o.key = false → o.len ≤ s.imageBytes (shapeOf o.key) → s.holdOnline (s.holdDie o.key) = false →
      (rowOp s o mech).st = 0x17 ∧ (rowOp s o mech).s = s) ∧
    (s.badKey o.key = false → o.len ≤ s.imageBytes (shapeOf o.key) → s.holdOnline (s.holdDie o.key) = true → o.kind = .unlock →
      (s.locksOf o.engine o.serial).contains o.key = false → (rowOp s o mech).st = 0x10 ∧ (rowOp s o mech).s = s) ∧
    (s.badKey o.key = false → o.len ≤ s.imageBytes (shapeOf o.key) → s.holdOnline (s.holdDie o.key) = true → o.kind = .unlock →
      (s.locksOf o.engine o.serial).contains o.key = true → o.txn = false →
      (rowOp s o mech).st = 0 ∧ (o.key ∈ (rowOp s o mech).s.locksOf o.engine o.serial → False))) ∧
  (∀ (a : Nat) (b : Bytes) (s : State), (s.holdWrite a b).holdRead a b.length = b ∧
    ∀ c n, c + n ≤ a ∨ a + b.length ≤ c → (s.holdWrite a b).holdRead c n = s.holdRead c n) ∧
  (∀ (m : Fin 2) (s : State),
    let ready := fun (o : HoldOp) =>
      o.waited && s.holdDie o.key == 8 + m.val && !s.lockedByOther o.key o.engine o.serial && !waiterAhead s o
    (s.hold.ops.find? ready = none → exec (.holdLockGrant m) s = .next s) ∧
    (∀ o, s.hold.ops.find? ready = some o →
      let lock := o.kind == .getLock && s.dispatchLive o.engine o.serial
      let s1 := setOp s o { o with waited := false, granted := lock }
      exec (.holdLockGrant m) s = .next (if lock then takeLock s1 o.key o.engine o.serial else s1))) ∧
  (∀ (e : Fin 128) (s : State),
    let open_ := s.hold.scatters.find? fun x => x.engine == e.val && x.txn && x.ended && !x.settled
    (open_ = none → exec (.holdTxnCommit e) s = .next s) ∧
    (∀ x, open_ = some x → s.opsOf e.val x.serial = true → exec (.holdTxnCommit e) s = .next s) ∧
    (∀ x, open_ = some x → s.opsOf e.val x.serial = false →
      let mine := s.hold.staged.filter fun w => w.engine == e.val && w.serial == x.serial
      let dies := ((mine.map (·.key) ++ s.locksOf e.val x.serial).map s.holdDie).dedup
      let good := x.bad = 0 ∧ ∀ m ∈ dies, s.holdOnline m = true
      (¬ good → exec (.holdTxnCommit e) s = .next (updScatter (discardStaged s e.val x.serial) e.val x.serial fun y =>
        { y with settled := true, bad := if y.bad = 0 then 0x17 else y.bad })) ∧
      (good →
        let s2 := dies.foldl (fun s m => s.count (R.HOLD_COUNT m 12)) (mine.foldl applyStaged s)
        exec (.holdTxnCommit e) s = .next (updScatter (releaseLocks { s2 with hold := { s2.hold with
          staged := s2.hold.staged.filter fun w => !(w.engine == e.val && w.serial == x.serial) } } e.val x.serial) e.val x.serial fun y =>
            { y with settled := true })))) ∧
  (∀ (e : Fin 128) (s : State),
    let told := s.hold.scatters.find? fun x => x.engine == e.val && x.ended && x.settled && !s.opsOf e.val x.serial
    (told = none → exec (.scatterStatus e) s = .next s) ∧
    (∀ x, told = some x →
      let s1 := { s with hold := { s.hold with scatters := s.hold.scatters.filter (· != x) } }
      (x.wants = false → exec (.scatterStatus e) s = .next s1) ∧
      (x.wants = true → exec (.scatterStatus e) s = .next (sendStatus s1 x.knot x.dest x.tc (s.knot x.knot).gen 0 x.bad x.word3 []))))

/-- Gathers, the patrol and the configuration of the Hold (R315, R316, R322 to R325, R335, R336, R321). An admitted request is served while
fewer than 64 are; its next response waits for a path, for staging, and for rows locked or waited for ahead of it, which count in index 14
once. The patrol reads a
line after the other and counts a pass at the last, unless it is stopped. EN rises only over regions that fit and do not overlap, and the
clear leaves every row of the die absent and the die ONLINE. A configuration register is taken only while EN is 0, of both dies for a
shared one; a refused write sets CONFIG_REFUSED, but one of the locked HOLD_SEED has no effect (R6; DEDUCED, log entry 110). A die
lost reads state 3; a memory link goes down and returns. -/
def Obligations.HoldGathersAndConfig : Prop :=
  (∀ (d : Fin 8) (s : State),
    ((s.die d.val).holdIn = [] ∨ 64 ≤ (s.gathersOf d.val).length → exec (.holdGatherServe d) s = .next s) ∧
    (∀ id rest, (s.die d.val).holdIn = id :: rest → (s.gathersOf d.val).length < 64 →
      let f := (s.frm id).frame
      exec (.holdGatherServe d) s = .next (setGathers (discardFrame (s.updDie d.val fun x => { x with holdIn := rest }) id) d.val
        (s.gathersOf d.val ++ [⟨f.hdr, hKnot f.hdr, gatherKeys f, 0, false, 0, 0⟩])))) ∧
  (∀ (d : Fin 8) (i : Fin 64) (hw : HoldHw) (s0 : State),
    let s := holdUpset s0 hw
    ((s.gathersOf d.val)[i.val]? = none → exec (.holdGatherResponse d i hw) s0 = .next s) ∧
    (∀ g, (s.gathersOf d.val)[i.val]? = some g →
      let sh := shapeOf (g.keys.headD 0)
      let v := 16 + s.valueBytes sh
      let ks := (g.keys.drop g.pos).take (9216 / v)
      let last := g.pos + ks.length == g.keys.length
      let may := (∀ k ∈ ks, (s.holdPath d.val (s.holdDie k)).isSome = true) ∧ s.rspBytes d.val + 36 + ks.length * v ≤ 262144
      (¬ may → exec (.holdGatherResponse d i hw) s0 = .next s) ∧
      let kept := fun k => (s.lockOf k).isSome || s.waitsBefore k (s.waitPlace g.ticket)
      (∀ k, may → ks.find? kept = some k →
        let t := s.waitPlace g.ticket
        let s1 := setGather (if g.waited then s else s.count (R.HOLD_COUNT (s.holdDie k) 14)) d.val g
          { g with waited := true, key := k, ticket := t }
        exec (.holdGatherResponse d i hw) s0 = .next { s1 with hold := { s1.hold with ticket := max s1.hold.ticket t } }) ∧
      (may → ks.find? kept = none →
        let r := ((List.range ks.length).zip ks).foldl (fun (acc : Bytes × State) x =>
          let r := gatherRecord sh (holdMech hw) acc.2 x.2 (g.pos + x.1)
          (acc.1 ++ r.1, r.2)) ([], s)
        let h := mkHeader 1 tGatherRsp (s.fld (R.HOLD_CTRL 8) F.HOLD_CTRL_RSP_TC)
          (s.fld R.YFP_DEV_CTRL F.YFP_DEV_CTRL_ORIGIN_HOP_LIMIT) (hChannel g.hdr) (if last then 8 else 0) (hSrc g.hdr)
          (hDest g.hdr) (hSeq g.hdr) (hGen g.hdr) g.knot (ks.length * v) (hFmt g.hdr) (ks.headD 0 / 2 ^ 32) (ks.headD 0 % 2 ^ 32)
        let a := r.2.addFrm { FrameRec.init with
          frame := mkFrame h r.1, inDie := d.val, origin := .holdRsp, engine := d.val * 16, tc := hTc h, whole := true }
        let s3 := if last then (setGathers a.2 d.val ((a.2.gathersOf d.val).erase g)).count (R.HOLD_COUNT 8 0)
          else setGather a.2 d.val g { g with pos := g.pos + ks.length, waited := false, ticket := 0 }
        exec (.holdGatherResponse d i hw) s0 = .next (originate (s3.count (R.HOLD_COUNT 8 2)) d.val a.1)))) ∧
  (∀ (m : Fin 2) (hw : HoldHw) (s : State),
    (s.fld (R.HOLD_SCRUB_CTRL (8 + m.val)) F.HOLD_SCRUB_CTRL_PASS_H = 0 → exec (.holdScrub m hw) s = .next s) ∧
    (s.fld (R.HOLD_SCRUB_CTRL (8 + m.val)) F.HOLD_SCRUB_CTRL_PASS_H ≠ 0 →
      let l := sget (holdUpset s hw).hold.patrol (8 + m.val) 0
      ∃ t, exec (.holdScrub m hw) s = .next t ∧ sget t.hold.patrol (8 + m.val) 0 = (if l + 1 < 941176470 then l + 1 else 0))) ∧
  (∀ (m : Fin 2) (v : Word) (s : State),
    let d := 8 + m.val
    let tc := F.HOLD_CTRL_RSP_TC.get v
    let en := F.HOLD_CTRL_EN.get v = 1
    let s1 := if tc = s.fld (R.HOLD_CTRL d) F.HOLD_CTRL_RSP_TC then s
      else if s.holdEn 8 || s.holdEn 9 then holdRefused s d else setRspTc s tc
    (en ↔ s.holdEn d = true) → exec (.holdEnable m v) s = .next s1) ∧
  (∀ (m : Fin 2) (v : Word) (s : State),
    let d := 8 + m.val
    let same := F.HOLD_CTRL_RSP_TC.get v = s.fld (R.HOLD_CTRL d) F.HOLD_CTRL_RSP_TC
    (same → F.HOLD_CTRL_EN.get v = 1 → s.holdEn d = false → regionsOk (holdRegions s d) = false →
      exec (.holdEnable m v) s = .next (holdRefused s d)) ∧
    (same → F.HOLD_CTRL_EN.get v = 1 → s.holdEn d = false → regionsOk (holdRegions s d) = true →
      let s2 := (s.setBit (R.HOLD_CTRL d) F.HOLD_CTRL_EN).setF (R.HOLD_STATUS d) F.HOLD_STATUS_STATE 1
      exec (.holdEnable m v) s = .next { s2 with hold := { s2.hold with lost := setMaskBit s2.hold.lost d false } }) ∧
    (same → F.HOLD_CTRL_EN.get v = 0 → s.holdEn d = true →
      exec (.holdEnable m v) s = .next ((s.setF (R.HOLD_CTRL d) F.HOLD_CTRL_EN 0).setF (R.HOLD_STATUS d) F.HOLD_STATUS_STATE 0))) ∧
  (∀ (rs : List (Nat × Nat)), regionsOk rs = true →
    rs.Pairwise (fun a b => ∀ x, ¬ (a.1 ≤ x ∧ x < a.1 + a.2 ∧ b.1 ≤ x ∧ x < b.1 + b.2)) ∧ ∀ r ∈ rs, r.1 + r.2 ≤ holdBytes) ∧
  (∀ (m : Fin 2) (s : State),
    (s.fld (R.HOLD_STATUS (8 + m.val)) F.HOLD_STATUS_STATE ≠ 1 → exec (.holdClearDone m) s = .next s) ∧
    (s.fld (R.HOLD_STATUS (8 + m.val)) F.HOLD_STATUS_STATE = 1 → ∃ t, exec (.holdClearDone m) s = .next t ∧
      (∀ sh < 16, t.rowsUsed (8 + m.val) sh = []) ∧
      ∀ a, holdBase (8 + m.val) ≤ a → a < holdBase (8 + m.val) + 2 ^ s.fld (R.HOLD_INDEX_CTRL (8 + m.val)) F.HOLD_INDEX_CTRL_BUCKETS_LOG2 * 128 →
        sget t.hold.mem a 0 = 0)) ∧
  (∀ (m : Fin 2) (r : HoldReg) (v : BitVec 64) (s : State),
    let enabled := if holdShared r then s.holdEn 8 || s.holdEn 9 else s.holdEn (8 + m.val)
    (enabled = true → r ≠ .seed → exec (.holdConfigWrite m r v) s = .next (holdRefused s (8 + m.val))) ∧
    (enabled = true → r = .seed → exec (.holdConfigWrite m r v) s = .next s) ∧
    (enabled = false → exec (.holdConfigWrite m r v) s = .next (putHoldReg s (8 + m.val) r v.toNat))) ∧
  (∀ (m : Fin 2) (s : State), exec (.holdDieLoss m) s =
    .next (({ s with hold := { s.hold with lost := setMaskBit s.hold.lost (8 + m.val) true } }).setF (R.HOLD_STATUS (8 + m.val))
      F.HOLD_STATUS_STATE 3)) ∧
  (∀ (d : Fin 8) (m : Fin 2) (s : State), ∃ t u, exec (.memoryLinkLoss d m) s = .next t ∧ exec (.memoryLinkReturn d m) s = .next u ∧
    t.regs = s.regs ∧ u.regs = s.regs ∧ t.hold.linkDown.testBit (d.val * 2 + m.val) = true ∧
    u.hold.linkDown.testBit (d.val * 2 + m.val) = false ∧ u.holdPath d.val (8 + m.val) = some d.val ∧
    ∀ i, i ≠ d.val * 2 + m.val → t.hold.linkDown.testBit i = s.hold.linkDown.testBit i ∧
      u.hold.linkDown.testBit i = s.hold.linkDown.testBit i)

/-- Commands of a knot interface and the flush (R281, R284 to R288, R312). A command to a busy interface is not taken. LOAD of a knot that
is neither FREE nor FLUSHED, or an entry that fails a check, ends with that status; else the knot is LOADED under its next generation.
UNLOAD frees a FLUSHED knot, READ shows the entry, SET_ANCHOR changes the anchor of a LOADED knot. FLUSH and ADVANCE start a flush of
a LOADED or ORPHANED knot, a FLUSH joins one in progress. A die's marker counts once no frame of the knot from it is in flight; with
every marker in and the engine done the knot is FLUSHED and each that waited is answered. -/
def Obligations.KnotCommands : Prop :=
  (∀ (i : Fin 8) (k : Fin 16384) (s : State), s.knotBusy i.val = true →
    ∀ c ∈ [Instr.knotLoad i k, .knotCmdFlush i k, .knotUnload i k, .knotRead i k, .knotAdvance i k, .setAnchor i k], exec c s = .next s) ∧
  (∀ (i : Fin 8) (k : Fin 16384) (s0 : State), s0.knotBusy i.val = false →
    let s := s0.setF (R.KNOT_CMD i.val) F.KNOT_CMD_KNOT k.val
    let x := s.knot k.val
    let y := s.knotData i.val
    let end_ := fun (t : State) (st : Nat) => finishKnotCmd t i.val k.val st
    let busy := s.setBit (R.KNOT_CMD_STATUS i.val) F.KNOT_CMD_STATUS_BUSY
    (x.state ≠ 0 → x.state ≠ 3 → exec (.knotLoad i k) s0 = .next (end_ s 0x10)) ∧
    (x.state = 0 ∨ x.state = 3 → loadCheck s k.val y ≠ 0 → exec (.knotLoad i k) s0 = .next (end_ s (loadCheck s k.val y))) ∧
    (x.state = 0 ∨ x.state = 3 → loadCheck s k.val y = 0 → exec (.knotLoad i k) s0 = .next (end_ (enterLoaded s k.val y) 0)) ∧
    (x.state = 3 → exec (.knotUnload i k) s0 = .next (end_ (s.setKnot k.val { Knot.init with gen := x.gen }) 0)) ∧
    (x.state ≠ 3 → exec (.knotUnload i k) s0 = .next (end_ s 0x10)) ∧
    (x.state = 0 → exec (.knotRead i k) s0 = .next (end_ ((List.range 64).foldl (fun s w => s.wr (R.KNOT_DATA i.val w)
      (if w = 0 then BitVec.ofNat 32 (x.gen * 2 ^ 16) else 0)) s) 0)) ∧
    (x.state ≠ 0 → exec (.knotRead i k) s0 =
      .next (end_ ((List.range 64).foldl (fun s w => s.wr (R.KNOT_DATA i.val w) (x.words.getD w 0)) s) 0)) ∧
    (x.state = 1 → exec (.setAnchor i k) s0 =
      .next (end_ (Machine.setAnchor s k.val (s.rd (R.KNOT_DATA i.val 1)).toNat) 0)) ∧
    (x.state ≠ 1 → exec (.setAnchor i k) s0 = .next (end_ s 0x10)) ∧
    (x.state = 1 ∨ x.state = 4 → exec (.knotCmdFlush i k) s0 = .next (startFlush busy k.val ⟨false, i.val, false, true⟩) ∧
      exec (.knotAdvance i k) s0 = .next (startFlush busy k.val ⟨false, i.val, true, true⟩)) ∧
    (x.state = 2 → exec (.knotCmdFlush i k) s0 = .next (joinFlush busy k.val ⟨false, i.val, false, true⟩)) ∧
    (x.state = 3 → exec (.knotCmdFlush i k) s0 = .next (end_ s 0)) ∧
    (x.state = 0 → exec (.knotCmdFlush i k) s0 = .next (end_ s 0x10)) ∧
    (x.state ≠ 1 → x.state ≠ 4 → exec (.knotAdvance i k) s0 = .next (end_ s 0x10))) ∧
  (∀ (k : Nat) (x : Knot) (s : State), (s.knot k).gen < 256 → ∃ y, (enterLoaded s k x).knot k = y ∧ y.state = 1 ∧
    y.gen = ((s.knot k).gen + 1) % 256 ∧ y.flush = none ∧ y.blocked = false) ∧
  (∀ (k : Fin 16384) (d : Fin 8) (s : State),
    let x := s.knot k.val
    (x.state ≠ 2 ∨ s.fromDie k.val d.val = true → exec (.drainMarkerReceive k d) s = .next s) ∧
    (x.state = 2 → s.fromDie k.val d.val = false → exec (.drainMarkerReceive k d) s =
      .next (s.setKnot k.val { x with flush := x.flush.map fun f => { f with markers := setMaskBit f.markers d.val true } }))) ∧
  (∀ (k : Fin 16384) (s : State),
    let x := s.knot k.val
    (x.flush = none ∨ x.state ≠ 2 → exec (.knotFlushDone k) s = .next s) ∧
    (∀ f, x.flush = some f → x.state = 2 → flushReady s k.val x f = false → exec (.knotFlushDone k) s = .next s) ∧
    (∀ f, x.flush = some f → x.state = 2 → flushReady s k.val x f = true →
      let d := x.home / 16
      let s1 := dropArrived (s.setKnot k.val { x with state := 3, timer := none, flush := none }) k.val x.home
      let s2 := (setEvent s1 (52 + d) (R.KNOT_EVENT d) F.KNOT_EVENT_FLUSH_DONE).knotCount d 14
      (f.waits.any (·.advance) = false → exec (.knotFlushDone k) s = .next (f.waits.foldl (answerFlush k.val 0) s2)) ∧
      (f.waits.any (·.advance) = true → exec (.knotFlushDone k) s =
        .next (f.waits.foldl (answerFlush k.val (advanceReload s2 k.val f.prev).1) (advanceReload s2 k.val f.prev).2)))) ∧
  (∀ (k : Nat) (x : Knot) (s : State),
    let p := partition (s.layout x.home) x.part
    (fieldsOk s x = false → loadCheck s k x = 0x10) ∧
    (fieldsOk s x = true → s.engState x.home = 6 ∨ s.engState x.home = 7 → loadCheck s k x = 0x17) ∧
    (fieldsOk s x = true → s.engState x.home ≠ 6 → s.engState x.home ≠ 7 → s.engLive x.home = false ∨ p = none → loadCheck s k x = 0x10) ∧
    (∀ q, fieldsOk s x = true → s.engLive x.home = true → p = some q → q.2 < x.stateBytes ∨ 2 ^ 20 < x.stateBytes → loadCheck s k x = 0x11) ∧
    (∀ q, fieldsOk s x = true → s.engLive x.home = true → p = some q → x.stateBytes ≤ q.2 → x.stateBytes ≤ 2 ^ 20 →
      loadCheck s k x = if s.tagClash k x x.home then 0x10 else 0))

/-- Frames of a knot, broadcasts and cross-checks (R289 to R291, R306, R343 to R345). Admission checks in order: not LOADED counts in index 1,
a reserved in-band operation in 8, another generation in 2, partition or channel in 3, type in 4, sender in 5, format in 6; an operation of the
device runs and counts in 7; every other frame goes to the knot's engine, or to the Hold agent for a gather in hardware, and
counts in 0. The parent of a broadcast hears of it once every copy has gone. A sample's partner adds each copied contribution;
it compares residue, then lanes, and reports a mismatch of either; a sample not finished 50 us after the seal is given up. -/
def Obligations.KnotFramesAndChecks : Prop :=
  (∀ (x : Knot) (f : FrameRec),
    let h := f.frame.hdr
    let c := h.w5.toNat
    let m := memberIndex x f
    let ctrl := hType h = tKnotCtrl
    let own := ctrl ∧ isDeviceOp c = true
    let plain := ¬ ctrl ∨ (isKnotOp c = true ∧ isDeviceOp c = false)
    (x.state ≠ 1 → admitKnot x f = .drop 1) ∧
    (x.state = 1 → ctrl → isKnotOp c = false ∨ (isDeviceOp c = true ∧ fromControl x h = false) → admitKnot x f = .drop 8) ∧
    (x.state = 1 → own → isKnotOp c = true → fromControl x h = true → admitKnot x f = .inband) ∧
    (x.state = 1 → plain → hGen h ≠ x.gen → admitKnot x f = .drop 2) ∧
    (x.state = 1 → plain → hGen h = x.gen → aPart (hSrc h) ≠ x.jobPart ∨ hChannel h ≠ x.channel → admitKnot x f = .drop 3) ∧
    (x.state = 1 → plain → hGen h = x.gen → aPart (hSrc h) = x.jobPart → hChannel h = x.channel →
      (typeAdmitted x h m = false → admitKnot x f = .drop 4) ∧
      (typeAdmitted x h m = true → isSender x h m = false → admitKnot x f = .drop 5) ∧
      (typeAdmitted x h m = true → isSender x h m = true → formatOk x h m = false → admitKnot x f = .drop 6) ∧
      (typeAdmitted x h m = true → isSender x h m = true → formatOk x h m = true → admitKnot x f = .take (m.getD 1086)))) ∧
  (∀ (d : Fin 8) (s : State),
    ((s.die d.val).knotIn = [] → exec (.knotFrameAdmit d) s = .next s) ∧
    (∀ id rest, (s.die d.val).knotIn = id :: rest →
      let f := s.frm id
      let h := f.frame.hdr
      let k := hKnot h
      let x := s.knot k
      let s1 := s.updDie d.val fun y => { y with knotIn := rest }
      let n := fun (t : State) (i : Nat) => t.knotCount (s.knotDie k d.val) i
      (∀ i, admitKnot x f = .drop i → exec (.knotFrameAdmit d) s = .next (discardFrame (n s1 i) id)) ∧
      (admitKnot x f = .inband → exec (.knotFrameAdmit d) s = .next (runInband (discardFrame (n s1 7) id) k h)) ∧
      (∀ m, admitKnot x f = .take m →
        let s2 := ((n s1 0).updKnot k fun y => { y with lastTc := hTc h }).updFrm id fun g => { g with member := m }
        let s3 := s2.updEng x.home fun g => { g with rxWait := g.rxWait ++ [id] }
        (hType h = tGatherReq → x.hwGather = true →
          exec (.knotFrameAdmit d) s = .next (s2.updDie d.val fun y => { y with holdIn := y.holdIn ++ [id] })) ∧
        (hType h ≠ tGatherReq ∨ x.hwGather = false → hType h ≠ tContrib → exec (.knotFrameAdmit d) s = .next s3) ∧
        (hType h = tContrib → exec (.knotFrameAdmit d) s = .next (xchkClaim s3 k x.home h.w5.toNat))))) ∧
  (∀ (k : Fin 16384) (s : State),
    let x := s.knot k.val
    let s1 := s.setKnot k.val { x with bcast := none, missed := 0 }
    (x.bcast = none ∨ s.knotSends k.val = true → exec (.broadcastStatus k) s = .next s) ∧
    (∀ tc w6, x.bcast = some (tc, w6) → s.knotSends k.val = false →
      (x.parentAddr = 0 → exec (.broadcastStatus k) s = .next s1) ∧
      (x.parentAddr ≠ 0 → x.missed = 0 → exec (.broadcastStatus k) s = .next (sendStatus s1 k.val x.parentAddr tc x.gen 0 0 w6 [])) ∧
      (x.parentAddr ≠ 0 → x.missed ≠ 0 → exec (.broadcastStatus k) s =
        .next (sendStatus s1 k.val x.parentAddr tc x.gen 0x10 4 w6 (leBytes x.missed 136))))) ∧
  (∀ (q : Fin 128) (bad : Bool) (s : State),
    ((s.eng q.val).xchk = none → exec (.xchkAdd q bad) s = .next s ∧ exec (.xchkCompare q) s = .next s ∧ exec (.xchkAbandonTimeout q) s = .next s) ∧
    (∀ x, (s.eng q.val).xchk = some x →
      (exec (.xchkAdd q true) s = .next (xchkAbandon (fileEngine s q.val 2 1 0xFF 0 x.knot x.gen [6 * 65536] 6) q.val)) ∧
      (x.queue = [] → exec (.xchkAdd q false) s = .next s) ∧
      (∀ it rest, x.queue = it :: rest →
        let fmt := (s.knot x.knot).format
        let vs := if it.window then wireLanes fmt it.payload else wireQuant fmt it.anchor it.payload
        exec (.xchkAdd q false) s = .next (s.updEng q.val fun g => { g with xchk := some { x with
          queue := rest, lanes := addLanes (winBits fmt) it.first vs x.lanes, extent := max x.extent (it.first + vs.length),
          anchor := it.anchor } })) ∧
      (x.csum = none ∨ x.queue ≠ [] ∨ x.allSent (s.knot x.knot).format = false → exec (.xchkCompare q) s = .next s) ∧
      (∀ csum, x.csum = some csum → x.queue = [] → x.allSent (s.knot x.knot).format = true →
        let fmt := (s.knot x.knot).format
        let s1 := (s.updEng q.val fun g => { g with xchk := none }).updEng x.home fun g =>
          { g with xdone := g.xdone ++ [(x.knot, x.gen, x.seg)] }
        let tell := fun (t : State) => statusToControl t x.knot (s.knot x.knot).lastTc 0x15 x.seg
        let wrong := fileXchk (s1.integCount 8) q.val x.seg 0 q.val x.knot x.gen 0 0
        (checkResidue x ≠ csum % resM → s.holdsResults x.home x.knot x.seg = false → exec (.xchkCompare q) s = .next wrong) ∧
        (checkResidue x ≠ csum % resM → s.holdsResults x.home x.knot x.seg = true →
          exec (.xchkCompare q) s = .next (tell (dropHeld wrong x.home x.knot x.seg))) ∧
        (checkResidue x = csum % resM → x.outs.filterMap (firstDiff fmt x) = [] →
          exec (.xchkCompare q) s = .next (releaseResults (s1.integCount 7) x.home x.knot x.seg)) ∧
        (∀ i more, checkResidue x = csum % resM → x.outs.filterMap (firstDiff fmt x) = i :: more →
          exec (.xchkCompare q) s = .next (dropHeld (setEvent (tell (fileXchk (s1.integCount 9) x.home x.seg i q.val x.knot x.gen 1 0x15)) 51
            R.INTEG_EVENT F.INTEG_EVENT_RESULT_WRONG) x.home x.knot x.seg))) ∧
      (x.csum.isSome = true → s.reached (x.sealAt + 50000) = true → exec (.xchkAbandonTimeout q) s = .next (xchkAbandon s q.val)) ∧
      (x.csum.isSome = false ∨ s.reached (x.sealAt + 50000) = false → exec (.xchkAbandonTimeout q) s = .next s)))

/-- The logbook, classification and the commands on units (R349, R352 to R358). LOGBOOK_WRITE classifies and reports the oldest queued
record, and the management processor, where it runs, writes the oldest laid out. A record that does
not count leaves its unit; one that counts adds an occurrence, below REPEAT like ones nothing else; at REPEAT a GOOD unit turns SUSPECT
(here where no band tells it), a suspect one is RETIRED within its budget and HELD beyond it. A record written reads back from its
logbook slot, one reported from the fallback queue. A unit that is retired reads so. LOG_TIME reads what was written and is valid. QUERY shows
the unit's state; RETIRE retires it; RESTORE makes it GOOD unless it is retired; a unit out of range gives 0x10. A heartbeat, due 60 minutes
of ticks after the last, files a record of class 0xA, its mechanism a free value (log entry 2). -/
def Obligations.LogbookAndUnits : Prop :=
  (∀ s : State, s.integ.queue = [] → s.integ.toBook = [] ∨ s.mgmtRuns = false → exec .logbookWrite s = .next s) ∧
  (∀ (ws : List Nat) (rest : List (List Nat)) (s : State), s.integ.queue = [] → s.integ.toBook = ws :: rest → s.mgmtRuns = true →
    exec .logbookWrite s = .next (writeBook ws 65536 { s with integ := { s.integ with toBook := rest } })) ∧
  (∀ (r : LogRec) (rest : List LogRec) (s : State), s.integ.queue = r :: rest →
    let c := classify { s with integ := { s.integ with queue := rest } } r
    let ws := recWords r (c.2.health r.kind r.die r.unit).state c.1
    exec .logbookWrite s = .next (bookNext (report { c.2 with integ := { c.2.integ with toBook := c.2.integ.toBook ++ [ws] } } ws r.cls))) ∧
  (∀ (r : LogRec) (s : State),
    let h := s.health r.kind r.die r.unit
    let h1 : UnitHealth := { h with
      occ := List.replicate (if r.cls = 4 ∧ r.folded ≠ 0 then r.folded else 1) (r.signature, r.logTime, r.band) ++ h.occ }
    let win := s.fld R.INTEG_CLASS_CTRL F.INTEG_CLASS_CTRL_WINDOW_H
    let hits := h1.occ.filter fun o => o.1 == r.signature && decide (r.logTime ≤ o.2.1 + win * 3600)
    let few := hits.length < s.fld R.INTEG_CLASS_CTRL F.INTEG_CLASS_CTRL_REPEAT
    let s1 := s.setHealth r.kind r.die r.unit h1
    let again : UnitHealth := { h1 with suspicions := min 15 (h.suspicions + 1), occ := [] }
    (r.counts = false → (classify s r).2 = s) ∧
    (r.counts = true → few → classify s r = (min 255 hits.length, s1)) ∧
    (r.counts = true → ¬ few → h.state = 0 → h.passes = [] → (classify s r).2 =
      fileStateChange ((s1.setHealth r.kind r.die r.unit { again with state := 1 }).integCount 13) r.kind r.die r.unit) ∧
    (r.counts = true → ¬ few → h.state = 1 ∨ h.state = 2 → s.bit R.INTEG_CTRL F.INTEG_CTRL_AUTO_RETIRE = true → unitsOfKind r.kind ≠ 0 →
      s.budgetUsed r.kind < s.budget r.kind → (classify s r).2 = retireUnit (s1.setHealth r.kind r.die r.unit again) r.kind r.die r.unit) ∧
    (r.counts = true → ¬ few → h.state = 1 → s.bit R.INTEG_CTRL F.INTEG_CTRL_AUTO_RETIRE = false →
      (classify s r).2 = fileStateChange ((s1.setHealth r.kind r.die r.unit again).setHealth r.kind r.die r.unit { again with state := 4 })
        r.kind r.die r.unit)) ∧
  (∀ (ws : List Nat) (s : State), ws ≠ [] →
    sget (bookRec ws s).integ.book (s.integ.written % 65536) [] = ws ∧ (bookRec ws s).integ.written = s.integ.written + 1) ∧
  (∀ (ws : List Nat) (cls : Nat) (s : State),
    let t := fallback s ws
    report s ws cls = (if cls = 2 ∨ cls = 3 ∨ cls = 7 then raiseIbi (queueNotice t ws cls) 1 else queueNotice t ws cls) ∧
    t.rd R.INTEG_FB_PROD = s.rd R.INTEG_FB_PROD + 1 ∧
    ∀ w : Fin 16, t.rd (R.INTEG_FB_RECORD ((s.rd R.INTEG_FB_PROD).toNat % 64) w.val) = BitVec.ofNat 32 (ws.getD w.val 0)) ∧
  (∀ (k d u : Nat) (s : State), unitInRange k d u = true → (retireUnit s k d u).isRetired k d u = true) ∧
  (∀ s : State,
    (s.pwr.aon < s.integ.heartAt + 90000000000 → exec .logbookHeartbeat s = .next s) ∧
    (s.integ.heartAt + 90000000000 ≤ s.pwr.aon → exec .logbookHeartbeat s =
      .next (fileRec { s with free := s.free + 1, integ := { s.integ with heartAt := s.pwr.aon } }
        (LogRec.of 0xA (Config.freeValue 8 s.free).toNat 0 0 0)))) ∧
  (∀ (v : Word) (s : State), ∃ t, exec (.integLogTimeWrite v) s = .next t ∧ t.logTime = v.toNat ∧
    t.bit R.INTEG_STATUS F.INTEG_STATUS_TIME_VALID = true ∧ t.integ.units = s.integ.units ∧ t.pwr = s.pwr) ∧
  (∀ (v : Word) (s : State),
    let u := unitOf v
    let s1 := s.wr R.INTEG_UNIT_CMD (v &&& 0x0FF0FFFF#32)
    let h := s1.health u.1 u.2.1 u.2.2
    let told := fun (t : State) n => t.setF R.INTEG_UNIT_STATUS F.INTEG_UNIT_STATUS_LAST_STATUS n
    (unitInRange u.1 u.2.1 u.2.2 = false → exec (.unitQuery v) s = .next (told s1 0x10) ∧ exec (.unitRetire v) s = .next (told s1 0x10) ∧
      exec (.unitRestore v) s = .next (told s1 0x10)) ∧
    (unitInRange u.1 u.2.1 u.2.2 = true →
      (∃ t, exec (.unitQuery v) s = .next t ∧ t.fld R.INTEG_UNIT_STATUS F.INTEG_UNIT_STATUS_LAST_STATUS = 0 ∧
        t.fld R.INTEG_UNIT_STATUS F.INTEG_UNIT_STATUS_STATE = h.state % 16 ∧
        t.fld R.INTEG_UNIT_STATUS F.INTEG_UNIT_STATUS_SUSPICIONS = h.suspicions % 16 ∧ t.integ = s.integ) ∧
      (h.state ≠ 3 → exec (.unitRetire v) s = .next (told (retireUnit s1 u.1 u.2.1 u.2.2) 0)) ∧
      (h.state = 3 → exec (.unitRetire v) s = .next (told (fileStateChange s1 u.1 u.2.1 u.2.2) 0) ∧
        exec (.unitRestore v) s = .next (told s1 0x17)) ∧
      (h.state = 0 → exec (.unitRestore v) s = .next (told (fileStateChange s1 u.1 u.2.1 u.2.2) 0)) ∧
      (h.state ≠ 0 → h.state ≠ 3 → s1.bandHeld u.1 u.2.1 u.2.2 = false → exec (.unitRestore v) s =
        .next (told (fileStateChange (s1.setHealth u.1 u.2.1 u.2.2 { UnitHealth.init with passes := h.passes }) u.1 u.2.1 u.2.2) 0))))

/-- Fault notices and the random-operand self-test (R346, R347, R357, R359, R360, R406). The oldest notice leaves where the processor runs, a
key is held and the port is in use; it then waits for its acknowledgement, and is sent again when its resend time has come, up to SENDS
times. A slice runs on two idle engines of a die and is charged to both: equal signatures are a pass of both; where they differ a third
engine, charged too, tells which failed, whose operands are run again, and where it cannot, a record is filed against both. -/
def Obligations.NoticesAndSlices : Prop :=
  (∀ s : State, s.integ.fresh = [] ∨ s.canNotify = false → exec .faultNoticeSend s = .next s) ∧
  (∀ (n : Notice) (rest : List Notice) (s : State), s.integ.fresh = n :: rest → s.canNotify = true →
    let n1 := { n with sends := 1, sentAt := s.pwr.aon }
    ∃ t, exec .faultNoticeSend s = .next t ∧ t.integ.fresh = rest ∧ t.integ.unacked = s.integ.unacked ++ [n1] ∧
      t.out = .datagram s.fmAddr (s.fld R.INTEG_NOTICE_CTRL F.INTEG_NOTICE_CTRL_DEST_PORT) (noticeBytes s n1) :: s.out ∧
      t.regs = (s.integCount 2).regs) ∧
  (∀ (i : Fin 256) (s : State), s.integ.unacked[i.val]? = none ∨ s.canNotify = false → exec (.faultNoticeResend i) s = .next s) ∧
  (∀ (i : Fin 256) (n : Notice) (s : State), s.integ.unacked[i.val]? = some n → s.canNotify = true →
    (s.fld R.INTEG_NOTICE_CTRL F.INTEG_NOTICE_CTRL_SENDS ≤ n.sends ∨ s.pwr.aon < n.sentAt + 250000 * 2 ^ (n.sends - 1) →
      exec (.faultNoticeResend i) s = .next s) ∧
    (n.sends < s.fld R.INTEG_NOTICE_CTRL F.INTEG_NOTICE_CTRL_SENDS → n.sentAt + 250000 * 2 ^ (n.sends - 1) ≤ s.pwr.aon →
      let n1 := { n with sends := n.sends + 1, sentAt := s.pwr.aon }
      ∃ t, exec (.faultNoticeResend i) s = .next t ∧ t.integ.unacked = s.integ.unacked.set i.val n1 ∧ t.integ.fresh = s.integ.fresh ∧
        t.out = .datagram s.fmAddr (s.fld R.INTEG_NOTICE_CTRL F.INTEG_NOTICE_CTRL_DEST_PORT) (noticeBytes s n1) :: s.out)) ∧
  (∀ (e : Fin 128) (ee : Fin 16) (stopped : Bool) (o : SliceObs) (s : State),
    let q := e.val / 16 * 16 + ee.val
    let third := e.val / 16 * 16 + (e.val % 16 ^^^ 4)
    let n := o.took.val
    let runs := q ≠ e.val ∧ s.bit R.INTEG_CTRL F.INTEG_CTRL_ST_EN = true ∧ s.slicable e.val n = true ∧ s.slicable q n = true
    let s1 := noteSlice n (noteSlice n s e.val) q
    let arbiter := third ≠ q ∧ s1.slicable third n = true
    let s2 := noteSlice n s1 third
    let both := fun (t : State) => fileSelfTest (fileSelfTest (t.integCount 12) 7 e.val q o.run.toNat o.vector.toNat 5 1)
      7 q e.val o.run.toNat o.vector.toNat 5 1
    (¬ runs → exec (.selfTestSlice e ee stopped o) s = .next s) ∧
    (runs → exec (.selfTestSlice e ee true o) s = .next s1) ∧
    (runs → o.sig1 = o.sig2 → exec (.selfTestSlice e ee false o) s = .next (notePass (notePass (s1.integCount 11) e.val) q)) ∧
    (runs → o.sig1 ≠ o.sig2 → arbiter → o.sig3 = o.sig2 →
      exec (.selfTestSlice e ee false o) s = .next (failSlice s2 e.val q o o.sig2.toNat)) ∧
    (runs → o.sig1 ≠ o.sig2 → arbiter → o.sig3 = o.sig1 →
      exec (.selfTestSlice e ee false o) s = .next (failSlice s2 q e.val o o.sig1.toNat)) ∧
    (runs → o.sig1 ≠ o.sig2 → arbiter → o.sig3 ≠ o.sig1 → o.sig3 ≠ o.sig2 →
      exec (.selfTestSlice e ee false o) s = .next (both s2)) ∧
    (runs → o.sig1 ≠ o.sig2 → ¬ arbiter → exec (.selfTestSlice e ee false o) s = .next (both s1))) ∧
  (∀ (e took : Nat) (s : State), (noteSlice took s e).lastSlices e = (s.cycle, took) :: s.lastSlices e)

/-- The command ring, its completions and the short commands (R369 to R373, R375 to R378). A ring is sized only while it is not in use, and
putting it to use zeroes its indices. A fetch takes the entry at HEAD: an undefined opcode, in its place among the short commands, and a long
operation that breaks R373 end with 0x10, a PCIe error stops the ring. The oldest completion is written where a slot is free, with PHASE; a write of CPL_RING_HEAD releases
entries. A short command ends with 0x1F where the processor fails, with 0x10 where its entry is not clean, NOP else with 0. INJECT names
its first failing check or its frame enters lookup or a timed queue. SUSPEND waits for the suspend point, RESUME goes on, CANCEL undoes
what is not committed. A long operation that has ended leaves its slot; one that fails
before its commit is undone. An MSI-X vector unmasked sends what is pending. -/
def Obligations.CommandRing : Prop :=
  (∀ (v : Word) (s : State), exec (.cmdRingTailWrite v) s = .next (s.setF R.CMD_RING_TAIL F.CMD_RING_TAIL_INDEX (v.toNat % 4096))) ∧
  (∀ (v : Word) (s : State), ∃ t, exec (.ringEnableWrite false v) s = .next t ∧
    let en := s.bit R.CMD_RING_CTRL F.CMD_RING_CTRL_EN
    let n := F.CMD_RING_CTRL_SIZE_LOG2.get v
    t.bit R.CMD_RING_CTRL F.CMD_RING_CTRL_EN = (F.CMD_RING_CTRL_EN.get v == 1) ∧
    t.fld R.CMD_RING_CTRL F.CMD_RING_CTRL_SIZE_LOG2 =
      (if en = true ∨ n < 4 ∨ 12 < n then s.fld R.CMD_RING_CTRL F.CMD_RING_CTRL_SIZE_LOG2 else n) ∧
    (en = false → F.CMD_RING_CTRL_EN.get v = 1 →
      t.fld R.CMD_RING_HEAD F.CMD_RING_HEAD_INDEX = 0 ∧ t.fld R.CMD_RING_TAIL F.CMD_RING_TAIL_INDEX = 0) ∧ t.host = s.host) ∧
  (∀ (v : Word) (s : State), ∃ t, exec (.ringEnableWrite true v) s = .next t ∧
    let en := s.bit R.CPL_RING_CTRL F.CPL_RING_CTRL_EN
    let n := F.CPL_RING_CTRL_SIZE_LOG2.get v
    t.bit R.CPL_RING_CTRL F.CPL_RING_CTRL_EN = (F.CPL_RING_CTRL_EN.get v == 1) ∧
    t.fld R.CPL_RING_CTRL F.CPL_RING_CTRL_IRQ_THRESH = F.CPL_RING_CTRL_IRQ_THRESH.get v ∧
    t.fld R.CPL_RING_CTRL F.CPL_RING_CTRL_SIZE_LOG2 =
      (if en = true ∨ n < 4 ∨ 12 < n then s.fld R.CPL_RING_CTRL F.CPL_RING_CTRL_SIZE_LOG2 else n) ∧
    (en = false → F.CPL_RING_CTRL_EN.get v = 1 → t.fld R.CPL_RING_HEAD F.CPL_RING_HEAD_INDEX = 0 ∧
      t.fld R.CPL_RING_TAIL F.CPL_RING_TAIL_INDEX = 0 ∧ t.host.cplOut = [] ∧ t.host.cplPhase = true) ∧
    t.host.waiting = s.host.waiting) ∧
  (∀ (err : Bool) (s : State),
    let h := s.fld R.CMD_RING_HEAD F.CMD_RING_HEAD_INDEX % s.cmdSize
    let c : Cmd := ⟨toLeWords 16 (s.hostRead (s.rd64 R.CMD_RING_BASE R.CMD_RING_BASE_HI / 4096 * 4096 + h * 64) 64)⟩
    let s1 := s.setF R.CMD_RING_HEAD F.CMD_RING_HEAD_INDEX ((h + 1) % s.cmdSize)
    let refuse := complete s1 c 0x10 0 0
    (s.canFetch = false → exec (.cmdFetch err) s = .next s) ∧
    (s.canFetch = true → err = true → exec (.cmdFetch err) s =
      .next ((s.setF R.CMD_RING_CTRL F.CMD_RING_CTRL_EN 0).setBit R.CMD_EVENT F.CMD_EVENT_FETCH_ERROR)) ∧
    (s.canFetch = true → err = false → opLong c.op = true →
      c.clean = false ∨ (∃ o ∈ s.host.ops, o.cmd.tag = c.tag ∨ o.cmd.sameTarget c = true ∨ o.cmd.sameDies c = true) →
      exec (.cmdFetch err) s = .next refuse) ∧
    (s.canFetch = true → err = false → opLong c.op = true → c.clean = true →
      (∀ o ∈ s.host.ops, o.cmd.tag ≠ c.tag ∧ o.cmd.sameTarget c = false ∧ o.cmd.sameDies c = false) →
      exec (.cmdFetch err) s = .next (s1.updHost fun x => { x with ops := x.ops ++ [LongOp.fresh c] })) ∧
    (s.canFetch = true → err = false → opLong c.op = false → opDefined c.op = true →
      exec (.cmdFetch err) s = .next (s1.updHost fun x => { x with fetched := x.fetched ++ [c] })) ∧
    (s.canFetch = true → err = false → opDefined c.op = false → opLong c.op = false →
      exec (.cmdFetch err) s = .next (if s.host.fetched = [] then refuse
        else s1.updHost fun x => { x with fetched := x.fetched ++ [c] }))) ∧
  (∀ s : State, s.host.waiting = [] ∨ s.cplFree = 0 → exec .completionWrite s = .next s) ∧
  (∀ (x : Cpl) (rest : List Cpl) (s : State), s.host.waiting = x :: rest → s.cplFree ≠ 0 →
    let i := s.fld R.CPL_RING_TAIL F.CPL_RING_TAIL_INDEX % s.cplSize
    let next := (i + 1) % s.cplSize
    ∃ t, exec .completionWrite s = .next t ∧ t.host.waiting = rest ∧ t.host.cplOut = s.host.cplOut ++ [x.irq] ∧
      t.host.cplPhase = (if next = 0 then !s.host.cplPhase else s.host.cplPhase) ∧
      t.fld R.CPL_RING_TAIL F.CPL_RING_TAIL_INDEX = next % 4096 ∧
      t.mgmt.activateAt = (if x.op = 0x16 then s.pwr.aon + 2500000 else s.mgmt.activateAt) ∧
      (irqPending s 0 = true →
        t.hostRead (s.rd64 R.CPL_RING_BASE R.CPL_RING_BASE_HI / 4096 * 4096 + i * 16) 16 = x.bytes s.host.cplPhase)) ∧
  (∀ (v : Word) (s : State), ∃ t, exec (.cplRingHeadWrite v) s = .next t ∧
    t.fld R.CPL_RING_HEAD F.CPL_RING_HEAD_INDEX = v.toNat % 4096 ∧ t.host.waiting = s.host.waiting ∧
    t.host.cplOut = s.host.cplOut.drop
      ((v.toNat % 4096 % s.cplSize + s.cplSize - s.fld R.CPL_RING_HEAD F.CPL_RING_HEAD_INDEX % s.cplSize) % s.cplSize)) ∧
  (∀ x ∈ ([(1, .cmdNop), (2, .inject), (0x20, .suspend), (0x21, .resume), (0x22, .cancel)] : List (Nat × (Bool → Instr))),
    ∀ (fail : Bool) (s : State),
      (s.host.fetched = [] → exec (x.2 fail) s = .next s) ∧
      (∀ c rest, s.host.fetched = c :: rest →
        (c.op ≠ x.1 → exec (x.2 fail) s = .next s) ∧
        (c.op = x.1 → fail = true → exec (x.2 fail) s = .next (finishShort s c 0x1F)) ∧
        (c.op = x.1 → fail = false → c.clean = false → exec (x.2 fail) s = .next (finishShort s c 0x10)))) ∧
  (∀ (c : Cmd) (st : Nat) (s : State), st ≠ 0x1F → (finishShort s c st).host =
    { s.host with
      fetched := (s.host.fetched.drop 1).dropWhile fun d => !opDefined d.op,
      waiting := s.host.waiting ++ [⟨c.tag, c.op, st, 0, 0, c.irq⟩] ++
        ((s.host.fetched.drop 1).takeWhile fun d => !opDefined d.op).map fun d => ⟨d.tag, d.op, 0x10, 0, 0, d.irq⟩ }) ∧
  (∀ (c : Cmd) (rest : List Cmd) (s : State), s.host.fetched = c :: rest → c.clean = true →
    let d := c.w 5 / 2 ^ 24 % 8
    let p := c.w 5 % 256
    let timed := (c.w 5).testBit 31
    let target := s.op? c.target
    (c.op = 1 → exec (.cmdNop false) s = .next (finishShort s c 0)) ∧
    (c.op = 2 → injectFrame s c = none → exec (.inject false) s = .next (finishShort s c 0x10)) ∧
    (∀ f, c.op = 2 → injectFrame s c = some f →
      (timed = false → exec (.inject false) s = .next (finishShort (injectLookup s d f) c 0)) ∧
      (timed = true → 128 ≤ p ∨ s.portExists d p = false → exec (.inject false) s = .next (finishShort s c 0x10)) ∧
      (timed = true → p < 128 → s.portExists d p = true →
        (s.isRetired 2 d p = true → exec (.inject false) s = .next (finishShort s c 0x17)) ∧
        (s.isRetired 2 d p = false → s.portState d p = 1 → exec (.inject false) s = .next (finishShort s c 0x18)) ∧
        (s.isRetired 2 d p = false → s.portState d p ≠ 1 → 2 ^ 30 ≤ s.ahead (c.w 6) → s.reached (c.w 6) = false →
          exec (.inject false) s = .next (finishShort (s.tqCount d p 3) c 0x10)) ∧
        (s.isRetired 2 d p = false → s.portState d p ≠ 1 → s.ahead (c.w 6) < 2 ^ 30 ∨ s.reached (c.w 6) = true →
          256 ≤ (s.port d p).timed.length → exec (.inject false) s = .next (finishShort s c 0x10)) ∧
        (s.isRetired 2 d p = false → s.portState d p ≠ 1 → s.ahead (c.w 6) < 2 ^ 30 ∨ s.reached (c.w 6) = true →
          (s.port d p).timed.length < 256 → exec (.inject false) s = .next (finishShort (injectTimed s d p (c.w 6) f) c 0)))) ∧
    (target = none →
      (c.op = 0x20 → exec (.suspend false) s = .next (finishShort s c (if s.opDone c.target then 2 else 0x10))) ∧
      (c.op = 0x21 → exec (.resume false) s = .next (finishShort s c 0x10)) ∧
      (c.op = 0x22 → exec (.cancel false) s = .next (finishShort s c (if s.opDone c.target then 2 else 0x10)))) ∧
    (∀ o, target = some o →
      let late := o.ended = true ∨ (s.opCommitted o = true ∧ (o.cmd.op = 0x13 ∨ o.cmd.op = 0x16))
      (c.op = 0x20 → o.paused = true → exec (.suspend false) s = .next (finishShort s c 3)) ∧
      (c.op = 0x20 → o.paused = false → hasSuspend o.cmd.op = false → exec (.suspend false) s = .next (finishShort s c 0x10)) ∧
      (c.op = 0x20 → o.paused = false → hasSuspend o.cmd.op = true → late → exec (.suspend false) s = .next (finishShort s c 2)) ∧
      (c.op = 0x20 → o.paused = false → hasSuspend o.cmd.op = true → ¬ late →
        exec (.suspend false) s = .next (updOp s c.target fun o => { o with asked := true })) ∧
      (c.op = 0x21 → o.paused = true →
        exec (.resume false) s = .next (finishShort (updOp s c.target fun o => { o with paused := false }) c 0)) ∧
      (c.op = 0x21 → o.paused = false → exec (.resume false) s = .next (finishShort s c 0x10)) ∧
      (c.op = 0x22 → o.ended = true → exec (.cancel false) s = .next (finishShort s c 2)) ∧
      (c.op = 0x22 → o.ended = false → s.opCommitted o = true → o.cmd.op ≠ 0x11 →
        exec (.cancel false) s = .next (finishShort s c 2)) ∧
      (c.op = 0x22 → o.ended = false → s.opCommitted o = true → o.cmd.op = 0x11 →
        exec (.cancel false) s = .next (finishShort (updOp s c.target fun o =>
          { o with todo := 0, ended := true, paused := false, items := [] }) c 2)) ∧
      (c.op = 0x22 → o.ended = false → s.opCommitted o = false →
        exec (.cancel false) s = .next (finishShort (endOp (undoOp s o) c.target 1 0 0) c 0)))) ∧
  (∀ (tag : BitVec 16) (internal : Bool) (s : State),
    (s.op? tag.toNat = none → exec (.suspendPointReached tag) s = .next s ∧ exec (.longOpComplete tag internal) s = .next s) ∧
    (∀ o, s.op? tag.toNat = some o →
      (o.asked = false ∨ o.ended = true → exec (.suspendPointReached tag) s = .next s) ∧
      (o.asked = true → o.ended = false → exec (.suspendPointReached tag) s =
        .next (answerSuspend (updOp s tag.toNat fun o => { o with asked := false, paused := true }) tag.toNat 3)) ∧
      (o.ended = false → exec (.longOpComplete tag false) s = .next s) ∧
      (let s0 := if o.ended || s.opCommitted o then s else undoOp s o
       let s1 := s0.updHost fun h => { h with ops := h.ops.filter (fun x => x.cmd.tag != tag.toNat), done := (tag.toNat :: h.done).take 64 }
       let answer := fun (t : State) => if o.asked then answerSuspend t tag.toNat 2 else t
       (o.ended = true → exec (.longOpComplete tag false) s = .next (answer (complete s1 o.cmd o.status o.w2 o.w3))) ∧
       exec (.longOpComplete tag true) s = .next (answer (complete s1 o.cmd 0x1F 0 0))))) ∧
  (∀ (v : Fin 64) (s : State),
    let s1 := s.setF (R.MSIX_CTRL v.val) F.MSIX_CTRL_MASK 0
    (s.bit (R.MSIX_CTRL v.val) F.MSIX_CTRL_MASK = false → exec (.msixUnmask v) s = .next s) ∧
    (s.bit (R.MSIX_CTRL v.val) F.MSIX_CTRL_MASK = true → irqPending s1 v.val = false → exec (.msixUnmask v) s = .next s1) ∧
    (s.bit (R.MSIX_CTRL v.val) F.MSIX_CTRL_MASK = true → irqPending s1 v.val = true → ∃ t, exec (.msixUnmask v) s = .next t ∧
      t.regs = s1.regs ∧ t.out = .msix (s.rd64 (R.MSIX_ADDR v.val) (R.MSIX_ADDR_HI v.val)) (s.rd (R.MSIX_DATA v.val)).toNat :: s.out))

/-- The long operations, stretch by stretch (R84, R160, R285, R331 to R333, R348, R349, R373, R374, R399 to R401). An operation that has ended,
is suspended or stands where it was asked to pause does nothing. TEST_STRIP checks port, retirement and lanes, starts the strips, and
ends with its reports. SELF_TEST runs its READY engines in order. TABLE_SCRUB scrubs ten tables a die. HOLD_LOAD reads its records and
then flips key by key in index order, waiting for a locked one; HOLD_CHECKPOINT writes row by row. KNOT_FLUSH waits for its flush.
FW_UPDATE checks its object, writes the inactive slot in blocks or the record, and then the selector. ATTEST needs the identity, and runs
one at a time. LOGBOOK_READ writes the records it found. -/
def Obligations.LongOperations : Prop :=
  (∀ x ∈ ([(0x10, .testStrip), (0x12, .tableScrub), (0x13, .holdLoad), (0x14, .holdCheckpoint), (0x15, .knotFlush), (0x16, .fwUpdate),
      (0x17, .attest), (0x18, .logbookRead)] : List (Nat × (BitVec 16 → Instr))), ∀ (tag : BitVec 16) (s : State),
    (s.op? tag.toNat = none → exec (x.2 tag) s = .next s) ∧
    (∀ o, s.op? tag.toNat = some o → o.cmd.op ≠ x.1 ∨ o.ended = true ∨ o.paused = true ∨ o.asked = true →
      exec (x.2 tag) s = .next s)) ∧
  (∀ (tag : BitVec 16) (o : LongOp) (s : State), s.op? tag.toNat = some o → o.ended = false → o.paused = false → o.asked = false →
    let T := o.cmd.tag
    let begin_ := updOp s T fun x => { x with begun := true }
    (o.cmd.op = 0x10 →
      let d := o.cmd.w 2 / 2 ^ 24 % 8
      let p := o.cmd.w 2 % 256
      let mask := o.cmd.w 3 % 256
      let ns := (maskBits mask 8).map (p + ·)
      let armed := s.bit (R.LANYARD_TS_CTRL d p) F.LANYARD_TS_CTRL_ARM
      (o.begun = false → p < 128 →
        (s.portExists d p = false ∨ 2 ^ (s.portLanes d p).2 ≤ mask → exec (.testStrip tag) s = .next (endOp s T 0x10 0 0)) ∧
        (s.portExists d p = true → mask < 2 ^ (s.portLanes d p).2 →
          (s.isRetired 2 d p = true ∨ (∃ n ∈ ns, s.isRetired 7 d n = true) → exec (.testStrip tag) s = .next (endOp s T 0x17 0 0)) ∧
          (s.isRetired 2 d p = false → (∀ n ∈ ns, s.isRetired 7 d n = false) →
            ((∃ n ∈ ns, s.testable d n true = false) → exec (.testStrip tag) s = .next (endOp s T 0x10 0 0)) ∧
            ((∀ n ∈ ns, s.testable d n true = true) → exec (.testStrip tag) s = .next (updOp (ns.foldl (fun s n => startStrip s d n) s) T
              fun x => { x with begun := true, items := ns.map fun n => (n, s.laneState d n) }))))) ∧
      (o.begun = false → 129 < p → exec (.testStrip tag) s = .next (endOp s T 0x10 0 0)) ∧
      (o.begun = false → 128 ≤ p → p ≤ 129 → s.isRetired 3 d p = true → exec (.testStrip tag) s = .next (endOp s T 0x17 0 0)) ∧
      (o.begun = false → 128 ≤ p → p ≤ 129 → s.isRetired 3 d p = false → exec (.testStrip tag) s = .next
        (updOp (armStrip d (p - 128) (s.wr (R.LANYARD_TS_START d p) (BitVec.ofNat 32 (o.cmd.w 4)))) T fun x => { x with begun := true })) ∧
      (o.begun = true → p < 128 →
        ((∃ x ∈ o.items, (s.lane d x.1).step ≠ 0) → exec (.testStrip tag) s = .next s) ∧
        ((∀ x ∈ o.items, (s.lane d x.1).step = 0) → exec (.testStrip tag) s = .next (endStrip o d p (o.items.map (·.1)) s))) ∧
      (o.begun = true → 128 ≤ p →
        (armed = true ∨ (s.lan d (p - 128)).strip = true → exec (.testStrip tag) s = .next s) ∧
        (armed = false → (s.lan d (p - 128)).strip = false →
          exec (.testStrip tag) s = .next (endStrip o d p ((List.range 8).map (lanyardLane (p - 128))) s)))) ∧
    (o.cmd.op = 0x12 →
      let ds := maskBits (o.cmd.w 2) 8
      (ds.length ≤ o.pos / 10 → exec (.tableScrub tag) s = .next (endOp s T 0 o.w2 o.w3)) ∧
      (∀ d, ds[o.pos / 10]? = some d →
        let r := scrubTable d (o.pos % 10) s
        let s2 := updOp r.2.2 T fun x => { x with
          begun := true, pos := x.pos + 1, w2 := x.w2 + r.1, w3 := x.w3 + r.2.1, committed := x.committed || r.1 != 0 }
        (o.pos + 1 < ds.length * 10 → exec (.tableScrub tag) s = .next s2) ∧
        (ds.length * 10 ≤ o.pos + 1 → exec (.tableScrub tag) s = .next (endOp s2 T 0 (o.w2 + r.1) (o.w3 + r.2.1))))) ∧
    (o.cmd.op = 0x13 →
      let r := recordAtHost s (o.cmd.w64 2 + o.pos)
      let left := o.cmd.w64 4 - o.pos
      let named := o.cmd.hasDie (s.holdDie r.key) = true ∧ o.cmd.hasShape (shapeOf r.key) = true
      (o.committed = false → s.holdOut o.cmd = true → exec (.holdLoad tag) s = .next (failLoad o 0x17 s)) ∧
      (o.committed = true ∨ s.holdOut o.cmd = false →
        (o.begun = false → exec (.holdLoad tag) s = .next begin_) ∧
        (o.begun = true → o.pos < o.cmd.w64 4 →
          (left < 16 ∨ r.malformed left = true → exec (.holdLoad tag) s = .next (failLoad o 0x10 s)) ∧
          (16 ≤ left → r.malformed left = false → ¬ named → exec (.holdLoad tag) s =
            .next (updOp s T fun x => { x with pos := x.pos + 16 + r.len, w3 := x.w3 + 1 })) ∧
          (16 ≤ left → r.malformed left = false → named → s.badKey r.key = true ∨ s.imageBytes (shapeOf r.key) < r.len →
            exec (.holdLoad tag) s = .next (failLoad o 0x10 s)) ∧
          (16 ≤ left → r.malformed left = false → named → s.badKey r.key = false → r.len ≤ s.imageBytes (shapeOf r.key) →
            exec (.holdLoad tag) s = .next (loadRecord o r (o.cmd.w64 2 + o.pos) s))) ∧
        (o.begun = true → o.cmd.w64 4 ≤ o.pos →
          (firstFlip s o.items = none → exec (.holdLoad tag) s = .next (endOp s T 0 o.w2 o.w3)) ∧
          (∀ x, firstFlip s o.items = some x → (s.lockOf x.1).isSome = true → exec (.holdLoad tag) s = .next s) ∧
          (∀ x, firstFlip s o.items = some x → s.lockOf x.1 = none →
            let rest := o.items.filter fun y => y.1 != x.1
            let s1 := updOp (flipKey s x) T fun y => { y with committed := true, items := rest }
            exec (.holdLoad tag) s = .next (if rest.isEmpty then endOp s1 T 0 o.w2 o.w3 else s1))))) ∧
    (o.cmd.op = 0x14 →
      (s.holdOut o.cmd = true → exec (.holdCheckpoint tag) s = .next (endOp s T 0x17 (o.todo % 2 ^ 32) (o.todo / 2 ^ 32))) ∧
      (s.holdOut o.cmd = false → o.begun = false → exec (.holdCheckpoint tag) s = .next begin_) ∧
      (s.holdOut o.cmd = false → o.begun = true →
        (nextLive s o.cmd o.pos = none →
          exec (.holdCheckpoint tag) s = .next (endOp s T 0 (o.todo % 2 ^ 32) (o.todo / 2 ^ 32))) ∧
        (∀ a, nextLive s o.cmd o.pos = some a →
          let key := (s.entryAt a).key
          ((s.lockOf key).isSome = true → exec (.holdCheckpoint tag) s = .next s) ∧
          (s.lockOf key = none → o.cmd.w64 4 < o.todo + 16 + s.imageBytes (shapeOf key) →
            exec (.holdCheckpoint tag) s = .next (endOp s T 0x16 (o.todo % 2 ^ 32) (o.todo / 2 ^ 32))) ∧
          (s.lockOf key = none → o.todo + 16 + s.imageBytes (shapeOf key) ≤ o.cmd.w64 4 →
            exec (.holdCheckpoint tag) s = .next (checkpointRow o a s))))) ∧
    (o.cmd.op = 0x15 →
      let k := o.cmd.w 2 % 2 ^ 14
      let x := s.knot k
      (o.begun = true → x.state = 2 → exec (.knotFlush tag) s = .next s) ∧
      (o.begun = true → x.state ≠ 2 → exec (.knotFlush tag) s = .next (endOp s T 0 (x.gen % 256) 0)) ∧
      (o.begun = false → x.state = 1 ∨ x.state = 4 → exec (.knotFlush tag) s =
        .next (updOp (startFlush s k ⟨true, 0, false, false⟩) T fun x => { x with begun := true })) ∧
      (o.begun = false → x.state = 2 → exec (.knotFlush tag) s = .next begin_) ∧
      (o.begun = false → x.state = 3 → exec (.knotFlush tag) s = .next (endOp s T 0 (x.gen % 256) 0)) ∧
      (o.begun = false → x.state = 0 → exec (.knotFlush tag) s = .next (endOp s T 0x10 0 0))) ∧
    (o.cmd.op = 0x16 →
      let kind := o.cmd.w 5 % 16
      let b := s.hostRead (o.cmd.w64 2) (min (o.cmd.w 4) (2 ^ 23 + 1))
      (o.begun = false → 2 < kind → exec (.fwUpdate tag) s = .next (endOp s T 0x10 0 0)) ∧
      (o.begun = false → kind ≤ 2 → exec (.fwUpdate tag) s = .next (if updateCheck s kind b = 0 then
        updOp s T fun x => { x with begun := true, data := b } else endOp s T (updateCheck s kind b) 0 0)) ∧
      (∀ (k : Nat) (x : Bytes), objForm x k = false → updateCheck s k x = 0x10) ∧
      (∀ x : Bytes, objForm x 2 = true → s.mgmt.ownRec = [] → updateCheck s 2 x = 0x15) ∧
      (o.begun = true → kind = 0 → o.pos < o.data.length → exec (.fwUpdate tag) s = .next (updateBlock o s)) ∧
      (o.begun = true → kind = 0 → o.data.length ≤ o.pos → exec (.fwUpdate tag) s =
        .next (endUpdate o (if s.slotB then 0 else 1) (s.updFlash fun f => f.putSel (!s.slotB) s.slotB false))) ∧
      (o.begun = true → kind = 1 → exec (.fwUpdate tag) s = .next (endUpdate o 0 (s.updFlash fun f => { f with owner := o.data }))) ∧
      (o.begun = true → kind = 2 → exec (.fwUpdate tag) s = .next (endUpdate o 0 (s.updFlash fun f => { f with config := o.data })))) ∧
    (o.cmd.op = 0x17 →
      let ready := s.attestTurn T = true ∧ s.mgmt.idFailed = false ∧ s.bit R.MGMT_STATUS F.MGMT_STATUS_IDENTITY_OK = true
      (s.attestTurn T = false → exec (.attest tag) s = .next s) ∧
      (s.attestTurn T = true → s.mgmt.idFailed = true → exec (.attest tag) s = .next (endOp s T 0x1F 0 0)) ∧
      (s.attestTurn T = true → s.mgmt.idFailed = false → s.bit R.MGMT_STATUS F.MGMT_STATUS_IDENTITY_OK = false →
        exec (.attest tag) s = .next s) ∧
      (ready → o.begun = false → o.cmd.w 6 < 416 + 7856 + s.mgmt.flash.manuf.cert.length →
        exec (.attest tag) s = .next (endOp s T 0x10 0 0)) ∧
      (ready → o.begun = false → 416 + 7856 + s.mgmt.flash.manuf.cert.length ≤ o.cmd.w 6 →
        let s1 := setMeasure (s.updMgmt fun m => { m with reports := m.reports + 1 }) 4 (engineMeasure s)
        let rep := attestReport s1 (s.hostRead (o.cmd.w64 2) 32)
        exec (.attest tag) s = .next (updOp s1 T fun x => { x with
          begun := true, data := rep ++ padTo 7856 (Config.slhSign s.mgmt.seed rep) ++ s.mgmt.flash.manuf.cert })) ∧
      (ready → o.begun = true → exec (.attest tag) s = .next (endOp (s.hostWrite (o.cmd.w64 4) o.data) T 0 o.data.length 0))) ∧
    (o.cmd.op = 0x18 →
      let n := o.cmd.w 3
      let s1 := s.hostWrite (o.cmd.w64 4 + o.pos) ((o.data.drop o.pos).take 64)
      (o.begun = false → n = 0 ∨ 65536 < n → exec (.logbookRead tag) s = .next (endOp s T 0x10 0 0)) ∧
      (o.begun = false → n ≠ 0 → n ≤ 65536 →
        (s.bookFrom (o.cmd.w 2) n = [] → exec (.logbookRead tag) s =
          .next (endOp { s with free := s.free + 1 } T 0 0 (Config.freeValue 32 s.free).toNat)) ∧
        (∀ ws rest, s.bookFrom (o.cmd.w 2) n = ws :: rest → exec (.logbookRead tag) s =
          .next (updOp s T fun x => { x with begun := true, w3 := ws.getD 1 0, data := (ws :: rest).flatMap leWords }))) ∧
      (o.begun = true → o.data.length ≤ o.pos + 64 → exec (.logbookRead tag) s = .next (endOp s1 T 0 (o.w2 + 1) o.w3)) ∧
      (o.begun = true → o.pos + 64 < o.data.length → exec (.logbookRead tag) s =
        .next (updOp s1 T fun x => { x with pos := x.pos + 64, w2 := x.w2 + 1 })))) ∧
  (∀ (tag : BitVec 16) (obs : RunObs) (s : State),
    (s.op? tag.toNat = none → exec (.selfTest tag obs) s = .next s) ∧
    (∀ o, s.op? tag.toNat = some o → o.cmd.op ≠ 0x11 ∨ o.ended = true ∨ o.paused = true ∨ o.asked = true →
      exec (.selfTest tag obs) s = .next s) ∧
    (∀ o, s.op? tag.toNat = some o → o.cmd.op = 0x11 → o.ended = false → o.paused = false → o.asked = false →
      let T := o.cmd.tag
      let es := maskBits (engineMask o.cmd) 128
      let next := (List.range 128).find? o.todo.testBit
      (o.begun = false → (∃ e ∈ es, s.isRetired 4 (e / 16) (e % 16) = true) → exec (.selfTest tag obs) s = .next (endOp s T 0x17 0 0)) ∧
      (o.begun = false → (∀ e ∈ es, s.isRetired 4 (e / 16) (e % 16) = false) →
        ((∃ e ∈ es, s.engState e ≠ 3 ∨ s.homed e ≠ 0) → exec (.selfTest tag obs) s = .next (endOp s T 0x10 0 0)) ∧
        ((∀ e ∈ es, s.engState e = 3 ∧ s.homed e = 0) → es = [] → exec (.selfTest tag obs) s = .next (endOp s T 0 0 0)) ∧
        ((∀ e ∈ es, s.engState e = 3 ∧ s.homed e = 0) → es ≠ [] → exec (.selfTest tag obs) s =
          .next (updOp s T fun x => { x with begun := true, todo := engineMask o.cmd }))) ∧
      (o.begun = true → next = none → exec (.selfTest tag obs) s = .next (endOp s T 0 o.w2 o.w3)) ∧
      (∀ e, o.begun = true → next = some e → exec (.selfTest tag obs) s = .next (selfTestRun o e obs s)) ∧
      (∀ e, o.begun = true → next = some e → obs.failed = false → (o.cmd.w 6).testBit 0 = true → setMaskBit o.todo e false ≠ 0 →
        exec (.selfTest tag obs) s = .next (updOp s T fun x => { x with
          todo := setMaskBit o.todo e false, w2 := o.w2, w3 := x.w3 + 1, items := o.items ++ [(e, 1)] }))))

/-- BAR2 and the DMA channels (R226, R316, R367, R380 to R387, R433, R434). A BAR2 read returns its bytes from device memory; a write with a
byte that nothing accepts counts once. The channel whose turn it is keeps the engine while it has work, for WEIGHT × 4 KiB and at most 64 KiB
while another has work; then the next with work begins one. A channel in turn fetches the descriptor at HEAD where RUN is 1, it is idle and
HEAD is not TAIL; one it does not own parks it until TAIL is written. A descriptor of length 0 is complete; one that breaks a rule or whose
destination refuses it gives 0x10; else its bytes are moved, swapped in groups, up to an error. Completion, once the data is through,
writes OWN back, appends the record and advances HEAD; a failure is ERROR, STOP or RUN 0 stops the channel. An armed shadow set takes force at a descriptor boundary, and a changed base zeroes the
indices. -/
def Obligations.Bar2AndDma : Prop :=
  (∀ (a : Word) (n : Fin 513) (s : State), ∃ t, exec (.bar2Read a n .ok) s = .next t ∧
    t.out.head? = some (.readBytes (devRead s (s.bar2Addr a.toNat) n.val .ok).1) ∧
    ∀ i, i < n.val → devBad s .ok (s.bar2Addr a.toNat + i) = false →
      (devRead s (s.bar2Addr a.toNat) n.val .ok).1[i]? = some (s.devByte (s.bar2Addr a.toNat + i))) ∧
  (∀ (a : Word) (b : Bytes) (s : State),
    let base := s.bar2Addr a.toNat
    ((∀ i, i < b.length → s.devWritable (base + i) ≠ .refused) → exec (.bar2Write a b) s = .next (devWrite s base b)) ∧
    ((∃ i, i < b.length ∧ s.devWritable (base + i) = .refused) →
      exec (.bar2Write a b) s = .next ((devWrite s base b).countF R.HOST_BAD_ACCESS F.HOST_BAD_ACCESS_BAR2))) ∧
  (∀ (a : Nat) (b : Bytes) (s : State), (∀ i, i < b.length → devPlace (a + i) = .empty) → (devWrite s a b).engines = s.engines ∧
    (devWrite s a b).hold.mem = s.hold.mem) ∧
  (∀ (v : Word) (s : State), ∃ t, exec (.bar2WindowWrite v) s = .next t ∧
    t.fld R.BAR2_WINDOW F.BAR2_WINDOW_BASE = F.BAR2_WINDOW_BASE.get v ∧ t.out = s.out) ∧
  (∀ (c : Fin 32) (v : Word) (s : State), ∃ t, exec (.dmaChTailWrite c v) s = .next t ∧
    t.fld (R.DMA_CH_TAIL c.val) F.DMA_CH_TAIL_INDEX = v.toNat % 2 ^ 16 ∧ (t.ch c.val).parked = false ∧ (t.ch c.val).run = (s.ch c.val).run) ∧
  (∀ (c : Fin 32) (v : Word) (s : State), ∃ t, exec (.dmaRunWrite c v) s = .next t ∧
    let run := F.DMA_CH_CTRL_RUN.get v
    let w := F.DMA_CH_CTRL_WEIGHT.get v
    t.fld (R.DMA_CH_CTRL c.val) F.DMA_CH_CTRL_RUN = run ∧
    t.fld (R.DMA_CH_CTRL c.val) F.DMA_CH_CTRL_IRQ_EN = F.DMA_CH_CTRL_IRQ_EN.get v ∧
    t.fld (R.DMA_CH_CTRL c.val) F.DMA_CH_CTRL_WEIGHT = (if w = 0 then s.fld (R.DMA_CH_CTRL c.val) F.DMA_CH_CTRL_WEIGHT else w) ∧
    (s.dmaState c.val = 4 ∨ s.dmaIdle c.val = false → t.dmaState c.val = s.dmaState c.val) ∧
    (s.dmaState c.val ≠ 4 → s.dmaIdle c.val = true → t.dmaState c.val =
      (if run ≠ 1 then 0 else if s.dmaState c.val = 0 ∨ s.dmaState c.val = 3 then 1 else s.dmaState c.val))) ∧
  (∀ (c : Fin 32) (hw : DevHw) (err : Option Word) (s : State),
    ((∀ held, s.dmaTurnOf ≠ some (c.val, held)) → exec (.dmaDescFetch c hw err) s = .next s) ∧
    (∀ held, s.dmaTurnOf = some (c.val, held) →
      let s1 := s.updHost fun h => { h with dmaTurn := c.val, dmaHeld := held }
      let d := s1.descAt c.val (s1.dmaAt c.val)
      let b := dmaBegin (s.dmaState c.val == 4) (s.fld (R.DMA_CH_STATUS c.val) F.DMA_CH_STATUS_HEAD) d s1
      let s2 := (if s.dmaState c.val = 4 then b.2 else setDmaState b.2 c.val 2).updCh c.val fun x => { x with run := some b.1 }
      (s.dmaIdle c.val = true → d.own = false →
        exec (.dmaDescFetch c hw err) s = .next (s1.updCh c.val fun x => { x with parked := true })) ∧
      (s.dmaIdle c.val = true → d.own = true → b.1.through = true → exec (.dmaDescFetch c hw err) s = .next s2) ∧
      (s.dmaIdle c.val = true → d.own = true → b.1.through = false → exec (.dmaDescFetch c hw err) s =
        .next (dmaMove c.val (min (b.1.len - b.1.written) (s2.dmaLeft c.val s2.host.dmaHeld)) hw err b.1 s2)) ∧
      (∀ r, (s.ch c.val).run = some r → exec (.dmaDescFetch c hw err) s =
        .next (dmaMove c.val (min (r.len - r.written) (s1.dmaLeft c.val held)) hw err r s1)))) ∧
  (∀ s : State,
    let t := s.host.dmaTurn
    let keeps := s.dmaWork t = true ∧ s.dmaLeft t s.host.dmaHeld ≠ 0
    (keeps → s.dmaTurnOf = some (t, s.host.dmaHeld)) ∧
    (∀ i < 32, ¬ keeps → s.dmaWork ((t + 1 + i) % 32) = true → (∀ j < i, s.dmaWork ((t + 1 + j) % 32) = false) →
      s.dmaTurnOf = some ((t + 1 + i) % 32, 0)) ∧
    (¬ keeps → (∀ k < 32, s.dmaWork k = false) → s.dmaTurnOf = none)) ∧
  (∀ (c held : Nat) (s : State),
    s.dmaLeft c held ≤ s.fld (R.DMA_CH_CTRL c) F.DMA_CH_CTRL_WEIGHT * 4096 - held ∧
    (∀ k < 32, k ≠ c → s.dmaWork k = true → s.dmaLeft c held ≤ 65536 - held)) ∧
  (∀ (retired : Bool) (idx : Nat) (d : DmaDesc) (s : State),
    let r : DmaRun := ⟨idx, d.src, d.dst, d.len, d.w5, 0, true, 0⟩
    let n := d.span d.dstFix
    let refused := d.dstDev = true ∧ s.devAny d.dst n dstRefused = true
    (retired = true → dmaBegin retired idx d s = ({ r with status := 0x17 }, s)) ∧
    (retired = false → d.len = 0 → dmaBegin retired idx d s = (r, s)) ∧
    (retired = false → d.len ≠ 0 → d.bad = true → dmaBegin retired idx d s = ({ r with status := 0x10 }, s)) ∧
    (retired = false → d.len ≠ 0 → d.bad = false → refused →
      dmaBegin retired idx d s = ({ r with status := 0x10 }, noteRefused s (s.devRunning d.dst n))) ∧
    (retired = false → d.len ≠ 0 → d.bad = false → ¬ refused → dmaBegin retired idx d s = ({ r with through := false }, s))) ∧
  (∀ (c : Fin 32) (n : Nat) (hw : DevHw) (err : Option Word) (r : DmaRun) (s : State), r.desc.srcDev = false →
    let d := r.desc
    let g := max (swapGroup d.swap) (if d.dstFix then d.width else 1)
    let k := dmaRefused s d r.written n
    let t := dmaMove c.val n hw err r s
    let ends := fun (m st : Nat) => (t.ch c.val).run =
      some { r with written := r.written + min m (n - 1) / g * g, through := true, status := st }
    (d.srcFix = false → k = none → err = none → t =
      ((dmaWrite s d r.written ((swapGroups d.swap (n / swapGroup d.swap) (s.hostRead (d.src + r.written) n)).take n)).updHost
        fun h => { h with dmaHeld := h.dmaHeld + n }).updCh c.val fun x => { x with run :=
            (some { r with written := r.written + n, through := r.written + n == r.len }) }) ∧
    (∀ m : Word, k = none → err = some m → ends m.toNat 0x1F) ∧
    (∀ j, k = some j → err = none → ends j 0x10) ∧
    (∀ (j : Nat) (m : Word), k = some j → err = some m → j ≤ m.toNat → ends j 0x10) ∧
    (∀ (j : Nat) (m : Word), k = some j → err = some m → m.toNat < j → ends m.toNat 0x1F)) ∧
  (∀ (d : DmaDesc) (k n : Nat) (s : State),
    (d.dstDev = false → dmaRefused s d k n = none) ∧
    (d.dstDev = true → d.dstFix = false → ∀ j < n, dstRefused (s.devWritable (d.dst + k + j)) = true →
      (∀ i < j, dstRefused (s.devWritable (d.dst + k + i)) = false) → dmaRefused s d k n = some j)) ∧
  (∀ b : Bytes, swapGroups 0 b.length b = b) ∧
  (∀ a b c d : Byte, swapGroups 1 2 [a, b, c, d] = [b, a, d, c] ∧ swapGroups 2 1 [a, b, c, d] = [c, d, a, b] ∧
    swapGroups 3 1 [a, b, c, d] = [d, c, b, a]) ∧
  (∀ (c : Fin 32) (s : State),
    ((s.ch c.val).run = none → exec (.dmaDescComplete c) s = .next s) ∧
    (∀ r, (s.ch c.val).run = some r →
      (r.through = false ∨ (s.ch c.val).act.cplSize ≤ (s.ch c.val).used → exec (.dmaDescComplete c) s = .next s) ∧
      (r.through = true → (s.ch c.val).used < (s.ch c.val).act.cplSize → ∃ t, exec (.dmaDescComplete c) s = .next t ∧
        (t.ch c.val).run = none ∧ (t.ch c.val).used = (s.ch c.val).used + 1 ∧
        t.fld (R.DMA_CH_STATUS c.val) F.DMA_CH_STATUS_LAST_STATUS = r.status % 2 ^ 8 ∧
        t.fld (R.DMA_CH_STATUS c.val) F.DMA_CH_STATUS_HEAD = (r.idx + 1) % (s.ch c.val).act.ringSize % 2 ^ 16 ∧
        t.dmaState c.val = (if s.dmaState c.val = 4 then 4 else if r.status ≠ 0 then 3 else if r.word5.testBit 21 then 0
          else if s.bit (R.DMA_CH_CTRL c.val) F.DMA_CH_CTRL_RUN then 1 else 0) ∧
        (r.word5.testBit 30 = true → t.bit (R.DMA_CH_STATUS c.val) F.DMA_CH_STATUS_DONE = true)))) ∧
  (∀ (c : Fin 32) (s : State), ∃ t, exec (.dmaShadowArm c) s = .next t ∧
    t.bit (R.DMA_CH_SHADOW_CTRL c.val) F.DMA_CH_SHADOW_CTRL_ARM = true ∧
    t.bit (R.DMA_CH_STATUS c.val) F.DMA_CH_STATUS_SHADOW_PENDING = true ∧ t.host = s.host) ∧
  (∀ (c : Fin 32) (late : Bool) (s : State),
    let armed := s.bit (R.DMA_CH_SHADOW_CTRL c.val) F.DMA_CH_SHADOW_CTRL_ARM
    let n := s.shadowSet c.val
    let old := (s.ch c.val).act
    (armed = false ∨ s.dmaIdle c.val = false → exec (.dmaShadowHandover c late) s = .next s) ∧
    (armed = true → s.dmaIdle c.val = true → ∃ t, exec (.dmaShadowHandover c late) s = .next t ∧ (t.ch c.val).act = n ∧
      t.bit (R.DMA_CH_SHADOW_CTRL c.val) F.DMA_CH_SHADOW_CTRL_ARM = late ∧
      (late = false → t.bit (R.DMA_CH_STATUS c.val) F.DMA_CH_STATUS_SHADOW_PENDING = false) ∧
      (late = true → t.bit (R.DMA_CH_STATUS c.val) F.DMA_CH_STATUS_SHADOW_LATE = true) ∧
      (n.ring ≠ old.ring ∨ n.cpl ≠ old.cpl → t.fld (R.DMA_CH_STATUS c.val) F.DMA_CH_STATUS_HEAD = 0 ∧
        t.fld (R.DMA_CH_TAIL c.val) F.DMA_CH_TAIL_INDEX = 0 ∧ (t.ch c.val).used = 0 ∧ (t.ch c.val).phase = true) ∧
      (n.ring = old.ring → n.cpl = old.cpl → (t.ch c.val).used = (s.ch c.val).used ∧
        t.fld (R.DMA_CH_STATUS c.val) F.DMA_CH_STATUS_HEAD = s.fld (R.DMA_CH_STATUS c.val) F.DMA_CH_STATUS_HEAD)))

/-- The management processor's start (R391 to R401, R405, R406). A released processor starts the active slot, after a watchdog restart the one
that last ran unless it was dropped, where its image verifies, a TRIAL one marked as booted, else the other slot as a fallback, else RECOVERY. Stage 1 takes the records and registers, locks an owned device and
lists the dies to start. BOOT_LOCK is set and stays. The identity is valid where its correction succeeded and its key is the one the
manufacturing record holds; else a record is filed. A TRIAL slot that confirms stays. The restart of an activating update waits for its
completion and 100 ms more. The watchdog counts, files a record and restarts. GO is set by a 1 and in RECOVERY runs a verified image. A key is held once all eight words
are written, and KEY_LOCK keeps it. -/
def Obligations.ProcessorStart : Prop :=
  (∀ s : State, s.pwr.released = false ∨ s.bootStage ≠ 0 → exec .bootRomStart s = .next s) ∧
  (∀ s : State, s.pwr.released = true → s.bootStage = 0 →
    let s1 := (s.setF R.DIE_STATUS F.DIE_STATUS_DIE_UP (setMaskBit (s.fld R.DIE_STATUS F.DIE_STATUS_DIE_UP) 10 true)).updPwr
      fun p => { p with released := false }
    let s2 := dropTrial (s1.updMgmt fun m => { m with fellBack := false, rerun := none })
    let c := s2.mgmt.flash.sel
    let dropped := s.mgmt.flash.sel.confirmed = false ∧ s.mgmt.flash.sel.tried = true
    ∀ b : Bool, (s.mgmt.rerun = none ∨ dropped → b = c.active) → (∀ x, s.mgmt.rerun = some x → ¬ dropped → b = x) →
    let trial := b == c.active && !c.confirmed
    exec .bootRomStart s = .next
      (if s2.mgmt.flash.imageOk (s2.mgmt.flash.slot b) = true then
        bootSlot b trial (if trial then s2.updFlash Flash.markTried else s2)
      else if s2.mgmt.flash.imageOk (s2.mgmt.flash.slot (!b)) = true then bootSlot (!b) false (noteFallback s2)
      else bootFailed s2)) ∧
  (∀ s : State, (s.mgmt.flash.sel.confirmed = true ∨ s.mgmt.flash.sel.tried = false → dropTrial s = s) ∧
    (s.mgmt.flash.sel.confirmed = false → s.mgmt.flash.sel.tried = true →
      (dropTrial s).mgmt.fellBack = true ∧ (dropTrial s).mgmt.flash = s.mgmt.flash.putSel s.mgmt.flash.sel.prev s.mgmt.flash.sel.active true)) ∧
  (∀ (b trial : Bool) (s : State), (bootSlot b trial s).bootStage = 1 ∧ (bootSlot b trial s).slotB = b ∧
    (bootSlot b trial s).bit R.MGMT_STATUS F.MGMT_STATUS_TRIAL = trial ∧
    (bootSlot b trial s).rd R.MGMT_FW_VERSION = BitVec.ofNat 32 (objWord (s.mgmt.flash.slot b) 8)) ∧
  (∀ s : State, (bootFailed s).bootStage = 3 ∧ (3 ≤ s.pwr.level → (bootFailed s).pwr.level = 0)) ∧
  (∀ s : State, s.bootStage ≠ 1 → exec .stage1Done s = .next s) ∧
  (∀ s : State, s.bootStage = 1 → ∃ t, exec .stage1Done s = .next t ∧ t.bootStage = 2 ∧ t.mgmt.ownRec = s.mgmt.flash.accepted ∧
    t.mgmt.cfgRec = s.mgmt.flash.config? ∧ t.bit R.MGMT_STATUS F.MGMT_STATUS_OWNED = !s.mgmt.flash.accepted.isEmpty ∧
    t.bit R.MGMT_STATUS F.MGMT_STATUS_BOOT_LOCKED = (s.bit R.MGMT_STATUS F.MGMT_STATUS_BOOT_LOCKED || !s.mgmt.flash.accepted.isEmpty) ∧
    (s.pState < 2 → s.pTarget = 15 → t.pwr.stagger = s.downList)) ∧
  (∀ (v : Word) (s : State), (F.MGMT_BOOT_CTRL_BOOT_LOCK.get v ≠ 1 → exec (.bootLockWrite v) s = .next s) ∧
    (F.MGMT_BOOT_CTRL_BOOT_LOCK.get v = 1 → ∃ t, exec (.bootLockWrite v) s = .next t ∧
      t.bit R.MGMT_BOOT_CTRL F.MGMT_BOOT_CTRL_BOOT_LOCK = true ∧ t.bit R.MGMT_STATUS F.MGMT_STATUS_BOOT_LOCKED = true)) ∧
  (∀ (seed : BitVec 256) (ok : Bool) (s : State),
    let pub := Config.identityKey (beBytes seed.toNat 32)
    let valid := s.mgmt.flash.manuf.good && sha256 pub == s.mgmt.flash.manuf.pubHash
    (s.bootStage ≠ 2 ∨ s.bit R.MGMT_STATUS F.MGMT_STATUS_IDENTITY_OK = true → exec (.identityReady seed ok) s = .next s) ∧
    (s.bootStage = 2 → s.bit R.MGMT_STATUS F.MGMT_STATUS_IDENTITY_OK = false → ∃ t, exec (.identityReady seed ok) s = .next t ∧
      t.bit R.MGMT_STATUS F.MGMT_STATUS_IDENTITY_OK = (ok && valid) ∧ t.mgmt.idFailed = !(ok && valid) ∧
      t.mgmt.pub = (if ok && valid then pub else s.mgmt.pub) ∧ t.mgmt.flash = s.mgmt.flash)) ∧
  (∀ s : State,
    (s.bootStage ≠ 2 ∨ s.bit R.MGMT_STATUS F.MGMT_STATUS_TRIAL = false → exec .fwConfirm s = .next s) ∧
    (s.bootStage = 2 → s.bit R.MGMT_STATUS F.MGMT_STATUS_TRIAL = true → ∃ t, exec .fwConfirm s = .next t ∧
      t.bit R.MGMT_STATUS F.MGMT_STATUS_TRIAL = false ∧ t.bit R.MGMT_EVENT F.MGMT_EVENT_FW_CONFIRMED = true ∧
      t.mgmt.flash = s.mgmt.flash.putSel s.mgmt.flash.sel.active s.mgmt.flash.sel.prev true)) ∧
  (∀ s : State,
    let waits := (∃ o ∈ s.host.ops, o.cmd.op = 0x16) ∨ (∃ c ∈ s.host.waiting, c.op = 0x16)
    (s.mgmt.activate = false ∨ s.pwr.aon < s.mgmt.activateAt ∨ waits → exec .fwActivateRestart s = .next s) ∧
    (s.mgmt.activate = true → s.mgmt.activateAt ≤ s.pwr.aon → ¬ waits → exec .fwActivateRestart s = .next (restartMgmt s))) ∧
  (∀ s : State, (s.ioUp = false → exec .mgmtWatchdog s = .next s) ∧
    (s.ioUp = true → exec .mgmtWatchdog s = .next ((restartMgmt (mgmtEvent
      ((fileRec s (LogRec.of 2 0xC 0xD 10 0)).countF R.MGMT_STATUS F.MGMT_STATUS_WD_RESTARTS) F.MGMT_EVENT_WD_RESTART)).updMgmt
        fun m => { m with rerun := some s.slotB }))) ∧
  (∀ s : State, (restartMgmt s).bootStage = 0 ∧ (restartMgmt s).bit R.MGMT_STATUS F.MGMT_STATUS_IDENTITY_OK = false ∧
    (restartMgmt s).bit R.MGMT_STATUS F.MGMT_STATUS_BOOT_LOCKED = false ∧ (restartMgmt s).pwr.released = true) ∧
  (∀ (v : Word) (s : State),
    let n := F.MGMT_RECOVERY_CTRL_LENGTH.get v
    let s0 := s.setF R.MGMT_RECOVERY_CTRL F.MGMT_RECOVERY_CTRL_LENGTH n
    let s1 := if F.MGMT_RECOVERY_CTRL_GO.get v = 1 then s0.setBit R.MGMT_RECOVERY_CTRL F.MGMT_RECOVERY_CTRL_GO else s0
    let b := s.hostRead (s.rd64 R.MGMT_RECOVERY R.MGMT_RECOVERY_HI) n
    (F.MGMT_RECOVERY_CTRL_GO.get v ≠ 1 ∨ s.bootStage ≠ 3 → exec (.recoveryGo v) s = .next s1) ∧
    (F.MGMT_RECOVERY_CTRL_GO.get v = 1 → s.bootStage = 3 → exec (.recoveryGo v) s = .next (if s.mgmt.flash.imageOk b = true then
      startImage b (noteFallback (measureSelector (s1.setF R.MGMT_STATUS F.MGMT_STATUS_TRIAL 0))) else s1))) ∧
  (∀ (w : Fin 8) (v : Word) (s : State),
    (s.bit R.MGMT_KEY_CTRL F.MGMT_KEY_CTRL_KEY_LOCK = true → exec (.sessionKeyWrite w v) s = .next s) ∧
    (s.bit R.MGMT_KEY_CTRL F.MGMT_KEY_CTRL_KEY_LOCK = false → s.mgmt.key.length = 32 → ∃ t, exec (.sessionKeyWrite w v) s = .next t ∧
      t.mgmt.key.length = 32 ∧ (t.mgmt.key.drop (4 * w.val)).take 4 = leBytes v.toNat 4 ∧
      (∀ x : Fin 8, x ≠ w → (t.mgmt.key.drop (4 * x.val)).take 4 = (s.mgmt.key.drop (4 * x.val)).take 4) ∧
      (setMaskBit s.mgmt.keyGot w.val true = 255 → t.bit R.MGMT_KEY_CTRL F.MGMT_KEY_CTRL_KEY_SET = true)))

/-- The management port (R402 to R406, R397). A frame reaches a port that is up; one with another tag or beyond 1,518 bytes, or for another
address or port, is dropped in index 5; ARP, neighbour solicitation and echo are answered; a request of the right form is queued up to 256.
A request is dropped by its first failing check: HMAC, replay window, device tag; an accepted one is answered under the key it came under,
an unknown type with BAD_ARGUMENT. ECHO returns its body, NOTICE_ACK ends resends, REG_READ and REG_WRITE access registers, the second
inside its windows alone, LOGBOOK_READ returns records, KEY_ROTATE changes the key. A wake datagram wakes the device in P3. -/
def Obligations.ManagementPort : Prop :=
  (∀ (f : MgmtFrame) (s : State),
    let drop := mgmtCount s 5
    let fits := s.tagOk f.vlan = true ∧ f.len.toNat ≤ 1518
    (s.netUp = false → exec (.mgmtFrameReceive f) s = .next s) ∧
    (s.netUp = true → ¬ fits → exec (.mgmtFrameReceive f) s = .next drop) ∧
    (s.netUp = true → fits →
      (∀ x a, f.content = .arp x a → (s.forUs false x.toNat = true →
          exec (.mgmtFrameReceive f) s = .next (s.emit (.netReply 0 a.toNat s.macBytes))) ∧
        (s.forUs false x.toNat = false → exec (.mgmtFrameReceive f) s = .next drop)) ∧
      (∀ x a, f.content = .neighbour x a → (s.forUs true x.toNat = true →
          exec (.mgmtFrameReceive f) s = .next (s.emit (.netReply 1 a.toNat s.macBytes))) ∧
        (s.forUs true x.toNat = false → exec (.mgmtFrameReceive f) s = .next drop)) ∧
      (∀ v6 dst src b, f.content = .echo v6 dst src b → (s.forUs v6 dst.toNat = true →
          exec (.mgmtFrameReceive f) s = .next (s.emit (.netReply 2 src.toNat b))) ∧
        (s.forUs v6 dst.toNat = false → exec (.mgmtFrameReceive f) s = .next drop)) ∧
      (f.content = .other → exec (.mgmtFrameReceive f) s = .next drop) ∧
      (∀ v6 dst src dport sport b, f.content = .udp v6 dst src dport sport b →
        (s.forUs v6 dst.toNat = false → exec (.mgmtFrameReceive f) s = .next drop) ∧
        (s.forUs v6 dst.toNat = true → dport.toNat = s.fld R.MGMT_PORTS F.MGMT_PORTS_REQ_PORT →
          (msgForm b = false → exec (.mgmtFrameReceive f) s = .next drop) ∧
          (msgForm b = true → 256 ≤ s.mgmt.reqs.length → exec (.mgmtFrameReceive f) s = .next (mgmtCount s 4)) ∧
          (msgForm b = true → s.mgmt.reqs.length < 256 → exec (.mgmtFrameReceive f) s =
            .next (s.updMgmt fun m => { m with reqs := m.reqs ++ [⟨src.toNat, sport.toNat, b⟩] }))) ∧
        (s.forUs v6 dst.toNat = true → dport.toNat ≠ s.fld R.MGMT_PORTS F.MGMT_PORTS_REQ_PORT →
          dport.toNat = s.fld R.MGMT_PORTS F.MGMT_PORTS_WAKE_PORT → exec (.mgmtFrameReceive f) s = .next s) ∧
        (s.forUs v6 dst.toNat = true → dport.toNat ≠ s.fld R.MGMT_PORTS F.MGMT_PORTS_REQ_PORT →
          dport.toNat ≠ s.fld R.MGMT_PORTS F.MGMT_PORTS_WAKE_PORT → exec (.mgmtFrameReceive f) s = .next drop)))) ∧
  (∀ (up : Bool) (s : State),
    (s.pState = 3 ∨ s.bit R.MGMT_STATUS F.MGMT_STATUS_LINK_UP = up → exec (.mgmtLinkChange up) s = .next s) ∧
    (s.pState ≠ 3 → s.bit R.MGMT_STATUS F.MGMT_STATUS_LINK_UP ≠ up → ∃ t, exec (.mgmtLinkChange up) s = .next t ∧
      t.bit R.MGMT_STATUS F.MGMT_STATUS_LINK_UP = up ∧ t.bit R.MGMT_EVENT F.MGMT_EVENT_LINK_CHANGE = true)) ∧
  (∀ (r : MgmtReq) (s : State),
    (s.hmacOk r.raw r.bodyLen = false → s.dropIndex r = some 1) ∧
    (s.hmacOk r.raw r.bodyLen = true → r.seq ∈ s.mgmt.seen ∨ r.seq + 65 ≤ s.mgmt.high → s.dropIndex r = some 2) ∧
    (s.hmacOk r.raw r.bodyLen = true → r.seq ∉ s.mgmt.seen → s.mgmt.high < r.seq + 65 → r.tag ≠ s.deviceTag → r.tag ≠ zeros 4 →
      s.dropIndex r = some 3) ∧
    (s.hmacOk r.raw r.bodyLen = true → r.seq ∉ s.mgmt.seen → s.mgmt.high < r.seq + 65 → r.tag = s.deviceTag ∨ r.tag = zeros 4 →
      s.dropIndex r = none) ∧
    (acceptReq r s).mgmt.high = max s.mgmt.high (r.seq + 1)) ∧
  (∀ x ∈ ([(1, .echo), (2, .noticeAck), (3, .regRead), (4, .regWrite), (5, .mgmtLogbookRead), (6, .keyRotate)] : List (Nat × Instr)),
    ∀ s : State,
      (s.bootStage ≠ 2 ∨ s.mgmt.reqs = [] → exec x.2 s = .next s) ∧
      (∀ r, s.bootStage = 2 → s.mgmt.reqs = [r] →
        (∀ i, s.dropIndex r = some i → exec x.2 s = .next ((dropReq i s).updMgmt fun m => { m with reqs := [] })) ∧
        (s.dropIndex r = none → r.typ = 0 ∨ 6 < r.typ →
          exec x.2 s = .next ((respond r s.mgmt.key 0x10 [] (acceptReq r s)).updMgmt fun m => { m with reqs := [] }))) ∧
      (∀ r rest, s.bootStage = 2 → s.mgmt.reqs = r :: rest → s.dropIndex r = none → r.typ ≠ 0 → r.typ ≤ 6 → r.typ ≠ x.1 →
        exec x.2 s = .next s)) ∧
  (∀ (r : MgmtReq) (rest : List MgmtReq) (s : State), s.bootStage = 2 → s.mgmt.reqs = r :: rest → s.dropIndex r = none →
    let a := acceptReq r (s.updMgmt fun m => { m with reqs := rest })
    let say : Nat → Bytes → State → Host.Outcome State Fault Refusal := fun st b t => .next (respond r s.mgmt.key st b t)
    let n := r.bodyLen
    let pairs := (List.range (n / 8)).map fun i => (r.w (2 * i), r.w (2 * i + 1))
    (r.typ = 1 → exec .echo s = say 0 r.body a) ∧
    (r.typ = 2 → n = 0 ∨ 256 < n ∨ n % 4 ≠ 0 → exec .noticeAck s = say 0x10 [] a) ∧
    (r.typ = 2 → n ≠ 0 → n ≤ 256 → n % 4 = 0 →
      exec .noticeAck s = say 0 [] ((List.range (n / 4)).foldl (fun t i => ackNotice (r.w i) t) a)) ∧
    (r.typ = 3 → n ≠ 8 ∨ r.w 1 = 0 ∨ 64 < r.w 1 → exec .regRead s = say 0x10 [] a) ∧
    (r.typ = 3 → n = 8 → r.w 1 ≠ 0 → r.w 1 ≤ 64 →
      exec .regRead s = say 0 (readRegs (r.w 0) (r.w 1) [] a).1 (readRegs (r.w 0) (r.w 1) [] a).2) ∧
    (r.typ = 4 → n = 0 ∨ 512 < n ∨ n % 8 ≠ 0 ∨ (∃ p ∈ pairs, a.inWindow p.1 = false) → exec .regWrite s = say 0x10 [] a) ∧
    (r.typ = 4 → n ≠ 0 → n ≤ 512 → n % 8 = 0 → (∀ p ∈ pairs, a.inWindow p.1 = true) →
      exec .regWrite s = say 0 [] (pairs.foldl (fun t p => wordWrite p.1 (BitVec.ofNat 32 p.2) t) a)) ∧
    (r.typ = 5 → n ≠ 8 ∨ r.w 1 = 0 ∨ 16 < r.w 1 → exec .mgmtLogbookRead s = say 0x10 [] a) ∧
    (r.typ = 5 → n = 8 → r.w 1 ≠ 0 → r.w 1 ≤ 16 → exec .mgmtLogbookRead s = say 0 ((a.bookFrom (r.w 0) (r.w 1)).flatMap leWords) a) ∧
    (r.typ = 6 → n ≠ 32 → exec .keyRotate s = say 0x10 [] a) ∧
    (r.typ = 6 → n = 32 →
      exec .keyRotate s = say 0 [] (mgmtEvent (a.updMgmt fun m => { m with key := r.body }) F.MGMT_EVENT_KEY_ROTATED))) ∧
  (∀ (b : Bytes) (s : State),
    let wakes := (s.pState = 3 ∨ s.pTarget = 3) ∧ s.bit R.WAKE_EN F.WAKE_EN_MGMT = true ∧ s.wakeOk b = true
    (¬ wakes → exec (.wakeDatagram b) s = .next s) ∧
    (wakes → exec (.wakeDatagram b) s =
      .next (wakeSource 1 ((mgmtCount s 7).updMgmt fun m => { m with wakeCount := beNat ((b.drop 20).take 4) + 1 }))))

/-- The I3C target (R407, R408). Without VAUX it is silent. ENTDAA: a target without an address sends its identity and takes the address where
no other identity is lower. RSTDAA clears the address, SETNEWDA replaces it. A command code sent to its address is answered: GETPID,
GETBCR, GETDCR, GETMWL, GETMRL with one byte of interrupt payload, GETSTATUS with two bytes that are a free value (log entry 2), a
private read with the head of the status block. SETMWL, SETMRL, ENEC, DISEC and RSTACT may come as broadcast. A private write of 0xA5
alone wakes the device where it may. -/
def Obligations.I3cTarget : Prop :=
  (∀ (a : BitVec 7) (others : List (BitVec 48)) (s : State),
    let plays := s.pwr.vaux = true ∧ s.bit R.I3C_STATUS F.I3C_STATUS_ADDR_VALID = false ∧ ∀ x ∈ others, s.pid ≤ x.toNat
    (¬ plays → exec (.entdaa a others) s = .next s) ∧
    (plays → ∃ t, exec (.entdaa a others) s = .next t ∧ t.fld R.I3C_STATUS F.I3C_STATUS_DYN_ADDR = a.toNat ∧
      t.bit R.I3C_STATUS F.I3C_STATUS_ADDR_VALID = true ∧ t.out = .i3c (beBytes s.pid 6 ++ [i3cBcr, i3cDcr]) :: s.out)) ∧
  (∀ s : State,
    (s.pwr.vaux = false → exec .rstdaa s = .next s) ∧
    (s.pwr.vaux = true → ∃ t, exec .rstdaa s = .next t ∧ t.fld R.I3C_STATUS F.I3C_STATUS_DYN_ADDR = 0 ∧
      t.bit R.I3C_STATUS F.I3C_STATUS_ADDR_VALID = false)) ∧
  (∀ (a : BitVec 7) (n : Fin 17) (b : Bytes) (s : State), s.pwr.vaux = false ∨ s.bit R.I3C_STATUS F.I3C_STATUS_ADDR_VALID = false →
    exec (.setnewda a) s = .next s ∧ exec .getpid s = .next s ∧ exec .getbcr s = .next s ∧ exec .getdcr s = .next s ∧
    exec .getmwl s = .next s ∧ exec .getmrl s = .next s ∧ exec (.i3cPrivateRead n) s = .next s ∧ exec (.i3cPrivateWrite b) s = .next s ∧
    exec .getstatus s = .next { s with free := s.free + 1 }) ∧
  (∀ (a : BitVec 7) (n : Fin 17) (s : State), s.pwr.vaux = true → s.bit R.I3C_STATUS F.I3C_STATUS_ADDR_VALID = true →
    (∃ t, exec (.setnewda a) s = .next t ∧ t.fld R.I3C_STATUS F.I3C_STATUS_DYN_ADDR = a.toNat ∧
      t.bit R.I3C_STATUS F.I3C_STATUS_ADDR_VALID = true) ∧
    exec .getpid s = .next (s.emit (.i3c (beBytes s.pid 6))) ∧
    exec .getbcr s = .next (s.emit (.i3c [i3cBcr])) ∧ exec .getdcr s = .next (s.emit (.i3c [i3cDcr])) ∧
    exec .getmwl s = .next (s.emit (.i3c (beBytes s.mgmt.mwl 2))) ∧
    exec .getmrl s = .next (s.emit (.i3c (beBytes s.mgmt.mrl 2 ++ [1]))) ∧
    exec .getstatus s =
      .next (({ s with free := s.free + 1 } : State).emit (.i3c (beBytes (Config.freeValue 16 s.free).toNat 2))) ∧
    exec (.i3cPrivateRead n) s = .next (s.emit (.i3c (s.statusBlock.take n.val)))) ∧
  (∀ (bcast : Bool) (len : BitVec 16) (ev : Byte) (s : State),
    (s.i3cHears bcast = false → exec (.setmwl bcast len) s = .next s ∧ exec (.setmrl bcast len) s = .next s ∧
      exec (.enec bcast ev) s = .next s ∧ exec (.disec bcast ev) s = .next s ∧ exec (.rstact bcast ev) s = .next s) ∧
    (s.i3cHears bcast = true →
      exec (.setmwl bcast len) s = .next (s.updMgmt fun m => { m with mwl := len.toNat }) ∧
      exec (.setmrl bcast len) s = .next (s.updMgmt fun m => { m with mrl := len.toNat }) ∧
      exec (.rstact bcast ev) s = .next (s.updMgmt fun m => { m with rstact := ev.toNat }) ∧
      (∃ t, exec (.enec bcast ev) s = .next t ∧
        t.bit R.I3C_STATUS F.I3C_STATUS_IBI_EN = (ev.getLsbD 0 || s.bit R.I3C_STATUS F.I3C_STATUS_IBI_EN)) ∧
      (∃ t, exec (.disec bcast ev) s = .next t ∧
        t.bit R.I3C_STATUS F.I3C_STATUS_IBI_EN = (!ev.getLsbD 0 && s.bit R.I3C_STATUS F.I3C_STATUS_IBI_EN)))) ∧
  (∀ s : State, s.pwr.vaux = true →
    (s.i3cHears true = true ∧ s.i3cHears false = s.bit R.I3C_STATUS F.I3C_STATUS_ADDR_VALID)) ∧
  (∀ (b : Bytes) (s : State),
    (s.bit R.I3C_STATUS F.I3C_STATUS_ADDR_VALID = true → b ≠ [0xA5] ∨ s.bit R.WAKE_EN F.WAKE_EN_I3C = false →
      exec (.i3cPrivateWrite b) s = .next s) ∧
    (s.pwr.vaux = true → s.bit R.I3C_STATUS F.I3C_STATUS_ADDR_VALID = true → b = [0xA5] → s.bit R.WAKE_EN F.WAKE_EN_I3C = true →
      exec (.i3cPrivateWrite b) s = .next (wakeSource 2 s)))

/-- Power states and wakes (R110, R419 to R423). A write of PWR_CTRL while a transition runs is refused; P0 and P1 are taken at once or, from
P2, after the staggered start; P2 asks for idle knots, transactions and operations; P3 is entered from P2 alone, and pads are latched before
the rails go. An enabled source wakes the device in P3, aborts an entry whose pads are not latched, and follows one whose pads are; the
first source is noted, the lowest code of those of one cycle. GO releases the pads. -/
def Obligations.PowerStates : Prop :=
  (∀ (lp : Bool) (s : State),
    let s1 := s.setF R.PWR_CTRL F.PWR_CTRL_AON_LP_EN lp.toNat
    let bad := fun t : State => t.setF R.PWR_STATUS F.PWR_STATUS_LAST_STATUS 0x10
    (s.pTarget ≠ 15 → exec (.pwrTargetP0 lp) s = .next (bad s) ∧ exec (.pwrTargetP1 lp) s = .next (bad s) ∧
      exec (.pwrTargetP2 lp) s = .next (bad s) ∧ exec (.pwrTargetP3 lp) s = .next (bad s)) ∧
    (s.pTarget = 15 →
      (s.pState ≠ 2 →
        (∃ t, exec (.pwrTargetP0 lp) s = .next t ∧ t.pState = 0 ∧ t.pTarget = 15 ∧
          t.fld R.PWR_STATUS F.PWR_STATUS_LAST_STATUS = 0) ∧
        (∃ t, exec (.pwrTargetP1 lp) s = .next t ∧ t.pState = 1 ∧ t.pTarget = 15 ∧
          t.fld R.PWR_STATUS F.PWR_STATUS_LAST_STATUS = 0) ∧
        (s1.mayEnterP2 = false → exec (.pwrTargetP2 lp) s = .next (bad s1)) ∧
        (s1.mayEnterP2 = true → ∃ t, exec (.pwrTargetP2 lp) s = .next t ∧ t.pTarget = 2 ∧
          t.fld R.OPTICAL_STATUS F.OPTICAL_STATUS_ENGINE_UP = 0 ∧ t.pwr.stagger = [] ∧
          (s.integ.units = [] → t.ports = [] ∧ t.lany = [] ∧ t.frames = [])) ∧
        exec (.pwrTargetP3 lp) s = .next (bad s1)) ∧
      (s.pState = 2 →
        (∃ t, exec (.pwrTargetP0 lp) s = .next t ∧ t.pState = 2 ∧ t.pTarget = 0 ∧ t.pwr.stagger = s.downList) ∧
        (∃ t, exec (.pwrTargetP1 lp) s = .next t ∧ t.pState = 2 ∧ t.pTarget = 1 ∧ t.pwr.stagger = s.downList) ∧
        (∃ t, exec (.pwrTargetP2 lp) s = .next t ∧ t.pState = 2 ∧ t.pTarget = 15 ∧ t.free = s.free + 1) ∧
        (∃ t, exec (.pwrTargetP3 lp) s = .next t ∧ t.pState = 2 ∧ t.pTarget = 3 ∧ t.time.savedFab = s.time.fab ∧
          t.time.savedTick = s.pwr.aon)))) ∧
  (∀ s : State,
    (s.pTarget = 2 → ∃ t, exec .pwrTransitionDone s = .next t ∧ t.pState = 2 ∧ t.pTarget = 15 ∧
      t.fld R.PWR_STATUS F.PWR_STATUS_LAST_STATUS = 0) ∧
    (s.pTarget < 2 → s.pwr.stagger ≠ [] → exec .pwrTransitionDone s = .next s) ∧
    (s.pTarget < 2 → s.pwr.stagger = [] → ∃ t, exec .pwrTransitionDone s = .next t ∧ t.pState = s.pTarget ∧ t.pTarget = 15) ∧
    (s.pTarget = 3 → s.pwr.latched = false → ∃ t, exec .pwrTransitionDone s = .next t ∧
      t.bit R.PAD_RELEASE F.PAD_RELEASE_HELD = true ∧ t.pwr.latched = true ∧ t.pTarget = 3) ∧
    (s.pTarget = 3 → s.pwr.latched = true → exec .pwrTransitionDone s = .next (enterP3 s)) ∧
    (3 < s.pTarget → exec .pwrTransitionDone s = .next s)) ∧
  (∀ s : State, s.pwr.waking = false → s.bit R.WAKE_EN F.WAKE_EN_TIMER = false → (enterP3 s).pState = 3 ∧ (enterP3 s).pwr.railEn = false ∧
    (enterP3 s).out.head? = some (.pin "RAIL_EN" false) ∧ (s.integ.units = [] → (enterP3 s).ports = []) ∧ (enterP3 s).rd R.WAKE_EN = s.rd R.WAKE_EN) ∧
  (∀ s : State, exec .padReleaseGo s = .next (s.setF R.PAD_RELEASE F.PAD_RELEASE_HELD 0)) ∧
  (∀ (i : Fin 4) (rising : Bool) (s : State),
    let on := (s.fld R.WAKE_EN F.WAKE_EN_GPIO).testBit i.val = true ∧ (s.fld R.WAKE_EN F.WAKE_EN_GPIO_POL).testBit i.val = rising
    (on → exec (.gpioWake i rising) s = .next (wakeSource (5 + i.val) s)) ∧ (¬ on → exec (.gpioWake i rising) s = .next s)) ∧
  (∀ s : State,
    let due := s.rd64 R.WAKE_TIMER R.WAKE_TIMER_HI
    let wakes := s.bit R.WAKE_EN F.WAKE_EN_TIMER = true ∧ due ≤ s.pwr.aon ∧ (s.pState = 3 ∨ s.time.savedTick < due)
    (wakes → exec .wakeTimerExpire s = .next (wakeSource 4 s)) ∧ (¬ wakes → exec .wakeTimerExpire s = .next s)) ∧
  (∀ (code : Nat) (s : State),
    (s.pState ≠ 3 → s.pTarget ≠ 3 → wakeSource code s = s) ∧
    (s.pState = 3 → s.pwr.waking = true → wakeSource code s = noteWake code false s) ∧
    (s.pState = 3 → s.pwr.waking = false → wakeSource code s = beginWake (noteWake code true s)) ∧
    (s.pState ≠ 3 → s.pTarget = 3 → s.pwr.latched = true → (wakeSource code s).pwr.waking = true ∧ (wakeSource code s).pTarget = 3) ∧
    (s.pState ≠ 3 → s.pTarget = 3 → s.pwr.latched = false → (wakeSource code s).pTarget = 15 ∧
      (wakeSource code s).fld R.PWR_STATUS F.PWR_STATUS_LAST_STATUS = 1)) ∧
  (∀ (code : Nat) (s : State), 1 ≤ code → code ≤ 9 →
    ((noteWake code true s).fld R.WAKE_SOURCE F.WAKE_SOURCE_SOURCES).testBit (code - 1) = true ∧
    (noteWake code true s).fld R.WAKE_SOURCE F.WAKE_SOURCE_FIRST = code ∧
    (s.pwr.wakeAt ≠ s.cycle →
      (noteWake code false s).fld R.WAKE_SOURCE F.WAKE_SOURCE_FIRST = s.fld R.WAKE_SOURCE F.WAKE_SOURCE_FIRST) ∧
    (s.pwr.wakeAt = s.cycle → (noteWake code false s).fld R.WAKE_SOURCE F.WAKE_SOURCE_FIRST =
      min code (s.fld R.WAKE_SOURCE F.WAKE_SOURCE_FIRST)))

/-- Rails, the staggered start, adaptive voltage and temperature (R411 to R418, R444, R347). Power-on samples the slot pins and drives RAIL_EN;
an always-on brown-out is latched; without VAUX nothing is driven. PWR_GOOD rising releases the processor or ends a wake, and falling
under RAIL_EN is a cold reset. A stagger step, due STEP_US after the last, starts one die or optical engine. A rail is asked for within 620 to 780 mV in 5 mV steps; a
timeout holds it and files a record. A die that is down has no samples; one at 125 °C or above trips; another sets its stage. -/
def Obligations.RailsAndTemperatures : Prop :=
  (∀ (slot : BitVec 4) (s : State), ∃ t, exec (.powerOnReset slot) s = .next t ∧ t.fld R.I3C_STATUS F.I3C_STATUS_SLOT = slot.toNat ∧
    t.pwr.railEn = true ∧ t.pwr.vaux = true ∧ t.out.head? = some (.pin "RAIL_EN" true) ∧ (s.integ.units = [] → t.ports = [] ∧ t.engines = []) ∧
    t.bit R.RESET_CAUSE F.RESET_CAUSE_AON_BROWNOUT = s.bit R.RESET_CAUSE F.RESET_CAUSE_AON_BROWNOUT) ∧
  (∀ s : State, (s.pwr.vaux = false → exec .aonBrownout s = .next s) ∧
    (s.pwr.vaux = true → ∃ t, exec .aonBrownout s = .next t ∧ t.bit R.RESET_CAUSE F.RESET_CAUSE_AON_BROWNOUT = true ∧
      t.fld R.I3C_STATUS F.I3C_STATUS_SLOT = s.fld R.I3C_STATUS F.I3C_STATUS_SLOT ∧ t.pwr.tellBrown = true)) ∧
  (∀ s : State, ∃ t, exec .vauxRemoval s = .next t ∧ t.pwr.vaux = false ∧ t.pwr.railEn = false ∧
    (s.pwr.tripped = true → t.out.head? = some (.pin "THERMTRIP_N" true)) ∧
    (s.pwr.tripped = false → t.out.head? = some (.pin "RAIL_EN" false))) ∧
  (∀ s : State,
    let s1 := s.setBit R.PWR_STATUS F.PWR_STATUS_PWR_GOOD
    (s.pwrGood = true → exec .pwrGoodRise s = .next s) ∧
    (s.pwrGood = false → s.pState ≠ 3 → exec .pwrGoodRise s = .next (release s1)) ∧
    (s.pwrGood = false → s.pState = 3 → s.pwr.waking = true → s.pwr.railEn = true → s.pwr.vaux = true →
      exec .pwrGoodRise s = .next (wakeStart s1)) ∧
    (s.pwrGood = false → s.pState = 3 → s.pwr.waking = false ∨ s.pwr.railEn = false ∨ s.pwr.vaux = false →
      exec .pwrGoodRise s = .next s1)) ∧
  (∀ s : State, (wakeStart s).pState = 0 ∧ (wakeStart s).pwr.waking = false ∧ (wakeStart s).pwr.released = true ∧
    (s.isRoot = false → (wakeStart s).timeState = tsCoarse) ∧
    (wakeStart s).time.fab = (s.time.savedFab + (s.pwr.aon + 2 ^ 64 - s.time.savedTick) % 2 ^ 64 * 40 * 2 ^ 56) % 2 ^ 120) ∧
  (∀ s : State,
    (s.pwrGood = false → exec .pwrGoodFall s = .next s) ∧
    (s.pwrGood = true → s.pwr.railEn = false →
      exec .pwrGoodFall s = .next (s.setF R.PWR_STATUS F.PWR_STATUS_PWR_GOOD 0)) ∧
    (s.pwrGood = true → s.pwr.railEn = true → ∃ t, exec .pwrGoodFall s = .next t ∧ t.pwrGood = false ∧
      t.bit R.RESET_CAUSE F.RESET_CAUSE_COLD_REG = true ∧ (s.integ.units = [] → t.ports = []) ∧ t.pwr.level = max 4 s.pwr.level)) ∧
  (∀ (temp : BitVec 16) (s : State),
    (s.pwr.stagger = [] → exec (.staggerStep temp) s = .next s) ∧
    (∀ k rest, s.pwr.stagger = k :: rest →
      let s1 := s.updPwr fun p => { p with
        stagger := rest, stepAt := s.cycle + s.fld R.PWR_STAGGER F.PWR_STAGGER_STEP_US * 1600,
        level := if rest.isEmpty && decide (3 ≤ p.level) then 0 else p.level }
      (s.cycle < s.pwr.stepAt → exec (.staggerStep temp) s = .next s) ∧
      (s.pwr.stepAt ≤ s.cycle → 16 ≤ k → exec (.staggerStep temp) s = .next (startOptical (k - 16) s1)) ∧
      (s.pwr.stepAt ≤ s.cycle → 8 ≤ k → k < 16 → exec (.staggerStep temp) s = .next (startDie k s1)) ∧
      (s.pwr.stepAt ≤ s.cycle → k < 8 →
        let s3 := ((startDie k s1).setF (R.DIE_PWR_STATUS k) F.DIE_PWR_STATUS_TEMP temp.toNat).updPwr
          fun p => { p with dieTemp := sput p.dieTemp k temp.toNat 0 }
        (12500 ≤ temp.toInt → exec (.staggerStep temp) s = .next (thermTrip s3)) ∧
        (temp.toInt < 12500 → exec (.staggerStep temp) s = .next (moveBand s3 k temp.toInt))))) ∧
  (∀ (d : Nat) (s : State), d < 11 → (startDie d s).dieUp d = true ∧
    (d < 8 → (startDie d s).fld (R.DIE_PWR_STATUS d) F.DIE_PWR_STATUS_VDD_MV = 700)) ∧
  (∀ (d : Fin 8) (n : Fin 33) (mv : BitVec 10) (s : State),
    (s.dieUp d.val = false → exec (.avsMarginChange d n mv) s = .next s ∧ exec (.avsLowerStep d mv) s = .next s ∧
      exec (.avsTimeout d) s = .next s) ∧
    (s.dieUp d.val = true →
      (∃ t, exec (.avsMarginChange d n mv) s = .next t ∧ t.fld (R.DIE_PWR_STATUS d.val) F.DIE_PWR_STATUS_VDD_MV = mv.toNat ∧
        sget t.pwr.request d.val 0 = max 620 (min 780 (sget s.pwr.request d.val 0 + 5 * n.val))) ∧
      (s.cycle < sget s.pwr.lowerAt d.val 0 → exec (.avsLowerStep d mv) s = .next s) ∧
      (sget s.pwr.lowerAt d.val 0 ≤ s.cycle → ∃ t, exec (.avsLowerStep d mv) s = .next t ∧ t.fld (R.DIE_PWR_STATUS d.val) F.DIE_PWR_STATUS_VDD_MV = mv.toNat ∧
        sget t.pwr.request d.val 0 = max 620 (min 780 (sget s.pwr.request d.val 0 - 5)) ∧
        sget t.pwr.lowerAt d.val 0 = s.cycle + 1600000) ∧
      (∃ t, exec (.avsTimeout d) s = .next t ∧
        sget t.pwr.request d.val 0 = s.fld (R.DIE_PWR_STATUS d.val) F.DIE_PWR_STATUS_VDD_MV))) ∧
  (∀ (temp : BitVec 16) (s : State), exec (.ioDieTempSample temp) s =
    .next (moveBand (s.updPwr fun p => { p with dieTemp := sput p.dieTemp 10 temp.toNat 0 }) 10 temp.toInt)) ∧
  (∀ (d : Fin 8) (temp : BitVec 16) (s : State),
    let s1 := (s.setF (R.DIE_PWR_STATUS d.val) F.DIE_PWR_STATUS_TEMP temp.toNat).updPwr
      fun p => { p with dieTemp := sput p.dieTemp d.val temp.toNat 0 }
    let old := s.fld (R.DIE_PWR_STATUS d.val) F.DIE_PWR_STATUS_STAGE
    let t0 : Int := (100 * s.fld R.THERM_CTRL F.THERM_CTRL_THROTTLE_C : Nat)
    (s.dieUp d.val = false → exec (.junctionTempSample d temp) s = .next s) ∧
    (s.dieUp d.val = true → 12500 ≤ temp.toInt → exec (.junctionTempSample d temp) s = .next (thermTrip s1)) ∧
    (s.dieUp d.val = true → temp.toInt < 10500 → temp.toInt < t0 → old = 0 → exec (.junctionTempSample d temp) s = .next
      ((moveBand s1 d.val temp.toInt).setF (R.DIE_PWR_STATUS d.val) F.DIE_PWR_STATUS_STAGE 0))) ∧
  (∀ (old : Nat) (t0 h t : Int),
    (11500 ≤ t → throttleStage old t0 h t = 3) ∧
    (t < 11500 → old < 3 → t0 + 300 ≤ t → throttleStage old t0 h t = 2) ∧
    (t < 11500 → old < 2 → t0 ≤ t → t < t0 + 300 → throttleStage old t0 h t = 1) ∧
    (old = 3 → 11500 - h < t → throttleStage old t0 h t = 3)) ∧
  (∀ s : State, (thermTrip s).pwr.tripped = true ∧ (thermTrip s).pwr.railEn = false ∧
    (thermTrip s).bit R.RESET_CAUSE F.RESET_CAUSE_THERMTRIP = true ∧
    ∃ o, (thermTrip s).out = .pin "RAIL_EN" false :: .pin "THERMTRIP_N" false :: o)

/-- Resets (R34, R424 to R429, R444, R453). A reset of a rank that runs already, or below one that runs, is absorbed. A cold or warm reset
holds the datapath 1 µs; then cold starts every die, and warm keeps power, time, management and the Hold. A write without CONFIRM is
ignored. RESET_N after a thermal trip starts the device, and in P3 it wakes it. A transit-preserving reset ends when boot has reached
stage 2. UNIT_RESET resets one port, engine or channel, and is absorbed under a higher reset. PERST_N and a hot reset reset the endpoint
and what PERST_ACTION adds; in P3 only the level is seen. A die that stops answering is faulty, and a record is filed whose mechanism
is a free value (log entry 2). -/
def Obligations.Resets : Prop :=
  (∀ (v : Word) (s : State), F.RESET_CTRL_CONFIRM.get v ≠ 0xA5 → exec (.resetCold v) s = .next s ∧ exec (.resetWarm v) s = .next s ∧
    exec (.resetTransit v) s = .next s) ∧
  (∀ (v : Word) (s : State), F.RESET_CTRL_CONFIRM.get v = 0xA5 →
    let a := F.RESET_CTRL_PERST_ACTION.get v
    let s1 := if a = 3 then s else s.setF R.RESET_CTRL F.RESET_CTRL_PERST_ACTION a
    let cold := s1.setBit R.RESET_CAUSE F.RESET_CAUSE_COLD_REG
    let warm := s1.setBit R.RESET_CAUSE F.RESET_CAUSE_WARM
    let absorbed := fun t : State => t.setBit R.RESET_CAUSE F.RESET_CAUSE_ABSORBED
    let at_ := fun (n : Nat) (t : State) => (cancelTransition t).updPwr fun p => { p with level := n }
    (4 ≤ s.pwr.level → exec (.resetCold v) s = .next (absorbed cold)) ∧
    (s.pwr.level < 4 → exec (.resetCold v) s = .next (holdDatapath (at_ 4 cold))) ∧
    (3 ≤ s.pwr.level → exec (.resetWarm v) s = .next (absorbed warm)) ∧
    (s.pwr.level < 3 → exec (.resetWarm v) s = .next (holdDatapath (at_ 3 warm))) ∧
    (2 ≤ s.pwr.level → exec (.resetTransit v) s = .next (absorbed s1)) ∧
    (s.pwr.level < 2 → exec (.resetTransit v) s = .next (startTransit (at_ 2 s1)))) ∧
  (∀ s : State,
    (s.pwr.hold = false ∨ s.cycle < s.pwr.holdAt + 1600 → exec .resetHoldDone s = .next s) ∧
    (s.pwr.hold = true → s.pwr.holdAt + 1600 ≤ s.cycle → s.pwr.level = 4 → exec .resetHoldDone s = .next (release (coldBody s))) ∧
    (s.pwr.hold = true → s.pwr.holdAt + 1600 ≤ s.cycle → s.pwr.level ≠ 4 → (warmBody s).pState ≠ 2 → exec .resetHoldDone s = .next (warmBody s)) ∧
    (s.pwr.hold = true → s.pwr.holdAt + 1600 ≤ s.cycle → s.pwr.level ≠ 4 → (warmBody s).pState = 2 → exec .resetHoldDone s = .next (setPState (warmBody s) 0))) ∧
  (∀ s : State, s.integ.units = [] → (warmBody s).mgmt = s.mgmt ∧ (warmBody s).time = s.time ∧ (warmBody s).pwr.hold = false ∧
    (warmBody s).hold.locks = [] ∧ (warmBody s).knots = [] ∧ (warmBody s).rd R.TIME_CTRL = s.rd R.TIME_CTRL ∧
    (warmBody s).rd R.PWR_STATUS = s.rd R.PWR_STATUS) ∧
  (∀ s : State, (coldBody s).mgmt.flash = s.mgmt.flash ∧ (coldBody s).mgmt.key = s.mgmt.key ∧
    (coldBody s).rd R.RESET_CAUSE = s.rd R.RESET_CAUSE ∧ (coldBody s).integ.units = s.integ.units ∧ (coldBody s).integ.book = s.integ.book ∧
    (s.integ.units = [] → (coldBody s).pwr.hold = false ∧ (coldBody s).knots = [] ∧ (coldBody s).hostMem = s.hostMem ∧
      (coldBody s).time.fab = 0)) ∧
  (∀ s : State,
    let s1 := s.setBit R.RESET_CAUSE F.RESET_CAUSE_RESET_PIN
    (s.pwr.tripped = true → ∃ t, exec .resetPin s = .next t ∧ t.pwr.tripped = false ∧ t.pwr.railEn = true ∧
      t.out = .pin "RAIL_EN" true :: .pin "THERMTRIP_N" true :: s.out) ∧
    (s.pwr.tripped = false → s.pState = 3 ∨ (s.pTarget = 3 ∧ s.pwr.latched = true) → exec .resetPin s = .next (wakeSource 9 s1)) ∧
    (s.pwr.tripped = false → s.pState ≠ 3 → s.pTarget ≠ 3 ∨ s.pwr.latched = false → exec .resetPin s = .next (requestCold s1))) ∧
  (∀ s : State,
    let done := s.pwr.level = 2 ∧ s.fld R.MGMT_STATUS F.MGMT_STATUS_BOOT_STAGE = 2
    (¬ done → exec .transitResetEnd s = .next s) ∧
    (done → s.txn ≠ txBeginWait → ∃ t, exec .transitResetEnd s = .next t ∧ t.bit R.RESET_CAUSE F.RESET_CAUSE_TRANSIT = true ∧
      t.pwr.level = 0 ∧ t.tabs.transit = false) ∧
    (done → s.txn = txBeginWait → s.tabs.copying = false → exec .transitResetEnd s = .next (openTxn
      (((s.setBit R.RESET_CAUSE F.RESET_CAUSE_TRANSIT).updPwr fun p => { p with level := 0 }).updTabs fun t => { t with transit := false })
      (s.fld (R.TXN_CTRL 0) F.TXN_CTRL_OWNER)))) ∧
  (∀ (v : Word) (s : State),
    let k := F.UNIT_RESET_KIND.get v
    let d := F.UNIT_RESET_DIE.get v
    let u := F.UNIT_RESET_UNIT.get v
    let known := (k = 2 ∨ k = 3 ∨ k = 4 ∨ k = 6) ∧ unitInRange k d u = true
    let s1 := cancelTransition s
    let e := d * 16 + u
    (¬ known → exec (.unitReset v) s = .next s) ∧
    (known → 0 < s.pwr.level → exec (.unitReset v) s = .next (s.setBit R.RESET_CAUSE F.RESET_CAUSE_ABSORBED)) ∧
    (known → s.pwr.level = 0 →
      (k = 2 ∨ k = 3 → s1.portExists d u = true → exec (.unitReset v) s = .next (linkStart (writeQuarantine d u s1) d u)) ∧
      (k = 2 ∨ k = 3 → s1.portExists d u = false → exec (.unitReset v) s = .next s1) ∧
      (k = 4 → s1.engState e = 0 ∨ s1.engState e = 7 → exec (.unitReset v) s = .next s1) ∧
      (k = 4 → s1.engState e ≠ 0 → s1.engState e ≠ 7 → exec (.unitReset v) s = .next (resetEngine s1 e)) ∧
      (k = 6 → ∃ t, exec (.unitReset v) s = .next t ∧ t.dmaIdle u = true ∧ t.rd (R.DMA_CH_TAIL u) = 0 ∧
        (s.isRetired 6 10 u = false → t.dmaState u = 0) ∧ (s.isRetired 6 10 u = true → t.dmaState u = 4)))) ∧
  (∀ s : State,
    let low := s.updHost fun h => { h with perst := true }
    let high := s.updHost fun h => { h with perst := false, perstP3 := false }
    (s.pState = 3 → exec .perstAssert s = .next (low.updHost fun h => { h with perstP3 := true }) ∧ exec .pcieHotReset s = .next s) ∧
    (s.pState ≠ 3 → exec .perstAssert s = .next (endpointReset low) ∧ exec .pcieHotReset s = .next (endpointReset s)) ∧
    (s.host.perstP3 = true → s.bit R.WAKE_EN F.WAKE_EN_PCIE = true → exec .perstDeassert s = .next (wakeSource 3 high)) ∧
    (s.host.perstP3 = false ∨ s.bit R.WAKE_EN F.WAKE_EN_PCIE = false → exec .perstDeassert s = .next high)) ∧
  (∀ s : State,
    let s1 := resetEndpoint (s.setBit R.RESET_CAUSE F.RESET_CAUSE_PERST)
    let a := s.fld R.RESET_CTRL F.RESET_CTRL_PERST_ACTION
    (a ≠ 1 → a ≠ 2 → endpointReset s = s1) ∧
    (a = 1 → endpointReset s = requestWarm (s1.setBit R.RESET_CAUSE F.RESET_CAUSE_WARM)) ∧
    (a = 2 → endpointReset s = requestCold s1) ∧
    s1.bit R.RESET_CAUSE F.RESET_CAUSE_PERST = true ∧ s1.host.ops = [] ∧ s1.host.fetched = [] ∧ s1.mgmt = s.mgmt ∧
    s1.host.perst = s.host.perst) ∧
  (∀ (d : Fin 11) (s : State), exec (.controlLinkLoss d) s = .next
    (fileRec (({ s with free := s.free + 1 } : State).setF R.DIE_STATUS F.DIE_STATUS_DIE_FAULT
      (setMaskBit (s.fld R.DIE_STATUS F.DIE_STATUS_DIE_FAULT) d.val true)) (LogRec.of 2 (Config.freeValue 8 s.free).toNat 1 d.val d.val)))
end

