-- ==== Sys2Proof/Laws/Sparse.lean ====
section
/-! SUPPORT. Laws of sparse data: reading after writing, and the canonical form that every operation keeps. -/

namespace Sys2Proof.Machine

variable {α : Type}

@[simp] theorem sget_nil (n : Nat) (d : α) : sget [] n d = d := rfl

theorem sget_sins_same (m : SMap α) (n : Nat) (v d : α) : sget (sins m n v) n d = v := by
  induction m with
  | nil => simp [sins, sget]
  | cons e m ih =>
    obtain ⟨k, w⟩ := e
    simp only [sins]
    split
    · simp [sget]
    · split
      · simp [sget]
      · rename_i h
        simp [sget, h, ih]

theorem sget_sins_ne (m : SMap α) {n a : Nat} (h : a ≠ n) (v d : α) : sget (sins m n v) a d = sget m a d := by
  induction m with
  | nil => simp [sins, sget, h]
  | cons e m ih =>
    obtain ⟨k, w⟩ := e
    simp only [sins]
    split
    · simp [sget, h]
    · split
      · rename_i hk
        subst hk
        simp [sget, h]
      · simp only [sget]
        split <;> simp_all

theorem sget_serase_same (m : SMap α) (n : Nat) (d : α) : sget (serase m n) n d = d := by
  induction m with
  | nil => rfl
  | cons e m ih =>
    obtain ⟨k, w⟩ := e
    simp only [serase]
    split
    · exact ih
    · rename_i h
      simp [sget, h, ih]

theorem sget_serase_ne (m : SMap α) {n a : Nat} (h : a ≠ n) (d : α) : sget (serase m n) a d = sget m a d := by
  induction m with
  | nil => rfl
  | cons e m ih =>
    obtain ⟨k, w⟩ := e
    simp only [serase]
    split
    · rename_i hk
      subst hk
      simp [sget, h, ih]
    · simp only [sget, ih]

variable [DecidableEq α]

/-- A key reads the value last written to it. -/
@[simp] theorem sget_sput_same (m : SMap α) (n : Nat) (v d : α) : sget (sput m n v d) n d = v := by
  unfold sput
  split
  · rename_i h
    rw [sget_serase_same, h]
  · exact sget_sins_same m n v d

/-- A write leaves every other key alone, whatever an unlisted key reads as there. -/
theorem sget_sput_ne (m : SMap α) {n a : Nat} (h : a ≠ n) (v d e : α) : sget (sput m n v d) a e = sget m a e := by
  unfold sput
  split
  · exact sget_serase_ne m h e
  · exact sget_sins_ne m h v e

@[simp] theorem sget_supd_same (m : SMap α) (n : Nat) (d : α) (f : α → α) :
    sget (supd m n d f) n d = f (sget m n d) := by simp [supd]

theorem sget_supd_ne (m : SMap α) {n a : Nat} (h : a ≠ n) (d e : α) (f : α → α) :
    sget (supd m n d f) a e = sget m a e := sget_sput_ne m h _ d e

/-! ## The canonical form -/

omit [DecidableEq α] in
theorem keysAbove_trans {m : SMap α} {a b : Nat} (h : a < b) (hb : keysAbove m b = true) : keysAbove m a = true := by
  induction m with
  | nil => rfl
  | cons e m ih =>
    obtain ⟨k, w⟩ := e
    simp only [keysAbove, Bool.and_eq_true, decide_eq_true_eq] at *
    exact ⟨by omega, ih hb.2⟩

omit [DecidableEq α] in
theorem keysAbove_sins {m : SMap α} {a n : Nat} {v : α} (h : keysAbove m a = true) (hn : a < n) :
    keysAbove (sins m n v) a = true := by
  induction m with
  | nil => simp [sins, keysAbove, hn]
  | cons e m ih =>
    obtain ⟨k, w⟩ := e
    simp only [keysAbove, Bool.and_eq_true, decide_eq_true_eq] at h
    simp only [sins]
    split
    · simp [keysAbove, hn, h.1, h.2]
    · split
      · simp [keysAbove, hn, h.2]
      · simp [keysAbove, h.1, ih h.2]

omit [DecidableEq α] in
theorem keysAbove_serase {m : SMap α} {a n : Nat} (h : keysAbove m a = true) : keysAbove (serase m n) a = true := by
  induction m with
  | nil => rfl
  | cons e m ih =>
    obtain ⟨k, w⟩ := e
    simp only [keysAbove, Bool.and_eq_true, decide_eq_true_eq] at h
    simp only [serase]
    split
    · exact ih h.2
    · simp [keysAbove, h.1, ih h.2]

omit [DecidableEq α] in
theorem keysAbove_filter {m : SMap α} {a : Nat} (p : Nat × α → Bool) (h : keysAbove m a = true) :
    keysAbove (m.filter p) a = true := by
  induction m with
  | nil => rfl
  | cons e m ih =>
    obtain ⟨k, w⟩ := e
    simp only [keysAbove, Bool.and_eq_true, decide_eq_true_eq] at h
    simp only [List.filter]
    split
    · simp [keysAbove, h.1, ih h.2]
    · exact ih h.2

omit [DecidableEq α] in
theorem keysRising_sins {m : SMap α} (n : Nat) (v : α) (h : keysRising m = true) : keysRising (sins m n v) = true := by
  induction m with
  | nil => rfl
  | cons e m ih =>
    obtain ⟨k, w⟩ := e
    simp only [keysRising, Bool.and_eq_true] at h
    simp only [sins]
    split
    · rename_i hk
      simp [keysRising, keysAbove, hk, keysAbove_trans hk h.1, h]
    · split
      · rename_i hk
        subst hk
        simp [keysRising, h]
      · simp [keysRising, keysAbove_sins h.1 (show k < n by omega), ih h.2]

omit [DecidableEq α] in
theorem keysRising_serase {m : SMap α} (n : Nat) (h : keysRising m = true) : keysRising (serase m n) = true := by
  induction m with
  | nil => rfl
  | cons e m ih =>
    obtain ⟨k, w⟩ := e
    simp only [keysRising, Bool.and_eq_true] at h
    simp only [serase]
    split
    · exact ih h.2
    · simp [keysRising, keysAbove_serase h.1, ih h.2]

omit [DecidableEq α] in
theorem keysRising_filter {m : SMap α} (p : Nat × α → Bool) (h : keysRising m = true) : keysRising (m.filter p) = true := by
  induction m with
  | nil => rfl
  | cons e m ih =>
    obtain ⟨k, w⟩ := e
    simp only [keysRising, Bool.and_eq_true] at h
    simp only [List.filter]
    split
    · simp [keysRising, keysAbove_filter p h.1, ih h.2]
    · exact ih h.2

theorem keysRising_sput {m : SMap α} (n : Nat) (v d : α) (h : keysRising m = true) : keysRising (sput m n v d) = true := by
  unfold sput
  split
  · exact keysRising_serase n h
  · exact keysRising_sins n v h

theorem swf_sins {m : SMap α} {d v : α} (n : Nat) (hv : v ≠ d) (h : swf m d = true) : swf (sins m n v) d = true := by
  induction m with
  | nil => simp [sins, swf, keysAbove, hv]
  | cons e m ih =>
    obtain ⟨k, w⟩ := e
    simp only [swf, Bool.and_eq_true, decide_eq_true_eq] at h
    simp only [sins]
    split
    · rename_i hk
      simp [swf, keysAbove, hk, hv, h.1.1, h.1.2, h.2, keysAbove_trans hk h.1.1]
    · split
      · rename_i hk
        subst hk
        simp [swf, hv, h.1.1, h.2]
      · simp [swf, keysAbove_sins h.1.1 (show k < n by omega), h.1.2, ih h.2]

theorem swf_serase {m : SMap α} {d : α} (n : Nat) (h : swf m d = true) : swf (serase m n) d = true := by
  induction m with
  | nil => rfl
  | cons e m ih =>
    obtain ⟨k, w⟩ := e
    simp only [swf, Bool.and_eq_true, decide_eq_true_eq] at h
    simp only [serase]
    split
    · exact ih h.2
    · simp [swf, keysAbove_serase h.1.1, h.1.2, ih h.2]

theorem swf_sput {m : SMap α} {d : α} (n : Nat) (v : α) (h : swf m d = true) : swf (sput m n v d) d = true := by
  unfold sput
  split
  · exact swf_serase n h
  · exact swf_sins n (by assumption) h

theorem swf_sputs {m : SMap α} {d : α} (n : Nat) (vs : List α) (h : swf m d = true) : swf (sputs m n vs d) d = true := by
  induction vs generalizing m n with
  | nil => exact h
  | cons v vs ih => exact ih (n + 1) (swf_sput n v h)

/-- Every write of consecutive bytes keeps a memory in canonical form. -/
theorem Memory_wf_sputs {m : SMap (BitVec 8)} (n : Nat) (vs : List (BitVec 8)) (h : Memory.wf m = true) :
    Memory.wf (sputs m n vs 0) = true := swf_sputs n vs h

/-! ## Consecutive bytes -/

/-- A write of consecutive values leaves the keys below it and beyond it alone. -/
theorem sget_sputs_out (m : SMap α) (n : Nat) (vs : List α) (d e : α) {a : Nat} (h : a < n ∨ n + vs.length ≤ a) :
    sget (sputs m n vs d) a e = sget m a e := by
  induction vs generalizing m n with
  | nil => rfl
  | cons v vs ih =>
    simp only [List.length_cons] at h
    simp only [sputs]
    rw [ih _ _ (by omega), sget_sput_ne _ (by omega)]

/-- A write of consecutive values is read back value by value. -/
theorem sget_sputs_in (m : SMap α) (n : Nat) (vs : List α) (d : α) {i : Nat} (h : i < vs.length) :
    sget (sputs m n vs d) (n + i) d = vs[i] := by
  induction vs generalizing m n i with
  | nil => simp at h
  | cons v vs ih =>
    simp only [sputs]
    cases i with
    | zero =>
      rw [sget_sputs_out _ _ _ _ _ (by omega)]
      simp
    | succ i =>
      simp only [List.length_cons] at h
      have := ih (sput m n v d) (n + 1) (i := i) (by omega)
      simpa [Nat.add_assoc, Nat.add_comm 1 i] using this

omit [DecidableEq α] in
@[simp] theorem sgets_length (m : SMap α) (n c : Nat) (d : α) : (sgets m n c d).length = c := by
  induction c generalizing n with
  | zero => rfl
  | succ c ih => simp [sgets, ih]

end Sys2Proof.Machine
end

