-- ==== Sys2Proof/Laws/State.lean ====
section
/-! SUPPORT. One lemma per field and named update of the state, each true by unfolding the update once; and what a read of a
register answers after a write. -/

namespace Sys2Proof.Machine

/-! ## wr -/

@[simp] theorem wr_heldLow (s : State) (r : RegRef) (v : Word) : (s.wr r v).heldLow = s.heldLow := rfl
@[simp] theorem wr_capHigh (s : State) (r : RegRef) (v : Word) : (s.wr r v).capHigh = s.capHigh := rfl
@[simp] theorem wr_cycle (s : State) (r : RegRef) (v : Word) : (s.wr r v).cycle = s.cycle := rfl
@[simp] theorem wr_time (s : State) (r : RegRef) (v : Word) : (s.wr r v).time = s.time := rfl
@[simp] theorem wr_frames (s : State) (r : RegRef) (v : Word) : (s.wr r v).frames = s.frames := rfl
@[simp] theorem wr_nextFrame (s : State) (r : RegRef) (v : Word) : (s.wr r v).nextFrame = s.nextFrame := rfl
@[simp] theorem wr_links (s : State) (r : RegRef) (v : Word) : (s.wr r v).links = s.links := rfl
@[simp] theorem wr_ports (s : State) (r : RegRef) (v : Word) : (s.wr r v).ports = s.ports := rfl
@[simp] theorem wr_lanes (s : State) (r : RegRef) (v : Word) : (s.wr r v).lanes = s.lanes := rfl
@[simp] theorem wr_lany (s : State) (r : RegRef) (v : Word) : (s.wr r v).lany = s.lany := rfl
@[simp] theorem wr_dies (s : State) (r : RegRef) (v : Word) : (s.wr r v).dies = s.dies := rfl
@[simp] theorem wr_tabs (s : State) (r : RegRef) (v : Word) : (s.wr r v).tabs = s.tabs := rfl
@[simp] theorem wr_integ (s : State) (r : RegRef) (v : Word) : (s.wr r v).integ = s.integ := rfl
@[simp] theorem wr_pwr (s : State) (r : RegRef) (v : Word) : (s.wr r v).pwr = s.pwr := rfl
@[simp] theorem wr_hostMem (s : State) (r : RegRef) (v : Word) : (s.wr r v).hostMem = s.hostMem := rfl
@[simp] theorem wr_host (s : State) (r : RegRef) (v : Word) : (s.wr r v).host = s.host := rfl
@[simp] theorem wr_mgmt (s : State) (r : RegRef) (v : Word) : (s.wr r v).mgmt = s.mgmt := rfl
@[simp] theorem wr_engines (s : State) (r : RegRef) (v : Word) : (s.wr r v).engines = s.engines := rfl
@[simp] theorem wr_knots (s : State) (r : RegRef) (v : Word) : (s.wr r v).knots = s.knots := rfl
@[simp] theorem wr_hold (s : State) (r : RegRef) (v : Word) : (s.wr r v).hold = s.hold := rfl
@[simp] theorem wr_out (s : State) (r : RegRef) (v : Word) : (s.wr r v).out = s.out := rfl
@[simp] theorem wr_free (s : State) (r : RegRef) (v : Word) : (s.wr r v).free = s.free := rfl
@[simp] theorem wr_pending (s : State) (r : RegRef) (v : Word) : (s.wr r v).pending = s.pending := rfl

/-! ## setF -/

@[simp] theorem setF_heldLow (s : State) (r : RegRef) (f : Fld) (n : Nat) : (s.setF r f n).heldLow = s.heldLow := rfl
@[simp] theorem setF_capHigh (s : State) (r : RegRef) (f : Fld) (n : Nat) : (s.setF r f n).capHigh = s.capHigh := rfl
@[simp] theorem setF_cycle (s : State) (r : RegRef) (f : Fld) (n : Nat) : (s.setF r f n).cycle = s.cycle := rfl
@[simp] theorem setF_time (s : State) (r : RegRef) (f : Fld) (n : Nat) : (s.setF r f n).time = s.time := rfl
@[simp] theorem setF_frames (s : State) (r : RegRef) (f : Fld) (n : Nat) : (s.setF r f n).frames = s.frames := rfl
@[simp] theorem setF_nextFrame (s : State) (r : RegRef) (f : Fld) (n : Nat) : (s.setF r f n).nextFrame = s.nextFrame := rfl
@[simp] theorem setF_links (s : State) (r : RegRef) (f : Fld) (n : Nat) : (s.setF r f n).links = s.links := rfl
@[simp] theorem setF_ports (s : State) (r : RegRef) (f : Fld) (n : Nat) : (s.setF r f n).ports = s.ports := rfl
@[simp] theorem setF_lanes (s : State) (r : RegRef) (f : Fld) (n : Nat) : (s.setF r f n).lanes = s.lanes := rfl
@[simp] theorem setF_lany (s : State) (r : RegRef) (f : Fld) (n : Nat) : (s.setF r f n).lany = s.lany := rfl
@[simp] theorem setF_dies (s : State) (r : RegRef) (f : Fld) (n : Nat) : (s.setF r f n).dies = s.dies := rfl
@[simp] theorem setF_tabs (s : State) (r : RegRef) (f : Fld) (n : Nat) : (s.setF r f n).tabs = s.tabs := rfl
@[simp] theorem setF_integ (s : State) (r : RegRef) (f : Fld) (n : Nat) : (s.setF r f n).integ = s.integ := rfl
@[simp] theorem setF_pwr (s : State) (r : RegRef) (f : Fld) (n : Nat) : (s.setF r f n).pwr = s.pwr := rfl
@[simp] theorem setF_hostMem (s : State) (r : RegRef) (f : Fld) (n : Nat) : (s.setF r f n).hostMem = s.hostMem := rfl
@[simp] theorem setF_host (s : State) (r : RegRef) (f : Fld) (n : Nat) : (s.setF r f n).host = s.host := rfl
@[simp] theorem setF_mgmt (s : State) (r : RegRef) (f : Fld) (n : Nat) : (s.setF r f n).mgmt = s.mgmt := rfl
@[simp] theorem setF_engines (s : State) (r : RegRef) (f : Fld) (n : Nat) : (s.setF r f n).engines = s.engines := rfl
@[simp] theorem setF_knots (s : State) (r : RegRef) (f : Fld) (n : Nat) : (s.setF r f n).knots = s.knots := rfl
@[simp] theorem setF_hold (s : State) (r : RegRef) (f : Fld) (n : Nat) : (s.setF r f n).hold = s.hold := rfl
@[simp] theorem setF_out (s : State) (r : RegRef) (f : Fld) (n : Nat) : (s.setF r f n).out = s.out := rfl
@[simp] theorem setF_free (s : State) (r : RegRef) (f : Fld) (n : Nat) : (s.setF r f n).free = s.free := rfl
@[simp] theorem setF_pending (s : State) (r : RegRef) (f : Fld) (n : Nat) : (s.setF r f n).pending = s.pending := rfl

/-! ## setBit -/

@[simp] theorem setBit_heldLow (s : State) (r : RegRef) (f : Fld) : (s.setBit r f).heldLow = s.heldLow := rfl
@[simp] theorem setBit_capHigh (s : State) (r : RegRef) (f : Fld) : (s.setBit r f).capHigh = s.capHigh := rfl
@[simp] theorem setBit_cycle (s : State) (r : RegRef) (f : Fld) : (s.setBit r f).cycle = s.cycle := rfl
@[simp] theorem setBit_time (s : State) (r : RegRef) (f : Fld) : (s.setBit r f).time = s.time := rfl
@[simp] theorem setBit_frames (s : State) (r : RegRef) (f : Fld) : (s.setBit r f).frames = s.frames := rfl
@[simp] theorem setBit_nextFrame (s : State) (r : RegRef) (f : Fld) : (s.setBit r f).nextFrame = s.nextFrame := rfl
@[simp] theorem setBit_links (s : State) (r : RegRef) (f : Fld) : (s.setBit r f).links = s.links := rfl
@[simp] theorem setBit_ports (s : State) (r : RegRef) (f : Fld) : (s.setBit r f).ports = s.ports := rfl
@[simp] theorem setBit_lanes (s : State) (r : RegRef) (f : Fld) : (s.setBit r f).lanes = s.lanes := rfl
@[simp] theorem setBit_lany (s : State) (r : RegRef) (f : Fld) : (s.setBit r f).lany = s.lany := rfl
@[simp] theorem setBit_dies (s : State) (r : RegRef) (f : Fld) : (s.setBit r f).dies = s.dies := rfl
@[simp] theorem setBit_tabs (s : State) (r : RegRef) (f : Fld) : (s.setBit r f).tabs = s.tabs := rfl
@[simp] theorem setBit_integ (s : State) (r : RegRef) (f : Fld) : (s.setBit r f).integ = s.integ := rfl
@[simp] theorem setBit_pwr (s : State) (r : RegRef) (f : Fld) : (s.setBit r f).pwr = s.pwr := rfl
@[simp] theorem setBit_hostMem (s : State) (r : RegRef) (f : Fld) : (s.setBit r f).hostMem = s.hostMem := rfl
@[simp] theorem setBit_host (s : State) (r : RegRef) (f : Fld) : (s.setBit r f).host = s.host := rfl
@[simp] theorem setBit_mgmt (s : State) (r : RegRef) (f : Fld) : (s.setBit r f).mgmt = s.mgmt := rfl
@[simp] theorem setBit_engines (s : State) (r : RegRef) (f : Fld) : (s.setBit r f).engines = s.engines := rfl
@[simp] theorem setBit_knots (s : State) (r : RegRef) (f : Fld) : (s.setBit r f).knots = s.knots := rfl
@[simp] theorem setBit_hold (s : State) (r : RegRef) (f : Fld) : (s.setBit r f).hold = s.hold := rfl
@[simp] theorem setBit_out (s : State) (r : RegRef) (f : Fld) : (s.setBit r f).out = s.out := rfl
@[simp] theorem setBit_free (s : State) (r : RegRef) (f : Fld) : (s.setBit r f).free = s.free := rfl
@[simp] theorem setBit_pending (s : State) (r : RegRef) (f : Fld) : (s.setBit r f).pending = s.pending := rfl

/-! ## countN -/

@[simp] theorem countN_heldLow (s : State) (r : RegRef) (n : Nat) : (s.countN r n).heldLow = s.heldLow := rfl
@[simp] theorem countN_capHigh (s : State) (r : RegRef) (n : Nat) : (s.countN r n).capHigh = s.capHigh := rfl
@[simp] theorem countN_cycle (s : State) (r : RegRef) (n : Nat) : (s.countN r n).cycle = s.cycle := rfl
@[simp] theorem countN_time (s : State) (r : RegRef) (n : Nat) : (s.countN r n).time = s.time := rfl
@[simp] theorem countN_frames (s : State) (r : RegRef) (n : Nat) : (s.countN r n).frames = s.frames := rfl
@[simp] theorem countN_nextFrame (s : State) (r : RegRef) (n : Nat) : (s.countN r n).nextFrame = s.nextFrame := rfl
@[simp] theorem countN_links (s : State) (r : RegRef) (n : Nat) : (s.countN r n).links = s.links := rfl
@[simp] theorem countN_ports (s : State) (r : RegRef) (n : Nat) : (s.countN r n).ports = s.ports := rfl
@[simp] theorem countN_lanes (s : State) (r : RegRef) (n : Nat) : (s.countN r n).lanes = s.lanes := rfl
@[simp] theorem countN_lany (s : State) (r : RegRef) (n : Nat) : (s.countN r n).lany = s.lany := rfl
@[simp] theorem countN_dies (s : State) (r : RegRef) (n : Nat) : (s.countN r n).dies = s.dies := rfl
@[simp] theorem countN_tabs (s : State) (r : RegRef) (n : Nat) : (s.countN r n).tabs = s.tabs := rfl
@[simp] theorem countN_integ (s : State) (r : RegRef) (n : Nat) : (s.countN r n).integ = s.integ := rfl
@[simp] theorem countN_pwr (s : State) (r : RegRef) (n : Nat) : (s.countN r n).pwr = s.pwr := rfl
@[simp] theorem countN_hostMem (s : State) (r : RegRef) (n : Nat) : (s.countN r n).hostMem = s.hostMem := rfl
@[simp] theorem countN_host (s : State) (r : RegRef) (n : Nat) : (s.countN r n).host = s.host := rfl
@[simp] theorem countN_mgmt (s : State) (r : RegRef) (n : Nat) : (s.countN r n).mgmt = s.mgmt := rfl
@[simp] theorem countN_engines (s : State) (r : RegRef) (n : Nat) : (s.countN r n).engines = s.engines := rfl
@[simp] theorem countN_knots (s : State) (r : RegRef) (n : Nat) : (s.countN r n).knots = s.knots := rfl
@[simp] theorem countN_hold (s : State) (r : RegRef) (n : Nat) : (s.countN r n).hold = s.hold := rfl
@[simp] theorem countN_out (s : State) (r : RegRef) (n : Nat) : (s.countN r n).out = s.out := rfl
@[simp] theorem countN_free (s : State) (r : RegRef) (n : Nat) : (s.countN r n).free = s.free := rfl
@[simp] theorem countN_pending (s : State) (r : RegRef) (n : Nat) : (s.countN r n).pending = s.pending := rfl

/-! ## count -/

@[simp] theorem count_heldLow (s : State) (r : RegRef) : (s.count r).heldLow = s.heldLow := rfl
@[simp] theorem count_capHigh (s : State) (r : RegRef) : (s.count r).capHigh = s.capHigh := rfl
@[simp] theorem count_cycle (s : State) (r : RegRef) : (s.count r).cycle = s.cycle := rfl
@[simp] theorem count_time (s : State) (r : RegRef) : (s.count r).time = s.time := rfl
@[simp] theorem count_frames (s : State) (r : RegRef) : (s.count r).frames = s.frames := rfl
@[simp] theorem count_nextFrame (s : State) (r : RegRef) : (s.count r).nextFrame = s.nextFrame := rfl
@[simp] theorem count_links (s : State) (r : RegRef) : (s.count r).links = s.links := rfl
@[simp] theorem count_ports (s : State) (r : RegRef) : (s.count r).ports = s.ports := rfl
@[simp] theorem count_lanes (s : State) (r : RegRef) : (s.count r).lanes = s.lanes := rfl
@[simp] theorem count_lany (s : State) (r : RegRef) : (s.count r).lany = s.lany := rfl
@[simp] theorem count_dies (s : State) (r : RegRef) : (s.count r).dies = s.dies := rfl
@[simp] theorem count_tabs (s : State) (r : RegRef) : (s.count r).tabs = s.tabs := rfl
@[simp] theorem count_integ (s : State) (r : RegRef) : (s.count r).integ = s.integ := rfl
@[simp] theorem count_pwr (s : State) (r : RegRef) : (s.count r).pwr = s.pwr := rfl
@[simp] theorem count_hostMem (s : State) (r : RegRef) : (s.count r).hostMem = s.hostMem := rfl
@[simp] theorem count_host (s : State) (r : RegRef) : (s.count r).host = s.host := rfl
@[simp] theorem count_mgmt (s : State) (r : RegRef) : (s.count r).mgmt = s.mgmt := rfl
@[simp] theorem count_engines (s : State) (r : RegRef) : (s.count r).engines = s.engines := rfl
@[simp] theorem count_knots (s : State) (r : RegRef) : (s.count r).knots = s.knots := rfl
@[simp] theorem count_hold (s : State) (r : RegRef) : (s.count r).hold = s.hold := rfl
@[simp] theorem count_out (s : State) (r : RegRef) : (s.count r).out = s.out := rfl
@[simp] theorem count_free (s : State) (r : RegRef) : (s.count r).free = s.free := rfl
@[simp] theorem count_pending (s : State) (r : RegRef) : (s.count r).pending = s.pending := rfl

/-! ## wr64 -/

@[simp] theorem wr64_heldLow (s : State) (l h : RegRef) (n : Nat) : (s.wr64 l h n).heldLow = s.heldLow := rfl
@[simp] theorem wr64_capHigh (s : State) (l h : RegRef) (n : Nat) : (s.wr64 l h n).capHigh = s.capHigh := rfl
@[simp] theorem wr64_cycle (s : State) (l h : RegRef) (n : Nat) : (s.wr64 l h n).cycle = s.cycle := rfl
@[simp] theorem wr64_time (s : State) (l h : RegRef) (n : Nat) : (s.wr64 l h n).time = s.time := rfl
@[simp] theorem wr64_frames (s : State) (l h : RegRef) (n : Nat) : (s.wr64 l h n).frames = s.frames := rfl
@[simp] theorem wr64_nextFrame (s : State) (l h : RegRef) (n : Nat) : (s.wr64 l h n).nextFrame = s.nextFrame := rfl
@[simp] theorem wr64_links (s : State) (l h : RegRef) (n : Nat) : (s.wr64 l h n).links = s.links := rfl
@[simp] theorem wr64_ports (s : State) (l h : RegRef) (n : Nat) : (s.wr64 l h n).ports = s.ports := rfl
@[simp] theorem wr64_lanes (s : State) (l h : RegRef) (n : Nat) : (s.wr64 l h n).lanes = s.lanes := rfl
@[simp] theorem wr64_lany (s : State) (l h : RegRef) (n : Nat) : (s.wr64 l h n).lany = s.lany := rfl
@[simp] theorem wr64_dies (s : State) (l h : RegRef) (n : Nat) : (s.wr64 l h n).dies = s.dies := rfl
@[simp] theorem wr64_tabs (s : State) (l h : RegRef) (n : Nat) : (s.wr64 l h n).tabs = s.tabs := rfl
@[simp] theorem wr64_integ (s : State) (l h : RegRef) (n : Nat) : (s.wr64 l h n).integ = s.integ := rfl
@[simp] theorem wr64_pwr (s : State) (l h : RegRef) (n : Nat) : (s.wr64 l h n).pwr = s.pwr := rfl
@[simp] theorem wr64_hostMem (s : State) (l h : RegRef) (n : Nat) : (s.wr64 l h n).hostMem = s.hostMem := rfl
@[simp] theorem wr64_host (s : State) (l h : RegRef) (n : Nat) : (s.wr64 l h n).host = s.host := rfl
@[simp] theorem wr64_mgmt (s : State) (l h : RegRef) (n : Nat) : (s.wr64 l h n).mgmt = s.mgmt := rfl
@[simp] theorem wr64_engines (s : State) (l h : RegRef) (n : Nat) : (s.wr64 l h n).engines = s.engines := rfl
@[simp] theorem wr64_knots (s : State) (l h : RegRef) (n : Nat) : (s.wr64 l h n).knots = s.knots := rfl
@[simp] theorem wr64_hold (s : State) (l h : RegRef) (n : Nat) : (s.wr64 l h n).hold = s.hold := rfl
@[simp] theorem wr64_out (s : State) (l h : RegRef) (n : Nat) : (s.wr64 l h n).out = s.out := rfl
@[simp] theorem wr64_free (s : State) (l h : RegRef) (n : Nat) : (s.wr64 l h n).free = s.free := rfl
@[simp] theorem wr64_pending (s : State) (l h : RegRef) (n : Nat) : (s.wr64 l h n).pending = s.pending := rfl

/-! ## drawFree -/

@[simp] theorem drawFree_regs (s : State) (w : Nat) : ((s.drawFree w).2).regs = s.regs := rfl
@[simp] theorem drawFree_heldLow (s : State) (w : Nat) : ((s.drawFree w).2).heldLow = s.heldLow := rfl
@[simp] theorem drawFree_capHigh (s : State) (w : Nat) : ((s.drawFree w).2).capHigh = s.capHigh := rfl
@[simp] theorem drawFree_cycle (s : State) (w : Nat) : ((s.drawFree w).2).cycle = s.cycle := rfl
@[simp] theorem drawFree_time (s : State) (w : Nat) : ((s.drawFree w).2).time = s.time := rfl
@[simp] theorem drawFree_frames (s : State) (w : Nat) : ((s.drawFree w).2).frames = s.frames := rfl
@[simp] theorem drawFree_nextFrame (s : State) (w : Nat) : ((s.drawFree w).2).nextFrame = s.nextFrame := rfl
@[simp] theorem drawFree_links (s : State) (w : Nat) : ((s.drawFree w).2).links = s.links := rfl
@[simp] theorem drawFree_ports (s : State) (w : Nat) : ((s.drawFree w).2).ports = s.ports := rfl
@[simp] theorem drawFree_lanes (s : State) (w : Nat) : ((s.drawFree w).2).lanes = s.lanes := rfl
@[simp] theorem drawFree_lany (s : State) (w : Nat) : ((s.drawFree w).2).lany = s.lany := rfl
@[simp] theorem drawFree_dies (s : State) (w : Nat) : ((s.drawFree w).2).dies = s.dies := rfl
@[simp] theorem drawFree_tabs (s : State) (w : Nat) : ((s.drawFree w).2).tabs = s.tabs := rfl
@[simp] theorem drawFree_integ (s : State) (w : Nat) : ((s.drawFree w).2).integ = s.integ := rfl
@[simp] theorem drawFree_pwr (s : State) (w : Nat) : ((s.drawFree w).2).pwr = s.pwr := rfl
@[simp] theorem drawFree_hostMem (s : State) (w : Nat) : ((s.drawFree w).2).hostMem = s.hostMem := rfl
@[simp] theorem drawFree_host (s : State) (w : Nat) : ((s.drawFree w).2).host = s.host := rfl
@[simp] theorem drawFree_mgmt (s : State) (w : Nat) : ((s.drawFree w).2).mgmt = s.mgmt := rfl
@[simp] theorem drawFree_engines (s : State) (w : Nat) : ((s.drawFree w).2).engines = s.engines := rfl
@[simp] theorem drawFree_knots (s : State) (w : Nat) : ((s.drawFree w).2).knots = s.knots := rfl
@[simp] theorem drawFree_hold (s : State) (w : Nat) : ((s.drawFree w).2).hold = s.hold := rfl
@[simp] theorem drawFree_out (s : State) (w : Nat) : ((s.drawFree w).2).out = s.out := rfl
@[simp] theorem drawFree_pending (s : State) (w : Nat) : ((s.drawFree w).2).pending = s.pending := rfl

/-! ## emit -/

@[simp] theorem emit_regs (s : State) (o : Out) : (s.emit o).regs = s.regs := rfl
@[simp] theorem emit_heldLow (s : State) (o : Out) : (s.emit o).heldLow = s.heldLow := rfl
@[simp] theorem emit_capHigh (s : State) (o : Out) : (s.emit o).capHigh = s.capHigh := rfl
@[simp] theorem emit_cycle (s : State) (o : Out) : (s.emit o).cycle = s.cycle := rfl
@[simp] theorem emit_time (s : State) (o : Out) : (s.emit o).time = s.time := rfl
@[simp] theorem emit_frames (s : State) (o : Out) : (s.emit o).frames = s.frames := rfl
@[simp] theorem emit_nextFrame (s : State) (o : Out) : (s.emit o).nextFrame = s.nextFrame := rfl
@[simp] theorem emit_links (s : State) (o : Out) : (s.emit o).links = s.links := rfl
@[simp] theorem emit_ports (s : State) (o : Out) : (s.emit o).ports = s.ports := rfl
@[simp] theorem emit_lanes (s : State) (o : Out) : (s.emit o).lanes = s.lanes := rfl
@[simp] theorem emit_lany (s : State) (o : Out) : (s.emit o).lany = s.lany := rfl
@[simp] theorem emit_dies (s : State) (o : Out) : (s.emit o).dies = s.dies := rfl
@[simp] theorem emit_tabs (s : State) (o : Out) : (s.emit o).tabs = s.tabs := rfl
@[simp] theorem emit_integ (s : State) (o : Out) : (s.emit o).integ = s.integ := rfl
@[simp] theorem emit_pwr (s : State) (o : Out) : (s.emit o).pwr = s.pwr := rfl
@[simp] theorem emit_hostMem (s : State) (o : Out) : (s.emit o).hostMem = s.hostMem := rfl
@[simp] theorem emit_host (s : State) (o : Out) : (s.emit o).host = s.host := rfl
@[simp] theorem emit_mgmt (s : State) (o : Out) : (s.emit o).mgmt = s.mgmt := rfl
@[simp] theorem emit_engines (s : State) (o : Out) : (s.emit o).engines = s.engines := rfl
@[simp] theorem emit_knots (s : State) (o : Out) : (s.emit o).knots = s.knots := rfl
@[simp] theorem emit_hold (s : State) (o : Out) : (s.emit o).hold = s.hold := rfl
@[simp] theorem emit_free (s : State) (o : Out) : (s.emit o).free = s.free := rfl
@[simp] theorem emit_pending (s : State) (o : Out) : (s.emit o).pending = s.pending := rfl

/-! ## setPort -/

@[simp] theorem setPort_regs (s : State) (d p : Nat) (x : Port) : (s.setPort d p x).regs = s.regs := rfl
@[simp] theorem setPort_heldLow (s : State) (d p : Nat) (x : Port) : (s.setPort d p x).heldLow = s.heldLow := rfl
@[simp] theorem setPort_capHigh (s : State) (d p : Nat) (x : Port) : (s.setPort d p x).capHigh = s.capHigh := rfl
@[simp] theorem setPort_cycle (s : State) (d p : Nat) (x : Port) : (s.setPort d p x).cycle = s.cycle := rfl
@[simp] theorem setPort_time (s : State) (d p : Nat) (x : Port) : (s.setPort d p x).time = s.time := rfl
@[simp] theorem setPort_frames (s : State) (d p : Nat) (x : Port) : (s.setPort d p x).frames = s.frames := rfl
@[simp] theorem setPort_nextFrame (s : State) (d p : Nat) (x : Port) : (s.setPort d p x).nextFrame = s.nextFrame := rfl
@[simp] theorem setPort_links (s : State) (d p : Nat) (x : Port) : (s.setPort d p x).links = s.links := rfl
@[simp] theorem setPort_lanes (s : State) (d p : Nat) (x : Port) : (s.setPort d p x).lanes = s.lanes := rfl
@[simp] theorem setPort_lany (s : State) (d p : Nat) (x : Port) : (s.setPort d p x).lany = s.lany := rfl
@[simp] theorem setPort_dies (s : State) (d p : Nat) (x : Port) : (s.setPort d p x).dies = s.dies := rfl
@[simp] theorem setPort_tabs (s : State) (d p : Nat) (x : Port) : (s.setPort d p x).tabs = s.tabs := rfl
@[simp] theorem setPort_integ (s : State) (d p : Nat) (x : Port) : (s.setPort d p x).integ = s.integ := rfl
@[simp] theorem setPort_pwr (s : State) (d p : Nat) (x : Port) : (s.setPort d p x).pwr = s.pwr := rfl
@[simp] theorem setPort_hostMem (s : State) (d p : Nat) (x : Port) : (s.setPort d p x).hostMem = s.hostMem := rfl
@[simp] theorem setPort_host (s : State) (d p : Nat) (x : Port) : (s.setPort d p x).host = s.host := rfl
@[simp] theorem setPort_mgmt (s : State) (d p : Nat) (x : Port) : (s.setPort d p x).mgmt = s.mgmt := rfl
@[simp] theorem setPort_engines (s : State) (d p : Nat) (x : Port) : (s.setPort d p x).engines = s.engines := rfl
@[simp] theorem setPort_knots (s : State) (d p : Nat) (x : Port) : (s.setPort d p x).knots = s.knots := rfl
@[simp] theorem setPort_hold (s : State) (d p : Nat) (x : Port) : (s.setPort d p x).hold = s.hold := rfl
@[simp] theorem setPort_out (s : State) (d p : Nat) (x : Port) : (s.setPort d p x).out = s.out := rfl
@[simp] theorem setPort_free (s : State) (d p : Nat) (x : Port) : (s.setPort d p x).free = s.free := rfl
@[simp] theorem setPort_pending (s : State) (d p : Nat) (x : Port) : (s.setPort d p x).pending = s.pending := rfl

/-! ## updPort -/

@[simp] theorem updPort_regs (s : State) (d p : Nat) (f : Port → Port) : (s.updPort d p f).regs = s.regs := rfl
@[simp] theorem updPort_heldLow (s : State) (d p : Nat) (f : Port → Port) : (s.updPort d p f).heldLow = s.heldLow := rfl
@[simp] theorem updPort_capHigh (s : State) (d p : Nat) (f : Port → Port) : (s.updPort d p f).capHigh = s.capHigh := rfl
@[simp] theorem updPort_cycle (s : State) (d p : Nat) (f : Port → Port) : (s.updPort d p f).cycle = s.cycle := rfl
@[simp] theorem updPort_time (s : State) (d p : Nat) (f : Port → Port) : (s.updPort d p f).time = s.time := rfl
@[simp] theorem updPort_frames (s : State) (d p : Nat) (f : Port → Port) : (s.updPort d p f).frames = s.frames := rfl
@[simp] theorem updPort_nextFrame (s : State) (d p : Nat) (f : Port → Port) : (s.updPort d p f).nextFrame = s.nextFrame := rfl
@[simp] theorem updPort_links (s : State) (d p : Nat) (f : Port → Port) : (s.updPort d p f).links = s.links := rfl
@[simp] theorem updPort_lanes (s : State) (d p : Nat) (f : Port → Port) : (s.updPort d p f).lanes = s.lanes := rfl
@[simp] theorem updPort_lany (s : State) (d p : Nat) (f : Port → Port) : (s.updPort d p f).lany = s.lany := rfl
@[simp] theorem updPort_dies (s : State) (d p : Nat) (f : Port → Port) : (s.updPort d p f).dies = s.dies := rfl
@[simp] theorem updPort_tabs (s : State) (d p : Nat) (f : Port → Port) : (s.updPort d p f).tabs = s.tabs := rfl
@[simp] theorem updPort_integ (s : State) (d p : Nat) (f : Port → Port) : (s.updPort d p f).integ = s.integ := rfl
@[simp] theorem updPort_pwr (s : State) (d p : Nat) (f : Port → Port) : (s.updPort d p f).pwr = s.pwr := rfl
@[simp] theorem updPort_hostMem (s : State) (d p : Nat) (f : Port → Port) : (s.updPort d p f).hostMem = s.hostMem := rfl
@[simp] theorem updPort_host (s : State) (d p : Nat) (f : Port → Port) : (s.updPort d p f).host = s.host := rfl
@[simp] theorem updPort_mgmt (s : State) (d p : Nat) (f : Port → Port) : (s.updPort d p f).mgmt = s.mgmt := rfl
@[simp] theorem updPort_engines (s : State) (d p : Nat) (f : Port → Port) : (s.updPort d p f).engines = s.engines := rfl
@[simp] theorem updPort_knots (s : State) (d p : Nat) (f : Port → Port) : (s.updPort d p f).knots = s.knots := rfl
@[simp] theorem updPort_hold (s : State) (d p : Nat) (f : Port → Port) : (s.updPort d p f).hold = s.hold := rfl
@[simp] theorem updPort_out (s : State) (d p : Nat) (f : Port → Port) : (s.updPort d p f).out = s.out := rfl
@[simp] theorem updPort_free (s : State) (d p : Nat) (f : Port → Port) : (s.updPort d p f).free = s.free := rfl
@[simp] theorem updPort_pending (s : State) (d p : Nat) (f : Port → Port) : (s.updPort d p f).pending = s.pending := rfl

/-! ## setLane -/

@[simp] theorem setLane_regs (s : State) (d n : Nat) (x : Lane) : (s.setLane d n x).regs = s.regs := rfl
@[simp] theorem setLane_heldLow (s : State) (d n : Nat) (x : Lane) : (s.setLane d n x).heldLow = s.heldLow := rfl
@[simp] theorem setLane_capHigh (s : State) (d n : Nat) (x : Lane) : (s.setLane d n x).capHigh = s.capHigh := rfl
@[simp] theorem setLane_cycle (s : State) (d n : Nat) (x : Lane) : (s.setLane d n x).cycle = s.cycle := rfl
@[simp] theorem setLane_time (s : State) (d n : Nat) (x : Lane) : (s.setLane d n x).time = s.time := rfl
@[simp] theorem setLane_frames (s : State) (d n : Nat) (x : Lane) : (s.setLane d n x).frames = s.frames := rfl
@[simp] theorem setLane_nextFrame (s : State) (d n : Nat) (x : Lane) : (s.setLane d n x).nextFrame = s.nextFrame := rfl
@[simp] theorem setLane_links (s : State) (d n : Nat) (x : Lane) : (s.setLane d n x).links = s.links := rfl
@[simp] theorem setLane_ports (s : State) (d n : Nat) (x : Lane) : (s.setLane d n x).ports = s.ports := rfl
@[simp] theorem setLane_lany (s : State) (d n : Nat) (x : Lane) : (s.setLane d n x).lany = s.lany := rfl
@[simp] theorem setLane_dies (s : State) (d n : Nat) (x : Lane) : (s.setLane d n x).dies = s.dies := rfl
@[simp] theorem setLane_tabs (s : State) (d n : Nat) (x : Lane) : (s.setLane d n x).tabs = s.tabs := rfl
@[simp] theorem setLane_integ (s : State) (d n : Nat) (x : Lane) : (s.setLane d n x).integ = s.integ := rfl
@[simp] theorem setLane_pwr (s : State) (d n : Nat) (x : Lane) : (s.setLane d n x).pwr = s.pwr := rfl
@[simp] theorem setLane_hostMem (s : State) (d n : Nat) (x : Lane) : (s.setLane d n x).hostMem = s.hostMem := rfl
@[simp] theorem setLane_host (s : State) (d n : Nat) (x : Lane) : (s.setLane d n x).host = s.host := rfl
@[simp] theorem setLane_mgmt (s : State) (d n : Nat) (x : Lane) : (s.setLane d n x).mgmt = s.mgmt := rfl
@[simp] theorem setLane_engines (s : State) (d n : Nat) (x : Lane) : (s.setLane d n x).engines = s.engines := rfl
@[simp] theorem setLane_knots (s : State) (d n : Nat) (x : Lane) : (s.setLane d n x).knots = s.knots := rfl
@[simp] theorem setLane_hold (s : State) (d n : Nat) (x : Lane) : (s.setLane d n x).hold = s.hold := rfl
@[simp] theorem setLane_out (s : State) (d n : Nat) (x : Lane) : (s.setLane d n x).out = s.out := rfl
@[simp] theorem setLane_free (s : State) (d n : Nat) (x : Lane) : (s.setLane d n x).free = s.free := rfl
@[simp] theorem setLane_pending (s : State) (d n : Nat) (x : Lane) : (s.setLane d n x).pending = s.pending := rfl

/-! ## updLane -/

@[simp] theorem updLane_regs (s : State) (d n : Nat) (f : Lane → Lane) : (s.updLane d n f).regs = s.regs := rfl
@[simp] theorem updLane_heldLow (s : State) (d n : Nat) (f : Lane → Lane) : (s.updLane d n f).heldLow = s.heldLow := rfl
@[simp] theorem updLane_capHigh (s : State) (d n : Nat) (f : Lane → Lane) : (s.updLane d n f).capHigh = s.capHigh := rfl
@[simp] theorem updLane_cycle (s : State) (d n : Nat) (f : Lane → Lane) : (s.updLane d n f).cycle = s.cycle := rfl
@[simp] theorem updLane_time (s : State) (d n : Nat) (f : Lane → Lane) : (s.updLane d n f).time = s.time := rfl
@[simp] theorem updLane_frames (s : State) (d n : Nat) (f : Lane → Lane) : (s.updLane d n f).frames = s.frames := rfl
@[simp] theorem updLane_nextFrame (s : State) (d n : Nat) (f : Lane → Lane) : (s.updLane d n f).nextFrame = s.nextFrame := rfl
@[simp] theorem updLane_links (s : State) (d n : Nat) (f : Lane → Lane) : (s.updLane d n f).links = s.links := rfl
@[simp] theorem updLane_ports (s : State) (d n : Nat) (f : Lane → Lane) : (s.updLane d n f).ports = s.ports := rfl
@[simp] theorem updLane_lany (s : State) (d n : Nat) (f : Lane → Lane) : (s.updLane d n f).lany = s.lany := rfl
@[simp] theorem updLane_dies (s : State) (d n : Nat) (f : Lane → Lane) : (s.updLane d n f).dies = s.dies := rfl
@[simp] theorem updLane_tabs (s : State) (d n : Nat) (f : Lane → Lane) : (s.updLane d n f).tabs = s.tabs := rfl
@[simp] theorem updLane_integ (s : State) (d n : Nat) (f : Lane → Lane) : (s.updLane d n f).integ = s.integ := rfl
@[simp] theorem updLane_pwr (s : State) (d n : Nat) (f : Lane → Lane) : (s.updLane d n f).pwr = s.pwr := rfl
@[simp] theorem updLane_hostMem (s : State) (d n : Nat) (f : Lane → Lane) : (s.updLane d n f).hostMem = s.hostMem := rfl
@[simp] theorem updLane_host (s : State) (d n : Nat) (f : Lane → Lane) : (s.updLane d n f).host = s.host := rfl
@[simp] theorem updLane_mgmt (s : State) (d n : Nat) (f : Lane → Lane) : (s.updLane d n f).mgmt = s.mgmt := rfl
@[simp] theorem updLane_engines (s : State) (d n : Nat) (f : Lane → Lane) : (s.updLane d n f).engines = s.engines := rfl
@[simp] theorem updLane_knots (s : State) (d n : Nat) (f : Lane → Lane) : (s.updLane d n f).knots = s.knots := rfl
@[simp] theorem updLane_hold (s : State) (d n : Nat) (f : Lane → Lane) : (s.updLane d n f).hold = s.hold := rfl
@[simp] theorem updLane_out (s : State) (d n : Nat) (f : Lane → Lane) : (s.updLane d n f).out = s.out := rfl
@[simp] theorem updLane_free (s : State) (d n : Nat) (f : Lane → Lane) : (s.updLane d n f).free = s.free := rfl
@[simp] theorem updLane_pending (s : State) (d n : Nat) (f : Lane → Lane) : (s.updLane d n f).pending = s.pending := rfl

/-! ## setDie -/

@[simp] theorem setDie_regs (s : State) (d : Nat) (x : Die) : (s.setDie d x).regs = s.regs := rfl
@[simp] theorem setDie_heldLow (s : State) (d : Nat) (x : Die) : (s.setDie d x).heldLow = s.heldLow := rfl
@[simp] theorem setDie_capHigh (s : State) (d : Nat) (x : Die) : (s.setDie d x).capHigh = s.capHigh := rfl
@[simp] theorem setDie_cycle (s : State) (d : Nat) (x : Die) : (s.setDie d x).cycle = s.cycle := rfl
@[simp] theorem setDie_time (s : State) (d : Nat) (x : Die) : (s.setDie d x).time = s.time := rfl
@[simp] theorem setDie_frames (s : State) (d : Nat) (x : Die) : (s.setDie d x).frames = s.frames := rfl
@[simp] theorem setDie_nextFrame (s : State) (d : Nat) (x : Die) : (s.setDie d x).nextFrame = s.nextFrame := rfl
@[simp] theorem setDie_links (s : State) (d : Nat) (x : Die) : (s.setDie d x).links = s.links := rfl
@[simp] theorem setDie_ports (s : State) (d : Nat) (x : Die) : (s.setDie d x).ports = s.ports := rfl
@[simp] theorem setDie_lanes (s : State) (d : Nat) (x : Die) : (s.setDie d x).lanes = s.lanes := rfl
@[simp] theorem setDie_lany (s : State) (d : Nat) (x : Die) : (s.setDie d x).lany = s.lany := rfl
@[simp] theorem setDie_tabs (s : State) (d : Nat) (x : Die) : (s.setDie d x).tabs = s.tabs := rfl
@[simp] theorem setDie_integ (s : State) (d : Nat) (x : Die) : (s.setDie d x).integ = s.integ := rfl
@[simp] theorem setDie_pwr (s : State) (d : Nat) (x : Die) : (s.setDie d x).pwr = s.pwr := rfl
@[simp] theorem setDie_hostMem (s : State) (d : Nat) (x : Die) : (s.setDie d x).hostMem = s.hostMem := rfl
@[simp] theorem setDie_host (s : State) (d : Nat) (x : Die) : (s.setDie d x).host = s.host := rfl
@[simp] theorem setDie_mgmt (s : State) (d : Nat) (x : Die) : (s.setDie d x).mgmt = s.mgmt := rfl
@[simp] theorem setDie_engines (s : State) (d : Nat) (x : Die) : (s.setDie d x).engines = s.engines := rfl
@[simp] theorem setDie_knots (s : State) (d : Nat) (x : Die) : (s.setDie d x).knots = s.knots := rfl
@[simp] theorem setDie_hold (s : State) (d : Nat) (x : Die) : (s.setDie d x).hold = s.hold := rfl
@[simp] theorem setDie_out (s : State) (d : Nat) (x : Die) : (s.setDie d x).out = s.out := rfl
@[simp] theorem setDie_free (s : State) (d : Nat) (x : Die) : (s.setDie d x).free = s.free := rfl
@[simp] theorem setDie_pending (s : State) (d : Nat) (x : Die) : (s.setDie d x).pending = s.pending := rfl

/-! ## updDie -/

@[simp] theorem updDie_regs (s : State) (d : Nat) (f : Die → Die) : (s.updDie d f).regs = s.regs := rfl
@[simp] theorem updDie_heldLow (s : State) (d : Nat) (f : Die → Die) : (s.updDie d f).heldLow = s.heldLow := rfl
@[simp] theorem updDie_capHigh (s : State) (d : Nat) (f : Die → Die) : (s.updDie d f).capHigh = s.capHigh := rfl
@[simp] theorem updDie_cycle (s : State) (d : Nat) (f : Die → Die) : (s.updDie d f).cycle = s.cycle := rfl
@[simp] theorem updDie_time (s : State) (d : Nat) (f : Die → Die) : (s.updDie d f).time = s.time := rfl
@[simp] theorem updDie_frames (s : State) (d : Nat) (f : Die → Die) : (s.updDie d f).frames = s.frames := rfl
@[simp] theorem updDie_nextFrame (s : State) (d : Nat) (f : Die → Die) : (s.updDie d f).nextFrame = s.nextFrame := rfl
@[simp] theorem updDie_links (s : State) (d : Nat) (f : Die → Die) : (s.updDie d f).links = s.links := rfl
@[simp] theorem updDie_ports (s : State) (d : Nat) (f : Die → Die) : (s.updDie d f).ports = s.ports := rfl
@[simp] theorem updDie_lanes (s : State) (d : Nat) (f : Die → Die) : (s.updDie d f).lanes = s.lanes := rfl
@[simp] theorem updDie_lany (s : State) (d : Nat) (f : Die → Die) : (s.updDie d f).lany = s.lany := rfl
@[simp] theorem updDie_tabs (s : State) (d : Nat) (f : Die → Die) : (s.updDie d f).tabs = s.tabs := rfl
@[simp] theorem updDie_integ (s : State) (d : Nat) (f : Die → Die) : (s.updDie d f).integ = s.integ := rfl
@[simp] theorem updDie_pwr (s : State) (d : Nat) (f : Die → Die) : (s.updDie d f).pwr = s.pwr := rfl
@[simp] theorem updDie_hostMem (s : State) (d : Nat) (f : Die → Die) : (s.updDie d f).hostMem = s.hostMem := rfl
@[simp] theorem updDie_host (s : State) (d : Nat) (f : Die → Die) : (s.updDie d f).host = s.host := rfl
@[simp] theorem updDie_mgmt (s : State) (d : Nat) (f : Die → Die) : (s.updDie d f).mgmt = s.mgmt := rfl
@[simp] theorem updDie_engines (s : State) (d : Nat) (f : Die → Die) : (s.updDie d f).engines = s.engines := rfl
@[simp] theorem updDie_knots (s : State) (d : Nat) (f : Die → Die) : (s.updDie d f).knots = s.knots := rfl
@[simp] theorem updDie_hold (s : State) (d : Nat) (f : Die → Die) : (s.updDie d f).hold = s.hold := rfl
@[simp] theorem updDie_out (s : State) (d : Nat) (f : Die → Die) : (s.updDie d f).out = s.out := rfl
@[simp] theorem updDie_free (s : State) (d : Nat) (f : Die → Die) : (s.updDie d f).free = s.free := rfl
@[simp] theorem updDie_pending (s : State) (d : Nat) (f : Die → Die) : (s.updDie d f).pending = s.pending := rfl

/-! ## setLink -/

@[simp] theorem setLink_regs (s : State) (a b : Nat) (x : Link) : (s.setLink a b x).regs = s.regs := rfl
@[simp] theorem setLink_heldLow (s : State) (a b : Nat) (x : Link) : (s.setLink a b x).heldLow = s.heldLow := rfl
@[simp] theorem setLink_capHigh (s : State) (a b : Nat) (x : Link) : (s.setLink a b x).capHigh = s.capHigh := rfl
@[simp] theorem setLink_cycle (s : State) (a b : Nat) (x : Link) : (s.setLink a b x).cycle = s.cycle := rfl
@[simp] theorem setLink_time (s : State) (a b : Nat) (x : Link) : (s.setLink a b x).time = s.time := rfl
@[simp] theorem setLink_frames (s : State) (a b : Nat) (x : Link) : (s.setLink a b x).frames = s.frames := rfl
@[simp] theorem setLink_nextFrame (s : State) (a b : Nat) (x : Link) : (s.setLink a b x).nextFrame = s.nextFrame := rfl
@[simp] theorem setLink_ports (s : State) (a b : Nat) (x : Link) : (s.setLink a b x).ports = s.ports := rfl
@[simp] theorem setLink_lanes (s : State) (a b : Nat) (x : Link) : (s.setLink a b x).lanes = s.lanes := rfl
@[simp] theorem setLink_lany (s : State) (a b : Nat) (x : Link) : (s.setLink a b x).lany = s.lany := rfl
@[simp] theorem setLink_dies (s : State) (a b : Nat) (x : Link) : (s.setLink a b x).dies = s.dies := rfl
@[simp] theorem setLink_tabs (s : State) (a b : Nat) (x : Link) : (s.setLink a b x).tabs = s.tabs := rfl
@[simp] theorem setLink_integ (s : State) (a b : Nat) (x : Link) : (s.setLink a b x).integ = s.integ := rfl
@[simp] theorem setLink_pwr (s : State) (a b : Nat) (x : Link) : (s.setLink a b x).pwr = s.pwr := rfl
@[simp] theorem setLink_hostMem (s : State) (a b : Nat) (x : Link) : (s.setLink a b x).hostMem = s.hostMem := rfl
@[simp] theorem setLink_host (s : State) (a b : Nat) (x : Link) : (s.setLink a b x).host = s.host := rfl
@[simp] theorem setLink_mgmt (s : State) (a b : Nat) (x : Link) : (s.setLink a b x).mgmt = s.mgmt := rfl
@[simp] theorem setLink_engines (s : State) (a b : Nat) (x : Link) : (s.setLink a b x).engines = s.engines := rfl
@[simp] theorem setLink_knots (s : State) (a b : Nat) (x : Link) : (s.setLink a b x).knots = s.knots := rfl
@[simp] theorem setLink_hold (s : State) (a b : Nat) (x : Link) : (s.setLink a b x).hold = s.hold := rfl
@[simp] theorem setLink_out (s : State) (a b : Nat) (x : Link) : (s.setLink a b x).out = s.out := rfl
@[simp] theorem setLink_free (s : State) (a b : Nat) (x : Link) : (s.setLink a b x).free = s.free := rfl
@[simp] theorem setLink_pending (s : State) (a b : Nat) (x : Link) : (s.setLink a b x).pending = s.pending := rfl

/-! ## updLink -/

@[simp] theorem updLink_regs (s : State) (a b : Nat) (f : Link → Link) : (s.updLink a b f).regs = s.regs := rfl
@[simp] theorem updLink_heldLow (s : State) (a b : Nat) (f : Link → Link) : (s.updLink a b f).heldLow = s.heldLow := rfl
@[simp] theorem updLink_capHigh (s : State) (a b : Nat) (f : Link → Link) : (s.updLink a b f).capHigh = s.capHigh := rfl
@[simp] theorem updLink_cycle (s : State) (a b : Nat) (f : Link → Link) : (s.updLink a b f).cycle = s.cycle := rfl
@[simp] theorem updLink_time (s : State) (a b : Nat) (f : Link → Link) : (s.updLink a b f).time = s.time := rfl
@[simp] theorem updLink_frames (s : State) (a b : Nat) (f : Link → Link) : (s.updLink a b f).frames = s.frames := rfl
@[simp] theorem updLink_nextFrame (s : State) (a b : Nat) (f : Link → Link) : (s.updLink a b f).nextFrame = s.nextFrame := rfl
@[simp] theorem updLink_ports (s : State) (a b : Nat) (f : Link → Link) : (s.updLink a b f).ports = s.ports := rfl
@[simp] theorem updLink_lanes (s : State) (a b : Nat) (f : Link → Link) : (s.updLink a b f).lanes = s.lanes := rfl
@[simp] theorem updLink_lany (s : State) (a b : Nat) (f : Link → Link) : (s.updLink a b f).lany = s.lany := rfl
@[simp] theorem updLink_dies (s : State) (a b : Nat) (f : Link → Link) : (s.updLink a b f).dies = s.dies := rfl
@[simp] theorem updLink_tabs (s : State) (a b : Nat) (f : Link → Link) : (s.updLink a b f).tabs = s.tabs := rfl
@[simp] theorem updLink_integ (s : State) (a b : Nat) (f : Link → Link) : (s.updLink a b f).integ = s.integ := rfl
@[simp] theorem updLink_pwr (s : State) (a b : Nat) (f : Link → Link) : (s.updLink a b f).pwr = s.pwr := rfl
@[simp] theorem updLink_hostMem (s : State) (a b : Nat) (f : Link → Link) : (s.updLink a b f).hostMem = s.hostMem := rfl
@[simp] theorem updLink_host (s : State) (a b : Nat) (f : Link → Link) : (s.updLink a b f).host = s.host := rfl
@[simp] theorem updLink_mgmt (s : State) (a b : Nat) (f : Link → Link) : (s.updLink a b f).mgmt = s.mgmt := rfl
@[simp] theorem updLink_engines (s : State) (a b : Nat) (f : Link → Link) : (s.updLink a b f).engines = s.engines := rfl
@[simp] theorem updLink_knots (s : State) (a b : Nat) (f : Link → Link) : (s.updLink a b f).knots = s.knots := rfl
@[simp] theorem updLink_hold (s : State) (a b : Nat) (f : Link → Link) : (s.updLink a b f).hold = s.hold := rfl
@[simp] theorem updLink_out (s : State) (a b : Nat) (f : Link → Link) : (s.updLink a b f).out = s.out := rfl
@[simp] theorem updLink_free (s : State) (a b : Nat) (f : Link → Link) : (s.updLink a b f).free = s.free := rfl
@[simp] theorem updLink_pending (s : State) (a b : Nat) (f : Link → Link) : (s.updLink a b f).pending = s.pending := rfl

/-! ## setLan -/

@[simp] theorem setLan_regs (s : State) (d lp : Nat) (x : Lany) : (s.setLan d lp x).regs = s.regs := rfl
@[simp] theorem setLan_heldLow (s : State) (d lp : Nat) (x : Lany) : (s.setLan d lp x).heldLow = s.heldLow := rfl
@[simp] theorem setLan_capHigh (s : State) (d lp : Nat) (x : Lany) : (s.setLan d lp x).capHigh = s.capHigh := rfl
@[simp] theorem setLan_cycle (s : State) (d lp : Nat) (x : Lany) : (s.setLan d lp x).cycle = s.cycle := rfl
@[simp] theorem setLan_time (s : State) (d lp : Nat) (x : Lany) : (s.setLan d lp x).time = s.time := rfl
@[simp] theorem setLan_frames (s : State) (d lp : Nat) (x : Lany) : (s.setLan d lp x).frames = s.frames := rfl
@[simp] theorem setLan_nextFrame (s : State) (d lp : Nat) (x : Lany) : (s.setLan d lp x).nextFrame = s.nextFrame := rfl
@[simp] theorem setLan_links (s : State) (d lp : Nat) (x : Lany) : (s.setLan d lp x).links = s.links := rfl
@[simp] theorem setLan_ports (s : State) (d lp : Nat) (x : Lany) : (s.setLan d lp x).ports = s.ports := rfl
@[simp] theorem setLan_lanes (s : State) (d lp : Nat) (x : Lany) : (s.setLan d lp x).lanes = s.lanes := rfl
@[simp] theorem setLan_dies (s : State) (d lp : Nat) (x : Lany) : (s.setLan d lp x).dies = s.dies := rfl
@[simp] theorem setLan_tabs (s : State) (d lp : Nat) (x : Lany) : (s.setLan d lp x).tabs = s.tabs := rfl
@[simp] theorem setLan_integ (s : State) (d lp : Nat) (x : Lany) : (s.setLan d lp x).integ = s.integ := rfl
@[simp] theorem setLan_pwr (s : State) (d lp : Nat) (x : Lany) : (s.setLan d lp x).pwr = s.pwr := rfl
@[simp] theorem setLan_hostMem (s : State) (d lp : Nat) (x : Lany) : (s.setLan d lp x).hostMem = s.hostMem := rfl
@[simp] theorem setLan_host (s : State) (d lp : Nat) (x : Lany) : (s.setLan d lp x).host = s.host := rfl
@[simp] theorem setLan_mgmt (s : State) (d lp : Nat) (x : Lany) : (s.setLan d lp x).mgmt = s.mgmt := rfl
@[simp] theorem setLan_engines (s : State) (d lp : Nat) (x : Lany) : (s.setLan d lp x).engines = s.engines := rfl
@[simp] theorem setLan_knots (s : State) (d lp : Nat) (x : Lany) : (s.setLan d lp x).knots = s.knots := rfl
@[simp] theorem setLan_hold (s : State) (d lp : Nat) (x : Lany) : (s.setLan d lp x).hold = s.hold := rfl
@[simp] theorem setLan_out (s : State) (d lp : Nat) (x : Lany) : (s.setLan d lp x).out = s.out := rfl
@[simp] theorem setLan_free (s : State) (d lp : Nat) (x : Lany) : (s.setLan d lp x).free = s.free := rfl
@[simp] theorem setLan_pending (s : State) (d lp : Nat) (x : Lany) : (s.setLan d lp x).pending = s.pending := rfl

/-! ## updLan -/

@[simp] theorem updLan_regs (s : State) (d lp : Nat) (f : Lany → Lany) : (s.updLan d lp f).regs = s.regs := rfl
@[simp] theorem updLan_heldLow (s : State) (d lp : Nat) (f : Lany → Lany) : (s.updLan d lp f).heldLow = s.heldLow := rfl
@[simp] theorem updLan_capHigh (s : State) (d lp : Nat) (f : Lany → Lany) : (s.updLan d lp f).capHigh = s.capHigh := rfl
@[simp] theorem updLan_cycle (s : State) (d lp : Nat) (f : Lany → Lany) : (s.updLan d lp f).cycle = s.cycle := rfl
@[simp] theorem updLan_time (s : State) (d lp : Nat) (f : Lany → Lany) : (s.updLan d lp f).time = s.time := rfl
@[simp] theorem updLan_frames (s : State) (d lp : Nat) (f : Lany → Lany) : (s.updLan d lp f).frames = s.frames := rfl
@[simp] theorem updLan_nextFrame (s : State) (d lp : Nat) (f : Lany → Lany) : (s.updLan d lp f).nextFrame = s.nextFrame := rfl
@[simp] theorem updLan_links (s : State) (d lp : Nat) (f : Lany → Lany) : (s.updLan d lp f).links = s.links := rfl
@[simp] theorem updLan_ports (s : State) (d lp : Nat) (f : Lany → Lany) : (s.updLan d lp f).ports = s.ports := rfl
@[simp] theorem updLan_lanes (s : State) (d lp : Nat) (f : Lany → Lany) : (s.updLan d lp f).lanes = s.lanes := rfl
@[simp] theorem updLan_dies (s : State) (d lp : Nat) (f : Lany → Lany) : (s.updLan d lp f).dies = s.dies := rfl
@[simp] theorem updLan_tabs (s : State) (d lp : Nat) (f : Lany → Lany) : (s.updLan d lp f).tabs = s.tabs := rfl
@[simp] theorem updLan_integ (s : State) (d lp : Nat) (f : Lany → Lany) : (s.updLan d lp f).integ = s.integ := rfl
@[simp] theorem updLan_pwr (s : State) (d lp : Nat) (f : Lany → Lany) : (s.updLan d lp f).pwr = s.pwr := rfl
@[simp] theorem updLan_hostMem (s : State) (d lp : Nat) (f : Lany → Lany) : (s.updLan d lp f).hostMem = s.hostMem := rfl
@[simp] theorem updLan_host (s : State) (d lp : Nat) (f : Lany → Lany) : (s.updLan d lp f).host = s.host := rfl
@[simp] theorem updLan_mgmt (s : State) (d lp : Nat) (f : Lany → Lany) : (s.updLan d lp f).mgmt = s.mgmt := rfl
@[simp] theorem updLan_engines (s : State) (d lp : Nat) (f : Lany → Lany) : (s.updLan d lp f).engines = s.engines := rfl
@[simp] theorem updLan_knots (s : State) (d lp : Nat) (f : Lany → Lany) : (s.updLan d lp f).knots = s.knots := rfl
@[simp] theorem updLan_hold (s : State) (d lp : Nat) (f : Lany → Lany) : (s.updLan d lp f).hold = s.hold := rfl
@[simp] theorem updLan_out (s : State) (d lp : Nat) (f : Lany → Lany) : (s.updLan d lp f).out = s.out := rfl
@[simp] theorem updLan_free (s : State) (d lp : Nat) (f : Lany → Lany) : (s.updLan d lp f).free = s.free := rfl
@[simp] theorem updLan_pending (s : State) (d lp : Nat) (f : Lany → Lany) : (s.updLan d lp f).pending = s.pending := rfl

/-! ## setFrm -/

@[simp] theorem setFrm_regs (s : State) (n : Nat) (f : FrameRec) : (s.setFrm n f).regs = s.regs := rfl
@[simp] theorem setFrm_heldLow (s : State) (n : Nat) (f : FrameRec) : (s.setFrm n f).heldLow = s.heldLow := rfl
@[simp] theorem setFrm_capHigh (s : State) (n : Nat) (f : FrameRec) : (s.setFrm n f).capHigh = s.capHigh := rfl
@[simp] theorem setFrm_cycle (s : State) (n : Nat) (f : FrameRec) : (s.setFrm n f).cycle = s.cycle := rfl
@[simp] theorem setFrm_time (s : State) (n : Nat) (f : FrameRec) : (s.setFrm n f).time = s.time := rfl
@[simp] theorem setFrm_nextFrame (s : State) (n : Nat) (f : FrameRec) : (s.setFrm n f).nextFrame = s.nextFrame := rfl
@[simp] theorem setFrm_links (s : State) (n : Nat) (f : FrameRec) : (s.setFrm n f).links = s.links := rfl
@[simp] theorem setFrm_ports (s : State) (n : Nat) (f : FrameRec) : (s.setFrm n f).ports = s.ports := rfl
@[simp] theorem setFrm_lanes (s : State) (n : Nat) (f : FrameRec) : (s.setFrm n f).lanes = s.lanes := rfl
@[simp] theorem setFrm_lany (s : State) (n : Nat) (f : FrameRec) : (s.setFrm n f).lany = s.lany := rfl
@[simp] theorem setFrm_dies (s : State) (n : Nat) (f : FrameRec) : (s.setFrm n f).dies = s.dies := rfl
@[simp] theorem setFrm_tabs (s : State) (n : Nat) (f : FrameRec) : (s.setFrm n f).tabs = s.tabs := rfl
@[simp] theorem setFrm_integ (s : State) (n : Nat) (f : FrameRec) : (s.setFrm n f).integ = s.integ := rfl
@[simp] theorem setFrm_pwr (s : State) (n : Nat) (f : FrameRec) : (s.setFrm n f).pwr = s.pwr := rfl
@[simp] theorem setFrm_hostMem (s : State) (n : Nat) (f : FrameRec) : (s.setFrm n f).hostMem = s.hostMem := rfl
@[simp] theorem setFrm_host (s : State) (n : Nat) (f : FrameRec) : (s.setFrm n f).host = s.host := rfl
@[simp] theorem setFrm_mgmt (s : State) (n : Nat) (f : FrameRec) : (s.setFrm n f).mgmt = s.mgmt := rfl
@[simp] theorem setFrm_engines (s : State) (n : Nat) (f : FrameRec) : (s.setFrm n f).engines = s.engines := rfl
@[simp] theorem setFrm_knots (s : State) (n : Nat) (f : FrameRec) : (s.setFrm n f).knots = s.knots := rfl
@[simp] theorem setFrm_hold (s : State) (n : Nat) (f : FrameRec) : (s.setFrm n f).hold = s.hold := rfl
@[simp] theorem setFrm_out (s : State) (n : Nat) (f : FrameRec) : (s.setFrm n f).out = s.out := rfl
@[simp] theorem setFrm_free (s : State) (n : Nat) (f : FrameRec) : (s.setFrm n f).free = s.free := rfl
@[simp] theorem setFrm_pending (s : State) (n : Nat) (f : FrameRec) : (s.setFrm n f).pending = s.pending := rfl

/-! ## delFrm -/

@[simp] theorem delFrm_regs (s : State) (n : Nat) : (s.delFrm n).regs = s.regs := rfl
@[simp] theorem delFrm_heldLow (s : State) (n : Nat) : (s.delFrm n).heldLow = s.heldLow := rfl
@[simp] theorem delFrm_capHigh (s : State) (n : Nat) : (s.delFrm n).capHigh = s.capHigh := rfl
@[simp] theorem delFrm_cycle (s : State) (n : Nat) : (s.delFrm n).cycle = s.cycle := rfl
@[simp] theorem delFrm_time (s : State) (n : Nat) : (s.delFrm n).time = s.time := rfl
@[simp] theorem delFrm_nextFrame (s : State) (n : Nat) : (s.delFrm n).nextFrame = s.nextFrame := rfl
@[simp] theorem delFrm_links (s : State) (n : Nat) : (s.delFrm n).links = s.links := rfl
@[simp] theorem delFrm_ports (s : State) (n : Nat) : (s.delFrm n).ports = s.ports := rfl
@[simp] theorem delFrm_lanes (s : State) (n : Nat) : (s.delFrm n).lanes = s.lanes := rfl
@[simp] theorem delFrm_lany (s : State) (n : Nat) : (s.delFrm n).lany = s.lany := rfl
@[simp] theorem delFrm_dies (s : State) (n : Nat) : (s.delFrm n).dies = s.dies := rfl
@[simp] theorem delFrm_tabs (s : State) (n : Nat) : (s.delFrm n).tabs = s.tabs := rfl
@[simp] theorem delFrm_integ (s : State) (n : Nat) : (s.delFrm n).integ = s.integ := rfl
@[simp] theorem delFrm_pwr (s : State) (n : Nat) : (s.delFrm n).pwr = s.pwr := rfl
@[simp] theorem delFrm_hostMem (s : State) (n : Nat) : (s.delFrm n).hostMem = s.hostMem := rfl
@[simp] theorem delFrm_host (s : State) (n : Nat) : (s.delFrm n).host = s.host := rfl
@[simp] theorem delFrm_mgmt (s : State) (n : Nat) : (s.delFrm n).mgmt = s.mgmt := rfl
@[simp] theorem delFrm_engines (s : State) (n : Nat) : (s.delFrm n).engines = s.engines := rfl
@[simp] theorem delFrm_knots (s : State) (n : Nat) : (s.delFrm n).knots = s.knots := rfl
@[simp] theorem delFrm_hold (s : State) (n : Nat) : (s.delFrm n).hold = s.hold := rfl
@[simp] theorem delFrm_out (s : State) (n : Nat) : (s.delFrm n).out = s.out := rfl
@[simp] theorem delFrm_free (s : State) (n : Nat) : (s.delFrm n).free = s.free := rfl
@[simp] theorem delFrm_pending (s : State) (n : Nat) : (s.delFrm n).pending = s.pending := rfl

/-! ## addFrm -/

@[simp] theorem addFrm_regs (s : State) (f : FrameRec) : ((s.addFrm f).2).regs = s.regs := rfl
@[simp] theorem addFrm_heldLow (s : State) (f : FrameRec) : ((s.addFrm f).2).heldLow = s.heldLow := rfl
@[simp] theorem addFrm_capHigh (s : State) (f : FrameRec) : ((s.addFrm f).2).capHigh = s.capHigh := rfl
@[simp] theorem addFrm_cycle (s : State) (f : FrameRec) : ((s.addFrm f).2).cycle = s.cycle := rfl
@[simp] theorem addFrm_time (s : State) (f : FrameRec) : ((s.addFrm f).2).time = s.time := rfl
@[simp] theorem addFrm_links (s : State) (f : FrameRec) : ((s.addFrm f).2).links = s.links := rfl
@[simp] theorem addFrm_ports (s : State) (f : FrameRec) : ((s.addFrm f).2).ports = s.ports := rfl
@[simp] theorem addFrm_lanes (s : State) (f : FrameRec) : ((s.addFrm f).2).lanes = s.lanes := rfl
@[simp] theorem addFrm_lany (s : State) (f : FrameRec) : ((s.addFrm f).2).lany = s.lany := rfl
@[simp] theorem addFrm_dies (s : State) (f : FrameRec) : ((s.addFrm f).2).dies = s.dies := rfl
@[simp] theorem addFrm_tabs (s : State) (f : FrameRec) : ((s.addFrm f).2).tabs = s.tabs := rfl
@[simp] theorem addFrm_integ (s : State) (f : FrameRec) : ((s.addFrm f).2).integ = s.integ := rfl
@[simp] theorem addFrm_pwr (s : State) (f : FrameRec) : ((s.addFrm f).2).pwr = s.pwr := rfl
@[simp] theorem addFrm_hostMem (s : State) (f : FrameRec) : ((s.addFrm f).2).hostMem = s.hostMem := rfl
@[simp] theorem addFrm_host (s : State) (f : FrameRec) : ((s.addFrm f).2).host = s.host := rfl
@[simp] theorem addFrm_mgmt (s : State) (f : FrameRec) : ((s.addFrm f).2).mgmt = s.mgmt := rfl
@[simp] theorem addFrm_engines (s : State) (f : FrameRec) : ((s.addFrm f).2).engines = s.engines := rfl
@[simp] theorem addFrm_knots (s : State) (f : FrameRec) : ((s.addFrm f).2).knots = s.knots := rfl
@[simp] theorem addFrm_hold (s : State) (f : FrameRec) : ((s.addFrm f).2).hold = s.hold := rfl
@[simp] theorem addFrm_out (s : State) (f : FrameRec) : ((s.addFrm f).2).out = s.out := rfl
@[simp] theorem addFrm_free (s : State) (f : FrameRec) : ((s.addFrm f).2).free = s.free := rfl
@[simp] theorem addFrm_pending (s : State) (f : FrameRec) : ((s.addFrm f).2).pending = s.pending := rfl

/-! ## hostWrite -/

@[simp] theorem hostWrite_regs (s : State) (a : Nat) (b : Bytes) : (s.hostWrite a b).regs = s.regs := rfl
@[simp] theorem hostWrite_heldLow (s : State) (a : Nat) (b : Bytes) : (s.hostWrite a b).heldLow = s.heldLow := rfl
@[simp] theorem hostWrite_capHigh (s : State) (a : Nat) (b : Bytes) : (s.hostWrite a b).capHigh = s.capHigh := rfl
@[simp] theorem hostWrite_cycle (s : State) (a : Nat) (b : Bytes) : (s.hostWrite a b).cycle = s.cycle := rfl
@[simp] theorem hostWrite_time (s : State) (a : Nat) (b : Bytes) : (s.hostWrite a b).time = s.time := rfl
@[simp] theorem hostWrite_frames (s : State) (a : Nat) (b : Bytes) : (s.hostWrite a b).frames = s.frames := rfl
@[simp] theorem hostWrite_nextFrame (s : State) (a : Nat) (b : Bytes) : (s.hostWrite a b).nextFrame = s.nextFrame := rfl
@[simp] theorem hostWrite_links (s : State) (a : Nat) (b : Bytes) : (s.hostWrite a b).links = s.links := rfl
@[simp] theorem hostWrite_ports (s : State) (a : Nat) (b : Bytes) : (s.hostWrite a b).ports = s.ports := rfl
@[simp] theorem hostWrite_lanes (s : State) (a : Nat) (b : Bytes) : (s.hostWrite a b).lanes = s.lanes := rfl
@[simp] theorem hostWrite_lany (s : State) (a : Nat) (b : Bytes) : (s.hostWrite a b).lany = s.lany := rfl
@[simp] theorem hostWrite_dies (s : State) (a : Nat) (b : Bytes) : (s.hostWrite a b).dies = s.dies := rfl
@[simp] theorem hostWrite_tabs (s : State) (a : Nat) (b : Bytes) : (s.hostWrite a b).tabs = s.tabs := rfl
@[simp] theorem hostWrite_integ (s : State) (a : Nat) (b : Bytes) : (s.hostWrite a b).integ = s.integ := rfl
@[simp] theorem hostWrite_pwr (s : State) (a : Nat) (b : Bytes) : (s.hostWrite a b).pwr = s.pwr := rfl
@[simp] theorem hostWrite_host (s : State) (a : Nat) (b : Bytes) : (s.hostWrite a b).host = s.host := rfl
@[simp] theorem hostWrite_mgmt (s : State) (a : Nat) (b : Bytes) : (s.hostWrite a b).mgmt = s.mgmt := rfl
@[simp] theorem hostWrite_engines (s : State) (a : Nat) (b : Bytes) : (s.hostWrite a b).engines = s.engines := rfl
@[simp] theorem hostWrite_knots (s : State) (a : Nat) (b : Bytes) : (s.hostWrite a b).knots = s.knots := rfl
@[simp] theorem hostWrite_hold (s : State) (a : Nat) (b : Bytes) : (s.hostWrite a b).hold = s.hold := rfl
@[simp] theorem hostWrite_out (s : State) (a : Nat) (b : Bytes) : (s.hostWrite a b).out = s.out := rfl
@[simp] theorem hostWrite_free (s : State) (a : Nat) (b : Bytes) : (s.hostWrite a b).free = s.free := rfl
@[simp] theorem hostWrite_pending (s : State) (a : Nat) (b : Bytes) : (s.hostWrite a b).pending = s.pending := rfl

/-! ## updFrm -/

@[simp] theorem updFrm_regs (s : State) (n : Nat) (g : FrameRec → FrameRec) : (s.updFrm n g).regs = s.regs := by
  unfold State.updFrm; split <;> rfl
@[simp] theorem updFrm_heldLow (s : State) (n : Nat) (g : FrameRec → FrameRec) : (s.updFrm n g).heldLow = s.heldLow := by
  unfold State.updFrm; split <;> rfl
@[simp] theorem updFrm_capHigh (s : State) (n : Nat) (g : FrameRec → FrameRec) : (s.updFrm n g).capHigh = s.capHigh := by
  unfold State.updFrm; split <;> rfl
@[simp] theorem updFrm_cycle (s : State) (n : Nat) (g : FrameRec → FrameRec) : (s.updFrm n g).cycle = s.cycle := by
  unfold State.updFrm; split <;> rfl
@[simp] theorem updFrm_time (s : State) (n : Nat) (g : FrameRec → FrameRec) : (s.updFrm n g).time = s.time := by
  unfold State.updFrm; split <;> rfl
@[simp] theorem updFrm_nextFrame (s : State) (n : Nat) (g : FrameRec → FrameRec) : (s.updFrm n g).nextFrame = s.nextFrame := by
  unfold State.updFrm; split <;> rfl
@[simp] theorem updFrm_links (s : State) (n : Nat) (g : FrameRec → FrameRec) : (s.updFrm n g).links = s.links := by
  unfold State.updFrm; split <;> rfl
@[simp] theorem updFrm_ports (s : State) (n : Nat) (g : FrameRec → FrameRec) : (s.updFrm n g).ports = s.ports := by
  unfold State.updFrm; split <;> rfl
@[simp] theorem updFrm_lanes (s : State) (n : Nat) (g : FrameRec → FrameRec) : (s.updFrm n g).lanes = s.lanes := by
  unfold State.updFrm; split <;> rfl
@[simp] theorem updFrm_lany (s : State) (n : Nat) (g : FrameRec → FrameRec) : (s.updFrm n g).lany = s.lany := by
  unfold State.updFrm; split <;> rfl
@[simp] theorem updFrm_dies (s : State) (n : Nat) (g : FrameRec → FrameRec) : (s.updFrm n g).dies = s.dies := by
  unfold State.updFrm; split <;> rfl
@[simp] theorem updFrm_tabs (s : State) (n : Nat) (g : FrameRec → FrameRec) : (s.updFrm n g).tabs = s.tabs := by
  unfold State.updFrm; split <;> rfl
@[simp] theorem updFrm_integ (s : State) (n : Nat) (g : FrameRec → FrameRec) : (s.updFrm n g).integ = s.integ := by
  unfold State.updFrm; split <;> rfl
@[simp] theorem updFrm_pwr (s : State) (n : Nat) (g : FrameRec → FrameRec) : (s.updFrm n g).pwr = s.pwr := by
  unfold State.updFrm; split <;> rfl
@[simp] theorem updFrm_hostMem (s : State) (n : Nat) (g : FrameRec → FrameRec) : (s.updFrm n g).hostMem = s.hostMem := by
  unfold State.updFrm; split <;> rfl
@[simp] theorem updFrm_host (s : State) (n : Nat) (g : FrameRec → FrameRec) : (s.updFrm n g).host = s.host := by
  unfold State.updFrm; split <;> rfl
@[simp] theorem updFrm_mgmt (s : State) (n : Nat) (g : FrameRec → FrameRec) : (s.updFrm n g).mgmt = s.mgmt := by
  unfold State.updFrm; split <;> rfl
@[simp] theorem updFrm_engines (s : State) (n : Nat) (g : FrameRec → FrameRec) : (s.updFrm n g).engines = s.engines := by
  unfold State.updFrm; split <;> rfl
@[simp] theorem updFrm_knots (s : State) (n : Nat) (g : FrameRec → FrameRec) : (s.updFrm n g).knots = s.knots := by
  unfold State.updFrm; split <;> rfl
@[simp] theorem updFrm_hold (s : State) (n : Nat) (g : FrameRec → FrameRec) : (s.updFrm n g).hold = s.hold := by
  unfold State.updFrm; split <;> rfl
@[simp] theorem updFrm_out (s : State) (n : Nat) (g : FrameRec → FrameRec) : (s.updFrm n g).out = s.out := by
  unfold State.updFrm; split <;> rfl
@[simp] theorem updFrm_free (s : State) (n : Nat) (g : FrameRec → FrameRec) : (s.updFrm n g).free = s.free := by
  unfold State.updFrm; split <;> rfl
@[simp] theorem updFrm_pending (s : State) (n : Nat) (g : FrameRec → FrameRec) : (s.updFrm n g).pending = s.pending := by
  unfold State.updFrm; split <;> rfl

/-! ## Registers -/

/-- A register reads what was last written to it. -/
@[simp] theorem rd_wr_same (s : State) (r : RegRef) (v : Word) : (s.wr r v).rd r = v := by simp [State.rd, State.wr]

/-- A register keeps its value when another address is written. -/
theorem rd_wr_ne (s : State) {q r : RegRef} (h : r.addr ≠ q.addr) (v : Word) : (s.wr q v).rd r = s.rd r := by
  simp [State.rd, State.wr, sget_sput_ne _ h]

/-- A register reads what the register file holds, whatever the rest of the state. -/
theorem rd_of_regs {s t : State} (h : s.regs = t.regs) (r : RegRef) : s.rd r = t.rd r := by simp [State.rd, h]

theorem fld_of_rd {s t : State} {r : RegRef} (h : s.rd r = t.rd r) (f : Fld) : s.fld r f = t.fld r f := by
  simp [State.fld, h]

@[simp] theorem drawFree_rd (s : State) (w : Nat) (q : RegRef) : ((s.drawFree w).2).rd q = s.rd q := rfl
@[simp] theorem emit_rd (s : State) (o : Out) (q : RegRef) : (s.emit o).rd q = s.rd q := rfl
@[simp] theorem setPort_rd (s : State) (d p : Nat) (x : Port) (q : RegRef) : (s.setPort d p x).rd q = s.rd q := rfl
@[simp] theorem updPort_rd (s : State) (d p : Nat) (f : Port → Port) (q : RegRef) : (s.updPort d p f).rd q = s.rd q := rfl
@[simp] theorem setLane_rd (s : State) (d n : Nat) (x : Lane) (q : RegRef) : (s.setLane d n x).rd q = s.rd q := rfl
@[simp] theorem updLane_rd (s : State) (d n : Nat) (f : Lane → Lane) (q : RegRef) : (s.updLane d n f).rd q = s.rd q := rfl
@[simp] theorem setDie_rd (s : State) (d : Nat) (x : Die) (q : RegRef) : (s.setDie d x).rd q = s.rd q := rfl
@[simp] theorem updDie_rd (s : State) (d : Nat) (f : Die → Die) (q : RegRef) : (s.updDie d f).rd q = s.rd q := rfl
@[simp] theorem setLink_rd (s : State) (a b : Nat) (x : Link) (q : RegRef) : (s.setLink a b x).rd q = s.rd q := rfl
@[simp] theorem updLink_rd (s : State) (a b : Nat) (f : Link → Link) (q : RegRef) : (s.updLink a b f).rd q = s.rd q := rfl
@[simp] theorem setLan_rd (s : State) (d lp : Nat) (x : Lany) (q : RegRef) : (s.setLan d lp x).rd q = s.rd q := rfl
@[simp] theorem updLan_rd (s : State) (d lp : Nat) (f : Lany → Lany) (q : RegRef) : (s.updLan d lp f).rd q = s.rd q := rfl
@[simp] theorem setFrm_rd (s : State) (n : Nat) (f : FrameRec) (q : RegRef) : (s.setFrm n f).rd q = s.rd q := rfl
@[simp] theorem delFrm_rd (s : State) (n : Nat) (q : RegRef) : (s.delFrm n).rd q = s.rd q := rfl
@[simp] theorem addFrm_rd (s : State) (f : FrameRec) (q : RegRef) : ((s.addFrm f).2).rd q = s.rd q := rfl
@[simp] theorem hostWrite_rd (s : State) (a : Nat) (b : Bytes) (q : RegRef) : (s.hostWrite a b).rd q = s.rd q := rfl
@[simp] theorem updFrm_rd (s : State) (n : Nat) (g : FrameRec → FrameRec) (q : RegRef) : (s.updFrm n g).rd q = s.rd q := by
  simp [State.rd]

/-- Bit i of a field's value. -/
theorem Fld_get_testBit (f : Fld) (w : Word) (i : Nat) :
    (f.get w).testBit i = (decide (i < f.hi + 1 - f.lo) && w.getLsbD (i + f.lo)) := by
  simp [Fld.get, Nat.testBit_mod_two_pow, Nat.testBit_div_two_pow, ← BitVec.testBit_toNat]

/-- Bit j of a word after a field is written: the new value's bit inside the field, the old bit outside. -/
theorem Fld_put_getLsbD (f : Fld) (w : Word) (n j : Nat) (hj : j < 32) (hl : f.lo ≤ f.hi) :
    (f.put w n).getLsbD j = if f.lo ≤ j ∧ j ≤ f.hi then n.testBit (j - f.lo) else w.getLsbD j := by
  simp only [Fld.put, Fld.ones, BitVec.getLsbD_or, BitVec.getLsbD_and, BitVec.getLsbD_not, BitVec.getLsbD_ofNat,
    Nat.testBit_mul_two_pow, Nat.testBit_two_pow_sub_one, Nat.testBit_mod_two_pow]
  by_cases h1 : f.lo ≤ j <;> by_cases h2 : j ≤ f.hi
  · simp [h1, h2, hj, show j - f.lo < f.hi + 1 - f.lo by omega]
  · simp [h1, h2, hj, show ¬ j - f.lo < f.hi + 1 - f.lo by omega]
  · simp [h1, hj]
  · simp [h1, hj]

/-- A field reads what was last written to it, where the word holds it. -/
theorem Fld_get_put (f : Fld) (w : Word) (n : Nat) (hl : f.lo ≤ f.hi) (hh : f.hi < 32) :
    f.get (f.put w n) = n % 2 ^ (f.hi + 1 - f.lo) := by
  apply Nat.eq_of_testBit_eq
  intro i
  rw [Fld_get_testBit, Nat.testBit_mod_two_pow]
  by_cases hi : i < f.hi + 1 - f.lo
  · rw [Fld_put_getLsbD f w n _ (by omega) hl]
    simp [hi, show i + f.lo ≤ f.hi by omega]
  · simp [hi]

@[simp] theorem fld_setF_same (s : State) (r : RegRef) (f : Fld) (n : Nat) (hl : f.lo ≤ f.hi) (hh : f.hi < 32) :
    (s.setF r f n).fld r f = n % 2 ^ (f.hi + 1 - f.lo) := by
  simp [State.setF, State.fld, Fld_get_put f _ n hl hh]

/-- A field keeps its value when another field of the word, above or below it, is written. -/
theorem Fld_get_put_ne (f g : Fld) (w : Word) (n : Nat) (hl : g.lo ≤ g.hi) (h : f.hi < g.lo ∨ g.hi < f.lo) :
    f.get (g.put w n) = f.get w := by
  apply Nat.eq_of_testBit_eq
  intro i
  rw [Fld_get_testBit, Fld_get_testBit]
  by_cases hi : i < f.hi + 1 - f.lo
  · by_cases h32 : i + f.lo < 32
    · rw [Fld_put_getLsbD g w n _ h32 hl, if_neg (by omega)]
    · rw [BitVec.getLsbD_of_ge _ _ (by omega), BitVec.getLsbD_of_ge _ _ (by omega)]
  · simp [hi]

theorem fld_setF_ne (s : State) (r : RegRef) (f g : Fld) (n : Nat) (hl : g.lo ≤ g.hi) (h : f.hi < g.lo ∨ g.hi < f.lo) :
    (s.setF r g n).fld r f = s.fld r f := by
  simp [State.setF, State.fld, Fld_get_put_ne f g _ n hl h]

/-- A field of a register keeps its value when a register at another address is written. -/
theorem fld_setF_reg (s : State) {q r : RegRef} (hr : r.addr ≠ q.addr) (f g : Fld) (n : Nat) :
    (s.setF q g n).fld r f = s.fld r f := by simp [State.setF, State.fld, rd_wr_ne _ hr]

theorem fld_wr_reg (s : State) {q r : RegRef} (hr : r.addr ≠ q.addr) (f : Fld) (v : Word) :
    (s.wr q v).fld r f = s.fld r f := by simp [State.fld, rd_wr_ne _ hr]

theorem rd_setF_reg (s : State) {q r : RegRef} (hr : r.addr ≠ q.addr) (g : Fld) (n : Nat) :
    (s.setF q g n).rd r = s.rd r := by simp [State.setF, rd_wr_ne _ hr]

theorem rd_countN_reg (s : State) {q r : RegRef} (hr : r.addr ≠ q.addr) (n : Nat) :
    (s.countN q n).rd r = s.rd r := by simp [State.countN, rd_wr_ne _ hr]

/-- A counter below its limit grows by what is counted, and stops at 0xFFFF_FFFF (R11). -/
theorem countN_toNat (s : State) (r : RegRef) (n : Nat) :
    ((s.countN r n).rd r).toNat = min ((s.rd r).toNat + n) 0xFFFFFFFF := by
  simp [State.countN]

/-! ## Blocks by number -/

@[simp] theorem port_updPort_same (s : State) (d p : Nat) (f : Port → Port) : (s.updPort d p f).port d p = f (s.port d p) := by
  simp [State.updPort, State.setPort, State.port]
@[simp] theorem lane_updLane_same (s : State) (d n : Nat) (f : Lane → Lane) : (s.updLane d n f).lane d n = f (s.lane d n) := by
  simp [State.updLane, State.setLane, State.lane]
@[simp] theorem die_updDie_same (s : State) (d : Nat) (f : Die → Die) : (s.updDie d f).die d = f (s.die d) := by
  simp [State.updDie, State.setDie, State.die]
@[simp] theorem link_updLink_same (s : State) (a b : Nat) (f : Link → Link) :
    (s.updLink a b f).link a b = f (s.link a b) := by
  simp [State.updLink, State.setLink, State.link]
@[simp] theorem lan_updLan_same (s : State) (d p : Nat) (f : Lany → Lany) : (s.updLan d p f).lan d p = f (s.lan d p) := by
  simp [State.updLan, State.setLan, State.lan]

/-- Host memory reads the bytes last written. -/
theorem hostMem_hostWrite_in (s : State) (a : Nat) (b : Bytes) {i : Nat} (h : i < b.length) :
    sget (s.hostWrite a b).hostMem (a + i) 0 = b[i] := sget_sputs_in _ _ _ _ h

/-- A write to host memory leaves every byte outside it alone. -/
theorem hostMem_hostWrite_out (s : State) (a : Nat) (b : Bytes) {x : Nat} (h : x < a ∨ a + b.length ≤ x) :
    sget (s.hostWrite a b).hostMem x 0 = sget s.hostMem x 0 := sget_sputs_out _ _ _ _ _ h

end Sys2Proof.Machine
end

