-- ==== Sys2Proof/Laws/Acts.lean ====
section
/-! SUPPORT. What a command can do to the registers, host memory, the record of what left the package, the core clock and
the queue, said once: it writes registers, returns registers to their reset values, writes host memory, and emits; the
clock and the queue stay. Every shared operation and every meaning has its lemma (acts_…), and the invariants of the
step follow by one induction. -/

namespace Sys2Proof.Machine

/-- t comes from s by register writes, returns of registers to their reset values, host memory writes, emissions, and changes of
the rest of the state but for the clock and the queue. -/
inductive Acts (s : State) : State → Prop where
  | refl : Acts s s
  | wr {t : State} (h : Acts s t) (r : RegRef) (v : Word) : Acts s (t.wr r v)
  | reset {t : State} (h : Acts s t) (p : Nat × Word → Bool) : Acts s { t with regs := t.regs.filter p }
  | host {t : State} (h : Acts s t) (a : Nat) (b : Bytes) : Acts s (t.hostWrite a b)
  | emit {t : State} (h : Acts s t) (o : Out) : Acts s (t.emit o)
  | other {t u : State} (h : Acts s t) (h1 : u.regs = t.regs) (h2 : u.hostMem = t.hostMem) (h3 : u.out = t.out)
      (h4 : u.cycle = t.cycle) (h5 : u.pending = t.pending) : Acts s u

theorem Acts.trans {s t u : State} (h : Acts s t) (k : Acts t u) : Acts s u := by
  induction k with
  | refl => exact h
  | wr _ r v ih => exact ih.wr r v
  | reset _ p ih => exact ih.reset p
  | host _ a b ih => exact ih.host a b
  | emit _ o ih => exact ih.emit o
  | other _ h1 h2 h3 h4 h5 ih => exact ih.other h1 h2 h3 h4 h5

/-! ## What follows from it -/

theorem Acts.pending {s t : State} (h : Acts s t) : t.pending = s.pending := by
  induction h with
  | refl => rfl
  | wr _ _ _ ih => exact ih
  | reset _ _ ih => exact ih
  | host _ _ _ ih => exact ih
  | emit _ _ ih => exact ih
  | other _ _ _ _ _ h5 ih => exact h5.trans ih

theorem Acts.cycle {s t : State} (h : Acts s t) : t.cycle = s.cycle := by
  induction h with
  | refl => rfl
  | wr _ _ _ ih => exact ih
  | reset _ _ ih => exact ih
  | host _ _ _ ih => exact ih
  | emit _ _ ih => exact ih
  | other _ _ _ _ h4 _ ih => exact h4.trans ih

/-- What left the package stays: the record only grows. -/
theorem Acts.out {s t : State} (h : Acts s t) : s.out <:+ t.out := by
  induction h with
  | refl => exact List.suffix_refl _
  | wr _ _ _ ih => exact ih
  | reset _ _ ih => exact ih
  | host _ _ _ ih => exact ih
  | emit _ o ih => exact ih.trans (List.suffix_cons o _)
  | other _ _ _ h3 _ _ ih => rw [h3]; exact ih

theorem Acts.regs_rising {s t : State} (h : Acts s t) (hs : keysRising s.regs = true) : keysRising t.regs = true := by
  induction h with
  | refl => exact hs
  | wr _ _ _ ih => exact keysRising_sput _ _ _ ih
  | reset _ _ ih => exact keysRising_filter _ ih
  | host _ _ _ ih => exact ih
  | emit _ _ ih => exact ih
  | other _ h1 _ _ _ _ ih => rw [h1]; exact ih

theorem Acts.hostMem_wf {s t : State} (h : Acts s t) (hs : Memory.wf s.hostMem = true) : Memory.wf t.hostMem = true := by
  induction h with
  | refl => exact hs
  | wr _ _ _ ih => exact ih
  | reset _ _ ih => exact ih
  | host _ _ _ ih => exact Memory_wf_sputs _ _ ih
  | emit _ _ ih => exact ih
  | other _ _ h2 _ _ _ ih => rw [h2]; exact ih

/-! ## How it is shown -/

theorem acts_of_snd {α : Type} {z : State} {p : α × State} {a : α} {b : State} (e : p = (a, b)) (h : Acts z p.2) : Acts z b := by
  rw [e] at h; exact h

theorem acts_of_fst {α : Type} {z : State} {p : State × α} {a : State} {b : α} (e : p = (a, b)) (h : Acts z p.1) : Acts z a := by
  rw [e] at h; exact h

theorem acts_of_snd2 {α β : Type} {z : State} {p : α × β × State} {a : α} {b : β} {c : State} (e : p = (a, b, c))
    (h : Acts z p.2.2) : Acts z c := by
  rw [e] at h; exact h

theorem acts_pair {α : Type} {z s : State} {a : α} (h : Acts z s) : Acts z (a, s).2 := h
theorem acts_pair1 {α : Type} {z s : State} {a : α} (h : Acts z s) : Acts z (s, a).1 := h
theorem acts_pair2 {α β : Type} {z s : State} {a : α} {b : β} (h : Acts z s) : Acts z (a, b, s).2.2 := h

theorem acts_foldl {α : Type} {z : State} {g : State → α → State} {l : List α} {s : State} (h : Acts z s)
    (hg : ∀ t a, Acts z t → Acts z (g t a)) : Acts z (l.foldl g s) := by
  induction l generalizing s with
  | nil => exact h
  | cons a l ih => exact ih (hg s a h)

theorem acts_ite {z s t : State} {c : Prop} [Decidable c] (h : Acts z s) (k : Acts z t) : Acts z (if c then s else t) := by
  split
  · exact h
  · exact k

/-- A state that differs in neither registers, host memory, emissions, clock nor queue. -/
theorem acts_mk {z s : State} (h : Acts z s) {a1 a2 a4 a5 a6 a7 a8 a9 a10 a11 a12 a13 a14 a16 a17 a18 a19 a20 a22} :
    Acts z ⟨s.regs, a1, a2, s.cycle, a4, a5, a6, a7, a8, a9, a10, a11, a12, a13, a14, s.hostMem, a16, a17, a18, a19, a20, s.out,
      a22, s.pending⟩ := h.other rfl rfl rfl rfl rfl

/-- A fold whose accumulator carries the state first. -/
theorem acts_foldl_fst {α β : Type} {z : State} {g : State × β → α → State × β} {l : List α} {s : State × β}
    (h : Acts z s.1) (hg : ∀ t a, Acts z t.1 → Acts z (g t a).1) : Acts z (l.foldl g s).1 := by
  induction l generalizing s with
  | nil => exact h
  | cons a l ih => exact ih (hg s a h)

/-- A fold whose accumulator carries the state second. -/
theorem acts_foldl_snd {α β : Type} {z : State} {g : β × State → α → β × State} {l : List α} {s : β × State}
    (h : Acts z s.2) (hg : ∀ t a, Acts z t.2 → Acts z (g t a).2) : Acts z (l.foldl g s).2 := by
  induction l generalizing s with
  | nil => exact h
  | cons a l ih => exact ih (hg s a h)

section
variable {z s : State} (h : Acts z s)
include h
theorem acts_wr (r : RegRef) (v : Word) : Acts z (s.wr r v) := h.wr r v
theorem acts_setF (r : RegRef) (f : Fld) (n : Nat) : Acts z (s.setF r f n) := h.wr r _
theorem acts_setBit (r : RegRef) (f : Fld) : Acts z (s.setBit r f) := h.wr r _
theorem acts_countN (r : RegRef) (n : Nat) : Acts z (s.countN r n) := h.wr r _
theorem acts_count (r : RegRef) : Acts z (s.count r) := h.wr r _
theorem acts_wr64 (lo hi : RegRef) (n : Nat) : Acts z (s.wr64 lo hi n) := (h.wr lo _).wr hi _
theorem acts_drawFree (w : Nat) : Acts z (s.drawFree w).2 := h.other rfl rfl rfl rfl rfl
theorem acts_emit (o : Out) : Acts z (s.emit o) := h.emit o
theorem acts_hostWrite (a : Nat) (b : Bytes) : Acts z (s.hostWrite a b) := h.host a b
theorem acts_setPort (d p : Nat) (x : Port) : Acts z (s.setPort d p x) := h.other rfl rfl rfl rfl rfl
theorem acts_updPort (d p : Nat) (f : Port → Port) : Acts z (s.updPort d p f) := h.other rfl rfl rfl rfl rfl
theorem acts_setLane (d n : Nat) (x : Lane) : Acts z (s.setLane d n x) := h.other rfl rfl rfl rfl rfl
theorem acts_updLane (d n : Nat) (f : Lane → Lane) : Acts z (s.updLane d n f) := h.other rfl rfl rfl rfl rfl
theorem acts_setDie (d : Nat) (x : Die) : Acts z (s.setDie d x) := h.other rfl rfl rfl rfl rfl
theorem acts_updDie (d : Nat) (f : Die → Die) : Acts z (s.updDie d f) := h.other rfl rfl rfl rfl rfl
theorem acts_setLink (a b : Nat) (x : Link) : Acts z (s.setLink a b x) := h.other rfl rfl rfl rfl rfl
theorem acts_updLink (a b : Nat) (f : Link → Link) : Acts z (s.updLink a b f) := h.other rfl rfl rfl rfl rfl
theorem acts_setLan (d p : Nat) (x : Lany) : Acts z (s.setLan d p x) := h.other rfl rfl rfl rfl rfl
theorem acts_updLan (d p : Nat) (f : Lany → Lany) : Acts z (s.updLan d p f) := h.other rfl rfl rfl rfl rfl
theorem acts_setFrm (n : Nat) (f : FrameRec) : Acts z (s.setFrm n f) := h.other rfl rfl rfl rfl rfl
theorem acts_delFrm (n : Nat) : Acts z (s.delFrm n) := h.other rfl rfl rfl rfl rfl
theorem acts_addFrm (f : FrameRec) : Acts z (s.addFrm f).2 := h.other rfl rfl rfl rfl rfl
theorem acts_updFrm (n : Nat) (f : FrameRec → FrameRec) : Acts z (s.updFrm n f) := by
  unfold State.updFrm; split
  · exact acts_setFrm h _ _
  · exact h
end

end Sys2Proof.Machine
end

