-- ==== Sys2Proof/Laws/ActsFabric.lean ====
section
/-! SUPPORT. Laws of the fabric, the switch and the tables: each operation stays within what Acts allows. -/

namespace Sys2Proof.Machine

/-! ## Ops -/

theorem acts_drawCode {z s a1} (h : Acts z s) : Acts z (State.drawCode s a1).2 := by
  unfold State.drawCode
  split
  · rename_i y0 y1 y2 y3
    have h4 := acts_of_snd y3 (acts_drawFree h _)
    exact h4
theorem acts_yfpCount {z s a1 a2 a3} (h : Acts z s) : Acts z (State.yfpCount s a1 a2 a3) := by
  unfold State.yfpCount
  exact acts_count h _
theorem acts_coreCount {z s a1 a2 a3} (h : Acts z s) : Acts z (State.coreCount s a1 a2 a3) := by
  unfold State.coreCount
  exact acts_count h _
theorem acts_tmCount {z s a1 a2 a3} (h : Acts z s) : Acts z (State.tmCount s a1 a2 a3) := by
  unfold State.tmCount
  exact acts_count h _
theorem acts_tqCount {z s a1 a2 a3} (h : Acts z s) : Acts z (State.tqCount s a1 a2 a3) := by
  unfold State.tqCount
  exact acts_count h _
theorem acts_lookupCount {z s a1 a2 a3} (h : Acts z s) : Acts z (State.lookupCount s a1 a2 a3) := by
  unfold State.lookupCount
  exact acts_count h _
theorem acts_lanCount {z s a1 a2 a3} (h : Acts z s) : Acts z (State.lanCount s a1 a2 a3) := by
  unfold State.lanCount
  exact acts_count h _
theorem acts_integCount {z s a1} (h : Acts z s) : Acts z (State.integCount s a1) := by
  unfold State.integCount
  exact acts_count h _
theorem acts_laneCount {z s a1 a2 a3} (h : Acts z s) : Acts z (State.laneCount s a1 a2 a3) := by
  unfold State.laneCount
  exact acts_ite h (acts_count h _)
theorem acts_setLaneState {z s a1 a2 a3} (h : Acts z s) : Acts z (State.setLaneState s a1 a2 a3) := by
  unfold State.setLaneState
  exact acts_setF h _ _ _

/-! ## Flags -/

theorem acts_sendMsi {z s a1} (h : Acts z s) : Acts z (sendMsi s a1) := by
  unfold sendMsi
  refine acts_ite h ?_
  extract_lets +onlyGivenNames u0 u1
  clear_value u0 u1
  exact acts_emit (acts_hostWrite h _ _) _
theorem acts_withCause {z s a1 a2} (h : Acts z s) (ha2 : ∀ b0, Acts z b0 → Acts z (a2 b0)) :
    Acts z (withCause s a1 a2) := by
  unfold withCause
  extract_lets +onlyGivenNames u0
  have h1 : Acts z u0 := ha2 _ h
  clear_value u0
  exact acts_ite (acts_sendMsi h1) h1
theorem acts_causeWrite {z s a1 a2} (h : Acts z s) (ha2 : ∀ b0, Acts z b0 → Acts z (a2 b0)) :
    Acts z (causeWrite s a1 a2) := by
  unfold causeWrite
  extract_lets +onlyGivenNames u0
  have h1 : Acts z u0 := ha2 _ h
  clear_value u0
  exact acts_ite (acts_sendMsi h1) h1
theorem acts_setEvent {z s a1 a2 a3} (h : Acts z s) : Acts z (setEvent s a1 a2 a3) := by
  unfold setEvent
  exact acts_withCause h (fun x0 h1 => acts_setBit h1 _ _)
theorem acts_setLaneEvent {z s a1 a2 a3} (h : Acts z s) : Acts z (setLaneEvent s a1 a2 a3) := by
  unfold setLaneEvent
  exact acts_setEvent h

/-! ## Records -/

theorem acts_setHealth {z s a1 a2 a3 a4} (h : Acts z s) : Acts z (State.setHealth s a1 a2 a3 a4) := by
  unfold State.setHealth
  exact acts_mk h
theorem acts_pushRec {z s a1} (h : Acts z s) : Acts z (pushRec s a1) := by
  unfold pushRec
  extract_lets +onlyGivenNames u0
  clear_value u0
  extract_lets +onlyGivenNames u1
  have h2 : Acts z u1 := acts_mk h
  clear_value u1
  exact acts_ite (acts_mk h2) (acts_setEvent (acts_integCount h2))
theorem acts_countFinding {z s a1} (h : Acts z s) : Acts z (countFinding s a1) := by
  unfold countFinding
  exact acts_ite (acts_integCount h) (acts_ite (acts_integCount h) (acts_ite (acts_integCount h) h))
theorem acts_queueRec {z s a1} (h : Acts z s) : Acts z (queueRec s a1) := by
  unfold queueRec
  refine acts_ite ?_ (acts_pushRec h)
  extract_lets +onlyGivenNames u0 u1 u2
  clear_value u0 u1 u2
  exact acts_ite (acts_pushRec (acts_mk h)) (acts_mk h)
theorem acts_fileRec {z s a1} (h : Acts z s) : Acts z (fileRec s a1) := by
  unfold fileRec
  exact acts_queueRec (acts_countFinding h)
theorem acts_fileLaneLink {z s a1 a2 a3 a4} (h : Acts z s) : Acts z (fileLaneLink s a1 a2 a3 a4) := by
  unfold fileLaneLink
  exact acts_fileRec h

/-! ## Policing -/

theorem acts_setPortState {z s a1 a2 a3} (h : Acts z s) : Acts z (State.setPortState s a1 a2 a3) := by
  unfold State.setPortState
  exact acts_setF h _ _ _
theorem acts_csLost {z s a1 a2} (h : Acts z s) : Acts z (csLost s a1 a2) := by
  unfold csLost
  exact acts_setEvent (acts_ite (acts_tmCount (acts_count h _)) (acts_count h _))
theorem acts_csCapture {z s a1 a2 a3} (h : Acts z s) : Acts z (csCapture s a1 a2 a3) := by
  unfold csCapture
  extract_lets +onlyGivenNames u0
  clear_value u0
  extract_lets +onlyGivenNames u1
  have h2 : Acts z u1 := acts_mk h
  clear_value u1
  exact acts_ite (acts_updDie h2 _ _) (acts_csLost h2)
theorem acts_mirrorRx {z s a1 a2 a3 a4 a5} (h : Acts z s) : Acts z (mirrorRx s a1 a2 a3 a4 a5) := by
  unfold mirrorRx
  extract_lets +onlyGivenNames u0
  clear_value u0
  refine acts_ite ?_ h
  extract_lets +onlyGivenNames u1
  clear_value u1
  exact acts_ite (acts_updPort h _ _ _) (acts_csCapture (acts_tmCount (acts_updPort h _ _ _)))
theorem acts_mirrorTx {z s a1 a2 a3 a4 a5 a6} (h : Acts z s) : Acts z (mirrorTx s a1 a2 a3 a4 a5 a6) := by
  unfold mirrorTx
  extract_lets +onlyGivenNames u0
  clear_value u0
  refine acts_ite ?_ h
  extract_lets +onlyGivenNames u1
  clear_value u1
  exact acts_ite (acts_updPort h _ _ _) (acts_csCapture (acts_tmCount (acts_updPort h _ _ _)))
theorem acts_mirrorDrop {z s a1 a2 a3 a4 a5 a6 a7 a8} (h : Acts z s) :
    Acts z (mirrorDrop s a1 a2 a3 a4 a5 a6 a7 a8) := by
  unfold mirrorDrop
  extract_lets +onlyGivenNames u0
  clear_value u0
  refine acts_ite ?_ h
  extract_lets +onlyGivenNames u1
  clear_value u1
  refine acts_ite (acts_updPort h _ _ _) ?_
  extract_lets +onlyGivenNames u2
  clear_value u2
  exact acts_csCapture (acts_tmCount (acts_updPort h _ _ _))
theorem acts_mirrorCopy {z s a1 a2} (h : Acts z s) : Acts z (mirrorCopy s a1 a2) := by
  unfold mirrorCopy
  extract_lets +onlyGivenNames u0
  clear_value u0
  refine acts_ite ?_ h
  extract_lets +onlyGivenNames u1
  clear_value u1
  exact acts_ite (acts_updDie h _ _) (acts_csCapture (acts_updDie h _ _))
theorem acts_dropCore {z s a1 a2 a3 a4} (h : Acts z s) : Acts z (dropCore s a1 a2 a3 a4) := by
  unfold dropCore
  exact acts_mirrorDrop (acts_coreCount h)
theorem acts_dropLookup {z s a1 a2 a3 a4} (h : Acts z s) : Acts z (dropLookup s a1 a2 a3 a4) := by
  unfold dropLookup
  exact acts_mirrorDrop (acts_lookupCount h)
theorem acts_dropTm {z s a1 a2} (h : Acts z s) : Acts z (dropTm s a1 a2) := by
  unfold dropTm
  exact acts_mirrorDrop (acts_tmCount h)
theorem acts_dropYfp {z s a1 a2 a3 a4 a5} (h : Acts z s) : Acts z (dropYfp s a1 a2 a3 a4 a5) := by
  unfold dropYfp
  exact acts_mirrorDrop (acts_yfpCount h)
theorem acts_dropYfpRec {z s a1 a2} (h : Acts z s) : Acts z (dropYfpRec s a1 a2) := by
  unfold dropYfpRec
  exact acts_mirrorDrop (acts_yfpCount h)
theorem acts_setBucket {z s a1 a2 a3} (h : Acts z s) : Acts z (State.setBucket s a1 a2 a3) := by
  unfold State.setBucket
  exact acts_updDie h _ _
theorem acts_police {z s a1 a2 a3} (h : Acts z s) : Acts z (police s a1 a2 a3).2 := by
  unfold police
  extract_lets +onlyGivenNames u0
  clear_value u0
  split
  · split
    · exact acts_pair (acts_tmCount (acts_count (acts_setBucket h) _))
  · exact h

/-! ## TableRead -/

theorem acts_State_putEntry {z s a1 a2 a3} (h : Acts z s) : Acts z (State.putEntry s a1 a2 a3) := by
  unfold State.putEntry
  exact acts_mk h
theorem acts_putSlotReg {z s a1 a2 a3} (h : Acts z s) : Acts z (State.putSlotReg s a1 a2 a3) := by
  unfold State.putSlotReg
  extract_lets +onlyGivenNames u0
  clear_value u0
  exact acts_mk h
theorem acts_logParity {z s a1 a2 a3 a4} (h : Acts z s) : Acts z (logParity s a1 a2 a3 a4) := by
  unfold logParity
  extract_lets +onlyGivenNames u0 u1
  clear_value u0 u1
  exact acts_ite (acts_mk h) (acts_mk h)
theorem acts_fileParity {z s a1 a2 a3 a4 a5} (h : Acts z s) : Acts z (fileParity s a1 a2 a3 a4 a5) := by
  unfold fileParity
  exact acts_fileRec h
theorem acts_parityMiss {z s a1 a2 a3 a4} (h : Acts z s) : Acts z (parityMiss s a1 a2 a3 a4) := by
  unfold parityMiss
  exact acts_fileParity (acts_logParity (acts_lookupCount h))

/-! ## Control -/

theorem acts_queueCtl {z s a1 a2 a3} (h : Acts z s) : Acts z (queueCtl s a1 a2 a3) := by
  unfold queueCtl
  exact acts_updLane h _ _ _
theorem acts_queueAll {z s a1 a2 a3} (h : Acts z s) : Acts z (queueAll s a1 a2 a3) := by
  unfold queueAll
  exact acts_foldl h (fun x0 x1 h2 => acts_queueCtl h2)
theorem acts_queueLead {z s a1 a2 a3} (h : Acts z s) : Acts z (queueLead s a1 a2 a3) := by
  unfold queueLead
  split
  · exact acts_queueCtl h
  · exact h
theorem acts_flowUpdate {z s a1 a2} (h : Acts z s) : Acts z (flowUpdate s a1 a2) := by
  unfold flowUpdate
  refine acts_ite ?_ h
  extract_lets +onlyGivenNames u0
  clear_value u0
  exact acts_ite h (acts_queueAll (acts_setF h _ _ _))
theorem acts_lanFlowUpdate {z s a1 a2 a3} (h : Acts z s) : Acts z (lanFlowUpdate s a1 a2 a3) := by
  unfold lanFlowUpdate
  refine acts_ite h ?_
  extract_lets +onlyGivenNames u0 u1
  clear_value u0 u1
  extract_lets +onlyGivenNames u2 u3
  clear_value u2 u3
  exact acts_updLan h _ _ _
theorem acts_lanFlowAll {z s a1 a2} (h : Acts z s) : Acts z (lanFlowAll s a1 a2) := by
  unfold lanFlowAll
  exact acts_ite h (acts_foldl h (fun x0 x1 h2 => acts_lanFlowUpdate h2))
theorem acts_flowPort {z s a1 a2} (h : Acts z s) : Acts z (flowPort s a1 a2) := by
  unfold flowPort
  exact acts_lanFlowAll (acts_flowUpdate h)
theorem acts_flowPipe {z s a1 a2} (h : Acts z s) : Acts z (flowPipe s a1 a2) := by
  unfold flowPipe
  exact acts_lanFlowAll (acts_foldl h (fun x0 x1 h2 => acts_flowUpdate h2))
theorem acts_stageFlow {z s a1 a2 a3} (h : Acts z s) : Acts z (stageFlow s a1 a2 a3) := by
  unfold stageFlow
  exact acts_lanFlowUpdate (acts_flowUpdate h)
theorem acts_takeStage {z s a1 a2 a3} (h : Acts z s) : Acts z (takeStage s a1 a2 a3).2 := by
  unfold takeStage
  split
  · exact acts_pair (acts_updPort h _ _ _)
  · exact acts_pair (acts_updPort h _ _ _)
  · exact h
theorem acts_freeStage {z s a1} (h : Acts z s) : Acts z (freeStage s a1) := by
  unfold freeStage
  extract_lets +onlyGivenNames u0
  clear_value u0
  refine acts_ite h ?_
  extract_lets +onlyGivenNames u1
  have h2 : Acts z u1 := acts_updFrm h _ _
  clear_value u1
  extract_lets +onlyGivenNames u3
  have h4 : Acts z u3 := acts_updPort h2 _ _ _
  clear_value u3
  exact acts_stageFlow h4

/-! ## KnotTable -/

theorem acts_setEng {z s a1 a2} (h : Acts z s) : Acts z (State.setEng s a1 a2) := by
  unfold State.setEng
  exact acts_mk h
theorem acts_updEng {z s a1 a2} (h : Acts z s) : Acts z (State.updEng s a1 a2) := by
  unfold State.updEng
  exact acts_setEng h
theorem acts_setEngState {z s a1 a2} (h : Acts z s) : Acts z (State.setEngState s a1 a2) := by
  unfold State.setEngState
  exact acts_setF h _ _ _
theorem acts_engCount {z s a1 a2} (h : Acts z s) : Acts z (State.engCount s a1 a2) := by
  unfold State.engCount
  exact acts_count h _
theorem acts_engEvent {z s a1 a2} (h : Acts z s) : Acts z (engEvent s a1 a2) := by
  unfold engEvent
  exact acts_setEvent h
theorem acts_setKnot {z s a1 a2} (h : Acts z s) : Acts z (State.setKnot s a1 a2) := by
  unfold State.setKnot
  exact acts_mk h
theorem acts_updKnot {z s a1 a2} (h : Acts z s) : Acts z (State.updKnot s a1 a2) := by
  unfold State.updKnot
  exact acts_setKnot h
theorem acts_knotCount {z s a1 a2} (h : Acts z s) : Acts z (State.knotCount s a1 a2) := by
  unfold State.knotCount
  exact acts_count h _
theorem acts_noteMissed {z s a1 a2} (h : Acts z s) : Acts z (noteMissed s a1 a2) := by
  unfold noteMissed
  exact acts_ite (acts_updKnot h) h

/-! ## Egress -/

theorem acts_takeRegion {z s a1 a2 a3} (h : Acts z s) : Acts z (takeRegion s a1 a2 a3) := by
  unfold takeRegion
  extract_lets +onlyGivenNames u0
  clear_value u0
  extract_lets +onlyGivenNames u1
  have h2 : Acts z u1 := acts_updFrm h _ _
  clear_value u1
  split
  · exact h2
  · exact acts_updPort h2 _ _ _
  · exact acts_updDie (acts_updPort h2 _ _ _) _ _
  · exact acts_updDie h2 _ _
  · exact acts_updDie h2 _ _
theorem acts_freeRegion {z s a1} (h : Acts z s) : Acts z (freeRegion s a1) := by
  unfold freeRegion
  extract_lets +onlyGivenNames u0
  clear_value u0
  extract_lets +onlyGivenNames u1
  have h2 : Acts z u1 := acts_updFrm h _ _
  clear_value u1
  split
  · exact h2
  · exact acts_updPort h2 _ _ _
  · exact acts_updDie (acts_updPort h2 _ _ _) _ _
  · exact acts_updDie h2 _ _
  · exact acts_updDie h2 _ _
theorem acts_offMesh {z s a1} (h : Acts z s) : Acts z (offMesh s a1) := by
  unfold offMesh
  extract_lets +onlyGivenNames u0
  exact acts_mk h
theorem acts_copyPlaced {z s a1} (h : Acts z s) : Acts z (copyPlaced s a1) := by
  unfold copyPlaced
  extract_lets +onlyGivenNames u0
  clear_value u0
  refine acts_ite h ?_
  extract_lets +onlyGivenNames u1
  have h2 : Acts z u1 := acts_updFrm h _ _
  clear_value u1
  exact acts_ite (acts_freeStage h2) h2
theorem acts_copyGone {z s a1} (h : Acts z s) : Acts z (copyGone s a1) := by
  unfold copyGone
  refine acts_ite h ?_
  extract_lets +onlyGivenNames u0
  clear_value u0
  extract_lets +onlyGivenNames u1
  have h2 : Acts z u1 := acts_ite (acts_updFrm h _ _) h
  clear_value u1
  exact acts_ite (acts_delFrm (acts_freeStage h2) _) h2
theorem acts_discardFrame {z s a1} (h : Acts z s) : Acts z (discardFrame s a1) := by
  unfold discardFrame
  extract_lets +onlyGivenNames u0
  clear_value u0
  extract_lets +onlyGivenNames u1
  have h2 : Acts z u1 := acts_ite (acts_noteMissed h) h
  clear_value u1
  extract_lets +onlyGivenNames u3
  have h4 : Acts z u3 := acts_ite (acts_copyPlaced h2) h2
  clear_value u3
  exact acts_copyGone (acts_delFrm (acts_offMesh (acts_freeRegion (acts_freeStage h4))) _)
theorem acts_finishCut {z s a1} (h : Acts z s) : Acts z (finishCut s a1) := by
  unfold finishCut
  extract_lets +onlyGivenNames u0 u1
  clear_value u0 u1
  exact acts_ite (acts_emit (acts_updPort h _ _ _) _) h
theorem acts_arriveFrame {z s a1} (h : Acts z s) : Acts z (arriveFrame s a1) := by
  unfold arriveFrame
  extract_lets +onlyGivenNames u0
  clear_value u0
  extract_lets +onlyGivenNames u1
  have h2 : Acts z u1 := acts_updFrm h _ _
  clear_value u1
  exact acts_ite (acts_updDie h2 _ _) (acts_ite (acts_updDie h2 _ _) (acts_ite (acts_updFrm h2 _ _) (acts_ite (acts_finishCut h2) h2)))
theorem acts_addXfer {z s a1 a2 a3 a4 a5 a6 a7} (h : Acts z s) : Acts z (addXfer s a1 a2 a3 a4 a5 a6 a7) := by
  unfold addXfer
  exact acts_updDie h _ _
theorem acts_parkCrossing {z s a1} (h : Acts z s) : Acts z (parkCrossing s a1) := by
  unfold parkCrossing
  exact acts_updDie h _ _
theorem acts_crossMesh {z s a1} (h : Acts z s) : Acts z (crossMesh s a1) := by
  unfold crossMesh
  extract_lets +onlyGivenNames u0
  clear_value u0
  split
  · extract_lets +onlyGivenNames u1
    have h2 : Acts z u1 := acts_updFrm h _ _
    clear_value u1
    extract_lets +onlyGivenNames u3
    have h4 : Acts z u3 := acts_ite h2 (acts_updFrm h2 _ _)
    clear_value u3
    exact acts_addXfer h4
  · exact acts_parkCrossing h
theorem acts_startCrossing {z s a1} (h : Acts z s) : Acts z (startCrossing s a1) := by
  unfold startCrossing
  extract_lets +onlyGivenNames u0
  clear_value u0
  exact acts_ite (acts_addXfer h) (acts_ite (acts_ite (acts_addXfer h) (acts_parkCrossing h)) (acts_crossMesh h))
theorem acts_retryCrossings {z s a1} (h : Acts z s) : Acts z (retryCrossings s a1) := by
  unfold retryCrossings
  exact acts_foldl (acts_updDie h _ _) (fun x0 x1 h2 => acts_startCrossing h2)
theorem acts_enqueue {z s a1} (h : Acts z s) : Acts z (enqueue s a1) := by
  unfold enqueue
  extract_lets +onlyGivenNames u0
  clear_value u0
  exact acts_ite h (acts_ite (acts_updLan h _ _ _) (acts_ite (acts_updPort (acts_updFrm h _ _) _ _ _) (acts_updPort h _ _ _)))
theorem acts_markAdmitted {z s a1} (h : Acts z s) : Acts z (markAdmitted s a1) := by
  unfold markAdmitted
  extract_lets +onlyGivenNames u0
  clear_value u0
  refine acts_ite h ?_
  extract_lets +onlyGivenNames u1
  clear_value u1
  exact acts_ite (acts_updFrm h _ _) h
theorem acts_countStored {z s a1} (h : Acts z s) : Acts z (countStored s a1) := by
  unfold countStored
  exact acts_ite h (acts_coreCount h)
theorem acts_admitTo {z s a1 a2 a3} (h : Acts z s) : Acts z (admitTo s a1 a2 a3) := by
  unfold admitTo
  extract_lets +onlyGivenNames u0
  have h1 : Acts z u0 := acts_markAdmitted h
  clear_value u0
  extract_lets +onlyGivenNames u2
  have h3 : Acts z u2 := acts_takeRegion h1
  clear_value u2
  extract_lets +onlyGivenNames u4
  have h5 : Acts z u4 := acts_copyPlaced (acts_freeStage h3)
  clear_value u4
  exact acts_startCrossing (acts_countStored (acts_enqueue h5))
theorem acts_evictTail {z s a1 a2 a3} (h : Acts z s) : Acts z (evictTail s a1 a2 a3) := by
  unfold evictTail
  split
  · exact h
  · exact acts_discardFrame (acts_dropCore (acts_updPort h _ _ _))
theorem acts_pushOut {z a0 a1 a2 a3 s} (h : Acts z s) {t} (e : (pushOut a0 a1 a2 a3 s) = some t) : Acts z t := by
  induction a3 generalizing s with
  | zero =>
    unfold pushOut at e
    split at e
    · cases e; exact h
    · cases e
  | succ n ih =>
    unfold pushOut at e
    split at e
    · cases e; exact h
    · split at e
      · cases e
      · exact ih (acts_evictTail h) e
theorem acts_refuseFrame {z s a1 a2} (h : Acts z s) : Acts z (refuseFrame s a1 a2) := by
  unfold refuseFrame
  extract_lets +onlyGivenNames u0 u1
  clear_value u0 u1
  exact acts_discardFrame (acts_dropCore h)
theorem acts_waitFrame {z s a1} (h : Acts z s) : Acts z (waitFrame s a1) := by
  unfold waitFrame
  extract_lets +onlyGivenNames u0
  clear_value u0
  extract_lets +onlyGivenNames u1
  have h2 : Acts z u1 := acts_updDie h _ _
  clear_value u1
  exact acts_ite (acts_coreCount h2) h2
theorem acts_noteShared {z s a1 a2} (h : Acts z s) : Acts z (noteShared s a1 a2) := by
  unfold noteShared
  exact acts_ite (acts_setEvent h) h
theorem acts_tryAdmit {z s a1} (h : Acts z s) {t} (e : (tryAdmit s a1) = some t) : Acts z t := by
  unfold tryAdmit at e
  extract_lets u0 u1 at e
  split at e
  · rw [← Option.some.inj e]; exact acts_admitTo h
  · split at e
    · cases e
    · split at e
      · split at e
        · rename_i k
          have k1 := acts_pushOut h k
          rw [← Option.some.inj e]; exact acts_admitTo k1
        · rw [← Option.some.inj e]; exact acts_refuseFrame h
      · rw [← Option.some.inj e]; exact acts_refuseFrame h
theorem acts_admitFrame {z s a1} (h : Acts z s) : Acts z (admitFrame s a1) := by
  unfold admitFrame
  extract_lets +onlyGivenNames u0
  clear_value u0
  refine acts_ite (acts_discardFrame h) ?_
  split
  · exact acts_discardFrame (acts_dropCore h)
  · refine acts_ite (acts_waitFrame h) ?_
    extract_lets +onlyGivenNames u1
    have h2 : Acts z u1 := acts_noteShared h
    clear_value u1
    split
    · rename_i y3 y4 y5
      have h6 := acts_tryAdmit h2 y5
      exact h6
    · exact acts_waitFrame h2
theorem acts_admitWaiters {z a0 a1 a2 s} (h : Acts z s) : Acts z (admitWaiters a0 a1 a2 s) := by
  induction a1 generalizing a2 s with
  | nil => exact h
  | cons i l ih =>
    unfold admitWaiters
    extract_lets u0 u1
    have h1 : Acts z u1 := acts_updDie h _ _
    clear_value u1
    refine acts_ite (ih (acts_discardFrame h1)) ?_
    split
    · exact ih (acts_discardFrame (acts_dropCore h1))
    · refine acts_ite (ih h) ?_
      split
      · rename_i k; exact ih (acts_tryAdmit h1 k)
      · exact ih h
theorem acts_serveWaiters {z s a1} (h : Acts z s) : Acts z (serveWaiters s a1) := by
  unfold serveWaiters
  exact acts_admitWaiters h

/-! ## Spray -/

theorem acts_sprayChoose {z s a1 a2 a3 a4} (h : Acts z s) : Acts z (sprayChoose s a1 a2 a3 a4).2 := by
  unfold sprayChoose
  split
  · exact h
  · exact h
  · extract_lets +onlyGivenNames u0 u1
    clear_value u0 u1
    extract_lets +onlyGivenNames u2 u3
    clear_value u2 u3
    extract_lets +onlyGivenNames u4 u5
    clear_value u4 u5
    extract_lets +onlyGivenNames u6 u7
    clear_value u6 u7
    extract_lets +onlyGivenNames u8
    have h9 : Acts z u8 := acts_updDie h _ _
    clear_value u8
    exact h9
theorem acts_placeAt {z s a1 a2} (h : Acts z s) : Acts z (placeAt s a1 a2) := by
  unfold placeAt
  extract_lets +onlyGivenNames u0
  clear_value u0
  exact acts_updFrm h _ _
theorem acts_offerFrame {z s a1} (h : Acts z s) : Acts z (offerFrame s a1) := by
  unfold offerFrame
  exact acts_updDie h _ _
theorem acts_noCandidate {z s a1 a2} (h : Acts z s) : Acts z (noCandidate s a1 a2) := by
  unfold noCandidate
  extract_lets +onlyGivenNames u0
  clear_value u0
  extract_lets +onlyGivenNames u1
  have h2 : Acts z u1 := acts_ite (acts_dropCore h) h
  clear_value u1
  extract_lets +onlyGivenNames u3
  have h4 : Acts z u3 := by
    unfold u3
    split
    · exact acts_lanCount h2
    · exact h2
  clear_value u3
  exact acts_discardFrame h4
theorem acts_lookupDrop {z s a1 a2 a3 a4} (h : Acts z s) : Acts z (lookupDrop s a1 a2 a3 a4) := by
  unfold lookupDrop
  exact acts_discardFrame (acts_dropLookup h)
theorem acts_sprayPlace {z s a1 a2 a3 a4} (h : Acts z s) : Acts z (sprayPlace s a1 a2 a3 a4).2 := by
  unfold sprayPlace
  extract_lets +onlyGivenNames u0
  clear_value u0
  split
  · rename_i y1 y2 y3 y4
    have h5 := acts_of_snd y4 (acts_sprayChoose h)
    split
    · rename_i y6
      have h7 := acts_of_snd y4 (acts_sprayChoose h)
      exact acts_pair (acts_noCandidate h5)
    · rename_i y8 y9
      have h10 := acts_of_snd y4 (acts_sprayChoose h)
      split
      · exact acts_pair (acts_placeAt h5)
      · exact acts_pair (acts_lookupDrop h5)
theorem acts_handOn {z s a1} (h : Acts z s) : Acts z (handOn s a1) := by
  unfold handOn
  exact acts_ite (acts_offerFrame h) (acts_updFrm h _ _)
theorem acts_dropFromQueues {z s a1 a2 a3} (h : Acts z s) : Acts z (dropFromQueues s a1 a2 a3) := by
  unfold dropFromQueues
  extract_lets +onlyGivenNames u0
  exact acts_updPort h _ _ _
theorem acts_dropFromWaits {z s a1} (h : Acts z s) : Acts z (dropFromWaits s a1) := by
  unfold dropFromWaits
  extract_lets +onlyGivenNames u0
  exact acts_mk h
theorem acts_resprayOne {z a0 a1 s a3} (h : Acts z s) : Acts z (resprayOne a0 a1 s a3) := by
  unfold resprayOne
  extract_lets +onlyGivenNames u0
  have h1 : Acts z u0 := acts_offMesh (acts_freeRegion (acts_coreCount h))
  clear_value u0
  extract_lets +onlyGivenNames u2
  have h3 : Acts z u2 := acts_updFrm h1 _ _
  clear_value u2
  extract_lets +onlyGivenNames u4
  clear_value u4
  split
  · extract_lets +onlyGivenNames u5
    have h6 : Acts z u5 := acts_parityMiss h3
    clear_value u5
    exact acts_discardFrame (acts_mirrorDrop h6)
  · exact acts_lookupDrop h3
  · split
    · rename_i y7 y8 y9
      have h10 := acts_of_snd y9 (acts_sprayPlace h3)
      exact acts_handOn h10
    · rename_i y11 y12 y13
      have h14 := acts_of_snd y13 (acts_sprayPlace h3)
      exact h14
theorem acts_resprayPort {z s a1 a2} (h : Acts z s) : Acts z (resprayPort s a1 a2) := by
  unfold resprayPort
  extract_lets +onlyGivenNames u0 u1
  clear_value u0 u1
  exact acts_foldl (acts_dropFromWaits (acts_dropFromQueues h)) (fun x2 x3 h4 => acts_resprayOne h4)
theorem acts_endCut {z s a1 a2} (h : Acts z s) : Acts z (endCut s a1 a2) := by
  unfold endCut
  extract_lets +onlyGivenNames u0
  clear_value u0
  refine acts_ite ?_ (acts_discardFrame (acts_dropFromQueues h))
  extract_lets +onlyGivenNames u1
  have h2 : Acts z u1 := acts_emit (acts_yfpCount h) _
  clear_value u1
  exact acts_discardFrame (acts_updPort h2 _ _ _)
theorem acts_endBad {z s a1 a2} (h : Acts z s) : Acts z (endBad s a1 a2) := by
  unfold endBad
  extract_lets +onlyGivenNames u0
  clear_value u0
  refine acts_ite h (acts_ite (acts_ite (acts_updFrm h _ _) (acts_endCut h)) ?_)
  extract_lets +onlyGivenNames u1
  clear_value u1
  exact acts_discardFrame (acts_foldl (acts_dropFromWaits h) (fun x2 x3 h4 => acts_discardFrame h4))
theorem acts_truncateRx {z s a1 a2} (h : Acts z s) : Acts z (truncateRx s a1 a2) := by
  unfold truncateRx
  split
  · exact h
  · exact acts_endBad (acts_yfpCount (acts_updPort h _ _ _))
theorem acts_truncateTx {z s a1 a2} (h : Acts z s) : Acts z (truncateTx s a1 a2) := by
  unfold truncateTx
  split
  · exact h
  · exact acts_discardFrame (acts_coreCount (acts_updPort h _ _ _))
theorem acts_holdOrdered {z s a1 a2} (h : Acts z s) : Acts z (holdOrdered s a1 a2) := by
  unfold holdOrdered
  extract_lets +onlyGivenNames u0 u1
  clear_value u0 u1
  extract_lets +onlyGivenNames u2
  have h3 : Acts z u2 := acts_foldl (acts_dropFromQueues h) (fun x4 x5 h6 => acts_updFrm h6 _ _)
  clear_value u2
  exact acts_countN (acts_updPort h3 _ _ _) _ _
theorem acts_skipMcast {z s a1 a2} (h : Acts z s) : Acts z (skipMcast s a1 a2) := by
  unfold skipMcast
  extract_lets +onlyGivenNames u0
  clear_value u0
  exact acts_foldl (acts_dropFromWaits (acts_dropFromQueues h)) (fun x1 x2 h3 => acts_discardFrame h3)
theorem acts_clearRxPause {z s a1 a2} (h : Acts z s) : Acts z (clearRxPause s a1 a2) := by
  unfold clearRxPause
  exact acts_ite (acts_updPort (acts_setF h _ _ _) _ _ _) h
theorem acts_portDown {z s a1 a2} (h : Acts z s) : Acts z (portDown s a1 a2) := by
  unfold portDown
  refine acts_ite ?_ h
  extract_lets +onlyGivenNames u0
  have h1 : Acts z u0 := acts_truncateTx (acts_clearRxPause (acts_updPort (acts_setPortState h) _ _ _))
  clear_value u0
  exact acts_ite (acts_holdOrdered (acts_skipMcast (acts_resprayPort h1))) h1
theorem acts_releaseHeld {z s a1 a2} (h : Acts z s) : Acts z (releaseHeld s a1 a2) := by
  unfold releaseHeld
  extract_lets +onlyGivenNames u0
  clear_value u0
  extract_lets +onlyGivenNames u1
  have h2 : Acts z u1 := acts_updPort h _ _ _
  clear_value u1
  refine acts_foldl h2 (fun x3 x4 h5 => ?_)
  extract_lets +onlyGivenNames u6
  clear_value u6
  exact acts_updPort h5 _ _ _
theorem acts_settleTimed {z s a1 a2} (h : Acts z s) : Acts z (settleTimed s a1 a2) := by
  unfold settleTimed
  extract_lets +onlyGivenNames u0 u1
  clear_value u0 u1
  extract_lets +onlyGivenNames u2
  have h3 : Acts z u2 := acts_ite h (acts_updPort h _ _ _)
  clear_value u2
  exact acts_foldl h3 (fun x4 x5 h6 => acts_discardFrame (acts_tqCount h6))
theorem acts_portBack {z s a1 a2} (h : Acts z s) : Acts z (portBack s a1 a2) := by
  unfold portBack
  exact acts_ite (acts_releaseHeld (acts_updPort (acts_setPortState (acts_settleTimed h)) _ _ _)) h
theorem acts_holdExpire {z s a1 a2} (h : Acts z s) : Acts z (holdExpire s a1 a2) := by
  unfold holdExpire
  refine acts_ite ?_ h
  extract_lets +onlyGivenNames u0 u1 u2
  clear_value u0 u1 u2
  extract_lets +onlyGivenNames u3
  have h4 : Acts z u3 := acts_updPort (acts_setPortState h) _ _ _
  clear_value u3
  exact acts_foldl h4 (fun x5 x6 h7 => acts_discardFrame (acts_dropCore h7))
theorem acts_discard12 {z a0 a1 s a3} (h : Acts z s) : Acts z (discard12 a0 a1 s a3) := by
  unfold discard12
  exact acts_discardFrame (acts_dropCore h)
theorem acts_dropStagedFrames {z a0 a1 s a3} (h : Acts z s) : Acts z (dropStagedFrames a0 a1 s a3) := by
  unfold dropStagedFrames
  extract_lets +onlyGivenNames u0
  clear_value u0
  extract_lets +onlyGivenNames u1
  have h2 : Acts z u1 := acts_dropCore h
  clear_value u1
  extract_lets +onlyGivenNames u3
  have h4 : Acts z u3 := acts_foldl (acts_dropFromWaits h2) (fun x5 x6 h7 => acts_discardFrame h7)
  clear_value u3
  exact acts_ite (acts_discardFrame h4) (acts_freeStage h4)
theorem acts_endReceive {z s a1 a2} (h : Acts z s) : Acts z (endReceive s a1 a2) := by
  unfold endReceive
  split
  · exact h
  · exact acts_ite (acts_truncateRx h) h
theorem acts_enterQuarantine {z s a1 a2} (h : Acts z s) : Acts z (enterQuarantine s a1 a2) := by
  unfold enterQuarantine
  extract_lets +onlyGivenNames u0
  have h1 : Acts z u0 := acts_endReceive (acts_ite (acts_truncateTx (acts_clearRxPause h)) h)
  clear_value u0
  extract_lets +onlyGivenNames u2
  have h3 : Acts z u2 := acts_setF (acts_setPortState h1) _ _ _
  clear_value u2
  extract_lets +onlyGivenNames u4
  have h5 : Acts z u4 := acts_foldl h3 (fun x6 x7 h8 => acts_dropStagedFrames h8)
  clear_value u4
  extract_lets +onlyGivenNames u9
  have h10 : Acts z u9 := acts_updPort h5 _ _ _
  clear_value u9
  extract_lets +onlyGivenNames u11
  have h12 : Acts z u11 := acts_skipMcast (acts_resprayPort h10)
  clear_value u11
  extract_lets +onlyGivenNames u13 u14
  clear_value u13 u14
  extract_lets +onlyGivenNames u15
  have h16 : Acts z u15 := acts_updPort h12 _ _ _
  clear_value u15
  extract_lets +onlyGivenNames u17
  have h18 : Acts z u17 := acts_foldl h16 (fun x19 x20 h21 => acts_discard12 h21)
  clear_value u17
  refine acts_ite h18 ?_
  extract_lets +onlyGivenNames u22
  clear_value u22
  exact acts_foldl (acts_updLan h18 _ _ _) (fun x23 x24 h25 => acts_discard12 h25)

/-! ## Switch -/

theorem acts_moveCell {z a0 s a2} (h : Acts z s) : Acts z (moveCell a0 s a2) := by
  unfold moveCell
  extract_lets +onlyGivenNames u0 u1
  clear_value u0 u1
  extract_lets +onlyGivenNames u2
  have h3 : Acts z u2 := acts_updDie h _ _
  clear_value u2
  extract_lets +onlyGivenNames u4
  have h5 : Acts z u4 := acts_ite h3 (acts_updLink h3 _ _ _)
  clear_value u4
  exact acts_ite (acts_updLink h5 _ _ _) (acts_ite (acts_endCut h5) (acts_ite (acts_arriveFrame h5) h5))
theorem acts_creditUpdate {z a0 s a2} (h : Acts z s) : Acts z (creditUpdate a0 s a2) := by
  unfold creditUpdate
  extract_lets +onlyGivenNames u0 u1
  clear_value u0 u1
  exact acts_ite h (acts_emit (acts_updLink h _ _ _) _)
theorem acts_doSchedulerSlot {z a0 s} (h : Acts z s) : Acts z (doSchedulerSlot a0 s) := by
  unfold doSchedulerSlot
  extract_lets +onlyGivenNames u0
  have h1 : Acts z u0 := acts_retryCrossings h
  clear_value u0
  extract_lets +onlyGivenNames u2
  clear_value u2
  split
  · extract_lets +onlyGivenNames u3
    clear_value u3
    extract_lets +onlyGivenNames u4
    have h5 : Acts z u4 := acts_updDie h1 _ _
    clear_value u4
    exact acts_foldl (acts_foldl h5 (fun x6 x7 h8 => acts_moveCell h8)) (fun x9 x10 h11 => acts_creditUpdate h11)
theorem acts_doDepthBroadcast {z a0 s} (h : Acts z s) : Acts z (doDepthBroadcast a0 s) := by
  unfold doDepthBroadcast
  exact acts_foldl h (fun x0 x1 h2 => acts_updDie h2 _ _)
theorem acts_doEgressAdmit {z a0 s} (h : Acts z s) : Acts z (doEgressAdmit a0 s) := by
  unfold doEgressAdmit
  extract_lets +onlyGivenNames u0
  have h1 : Acts z u0 := acts_serveWaiters h
  clear_value u0
  split
  · exact h1
  · exact acts_admitFrame (acts_updDie h1 _ _)
theorem acts_doUnderrun {z a0 a1 s} (h : Acts z s) : Acts z (doUnderrun a0 a1 s) := by
  unfold doUnderrun
  split
  · exact acts_ite (acts_coreCount h) h
  · exact h
theorem acts_writeQuarantine {z a0 a1 s} (h : Acts z s) : Acts z (writeQuarantine a0 a1 s) := by
  unfold writeQuarantine
  exact acts_ite h (acts_enterQuarantine h)
theorem acts_writeAdmit {z a0 a1 s} (h : Acts z s) : Acts z (writeAdmit a0 a1 s) := by
  unfold writeAdmit
  refine acts_ite ?_ h
  extract_lets +onlyGivenNames u0
  clear_value u0
  extract_lets +onlyGivenNames u1
  have h2 : Acts z u1 := acts_setF h _ _ _
  clear_value u1
  exact acts_ite (acts_portBack (acts_setPortState (acts_setF h2 _ _ _))) h2
theorem acts_reserveWrite {z a0 a1 a2 a3 s} (h : Acts z s) : Acts z (reserveWrite a0 a1 a2 a3 s) := by
  unfold reserveWrite
  split
  · exact acts_ite h (acts_setF (acts_setF h _ _ _) _ _ _)
  · exact acts_ite h (acts_setF h _ _ _)
  · exact acts_ite h (acts_setF h _ _ _)
theorem acts_writeReserve {z a0 a1 a2 a3 s} (h : Acts z s) : Acts z (writeReserve a0 a1 a2 a3 s) := by
  unfold writeReserve
  extract_lets +onlyGivenNames u0
  have h1 : Acts z u0 := acts_reserveWrite h
  clear_value u0
  exact acts_ite (acts_setEvent h) (acts_flowPort h1)
theorem acts_setInRange {z s a1 a2 a3 a4 a5} (h : Acts z s) : Acts z (setInRange s a1 a2 a3 a4 a5) := by
  unfold setInRange
  exact acts_ite (acts_setF h _ _ _) h
theorem acts_writeBufConfig {z a0 a1 a2 s} (h : Acts z s) : Acts z (writeBufConfig a0 a1 a2 s) := by
  unfold writeBufConfig
  exact acts_ite h (acts_ite (acts_setInRange h) (acts_setInRange (acts_setInRange h)))
theorem acts_writeSpraySeed {z a0 a1 s} (h : Acts z s) : Acts z (writeSpraySeed a0 a1 s) := by
  unfold writeSpraySeed
  exact acts_updDie (acts_wr h _ _) _ _

/-! ## Traffic -/

theorem acts_setCredit {z s a1 a2 a3 a4} (h : Acts z s) : Acts z (State.setCredit s a1 a2 a3 a4) := by
  unfold State.setCredit
  exact acts_updPort h _ _ _
theorem acts_noteHeldSent {z s a1 a2 a3} (h : Acts z s) : Acts z (noteHeldSent s a1 a2 a3) := by
  unfold noteHeldSent
  exact acts_ite (acts_coreCount (acts_updFrm h _ _)) h
theorem acts_startTx {z s a1 a2 a3} (h : Acts z s) : Acts z (startTx s a1 a2 a3) := by
  unfold startTx
  extract_lets +onlyGivenNames u0 u1
  clear_value u0 u1
  extract_lets +onlyGivenNames u2
  have h3 : Acts z u2 := acts_updPort (acts_noteHeldSent h) _ _ _
  clear_value u2
  extract_lets +onlyGivenNames u4
  have h5 : Acts z u4 := acts_ite (acts_emit h3 _) (acts_updFrm h3 _ _)
  clear_value u4
  exact acts_mirrorTx h5
theorem acts_endTx {z s a1 a2} (h : Acts z s) : Acts z (endTx s a1 a2) := by
  unfold endTx
  split
  · exact h
  · exact acts_discardFrame (acts_updFrm (acts_updPort h _ _ _) _ _)
theorem acts_chargeStart {z s a1 a2 a3 a4} (h : Acts z s) : Acts z (chargeStart s a1 a2 a3 a4) := by
  unfold chargeStart
  extract_lets +onlyGivenNames u0
  have h1 : Acts z u0 := acts_setCredit h
  clear_value u0
  exact acts_ite (acts_tmCount (acts_updPort h1 _ _ _)) h1
theorem acts_noteWaits {z s a1 a2 a3} (h : Acts z s) : Acts z (noteWaits s a1 a2 a3) := by
  unfold noteWaits
  refine acts_foldl h (fun x0 x1 h2 => ?_)
  split
  · exact acts_ite (acts_updPort h2 _ _ _) h2
  · exact h2
theorem acts_sendClass {z s a1 a2 a3 a4} (h : Acts z s) : Acts z (sendClass s a1 a2 a3 a4) := by
  unfold sendClass
  extract_lets +onlyGivenNames u0
  have h1 : Acts z u0 := acts_updPort (acts_noteWaits h) _ _ _
  clear_value u0
  extract_lets +onlyGivenNames u2
  have h3 : Acts z u2 := acts_tmCount (acts_chargeStart h1)
  clear_value u2
  exact acts_startTx (acts_ite (acts_tmCount h3) h3)
theorem acts_sendTimed {z s a1 a2 a3 a4} (h : Acts z s) : Acts z (sendTimed s a1 a2 a3 a4) := by
  unfold sendTimed
  extract_lets +onlyGivenNames u0
  clear_value u0
  extract_lets +onlyGivenNames u1
  have h2 : Acts z u1 := acts_noteWaits h
  clear_value u1
  exact acts_startTx (acts_tqCount (acts_updPort h2 _ _ _))
theorem acts_pickLevel {z a0 a1 a2 s} (h : Acts z s) : Acts z (pickLevel a0 a1 a2 s).2 := by
  induction a2 generalizing s with
  | zero => exact h
  | succ n ih =>
    unfold pickLevel
    split
    · exact acts_setPort h _ _ _
    · exact ih (acts_setPort h _ _ _)
theorem acts_startCut {z s a1 a2 a3} (h : Acts z s) : Acts z (startCut s a1 a2 a3) := by
  unfold startCut
  extract_lets +onlyGivenNames u0
  have h1 : Acts z u0 := acts_updPort (acts_noteWaits h) _ _ _
  clear_value u0
  exact acts_startTx (acts_chargeStart h1)
theorem acts_doEgressSchedule {z a0 a1 s} (h : Acts z s) : Acts z (doEgressSchedule a0 a1 s) := by
  unfold doEgressSchedule
  refine acts_ite ?_ h
  extract_lets +onlyGivenNames u0
  have h1 : Acts z u0 := acts_settleTimed (acts_endTx h)
  clear_value u0
  split
  · exact acts_sendTimed h1
  · split
    · exact acts_startCut h1
    · split
      · rename_i y2 y3 y4
        have h5 := acts_of_snd y4 (acts_pickLevel h1)
        exact h5
      · rename_i y6 y7 y8 y9
        have h10 := acts_of_snd y9 (acts_pickLevel h1)
        split
        · exact acts_sendClass h10
        · exact h10
theorem acts_doTimedLaunch {z a0 a1 s} (h : Acts z s) : Acts z (doTimedLaunch a0 a1 s) := by
  unfold doTimedLaunch
  extract_lets +onlyGivenNames u0
  have h1 : Acts z u0 := acts_settleTimed h
  clear_value u0
  split
  · exact h1
  · exact acts_ite (acts_sendTimed (acts_endTx h1)) h1
theorem acts_doTimedDrop {z a0 a1 s} (h : Acts z s) : Acts z (doTimedDrop a0 a1 s) := by
  unfold doTimedDrop
  exact acts_settleTimed h
theorem acts_writeShaper {z a0 a1 a2 a3 s} (h : Acts z s) : Acts z (writeShaper a0 a1 a2 a3 s) := by
  unfold writeShaper
  extract_lets +onlyGivenNames u0 u1 u2
  clear_value u0 u1 u2
  extract_lets +onlyGivenNames u3
  have h4 : Acts z u3 := acts_setInRange h
  clear_value u3
  extract_lets +onlyGivenNames u5
  have h6 : Acts z u5 := acts_setInRange h4
  clear_value u5
  extract_lets +onlyGivenNames u7
  have h8 : Acts z u7 := acts_setF h6 _ _ _
  clear_value u7
  extract_lets +onlyGivenNames u9
  clear_value u9
  exact acts_setCredit h8
theorem acts_writePolicer0 {z a0 a1 s} (h : Acts z s) : Acts z (writePolicer0 a0 a1 s) := by
  unfold writePolicer0
  extract_lets +onlyGivenNames u0 u1 u2
  clear_value u0 u1 u2
  refine acts_ite ?_ ?_
  · extract_lets +onlyGivenNames u3
    have h4 : Acts z u3 := acts_wr h _ _
    clear_value u3
    exact acts_foldl h4 (fun x5 x6 h7 => acts_setEvent h7)
  · extract_lets +onlyGivenNames u8
    have h9 : Acts z u8 := acts_foldl h (fun x10 x11 h12 => acts_setBucket h12)
    clear_value u8
    extract_lets +onlyGivenNames u13
    have h14 : Acts z u13 := acts_wr h9 _ _
    clear_value u13
    exact acts_ite (acts_foldl h14 (fun x15 x16 h17 => acts_setBucket h17)) h14

/-! ## Lookup -/

theorem acts_takeAns {z a0 a1 a2 a3 a4 a5 s} (h : Acts z s) : Acts z (takeAns a0 a1 a2 a3 a4 a5 s).2 := by
  unfold takeAns
  split
  · exact acts_pair (acts_lookupCount h)
  · exact h
  · exact acts_pair (acts_parityMiss h)
theorem acts_resolve {z s a1 a2 a3 a4} (h : Acts z s) : Acts z (resolve s a1 a2 a3 a4).2 := by
  unfold resolve
  split
  · rename_i y0 y1 y2 y3
    have h4 := acts_of_snd y3 (acts_takeAns h)
    exact h4
  · rename_i y5 y6 y7
    have h8 := acts_of_snd y7 (acts_takeAns h)
    split
    · exact h8
    · split
      · rename_i y9 y10 y11 y12
        have h13 := acts_of_snd y12 (by
            split
            · exact acts_takeAns h8
            · exact h8
          )
        split
        · rename_i y14 y15
          have h16 := acts_of_snd y12 (by
              split
              · exact acts_takeAns h8
              · exact h8
            )
          exact h13
        · rename_i y17
          have h18 := acts_of_snd y12 (by
              split
              · exact acts_takeAns h8
              · exact h8
            )
          exact acts_takeAns h13
theorem acts_learnCheck {z s a1 a2 a3} (h : Acts z s) : Acts z (learnCheck s a1 a2 a3) := by
  unfold learnCheck
  extract_lets +onlyGivenNames u0
  clear_value u0
  refine acts_ite h ?_
  extract_lets +onlyGivenNames u1 u2
  clear_value u1 u2
  refine acts_ite h ?_
  extract_lets +onlyGivenNames u3
  clear_value u3
  extract_lets +onlyGivenNames u4
  have h5 : Acts z u4 := acts_mk h
  clear_value u4
  extract_lets +onlyGivenNames u6
  clear_value u6
  extract_lets +onlyGivenNames u7
  have h8 : Acts z u7 := by
    unfold u7
    split
    · exact acts_parityMiss h5
    · exact h5
  clear_value u7
  exact acts_ite h8 (acts_ite (acts_mk h8) (acts_lookupCount h8))
theorem acts_classDrop {z s a1 a2 a3} (h : Acts z s) : Acts z (classDrop s a1 a2 a3) := by
  unfold classDrop
  extract_lets +onlyGivenNames u0
  clear_value u0
  exact acts_ite (acts_discardFrame (acts_dropYfpRec h)) (acts_lookupDrop h)
theorem acts_toService {z s a1 a2 a3} (h : Acts z s) : Acts z (toService s a1 a2 a3) := by
  unfold toService
  extract_lets +onlyGivenNames u0 u1
  clear_value u0 u1
  exact acts_ite (acts_discardFrame (acts_knotCount h)) (acts_handOn (acts_updFrm h _ _))
theorem acts_cutThrough {z s a1} (h : Acts z s) : Acts z (cutThrough s a1) := by
  unfold cutThrough
  extract_lets +onlyGivenNames u0 u1 u2
  clear_value u0 u1 u2
  extract_lets +onlyGivenNames u3
  have h4 : Acts z u3 := acts_freeStage (acts_updFrm h _ _)
  clear_value u3
  extract_lets +onlyGivenNames u5
  have h6 : Acts z u5 := acts_updPort (acts_coreCount (acts_startCrossing h4)) _ _ _
  clear_value u5
  exact acts_ite (acts_startCut h6) h6
theorem acts_cutOrStore {z s a1} (h : Acts z s) : Acts z (cutOrStore s a1) := by
  unfold cutOrStore
  exact acts_ite (acts_cutThrough h) (acts_handOn h)
theorem acts_orderedTo {z s a1 a2 a3 a4} (h : Acts z s) : Acts z (orderedTo s a1 a2 a3 a4) := by
  unfold orderedTo
  extract_lets +onlyGivenNames u0
  clear_value u0
  exact acts_ite (acts_noCandidate h) (acts_ite (acts_lookupDrop h) (acts_cutOrStore (acts_updFrm h _ _)))
theorem acts_sprayTo {z s a1 a2 a3 a4} (h : Acts z s) : Acts z (sprayTo s a1 a2 a3 a4) := by
  unfold sprayTo
  split
  · rename_i y0 y1 y2
    have h3 := acts_of_snd y2 (acts_sprayPlace h)
    exact acts_cutOrStore h3
  · rename_i y4 y5 y6
    have h7 := acts_of_snd y6 (acts_sprayPlace h)
    exact h7
theorem acts_copyTo {z a0 a1 a2 a3 s a5} (h : Acts z s) : Acts z (copyTo a0 a1 a2 a3 s a5) := by
  unfold copyTo
  refine acts_ite h (acts_ite (acts_dropLookup h) ?_)
  split
  · rename_i y0 y1 y2 y3
    have h4 := acts_of_snd y3 (acts_addFrm h _)
    exact acts_handOn (acts_updFrm h4 _ _)
theorem acts_multicast {z s a1 a2 a3 a4} (h : Acts z s) : Acts z (multicast s a1 a2 a3 a4) := by
  unfold multicast
  extract_lets +onlyGivenNames u0
  have h1 : Acts z u0 := acts_updFrm (acts_foldl h (fun x2 x3 h4 => acts_copyTo h4)) _ _
  clear_value u0
  exact acts_ite (acts_discardFrame h1) h1
theorem acts_parityDrop {z s a1 a2 a3 a4 a5} (h : Acts z s) : Acts z (parityDrop s a1 a2 a3 a4 a5) := by
  unfold parityDrop
  extract_lets +onlyGivenNames u0
  clear_value u0
  exact acts_discardFrame (acts_mirrorDrop (acts_parityMiss h))
theorem acts_toSet {z s a1 a2 a3 a4 a5} (h : Acts z s) : Acts z (toSet s a1 a2 a3 a4 a5) := by
  unfold toSet
  extract_lets +onlyGivenNames u0 u1 u2
  clear_value u0 u1 u2
  refine acts_ite (acts_parityDrop h) (acts_ite (acts_lookupDrop h) ?_)
  extract_lets +onlyGivenNames u3
  have h4 : Acts z u3 := acts_updFrm h _ _
  clear_value u3
  exact acts_ite (acts_multicast h4) (acts_ite (acts_orderedTo h4) (acts_sprayTo h4))
theorem acts_toPort {z s a1 a2 a3 a4 a5} (h : Acts z s) : Acts z (toPort s a1 a2 a3 a4 a5) := by
  unfold toPort
  extract_lets +onlyGivenNames u0
  clear_value u0
  exact acts_ite (acts_lookupDrop h) (acts_ite (acts_orderedTo h) (acts_sprayTo h))
theorem acts_actOn_service {z s a1 a2 a3 a4} (h : Acts z s) : Acts z (actOn.service s a1 a2 a3 a4) := by
  unfold actOn.service
  extract_lets +onlyGivenNames u0
  clear_value u0
  exact acts_ite (acts_discardFrame (acts_dropYfpRec h)) (acts_ite (acts_lookupDrop h) (acts_toService h))
theorem acts_actOn_toFlood {z s a1 a2 a3 a4 a5} (h : Acts z s) : Acts z (actOn.toFlood s a1 a2 a3 a4 a5) := by
  unfold actOn.toFlood
  extract_lets +onlyGivenNames u0
  clear_value u0
  exact acts_ite (acts_parityDrop h) (acts_ite (acts_lookupDrop h) (acts_multicast (acts_updFrm h _ _)))
theorem acts_actOn {z s a1 a2 a3 a4 a5 a6} (h : Acts z s) : Acts z (actOn s a1 a2 a3 a4 a5 a6) := by
  unfold actOn
  extract_lets +onlyGivenNames u0
  clear_value u0
  refine acts_ite ?_ ?_
  · extract_lets +onlyGivenNames u1
    clear_value u1
    exact acts_actOn_toFlood h
  · split
    · exact acts_ite (acts_toPort h) (acts_toSet h)
    · exact acts_actOn_service h
    · exact acts_actOn_service h
    · exact acts_lookupDrop h
    · extract_lets +onlyGivenNames u2
      have h3 : Acts z u2 := acts_mirrorCopy h
      clear_value u2
      exact acts_ite (acts_toPort h3) (acts_toSet h3)
    · exact acts_lookupDrop h
theorem acts_afterHit {z s a1 a2 a3 a4 a5 a6} (h : Acts z s) : Acts z (afterHit s a1 a2 a3 a4 a5 a6) := by
  unfold afterHit
  extract_lets +onlyGivenNames u0 u1
  clear_value u0 u1
  extract_lets +onlyGivenNames u2 u3
  clear_value u2 u3
  extract_lets +onlyGivenNames u4
  have h5 : Acts z u4 := acts_updFrm h _ _
  clear_value u4
  refine acts_ite (acts_lookupDrop h5) (acts_ite (acts_lookupDrop h5) (acts_ite (acts_classDrop h5) ?_))
  split
  · exact acts_actOn h5
  · exact acts_discardFrame (acts_dropTm h5)
  · exact acts_actOn (acts_tmCount h5)
  · exact acts_actOn (acts_updFrm (acts_tmCount h5) _ _)
theorem acts_lookupFrame {z s a1 a2 a3} (h : Acts z s) : Acts z (lookupFrame s a1 a2 a3) := by
  unfold lookupFrame
  extract_lets +onlyGivenNames u0 u1
  clear_value u0 u1
  extract_lets +onlyGivenNames u2
  have h3 : Acts z u2 := acts_lookupCount h
  clear_value u2
  refine acts_ite (acts_lookupDrop h3) (acts_ite (acts_lookupDrop h3) ?_)
  extract_lets +onlyGivenNames u4
  have h5 : Acts z u4 := acts_learnCheck h3
  clear_value u4
  split
  · rename_i y6 y7 y8
    have h9 := acts_of_snd y8 (acts_resolve h5)
    exact acts_lookupDrop h9
  · rename_i y10 y11 y12 y13 y14
    have h15 := acts_of_snd y14 (acts_resolve h5)
    refine acts_ite ?_ (acts_afterHit h15)
    extract_lets +onlyGivenNames u16
    clear_value u16
    exact acts_ite (acts_afterHit (acts_lookupCount h15)) (acts_lookupDrop h15)
theorem acts_setBacklog {z s a1 a2 a3} (h : Acts z s) : Acts z (State.setBacklog s a1 a2 a3) := by
  unfold State.setBacklog
  exact acts_updDie h _ _
theorem acts_originate {z s a1 a2} (h : Acts z s) : Acts z (originate s a1 a2) := by
  unfold originate
  extract_lets +onlyGivenNames u0
  clear_value u0
  exact acts_ite (acts_flowPipe (acts_setBacklog h)) (acts_updDie h _ _)
theorem acts_offerMember {z s a1} (h : Acts z s) : Acts z (offerMember s a1) := by
  unfold offerMember
  extract_lets +onlyGivenNames u0
  clear_value u0
  exact acts_ite (acts_offerFrame h) (acts_lookupDrop h)
theorem acts_pullOriginated {z s a1 a2} (h : Acts z s) : Acts z (pullOriginated s a1 a2) := by
  unfold pullOriginated
  split
  · exact h
  · exact acts_ite (acts_setBacklog (acts_updDie h _ _)) h
theorem acts_lookupFrom {z a0 a1 a2 s} (h : Acts z s) : Acts z (lookupFrom a0 a1 a2 s) := by
  unfold lookupFrom
  split
  · exact acts_flowPipe (acts_pullOriginated h)
  · extract_lets +onlyGivenNames u0
    have h1 : Acts z u0 := acts_setBacklog h
    clear_value u0
    exact acts_flowPipe (acts_pullOriginated (acts_lookupFrame h1))
theorem acts_doFrameLookup {z a0 a1 s} (h : Acts z s) : Acts z (doFrameLookup a0 a1 s) := by
  unfold doFrameLookup
  exact acts_ite h (acts_ite (acts_lookupFrom h) (acts_lookupFrom h))

/-! ## Tables -/

theorem acts_setTxn {z s a1} (h : Acts z s) : Acts z (State.setTxn s a1) := by
  unfold State.setTxn
  exact acts_setF h _ _ _
theorem acts_txnEvent {z s a1} (h : Acts z s) : Acts z (txnEvent s a1) := by
  unfold txnEvent
  exact acts_setEvent h
theorem acts_txnRefuse {z s} (h : Acts z s) : Acts z (txnRefuse s) := by
  unfold txnRefuse
  exact acts_txnEvent h
theorem acts_updTabs {z s a1} (h : Acts z s) : Acts z (State.updTabs s a1) := by
  unfold State.updTabs
  exact acts_mk h
theorem acts_showJournal {z s} (h : Acts z s) : Acts z (showJournal s) := by
  unfold showJournal
  exact acts_setF h _ _ _
theorem acts_openTxn {z s a1} (h : Acts z s) : Acts z (openTxn s a1) := by
  unfold openTxn
  exact acts_setTxn (acts_showJournal (acts_updTabs h))
theorem acts_doBegin {z a0 s} (h : Acts z s) : Acts z (doBegin a0 s) := by
  unfold doBegin
  extract_lets +onlyGivenNames u0
  have h1 : Acts z u0 := acts_setF h _ _ _
  clear_value u0
  exact acts_ite (acts_openTxn h1) (acts_ite (acts_setTxn h1) (acts_txnRefuse h))
theorem acts_startAbort {z s a1} (h : Acts z s) : Acts z (startAbort s a1) := by
  unfold startAbort
  exact acts_setTxn (acts_updTabs h)
theorem acts_pendTxn {z s a1} (h : Acts z s) : Acts z (pendTxn s a1) := by
  unfold pendTxn
  exact acts_setTxn (acts_updTabs h)
theorem acts_doCommitNow {z a0 s} (h : Acts z s) : Acts z (doCommitNow a0 s) := by
  unfold doCommitNow
  exact acts_ite (acts_txnRefuse h) (acts_ite (acts_startAbort h) (acts_pendTxn h))
theorem acts_doCommitAt {z a0 s} (h : Acts z s) : Acts z (doCommitAt a0 s) := by
  unfold doCommitAt
  extract_lets +onlyGivenNames u0
  clear_value u0
  exact acts_ite (acts_txnRefuse h) (acts_ite (acts_startAbort h) (acts_pendTxn h))
theorem acts_doAbort {z a0 s} (h : Acts z s) : Acts z (doAbort a0 s) := by
  unfold doAbort
  extract_lets +onlyGivenNames u0
  clear_value u0
  extract_lets +onlyGivenNames u1
  have h2 : Acts z u1 := acts_txnEvent h
  clear_value u1
  exact acts_ite (acts_ite (acts_setTxn (acts_setF h _ _ _)) (acts_ite h2 (acts_txnRefuse h))) (acts_ite (acts_startAbort h) (acts_ite h2 (acts_txnRefuse h)))
theorem acts_showScrub {z s a1} (h : Acts z s) : Acts z (showScrub s a1) := by
  unfold showScrub
  exact acts_setF h _ _ _
theorem acts_showScrubs {z s} (h : Acts z s) : Acts z (showScrubs s) := by
  unfold showScrubs
  exact acts_foldl h (fun x0 x1 h2 => acts_showScrub h2)
theorem acts_unmark {z s a1 a2} (h : Acts z s) : Acts z (unmark s a1 a2) := by
  unfold unmark
  exact acts_ite (acts_showScrubs (acts_updTabs h)) h
theorem acts_logRepairs {z s a1 a2} (h : Acts z s) : Acts z (logRepairs s a1 a2) := by
  unfold logRepairs
  exact acts_foldl h (fun x0 x1 h2 => acts_logParity h2)
theorem acts_copyCell {z a0 s a2} (h : Acts z s) : Acts z (copyCell a0 s a2) := by
  unfold copyCell
  extract_lets +onlyGivenNames u0
  clear_value u0
  extract_lets +onlyGivenNames u1
  have h2 : Acts z u1 := acts_updTabs h
  clear_value u1
  exact acts_ite h2 (acts_showScrubs (acts_updTabs (acts_logRepairs h2)))
theorem acts_copyJournal {z s} (h : Acts z s) : Acts z (copyJournal s) := by
  unfold copyJournal
  exact acts_foldl h (fun x0 x1 h2 => acts_copyCell h2)
theorem acts_endTxn {z s a1} (h : Acts z s) : Acts z (endTxn s a1) := by
  unfold endTxn
  extract_lets +onlyGivenNames u0
  have h1 : Acts z u0 := acts_showJournal (acts_updTabs h)
  clear_value u0
  exact acts_txnEvent (acts_setF h1 _ _ _)
theorem acts_doCatchupDone {z s} (h : Acts z s) : Acts z (doCatchupDone s) := by
  unfold doCatchupDone
  refine acts_ite ?_ h
  extract_lets +onlyGivenNames u0
  have h1 : Acts z u0 := acts_endTxn (acts_copyJournal h)
  clear_value u0
  exact acts_ite (acts_setTxn h1) (acts_ite h1 (acts_openTxn h1))
theorem acts_doAbortDone {z s} (h : Acts z s) : Acts z (doAbortDone s) := by
  unfold doAbortDone
  exact acts_ite (acts_setTxn (acts_endTxn (acts_copyJournal h))) h
theorem acts_journalAll {z s a1} (h : Acts z s) {t} (e : (journalAll s a1) = some t) : Acts z t := by
  unfold journalAll at e
  extract_lets at e
  split at e
  · cases e; exact acts_showJournal (acts_updTabs h)
  · cases e
theorem acts_stageRegs {z s a1 a2} (h : Acts z s) : Acts z (stageRegs s a1 a2) := by
  unfold stageRegs
  split
  · exact acts_txnEvent h
  · rename_i y0 y1 y2
    have h3 := acts_journalAll h y2
    exact acts_foldl h3 (fun x4 x5 h6 => acts_unmark (acts_putSlotReg h6))
theorem acts_stageRota {z a0 a1 a2 a3 a4 s} (h : Acts z s) : Acts z (stageRota a0 a1 a2 a3 a4 s) := by
  unfold stageRota
  extract_lets +onlyGivenNames u0 u1
  clear_value u0 u1
  refine acts_ite (acts_txnRefuse h) (acts_ite ?_ ?_)
  · extract_lets +onlyGivenNames u2
    have h3 : Acts z u2 := acts_setF (acts_setF h _ _ _) _ _ _
    clear_value u2
    exact acts_setEvent h3
  · extract_lets +onlyGivenNames u4
    clear_value u4
    exact acts_stageRegs h
theorem acts_stageOne {z a0 a1 a2 a3 s} (h : Acts z s) : Acts z (stageOne a0 a1 a2 a3 s) := by
  unfold stageOne
  extract_lets +onlyGivenNames u0
  clear_value u0
  exact acts_ite h (acts_ite (acts_stageRegs h) (acts_txnRefuse h))
theorem acts_stageBridge {z a0 a1 a2 s} (h : Acts z s) : Acts z (stageBridge a0 a1 a2 s) := by
  unfold stageBridge
  exact acts_ite (acts_stageRegs h) (acts_txnRefuse h)
theorem acts_takeHeldLow {z s a1 a2} (h : Acts z s) : Acts z (takeHeldLow s a1 a2).2 := by
  unfold takeHeldLow
  split
  · exact h
  · exact acts_pair (acts_mk h)
theorem acts_holdLow {z s a1 a2} (h : Acts z s) : Acts z (holdLow s a1 a2) := by
  unfold holdLow
  exact acts_mk h
theorem acts_stagedWrite {z a0 a1 s} (h : Acts z s) : Acts z (stagedWrite a0 a1 s) := by
  unfold stagedWrite
  split
  · exact h
  · split
    · exact acts_stageRota h
    · exact acts_holdLow h
    · extract_lets +onlyGivenNames u0
      clear_value u0
      split
      · rename_i y1 y2 y3 y4
        have h5 := acts_of_snd y4 (acts_takeHeldLow h)
        exact acts_stageBridge h5
    · exact acts_stageOne h
    · exact acts_stageOne h
    · exact acts_stageOne h
    · exact acts_stageOne h
    · exact acts_stageOne h
    · exact acts_stageOne h
    · exact acts_stageOne h
    · exact h
theorem acts_learnWrite {z a0 s} (h : Acts z s) : Acts z (learnWrite a0 s) := by
  unfold learnWrite
  extract_lets +onlyGivenNames u0 u1
  clear_value u0 u1
  extract_lets +onlyGivenNames u2
  have h3 : Acts z u2 := acts_updTabs h
  clear_value u2
  refine acts_ite ?_ (acts_lookupCount h3)
  extract_lets +onlyGivenNames u4
  have h5 : Acts z u4 := acts_foldl (acts_updTabs h3) (fun x6 x7 h8 => acts_unmark (acts_unmark h8))
  clear_value u4
  exact acts_lookupCount (acts_foldl h5 (fun x9 x10 h11 => acts_copyCell h11))
theorem acts_doLearnInsert {z s} (h : Acts z s) : Acts z (doLearnInsert s) := by
  unfold doLearnInsert
  split
  · exact h
  · refine acts_ite h ?_
    extract_lets +onlyGivenNames u0
    have h1 : Acts z u0 := acts_updTabs h
    clear_value u0
    split
    · exact acts_ite (acts_learnWrite h1) h1
    · exact acts_learnWrite h1
theorem acts_tblDone {z s a1} (h : Acts z s) : Acts z (tblDone s a1) := by
  unfold tblDone
  exact acts_setF h _ _ _
theorem acts_putTblData {z s a1 a2} (h : Acts z s) : Acts z (putTblData s a1 a2) := by
  unfold putTblData
  exact acts_foldl h (fun x0 x1 h2 => acts_wr h2 _ _)
theorem acts_tblGuard {z a0 s1 s2} (h1 : Acts z s1) (h2 : Acts z s2) : Acts z (tblGuard a0 s1 s2) := by
  unfold tblGuard
  exact acts_ite h2 (acts_txnRefuse h1)
theorem acts_tblJournalFull {z s} (h : Acts z s) : Acts z (tblJournalFull s) := by
  unfold tblJournalFull
  exact acts_tblDone (acts_txnEvent h)
theorem acts_tblWrite {z a0 s} (h : Acts z s) : Acts z (tblWrite a0 s) := by
  unfold tblWrite
  refine acts_ite (acts_tblDone h) ?_
  extract_lets +onlyGivenNames u0
  clear_value u0
  split
  · exact acts_tblJournalFull h
  · rename_i y1 y2 y3
    have h4 := acts_journalAll h y3
    exact acts_tblDone (acts_unmark (acts_State_putEntry h4))
theorem acts_showInsert {z s a1} (h : Acts z s) : Acts z (showInsert s a1) := by
  unfold showInsert
  exact acts_setF (acts_setF h _ _ _) _ _ _
theorem acts_tblInsert {z a0 s} (h : Acts z s) : Acts z (tblInsert a0 s) := by
  unfold tblInsert
  extract_lets +onlyGivenNames u0
  clear_value u0
  refine acts_ite (acts_tblDone h) ?_
  extract_lets +onlyGivenNames u1
  clear_value u1
  extract_lets +onlyGivenNames u2
  have h3 : Acts z u2 := acts_showInsert (acts_updTabs h)
  clear_value u2
  refine acts_ite (acts_tblDone h3) ?_
  split
  · exact acts_tblJournalFull h3
  · rename_i y4 y5 y6
    have h7 := acts_journalAll h3 y6
    extract_lets +onlyGivenNames u8
    have h9 : Acts z u8 := acts_foldl (acts_updTabs h7) (fun x10 x11 h12 => acts_unmark h12)
    clear_value u8
    exact acts_tblDone (acts_setF h9 _ _ _)
theorem acts_tblDelete {z a0 s} (h : Acts z s) : Acts z (tblDelete a0 s) := by
  unfold tblDelete
  split
  · exact acts_tblDone h
  · extract_lets +onlyGivenNames u0
    clear_value u0
    refine acts_ite (acts_tblDone h) ?_
    split
    · exact acts_tblJournalFull h
    · rename_i y1 y2 y3
      have h4 := acts_journalAll h y3
      exact acts_tblDone (acts_unmark (acts_State_putEntry h4))
theorem acts_tblRead {z a0 a1 s} (h : Acts z s) : Acts z (tblRead a0 a1 s) := by
  unfold tblRead
  refine acts_ite ?_ (acts_ite (acts_tblDone h) (acts_tblDone (acts_putTblData h)))
  split
  · exact acts_tblDone h
  · exact acts_tblDone (acts_putTblData (acts_setF h _ _ _))
theorem acts_clearMark {z s a1 a2 a3} (h : Acts z s) : Acts z (clearMark s a1 a2 a3) := by
  unfold clearMark
  exact acts_updTabs h
theorem acts_seeMark {z s a1 a2 a3} (h : Acts z s) : Acts z (seeMark s a1 a2 a3) := by
  unfold seeMark
  exact acts_updTabs h
theorem acts_addMark {z s a1 a2 a3} (h : Acts z s) : Acts z (addMark s a1 a2 a3) := by
  unfold addMark
  exact acts_ite h (acts_updTabs h)
theorem acts_scrubEntry {z a0 a1 a2 s} (h : Acts z s) : Acts z (scrubEntry a0 a1 a2 s) := by
  unfold scrubEntry
  exact acts_ite h (acts_ite (acts_showScrub (acts_logParity (acts_clearMark h))) (acts_showScrub (acts_seeMark h)))
theorem acts_doScrubRead {z a0 a1 a2 a3 a4 s} (h : Acts z s) : Acts z (doScrubRead a0 a1 a2 a3 a4 s) := by
  unfold doScrubRead
  refine acts_ite h ?_
  extract_lets +onlyGivenNames u0
  clear_value u0
  extract_lets +onlyGivenNames u1
  have h2 : Acts z u1 := acts_scrubEntry (acts_ite (acts_addMark h) h)
  clear_value u1
  exact acts_ite (acts_setF h2 _ _ _) h2
theorem acts_doDieCopy {z a0 s} (h : Acts z s) : Acts z (doDieCopy a0 s) := by
  unfold doDieCopy
  exact acts_ite (acts_showScrub (acts_updTabs h)) h

/-! ## Lanes -/

theorem acts_losePort {z s a1 a2} (h : Acts z s) : Acts z (losePort s a1 a2) := by
  unfold losePort
  exact acts_ite (acts_portDown (acts_truncateRx h)) h
theorem acts_refreshUp {z s a1 a2} (h : Acts z s) : Acts z (refreshUp s a1 a2) := by
  unfold refreshUp
  refine acts_ite h ?_
  extract_lets +onlyGivenNames u0
  clear_value u0
  extract_lets +onlyGivenNames u1
  have h2 : Acts z u1 := acts_setF h _ _ _
  clear_value u1
  exact acts_ite (acts_losePort (acts_mk h2)) (acts_ite (acts_flowPort (acts_updPort h2 _ _ _)) h2)
theorem acts_setTxMask {z s a1 a2 a3} (h : Acts z s) : Acts z (setTxMask s a1 a2 a3) := by
  unfold setTxMask
  exact acts_refreshUp (acts_setF h _ _ _)
theorem acts_setRxMask {z s a1 a2 a3} (h : Acts z s) : Acts z (setRxMask s a1 a2 a3) := by
  unfold setRxMask
  exact acts_refreshUp (acts_setF h _ _ _)
theorem acts_sendLaneSet {z s a1 a2 a3} (h : Acts z s) : Acts z (sendLaneSet s a1 a2 a3) := by
  unfold sendLaneSet
  extract_lets +onlyGivenNames u0
  clear_value u0
  refine acts_ite h (acts_ite (acts_setTxMask (acts_updPort h _ _ _)) ?_)
  extract_lets +onlyGivenNames u1 u2 u3
  clear_value u1 u2 u3
  split
  · rename_i y4 y5 y6 y7
    have h8 := acts_of_snd y7 (acts_drawFree h _)
    extract_lets +onlyGivenNames u9
    clear_value u9
    extract_lets +onlyGivenNames u10
    have h11 : Acts z u10 := acts_updPort h8 _ _ _
    clear_value u10
    refine acts_foldl h11 (fun x12 x13 h14 => ?_)
    extract_lets +onlyGivenNames u15
    have h16 : Acts z u15 := acts_updLane h14 _ _ _
    clear_value u15
    exact acts_foldl h16 (fun x17 x18 h19 => acts_queueCtl h19)
theorem acts_addTxLane {z s a1 a2 a3} (h : Acts z s) : Acts z (addTxLane s a1 a2 a3) := by
  unfold addTxLane
  exact acts_sendLaneSet h
theorem acts_dropTxLane {z s a1 a2 a3} (h : Acts z s) : Acts z (dropTxLane s a1 a2 a3) := by
  unfold dropTxLane
  exact acts_ite (acts_sendLaneSet h) h
theorem acts_setFarAdmit {z s a1 a2 a3} (h : Acts z s) : Acts z (setFarAdmit s a1 a2 a3) := by
  unfold setFarAdmit
  exact acts_setF h _ _ _
theorem acts_loseRxLane {z s a1 a2} (h : Acts z s) : Acts z (loseRxLane s a1 a2) := by
  unfold loseRxLane
  split
  · exact h
  · refine acts_ite h ?_
    extract_lets +onlyGivenNames u0
    clear_value u0
    extract_lets +onlyGivenNames u1
    have h2 : Acts z u1 := acts_updPort h _ _ _
    clear_value u1
    exact acts_refreshUp (acts_queueAll h2)
theorem acts_admitRxLane {z s a1 a2} (h : Acts z s) : Acts z (admitRxLane s a1 a2) := by
  unfold admitRxLane
  split
  · exact h
  · exact acts_refreshUp (acts_updPort h _ _ _)
theorem acts_laneDown {z s a1 a2} (h : Acts z s) : Acts z (laneDown s a1 a2) := by
  unfold laneDown
  extract_lets +onlyGivenNames u0
  have h1 : Acts z u0 := acts_setLaneEvent (acts_laneCount h)
  clear_value u0
  refine acts_ite h1 ?_
  extract_lets +onlyGivenNames u2
  have h3 : Acts z u2 := acts_updLane (acts_setLaneState h1) _ _ _
  clear_value u2
  exact acts_loseRxLane h3

/-! ## Fabric -/

theorem acts_rerouteFrames {z s a1} (h : Acts z s) : Acts z (rerouteFrames s a1) := by
  unfold rerouteFrames
  exact acts_foldl (acts_foldl h (fun x0 x1 h2 => acts_updFrm (acts_offMesh h2) _ _)) (fun x3 x4 h5 => acts_crossMesh h5)
theorem acts_setBoth {z s a1 a2 a3 a4} (h : Acts z s) : Acts z (setBoth s a1 a2 a3 a4) := by
  unfold setBoth
  exact acts_setF (acts_setF h _ _ _) _ _ _
theorem acts_linkDown {z s a1 a2 a3} (h : Acts z s) : Acts z (linkDown s a1 a2 a3) := by
  unfold linkDown
  refine acts_ite h ?_
  extract_lets +onlyGivenNames u0
  clear_value u0
  extract_lets +onlyGivenNames u1
  have h2 : Acts z u1 := acts_setBoth (acts_setBoth h)
  clear_value u1
  extract_lets +onlyGivenNames u3
  have h4 : Acts z u3 := acts_setEvent (acts_setEvent h2)
  clear_value u3
  extract_lets +onlyGivenNames u5
  have h6 : Acts z u5 := acts_updLink (acts_updLink h4 _ _ _) _ _ _
  clear_value u5
  split
  · rename_i y7 y8 y9 y10
    have h11 := acts_of_snd y10 (acts_drawFree h6 _)
    extract_lets +onlyGivenNames u12
    clear_value u12
    extract_lets +onlyGivenNames u13
    have h14 : Acts z u13 := acts_fileRec h11
    clear_value u13
    exact acts_rerouteFrames h14
theorem acts_acceptFlit {z s a1 a2 a3} (h : Acts z s) : Acts z (acceptFlit s a1 a2 a3) := by
  unfold acceptFlit
  extract_lets +onlyGivenNames u0
  have h1 : Acts z u0 := acts_updLink h _ _ _
  clear_value u0
  extract_lets +onlyGivenNames u2 u3
  clear_value u2 u3
  extract_lets +onlyGivenNames u4
  have h5 : Acts z u4 := acts_ite h1 (acts_ite (acts_addXfer h1) (acts_addXfer h1))
  clear_value u4
  exact acts_creditUpdate h5
theorem acts_doFlitReceive {z a0 a1 a2 a3 s} (h : Acts z s) : Acts z (doFlitReceive a0 a1 a2 a3 s) := by
  unfold doFlitReceive
  extract_lets +onlyGivenNames u0
  clear_value u0
  split
  · exact h
  · refine acts_ite h (acts_ite (acts_acceptFlit (acts_updLink h _ _ _)) ?_)
    extract_lets +onlyGivenNames u1
    clear_value u1
    extract_lets +onlyGivenNames u2
    have h3 : Acts z u2 := acts_updLink (acts_count h _) _ _ _
    clear_value u2
    exact acts_ite (acts_linkDown h3) h3
theorem acts_doRetrain {z a0 a1 s} (h : Acts z s) : Acts z (doRetrain a0 a1 s) := by
  unfold doRetrain
  exact acts_ite h (acts_updLink (acts_updLink h _ _ _) _ _ _)
theorem acts_startDrain {z s a1 a2} (h : Acts z s) : Acts z (startDrain s a1 a2) := by
  unfold startDrain
  exact acts_setF h _ _ _
theorem acts_doDieLinkUp {z a0 a1 s} (h : Acts z s) : Acts z (doDieLinkUp a0 a1 s) := by
  unfold doDieLinkUp
  refine acts_ite ?_ h
  extract_lets +onlyGivenNames u0
  have h1 : Acts z u0 := acts_updLink (acts_updLink h _ _ _) _ _ _
  clear_value u0
  exact acts_startDrain (acts_startDrain (acts_setBoth h1))
theorem acts_doDrainDone {z a0 a1 s} (h : Acts z s) : Acts z (doDrainDone a0 a1 s) := by
  unfold doDrainDone
  exact acts_ite h (acts_setF h _ _ _)
theorem acts_enterHunt {z s a1 a2} (h : Acts z s) : Acts z (enterHunt s a1 a2) := by
  unfold enterHunt
  exact acts_ite h (acts_yfpCount (acts_updPort h _ _ _))
theorem acts_countBlocks {z a0 a1 a2 a3 a4 s} (h : Acts z s) : Acts z (countBlocks a0 a1 a2 a3 a4 s) := by
  induction a4 generalizing a3 s with
  | nil => exact h
  | cons b l ih =>
    unfold countBlocks
    refine ih ?_
    split
    · exact acts_yfpCount h
    · exact h
theorem acts_dropRow {z a0 s a2} (h : Acts z s) : Acts z (dropRow a0 s a2) := by
  unfold dropRow
  exact acts_updLane h _ _ _
theorem acts_joinStream_take {z a0 a1 s a3 a4} (h : Acts z s) : Acts z (joinStream.take a0 a1 s a3 a4) := by
  unfold joinStream.take
  extract_lets +onlyGivenNames u0
  clear_value u0
  exact acts_foldl (acts_updPort h _ _ _) (fun x1 x2 h3 => acts_dropRow h3)
theorem acts_joinStream {z a0 a1 a2 s} (h : Acts z s) : Acts z (joinStream a0 a1 a2 s) := by
  induction a2 generalizing s with
  | zero => exact h
  | succ n ih =>
    unfold joinStream
    extract_lets u0 u1
    split
    · exact h
    · exact h
    · extract_lets u2
      refine acts_ite (ih (acts_foldl h fun _ _ k => acts_dropRow k)) ?_
      split
      · exact acts_ite (ih (acts_setRxMask (acts_updPort h _ _ _))) (ih (acts_joinStream_take h))
      · exact ih (acts_joinStream_take h)
theorem acts_doCodeword {z a0 a1 a2 s} (h : Acts z s) : Acts z (doCodeword a0 a1 a2 s) := by
  unfold doCodeword
  extract_lets +onlyGivenNames u0 u1
  clear_value u0 u1
  split
  · exact acts_updLane h _ _ _
  · extract_lets +onlyGivenNames u2 u3
    clear_value u2 u3
    split
    · extract_lets +onlyGivenNames u4
      have h5 : Acts z u4 := by
        unfold u4
        split
        · exact acts_countN h _ _
        · exact acts_laneCount h
      clear_value u4
      extract_lets +onlyGivenNames u6
      have h7 : Acts z u6 := acts_updLane h5 _ _ _
      clear_value u6
      refine acts_ite h7 ?_
      extract_lets +onlyGivenNames u8
      have h9 : Acts z u8 := acts_ite (acts_countBlocks h7) (acts_yfpCount h7)
      clear_value u8
      exact acts_ite (acts_joinStream h9) h9
theorem acts_excludeByMarker {z s a1 a2} (h : Acts z s) : Acts z (excludeByMarker s a1 a2) := by
  unfold excludeByMarker
  extract_lets +onlyGivenNames u0
  have h1 : Acts z u0 := acts_loseRxLane (acts_fileLaneLink h)
  clear_value u0
  refine acts_ite (acts_setLaneState (acts_laneCount h1)) ?_
  extract_lets +onlyGivenNames u2
  have h3 : Acts z u2 := acts_setLaneEvent (acts_laneCount h1)
  clear_value u2
  extract_lets +onlyGivenNames u4
  have h5 : Acts z u4 := acts_dropTxLane (acts_setF (acts_setLaneState h3) _ _ _)
  clear_value u4
  exact acts_updLane (acts_setF h5 _ _ _) _ _ _
theorem acts_doMarker {z a0 a1 a2 a3 s} (h : Acts z s) : Acts z (doMarker a0 a1 a2 a3 s) := by
  unfold doMarker
  split
  · exact h
  · refine acts_ite h ?_
    extract_lets +onlyGivenNames u0
    clear_value u0
    extract_lets +onlyGivenNames u1
    have h2 : Acts z u1 := acts_updLane h _ _ _
    clear_value u1
    extract_lets +onlyGivenNames u3
    clear_value u3
    extract_lets +onlyGivenNames u4
    have h5 : Acts z u4 := acts_ite (acts_wr h2 _ _) h2
    clear_value u4
    extract_lets +onlyGivenNames u6
    clear_value u6
    exact acts_ite (acts_excludeByMarker h5) h5
theorem acts_stageFrame {z s a1 a2} (h : Acts z s) : Acts z (stageFrame s a1 a2).2 := by
  unfold stageFrame
  extract_lets +onlyGivenNames u0 u1
  clear_value u0 u1
  extract_lets +onlyGivenNames u2 u3
  clear_value u2 u3
  split
  · extract_lets +onlyGivenNames u4
    have h5 : Acts z u4 := acts_setEvent h
    clear_value u4
    exact acts_pair (acts_ite (acts_lanCount h5) (acts_dropCore h5))
  · split
    · exact acts_pair (acts_dropLookup h)
    · split
      · rename_i y6 y7 y8 y9
        have h10 := acts_of_snd y9 (acts_takeStage h)
        split
        · rename_i y11 y12 y13 y14
          have h15 := acts_of_snd y14 (acts_addFrm h10 _)
          exact acts_pair (acts_stageFlow (acts_flowPipe (acts_setBacklog h15)))
theorem acts_dropNotUp {z s a1 a2 a3} (h : Acts z s) : Acts z (dropNotUp s a1 a2 a3) := by
  unfold dropNotUp
  exact acts_ite (acts_dropLookup h) (acts_dropCore h)
theorem acts_rxHead {z s a1 a2 a3 a4 a5} (h : Acts z s) : Acts z (rxHead s a1 a2 a3 a4 a5).2 := by
  unfold rxHead
  extract_lets +onlyGivenNames u0
  clear_value u0
  split
  · exact h
  · extract_lets +onlyGivenNames u1
    have h2 : Acts z u1 := acts_updPort h _ _ _
    clear_value u1
    split
    · exact acts_pair (acts_ite (acts_enterHunt (acts_yfpCount h2)) (acts_dropYfp h2))
    · split
      · exact acts_pair (acts_dropNotUp (acts_mirrorRx h2))
      · split
        · rename_i y3 y4 y5 y6
          have h7 := acts_of_snd y6 (acts_police h2)
          exact acts_stageFrame (acts_mirrorRx h7)
theorem acts_frameWhole {z s a1 a2 a3} (h : Acts z s) : Acts z (frameWhole s a1 a2 a3) := by
  unfold frameWhole
  refine acts_foldl h (fun x0 x1 h2 => ?_)
  extract_lets +onlyGivenNames u3
  have h4 : Acts z u3 := acts_updFrm h2 _ _
  clear_value u3
  exact acts_ite (acts_offerFrame h4) h4
theorem acts_rxTail {z s a1 a2 a3 a4 a5 a6} (h : Acts z s) : Acts z (rxTail s a1 a2 a3 a4 a5 a6) := by
  unfold rxTail
  extract_lets +onlyGivenNames u0 u1
  clear_value u0 u1
  extract_lets +onlyGivenNames u2
  have h3 : Acts z u2 := acts_updPort h _ _ _
  clear_value u2
  exact acts_ite h3 (acts_ite (acts_endBad h3) (acts_ite (acts_endBad (acts_dropYfpRec h3)) (acts_frameWhole h3)))
theorem acts_rxWhole {z s a1 a2 a3 a4 a5 a6 a7} (h : Acts z s) : Acts z (rxWhole s a1 a2 a3 a4 a5 a6 a7) := by
  unfold rxWhole
  split
  · rename_i y0 y1 y2 y3
    have h4 := acts_of_snd y3 (acts_rxHead h)
    exact acts_rxTail h4
  · rename_i y5 y6 y7
    have h8 := acts_of_snd y7 (acts_rxHead h)
    exact h8
theorem acts_rxFinish {z s a1 a2 a3 a4} (h : Acts z s) : Acts z (rxFinish s a1 a2 a3 a4) := by
  unfold rxFinish
  extract_lets +onlyGivenNames u0
  clear_value u0
  exact acts_rxTail (acts_updPort h _ _ _)
theorem acts_rxStart {z s a1 a2 a3} (h : Acts z s) : Acts z (rxStart s a1 a2 a3) := by
  unfold rxStart
  extract_lets +onlyGivenNames u0 u1
  clear_value u0 u1
  refine acts_ite h ?_
  split
  · rename_i y2 y3 y4 y5
    have h6 := acts_of_snd y5 (acts_rxHead (acts_updPort h _ _ _))
    extract_lets +onlyGivenNames u7
    have h8 : Acts z u7 := acts_updPort h6 _ _ _
    clear_value u7
    exact acts_ite (acts_rxFinish h8) h8
  · rename_i y9 y10 y11
    have h12 := acts_of_snd y11 (acts_rxHead (acts_updPort h _ _ _))
    exact acts_updPort h12 _ _ _
theorem acts_rxFirst {z s a1 a2 a3} (h : Acts z s) : Acts z (rxFirst s a1 a2 a3) := by
  unfold rxFirst
  extract_lets +onlyGivenNames u0
  clear_value u0
  exact acts_ite (acts_enterHunt h) (acts_ite (acts_rxHead h) (acts_updPort h _ _ _))
theorem acts_rxBlock {z a0 a1 s} (h : Acts z s) : Acts z (rxBlock a0 a1 s) := by
  unfold rxBlock
  split
  · exact h
  · extract_lets +onlyGivenNames u0
    have h1 : Acts z u0 := acts_updPort h _ _ _
    clear_value u0
    extract_lets +onlyGivenNames u2
    clear_value u2
    extract_lets +onlyGivenNames u3
    have h4 : Acts z u3 := acts_updPort h1 _ _ _
    clear_value u3
    refine acts_ite (acts_updPort h1 _ _ _) ?_
    split
    · exact acts_rxStart h4
    · extract_lets +onlyGivenNames u5
      clear_value u5
      exact acts_ite (acts_rxFinish h4) h4
    · exact acts_rxFirst h1
theorem acts_doFrameReceive {z a0 a1 a2 s} (h : Acts z s) : Acts z (doFrameReceive a0 a1 a2 s) := by
  unfold doFrameReceive
  refine acts_ite h ?_
  split
  · exact acts_rxBlock h
  · refine acts_ite h ?_
    split
    · rename_i y0 y1 y2 y3
      have h4 := acts_of_snd y3 (acts_rxHead h)
      exact acts_updPort h4 _ _ _
  · split
    · exact h
    · exact acts_rxTail (acts_updPort h _ _ _)
  · exact acts_ite h (acts_rxWhole h)
theorem acts_doAbortReceive {z a0 a1 s} (h : Acts z s) : Acts z (doAbortReceive a0 a1 s) := by
  unfold doAbortReceive
  extract_lets +onlyGivenNames u0
  have h1 : Acts z u0 := acts_updPort (acts_yfpCount h) _ _ _
  clear_value u0
  split
  · exact h1
  · exact acts_endBad (acts_updPort h1 _ _ _)
theorem acts_doXoff {z a0 a1 a2 s} (h : Acts z s) : Acts z (doXoff a0 a1 a2 s) := by
  unfold doXoff
  refine acts_ite h ?_
  extract_lets +onlyGivenNames u0
  have h1 : Acts z u0 := acts_setF h _ _ _
  clear_value u0
  exact acts_updPort h1 _ _ _
theorem acts_doXoffRefresh {z a0 a1 s} (h : Acts z s) : Acts z (doXoffRefresh a0 a1 s) := by
  unfold doXoffRefresh
  extract_lets +onlyGivenNames u0
  clear_value u0
  exact acts_ite h (acts_queueAll h)
theorem acts_doPauseWatchdog {z a0 a1 a2 s} (h : Acts z s) : Acts z (doPauseWatchdog a0 a1 a2 s) := by
  unfold doPauseWatchdog
  exact acts_ite (acts_fileRec (acts_updPort (acts_yfpCount (acts_setBit h _ _)) _ _ _)) h
theorem acts_resetQuiet {z s a1 a2} (h : Acts z s) : Acts z (resetQuiet s a1 a2) := by
  unfold resetQuiet
  exact acts_foldl h (fun x0 x1 h2 => acts_updLane h2 _ _ _)
theorem acts_doLaneSetEffective {z a0 a1 a2 s} (h : Acts z s) : Acts z (doLaneSetEffective a0 a1 a2 s) := by
  unfold doLaneSetEffective
  extract_lets +onlyGivenNames u0
  clear_value u0
  refine acts_ite ?_ ?_
  · split
    · exact h
    · exact acts_ite (acts_setRxMask (acts_updPort h _ _ _)) h
  · split
    · exact h
    · exact acts_ite (acts_setTxMask (acts_updPort h _ _ _)) h
theorem acts_doLaneDownReceive {z a0 a1 a2 s} (h : Acts z s) : Acts z (doLaneDownReceive a0 a1 a2 s) := by
  unfold doLaneDownReceive
  extract_lets +onlyGivenNames u0
  clear_value u0
  extract_lets +onlyGivenNames u1
  have h2 : Acts z u1 := acts_foldl h (fun x3 x4 h5 => acts_setFarAdmit h5)
  clear_value u1
  extract_lets +onlyGivenNames u6 u7
  clear_value u6 u7
  exact acts_ite h2 (acts_sendLaneSet h2)
theorem acts_stampTime {z s a1} (h : Acts z s) : Acts z (stampTime s a1).2 := by
  unfold stampTime
  extract_lets +onlyGivenNames u0
  extract_lets +onlyGivenNames u1
  clear_value u1
  split
  · exact h
  · extract_lets +onlyGivenNames u2
    clear_value u2
    extract_lets +onlyGivenNames u3
    have h4 : Acts z u3 := acts_ite (acts_mk h) h
    clear_value u3
    exact h4
theorem acts_dealRow {z s a1 a2 a3} (h : Acts z s) : Acts z (dealRow s a1 a2 a3) := by
  unfold dealRow
  extract_lets +onlyGivenNames u0
  clear_value u0
  extract_lets +onlyGivenNames u1
  have h2 : Acts z u1 := by
    unfold u1
    split
    · exact acts_ite (acts_setTxMask (acts_updPort h _ _ _)) h
    · exact h
  clear_value u1
  extract_lets +onlyGivenNames u3
  clear_value u3
  extract_lets +onlyGivenNames u4
  split
  · extract_lets +onlyGivenNames u5
    have h6 : Acts z u5 := acts_updPort h2 _ _ _
    clear_value u5
    exact acts_foldl h6 (fun x7 x8 h9 => acts_updLane h9 _ _ _)
theorem acts_slotsOf {z s a1 a2 a3 a4} (h : Acts z s) : Acts z (slotsOf s a1 a2 a3 a4).2 := by
  unfold slotsOf
  extract_lets +onlyGivenNames u0
  clear_value u0
  split
  · split
    · rename_i y1 y2 y3 y4
      have h5 := acts_of_snd y4 (by
          split
          · exact acts_drawFree h _
          · exact h
        )
      split
      · exact acts_pair (acts_updLane h5 _ _ _)
  · exact h
theorem acts_doCodewordTransmit {z a0 a1 s} (h : Acts z s) : Acts z (doCodewordTransmit a0 a1 s) := by
  unfold doCodewordTransmit
  split
  · exact h
  · refine acts_ite h ?_
    extract_lets +onlyGivenNames u0
    have h1 : Acts z u0 := acts_ite (acts_dealRow h) h
    clear_value u0
    split
    · split
      · split
        · rename_i y2 y3 y4 y5
          have h6 := acts_of_snd y5 (by
              split
              · exact acts_stampTime h1
              · exact h1
            )
          extract_lets +onlyGivenNames u7
          have h8 : Acts z u7 := acts_setLane h6 _ _ _
          clear_value u7
          split
          · rename_i y9 y10 y11 y12
            have h13 := acts_of_snd y12 (acts_slotsOf h8)
            split
            · extract_lets +onlyGivenNames u14
              have h15 : Acts z u14 := acts_updLane h13 _ _ _
              clear_value u14
              exact acts_emit (acts_emit h15 _) _

end Sys2Proof.Machine
end

