-- ==== Sys2Proof/Laws/ActsLight.lean ====
section
/-! SUPPORT. Laws of the optical lanes, fabric time, the lanyards and the row index of the Hold: each operation stays within what Acts allows. -/

namespace Sys2Proof.Machine

/-! ## Optics -/

theorem acts_ringLocked {z s a1 a2 a3 a4} (h : Acts z s) : Acts z (ringLocked s a1 a2 a3 a4) := by
  unfold ringLocked
  extract_lets +onlyGivenNames u0
  clear_value u0
  split
  · exact acts_setF (acts_setF (acts_setF h _ _ _) _ _ _) _ _ _
  · exact acts_setF (acts_setF (acts_setF h _ _ _) _ _ _) _ _ _
theorem acts_ringParked {z s a1 a2 a3} (h : Acts z s) : Acts z (ringParked s a1 a2 a3) := by
  unfold ringParked
  extract_lets +onlyGivenNames u0
  clear_value u0
  split
  · exact acts_updLane (acts_setF (acts_setF (acts_setF h _ _ _) _ _ _) _ _ _) _ _ _
  · exact acts_setF (acts_setF (acts_setF h _ _ _) _ _ _) _ _ _
theorem acts_ringsParked {z s a1 a2} (h : Acts z s) : Acts z (ringsParked s a1 a2) := by
  unfold ringsParked
  exact acts_ringParked (acts_ringParked h)
theorem acts_leaveStripes {z s a1 a2} (h : Acts z s) : Acts z (leaveStripes s a1 a2) := by
  unfold leaveStripes
  split
  · exact h
  · exact acts_loseRxLane (acts_setFarAdmit (acts_dropTxLane h))
theorem acts_startStrip {z s a1 a2} (h : Acts z s) : Acts z (startStrip s a1 a2) := by
  unfold startStrip
  extract_lets +onlyGivenNames u0
  have h1 : Acts z u0 := acts_ringsParked (acts_laneCount (acts_leaveStripes h))
  clear_value u0
  exact acts_updLane (acts_setLaneState h1) _ _ _
theorem acts_startWait {z s a1 a2} (h : Acts z s) : Acts z (startWait s a1 a2) := by
  unfold startWait
  exact acts_updLane (acts_setLaneState (acts_ringsParked (acts_leaveStripes h))) _ _ _
theorem acts_stripOrWait {z s a1 a2} (h : Acts z s) : Acts z (stripOrWait s a1 a2) := by
  unfold stripOrWait
  exact acts_ite (acts_startStrip h) (acts_startWait h)
theorem acts_showStuck {z s a1 a2} (h : Acts z s) : Acts z (showStuck s a1 a2) := by
  unfold showStuck
  split
  · exact acts_ite (acts_setLaneState h) h
  · exact h
theorem acts_linkStartLane {z a0 s a2} (h : Acts z s) : Acts z (linkStartLane a0 s a2) := by
  unfold linkStartLane
  exact acts_ite (acts_stripOrWait h) (acts_showStuck h)
theorem acts_linkStart {z s a1 a2} (h : Acts z s) : Acts z (linkStart s a1 a2) := by
  unfold linkStart
  exact acts_ite h (acts_foldl h (fun x0 x1 h2 => acts_linkStartLane h2))
theorem acts_unmeasuredWords {z s} (h : Acts z s) : Acts z (unmeasuredWords s).2 := by
  unfold unmeasuredWords
  split
  · rename_i y0 y1 y2 y3
    have h4 := acts_of_snd y3 (acts_drawFree h _)
    split
    · rename_i y5 y6 y7 y8
      have h9 := acts_of_snd y8 (acts_drawFree h4 _)
      split
      · rename_i y10 y11 y12 y13
        have h14 := acts_of_snd y13 (acts_drawFree h9 _)
        exact h14
theorem acts_measuredWords {z s a1} (h : Acts z s) : Acts z (measuredWords s a1).2 := by
  unfold measuredWords
  extract_lets +onlyGivenNames u0
  clear_value u0
  split
  · exact h
  · split
    · rename_i y1 y2 y3 y4
      have h5 := acts_of_snd y4 (acts_drawFree h _)
      split
      · rename_i y6 y7 y8 y9
        have h10 := acts_of_snd y9 (acts_drawFree h5 _)
        exact h10
theorem acts_writeReport {z s a1 a2 a3 a4} (h : Acts z s) : Acts z (writeReport s a1 a2 a3 a4) := by
  unfold writeReport
  extract_lets +onlyGivenNames u0 u1
  clear_value u0 u1
  extract_lets +onlyGivenNames u2 u3
  clear_value u2 u3
  extract_lets +onlyGivenNames u4 u5 u6
  clear_value u4 u5 u6
  exact acts_foldl h (fun x7 x8 h9 => acts_wr h9 _ _)
theorem acts_endWords {z s a1 a2 a3 a4 a5} (h : Acts z s) : Acts z (endWords s a1 a2 a3 a4 a5) := by
  unfold endWords
  extract_lets +onlyGivenNames u0 u1
  clear_value u0 u1
  exact acts_foldl h (fun x2 x3 h4 => acts_queueCtl h4)
theorem acts_endStripLane {z s a1 a2 a3 a4 a5} (h : Acts z s) : Acts z (endStripLane s a1 a2 a3 a4 a5) := by
  unfold endStripLane
  exact acts_setLaneEvent (acts_updLane (acts_setF (acts_writeReport h) _ _ _) _ _ _)
theorem acts_rejectLane {z s a1 a2 a3 a4 a5} (h : Acts z s) : Acts z (rejectLane s a1 a2 a3 a4 a5) := by
  unfold rejectLane
  extract_lets +onlyGivenNames u0 u1
  clear_value u0 u1
  split
  · rename_i y2 y3 y4 y5
    have h6 := acts_of_snd y5 (by
        split
        · rename_i y7 y8
          have h9 := acts_of_snd y5 (by
              split
              · exact acts_measuredWords h
              · exact acts_unmeasuredWords h
            )
          exact acts_measuredWords h
        · rename_i y10
          have h11 := acts_of_snd y5 (by
              split
              · exact acts_measuredWords h
              · exact acts_unmeasuredWords h
            )
          exact acts_unmeasuredWords h
      )
    extract_lets +onlyGivenNames u12
    have h13 : Acts z u12 := acts_ite (acts_endWords h6) h6
    clear_value u12
    extract_lets +onlyGivenNames u14
    have h15 : Acts z u14 := acts_endStripLane h13
    clear_value u14
    extract_lets +onlyGivenNames u16
    have h17 : Acts z u16 := acts_updLane (acts_laneCount (acts_setLaneState h15)) _ _ _
    clear_value u16
    exact acts_ite (acts_fileLaneLink h17) h17
theorem acts_rejoinTx {z s a1 a2} (h : Acts z s) : Acts z (rejoinTx s a1 a2) := by
  unfold rejoinTx
  split
  · exact acts_ite (acts_addTxLane h) h
  · exact h
theorem acts_admitLane {z s a1 a2 a3} (h : Acts z s) : Acts z (admitLane s a1 a2 a3) := by
  unfold admitLane
  extract_lets +onlyGivenNames u0 u1
  clear_value u0 u1
  split
  · rename_i y2 y3 y4 y5
    have h6 := acts_of_snd y5 (acts_measuredWords h)
    extract_lets +onlyGivenNames u7
    have h8 : Acts z u7 := acts_endWords h6
    clear_value u7
    extract_lets +onlyGivenNames u9
    have h10 : Acts z u9 := acts_endStripLane h8
    clear_value u9
    extract_lets +onlyGivenNames u11
    have h12 : Acts z u11 := acts_setLaneState h10
    clear_value u11
    extract_lets +onlyGivenNames u13
    clear_value u13
    extract_lets +onlyGivenNames u14
    have h15 : Acts z u14 := acts_updLane h12 _ _ _
    clear_value u14
    exact acts_rejoinTx (acts_admitRxLane h15)
theorem acts_cutAttempt {z s a1 a2 a3} (h : Acts z s) : Acts z (cutAttempt s a1 a2 a3) := by
  unfold cutAttempt
  extract_lets +onlyGivenNames u0
  clear_value u0
  exact acts_ite (acts_rejectLane h) (acts_updLane (acts_setLaneState (acts_ringsParked h)) _ _ _)
theorem acts_showLineOk {z a0 s a2} (h : Acts z s) : Acts z (showLineOk a0 s a2) := by
  unfold showLineOk
  extract_lets +onlyGivenNames u0
  clear_value u0
  exact acts_setF h _ _ _
theorem acts_showLine {z s a1 a2 a3 a4} (h : Acts z s) : Acts z (showLine s a1 a2 a3 a4) := by
  unfold showLine
  extract_lets +onlyGivenNames u0
  clear_value u0
  exact acts_showLineOk (acts_setF (acts_setF h _ _ _) _ _ _)
theorem acts_dataLaserCheck {z a0 a1 a2 a3 s} (h : Acts z s) : Acts z (dataLaserCheck a0 a1 a2 a3 s) := by
  unfold dataLaserCheck
  extract_lets +onlyGivenNames u0
  have h1 : Acts z u0 := acts_showLine h
  clear_value u0
  exact acts_ite (acts_updLane (acts_setLaneState h1) _ _ _) (acts_rejectLane h1)
theorem acts_lanLaserCheck {z a0 a1 a2 s} (h : Acts z s) : Acts z (lanLaserCheck a0 a1 a2 s) := by
  unfold lanLaserCheck
  extract_lets +onlyGivenNames u0
  clear_value u0
  exact acts_updLan (acts_setLaneState (acts_ringsParked h)) _ _ _
theorem acts_doLaserCheck {z a0 a1 a2 a3 s} (h : Acts z s) : Acts z (doLaserCheck a0 a1 a2 a3 s) := by
  unfold doLaserCheck
  exact acts_ite (acts_ite (acts_dataLaserCheck h) (acts_lanLaserCheck h)) h
theorem acts_relockTry {z s a1 a2} (h : Acts z s) : Acts z (relockTry s a1 a2) := by
  unfold relockTry
  exact acts_updLane h _ _ _
theorem acts_ringsReady {z s a1 a2} (h : Acts z s) : Acts z (ringsReady s a1 a2) := by
  unfold ringsReady
  extract_lets +onlyGivenNames u0
  clear_value u0
  refine acts_ite (acts_ite (acts_relockTry (acts_updLane (acts_setLaneState h) _ _ _)) (acts_updLane (acts_startStrip h) _ _ _)) (acts_ite ?_ h)
  extract_lets +onlyGivenNames u1
  have h2 : Acts z u1 := acts_updLane (acts_setLaneState h) _ _ _
  clear_value u1
  exact acts_queueCtl h2
theorem acts_doRingLock {z a0 a1 a2 a3 s} (h : Acts z s) : Acts z (doRingLock a0 a1 a2 a3 s) := by
  unfold doRingLock
  extract_lets +onlyGivenNames u0 u1 u2
  clear_value u0 u1 u2
  refine acts_ite (acts_ite (acts_ringLocked h) h) (acts_ite ?_ h)
  extract_lets +onlyGivenNames u3
  have h4 : Acts z u3 := acts_updLane (acts_ringLocked h) _ _ _
  clear_value u3
  exact acts_ite (acts_ringsReady h4) h4
theorem acts_laneFault {z s a1 a2} (h : Acts z s) : Acts z (laneFault s a1 a2) := by
  unfold laneFault
  extract_lets +onlyGivenNames u0
  have h1 : Acts z u0 := acts_ite h (acts_rejectLane h)
  clear_value u0
  extract_lets +onlyGivenNames u2
  have h3 : Acts z u2 := acts_leaveStripes (acts_ringsParked h1)
  clear_value u2
  extract_lets +onlyGivenNames u4
  have h5 : Acts z u4 := acts_updLane (acts_setLaneState h3) _ _ _
  clear_value u4
  exact acts_fileLaneLink (acts_setLaneEvent h5)
theorem acts_doSeekFail {z a0 a1 a2 s} (h : Acts z s) : Acts z (doSeekFail a0 a1 a2 s) := by
  unfold doSeekFail
  extract_lets +onlyGivenNames u0
  clear_value u0
  refine acts_ite (acts_ringParked h) (acts_ite ?_ (acts_ite (acts_rejectLane (acts_ringParked h)) (acts_ite (acts_relockTry h) h)))
  extract_lets +onlyGivenNames u1
  clear_value u1
  extract_lets +onlyGivenNames u2
  have h3 : Acts z u2 := acts_updLane h _ _ _
  clear_value u2
  exact acts_ite (acts_laneFault h3) h3
theorem acts_handshake {z s a1 a2} (h : Acts z s) : Acts z (handshake s a1 a2) := by
  unfold handshake
  extract_lets +onlyGivenNames u0
  clear_value u0
  refine acts_ite ?_ (acts_ite (acts_setLaneState h) h)
  extract_lets +onlyGivenNames u1
  have h2 : Acts z u1 := acts_queueCtl h
  clear_value u1
  exact acts_updLane (acts_setLaneState h2) _ _ _
theorem acts_takeRequest {z a0 a1 a2 s} (h : Acts z s) : Acts z (takeRequest a0 a1 a2 s) := by
  unfold takeRequest
  extract_lets +onlyGivenNames u0 u1
  clear_value u0 u1
  refine acts_ite h ?_
  extract_lets +onlyGivenNames u2
  have h3 : Acts z u2 := acts_queueCtl (acts_updLane h _ _ _)
  clear_value u2
  exact acts_ite (acts_queueCtl h3) h3
theorem acts_takePrbsOn {z a0 a1 s} (h : Acts z s) : Acts z (takePrbsOn a0 a1 s) := by
  unfold takePrbsOn
  extract_lets +onlyGivenNames u0
  clear_value u0
  extract_lets +onlyGivenNames u1
  have h2 : Acts z u1 := acts_updLane h _ _ _
  clear_value u1
  exact acts_handshake (acts_ite (acts_queueCtl h2) h2)
theorem acts_farDone {z s a1 a2} (h : Acts z s) : Acts z (farDone s a1 a2) := by
  unfold farDone
  exact acts_updLane h _ _ _
theorem acts_stripWord {z a0 a1 a2 a3 s} (h : Acts z s) : Acts z (stripWord a0 a1 a2 a3 s) := by
  unfold stripWord
  split
  · exact acts_takeRequest h
  · exact acts_handshake (acts_updLane h _ _ _)
  · exact acts_takePrbsOn h
  · exact acts_updLane h _ _ _
  · exact acts_updLane h _ _ _
  · extract_lets +onlyGivenNames u0
    have h1 : Acts z u0 := acts_farDone h
    clear_value u0
    exact acts_ite h1 (acts_addTxLane (acts_setFarAdmit h1))
  · exact acts_dropTxLane (acts_setFarAdmit (acts_updLane (acts_farDone h) _ _ _))
  · extract_lets +onlyGivenNames u2
    have h3 : Acts z u2 := acts_dropTxLane (acts_setFarAdmit (acts_farDone h))
    clear_value u2
    exact acts_ite h3 (acts_rejectLane h3)
  · exact h
theorem acts_doStripWord {z a0 a1 a2 s} (h : Acts z s) : Acts z (doStripWord a0 a1 a2 s) := by
  unfold doStripWord
  split
  · exact h
  · exact acts_ite (acts_yfpCount h) (acts_stripWord h)
theorem acts_doPrbsTimeout {z a0 a1 s} (h : Acts z s) : Acts z (doPrbsTimeout a0 a1 s) := by
  unfold doPrbsTimeout
  extract_lets +onlyGivenNames u0
  clear_value u0
  exact acts_ite (acts_rejectLane h) h
theorem acts_doSweepPoint {z a0 a1 a2 s} (h : Acts z s) : Acts z (doSweepPoint a0 a1 a2 s) := by
  unfold doSweepPoint
  exact acts_ite (acts_updLane h _ _ _) h
theorem acts_pickOptimum {α : Type} {z s : State} {f : α} {l : List α} (h : Acts z s) :
    Acts z (pickOptimum s f l).2 := by
  unfold pickOptimum
  split
  · rename_i y0 y1 y2 y3
    have h4 := acts_of_snd y3 (acts_drawFree h _)
    exact h4
theorem acts_measure {z s a1 a2} (h : Acts z s) : Acts z (measure s a1 a2).2 := by
  unfold measure
  extract_lets +onlyGivenNames u0
  clear_value u0
  split
  · rename_i y1 y2 y3 y4
    have h5 := acts_of_snd y4 (acts_pickOptimum h)
    split
    · rename_i y6 y7 y8 y9
      have h10 := acts_of_snd y9 (acts_pickOptimum h5)
      exact h10
theorem acts_doMeasureDone {z a0 a1 s} (h : Acts z s) : Acts z (doMeasureDone a0 a1 s) := by
  unfold doMeasureDone
  refine acts_ite ?_ h
  split
  · rename_i y0 y1 y2 y3
    have h4 := acts_of_snd y3 (acts_measure h)
    split
    · exact acts_rejectLane (acts_updLane h4 _ _ _)
    · exact acts_admitLane h4
theorem acts_doStripTimeout {z a0 a1 s} (h : Acts z s) : Acts z (doStripTimeout a0 a1 s) := by
  unfold doStripTimeout
  exact acts_ite h (acts_rejectLane h)
theorem acts_doHeater {z a0 a1 a2 a3 a4 s} (h : Acts z s) : Acts z (doHeater a0 a1 a2 a3 a4 s) := by
  unfold doHeater
  refine acts_ite ?_ h
  extract_lets +onlyGivenNames u0
  have h1 : Acts z u0 := acts_updLane h _ _ _
  clear_value u0
  refine acts_ite ?_ h1
  extract_lets +onlyGivenNames u2
  clear_value u2
  extract_lets +onlyGivenNames u3
  have h4 : Acts z u3 := acts_setEvent h1
  clear_value u3
  extract_lets +onlyGivenNames u5
  have h6 : Acts z u5 := acts_ite (acts_laneDown h4) h4
  clear_value u5
  exact acts_fileRec h6
theorem acts_wrongLine {z s a1 a2 a3} (h : Acts z s) : Acts z (wrongLine s a1 a2 a3) := by
  unfold wrongLine
  extract_lets +onlyGivenNames u0
  have h1 : Acts z u0 := acts_setLaneEvent (acts_laneCount (acts_ringParked h))
  clear_value u0
  extract_lets +onlyGivenNames u2
  have h3 : Acts z u2 := by
    unfold u2
    split
    · exact acts_dropTxLane h1
    · exact h1
  clear_value u2
  extract_lets +onlyGivenNames u4
  have h5 : Acts z u4 := acts_ite (acts_laneDown h3) (acts_loseRxLane h3)
  clear_value u4
  extract_lets +onlyGivenNames u6
  have h7 : Acts z u6 := acts_updLane (acts_setLaneState h5) _ _ _
  clear_value u6
  exact acts_fileLaneLink h7
theorem acts_toneLost {z s a1 a2 a3} (h : Acts z s) : Acts z (toneLost s a1 a2 a3) := by
  unfold toneLost
  extract_lets +onlyGivenNames u0
  clear_value u0
  extract_lets +onlyGivenNames u1
  have h2 : Acts z u1 := by
    unfold u1
    split
    · exact acts_setF h _ _ _
    · exact acts_setF h _ _ _
  clear_value u1
  exact acts_ite (acts_laneDown h2) (acts_ite (acts_cutAttempt h2) h2)
theorem acts_doToneWindow {z a0 a1 a2 a3 s} (h : Acts z s) : Acts z (doToneWindow a0 a1 a2 a3 s) := by
  unfold doToneWindow
  extract_lets +onlyGivenNames u0 u1
  clear_value u0 u1
  refine acts_ite h (acts_ite (acts_setF h _ _ _) ?_)
  split
  · refine acts_ite ?_ (acts_ite (acts_rejectLane (acts_ringParked h)) (acts_wrongLine h))
    split
    · exact acts_setF h _ _ _
    · exact acts_setF h _ _ _
  · exact acts_toneLost h
theorem acts_lockLost {z s a1 a2} (h : Acts z s) : Acts z (lockLost s a1 a2) := by
  unfold lockLost
  exact acts_ite (acts_laneDown h) (acts_ite (acts_cutAttempt h) (acts_ite (acts_relockTry h) h))
theorem acts_forgetHeard {z s a1 a2} (h : Acts z s) : Acts z (forgetHeard s a1 a2) := by
  unfold forgetHeard
  exact acts_updLan h _ _ _
theorem acts_doLockLoss {z a0 a1 s} (h : Acts z s) : Acts z (doLockLoss a0 a1 s) := by
  unfold doLockLoss
  split
  · exact acts_ite (acts_lockLost (acts_ringParked h)) (acts_forgetHeard (acts_ringParked h))
  · exact acts_ite (acts_lockLost h) h
theorem acts_doNoCodeword {z a0 a1 s} (h : Acts z s) : Acts z (doNoCodeword a0 a1 s) := by
  unfold doNoCodeword
  exact acts_ite (acts_laneDown h) h
theorem acts_doLightLoss {z a0 a1 s} (h : Acts z s) : Acts z (doLightLoss a0 a1 s) := by
  unfold doLightLoss
  extract_lets +onlyGivenNames u0
  have h1 : Acts z u0 := acts_updLane h _ _ _
  clear_value u0
  exact acts_ite (acts_forgetHeard (acts_ringParked h1)) (acts_lockLost (acts_ringParked h1))
theorem acts_doLightReturn {z a0 a1 s} (h : Acts z s) : Acts z (doLightReturn a0 a1 s) := by
  unfold doLightReturn
  extract_lets +onlyGivenNames u0
  have h1 : Acts z u0 := acts_updLane h _ _ _
  clear_value u0
  exact acts_ite h1 (acts_ite (acts_ite (acts_relockTry h1) (acts_ite (acts_stripOrWait h1) h1)) (acts_ite (acts_linkStartLane h1) h1))
theorem acts_doFastRelock {z a0 a1 a2 a3 s} (h : Acts z s) : Acts z (doFastRelock a0 a1 a2 a3 s) := by
  unfold doFastRelock
  extract_lets +onlyGivenNames u0 u1
  clear_value u0 u1
  refine acts_ite ?_ h
  extract_lets +onlyGivenNames u2
  have h3 : Acts z u2 := acts_updLane h _ _ _
  clear_value u2
  extract_lets +onlyGivenNames u4
  have h5 : Acts z u4 := acts_ringLocked (acts_ringLocked h3)
  clear_value u4
  extract_lets +onlyGivenNames u6
  have h7 : Acts z u6 := acts_queueCtl h5
  clear_value u6
  extract_lets +onlyGivenNames u8
  extract_lets +onlyGivenNames u9
  clear_value u9
  extract_lets +onlyGivenNames u10
  have h11 : Acts z u10 := acts_writeReport h7
  clear_value u10
  extract_lets +onlyGivenNames u12
  have h13 : Acts z u12 := acts_wr h11 _ _
  clear_value u12
  extract_lets +onlyGivenNames u14
  have h15 : Acts z u14 := acts_laneCount (acts_setF (acts_setLaneState h13) _ _ _)
  clear_value u14
  exact acts_rejoinTx (acts_admitRxLane (acts_setLaneEvent h15))
theorem acts_doWindowExpire {z a0 a1 s} (h : Acts z s) : Acts z (doWindowExpire a0 a1 s) := by
  unfold doWindowExpire
  extract_lets +onlyGivenNames u0
  clear_value u0
  refine acts_ite ?_ h
  extract_lets +onlyGivenNames u1
  have h2 : Acts z u1 := acts_updLane h _ _ _
  clear_value u1
  exact acts_ite h2 (acts_ite (acts_ite (acts_stripOrWait h2) h2) (acts_setLaneState h2))
theorem acts_doRetest {z a0 a1 s} (h : Acts z s) : Acts z (doRetest a0 a1 s) := by
  unfold doRetest
  exact acts_ite (acts_startStrip h) h
theorem acts_holdLane {z s a1 a2} (h : Acts z s) : Acts z (holdLane s a1 a2) := by
  unfold holdLane
  extract_lets +onlyGivenNames u0
  have h1 : Acts z u0 := acts_leaveStripes (acts_ringsParked h)
  clear_value u0
  exact acts_updLane (acts_setLaneState h1) _ _ _
theorem acts_freeLane {z s a1 a2} (h : Acts z s) : Acts z (freeLane s a1 a2) := by
  unfold freeLane
  exact acts_ite h (acts_ite (acts_ite (acts_startStrip h) (acts_ite h (acts_showStuck (acts_setLaneState h)))) (acts_setLaneState h))
theorem acts_writeExclude {z a0 a1 a2 s} (h : Acts z s) : Acts z (writeExclude a0 a1 a2 s) := by
  unfold writeExclude
  extract_lets +onlyGivenNames u0 u1
  clear_value u0 u1
  refine acts_ite h ?_
  extract_lets +onlyGivenNames u2
  have h3 : Acts z u2 := acts_setF h _ _ _
  clear_value u2
  exact acts_ite (acts_holdLane h3) (acts_ite (acts_freeLane h3) h3)
theorem acts_slewPort {z s a1} (h : Acts z s) : Acts z (slewPort s a1) := by
  unfold slewPort
  extract_lets +onlyGivenNames u0
  have h1 : Acts z u0 := acts_flowPort (acts_updPort h _ _ _)
  clear_value u0
  exact acts_foldl h1 (fun x2 x3 h4 => acts_laneCount h4)
theorem acts_bandLanes {z a0 s1 s2} (h1 : Acts z s1) (h2 : Acts z s2) : Acts z (bandLanes a0 s1 s2) := by
  unfold bandLanes
  refine acts_foldl h2 (fun x0 x1 h2 => ?_)
  extract_lets +onlyGivenNames u3
  clear_value u3
  exact acts_ite (acts_holdLane h2) (acts_ite (acts_freeLane h2) h2)
theorem acts_doPhotonicTemp {z a0 a1 a2 s} (h : Acts z s) : Acts z (doPhotonicTemp a0 a1 a2 s) := by
  unfold doPhotonicTemp
  extract_lets +onlyGivenNames u0 u1
  clear_value u0 u1
  extract_lets +onlyGivenNames u2
  have h3 : Acts z u2 := acts_setF (acts_setF h _ _ _) _ _ _
  clear_value u2
  extract_lets +onlyGivenNames u4
  clear_value u4
  extract_lets +onlyGivenNames u5
  have h6 : Acts z u5 := acts_bandLanes h3 (acts_mk h3)
  clear_value u5
  extract_lets +onlyGivenNames u7
  have h8 : Acts z u7 := acts_setEvent h6
  clear_value u7
  extract_lets +onlyGivenNames u9
  have h10 : Acts z u9 := acts_ite (acts_ite (acts_fileRec h8) h8) h6
  clear_value u9
  extract_lets +onlyGivenNames u11
  clear_value u11
  exact acts_ite (acts_foldl (acts_setF h10 _ _ _) (fun x12 x13 h14 => acts_slewPort h14)) h10
theorem acts_doSlewDrain {z a0 s} (h : Acts z s) : Acts z (doSlewDrain a0 s) := by
  unfold doSlewDrain
  exact acts_ite (acts_foldl h (fun x0 x1 h2 => acts_foldl h2 (fun x3 x4 h5 => acts_ite (acts_laneDown (acts_setLaneEvent h5)) h5))) h
theorem acts_slewEndPort {z s a1} (h : Acts z s) : Acts z (slewEndPort s a1) := by
  unfold slewEndPort
  exact acts_ite (acts_flowPort (acts_updPort h _ _ _)) h
theorem acts_doSlewEnd {z a0 s} (h : Acts z s) : Acts z (doSlewEnd a0 s) := by
  unfold doSlewEnd
  extract_lets +onlyGivenNames u0 u1
  clear_value u0 u1
  exact acts_ite (acts_foldl (acts_setF h _ _ _) (fun x2 x3 h4 => acts_slewEndPort h4)) h
theorem acts_doLaserFeed {z a0 a1 a2 a3 a4 a5 s} (h : Acts z s) : Acts z (doLaserFeed a0 a1 a2 a3 a4 a5 s) := by
  unfold doLaserFeed
  extract_lets +onlyGivenNames u0
  clear_value u0
  extract_lets +onlyGivenNames u1
  have h2 : Acts z u1 := acts_showLine h
  clear_value u1
  extract_lets +onlyGivenNames u3
  have h4 : Acts z u3 := acts_setF (acts_setF h2 _ _ _) _ _ _
  clear_value u3
  extract_lets +onlyGivenNames u5
  have h6 : Acts z u5 := acts_setF h4 _ _ _
  clear_value u5
  exact acts_ite (acts_foldl h6 (fun x7 x8 h9 => acts_ite (acts_cutAttempt h9) h9)) h6
theorem acts_removePort {z s a1 a2} (h : Acts z s) : Acts z (removePort s a1 a2) := by
  unfold removePort
  extract_lets +onlyGivenNames u0
  clear_value u0
  extract_lets +onlyGivenNames u1
  have h2 : Acts z u1 := acts_enterQuarantine (acts_truncateRx h)
  clear_value u1
  extract_lets +onlyGivenNames u3
  have h4 : Acts z u3 := acts_foldl h2 (fun x5 x6 h7 => acts_updLane (acts_setLaneState h7) _ _ _)
  clear_value u3
  exact acts_updPort (acts_setPortState (acts_wr h4 _ _)) _ _ _
theorem acts_takeLaneCtrl {z a0 a1 a2 a3 s} (h : Acts z s) : Acts z (takeLaneCtrl a0 a1 a2 a3 s) := by
  unfold takeLaneCtrl
  extract_lets +onlyGivenNames u0 u1
  clear_value u0 u1
  extract_lets +onlyGivenNames u2 u3 u4
  clear_value u2 u3 u4
  extract_lets +onlyGivenNames u5
  have h6 : Acts z u5 := acts_ite (acts_removePort h) (acts_foldl h (fun x7 x8 h9 => acts_setLaneState (acts_leaveStripes h9)))
  clear_value u5
  extract_lets +onlyGivenNames u10
  have h11 : Acts z u10 := acts_setF (acts_setF h6 _ _ _) _ _ _
  clear_value u10
  refine acts_ite h11 ?_
  extract_lets +onlyGivenNames u12
  have h13 : Acts z u12 := acts_ite (acts_setPortState h11) h11
  clear_value u12
  extract_lets +onlyGivenNames u14
  have h15 : Acts z u14 := acts_ite h13 (acts_refreshUp (acts_setF (acts_setF h13 _ _ _) _ _ _))
  clear_value u14
  exact acts_ite (acts_linkStart h15) h15
theorem acts_writeLaneCtrl {z a0 a1 a2 s} (h : Acts z s) : Acts z (writeLaneCtrl a0 a1 a2 s) := by
  unfold writeLaneCtrl
  extract_lets +onlyGivenNames u0
  clear_value u0
  extract_lets +onlyGivenNames u1
  have h2 : Acts z u1 := acts_setF h _ _ _
  clear_value u1
  exact acts_ite h (acts_ite (acts_setEvent h) (acts_flowPort (acts_takeLaneCtrl h)))
theorem acts_followDark {z a0 s} (h : Acts z s) : Acts z (followDark a0 s) := by
  unfold followDark
  extract_lets +onlyGivenNames u0
  clear_value u0
  extract_lets +onlyGivenNames u1
  have h2 : Acts z u1 := acts_foldl h (fun x3 x4 h5 => acts_losePort h5)
  clear_value u1
  exact acts_foldl h2 (fun x6 x7 h8 => acts_linkStart h8)
theorem acts_writeFence {z a0 a1 s} (h : Acts z s) : Acts z (writeFence a0 a1 s) := by
  unfold writeFence
  extract_lets +onlyGivenNames u0 u1
  clear_value u0 u1
  exact acts_followDark (acts_setF (acts_setF h _ _ _) _ _ _)

/-! ## Time -/

theorem acts_updTime {z s a1} (h : Acts z s) : Acts z (State.updTime s a1) := by
  unfold State.updTime
  exact acts_mk h
theorem acts_timeEvent {z s a1} (h : Acts z s) : Acts z (timeEvent s a1) := by
  unfold timeEvent
  exact acts_setEvent h
theorem acts_freshHoldover {z s} (h : Acts z s) : Acts z (freshHoldover s) := by
  unfold freshHoldover
  exact acts_foldl h (fun x0 x1 h2 => acts_updLan h2 _ _ _)
theorem acts_setTimeState {z s a1} (h : Acts z s) : Acts z (setTimeState s a1) := by
  unfold setTimeState
  extract_lets +onlyGivenNames u0
  clear_value u0
  refine acts_ite h ?_
  extract_lets +onlyGivenNames u1
  have h2 : Acts z u1 := acts_timeEvent (acts_setF h _ _ _)
  clear_value u1
  exact acts_freshHoldover (acts_updTime h2)
theorem acts_moveTime {z s a1} (h : Acts z s) : Acts z (moveTime s a1) := by
  unfold moveTime
  extract_lets +onlyGivenNames u0
  clear_value u0
  extract_lets +onlyGivenNames u1
  have h2 : Acts z u1 := acts_updTime h
  clear_value u1
  exact acts_ite (acts_timeEvent h2) h2
theorem acts_doWrap {z s} (h : Acts z s) : Acts z (doWrap s) := by
  unfold doWrap
  exact acts_ite (acts_moveTime h) h
theorem acts_roundFree {z s a1} (h : Acts z s) : Acts z (roundFree s a1).2 := by
  unfold roundFree
  split
  · exact h
  · split
    · rename_i y0 y1 y2 y3
      have h4 := acts_of_snd y3 (acts_drawFree h _)
      exact h4
theorem acts_setFreq {z s a1} (h : Acts z s) : Acts z (setFreq s a1) := by
  unfold setFreq
  exact acts_wr (acts_updTime h) _ _
theorem acts_stepTime {z s a1} (h : Acts z s) : Acts z (stepTime s a1) := by
  unfold stepTime
  split
  · rename_i y0 y1 y2 y3
    have h4 := acts_of_snd y3 (acts_roundFree h)
    extract_lets +onlyGivenNames u5
    have h6 : Acts z u5 := acts_timeEvent (acts_moveTime h4)
    clear_value u5
    exact acts_setTimeState (acts_updTime h6)
theorem acts_showTheta {z s a1} (h : Acts z s) : Acts z (showTheta s a1) := by
  unfold showTheta
  split
  · rename_i y0 y1 y2 y3
    have h4 := acts_of_snd y3 (acts_roundFree h)
    exact acts_wr h4 _ _
theorem acts_steer {z s a1 a2} (h : Acts z s) : Acts z (steer s a1 a2) := by
  unfold steer
  extract_lets +onlyGivenNames u0 u1
  clear_value u0 u1
  split
  · rename_i y2 y3 y4 y5
    have h6 := acts_of_snd y5 (acts_roundFree h)
    extract_lets +onlyGivenNames u7
    clear_value u7
    split
    · rename_i y8 y9 y10 y11
      have h12 := acts_of_snd y11 (acts_roundFree h6)
      extract_lets +onlyGivenNames u13 u14
      clear_value u13 u14
      extract_lets +onlyGivenNames u15
      have h16 : Acts z u15 := acts_updTime (acts_setFreq h12)
      clear_value u15
      exact acts_ite (acts_setTimeState h16) h16
theorem acts_servo {z s a1 a2} (h : Acts z s) : Acts z (servo s a1 a2) := by
  unfold servo
  refine acts_ite ?_ (acts_steer (acts_showTheta h))
  extract_lets +onlyGivenNames u0
  clear_value u0
  exact acts_ite (acts_stepTime (acts_showTheta h)) (acts_updTime h)
theorem acts_freezeFreq {z s} (h : Acts z s) : Acts z (freezeFreq s) := by
  unfold freezeFreq
  refine acts_ite h ?_
  split
  · rename_i y0 y1 y2 y3
    have h4 := acts_of_snd y3 (acts_roundFree h)
    exact acts_setFreq h4
theorem acts_setMaster {z s a1} (h : Acts z s) : Acts z (setMaster s a1) := by
  unfold setMaster
  extract_lets +onlyGivenNames u0 u1
  clear_value u0 u1
  split
  · extract_lets +onlyGivenNames u2
    have h3 : Acts z u2 := acts_setF (acts_setF (acts_setF h _ _ _) _ _ _) _ _ _
    clear_value u2
    exact acts_updTime h3
theorem acts_changeMaster {z s a1} (h : Acts z s) : Acts z (changeMaster s a1) := by
  unfold changeMaster
  extract_lets +onlyGivenNames u0
  have h1 : Acts z u0 := acts_setMaster h
  clear_value u0
  extract_lets +onlyGivenNames u2
  have h3 : Acts z u2 := acts_ite (acts_freezeFreq h1) h1
  clear_value u2
  exact acts_ite h3 (acts_ite (acts_ite (acts_setTimeState h3) h3) (acts_setTimeState h3))
theorem acts_reselect {z s} (h : Acts z s) : Acts z (reselect s) := by
  unfold reselect
  extract_lets +onlyGivenNames u0
  clear_value u0
  exact acts_ite h (acts_changeMaster h)
theorem acts_loseMaster {z s} (h : Acts z s) : Acts z (loseMaster s) := by
  unfold loseMaster
  refine acts_ite h ?_
  extract_lets +onlyGivenNames u0
  have h1 : Acts z u0 := acts_freezeFreq (acts_updTime h)
  clear_value u0
  exact acts_ite h1 (acts_setTimeState h1)
theorem acts_doSwitchExpire {z s} (h : Acts z s) : Acts z (doSwitchExpire s) := by
  unfold doSwitchExpire
  exact acts_ite (acts_changeMaster h) h
theorem acts_doQualify {z a0 s} (h : Acts z s) : Acts z (doQualify a0 s) := by
  unfold doQualify
  extract_lets +onlyGivenNames u0
  clear_value u0
  exact acts_ite (acts_changeMaster h) h
theorem acts_useTenMhz {z a0 s} (h : Acts z s) : Acts z (useTenMhz a0 s) := by
  unfold useTenMhz
  extract_lets +onlyGivenNames u0
  clear_value u0
  refine acts_ite h (acts_ite ?_ (acts_updTime h))
  split
  · rename_i y1 y2 y3 y4
    have h5 := acts_of_snd y4 (acts_drawFree h _)
    exact acts_updTime h5
theorem acts_startPpsOut {z a0 s} (h : Acts z s) : Acts z (startPpsOut a0 s) := by
  unfold startPpsOut
  exact acts_ite (acts_updTime h) h
theorem acts_writePpsAnchor {z a0 s} (h : Acts z s) : Acts z (writePpsAnchor a0 s) := by
  unfold writePpsAnchor
  exact acts_updTime (acts_wr h _ _)
theorem acts_writeRefCtrl {z a0 s} (h : Acts z s) : Acts z (writeRefCtrl a0 s) := by
  unfold writeRefCtrl
  extract_lets +onlyGivenNames u0 u1
  clear_value u0 u1
  extract_lets +onlyGivenNames u2
  have h3 : Acts z u2 := acts_startPpsOut (acts_useTenMhz (acts_wr h _ _))
  clear_value u2
  exact acts_ite h3 (acts_updTime h3)
theorem acts_writePrio {z a0 a1 s} (h : Acts z s) : Acts z (writePrio a0 a1 s) := by
  unfold writePrio
  split
  · exact acts_reselect (acts_writeRefCtrl h)
  · exact acts_reselect (acts_wr h _ _)
theorem acts_writeTimeCtrl {z a0 s} (h : Acts z s) : Acts z (writeTimeCtrl a0 s) := by
  unfold writeTimeCtrl
  extract_lets +onlyGivenNames u0 u1
  clear_value u0 u1
  extract_lets +onlyGivenNames u2
  have h3 : Acts z u2 := acts_setInRange h
  clear_value u2
  extract_lets +onlyGivenNames u4
  have h5 : Acts z u4 := acts_setF h3 _ _ _
  clear_value u4
  extract_lets +onlyGivenNames u6
  have h7 : Acts z u6 := acts_setF h5 _ _ _
  clear_value u6
  exact acts_ite (acts_setTimeState (acts_ite h7 (acts_setMaster h7))) (acts_ite (acts_reselect (acts_setTimeState (acts_setMaster h7))) h7)
theorem acts_sendTime {z s a1 a2 a3 a4 a5} (h : Acts z s) : Acts z (sendTime s a1 a2 a3 a4 a5) := by
  unfold sendTime
  exact acts_queueLead h
theorem acts_doSyncInterval {z s} (h : Acts z s) : Acts z (doSyncInterval s) := by
  unfold doSyncInterval
  split
  · exact h
  · refine acts_ite h ?_
    extract_lets +onlyGivenNames u0
    clear_value u0
    exact acts_updTime (acts_sendTime h)
theorem acts_doFollow {z a0 a1 a2 a3 s} (h : Acts z s) : Acts z (doFollow a0 a1 a2 a3 s) := by
  unfold doFollow
  exact acts_ite (acts_updTime h) h
theorem acts_doReply {z a0 a1 a2 a3 s} (h : Acts z s) : Acts z (doReply a0 a1 a2 a3 s) := by
  unfold doReply
  split
  · exact h
  · split
    · exact h
    · refine acts_ite h ?_
      extract_lets +onlyGivenNames u0
      clear_value u0
      split
      · extract_lets +onlyGivenNames u1
        have h2 : Acts z u1 := acts_updTime h
        clear_value u1
        split
        · rename_i y3 y4 y5 y6
          have h7 := acts_of_snd y6 (acts_roundFree h2)
          exact acts_servo (acts_wr h7 _ _)
theorem acts_doExchangeTimeout {z s} (h : Acts z s) : Acts z (doExchangeTimeout s) := by
  unfold doExchangeTimeout
  split
  · exact h
  · extract_lets +onlyGivenNames u0
    have h1 : Acts z u0 := acts_updTime h
    clear_value u0
    exact acts_ite (acts_loseMaster (acts_updTime h1)) h1
theorem acts_writePpsLoad {z a0 s} (h : Acts z s) : Acts z (writePpsLoad a0 s) := by
  unfold writePpsLoad
  exact acts_updTime (acts_wr h _ _)
theorem acts_ppsSet {z s} (h : Acts z s) : Acts z (ppsSet s) := by
  unfold ppsSet
  extract_lets +onlyGivenNames u0
  clear_value u0
  extract_lets +onlyGivenNames u1
  have h2 : Acts z u1 := acts_updTime h
  clear_value u1
  exact acts_setTimeState (acts_timeEvent h2)
theorem acts_ppsExpected {z s a1} (h : Acts z s) : Acts z (ppsExpected s a1) := by
  unfold ppsExpected
  extract_lets +onlyGivenNames u0 u1
  clear_value u0 u1
  refine acts_ite h ?_
  extract_lets +onlyGivenNames u2
  have h3 : Acts z u2 := acts_updTime h
  clear_value u2
  exact acts_ite (acts_servo h3) h3
theorem acts_doPpsEdge {z s} (h : Acts z s) : Acts z (doPpsEdge s) := by
  unfold doPpsEdge
  refine acts_ite h (acts_ite (acts_ppsSet h) ?_)
  split
  · exact acts_updTime h
  · exact acts_ppsExpected h
theorem acts_doPpsLoss {z s} (h : Acts z s) : Acts z (doPpsLoss s) := by
  unfold doPpsLoss
  split
  · exact h
  · refine acts_ite h ?_
    extract_lets +onlyGivenNames u0
    have h1 : Acts z u0 := acts_updTime h
    clear_value u0
    exact acts_ite (acts_loseMaster h1) h1
theorem acts_doPpsOutEdge {z s} (h : Acts z s) : Acts z (doPpsOutEdge s) := by
  unfold doPpsOutEdge
  extract_lets +onlyGivenNames u0
  clear_value u0
  refine acts_ite h ?_
  extract_lets +onlyGivenNames u1
  have h2 : Acts z u1 := acts_updTime h
  clear_value u1
  exact acts_ite h2 (acts_emit h2 _)

/-! ## HoldIndex -/

theorem acts_noteLines {z s a1} (h : Acts z s) : Acts z (noteLines s a1) := by
  unfold noteLines
  extract_lets +onlyGivenNames u0
  clear_value u0
  exact acts_setF h _ _ _
theorem acts_mendBad {z s a1} (h : Acts z s) : Acts z (mendBad s a1) := by
  unfold mendBad
  extract_lets +onlyGivenNames u0 u1
  have h1 : Acts z u1 := acts_mk h
  clear_value u0 u1
  exact acts_ite (acts_noteLines (acts_noteLines h1)) h1
theorem acts_holdWrite {z s a1 a2} (h : Acts z s) : Acts z (State.holdWrite s a1 a2) := by
  unfold State.holdWrite
  exact acts_mendBad (acts_mk h)
theorem acts_eccLog {z s a1 a2 a3} (h : Acts z s) : Acts z (eccLog s a1 a2 a3) := by
  unfold eccLog
  extract_lets +onlyGivenNames u0 u1
  clear_value u0 u1
  exact acts_ite (acts_mk h) (acts_setEvent h)
theorem acts_fileHold {z s a1 a2 a3 a4} (h : Acts z s) : Acts z (fileHold s a1 a2 a3 a4) := by
  unfold fileHold
  exact acts_fileRec h
theorem acts_noteCorrected {z s a1 a2} (h : Acts z s) : Acts z (noteCorrected s a1 a2) := by
  unfold noteCorrected
  exact acts_fileHold (acts_eccLog (acts_count h _))
theorem acts_reportBad {z s a1 a2 a3} (h : Acts z s) : Acts z (reportBad s a1 a2 a3) := by
  unfold reportBad
  extract_lets +onlyGivenNames u0 u1 u2 u3
  have h3 : Acts z u3 := acts_mk h
  clear_value u0 u1 u2 u3
  exact acts_fileHold (acts_setEvent (acts_noteLines (acts_eccLog h3)))
theorem acts_holdUpset {z s a1} (h : Acts z s) : Acts z (holdUpset s a1) := by
  unfold holdUpset
  split
  · exact h
  · exact acts_noteCorrected h
  · extract_lets +onlyGivenNames u0 u1
    clear_value u0 u1
    exact acts_mk h
theorem acts_meetBad {z s a1 a2 a3 a4} (h : Acts z s) : Acts z (meetBad s a1 a2 a3 a4).2 := by
  unfold meetBad
  extract_lets +onlyGivenNames u0
  clear_value u0
  exact acts_pair (acts_foldl h (fun x1 x2 h3 => acts_reportBad h3))
theorem acts_putEntry {z s a1 a2} (h : Acts z s) : Acts z (putEntry s a1 a2) := by
  unfold putEntry
  exact acts_holdWrite h
theorem acts_touchBucket {z s a1 a2} (h : Acts z s) : Acts z (touchBucket s a1 a2) := by
  unfold touchBucket
  extract_lets +onlyGivenNames u0
  clear_value u0
  extract_lets +onlyGivenNames u1
  have h2 : Acts z u1 := acts_count h _
  clear_value u1
  exact acts_mk h2
theorem acts_probe {z a0 a1 a2 a3 a4 a5 s} (h : Acts z s) : Acts z (probe a0 a1 a2 a3 a4 a5 s).2 := by
  induction a4 generalizing a5 s with
  | zero => exact h
  | succ n ih =>
    unfold probe
    extract_lets +onlyGivenNames u0 u1
    have h1 : Acts z u1 := acts_touchBucket h
    clear_value u1
    split
    · rename_i y e
      exact acts_of_snd e (acts_meetBad h1)
    · rename_i y e
      have h2 := acts_of_snd e (acts_meetBad h1)
      split
      · exact h2
      · exact ih h2
theorem acts_lookupRow {z s a1 a2 a3} (h : Acts z s) : Acts z (lookupRow s a1 a2 a3).2 := by
  unfold lookupRow
  exact acts_probe h
theorem acts_lookupPending {z s a1 a2} (h : Acts z s) : Acts z (lookupPending s a1 a2).2 := by
  unfold lookupPending
  exact acts_probe h
theorem acts_setRows {z s a1 a2 a3} (h : Acts z s) : Acts z (setRows s a1 a2 a3) := by
  unfold setRows
  exact acts_wr (acts_mk h) _ _
theorem acts_allocRow {z s a1 a2} (h : Acts z s) : Acts z (allocRow s a1 a2).2 := by
  unfold allocRow
  extract_lets +onlyGivenNames u0 u1
  clear_value u0 u1
  split
  · exact acts_pair (acts_count h _)
  · split
    · rename_i y2 y3 y4 y5
      have h6 := acts_of_snd y5 (acts_drawFree h _)
      split
      · exact acts_pair (acts_count (acts_setRows h6) _)
      · exact acts_pair (acts_count h6 _)
theorem acts_freeRow {z s a1 a2 a3} (h : Acts z s) : Acts z (freeRow s a1 a2 a3) := by
  unfold freeRow
  exact acts_setRows h
theorem acts_createRow {z s a1 a2 a3} (h : Acts z s) : Acts z (createRow s a1 a2 a3).2 := by
  unfold createRow
  extract_lets +onlyGivenNames u0
  clear_value u0
  split
  · rename_i y1 y2 y3
    have h4 := acts_of_snd y3 (acts_allocRow h)
    exact h4
  · rename_i y5 y6 y7 y8
    have h9 := acts_of_snd y8 (acts_allocRow h)
    split
    · rename_i y10 y11 y12 y13 y14
      have h15 := acts_of_snd y14 (acts_probe h9)
      extract_lets +onlyGivenNames u16
      clear_value u16
      exact acts_pair (acts_holdWrite (acts_putEntry h15))
    · rename_i y17 y18 y19
      have h20 := acts_of_snd y19 (acts_probe h9)
      exact acts_pair (acts_count (acts_freeRow h20) _)
    · rename_i y21 y22 y23
      have h24 := acts_of_snd y23 (acts_probe h9)
      exact acts_pair (acts_freeRow h24)
theorem acts_freePending {z s a1 a2} (h : Acts z s) : Acts z (freePending s a1 a2) := by
  unfold freePending
  extract_lets +onlyGivenNames u0
  clear_value u0
  refine acts_foldl h (fun x1 x2 h3 => ?_)
  extract_lets +onlyGivenNames u4
  clear_value u4
  split
  · rename_i y5 y6 y7 y8 y9
    have h10 := acts_of_snd y9 (acts_lookupPending h3)
    exact acts_freeRow (acts_putEntry h10)
  · rename_i y11 y12 y13 y14 y15
    have h16 := acts_of_snd y15 (acts_lookupPending h3)
    exact h16

/-! ## Engine -/

/-- What a slot operation leaves: a state that Acts allows, or an abort. -/
def ActsR (z : State) : SlotRes → Prop
  | .ok t => Acts z t
  | .abort _ => True
theorem actsR_ok {z t : State} (h : Acts z t) : ActsR z (.ok t) := h
theorem actsR_abort {z : State} {c : Nat} : ActsR z (.abort c) := trivial
theorem actsR_elim {z t : State} {r : SlotRes} (e : r = .ok t) (h : ActsR z r) : Acts z t := by
  rw [e] at h; exact h
theorem actsR_ite {z : State} {s t : SlotRes} {c : Prop} [Decidable c] (h : ActsR z s) (k : ActsR z t) :
    ActsR z (if c then s else t) := by
  split
  · exact h
  · exact k
theorem acts_pmcBump {z a0 a1 a2 s a4} (h : Acts z s) : Acts z (pmcBump a0 a1 a2 s a4) := by
  unfold pmcBump
  extract_lets +onlyGivenNames u0 u1
  clear_value u0 u1
  extract_lets +onlyGivenNames u2 u3
  clear_value u2 u3
  extract_lets +onlyGivenNames u4
  have h5 : Acts z u4 := acts_wr64 h _ _ _
  clear_value u4
  refine acts_ite h5 ?_
  extract_lets +onlyGivenNames u6
  clear_value u6
  extract_lets +onlyGivenNames u7
  have h8 : Acts z u7 := acts_setF h5 _ _ _
  clear_value u7
  extract_lets +onlyGivenNames u9
  have h10 : Acts z u9 := acts_setF (acts_setBit h8 _ _) _ _ _
  clear_value u9
  extract_lets +onlyGivenNames u11
  have h12 : Acts z u11 := acts_engEvent h10
  clear_value u11
  exact acts_ite (acts_setBit h12 _ _) h12
theorem acts_pmc {z s a1 a2 a3} (h : Acts z s) : Acts z (pmc s a1 a2 a3) := by
  unfold pmc
  exact acts_ite h (acts_foldl h (fun x0 x1 h2 => acts_pmcBump h2))
theorem acts_tagWrite {z s a1 a2} (h : Acts z s) : Acts z (tagWrite s a1 a2) := by
  unfold tagWrite
  extract_lets +onlyGivenNames u0 u1
  clear_value u0 u1
  extract_lets +onlyGivenNames u2 u3 u4
  clear_value u2 u3 u4
  extract_lets +onlyGivenNames u5
  have h6 : Acts z u5 := acts_updEng h
  clear_value u5
  extract_lets +onlyGivenNames u7
  have h8 : Acts z u7 := acts_ite (acts_count h6 _) h6
  clear_value u7
  refine acts_ite h8 ?_
  extract_lets +onlyGivenNames u9
  have h10 : Acts z u9 := acts_foldl h8 (fun x11 x12 h13 => acts_wr h13 _ _)
  clear_value u9
  extract_lets +onlyGivenNames u14
  have h15 : Acts z u14 := acts_setF h10 _ _ _
  clear_value u14
  extract_lets +onlyGivenNames u16
  clear_value u16
  exact acts_ite (acts_engEvent h15) h15
theorem acts_deviceFrame {z s a1 a2 a3 a4} (h : Acts z s) : Acts z (deviceFrame s a1 a2 a3 a4) := by
  unfold deviceFrame
  split
  · rename_i y0 y1 y2 y3
    have h4 := acts_of_snd y3 (acts_addFrm h _)
    exact acts_originate h4
theorem acts_sendStatus {z s a1 a2 a3 a4 a5 a6 a7 a8} (h : Acts z s) :
    Acts z (sendStatus s a1 a2 a3 a4 a5 a6 a7 a8) := by
  unfold sendStatus
  extract_lets +onlyGivenNames u0 u1
  clear_value u0 u1
  exact acts_deviceFrame (acts_knotCount h)
theorem acts_statusToControl {z s a1 a2 a3 a4} (h : Acts z s) : Acts z (statusToControl s a1 a2 a3 a4) := by
  unfold statusToControl
  extract_lets +onlyGivenNames u0
  clear_value u0
  exact acts_ite h (acts_sendStatus h)
theorem acts_releaseLocks {z s a1 a2} (h : Acts z s) : Acts z (releaseLocks s a1 a2) := by
  unfold releaseLocks
  exact acts_mk h
theorem acts_discardStaged {z s a1 a2} (h : Acts z s) : Acts z (discardStaged s a1 a2) := by
  unfold discardStaged
  extract_lets +onlyGivenNames u0 u1 u2
  clear_value u0 u1 u2
  extract_lets +onlyGivenNames u3
  have h4 : Acts z u3 := acts_foldl (acts_freePending h) (fun x5 x6 h7 => acts_count h7 _)
  clear_value u3
  exact acts_releaseLocks (acts_mk h4)
theorem acts_updScatter {z s a1 a2 a3} (h : Acts z s) : Acts z (updScatter s a1 a2 a3) := by
  unfold updScatter
  exact acts_mk h
theorem acts_endHold {z s a1 a2} (h : Acts z s) : Acts z (endHold s a1 a2) := by
  unfold endHold
  split
  · extract_lets +onlyGivenNames u0
    have h1 : Acts z u0 := acts_updScatter h
    clear_value u0
    exact acts_ite h1 (acts_releaseLocks h1)
  · exact acts_releaseLocks h
theorem acts_abortHold {z s a1 a2 a3} (h : Acts z s) : Acts z (abortHold s a1 a2 a3) := by
  unfold abortHold
  split
  · extract_lets +onlyGivenNames u0
    have h1 : Acts z u0 := acts_ite (acts_discardStaged h) (acts_releaseLocks h)
    clear_value u0
    exact acts_updScatter h1
  · exact acts_releaseLocks h
theorem acts_markIdle {z s a1} (h : Acts z s) : Acts z (State.markIdle s a1) := by
  unfold State.markIdle
  exact acts_updEng h
theorem acts_afterDispatch {z s a1} (h : Acts z s) : Acts z (afterDispatch s a1) := by
  unfold afterDispatch
  extract_lets +onlyGivenNames u0
  have h1 : Acts z u0 := acts_markIdle (acts_setF h _ _ _)
  clear_value u0
  exact acts_ite (acts_engEvent (acts_setEngState h1)) (acts_setEngState h1)
theorem acts_tagDrain {z s a1} (h : Acts z s) : Acts z (tagDrain s a1) := by
  unfold tagDrain
  split
  · exact h
  · extract_lets +onlyGivenNames u0
    clear_value u0
    exact acts_tagWrite h
theorem acts_recallOne {z s a1} (h : Acts z s) : Acts z (recallOne s a1) := by
  unfold recallOne
  extract_lets +onlyGivenNames u0
  clear_value u0
  extract_lets +onlyGivenNames u1
  have h2 : Acts z u1 := acts_dropFromWaits h
  clear_value u1
  extract_lets +onlyGivenNames u3
  have h4 : Acts z u3 := acts_ite (acts_dropFromQueues h2) h2
  clear_value u3
  extract_lets +onlyGivenNames u5
  have h6 : Acts z u5 := acts_ite (acts_updLan h4 _ _ _) h4
  clear_value u5
  exact acts_ite h (acts_discardFrame h6)
theorem acts_recallFrame {z s a1} (h : Acts z s) : Acts z (recallFrame s a1) := by
  unfold recallFrame
  exact acts_foldl h (fun x0 x1 h2 => acts_recallOne h2)
theorem acts_abortWord6 {z s a1} (h : Acts z s) : Acts z (abortWord6 s a1).2 := by
  unfold abortWord6
  split
  · exact h
  · extract_lets +onlyGivenNames u0
    clear_value u0
    split
    · exact h
    · split
      · exact h
      · exact acts_drawFree h _
theorem acts_knotAbort {z s a1 a2} (h : Acts z s) : Acts z (knotAbort s a1 a2) := by
  unfold knotAbort
  extract_lets +onlyGivenNames u0 u1
  clear_value u0 u1
  split
  · rename_i y2 y3 y4 y5
    have h6 := acts_of_snd y5 (acts_abortWord6 h)
    extract_lets +onlyGivenNames u7
    have h8 : Acts z u7 := acts_ite h6 (acts_statusToControl h6)
    clear_value u7
    exact acts_knotCount (acts_updKnot h8)
theorem acts_noteFault {z s a1 a2 a3 a4} (h : Acts z s) : Acts z (noteFault s a1 a2 a3 a4) := by
  unfold noteFault
  exact acts_wr h _ _
theorem acts_abortSteps {z s a1 a2 a3 a4} (h : Acts z s) : Acts z (abortSteps s a1 a2 a3 a4) := by
  unfold abortSteps
  extract_lets +onlyGivenNames u0
  clear_value u0
  extract_lets +onlyGivenNames u1
  have h2 : Acts z u1 := acts_updEng h
  clear_value u1
  extract_lets +onlyGivenNames u3
  have h4 : Acts z u3 := acts_foldl h2 (fun x5 x6 h7 => acts_recallFrame h7)
  clear_value u3
  extract_lets +onlyGivenNames u8
  have h9 : Acts z u8 := acts_noteFault h4
  clear_value u8
  extract_lets +onlyGivenNames u10
  have h11 : Acts z u10 := acts_pmc (acts_engCount (acts_engEvent h9))
  clear_value u10
  exact acts_abortHold (acts_knotAbort h11)
theorem acts_orphanKnot {z s a1} (h : Acts z s) : Acts z (orphanKnot s a1) := by
  unfold orphanKnot
  extract_lets +onlyGivenNames u0 u1
  clear_value u0 u1
  refine acts_ite h (acts_ite ?_ h)
  extract_lets +onlyGivenNames u2
  have h3 : Acts z u2 := acts_knotCount (acts_updKnot h)
  clear_value u2
  extract_lets +onlyGivenNames u4
  have h5 : Acts z u4 := acts_setEvent h3
  clear_value u4
  split
  · rename_i y6 y7 y8 y9
    have h10 := acts_of_snd y9 (acts_drawFree h5 _)
    exact acts_statusToControl h10
theorem acts_orphanAll {z s a1} (h : Acts z s) : Acts z (orphanAll s a1) := by
  unfold orphanAll
  exact acts_foldl (acts_updEng h) (fun x0 x1 h2 => acts_orphanKnot h2)
theorem acts_dropQueued {z s a1} (h : Acts z s) : Acts z (dropQueued s a1) := by
  unfold dropQueued
  extract_lets +onlyGivenNames u0
  clear_value u0
  extract_lets +onlyGivenNames u1
  have h2 : Acts z u1 := acts_foldl h (fun x3 x4 h5 => acts_engCount h5)
  clear_value u1
  exact acts_updEng h2
theorem acts_dropHeld {z s a1 a2 a3} (h : Acts z s) : Acts z (dropHeld s a1 a2 a3) := by
  unfold dropHeld
  extract_lets +onlyGivenNames u0
  clear_value u0
  exact acts_foldl (acts_updEng h) (fun x1 x2 h3 => acts_discardFrame h3)
theorem acts_xchkAbandon {z s a1} (h : Acts z s) : Acts z (xchkAbandon s a1) := by
  unfold xchkAbandon
  split
  · exact h
  · extract_lets +onlyGivenNames u0
    have h1 : Acts z u0 := acts_updEng (acts_updEng h)
    clear_value u0
    exact acts_integCount (acts_dropHeld h1)
theorem acts_enterFault {z s a1} (h : Acts z s) : Acts z (enterFault s a1) := by
  unfold enterFault
  extract_lets +onlyGivenNames u0
  have h1 : Acts z u0 := acts_setF (acts_engEvent (acts_setEngState h)) _ _ _
  clear_value u0
  exact acts_xchkAbandon (acts_orphanAll (acts_dropQueued h1))
theorem acts_abortDispatch {z s a1 a2 a3} (h : Acts z s) : Acts z (abortDispatch s a1 a2 a3) := by
  unfold abortDispatch
  split
  · exact h
  · extract_lets +onlyGivenNames u0
    have h1 : Acts z u0 := acts_updEng (acts_abortSteps h)
    clear_value u0
    exact acts_ite (acts_enterFault h1) (acts_afterDispatch h1)

/-! ## Tick -/

theorem acts_tickAon {z s} (h : Acts z s) : Acts z (tickAon s) := by
  unfold tickAon
  exact acts_ite (acts_mk h) h
theorem acts_tickPmc {z s} (h : Acts z s) : Acts z (tickPmc s) := by
  unfold tickPmc
  exact acts_foldl h (fun x0 x1 h2 => acts_pmc h2)
theorem acts_tickCore {z s} (h : Acts z s) : Acts z (tickCore s) := by
  unfold tickCore
  exact acts_ite (acts_tickPmc (acts_mk h)) h

/-! ## Lanyard -/

theorem acts_showLanState {z s a1 a2} (h : Acts z s) : Acts z (showLanState s a1 a2) := by
  unfold showLanState
  extract_lets +onlyGivenNames u0 u1
  clear_value u0 u1
  extract_lets +onlyGivenNames u2
  have h3 : Acts z u2 := acts_setF h _ _ _
  clear_value u2
  exact acts_ite h3 (acts_ite (acts_portBack h3) (acts_ite (acts_losePort h3) h3))
theorem acts_writeLanyardCtrl {z a0 a1 a2 s} (h : Acts z s) : Acts z (writeLanyardCtrl a0 a1 a2 s) := by
  unfold writeLanyardCtrl
  exact acts_showLanState (acts_wr h _ _)
theorem acts_slotCheckAt {z a0 a1 s a3} (h : Acts z s) : Acts z (slotCheckAt a0 a1 s a3) := by
  unfold slotCheckAt
  split
  · exact h
  · extract_lets +onlyGivenNames u0
    clear_value u0
    exact acts_updLan h _ _ _
theorem acts_doSlotCheck {z a0 a1 s} (h : Acts z s) : Acts z (doSlotCheck a0 a1 s) := by
  unfold doSlotCheck
  exact acts_slotCheckAt h
theorem acts_popLan {z s a1 a2 a3} (h : Acts z s) : Acts z (popLan s a1 a2 a3) := by
  unfold popLan
  exact acts_updLan h _ _ _
theorem acts_sendLan {z s a1 a2 a3 a4} (h : Acts z s) : Acts z (sendLan s a1 a2 a3 a4) := by
  unfold sendLan
  extract_lets +onlyGivenNames u0 u1
  clear_value u0 u1
  exact acts_discardFrame (acts_updFrm (acts_mirrorTx (acts_lanCount (acts_popLan h))) _ _)
theorem acts_fillBurst {z a0 a1 a2 a3 a4 s a6} (h : Acts z s) : Acts z (fillBurst a0 a1 a2 a3 a4 s a6).2 := by
  induction a3 generalizing a4 s a6 with
  | zero => exact h
  | succ n ih =>
    unfold fillBurst
    extract_lets +onlyGivenNames u0
    clear_value u0
    split
    · exact h
    · exact ih (acts_sendLan h)
theorem acts_sendBurst {z a0 a1 a2 a3 a4 s} (h : Acts z s) : Acts z (sendBurst a0 a1 a2 a3 a4 s) := by
  unfold sendBurst
  extract_lets +onlyGivenNames u0 u1
  clear_value u0 u1
  extract_lets +onlyGivenNames u2 u3 u4
  clear_value u2 u3 u4
  split
  · rename_i y5 y6 y7 y8
    have h9 := acts_of_snd y8 (acts_fillBurst h)
    extract_lets +onlyGivenNames u10
    have h11 : Acts z u10 := acts_emit (acts_emit (acts_emit h9 _) _) _
    clear_value u10
    extract_lets +onlyGivenNames u12
    have h13 : Acts z u12 := acts_lanCount h11
    clear_value u12
    exact acts_ite h13 (acts_lanCount h13)
theorem acts_slotLane {z a0 a1 a2 a3 s a5} (h : Acts z s) : Acts z (slotLane a0 a1 a2 a3 s a5) := by
  unfold slotLane
  extract_lets +onlyGivenNames u0
  clear_value u0
  exact acts_ite h (acts_ite (acts_sendBurst h) (acts_lanCount h))
theorem acts_slotBoundaryAt {z a0 a1 s a3} (h : Acts z s) : Acts z (slotBoundaryAt a0 a1 s a3) := by
  unfold slotBoundaryAt
  split
  · exact h
  · extract_lets +onlyGivenNames u0 u1
    clear_value u0 u1
    extract_lets +onlyGivenNames u2
    have h3 : Acts z u2 := acts_setF (acts_updLan h _ _ _) _ _ _
    clear_value u2
    exact acts_ite (acts_foldl h3 (fun x4 x5 h6 => acts_slotLane h6)) h3
theorem acts_doSlotBoundary {z a0 a1 s} (h : Acts z s) : Acts z (doSlotBoundary a0 a1 s) := by
  unfold doSlotBoundary
  exact acts_slotBoundaryAt h
theorem acts_burstFailed {z a0 a1 a2 a3 s} (h : Acts z s) : Acts z (burstFailed a0 a1 a2 a3 s) := by
  unfold burstFailed
  extract_lets +onlyGivenNames u0 u1
  clear_value u0 u1
  extract_lets +onlyGivenNames u2
  have h3 : Acts z u2 := acts_updLan h _ _ _
  clear_value u2
  exact acts_ite (acts_fileRec h3) h3
theorem acts_burstFrame {z a0 a1 a2 s a4} (h : Acts z s) : Acts z (burstFrame a0 a1 a2 s a4) := by
  unfold burstFrame
  extract_lets +onlyGivenNames u0 u1
  clear_value u0 u1
  extract_lets +onlyGivenNames u2 u3
  clear_value u2 u3
  refine acts_ite ?_ (acts_rxWhole h)
  split
  · rename_i y4 y5 y6 y7
    have h8 := acts_of_snd y7 (acts_police h)
    exact acts_lanCount (acts_mirrorRx h8)
theorem acts_burstAt {z a0 a1 a2 a3 s a5} (h : Acts z s) : Acts z (burstAt a0 a1 a2 a3 s a5) := by
  unfold burstAt
  split
  · exact h
  · extract_lets +onlyGivenNames u0 u1
    clear_value u0 u1
    split
    · exact h
    · refine acts_ite h ?_
      split
      · exact acts_burstFailed (acts_lanCount h)
      · exact acts_burstFailed (acts_lanCount h)
      · extract_lets +onlyGivenNames u2 u3 u4
        clear_value u2 u3 u4
        extract_lets +onlyGivenNames u5
        have h6 : Acts z u5 := acts_ite (acts_lanCount h) h
        clear_value u5
        extract_lets +onlyGivenNames u7
        have h8 : Acts z u7 := acts_ite (acts_lanCount h6) h6
        clear_value u7
        extract_lets +onlyGivenNames u9
        have h10 : Acts z u9 := acts_ite (acts_lanCount h8) h8
        clear_value u9
        extract_lets +onlyGivenNames u11
        have h12 : Acts z u11 := acts_ite h10 (acts_lanCount h10)
        clear_value u11
        refine acts_ite (acts_burstFailed h12) ?_
        extract_lets +onlyGivenNames u13
        have h14 : Acts z u13 := acts_lanCount (acts_updLan h12 _ _ _)
        clear_value u13
        extract_lets +onlyGivenNames u15
        have h16 : Acts z u15 := by
          unfold u15
          split
          · exact acts_updLan h14 _ _ _
          · exact h14
        clear_value u15
        exact acts_foldl h16 (fun x17 x18 h19 => acts_burstFrame h19)
theorem acts_doBurst {z a0 a1 a2 a3 s} (h : Acts z s) : Acts z (doBurst a0 a1 a2 a3 s) := by
  unfold doBurst
  exact acts_burstAt h
theorem acts_doWaitExpire {z a0 a1 a2 s} (h : Acts z s) : Acts z (doWaitExpire a0 a1 a2 s) := by
  unfold doWaitExpire
  split
  · exact h
  · exact acts_ite (acts_discardFrame (acts_lanCount (acts_popLan h))) h
theorem acts_setVerify {z s a1 a2 a3 a4 a5 a6} (h : Acts z s) : Acts z (setVerify s a1 a2 a3 a4 a5 a6) := by
  unfold setVerify
  extract_lets +onlyGivenNames u0
  clear_value u0
  exact acts_setF h _ _ _
theorem acts_setReseek {z s a1 a2 a3 a4 a5 a6} (h : Acts z s) : Acts z (setReseek s a1 a2 a3 a4 a5 a6) := by
  unfold setReseek
  exact acts_updLan h _ _ _
theorem acts_wrongColour {z a0 a1 a2 a3 a4 s} (h : Acts z s) : Acts z (wrongColour a0 a1 a2 a3 a4 s) := by
  unfold wrongColour
  extract_lets +onlyGivenNames u0
  clear_value u0
  extract_lets +onlyGivenNames u1
  have h2 : Acts z u1 := acts_setLaneEvent (acts_setVerify h)
  clear_value u1
  extract_lets +onlyGivenNames u3
  have h4 : Acts z u3 := acts_fileLaneLink (acts_laneCount (acts_lanCount h2))
  clear_value u3
  exact acts_setReseek h4
theorem acts_doToneDecision {z a0 a1 a2 a3 a4 a5 s} (h : Acts z s) : Acts z (doToneDecision a0 a1 a2 a3 a4 a5 s) := by
  unfold doToneDecision
  exact acts_ite h (acts_ite (acts_ite h (acts_setVerify h)) (acts_wrongColour h))
theorem acts_removeLane {z a0 a1 a2 s} (h : Acts z s) : Acts z (removeLane a0 a1 a2 s) := by
  unfold removeLane
  extract_lets +onlyGivenNames u0
  clear_value u0
  extract_lets +onlyGivenNames u1
  have h2 : Acts z u1 := acts_updLan h _ _ _
  clear_value u1
  exact acts_fileLaneLink (acts_setLaneEvent (acts_setLaneState h2))
theorem acts_reseekFailed {z a0 a1 a2 s} (h : Acts z s) : Acts z (reseekFailed a0 a1 a2 s) := by
  unfold reseekFailed
  extract_lets +onlyGivenNames u0 u1
  clear_value u0 u1
  extract_lets +onlyGivenNames u2
  have h3 : Acts z u2 := acts_updLane (acts_lanCount h) _ _ _
  clear_value u2
  exact acts_ite (acts_removeLane h3) h3
theorem acts_doLanReseek {z a0 a1 a2 a3 a4 a5 s} (h : Acts z s) : Acts z (doLanReseek a0 a1 a2 a3 a4 a5 s) := by
  unfold doLanReseek
  exact acts_ite h (acts_ite (acts_setReseek (acts_setVerify h)) (acts_reseekFailed h))
theorem acts_showHeadroom {z s a1 a2} (h : Acts z s) : Acts z (showHeadroom s a1 a2) := by
  unfold showHeadroom
  refine acts_foldl h (fun x0 x1 h2 => ?_)
  split
  · extract_lets +onlyGivenNames u3
    clear_value u3
    exact acts_setF (acts_setF h2 _ _ _) _ _ _
theorem acts_lossyUntilFit {z a0 a1 a2 s} (h : Acts z s) : Acts z (lossyUntilFit a0 a1 a2 s) := by
  induction a2 generalizing s with
  | zero => exact h
  | succ n ih =>
    unfold lossyUntilFit
    split
    · exact h
    · exact ih (acts_ite (acts_setF h _ _ _) h)
theorem acts_newHeadroom {z s a1 a2} (h : Acts z s) : Acts z (newHeadroom s a1 a2) := by
  unfold newHeadroom
  extract_lets +onlyGivenNames u0
  have h1 : Acts z u0 := acts_showHeadroom h
  clear_value u0
  exact acts_ite h1 (acts_setEvent (acts_lossyUntilFit h1))
theorem acts_armStrip {z a0 a1 s} (h : Acts z s) : Acts z (armStrip a0 a1 s) := by
  unfold armStrip
  exact acts_setBit h _ _
theorem acts_setLanLanes {z s a1 a2 a3} (h : Acts z s) : Acts z (setLanLanes s a1 a2 a3) := by
  unfold setLanLanes
  refine acts_foldl h (fun x0 x1 h2 => ?_)
  extract_lets +onlyGivenNames u3
  clear_value u3
  exact acts_ite h2 (acts_setLaneState h2)
theorem acts_doTsStart {z a0 a1 s} (h : Acts z s) : Acts z (doTsStart a0 a1 s) := by
  unfold doTsStart
  exact acts_ite (acts_setLanLanes (acts_showLanState (acts_updLan h _ _ _))) h
theorem acts_quality {z s a1 a2} (h : Acts z s) : Acts z (quality s a1 a2).2 := by
  unfold quality
  split
  · split
    · rename_i y0 y1 y2 y3
      have h4 := acts_of_snd y3 (acts_drawFree h _)
      exact h4
  · exact h
theorem acts_sendDiscovery {z a0 a1 a2 a3 a4 a5 s} (h : Acts z s) : Acts z (sendDiscovery a0 a1 a2 a3 a4 a5 s) := by
  unfold sendDiscovery
  extract_lets +onlyGivenNames u0
  clear_value u0
  refine acts_ite ?_ h
  extract_lets +onlyGivenNames u1
  clear_value u1
  extract_lets +onlyGivenNames u2
  have h3 : Acts z u2 := acts_emit h _
  clear_value u2
  exact acts_ite (acts_emit h3 _) h3
theorem acts_recordHeard {z a0 a1 a2 a3 a4 a5 a6 s} (h : Acts z s) : Acts z (recordHeard a0 a1 a2 a3 a4 a5 a6 s) := by
  unfold recordHeard
  extract_lets +onlyGivenNames u0
  have h1 : ∀ w0 w1, Acts z w1 → Acts z (u0 w0 w1) := by
    unfold u0
    exact fun x2 x3 h4 => acts_updLan h4 _ _ _
  clear_value u0
  split
  · exact h
  · refine acts_ite ?_ ?_
    · split
      · refine acts_ite ?_ h
        split
        · rename_i y5 y6 y7 y8
          have h9 := acts_of_snd y8 (acts_quality h)
          exact h1 _ _ h9
      · exact h
    · split
      · rename_i y10 y11 y12 y13
        have h14 := acts_of_snd y13 (acts_quality h)
        exact h1 _ _ h14
theorem acts_takeReports {z a0 a1 a2 a3 a4 s} (h : Acts z s) : Acts z (takeReports a0 a1 a2 a3 a4 s) := by
  unfold takeReports
  split
  · exact h
  · extract_lets +onlyGivenNames u0 u1
    clear_value u0 u1
    exact acts_updLan h _ _ _
theorem acts_doDiscovery {z a0 a1 a2 a3 a4 a5 s} (h : Acts z s) : Acts z (doDiscovery a0 a1 a2 a3 a4 a5 s) := by
  unfold doDiscovery
  extract_lets +onlyGivenNames u0 u1
  clear_value u0 u1
  refine acts_ite h ?_
  extract_lets +onlyGivenNames u2
  clear_value u2
  extract_lets +onlyGivenNames u3
  have h4 : Acts z u3 := acts_sendDiscovery (acts_setLaneState h)
  clear_value u3
  refine acts_ite h4 ?_
  extract_lets +onlyGivenNames u5
  have h6 : Acts z u5 := acts_recordHeard h4
  clear_value u5
  exact acts_ite (acts_takeReports h6) h6
theorem acts_fillPeer {z a0 a1 s a3} (h : Acts z s) : Acts z (fillPeer a0 a1 s a3) := by
  unfold fillPeer
  extract_lets +onlyGivenNames u0 u1
  clear_value u0 u1
  extract_lets +onlyGivenNames u2 u3
  clear_value u2 u3
  extract_lets +onlyGivenNames u4 u5
  clear_value u4 u5
  extract_lets +onlyGivenNames u6 u7
  clear_value u6 u7
  extract_lets +onlyGivenNames u8 u9
  clear_value u8 u9
  extract_lets +onlyGivenNames u10 u11
  clear_value u10 u11
  extract_lets +onlyGivenNames u12
  extract_lets +onlyGivenNames u13
  have h14 : Acts z u13 := acts_wr h _ _
  clear_value u13
  extract_lets +onlyGivenNames u15
  have h16 : Acts z u15 := acts_setF (acts_setF h14 _ _ _) _ _ _
  clear_value u15
  extract_lets +onlyGivenNames u17
  have h18 : Acts z u17 := acts_setF (acts_setF h16 _ _ _) _ _ _
  clear_value u17
  exact acts_wr h18 _ _
theorem acts_setRxDelay {z s a1 a2} (h : Acts z s) : Acts z (setRxDelay s a1 a2) := by
  unfold setRxDelay
  split
  · exact h
  · extract_lets +onlyGivenNames u0 u1
    clear_value u0 u1
    extract_lets +onlyGivenNames u2 u3
    clear_value u2 u3
    split
    · rename_i y4 y5 y6 y7
      have h8 := acts_of_snd y7 (by
          split
          · exact acts_drawFree h _
          · exact h
        )
      extract_lets +onlyGivenNames u9
      have h10 : Acts z u9 := acts_setF (acts_setF h8 _ _ _) _ _ _
      clear_value u9
      exact acts_setF h10 _ _ _
theorem acts_restLanes {z s a1 a2} (h : Acts z s) : Acts z (restLanes s a1 a2) := by
  unfold restLanes
  exact acts_setLanLanes h
theorem acts_lanReports {z s a1 a2 a3} (h : Acts z s) : Acts z (lanReports s a1 a2 a3) := by
  unfold lanReports
  refine acts_foldl h (fun x0 x1 h2 => ?_)
  extract_lets +onlyGivenNames u3
  clear_value u3
  split
  · rename_i y4 y5 y6 y7
    have h8 := acts_of_snd y7 (acts_unmeasuredWords h2)
    exact acts_setF (acts_writeReport h8) _ _ _
theorem acts_doTsComplete {z a0 a1 s} (h : Acts z s) : Acts z (doTsComplete a0 a1 s) := by
  unfold doTsComplete
  extract_lets +onlyGivenNames u0
  clear_value u0
  refine acts_ite ?_ h
  extract_lets +onlyGivenNames u1
  have h2 : Acts z u1 := acts_foldl h (fun x3 x4 h5 => acts_fillPeer h5)
  clear_value u1
  extract_lets +onlyGivenNames u6
  clear_value u6
  extract_lets +onlyGivenNames u7
  have h8 : Acts z u7 := acts_newHeadroom (acts_setRxDelay h2)
  clear_value u7
  extract_lets +onlyGivenNames u9
  have h10 : Acts z u9 := acts_setF (acts_updLan h8 _ _ _) _ _ _
  clear_value u9
  extract_lets +onlyGivenNames u11
  have h12 : Acts z u11 := acts_lanReports (acts_restLanes h10)
  clear_value u11
  exact acts_showLanState (acts_setEvent h12)
theorem acts_cancelStrip {z a0 a1 s} (h : Acts z s) : Acts z (cancelStrip a0 a1 s) := by
  unfold cancelStrip
  extract_lets +onlyGivenNames u0
  have h1 : Acts z u0 := acts_setF (acts_updLan h _ _ _) _ _ _
  clear_value u0
  exact acts_ite (acts_showLanState (acts_restLanes h1)) h1
theorem acts_saveRota {z s a1} (h : Acts z s) : Acts z (saveRota s a1) := by
  unfold saveRota
  split
  · extract_lets +onlyGivenNames u0 u1
    clear_value u0 u1
    extract_lets +onlyGivenNames u2 u3
    clear_value u2 u3
    exact acts_updLan h _ _ _
theorem acts_flipRota {z a0 s a2} (h : Acts z s) : Acts z (flipRota a0 s a2) := by
  unfold flipRota
  split
  · extract_lets +onlyGivenNames u0 u1
    clear_value u0 u1
    extract_lets +onlyGivenNames u2 u3
    clear_value u2 u3
    extract_lets +onlyGivenNames u4
    have h5 : Acts z u4 := acts_wr (acts_wr h _ _) _ _
    clear_value u4
    extract_lets +onlyGivenNames u6
    have h7 : Acts z u6 := acts_setF (acts_setF h5 _ _ _) _ _ _
    clear_value u6
    extract_lets +onlyGivenNames u8
    have h9 : Acts z u8 := acts_setF h7 _ _ _
    clear_value u8
    exact acts_newHeadroom (acts_updLan h9 _ _ _)
theorem acts_doFlip {z s} (h : Acts z s) : Acts z (doFlip s) := by
  unfold doFlip
  refine acts_ite ?_ h
  extract_lets +onlyGivenNames u0 u1 u2
  clear_value u0 u1 u2
  extract_lets +onlyGivenNames u3
  have h4 : Acts z u3 := acts_foldl h (fun x5 x6 h7 => acts_saveRota h7)
  clear_value u3
  extract_lets +onlyGivenNames u8
  have h9 : Acts z u8 := acts_wr (acts_wr h4 _ _) _ _
  clear_value u8
  extract_lets +onlyGivenNames u10
  have h11 : Acts z u10 := acts_setTxn (acts_setF h9 _ _ _)
  clear_value u10
  extract_lets +onlyGivenNames u12
  clear_value u12
  extract_lets +onlyGivenNames u13
  have h14 : Acts z u13 := acts_updTabs h11
  clear_value u13
  extract_lets +onlyGivenNames u15
  have h16 : Acts z u15 := acts_foldl h14 (fun x17 x18 h19 => acts_flipRota h19)
  clear_value u15
  exact acts_followDark (acts_txnEvent h16)

end Sys2Proof.Machine
end

