-- ==== Sys2Proof/Laws/ActsEngine.lean ====
section
/-! SUPPORT. Laws of the splice engines, their operations, knots and the Hold: each operation stays within what Acts allows. -/

namespace Sys2Proof.Machine

/-! ## Issue -/

/-- What bringing an engine to its slot leaves. -/
def ActsA (z : State) : Arm → Prop
  | .stop t => Acts z t
  | .go t _ _ => Acts z t
theorem actsA_stop {z t : State} (h : Acts z t) : ActsA z (.stop t) := h
theorem actsA_go {z t : State} {k w} (h : Acts z t) : ActsA z (.go t k w) := h
theorem actsA_elim_stop {z t : State} {r : Arm} (e : r = .stop t) (h : ActsA z r) : Acts z t := by
  rw [e] at h; exact h
theorem actsA_elim_go {z t : State} {r : Arm} {k w} (e : r = .go t k w) (h : ActsA z r) : Acts z t := by
  rw [e] at h; exact h
theorem acts_tagAdvance {z s a1 a2 a3} (h : Acts z s) : Acts z (tagAdvance s a1 a2 a3) := by
  unfold tagAdvance
  split
  · exact h
  · exact acts_ite (acts_tagWrite h) (acts_updEng h)
theorem acts_tagSelect {z s a1 a2 a3 a4 a5 a6} (h : Acts z s) : Acts z (tagSelect s a1 a2 a3 a4 a5 a6) := by
  unfold tagSelect
  extract_lets +onlyGivenNames u0 u1 u2
  clear_value u0 u1 u2
  extract_lets +onlyGivenNames u3
  have h4 : Acts z u3 := acts_updEng h
  clear_value u3
  refine acts_ite h4 (acts_ite (acts_count h4 _) ?_)
  extract_lets +onlyGivenNames u5
  extract_lets +onlyGivenNames u6
  extract_lets +onlyGivenNames u7 u8
  clear_value u7 u8
  extract_lets +onlyGivenNames u9 u10 u11
  clear_value u9 u10 u11
  exact acts_updEng h4
theorem acts_countSlots {z s a1 a2} (h : Acts z s) : Acts z (countSlots s a1 a2) := by
  unfold countSlots
  extract_lets +onlyGivenNames u0
  exact acts_pmc (acts_pmc (acts_pmc (acts_pmc (acts_pmc (acts_pmc h)))))
theorem acts_countStalls {z s a1 a2 a3} (h : Acts z s) : Acts z (countStalls s a1 a2 a3) := by
  unfold countStalls
  exact acts_pmc (acts_pmc (acts_pmc (acts_pmc (acts_pmc h))))
theorem acts_showFetch {z s a1} (h : Acts z s) : Acts z (showFetch s a1) := by
  unfold showFetch
  extract_lets +onlyGivenNames u0
  clear_value u0
  exact acts_setF h _ _ _
theorem acts_issueBraid {z s a1 a2 a3 a4} (h : Acts z s) : Acts z (issueBraid s a1 a2 a3 a4) := by
  unfold issueBraid
  extract_lets +onlyGivenNames u0 u1
  clear_value u0 u1
  extract_lets +onlyGivenNames u2 u3
  clear_value u2 u3
  extract_lets +onlyGivenNames u4 u5
  clear_value u4 u5
  extract_lets +onlyGivenNames u6
  extract_lets +onlyGivenNames u7
  have h8 : Acts z u7 := acts_tagAdvance h
  clear_value u7
  extract_lets +onlyGivenNames u9
  have h10 : Acts z u9 := acts_tagSelect h8
  clear_value u9
  extract_lets +onlyGivenNames u11
  have h12 : Acts z u11 := acts_updEng h10
  clear_value u11
  exact acts_showFetch (acts_pmc (acts_countSlots (acts_countStalls h12)))
theorem acts_stallCycle {z s a1 a2} (h : Acts z s) : Acts z (stallCycle s a1 a2) := by
  unfold stallCycle
  exact acts_pmc (acts_pmc (acts_updEng h))
theorem acts_fetchCycle {z s a1} (h : Acts z s) : Acts z (fetchCycle s a1) := by
  unfold fetchCycle
  exact acts_pmc (acts_updEng h)
theorem acts_armSlot {z a0 a1 a2 a3 a4 s} (h : Acts z s) : ActsA z (armSlot a0 a1 a2 a3 a4 s) := by
  unfold armSlot
  extract_lets +onlyGivenNames u0
  clear_value u0
  split
  · exact actsA_stop h
  · split
    · exact actsA_stop h
    · extract_lets +onlyGivenNames u1 u2 u3
      clear_value u1 u2 u3
      split
      · split
        · exact actsA_go h
        · exact actsA_stop h
      · split
        · exact actsA_stop h
        · split
          · exact actsA_stop (acts_abortDispatch h)
          · extract_lets +onlyGivenNames u4
            clear_value u4
            split
            · exact actsA_stop (acts_abortDispatch h)
            · split
              · exact actsA_stop h
              · split
                · exact actsA_stop (acts_stallCycle h)
                · extract_lets +onlyGivenNames u5
                  have h6 : Acts z u5 := acts_ite (acts_fetchCycle h) h
                  clear_value u5
                  exact actsA_go (acts_issueBraid h6)
theorem acts_endBraid {z s a1} (h : Acts z s) : Acts z (endBraid s a1) := by
  unfold endBraid
  exact acts_showFetch (acts_updEng h)
theorem acts_slotDone {z s a1 a2} (h : Acts z s) : Acts z (slotDone s a1 a2) := by
  unfold slotDone
  exact acts_ite (acts_updEng h) (acts_endBraid h)
theorem acts_fileEngine {z s a1 a2 a3 a4 a5 a6 a7 a8 a9} (h : Acts z s) :
    Acts z (fileEngine s a1 a2 a3 a4 a5 a6 a7 a8 a9) := by
  unfold fileEngine
  exact acts_fileRec h
theorem acts_eccCorrected {z s a1 a2 a3 a4} (h : Acts z s) : Acts z (eccCorrected s a1 a2 a3 a4) := by
  unfold eccCorrected
  exact acts_fileEngine (acts_pmc (acts_engEvent (acts_engCount h)))
theorem acts_hwCheck {z s a1 a2 a3 a4} (h : Acts z s) : Acts z (hwCheck s a1 a2 a3 a4).1 := by
  unfold hwCheck
  extract_lets +onlyGivenNames u0
  clear_value u0
  split
  · exact h
  · exact acts_pair1 (acts_eccCorrected h)
  · exact acts_pair1 (acts_fileEngine h)
  · split
    · exact acts_pair1 (acts_fileEngine h)
    · exact h
theorem acts_runSlot {z a0 a1 a2 a3 a4 s} (ha2 : ∀ b0 b1 b2 b3, Acts z b3 → ActsR z (a2 b0 b1 b2 b3)) (h :
    Acts z s) : Acts z (runSlot a0 a1 a2 a3 a4 s) := by
  unfold runSlot
  split
  · rename_i y0 y1 y2
    have h3 := actsA_elim_stop y2 (acts_armSlot h)
    exact h3
  · rename_i y4 y5 y6 y7 y8
    have h9 := actsA_elim_go y8 (acts_armSlot h)
    split
    · rename_i y10 y11 y12 y13 y14
      have h15 := acts_of_fst y14 (acts_hwCheck h9)
      exact acts_abortDispatch h15
    · rename_i y16 y17 y18
      have h19 := acts_of_fst y18 (acts_hwCheck h9)
      extract_lets +onlyGivenNames u20
      clear_value u20
      refine acts_ite (acts_slotDone h19) ?_
      split
      · rename_i y21 y22 y23
        have h24 := actsR_elim y23 (ha2 _ _ _ _ h19)
        exact acts_slotDone h24
      · exact acts_abortDispatch h19
theorem acts_runNop {z a0 a1 s} (h : Acts z s) : Acts z (runNop a0 a1 s) := by
  unfold runNop
  split
  · rename_i y0 y1 y2
    have h3 := actsA_elim_stop y2 (acts_armSlot h)
    exact h3
  · rename_i y4 y5 y6 y7 y8
    have h9 := actsA_elim_go y8 (acts_armSlot h)
    split
    · rename_i y10 y11 y12 y13 y14
      have h15 := acts_of_fst y14 (acts_hwCheck h9)
      exact acts_abortDispatch h15
    · rename_i y16 y17 y18
      have h19 := acts_of_fst y18 (acts_hwCheck h9)
      exact acts_slotDone h19

/-! ## Packet -/

theorem acts_opPld {z a0 a1 a2 s} (h : Acts z s) : ActsR z (opPld a0 a1 a2 s) := by
  unfold opPld
  extract_lets +onlyGivenNames u0 u1
  clear_value u0 u1
  exact actsR_ite actsR_abort (actsR_ok (acts_setEng h))
theorem acts_opPst {z a0 a1 a2 s} (h : Acts z s) : ActsR z (opPst a0 a1 a2 s) := by
  unfold opPst
  extract_lets +onlyGivenNames u0 u1
  clear_value u0 u1
  refine actsR_ite actsR_abort ?_
  extract_lets +onlyGivenNames u2
  clear_value u2
  exact actsR_ok (acts_setEng h)
theorem acts_xchkResult {z s a1 a2 a3 a4 a5} (h : Acts z s) : Acts z (xchkResult s a1 a2 a3 a4 a5) := by
  unfold xchkResult
  split
  · exact h
  · exact acts_updEng h
theorem acts_sendCopy {z a0 a1 a2 a3 a4 a5 s a7} (h : Acts z s) : Acts z (sendCopy a0 a1 a2 a3 a4 a5 s a7) := by
  unfold sendCopy
  split
  · extract_lets +onlyGivenNames u0 u1
    clear_value u0 u1
    extract_lets +onlyGivenNames u2 u3
    clear_value u2 u3
    split
    · rename_i y4 y5 y6 y7
      have h8 := acts_of_snd y7 (acts_addFrm h _)
      split
      · exact acts_updEng h8
      · exact acts_ite (acts_offerMember h8) (acts_originate h8)
theorem acts_missDown {z s a1 a2} (h : Acts z s) : Acts z (missDown s a1 a2) := by
  unfold missDown
  extract_lets +onlyGivenNames u0
  clear_value u0
  exact acts_ite (acts_foldl h (fun x1 x2 h3 => acts_noteMissed h3)) h
theorem acts_fileDissent {z s a1 a2 a3 a4} (h : Acts z s) : Acts z (fileDissent s a1 a2 a3 a4) := by
  unfold fileDissent
  extract_lets +onlyGivenNames u0
  clear_value u0
  extract_lets +onlyGivenNames u1
  exact acts_fileRec h
theorem acts_sendFrame_dropUnchecked {z a0 a1 s a3} (h : Acts z s) : Acts z (sendFrame.dropUnchecked a0 a1 s a3) := by
  unfold sendFrame.dropUnchecked
  split
  · exact acts_ite h (acts_dropHeld h)
  · exact h
theorem acts_sendFrame {z s a1 a2 a3 a4 a5 a6 a7 a8} (h : Acts z s) : Acts z (sendFrame s a1 a2 a3 a4 a5 a6 a7 a8) := by
  unfold sendFrame
  extract_lets +onlyGivenNames u0 u1
  clear_value u0 u1
  extract_lets +onlyGivenNames u2 u3
  clear_value u2 u3
  extract_lets +onlyGivenNames u4
  have h5 : Acts z u4 := by
    unfold u4
    split
    · exact acts_xchkResult h
    · exact h
  clear_value u4
  extract_lets +onlyGivenNames u6
  clear_value u6
  extract_lets +onlyGivenNames u7
  have h8 : Acts z u7 := acts_pmc (acts_engCount (acts_missDown h5))
  clear_value u7
  extract_lets +onlyGivenNames u9
  have h10 : Acts z u9 := acts_ite (acts_knotCount h8) h8
  clear_value u9
  extract_lets +onlyGivenNames u11
  have h12 : Acts z u11 := acts_sendFrame_dropUnchecked (acts_foldl h10 (fun x13 x14 h15 => acts_sendCopy h15))
  clear_value u11
  exact acts_ite (acts_fileDissent h12) (acts_ite (acts_updKnot h12) h12)
theorem acts_opPsend {z a0 a1 a2 s} (h : Acts z s) : ActsR z (opPsend a0 a1 a2 s) := by
  unfold opPsend
  extract_lets +onlyGivenNames u0
  clear_value u0
  split
  · exact actsR_ok h
  · extract_lets +onlyGivenNames u1 u2
    clear_value u1 u2
    extract_lets +onlyGivenNames u3 u4 u5
    clear_value u3 u4 u5
    refine actsR_ite actsR_abort (actsR_ite actsR_abort (actsR_ite actsR_abort ?_))
    extract_lets +onlyGivenNames u6
    clear_value u6
    refine actsR_ite actsR_abort (actsR_ite (actsR_ok (acts_knotCount h)) ?_)
    extract_lets +onlyGivenNames u7
    clear_value u7
    refine actsR_ite ?_ (actsR_ok (acts_sendFrame h))
    split
    · exact actsR_abort
    · exact actsR_ite (actsR_ok (acts_sendFrame h)) actsR_abort
theorem acts_opPret {z a0 a1 a2 s} (h : Acts z s) : ActsR z (opPret a0 a1 a2 s) := by
  unfold opPret
  extract_lets +onlyGivenNames u0
  clear_value u0
  split
  · refine actsR_ite actsR_abort ?_
    extract_lets +onlyGivenNames u1 u2
    clear_value u1 u2
    exact actsR_ok (acts_setEng h)
  · exact actsR_ok h
theorem acts_opPacq {z a0 a1 a2 s} (h : Acts z s) : ActsR z (opPacq a0 a1 a2 s) := by
  unfold opPacq
  extract_lets +onlyGivenNames u0
  clear_value u0
  split
  · exact actsR_abort
  · exact actsR_ok (acts_setEng h)
theorem acts_opPrel {z a0 a1 a2 s} (h : Acts z s) : ActsR z (opPrel a0 a1 a2 s) := by
  unfold opPrel
  extract_lets +onlyGivenNames u0
  clear_value u0
  split
  · exact actsR_abort
  · extract_lets +onlyGivenNames u1 u2
    clear_value u1 u2
    exact actsR_ok (acts_setEng h)
theorem acts_issueHold {z s a1 a2 a3 a4 a5 a6} (h : Acts z s) : Acts z (issueHold s a1 a2 a3 a4 a5 a6) := by
  unfold issueHold
  extract_lets +onlyGivenNames u0 u1 u2
  clear_value u0 u1 u2
  exact acts_mk h
theorem acts_opHget {z a0 a1 a2 s} (h : Acts z s) : ActsR z (opHget a0 a1 a2 s) := by
  unfold opHget
  extract_lets +onlyGivenNames u0 u1
  clear_value u0 u1
  exact actsR_ite actsR_abort (actsR_ok (acts_issueHold h))
theorem acts_opHput {z a0 a1 a2 s} (h : Acts z s) : ActsR z (opHput a0 a1 a2 s) := by
  unfold opHput
  extract_lets +onlyGivenNames u0 u1
  clear_value u0 u1
  exact actsR_ite actsR_abort (actsR_ok (acts_issueHold h))
theorem acts_opHunlk {z a0 a1 a2 s} (h : Acts z s) : ActsR z (opHunlk a0 a1 a2 s) := by
  unfold opHunlk
  exact actsR_ok (acts_issueHold h)
theorem acts_opPldw {z a0 a1 a2 s} (h : Acts z s) : ActsR z (opPldw a0 a1 a2 s) := by
  unfold opPldw
  with_reducible exact actsR_ite actsR_abort (actsR_ok (acts_setEng h))

/-! ## VecOps -/

theorem acts_opMld {z a0 a1 a2 s} (h : Acts z s) : ActsR z (opMld a0 a1 a2 s) := by
  unfold opMld
  split
  · exact actsR_abort
  · exact actsR_ok (acts_updEng h)
theorem acts_opMst {z a0 a1 a2 s} (h : Acts z s) : ActsR z (opMst a0 a1 a2 s) := by
  unfold opMst
  split
  · exact actsR_abort
  · exact actsR_ok (acts_updEng h)
theorem acts_opMldx {z a0 a1 a2 s} (h : Acts z s) : ActsR z (opMldx a0 a1 a2 s) := by
  unfold opMldx
  split
  · exact actsR_abort
  · exact actsR_ok (acts_updEng h)
theorem acts_opMstx {z a0 a1 a2 s} (h : Acts z s) : ActsR z (opMstx a0 a1 a2 s) := by
  unfold opMstx
  split
  · exact actsR_abort
  · exact actsR_ok (acts_updEng h)
theorem acts_putV {z a0 a1 a2 a3 a4 a5 a6 s} (h : Acts z s) : Acts z (putV a0 a1 a2 a3 a4 a5 a6 s) := by
  unfold putV
  exact acts_updEng h
theorem acts_vecOp {z a0 a1 a2 a3 a4 s} (h : Acts z s) : ActsR z (vecOp a0 a1 a2 a3 a4 s) := by
  unfold vecOp
  exact actsR_ok (acts_putV h)
theorem acts_laneOp {z a0 a1 a2 a3 s} (h : Acts z s) : ActsR z (laneOp a0 a1 a2 a3 s) := by
  unfold laneOp
  exact acts_vecOp h
theorem acts_opVadd {z a0 a1 a2 s} (h : Acts z s) : ActsR z (opVadd a0 a1 a2 s) := by
  unfold opVadd
  exact acts_laneOp h
theorem acts_opVsub {z a0 a1 a2 s} (h : Acts z s) : ActsR z (opVsub a0 a1 a2 s) := by
  unfold opVsub
  exact acts_laneOp h
theorem acts_opVmul {z a0 a1 a2 s} (h : Acts z s) : ActsR z (opVmul a0 a1 a2 s) := by
  unfold opVmul
  exact acts_laneOp h
theorem acts_opVmin {z a0 a1 a2 s} (h : Acts z s) : ActsR z (opVmin a0 a1 a2 s) := by
  unfold opVmin
  exact acts_laneOp h
theorem acts_opVmax {z a0 a1 a2 s} (h : Acts z s) : ActsR z (opVmax a0 a1 a2 s) := by
  unfold opVmax
  exact acts_laneOp h
theorem acts_opVfma {z a0 a1 a2 s} (h : Acts z s) : ActsR z (opVfma a0 a1 a2 s) := by
  unfold opVfma
  exact acts_vecOp h
theorem acts_opVand {z a0 a1 a2 s} (h : Acts z s) : ActsR z (opVand a0 a1 a2 s) := by
  unfold opVand
  exact acts_vecOp h
theorem acts_opVor {z a0 a1 a2 s} (h : Acts z s) : ActsR z (opVor a0 a1 a2 s) := by
  unfold opVor
  exact acts_vecOp h
theorem acts_opVxor {z a0 a1 a2 s} (h : Acts z s) : ActsR z (opVxor a0 a1 a2 s) := by
  unfold opVxor
  exact acts_vecOp h
theorem acts_shiftOp {z a0 a1 a2 a3 s} (h : Acts z s) : ActsR z (shiftOp a0 a1 a2 a3 s) := by
  unfold shiftOp
  exact acts_vecOp h
theorem acts_opVshl {z a0 a1 a2 s} (h : Acts z s) : ActsR z (opVshl a0 a1 a2 s) := by
  unfold opVshl
  exact acts_shiftOp h
theorem acts_opVshr {z a0 a1 a2 s} (h : Acts z s) : ActsR z (opVshr a0 a1 a2 s) := by
  unfold opVshr
  exact acts_shiftOp h
theorem acts_opVsra {z a0 a1 a2 s} (h : Acts z s) : ActsR z (opVsra a0 a1 a2 s) := by
  unfold opVsra
  exact acts_shiftOp h
theorem acts_opVcmp {z a0 a1 a2 s} (h : Acts z s) : ActsR z (opVcmp a0 a1 a2 s) := by
  unfold opVcmp
  extract_lets +onlyGivenNames u0 u1 u2
  clear_value u0 u1 u2
  exact actsR_ok (acts_updEng h)
theorem acts_opVsel {z a0 a1 a2 s} (h : Acts z s) : ActsR z (opVsel a0 a1 a2 s) := by
  unfold opVsel
  exact acts_vecOp h
theorem acts_opVbcast {z a0 a1 a2 s} (h : Acts z s) : ActsR z (opVbcast a0 a1 a2 s) := by
  unfold opVbcast
  exact acts_vecOp h
theorem acts_opVshuf {z a0 a1 a2 s} (h : Acts z s) : ActsR z (opVshuf a0 a1 a2 s) := by
  unfold opVshuf
  exact acts_vecOp h
theorem acts_opVhred {z a0 a1 a2 s} (h : Acts z s) : ActsR z (opVhred a0 a1 a2 s) := by
  unfold opVhred
  exact acts_vecOp h
theorem acts_fp32Op {z a0 a1 a2 a3 s} (h : Acts z s) : ActsR z (fp32Op a0 a1 a2 a3 s) := by
  unfold fp32Op
  exact acts_vecOp h
theorem acts_opVrcp {z a0 a1 a2 s} (h : Acts z s) : ActsR z (opVrcp a0 a1 a2 s) := by
  unfold opVrcp
  exact acts_fp32Op h
theorem acts_opVrsqrt {z a0 a1 a2 s} (h : Acts z s) : ActsR z (opVrsqrt a0 a1 a2 s) := by
  unfold opVrsqrt
  exact acts_fp32Op h
theorem acts_opVcvt {z a0 a1 a2 s} (h : Acts z s) : ActsR z (opVcvt a0 a1 a2 s) := by
  unfold opVcvt
  extract_lets +onlyGivenNames u0
  clear_value u0
  exact actsR_ok (acts_putV h)
theorem acts_opVexp {z a0 a1 a2 s} (h : Acts z s) : ActsR z (opVexp a0 a1 a2 s) := by
  unfold opVexp
  extract_lets +onlyGivenNames u0
  clear_value u0
  exact actsR_ok (acts_putV h)
theorem acts_opVmxunpk {z a0 a1 a2 s} (h : Acts z s) : ActsR z (opVmxunpk a0 a1 a2 s) := by
  unfold opVmxunpk
  extract_lets +onlyGivenNames u0 u1
  clear_value u0 u1
  extract_lets +onlyGivenNames u2
  have h3 : Acts z u2 := acts_putV h
  clear_value u2
  extract_lets +onlyGivenNames u4
  have h5 : Acts z u4 := acts_ite (acts_putV h3) h3
  clear_value u4
  exact actsR_ok (acts_putV h5)
theorem acts_opVmxpk {z a0 a1 a2 s} (h : Acts z s) : ActsR z (opVmxpk a0 a1 a2 s) := by
  unfold opVmxpk
  extract_lets +onlyGivenNames u0 u1
  clear_value u0 u1
  exact actsR_ok (acts_putV (acts_putV h))
theorem acts_opVins {z a0 a1 a2 s} (h : Acts z s) : ActsR z (opVins a0 a1 a2 s) := by
  unfold opVins
  exact acts_vecOp h

/-! ## Accum -/

theorem acts_countLines {z s a1 a2 a3} (h : Acts z s) : Acts z (countLines s a1 a2 a3) := by
  unfold countLines
  split
  · exact acts_pmc h
  · exact h
theorem acts_opAacc {z a0 a1 a2 s} (h : Acts z s) : ActsR z (opAacc a0 a1 a2 s) := by
  unfold opAacc
  split
  · exact actsR_abort
  · extract_lets +onlyGivenNames u0 u1
    clear_value u0 u1
    extract_lets +onlyGivenNames u2 u3
    clear_value u2 u3
    extract_lets +onlyGivenNames u4
    have h5 : Acts z u4 := acts_updEng h
    clear_value u4
    exact actsR_ok (acts_pmc (acts_countLines h5))
theorem acts_opAldw {z a0 a1 a2 s} (h : Acts z s) : ActsR z (opAldw a0 a1 a2 s) := by
  unfold opAldw
  split
  · exact actsR_abort
  · extract_lets +onlyGivenNames u0 u1 u2
    clear_value u0 u1 u2
    exact actsR_ok (acts_countLines (acts_updEng h))
theorem acts_opAstw {z a0 a1 a2 s} (h : Acts z s) : ActsR z (opAstw a0 a1 a2 s) := by
  unfold opAstw
  split
  · exact actsR_abort
  · extract_lets +onlyGivenNames u0 u1 u2
    clear_value u0 u1 u2
    exact actsR_ok (acts_countLines (acts_updEng h))
theorem acts_opAclr {z a0 a1 a2 s} (h : Acts z s) : ActsR z (opAclr a0 a1 a2 s) := by
  unfold opAclr
  extract_lets +onlyGivenNames u0
  clear_value u0
  split
  · exact actsR_abort
  · extract_lets +onlyGivenNames u1 u2 u3
    clear_value u1 u2 u3
    exact actsR_ok (acts_countLines (acts_updEng h))
theorem acts_opAres {z a0 a1 a2 s} (h : Acts z s) : ActsR z (opAres a0 a1 a2 s) := by
  unfold opAres
  extract_lets +onlyGivenNames u0
  clear_value u0
  split
  · exact actsR_abort
  · extract_lets +onlyGivenNames u1 u2
    clear_value u1 u2
    exact actsR_ok (acts_countLines (acts_updEng h))
theorem acts_opAaddw {z a0 a1 a2 s} (h : Acts z s) : ActsR z (opAaddw a0 a1 a2 s) := by
  unfold opAaddw
  split
  · exact actsR_abort
  · extract_lets +onlyGivenNames u0 u1
    clear_value u0 u1
    extract_lets +onlyGivenNames u2 u3
    clear_value u2 u3
    extract_lets +onlyGivenNames u4
    have h5 : Acts z u4 := acts_updEng h
    clear_value u4
    exact actsR_ok (acts_pmc (acts_countLines h5))
theorem acts_opArnd {z a0 a1 a2 s} (h : Acts z s) : ActsR z (opArnd a0 a1 a2 s) := by
  unfold opArnd
  extract_lets +onlyGivenNames u0 u1
  clear_value u0 u1
  split
  · exact actsR_abort
  · extract_lets +onlyGivenNames u2 u3
    clear_value u2 u3
    extract_lets +onlyGivenNames u4 u5 u6
    clear_value u4 u5 u6
    extract_lets +onlyGivenNames u7
    have h8 : Acts z u7 := acts_updEng h
    clear_value u7
    exact actsR_ok (acts_countLines h8)
theorem acts_opSmrg {z a0 a1 a2 s} (h : Acts z s) : ActsR z (opSmrg a0 a1 a2 s) := by
  unfold opSmrg
  extract_lets +onlyGivenNames u0 u1 u2
  clear_value u0 u1 u2
  exact actsR_ok (acts_updEng h)
theorem acts_opSsort {z a0 a1 a2 s} (h : Acts z s) : ActsR z (opSsort a0 a1 a2 s) := by
  unfold opSsort
  extract_lets +onlyGivenNames u0
  clear_value u0
  exact actsR_ok (acts_updEng h)
theorem acts_opSfind {z a0 a1 a2 s} (h : Acts z s) : ActsR z (opSfind a0 a1 a2 s) := by
  unfold opSfind
  extract_lets +onlyGivenNames u0
  clear_value u0
  exact actsR_ok (acts_updEng h)

/-! ## Scalar -/

theorem acts_putC {z a0 a1 a2 a3 s} (h : Acts z s) : Acts z (putC a0 a1 a2 a3 s) := by
  unfold putC
  exact acts_updEng h
theorem acts_xOp {z a0 a1 a2 a3 s} (h : Acts z s) : ActsR z (xOp a0 a1 a2 a3 s) := by
  unfold xOp
  extract_lets +onlyGivenNames u0
  clear_value u0
  exact actsR_ok (acts_putC h)
theorem acts_opAdd {z a0 a1 a2 s} (h : Acts z s) : ActsR z (opAdd a0 a1 a2 s) := by
  unfold opAdd
  exact acts_xOp h
theorem acts_opSub {z a0 a1 a2 s} (h : Acts z s) : ActsR z (opSub a0 a1 a2 s) := by
  unfold opSub
  exact acts_xOp h
theorem acts_opAnd {z a0 a1 a2 s} (h : Acts z s) : ActsR z (opAnd a0 a1 a2 s) := by
  unfold opAnd
  exact acts_xOp h
theorem acts_opOr {z a0 a1 a2 s} (h : Acts z s) : ActsR z (opOr a0 a1 a2 s) := by
  unfold opOr
  exact acts_xOp h
theorem acts_opXor {z a0 a1 a2 s} (h : Acts z s) : ActsR z (opXor a0 a1 a2 s) := by
  unfold opXor
  exact acts_xOp h
theorem acts_opShl {z a0 a1 a2 s} (h : Acts z s) : ActsR z (opShl a0 a1 a2 s) := by
  unfold opShl
  exact acts_xOp h
theorem acts_opShr {z a0 a1 a2 s} (h : Acts z s) : ActsR z (opShr a0 a1 a2 s) := by
  unfold opShr
  exact acts_xOp h
theorem acts_opSra {z a0 a1 a2 s} (h : Acts z s) : ActsR z (opSra a0 a1 a2 s) := by
  unfold opSra
  exact acts_xOp h
theorem acts_opMul {z a0 a1 a2 s} (h : Acts z s) : ActsR z (opMul a0 a1 a2 s) := by
  unfold opMul
  exact acts_xOp h
theorem acts_opAddi {z a0 a1 a2 s} (h : Acts z s) : ActsR z (opAddi a0 a1 a2 s) := by
  unfold opAddi
  exact acts_xOp h
theorem acts_opLi {z a0 a1 a2 s} (h : Acts z s) : ActsR z (opLi a0 a1 a2 s) := by
  unfold opLi
  exact acts_xOp h
theorem acts_opAddm {z a0 a1 a2 s} (h : Acts z s) : ActsR z (opAddm a0 a1 a2 s) := by
  unfold opAddm
  exact acts_xOp h
theorem acts_opExt {z a0 a1 a2 s} (h : Acts z s) : ActsR z (opExt a0 a1 a2 s) := by
  unfold opExt
  exact acts_xOp h
theorem acts_opCmp {z a0 a1 a2 s} (h : Acts z s) : ActsR z (opCmp a0 a1 a2 s) := by
  unfold opCmp
  extract_lets +onlyGivenNames u0
  clear_value u0
  exact actsR_ok (acts_putC h)
theorem acts_opCmpi {z a0 a1 a2 s} (h : Acts z s) : ActsR z (opCmpi a0 a1 a2 s) := by
  unfold opCmpi
  exact actsR_ok (acts_putC h)
theorem acts_opVx {z a0 a1 a2 s} (h : Acts z s) : ActsR z (opVx a0 a1 a2 s) := by
  unfold opVx
  exact actsR_ok (acts_putC h)
theorem acts_opPmov {z a0 a1 a2 s} (h : Acts z s) : ActsR z (opPmov a0 a1 a2 s) := by
  unfold opPmov
  exact actsR_ok (acts_putC h)
theorem acts_opXp {z a0 a1 a2 s} (h : Acts z s) : ActsR z (opXp a0 a1 a2 s) := by
  unfold opXp
  exact actsR_ok (acts_putC h)
theorem acts_opPlog {z a0 a1 a2 s} (h : Acts z s) : ActsR z (opPlog a0 a1 a2 s) := by
  unfold opPlog
  extract_lets +onlyGivenNames u0 u1 u2
  clear_value u0 u1 u2
  exact actsR_ok (acts_putC h)
theorem acts_takeBranch {z a0 a1 s} (h : Acts z s) : ActsR z (takeBranch a0 a1 s) := by
  unfold takeBranch
  exact actsR_ite actsR_abort (actsR_ok (acts_pmc (acts_updEng h)))
theorem acts_opBr {z a0 a1 a2 s} (h : Acts z s) : ActsR z (opBr a0 a1 a2 s) := by
  unfold opBr
  exact acts_takeBranch h
theorem acts_opJal {z a0 a1 a2 s} (h : Acts z s) : ActsR z (opJal a0 a1 a2 s) := by
  unfold opJal
  exact acts_takeBranch (acts_putC h)
theorem acts_opJr {z a0 a1 a2 s} (h : Acts z s) : ActsR z (opJr a0 a1 a2 s) := by
  unfold opJr
  exact acts_takeBranch h
theorem acts_opEnd {z a0 a1 a2 s} (h : Acts z s) : ActsR z (opEnd a0 a1 a2 s) := by
  unfold opEnd
  exact actsR_ok (acts_updEng h)
theorem acts_writeRec {z s a1 a2} (h : Acts z s) : Acts z (writeRec s a1 a2) := by
  unfold writeRec
  extract_lets +onlyGivenNames u0
  clear_value u0
  exact acts_updEng h
theorem acts_xchkDrop {z s a1 a2 a3 a4} (h : Acts z s) : Acts z (xchkDrop s a1 a2 a3 a4) := by
  unfold xchkDrop
  split
  · exact acts_xchkAbandon h
  · exact h
theorem acts_xchkCopy {z s a1 a2 a3} (h : Acts z s) : Acts z (xchkCopy s a1 a2 a3) := by
  unfold xchkCopy
  split
  · exact h
  · split
    · extract_lets +onlyGivenNames u0
      clear_value u0
      refine acts_ite (acts_xchkAbandon h) ?_
      extract_lets +onlyGivenNames u1
      clear_value u1
      exact acts_updEng h
    · exact h
theorem acts_opKarr {z a0 a1 a2 s} (h : Acts z s) : ActsR z (opKarr a0 a1 a2 s) := by
  unfold opKarr
  extract_lets +onlyGivenNames u0 u1
  clear_value u0 u1
  split
  · exact actsR_ok h
  · refine actsR_ite actsR_abort ?_
    split
    · exact actsR_abort
    · extract_lets +onlyGivenNames u2 u3
      clear_value u2 u3
      extract_lets +onlyGivenNames u4 u5
      clear_value u4 u5
      refine actsR_ite (actsR_ok (acts_putC h)) (actsR_ite (actsR_ok (acts_putC h)) (actsR_ite (actsR_ok (acts_putC h)) ?_))
      extract_lets +onlyGivenNames u6
      clear_value u6
      extract_lets +onlyGivenNames u7
      have h8 : Acts z u7 := acts_writeRec h
      clear_value u7
      extract_lets +onlyGivenNames u9
      have h10 : Acts z u9 := acts_updEng h8
      clear_value u9
      exact actsR_ok (acts_putC (acts_xchkCopy h10))
theorem acts_opKcsum {z a0 a1 a2 s} (h : Acts z s) : ActsR z (opKcsum a0 a1 a2 s) := by
  unfold opKcsum
  extract_lets +onlyGivenNames u0
  clear_value u0
  split
  · exact actsR_abort
  · extract_lets +onlyGivenNames u1
    clear_value u1
    exact actsR_ok (acts_writeRec h)
theorem acts_segFailed {z s a1 a2 a3 a4} (h : Acts z s) : Acts z (segFailed s a1 a2 a3 a4) := by
  unfold segFailed
  exact acts_knotCount (acts_xchkDrop h)
theorem acts_opKseal {z a0 a1 a2 s} (h : Acts z s) : ActsR z (opKseal a0 a1 a2 s) := by
  unfold opKseal
  extract_lets +onlyGivenNames u0 u1
  clear_value u0 u1
  split
  · split
    · exact actsR_abort
    · refine actsR_ite (actsR_ok (acts_putC h)) ?_
      extract_lets +onlyGivenNames u2
      clear_value u2
      extract_lets +onlyGivenNames u3
      have h4 : Acts z u3 := acts_writeRec h
      clear_value u3
      extract_lets +onlyGivenNames u5
      have h6 : Acts z u5 := acts_knotCount h4
      clear_value u5
      extract_lets +onlyGivenNames u7
      have h8 : Acts z u7 := by
        unfold u7
        refine acts_ite ?_ (acts_segFailed h4)
        split
        · exact acts_updEng h6
        · exact h6
      clear_value u7
      exact actsR_ok (acts_putC h8)
theorem acts_opKfail {z a0 a1 a2 s} (h : Acts z s) : ActsR z (opKfail a0 a1 a2 s) := by
  unfold opKfail
  extract_lets +onlyGivenNames u0 u1
  clear_value u0 u1
  split
  · extract_lets +onlyGivenNames u2
    clear_value u2
    refine actsR_ite actsR_abort ?_
    split
    · exact actsR_abort
    · exact actsR_ok (acts_segFailed (acts_writeRec h))
theorem acts_opKfree {z a0 a1 a2 s} (h : Acts z s) : ActsR z (opKfree a0 a1 a2 s) := by
  unfold opKfree
  extract_lets +onlyGivenNames u0
  clear_value u0
  split
  · exact actsR_abort
  · exact actsR_ok (acts_updEng h)
theorem acts_opKrd {z a0 a1 a2 s} (h : Acts z s) : ActsR z (opKrd a0 a1 a2 s) := by
  unfold opKrd
  split
  · exact actsR_abort
  · exact actsR_ok (acts_putC h)
theorem acts_setAnchor {z s a1 a2} (h : Acts z s) : Acts z (setAnchor s a1 a2) := by
  unfold setAnchor
  exact acts_updKnot h
theorem acts_opKwr {z a0 a1 a2 s} (h : Acts z s) : ActsR z (opKwr a0 a1 a2 s) := by
  unfold opKwr
  extract_lets +onlyGivenNames u0 u1 u2
  clear_value u0 u1 u2
  exact actsR_ite (actsR_ok (acts_setAnchor h)) (actsR_ite (actsR_ok (acts_updKnot h)) actsR_abort)
theorem acts_opKtimer {z a0 a1 a2 s} (h : Acts z s) : ActsR z (opKtimer a0 a1 a2 s) := by
  unfold opKtimer
  extract_lets +onlyGivenNames u0 u1
  clear_value u0 u1
  exact actsR_ok (acts_updKnot h)
theorem acts_opSanc {z a0 a1 a2 s} (h : Acts z s) : ActsR z (opSanc a0 a1 a2 s) := by
  unfold opSanc
  exact actsR_ok (acts_updEng h)
theorem acts_opAstat {z a0 a1 a2 s} (h : Acts z s) : ActsR z (opAstat a0 a1 a2 s) := by
  unfold opAstat
  exact actsR_ok (acts_putC (acts_updEng h))
theorem acts_opRdres {z a0 a1 a2 s} (h : Acts z s) : ActsR z (opRdres a0 a1 a2 s) := by
  unfold opRdres
  exact actsR_ok (acts_putC (acts_updEng h))
theorem acts_opWait {z a0 a1 a2 s} (h : Acts z s) : ActsR z (opWait a0 a1 a2 s) := by
  unfold opWait
  exact actsR_ok h
theorem acts_opHstat {z a0 a1 a2 s} (h : Acts z s) : ActsR z (opHstat a0 a1 a2 s) := by
  unfold opHstat
  exact actsR_ok (acts_putC h)
theorem acts_opRdcyc {z a0 a1 a2 s} (h : Acts z s) : ActsR z (opRdcyc a0 a1 a2 s) := by
  unfold opRdcyc
  exact actsR_ok (acts_putC h)
theorem acts_opRdtime {z a0 a1 a2 s} (h : Acts z s) : ActsR z (opRdtime a0 a1 a2 s) := by
  unfold opRdtime
  exact actsR_ok (acts_putC h)

/-! ## EngineCtl -/

theorem acts_wakeAsk {z s a1} (h : Acts z s) : Acts z (wakeAsk s a1) := by
  unfold wakeAsk
  exact acts_ite (acts_updEng h) h
theorem acts_hwOutside {z s a1 a2} (h : Acts z s) : Acts z (hwOutside s a1 a2) := by
  unfold hwOutside
  split
  · exact acts_eccCorrected h
  · extract_lets +onlyGivenNames u0
    clear_value u0
    extract_lets +onlyGivenNames u1
    have h2 : Acts z u1 := acts_fileEngine h
    clear_value u1
    extract_lets +onlyGivenNames u3
    clear_value u3
    exact acts_ite h2 (acts_ite (acts_abortDispatch h2) (acts_enterFault (acts_noteFault h2)))
  · exact h
theorem acts_dropBadStaging {z s a1} (h : Acts z s) : Acts z (dropBadStaging s a1) := by
  unfold dropBadStaging
  exact acts_fileEngine (acts_engCount h)
theorem acts_receiveFrame {z s a1 a2 a3} (h : Acts z s) : Acts z (receiveFrame s a1 a2 a3) := by
  unfold receiveFrame
  extract_lets +onlyGivenNames u0 u1
  clear_value u0 u1
  extract_lets +onlyGivenNames u2
  have h3 : Acts z u2 := acts_updEng h
  clear_value u2
  exact acts_pmc (acts_engCount (acts_wakeAsk (acts_discardFrame h3)))
theorem acts_doEngineFrameArrive {z a0 a1 s} (h : Acts z s) : Acts z (doEngineFrameArrive a0 a1 s) := by
  unfold doEngineFrameArrive
  split
  · exact h
  · extract_lets +onlyGivenNames u0
    clear_value u0
    extract_lets +onlyGivenNames u1
    have h2 : Acts z u1 := acts_updEng h
    clear_value u1
    refine acts_ite (acts_discardFrame (acts_engCount h2)) (acts_ite (acts_discardFrame (acts_dropBadStaging h2)) ?_)
    extract_lets +onlyGivenNames u3
    clear_value u3
    split
    · exact h
    · split
      · rename_i y4 y5 y6 y7
        have h8 := acts_of_snd y7 (acts_drawFree h _)
        exact acts_receiveFrame h8
theorem acts_beginDispatch {z s a1 a2 a3} (h : Acts z s) : Acts z (beginDispatch s a1 a2 a3) := by
  unfold beginDispatch
  extract_lets +onlyGivenNames u0 u1
  clear_value u0 u1
  extract_lets +onlyGivenNames u2 u3 u4
  clear_value u2 u3 u4
  extract_lets +onlyGivenNames u5
  have h6 : Acts z u5 := acts_setEng h
  clear_value u5
  extract_lets +onlyGivenNames u7 u8
  clear_value u7 u8
  extract_lets +onlyGivenNames u9
  have h10 : Acts z u9 := acts_ite (acts_mk h6) h6
  clear_value u9
  extract_lets +onlyGivenNames u11
  clear_value u11
  exact acts_pmc (acts_setF (acts_setF (acts_setEngState h10) _ _ _) _ _ _)
theorem acts_beginControl {z s a1 a2 a3 a4} (h : Acts z s) : Acts z (beginControl s a1 a2 a3 a4) := by
  unfold beginControl
  exact acts_beginDispatch h
theorem acts_beginTimer {z s a1 a2} (h : Acts z s) : Acts z (beginTimer s a1 a2) := by
  unfold beginTimer
  split
  · rename_i y0 y1 y2 y3
    have h4 := acts_of_snd y3 (acts_drawFree h _)
    split
    · rename_i y5 y6 y7 y8
      have h9 := acts_of_snd y8 (acts_drawFree h4 _)
      extract_lets +onlyGivenNames u10
      clear_value u10
      exact acts_beginDispatch h9
theorem acts_beginFrame {z s a1 a2} (h : Acts z s) : Acts z (beginFrame s a1 a2) := by
  unfold beginFrame
  split
  · rename_i y0 y1 y2 y3
    have h4 := acts_of_snd y3 (by
        split
        · exact acts_drawFree h _
        · exact h
      )
    exact acts_beginDispatch h4
theorem acts_doEngineDispatch {z a0 a1 s} (h : Acts z s) : Acts z (doEngineDispatch a0 a1 s) := by
  unfold doEngineDispatch
  extract_lets +onlyGivenNames u0
  clear_value u0
  refine acts_ite h ?_
  split
  · exact acts_beginControl (acts_setEng h)
  · exact acts_beginTimer (acts_setEng h)
  · split
    · exact acts_setEng h
    · exact acts_ite (acts_markIdle (acts_dropBadStaging (acts_setEng h))) (acts_beginFrame (acts_setEng h))
  · exact h
theorem acts_doDispatchEnd {z a0 s} (h : Acts z s) : Acts z (doDispatchEnd a0 s) := by
  unfold doDispatchEnd
  split
  · exact h
  · refine acts_ite h ?_
    extract_lets +onlyGivenNames u0
    have h1 : Acts z u0 := acts_updEng (acts_tagDrain h)
    clear_value u0
    exact acts_afterDispatch (acts_engCount (acts_endHold h1))
theorem acts_doDispatchBudget {z a0 s} (h : Acts z s) : Acts z (doDispatchBudget a0 s) := by
  unfold doDispatchBudget
  extract_lets +onlyGivenNames u0
  clear_value u0
  exact acts_ite (acts_abortDispatch h) h
theorem acts_doKnotTimerExpire {z a0 s} (h : Acts z s) : Acts z (doKnotTimerExpire a0 s) := by
  unfold doKnotTimerExpire
  extract_lets +onlyGivenNames u0
  clear_value u0
  split
  · exact h
  · exact acts_ite (acts_wakeAsk (acts_updEng (acts_setKnot h))) h
theorem acts_writeGateEn {z s a1 a2} (h : Acts z s) : Acts z (writeGateEn s a1 a2) := by
  unfold writeGateEn
  exact acts_setF h _ _ _
theorem acts_opRefused {z s a1} (h : Acts z s) : Acts z (opRefused s a1) := by
  unfold opRefused
  exact acts_engEvent h
theorem acts_enterHalted {z s a1} (h : Acts z s) : Acts z (enterHalted s a1) := by
  unfold enterHalted
  exact acts_engEvent (acts_setF (acts_setEngState h) _ _ _)
theorem acts_opEngineStart {z a0 s} (h : Acts z s) : Acts z (opEngineStart a0 s) := by
  unfold opEngineStart
  exact acts_ite (acts_setEngState h) (acts_opRefused h)
theorem acts_doStartCheckDone {z a0 s} (h : Acts z s) : Acts z (doStartCheckDone a0 s) := by
  unfold doStartCheckDone
  refine acts_ite h ?_
  extract_lets +onlyGivenNames u0
  clear_value u0
  extract_lets +onlyGivenNames u1
  have h2 : Acts z u1 := acts_setF h _ _ _
  clear_value u1
  extract_lets +onlyGivenNames u3
  have h4 : Acts z u3 := acts_ite (acts_markIdle (acts_setEngState h2)) (acts_enterHalted h2)
  clear_value u3
  exact acts_engEvent h4
theorem acts_opEngineHalt {z a0 s} (h : Acts z s) : Acts z (opEngineHalt a0 s) := by
  unfold opEngineHalt
  exact acts_ite (acts_opRefused h) (acts_ite (acts_enterHalted h) (acts_ite (acts_setEngState h) (acts_opRefused h)))
theorem acts_dropStaging {z s a1} (h : Acts z s) : Acts z (dropStaging s a1) := by
  unfold dropStaging
  extract_lets +onlyGivenNames u0
  have h1 : Acts z u0 := acts_foldl h (fun x2 x3 h4 => acts_engCount h4)
  clear_value u0
  extract_lets +onlyGivenNames u5
  clear_value u5
  extract_lets +onlyGivenNames u6
  have h7 : Acts z u6 := acts_foldl h1 (fun x8 x9 h10 => acts_recallFrame (acts_engCount h10))
  clear_value u6
  exact acts_updEng h7
theorem acts_clearTagBuf {z s a1} (h : Acts z s) : Acts z (clearTagBuf s a1) := by
  unfold clearTagBuf
  exact h.reset _
theorem acts_resetAborts {z s a1} (h : Acts z s) : Acts z (resetAborts s a1) := by
  unfold resetAborts
  split
  · exact h
  · extract_lets +onlyGivenNames u0
    clear_value u0
    exact acts_abortSteps (acts_mk h)
theorem acts_resetEngine {z s a1} (h : Acts z s) : Acts z (resetEngine s a1) := by
  unfold resetEngine
  extract_lets +onlyGivenNames u0
  have h1 : Acts z u0 := acts_xchkAbandon (acts_dropStaging (acts_orphanAll (acts_resetAborts h)))
  clear_value u0
  extract_lets +onlyGivenNames u2
  clear_value u2
  extract_lets +onlyGivenNames u3
  have h4 : Acts z u3 := acts_updEng h1
  clear_value u3
  extract_lets +onlyGivenNames u5
  clear_value u5
  exact acts_setF (acts_setF (acts_setEngState (acts_wr (acts_clearTagBuf h4) _ _)) _ _ _) _ _ _
theorem acts_resetEngineAll {z s a1} (h : Acts z s) : Acts z (resetEngineAll s a1) := by
  unfold resetEngineAll
  extract_lets u0 u1 u2 u3 u4
  have h0 : Acts z u0 := acts_resetEngine h
  have h3 : Acts z u3 := (h0.reset fun r => !u2 r.1).other rfl rfl rfl rfl rfl
  exact acts_setEngState (acts_updEng h3)
theorem acts_opEngineReset {z a0 s} (h : Acts z s) : Acts z (opEngineReset a0 s) := by
  unfold opEngineReset
  exact acts_ite (acts_opRefused h) (acts_resetEngine h)
theorem acts_doEngineLayoutWrite {z a0 a1 s} (h : Acts z s) : Acts z (doEngineLayoutWrite a0 a1 s) := by
  unfold doEngineLayoutWrite
  exact acts_ite (acts_setF h _ _ _) (acts_opRefused h)
theorem acts_doEngineGate {z a0 s} (h : Acts z s) : Acts z (doEngineGate a0 s) := by
  unfold doEngineGate
  exact acts_ite (acts_setBit h _ _) h
theorem acts_doEngineWake {z a0 s} (h : Acts z s) : Acts z (doEngineWake a0 s) := by
  unfold doEngineWake
  extract_lets +onlyGivenNames u0
  clear_value u0
  exact acts_ite (acts_pmc (acts_engCount (acts_updEng (acts_setF h _ _ _)))) h

/-! ## Knots -/

theorem acts_enterLoaded {z s a1 a2} (h : Acts z s) : Acts z (enterLoaded s a1 a2) := by
  unfold enterLoaded
  extract_lets +onlyGivenNames u0 u1
  clear_value u0 u1
  extract_lets +onlyGivenNames u2 u3
  clear_value u2 u3
  extract_lets +onlyGivenNames u4
  have h5 : Acts z u4 := acts_setKnot h
  clear_value u4
  exact acts_ite h5 (acts_wakeAsk (acts_updEng h5))
theorem acts_loadKnot {z s a1 a2} (h : Acts z s) : Acts z (loadKnot s a1 a2).2 := by
  unfold loadKnot
  split
  · exact h
  · extract_lets +onlyGivenNames u0
    clear_value u0
    exact acts_pair (acts_ite (acts_enterLoaded h) h)
theorem acts_finishKnotCmd {z s a1 a2 a3} (h : Acts z s) : Acts z (finishKnotCmd s a1 a2 a3) := by
  unfold finishKnotCmd
  extract_lets +onlyGivenNames u0 u1
  clear_value u0 u1
  exact acts_setEvent (acts_wr h _ _)
theorem acts_knotCmd {z a0 a1 a2 s} (ha2 : ∀ b0, Acts z b0 → Acts z (a2 b0)) (h : Acts z s) :
    Acts z (knotCmd a0 a1 a2 s) := by
  unfold knotCmd
  exact acts_ite h (ha2 _ (acts_setF h _ _ _))
theorem acts_opKnotLoad {z a0 a1 s} (h : Acts z s) : Acts z (opKnotLoad a0 a1 s) := by
  unfold opKnotLoad
  refine acts_knotCmd (fun x0 h1 => ?_) h
  split
  · rename_i y2 y3 y4 y5
    have h6 := acts_of_snd y5 (acts_loadKnot h1)
    exact acts_finishKnotCmd h6
theorem acts_opKnotUnload {z a0 a1 s} (h : Acts z s) : Acts z (opKnotUnload a0 a1 s) := by
  unfold opKnotUnload
  exact acts_knotCmd (fun x0 h1 => acts_ite (acts_finishKnotCmd (acts_setKnot h1)) (acts_finishKnotCmd h1)) h
theorem acts_opKnotRead {z a0 a1 s} (h : Acts z s) : Acts z (opKnotRead a0 a1 s) := by
  unfold opKnotRead
  refine acts_knotCmd (fun x0 h1 => ?_) h
  extract_lets +onlyGivenNames u2 u3
  clear_value u2 u3
  exact acts_finishKnotCmd (acts_foldl h1 (fun x4 x5 h6 => acts_wr h6 _ _))
theorem acts_opKnotAnchor {z a0 a1 s} (h : Acts z s) : Acts z (opKnotAnchor a0 a1 s) := by
  unfold opKnotAnchor
  exact acts_knotCmd (fun x0 h1 => acts_ite (acts_finishKnotCmd (acts_setAnchor h1)) (acts_finishKnotCmd h1)) h
theorem acts_dropKnotQueued {z s a1 a2} (h : Acts z s) : Acts z (dropKnotQueued s a1 a2) := by
  unfold dropKnotQueued
  extract_lets +onlyGivenNames u0
  clear_value u0
  extract_lets +onlyGivenNames u1
  extract_lets +onlyGivenNames u2 u3
  clear_value u2 u3
  extract_lets +onlyGivenNames u4
  have h5 : Acts z u4 := acts_setEng h
  clear_value u4
  exact acts_foldl h5 (fun x6 x7 h8 => acts_discardFrame h8)
theorem acts_xchkDropKnot {z s a1} (h : Acts z s) : Acts z (xchkDropKnot s a1) := by
  unfold xchkDropKnot
  refine acts_foldl h (fun x0 x1 h2 => ?_)
  split
  · exact acts_ite (acts_xchkAbandon h2) h2
  · exact h2
theorem acts_startFlush {z s a1 a2} (h : Acts z s) : Acts z (startFlush s a1 a2) := by
  unfold startFlush
  extract_lets +onlyGivenNames u0 u1
  clear_value u0 u1
  extract_lets +onlyGivenNames u2
  have h3 : Acts z u2 := acts_setKnot h
  clear_value u2
  refine acts_ite h3 ?_
  extract_lets +onlyGivenNames u4
  have h5 : Acts z u4 := acts_xchkDropKnot (acts_dropKnotQueued h3)
  clear_value u4
  exact acts_ite h5 (acts_wakeAsk (acts_updEng h5))
theorem acts_joinFlush {z s a1 a2} (h : Acts z s) : Acts z (joinFlush s a1 a2) := by
  unfold joinFlush
  exact acts_updKnot h
theorem acts_opKnotFlush {z a0 a1 s} (h : Acts z s) : Acts z (opKnotFlush a0 a1 s) := by
  unfold opKnotFlush
  refine acts_knotCmd (fun x0 h1 => ?_) h
  extract_lets +onlyGivenNames u2
  have h3 : Acts z u2 := acts_setBit h1 _ _
  clear_value u2
  split
  · exact acts_startFlush h3
  · exact acts_startFlush h3
  · exact acts_joinFlush h3
  · exact acts_finishKnotCmd h1
  · exact acts_finishKnotCmd h1
theorem acts_opKnotAdvance {z a0 a1 s} (h : Acts z s) : Acts z (opKnotAdvance a0 a1 s) := by
  unfold opKnotAdvance
  refine acts_knotCmd (fun x0 h1 => ?_) h
  split
  · exact acts_startFlush (acts_setBit h1 _ _)
  · exact acts_startFlush (acts_setBit h1 _ _)
  · exact acts_finishKnotCmd h1
theorem acts_doDrainMarker {z a0 a1 s} (h : Acts z s) : Acts z (doDrainMarker a0 a1 s) := by
  unfold doDrainMarker
  extract_lets +onlyGivenNames u0
  clear_value u0
  exact acts_ite (acts_setKnot h) h
theorem acts_dropArrived {z s a1 a2} (h : Acts z s) : Acts z (dropArrived s a1 a2) := by
  unfold dropArrived
  extract_lets +onlyGivenNames u0 u1
  clear_value u0 u1
  extract_lets +onlyGivenNames u2
  have h3 : Acts z u2 := acts_foldl (acts_updDie h _ _) (fun x4 x5 h6 => acts_discardFrame (acts_knotCount h6))
  clear_value u2
  exact acts_updEng h3
theorem acts_advanceReload {z s a1 a2} (h : Acts z s) : Acts z (advanceReload s a1 a2).2 := by
  unfold advanceReload
  extract_lets +onlyGivenNames u0
  clear_value u0
  split
  · split
    · split
      · rename_i y1 y2 y3 y4
        have h5 := acts_of_snd y4 (acts_drawFree h _)
        exact acts_pair (acts_statusToControl h5)
    · exact acts_loadKnot h
  · exact acts_loadKnot h
theorem acts_answerFlush {z a0 a1 s a3} (h : Acts z s) : Acts z (answerFlush a0 a1 s a3) := by
  unfold answerFlush
  extract_lets +onlyGivenNames u0
  clear_value u0
  exact acts_ite (acts_ite (acts_statusToControl h) h) (acts_finishKnotCmd h)
theorem acts_doFlushDone {z a0 s} (h : Acts z s) : Acts z (doFlushDone a0 s) := by
  unfold doFlushDone
  extract_lets +onlyGivenNames u0
  clear_value u0
  split
  · exact h
  · refine acts_ite h ?_
    extract_lets +onlyGivenNames u1
    clear_value u1
    extract_lets +onlyGivenNames u2
    have h3 : Acts z u2 := acts_dropArrived (acts_setKnot h)
    clear_value u2
    extract_lets +onlyGivenNames u4
    have h5 : Acts z u4 := acts_knotCount (acts_setEvent h3)
    clear_value u4
    split
    · rename_i y6 y7 y8 y9
      have h10 := acts_of_snd y9 (by
          split
          · exact acts_advanceReload h5
          · exact h5
        )
      exact acts_foldl h10 (fun x11 x12 h13 => acts_answerFlush h13)
theorem acts_cancelFlush {z s a1} (h : Acts z s) : Acts z (cancelFlush s a1) := by
  unfold cancelFlush
  exact acts_updKnot h
theorem acts_runInband {z s a1 a2} (h : Acts z s) : Acts z (runInband s a1 a2) := by
  unfold runInband
  extract_lets +onlyGivenNames u0
  clear_value u0
  refine acts_ite (acts_startFlush h) (acts_ite (acts_startFlush h) ?_)
  extract_lets +onlyGivenNames u1
  have h2 : Acts z u1 := acts_setAnchor h
  clear_value u1
  exact acts_ite (acts_statusToControl h2) h2
theorem acts_xchkClaim {z s a1 a2 a3} (h : Acts z s) : Acts z (xchkClaim s a1 a2 a3) := by
  unfold xchkClaim
  extract_lets +onlyGivenNames u0 u1
  clear_value u0 u1
  refine acts_ite h ?_
  split
  · exact acts_updEng h
  · exact acts_integCount (acts_updEng h)
theorem acts_doKnotFrameAdmit {z a0 s} (h : Acts z s) : Acts z (doKnotFrameAdmit a0 s) := by
  unfold doKnotFrameAdmit
  split
  · exact h
  · extract_lets +onlyGivenNames u0 u1
    clear_value u0 u1
    extract_lets +onlyGivenNames u2 u3
    clear_value u2 u3
    extract_lets +onlyGivenNames u4
    have h5 : Acts z u4 := acts_updDie h _ _
    clear_value u4
    extract_lets +onlyGivenNames u6
    clear_value u6
    split
    · exact acts_discardFrame (acts_knotCount h5)
    · exact acts_runInband (acts_discardFrame (acts_knotCount h5))
    · extract_lets +onlyGivenNames u7
      have h8 : Acts z u7 := acts_updFrm (acts_updKnot (acts_knotCount h5)) _ _
      clear_value u7
      refine acts_ite (acts_updDie h8 _ _) ?_
      extract_lets +onlyGivenNames u9
      have h10 : Acts z u9 := acts_updEng h8
      clear_value u9
      exact acts_ite (acts_xchkClaim h10) h10
theorem acts_doBroadcastStatus {z a0 s} (h : Acts z s) : Acts z (doBroadcastStatus a0 s) := by
  unfold doBroadcastStatus
  extract_lets +onlyGivenNames u0
  clear_value u0
  split
  · exact h
  · refine acts_ite h ?_
    extract_lets +onlyGivenNames u1
    have h2 : Acts z u1 := acts_setKnot h
    clear_value u1
    exact acts_ite h2 (acts_ite (acts_sendStatus h2) (acts_sendStatus h2))

/-! ## Xchk -/

theorem acts_doXchkAdd {z a0 a1 s} (h : Acts z s) : Acts z (doXchkAdd a0 a1 s) := by
  unfold doXchkAdd
  split
  · exact h
  · refine acts_ite (acts_xchkAbandon (acts_fileEngine h)) ?_
    split
    · exact h
    · extract_lets +onlyGivenNames u0 u1
      clear_value u0 u1
      exact acts_updEng h
theorem acts_fileXchk {z s a1 a2 a3 a4 a5 a6 a7 a8} (h : Acts z s) : Acts z (fileXchk s a1 a2 a3 a4 a5 a6 a7 a8) := by
  unfold fileXchk
  exact acts_fileRec h
theorem acts_releaseResults {z s a1 a2 a3} (h : Acts z s) : Acts z (releaseResults s a1 a2 a3) := by
  unfold releaseResults
  extract_lets +onlyGivenNames u0
  clear_value u0
  exact acts_foldl (acts_updEng h) (fun x1 x2 h3 => acts_ite (acts_offerMember h3) (acts_originate h3))
theorem acts_doXchkCompare {z a0 s} (h : Acts z s) : Acts z (doXchkCompare a0 s) := by
  unfold doXchkCompare
  split
  · exact h
  · split
    · exact h
    · extract_lets +onlyGivenNames u0
      clear_value u0
      refine acts_ite h ?_
      extract_lets +onlyGivenNames u1
      clear_value u1
      extract_lets +onlyGivenNames u2
      have h3 : Acts z u2 := acts_updEng (acts_updEng h)
      clear_value u2
      extract_lets +onlyGivenNames u4
      have h5 : ∀ w0, Acts z w0 → Acts z (u4 w0) := by
        unfold u4
        exact fun x6 h7 => acts_statusToControl h7
      clear_value u4
      refine acts_ite ?_ ?_
      · extract_lets +onlyGivenNames u8
        have h9 : Acts z u8 := acts_fileXchk (acts_integCount h3)
        clear_value u8
        exact acts_ite (h5 _ (acts_dropHeld h9)) h9
      · split
        · exact acts_releaseResults (acts_integCount h3)
        · extract_lets +onlyGivenNames u10
          have h11 : Acts z u10 := acts_fileXchk (acts_integCount h3)
          clear_value u10
          extract_lets +onlyGivenNames u12
          have h13 : Acts z u12 := acts_setEvent (h5 _ h11)
          clear_value u12
          exact acts_dropHeld h13
theorem acts_doXchkTimeout {z a0 s} (h : Acts z s) : Acts z (doXchkTimeout a0 s) := by
  unfold doXchkTimeout
  split
  · exact h
  · exact acts_ite (acts_xchkAbandon h) h

/-! ## Hold -/

theorem acts_takeLock {z s a1 a2 a3} (h : Acts z s) : Acts z (takeLock s a1 a2 a3) := by
  unfold takeLock
  exact acts_mk h
theorem acts_dropLock {z s a1 a2 a3} (h : Acts z s) : Acts z (dropLock s a1 a2 a3) := by
  unfold dropLock
  exact acts_mk h
theorem acts_unlockTxn {z s a1} (h : Acts z s) : Acts z (unlockTxn s a1) := by
  unfold unlockTxn
  split
  · rename_i y0 y1 y2 y3
    have h4 := acts_of_snd y3 (acts_drawCode h)
    extract_lets +onlyGivenNames u5
    have h6 : Acts z u5 := acts_discardStaged h4
    clear_value u5
    exact acts_updScatter h6
theorem acts_readRow {z s m key len mech} (h : Acts z s) : Acts z (readRow s m key len mech).s := by
  unfold readRow
  split
  · rename_i e
    exact acts_of_snd e (acts_lookupRow h)
  · rename_i e
    exact acts_of_snd e (acts_lookupRow h)
  · rename_i e
    have h1 := acts_of_snd e (acts_lookupRow h)
    extract_lets +onlyGivenNames u0
    clear_value u0
    split
    · rename_i e
      exact acts_of_snd e (acts_meetBad h1)
    · rename_i e
      exact acts_of_snd e (acts_meetBad h1)
theorem acts_writeRow {z s m key mech b} (h : Acts z s) : Acts z (writeRow s m key mech b).s := by
  unfold writeRow
  split
  · rename_i e
    exact acts_of_snd e (acts_lookupRow h)
  · rename_i e
    exact acts_holdWrite (acts_of_snd e (acts_lookupRow h))
  · rename_i e
    have h1 := acts_of_snd e (acts_lookupRow h)
    split
    · rename_i e
      exact acts_holdWrite (acts_of_snd e (acts_createRow h1))
    · rename_i e
      exact acts_of_snd e (acts_createRow h1)
theorem acts_stageRow {z s o m mech} (h : Acts z s) : Acts z (stageRow s o m mech).s := by
  unfold stageRow
  extract_lets +onlyGivenNames add
  have ha : ∀ t, Acts z t → Acts z (add t) := fun t h => acts_mk h
  clear_value add
  split
  · rename_i e
    exact acts_of_snd e (acts_lookupRow h)
  · rename_i e
    exact ha _ (acts_of_snd e (acts_lookupRow h))
  · rename_i e
    have h1 := acts_of_snd e (acts_lookupRow h)
    split
    · exact ha _ h1
    · split
      · rename_i e
        exact ha _ (acts_of_snd e (acts_createRow h1))
      · rename_i e
        exact acts_of_snd e (acts_createRow h1)
theorem acts_rowOp {z s o mech} (h : Acts z s) : Acts z (rowOp s o mech).s := by
  unfold rowOp
  extract_lets +onlyGivenNames m
  clear_value m
  split
  · exact h
  · split
    · exact h
    · split
      · exact h
      · split
        · exact acts_readRow h
        · have hr := acts_readRow (m := m) (key := o.key) (len := o.len) (mech := mech) h
          extract_lets +onlyGivenNames r
          split
          · exact acts_ite hr (acts_takeLock hr)
          · exact acts_dropLock hr
        · split
          · split
            · exact acts_stageRow h
            · exact h
          · exact acts_writeRow h
        · split
          · split
            · exact acts_stageRow h
            · exact h
          · have hr := acts_writeRow (m := m) (key := o.key) (mech := mech) (b := o.data) h
            extract_lets +onlyGivenNames r
            split
            · exact acts_dropLock hr
            · exact hr
        · split
          · exact h
          · split
            · exact acts_unlockTxn h
            · exact acts_dropLock h
theorem acts_completeOp {z s a1 a2} (hr : Acts z a2.s) : Acts z (completeOp s a1 a2) := by
  unfold completeOp
  extract_lets +onlyGivenNames u0 v0 u1 u2 u3 u4
  have h1 : Acts z u1 := acts_mk hr
  have h2 : Acts z u2 := by
    unfold u2
    split
    · exact acts_updEng h1
    · exact h1
  exact acts_updScatter (acts_count (acts_updEng h2) _)
theorem acts_setOp {z s a1 a2} (h : Acts z s) : Acts z (setOp s a1 a2) := by
  unfold setOp
  exact acts_mk h
theorem acts_waitOp {z s a1} (h : Acts z s) : Acts z (waitOp s a1) := by
  unfold waitOp
  extract_lets +onlyGivenNames u0 u1
  have h2 : Acts z u1 := acts_setOp (acts_count h _)
  clear_value u0 u1
  exact acts_mk h2
theorem acts_doHoldOpComplete {z a0 a1 a2 s} (h : Acts z s) : Acts z (doHoldOpComplete a0 a1 a2 s) := by
  unfold doHoldOpComplete
  extract_lets +onlyGivenNames u0
  have h1 : Acts z u0 := acts_holdUpset h
  clear_value u0
  split
  · exact h1
  · extract_lets +onlyGivenNames u2
    clear_value u2
    refine acts_ite h1 (acts_ite (acts_completeOp h1) 
      (acts_ite (acts_waitOp h1) (acts_completeOp (acts_rowOp h1))))
theorem acts_doHoldLockGrant {z a0 s} (h : Acts z s) : Acts z (doHoldLockGrant a0 s) := by
  unfold doHoldLockGrant
  split
  · exact h
  · extract_lets +onlyGivenNames u0 u1
    have h3 : Acts z u1 := acts_setOp h
    clear_value u0 u1
    exact acts_ite (acts_takeLock h3) h3
theorem acts_applyStaged {z s a1} (h : Acts z s) : Acts z (applyStaged s a1) := by
  unfold applyStaged
  extract_lets +onlyGivenNames u0
  clear_value u0
  split
  · rename_i y1 y2 y3 y4 y5
    have h6 := acts_of_snd y5 (acts_lookupPending h)
    exact acts_holdWrite (acts_putEntry h6)
  · rename_i y7 y8 y9 y10 y11
    have h12 := acts_of_snd y11 (acts_lookupPending h)
    split
    · rename_i y13 y14 y15 y16 y17
      have h18 := acts_of_snd y17 (acts_lookupRow h12)
      exact acts_holdWrite h18
    · rename_i y19 y20 y21 y22 y23
      have h24 := acts_of_snd y23 (acts_lookupRow h12)
      exact h24
theorem acts_doHoldTxnCommit {z a0 s} (h : Acts z s) : Acts z (doHoldTxnCommit a0 s) := by
  unfold doHoldTxnCommit
  split
  · exact h
  · refine acts_ite h ?_
    extract_lets +onlyGivenNames u0 u1
    clear_value u0 u1
    extract_lets +onlyGivenNames u2 u3
    clear_value u2 u3
    refine acts_ite ?_ ?_
    · extract_lets +onlyGivenNames u4
      have h5 : Acts z u4 := acts_discardStaged h
      clear_value u4
      exact acts_updScatter h5
    · extract_lets +onlyGivenNames u6
      have h7 : Acts z u6 := acts_foldl h (fun x8 x9 h10 => acts_applyStaged h10)
      clear_value u6
      extract_lets +onlyGivenNames u11
      have h12 : Acts z u11 := acts_foldl h7 (fun x13 x14 h15 => acts_count h15 _)
      clear_value u11
      extract_lets +onlyGivenNames u16
      clear_value u16
      extract_lets +onlyGivenNames u17
      have h18 : Acts z u17 := acts_mk h12
      clear_value u17
      exact acts_updScatter (acts_releaseLocks h18)
theorem acts_doScatterStatus {z a0 s} (h : Acts z s) : Acts z (doScatterStatus a0 s) := by
  unfold doScatterStatus
  split
  · exact h
  · extract_lets +onlyGivenNames u0
    clear_value u0
    extract_lets +onlyGivenNames u1
    have h2 : Acts z u1 := acts_mk h
    clear_value u1
    exact acts_ite (acts_sendStatus h2) h2
theorem acts_setGathers {z s a1 a2} (h : Acts z s) : Acts z (setGathers s a1 a2) := by
  unfold setGathers
  exact acts_mk h
theorem acts_doHoldGatherServe {z a0 s} (h : Acts z s) : Acts z (doHoldGatherServe a0 s) := by
  unfold doHoldGatherServe
  split
  · exact h
  · refine acts_ite h ?_
    extract_lets +onlyGivenNames u0 u1
    clear_value u0 u1
    extract_lets +onlyGivenNames u2
    have h3 : Acts z u2 := acts_updDie h _ _
    clear_value u2
    exact acts_setGathers (acts_discardFrame h3)
theorem acts_gatherRecord {z a0 a1 s a3 a4} (h : Acts z s) : Acts z (gatherRecord a0 a1 s a3 a4).2 := by
  unfold gatherRecord
  extract_lets +onlyGivenNames u0 u1
  clear_value u0 u1
  extract_lets +onlyGivenNames u2
  have h3 : Acts z u2 := acts_count h _
  clear_value u2
  extract_lets +onlyGivenNames u4
  split
  · exact acts_pair (acts_count h3 _)
  · split
    · exact acts_pair (acts_count h3 _)
    · split
      · rename_i y5 y6 y7
        have h8 := acts_of_snd y7 (acts_lookupRow h3)
        exact acts_pair (acts_count h8 _)
      · rename_i y9 y10 y11
        have h12 := acts_of_snd y11 (acts_lookupRow h3)
        exact acts_pair (acts_count h12 _)
      · rename_i y13 y14 y15 y16 y17
        have h18 := acts_of_snd y17 (acts_lookupRow h3)
        extract_lets +onlyGivenNames u19
        clear_value u19
        split
        · rename_i y20 y21 y22
          have h23 := acts_of_snd y22 (acts_meetBad h18)
          exact acts_pair (acts_count h23 _)
        · rename_i y24 y25 y26
          have h27 := acts_of_snd y26 (acts_meetBad h18)
          exact h27
theorem acts_setGather {z s a1 a2 a3} (h : Acts z s) : Acts z (setGather s a1 a2 a3) := by
  unfold setGather
  exact acts_setGathers h
theorem acts_waitGather {z s a1 a2 a3} (h : Acts z s) : Acts z (waitGather s a1 a2 a3) := by
  unfold waitGather
  extract_lets +onlyGivenNames u0 u1
  have h2 : Acts z u1 := acts_setGather (acts_ite h (acts_count h _))
  clear_value u0 u1
  exact acts_mk h2
theorem acts_doHoldGatherResponse {z a0 a1 a2 s} (h : Acts z s) : Acts z (doHoldGatherResponse a0 a1 a2 s) := by
  unfold doHoldGatherResponse
  extract_lets +onlyGivenNames u0
  have h1 : Acts z u0 := acts_holdUpset h
  clear_value u0
  split
  · exact h1
  · extract_lets +onlyGivenNames u2 u3
    clear_value u2 u3
    extract_lets +onlyGivenNames u4 u5 u6
    clear_value u4 u5 u6
    refine acts_ite h1 (acts_ite h1 ?_)
    split
    · exact acts_waitGather h1
    · split
      · rename_i y7 y8 y9 y10
        have h11 := acts_of_snd y10 (by
            refine acts_foldl_snd h1 (fun x12 x13 h14 => ?_)
            extract_lets +onlyGivenNames u15
            have h16 : Acts z u15.2 := acts_gatherRecord h14
            clear_value u15
            exact h16
          )
        extract_lets +onlyGivenNames u17 u18
        clear_value u17 u18
        split
        · rename_i y19 y20 y21 y22
          have h23 := acts_of_snd y22 (acts_addFrm h11 _)
          extract_lets +onlyGivenNames u24
          have h25 : Acts z u24 := acts_ite (acts_count (acts_setGathers h23) _) (acts_setGather h23)
          clear_value u24
          exact acts_originate (acts_count h25 _)
theorem acts_doHoldScrub {z a0 a1 s} (h : Acts z s) : Acts z (doHoldScrub a0 a1 s) := by
  unfold doHoldScrub
  refine acts_ite h ?_
  extract_lets +onlyGivenNames u0
  have h1 : Acts z u0 := acts_holdUpset h
  clear_value u0
  extract_lets +onlyGivenNames u2 u3 u4
  clear_value u2 u3 u4
  extract_lets +onlyGivenNames u5
  have h6 : Acts z u5 := acts_mk h1
  clear_value u5
  extract_lets +onlyGivenNames u7
  clear_value u7
  extract_lets +onlyGivenNames u8
  have h9 : Acts z u8 := acts_ite (acts_setF h6 _ _ _) h6
  clear_value u8
  exact acts_meetBad h9
theorem acts_holdRefused {z s a1} (h : Acts z s) : Acts z (holdRefused s a1) := by
  unfold holdRefused
  exact acts_setEvent h
theorem acts_setRspTc {z s a1} (h : Acts z s) : Acts z (setRspTc s a1) := by
  unfold setRspTc
  exact acts_setF (acts_setF h _ _ _) _ _ _
theorem acts_writeHoldCtrl {z a0 a1 s} (h : Acts z s) : Acts z (writeHoldCtrl a0 a1 s) := by
  unfold writeHoldCtrl
  extract_lets +onlyGivenNames u0
  clear_value u0
  extract_lets +onlyGivenNames u1
  have h2 : Acts z u1 := acts_ite h (acts_ite (acts_holdRefused h) (acts_setRspTc h))
  clear_value u1
  extract_lets +onlyGivenNames u3
  clear_value u3
  refine acts_ite h2 (acts_ite (acts_ite ?_ (acts_holdRefused h2)) (acts_setF (acts_setF h2 _ _ _) _ _ _))
  extract_lets +onlyGivenNames u4
  have h5 : Acts z u4 := acts_setF (acts_setBit h2 _ _) _ _ _
  clear_value u4
  exact acts_mk h5
theorem acts_doHoldClearDone {z a0 s} (h : Acts z s) : Acts z (doHoldClearDone a0 s) := by
  unfold doHoldClearDone
  refine acts_ite h ?_
  extract_lets +onlyGivenNames u0 u1 u2
  clear_value u0 u1 u2
  extract_lets +onlyGivenNames u3
  have h4 : Acts z u3 := acts_mk h
  clear_value u3
  extract_lets +onlyGivenNames u5
  have h6 : Acts z u5 := acts_foldl (acts_mendBad h4) (fun x7 x8 h9 => acts_setRows h9)
  clear_value u5
  exact acts_setEvent (acts_setF h6 _ _ _)
theorem acts_putHoldReg {z s a1 a2 a3} (h : Acts z s) : Acts z (putHoldReg s a1 a2 a3) := by
  unfold putHoldReg
  split
  · exact acts_wr (acts_wr h _ _) _ _
  · extract_lets +onlyGivenNames u0
    clear_value u0
    exact acts_ite (acts_setF h _ _ _) h
  · exact acts_wr64 h _ _ _
  · exact acts_wr h _ _
  · extract_lets +onlyGivenNames u1
    clear_value u1
    exact acts_ite (acts_wr (acts_wr h _ _) _ _) h
  · exact acts_wr64 h _ _ _
  · exact acts_wr h _ _
theorem acts_writeHoldReg {z a0 a1 a2 s} (h : Acts z s) : Acts z (writeHoldReg a0 a1 a2 s) := by
  unfold writeHoldReg
  refine acts_ite (acts_putHoldReg h) ?_
  split
  · exact h
  · exact acts_holdRefused h
theorem acts_doHoldDieLoss {z a0 s} (h : Acts z s) : Acts z (doHoldDieLoss a0 s) := by
  unfold doHoldDieLoss
  exact acts_setF (acts_mk h) _ _ _

end Sys2Proof.Machine
end

