-- ==== Sys2Proof/Laws/ActsHost.lean ====
section
/-! SUPPORT. Laws of device memory, observation, integrity, commands and DMA: each operation stays within what Acts allows. -/

namespace Sys2Proof.Machine

/-! ## DevMem -/

theorem acts_devUpset {z s a1} (h : Acts z s) : Acts z (devUpset s a1) := by
  unfold devUpset
  split
  · exact h
  · split
    · exact acts_eccCorrected h
    · exact acts_noteCorrected h
    · exact h
  · split
    · exact acts_fileEngine h
    · exact acts_mk h
    · exact h
theorem acts_devReport {z s a1 a2} (h : Acts z s) : Acts z (devReport s a1 a2) := by
  unfold devReport
  exact acts_meetBad (acts_meetBad h)
theorem acts_devRead {z s a1 a2 a3} (h : Acts z s) : Acts z (devRead s a1 a2 a3).2.2 := by
  unfold devRead
  extract_lets +onlyGivenNames u0
  extract_lets +onlyGivenNames u1
  clear_value u1
  extract_lets +onlyGivenNames u2
  have h3 : Acts z u2 := acts_devUpset h
  clear_value u2
  extract_lets +onlyGivenNames u4
  clear_value u4
  exact acts_pair2 (acts_devReport h3)
theorem acts_devPoke {z s a1 a2} (h : Acts z s) : Acts z (devPoke s a1 a2) := by
  unfold devPoke
  split
  · exact acts_updEng h
  · exact acts_mk h
  · exact h
theorem acts_mendLines {z s a1 a2} (h : Acts z s) : Acts z (mendLines s a1 a2) := by
  unfold mendLines
  exact acts_mendBad h
theorem acts_devStore {z a0 a1 s} (h : Acts z s) : Acts z (devStore a0 a1 s) := by
  induction a0 generalizing a1 s with
  | nil => exact h
  | cons b l ih =>
    unfold devStore
    exact ih (acts_ite (acts_devPoke h) h)
theorem acts_noteRefused {z s a1} (h : Acts z s) : Acts z (noteRefused s a1) := by
  unfold noteRefused
  exact acts_foldl h (fun x0 x1 h2 => acts_engEvent h2)
theorem acts_devWrite {z s a1 a2} (h : Acts z s) : Acts z (devWrite s a1 a2) := by
  unfold devWrite
  exact acts_noteRefused (acts_mendLines (acts_devStore h))

/-! ## Observe -/

theorem acts_csPut {z s a1} (h : Acts z s) : Acts z (csPut s a1) := by
  unfold csPut
  extract_lets +onlyGivenNames u0 u1
  clear_value u0 u1
  refine acts_withCause h (fun x2 h3 => ?_)
  extract_lets +onlyGivenNames u4
  have h5 : Acts z u4 := acts_ite (acts_devWrite h3) (acts_hostWrite h3 _ _)
  clear_value u4
  exact acts_wr h5 _ _
theorem acts_doCsRecordWrite {z a0 s} (h : Acts z s) : Acts z (doCsRecordWrite a0 s) := by
  unfold doCsRecordWrite
  split
  · exact h
  · refine acts_ite h ?_
    extract_lets +onlyGivenNames u0
    have h1 : Acts z u0 := acts_updDie h _ _
    clear_value u0
    exact acts_ite (acts_csLost h1) (acts_csPut h1)
theorem acts_captureNow {z s a1} (h : Acts z s) : Acts z (captureNow s a1) := by
  unfold captureNow
  extract_lets +onlyGivenNames u0 u1
  clear_value u0 u1
  extract_lets +onlyGivenNames u2 u3
  clear_value u2 u3
  extract_lets +onlyGivenNames u4
  have h5 : Acts z u4 := acts_ite (acts_foldl h (fun x6 x7 h8 => acts_wr h8 _ _)) h
  clear_value u4
  exact acts_updDie (acts_setF h5 _ _ _) _ _
theorem acts_writeExposure {z s a1 a2} (h : Acts z s) : Acts z (writeExposure s a1 a2) := by
  unfold writeExposure
  exact acts_wr h _ _
theorem acts_refuseExposure {z s a1} (h : Acts z s) : Acts z (refuseExposure s a1) := by
  unfold refuseExposure
  exact acts_setBit h _ _
theorem acts_beginExposure {z s a1 a2} (h : Acts z s) (ha2 : ∀ b0, Acts z b0 → Acts z (a2 b0)) :
    Acts z (beginExposure s a1 a2) := by
  unfold beginExposure
  extract_lets +onlyGivenNames u0
  clear_value u0
  exact acts_ite (acts_refuseExposure h) (ha2 _ h)
theorem acts_opExposeNow {z a0 a1 s} (h : Acts z s) : Acts z (opExposeNow a0 a1 s) := by
  unfold opExposeNow
  exact acts_beginExposure (acts_writeExposure h) (fun x0 h1 => acts_captureNow (acts_setBit h1 _ _))
theorem acts_opExposeAt {z a0 a1 s} (h : Acts z s) : Acts z (opExposeAt a0 a1 s) := by
  unfold opExposeAt
  refine acts_beginExposure (acts_writeExposure h) (fun x0 h1 => ?_)
  extract_lets +onlyGivenNames u2
  clear_value u2
  exact acts_ite (acts_updDie (acts_setBit h1 _ _) _ _) (acts_refuseExposure h1)
theorem acts_doExposureCapture {z a0 s} (h : Acts z s) : Acts z (doExposureCapture a0 s) := by
  unfold doExposureCapture
  split
  · exact acts_ite (acts_captureNow h) h
  · exact h
theorem acts_doExposureWriteDone {z a0 s} (h : Acts z s) : Acts z (doExposureWriteDone a0 s) := by
  unfold doExposureWriteDone
  split
  · exact h
  · extract_lets +onlyGivenNames u0
    clear_value u0
    extract_lets +onlyGivenNames u1
    have h2 : Acts z u1 := acts_updDie h _ _
    clear_value u1
    extract_lets +onlyGivenNames u3
    have h4 : Acts z u3 := acts_ite (acts_devWrite h2) (acts_hostWrite h2 _ _)
    clear_value u3
    extract_lets +onlyGivenNames u5
    have h6 : Acts z u5 := acts_setF h4 _ _ _
    clear_value u5
    exact acts_setEvent h6

/-! ## Integrity -/

theorem acts_fileStateChange {z s a1 a2 a3} (h : Acts z s) : Acts z (fileStateChange s a1 a2 a3) := by
  unfold fileStateChange
  exact acts_fileRec h
theorem acts_retireEngine {z s a1} (h : Acts z s) : Acts z (retireEngine s a1) := by
  unfold retireEngine
  refine acts_ite h ?_
  extract_lets +onlyGivenNames u0
  have h1 : Acts z u0 := acts_updEng (acts_resetAborts h)
  clear_value u0
  extract_lets +onlyGivenNames u2
  have h3 : Acts z u2 := acts_setF (acts_setEngState h1) _ _ _
  clear_value u2
  exact acts_xchkAbandon (acts_orphanAll (acts_dropQueued h3))
theorem acts_setDmaState {z s a1 a2} (h : Acts z s) : Acts z (setDmaState s a1 a2) := by
  unfold setDmaState
  exact acts_withCause h (fun x0 h1 => acts_setF h1 _ _ _)
theorem acts_retireEffect {z s a1 a2 a3} (h : Acts z s) : Acts z (retireEffect s a1 a2 a3) := by
  unfold retireEffect
  split
  · exact acts_writeQuarantine h
  · exact acts_writeQuarantine h
  · exact acts_retireEngine h
  · exact acts_setDmaState h
  · exact acts_writeExclude h
  · exact acts_writeExclude h
  · exact h
theorem acts_checkDie {z s a1} (h : Acts z s) : Acts z (checkDie s a1) := by
  unfold checkDie
  extract_lets +onlyGivenNames u0 u1
  clear_value u0 u1
  exact acts_ite (acts_fileStateChange (acts_setF h _ _ _)) h
theorem acts_retireUnit {z s a1 a2 a3} (h : Acts z s) : Acts z (retireUnit s a1 a2 a3) := by
  unfold retireUnit
  extract_lets +onlyGivenNames u0
  clear_value u0
  extract_lets +onlyGivenNames u1
  have h2 : Acts z u1 := acts_setHealth h
  clear_value u1
  extract_lets +onlyGivenNames u3
  clear_value u3
  extract_lets +onlyGivenNames u4
  have h5 : Acts z u4 := acts_mk h2
  clear_value u4
  extract_lets +onlyGivenNames u6
  have h7 : Acts z u6 := acts_setEvent (acts_integCount h5)
  clear_value u6
  exact acts_checkDie (acts_retireEffect (acts_fileStateChange h7))
theorem acts_bandEnter {z s a1 a2 a3 a4} (h : Acts z s) : Acts z (bandEnter s a1 a2 a3 a4) := by
  unfold bandEnter
  split
  · exact acts_writeQuarantine h
  · exact acts_writeQuarantine h
  · refine acts_ite h ?_
    extract_lets +onlyGivenNames u0
    clear_value u0
    exact acts_fileRec (acts_mk h)
  · exact acts_holdLane h
  · exact h
theorem acts_bandLeave {z s a1 a2 a3} (h : Acts z s) : Acts z (bandLeave s a1 a2 a3) := by
  unfold bandLeave
  exact acts_ite (acts_freeLane h) h
theorem acts_moveBand {z s a1 a2} (h : Acts z s) : Acts z (moveBand s a1 a2) := by
  unfold moveBand
  extract_lets +onlyGivenNames u0
  clear_value u0
  extract_lets +onlyGivenNames u1
  have h2 : Acts z u1 := acts_mk h
  clear_value u1
  refine acts_foldl h2 (fun x3 x4 h5 => ?_)
  extract_lets +onlyGivenNames u6 u7 u8
  clear_value u6 u7 u8
  exact acts_ite h5 (acts_ite (acts_bandEnter h5) (acts_ite (acts_bandLeave h5) h5))
theorem acts_firstSuspicion {z s a1 a2 a3} (h : Acts z s) : Acts z (firstSuspicion s a1 a2 a3) := by
  unfold firstSuspicion
  extract_lets +onlyGivenNames u0 u1
  clear_value u0 u1
  extract_lets +onlyGivenNames u2 u3
  clear_value u2 u3
  extract_lets +onlyGivenNames u4
  have h5 : Acts z u4 := acts_setHealth h
  clear_value u4
  extract_lets +onlyGivenNames u6
  have h7 : Acts z u6 := acts_fileStateChange (acts_integCount h5)
  clear_value u6
  exact acts_ite (acts_bandEnter h7) h7
theorem acts_secondSuspicion {z s a1 a2} (h : Acts z s) : Acts z (secondSuspicion s a1 a2) := by
  unfold secondSuspicion
  extract_lets +onlyGivenNames u0
  clear_value u0
  extract_lets +onlyGivenNames u1
  have h2 : Acts z u1 := acts_setHealth h
  clear_value u1
  extract_lets +onlyGivenNames u3
  clear_value u3
  refine acts_ite (acts_retireUnit h2) ?_
  extract_lets +onlyGivenNames u4
  clear_value u4
  extract_lets +onlyGivenNames u5
  have h6 : Acts z u5 := acts_fileStateChange (acts_setHealth h2)
  clear_value u5
  extract_lets +onlyGivenNames u7
  have h8 : Acts z u7 := acts_ite (acts_bandLeave h6) h6
  clear_value u7
  exact acts_ite (acts_setEvent (acts_fileRec (acts_integCount h8))) h8
theorem acts_classify {z s a1} (h : Acts z s) : Acts z (classify s a1).2 := by
  unfold classify
  split
  · exact h
  · extract_lets +onlyGivenNames u0 u1
    clear_value u0 u1
    extract_lets +onlyGivenNames u2 u3 u4
    clear_value u2 u3 u4
    extract_lets +onlyGivenNames u5
    have h6 : Acts z u5 := acts_setHealth h
    clear_value u5
    extract_lets +onlyGivenNames u7
    clear_value u7
    split
    · exact h6
    · split
      · exact acts_pair (acts_firstSuspicion h6)
      · split
        · exact acts_pair (acts_secondSuspicion h6)
        · exact h6
theorem acts_fallback {z s a1} (h : Acts z s) : Acts z (fallback s a1) := by
  unfold fallback
  refine acts_withCause h (fun x0 h1 => ?_)
  extract_lets +onlyGivenNames u2 u3
  clear_value u2 u3
  extract_lets +onlyGivenNames u4
  have h5 : Acts z u4 := acts_foldl h1 (fun x6 x7 h8 => acts_wr h8 _ _)
  clear_value u4
  extract_lets +onlyGivenNames u9
  have h10 : Acts z u9 := acts_setBit (acts_wr h5 _ _) _ _
  clear_value u9
  exact acts_ite (acts_setBit h10 _ _) h10
theorem acts_queueNotice {z s a1 a2} (h : Acts z s) : Acts z (queueNotice s a1 a2) := by
  unfold queueNotice
  refine acts_ite h ?_
  extract_lets +onlyGivenNames u0 u1 u2
  clear_value u0 u1 u2
  extract_lets +onlyGivenNames u3
  refine acts_ite (acts_mk h) ?_
  extract_lets +onlyGivenNames u4
  clear_value u4
  exact acts_setEvent (acts_integCount (acts_mk h))
theorem acts_raiseIbi {z s a1} (h : Acts z s) : Acts z (raiseIbi s a1) := by
  unfold raiseIbi
  exact acts_ite (acts_emit h _) h
theorem acts_report {z s a1 a2} (h : Acts z s) : Acts z (report s a1 a2) := by
  unfold report
  extract_lets +onlyGivenNames u0
  have h1 : Acts z u0 := acts_queueNotice (acts_fallback h)
  clear_value u0
  exact acts_ite (acts_raiseIbi h1) h1
theorem acts_collect {z s} (h : Acts z s) : Acts z (collect s) := by
  unfold collect
  split
  · exact h
  · extract_lets +onlyGivenNames u0
    clear_value u0
    extract_lets +onlyGivenNames u1
    have h2 : Acts z u1.2 := acts_classify (acts_mk h)
    clear_value u1
    extract_lets +onlyGivenNames u3
    clear_value u3
    refine acts_report ?_
    extract_lets +onlyGivenNames u4
    have h5 : Acts z u4 := h2
    clear_value u4
    exact acts_mk h5
theorem acts_bookRec {z a0 s} (h : Acts z s) : Acts z (bookRec a0 s) := by
  unfold bookRec
  exact acts_integCount (acts_mk h)
theorem acts_writeBook {z a0 a1 s} (h : Acts z s) : Acts z (writeBook a0 a1 s) := by
  induction a1 generalizing s with
  | zero => exact acts_bookRec h
  | succ n ih =>
    unfold writeBook
    extract_lets +onlyGivenNames u0 u1 u2
    exact acts_ite (ih (acts_bookRec (acts_report (acts_mk h)))) (acts_bookRec h)
theorem acts_bookNext {z s} (h : Acts z s) : Acts z (bookNext s) := by
  unfold bookNext
  split
  · exact h
  · exact acts_ite (acts_writeBook (acts_mk h)) h
theorem acts_doLogbookWrite {z s} (h : Acts z s) : Acts z (doLogbookWrite s) := by
  unfold doLogbookWrite
  exact acts_bookNext (acts_collect h)
theorem acts_sendNotice {z s a1} (h : Acts z s) : Acts z (sendNotice s a1) := by
  unfold sendNotice
  exact acts_integCount (acts_emit h _)
theorem acts_doNoticeSend {z s} (h : Acts z s) : Acts z (doNoticeSend s) := by
  unfold doNoticeSend
  split
  · exact h
  · refine acts_ite h ?_
    extract_lets +onlyGivenNames u0
    clear_value u0
    exact acts_sendNotice (acts_mk h)
theorem acts_doNoticeResend {z a0 s} (h : Acts z s) : Acts z (doNoticeResend a0 s) := by
  unfold doNoticeResend
  split
  · exact h
  · refine acts_ite h ?_
    extract_lets +onlyGivenNames u0
    clear_value u0
    exact acts_sendNotice (acts_mk h)
theorem acts_noteSlice {z a0 s a2} (h : Acts z s) : Acts z (noteSlice a0 s a2) := by
  unfold noteSlice
  exact acts_updEng h
theorem acts_notePass {z s a1} (h : Acts z s) : Acts z (notePass s a1) := by
  unfold notePass
  extract_lets +onlyGivenNames u0
  clear_value u0
  exact acts_setHealth h
theorem acts_fileSelfTest {z s a1 a2 a3 a4 a5 a6 a7} (h : Acts z s) : Acts z (fileSelfTest s a1 a2 a3 a4 a5 a6 a7) := by
  unfold fileSelfTest
  exact acts_fileRec h
theorem acts_failSlice {z s a1 a2 a3 a4} (h : Acts z s) : Acts z (failSlice s a1 a2 a3 a4) := by
  unfold failSlice
  extract_lets +onlyGivenNames u0
  clear_value u0
  exact acts_fileSelfTest (acts_integCount (acts_noteSlice h))
theorem acts_failBoth {z s a1 a2 a3} (h : Acts z s) : Acts z (failBoth s a1 a2 a3) := by
  unfold failBoth
  extract_lets +onlyGivenNames u0
  have h1 : ∀ w0 w1 w2, Acts z w0 → Acts z (u0 w0 w1 w2) := by
    unfold u0
    exact fun x2 x3 x4 h5 => acts_fileSelfTest h5
  clear_value u0
  exact h1 _ _ _ (h1 _ _ _ (acts_integCount h))
theorem acts_judgeSlice {z s a1 a2 a3} (h : Acts z s) : Acts z (judgeSlice s a1 a2 a3) := by
  unfold judgeSlice
  refine acts_ite (acts_notePass (acts_notePass (acts_integCount h))) ?_
  split
  · exact acts_failBoth h
  · extract_lets +onlyGivenNames u0
    have h1 : Acts z u0 := acts_noteSlice h
    clear_value u0
    exact acts_ite (acts_failSlice h1) (acts_ite (acts_failSlice h1) (acts_failBoth h1))
theorem acts_doSelfTestSlice {z a0 a1 a2 a3 s} (h : Acts z s) : Acts z (doSelfTestSlice a0 a1 a2 a3 s) := by
  unfold doSelfTestSlice
  extract_lets +onlyGivenNames u0 u1
  clear_value u0 u1
  refine acts_ite h ?_
  extract_lets +onlyGivenNames u2
  have h3 : Acts z u2 := acts_noteSlice (acts_noteSlice h)
  clear_value u2
  exact acts_ite h3 (acts_judgeSlice h3)
theorem acts_writeLogTime {z a0 s} (h : Acts z s) : Acts z (writeLogTime a0 s) := by
  unfold writeLogTime
  extract_lets +onlyGivenNames u0
  have h1 : Acts z u0 := acts_setBit (acts_wr h _ _) _ _
  clear_value u0
  exact acts_mk h1
theorem acts_unitCmd {z a0 a1 s} (ha1 : ∀ b0 b1 b2 b3, Acts z b3 → Acts z (a1 b0 b1 b2 b3).2) (h : Acts z s) :
    Acts z (unitCmd a0 a1 s) := by
  unfold unitCmd
  extract_lets +onlyGivenNames u0
  have h1 : Acts z u0 := acts_wr h _ _
  clear_value u0
  extract_lets +onlyGivenNames u2
  clear_value u2
  split
  · rename_i y3 y4 y5 y6
    have h7 := acts_of_snd y6 (by
        split
        · exact ha1 _ _ _ _ h1
        · exact h1
      )
    exact acts_setF h7 _ _ _
theorem acts_opUnitQuery {z a0 s} (h : Acts z s) : Acts z (opUnitQuery a0 s) := by
  unfold opUnitQuery
  refine acts_unitCmd (fun x0 x1 x2 x3 h4 => ?_) h
  extract_lets +onlyGivenNames u5 u6
  clear_value u5 u6
  exact acts_pair (acts_setF (acts_setF (acts_setF h4 _ _ _) _ _ _) _ _ _)
theorem acts_opUnitRetire {z a0 s} (h : Acts z s) : Acts z (opUnitRetire a0 s) := by
  unfold opUnitRetire
  exact acts_unitCmd (fun x0 x1 x2 x3 h4 => acts_pair (acts_ite (acts_fileStateChange h4) (acts_retireUnit h4))) h
theorem acts_opUnitRestore {z a0 s} (h : Acts z s) : Acts z (opUnitRestore a0 s) := by
  unfold opUnitRestore
  refine acts_unitCmd (fun x0 x1 x2 x3 h4 => ?_) h
  extract_lets +onlyGivenNames u5
  clear_value u5
  split
  · exact h4
  · split
    · exact acts_pair (acts_fileStateChange h4)
    · extract_lets +onlyGivenNames u6 u7
      clear_value u6 u7
      extract_lets +onlyGivenNames u8
      have h9 : Acts z u8 := acts_fileStateChange (acts_setHealth h4)
      clear_value u8
      exact acts_pair (acts_ite (acts_bandLeave h9) h9)

/-! ## HostRing -/

theorem acts_updHost {z s a1} (h : Acts z s) : Acts z (State.updHost s a1) := by
  unfold State.updHost
  exact acts_mk h
theorem acts_fileInternal {z s} (h : Acts z s) : Acts z (fileInternal s) := by
  unfold fileInternal
  split
  · rename_i y0 y1 y2 y3
    have h4 := acts_of_snd y3 (acts_drawFree h _)
    exact acts_fileRec h4
theorem acts_complete {z s a1 a2 a3 a4} (h : Acts z s) : Acts z (complete s a1 a2 a3 a4) := by
  unfold complete
  extract_lets +onlyGivenNames u0
  clear_value u0
  extract_lets +onlyGivenNames u1
  have h2 : Acts z u1 := acts_updHost h
  clear_value u1
  exact acts_ite (acts_fileInternal h2) h2
theorem acts_doCompletionWrite {z s} (h : Acts z s) : Acts z (doCompletionWrite s) := by
  unfold doCompletionWrite
  split
  · exact h
  · refine acts_ite h ?_
    extract_lets +onlyGivenNames u0 u1 u2
    clear_value u0 u1 u2
    refine acts_withCause h (fun x3 h4 => ?_)
    extract_lets +onlyGivenNames u5
    have h6 : Acts z u5 := acts_setF (acts_hostWrite h4 _ _) _ _ _
    clear_value u5
    extract_lets +onlyGivenNames u7
    clear_value u7
    extract_lets +onlyGivenNames u8
    have h9 : Acts z u8 := acts_ite (acts_mk h6) h6
    clear_value u8
    exact acts_updHost h9
theorem acts_writeCplHead {z a0 s} (h : Acts z s) : Acts z (writeCplHead a0 s) := by
  unfold writeCplHead
  refine acts_causeWrite h (fun x0 h1 => ?_)
  extract_lets +onlyGivenNames u2 u3 u4
  clear_value u2 u3 u4
  exact acts_updHost (acts_setF h1 _ _ _)
theorem acts_writeCmdTail {z a0 s} (h : Acts z s) : Acts z (writeCmdTail a0 s) := by
  unfold writeCmdTail
  exact acts_setF h _ _ _
theorem acts_writeCmdCtrl {z a0 s} (h : Acts z s) : Acts z (writeCmdCtrl a0 s) := by
  unfold writeCmdCtrl
  extract_lets +onlyGivenNames u0 u1 u2
  clear_value u0 u1 u2
  extract_lets +onlyGivenNames u3
  have h4 : Acts z u3 := acts_setF (acts_setF h _ _ _) _ _ _
  clear_value u3
  exact acts_ite (acts_setF (acts_setF h4 _ _ _) _ _ _) h4
theorem acts_writeCplCtrl {z a0 s} (h : Acts z s) : Acts z (writeCplCtrl a0 s) := by
  unfold writeCplCtrl
  refine acts_causeWrite h (fun x0 h1 => ?_)
  extract_lets +onlyGivenNames u2 u3 u4
  clear_value u2 u3 u4
  extract_lets +onlyGivenNames u5
  have h6 : Acts z u5 := acts_setF (acts_setF (acts_setF h1 _ _ _) _ _ _) _ _ _
  clear_value u5
  exact acts_ite (acts_updHost (acts_setF (acts_setF h6 _ _ _) _ _ _)) h6
theorem acts_takeCmd {z s a1} (h : Acts z s) : Acts z (takeCmd s a1) := by
  unfold takeCmd
  exact acts_ite (acts_ite (acts_complete h) (acts_updHost h)) (acts_ite (acts_updHost h) (acts_complete h))
theorem acts_doCmdFetch {z a0 s} (h : Acts z s) : Acts z (doCmdFetch a0 s) := by
  unfold doCmdFetch
  refine acts_ite h (acts_ite (acts_setBit (acts_setF h _ _ _) _ _) ?_)
  extract_lets +onlyGivenNames u0 u1 u2
  clear_value u0 u1 u2
  exact acts_takeCmd (acts_setF h _ _ _)
theorem acts_settleShort {z a0 s} (h : Acts z s) : Acts z (settleShort a0 s) := by
  induction a0 generalizing s with
  | nil => exact acts_updHost h
  | cons c l ih =>
    unfold settleShort
    exact acts_ite (acts_updHost h) (ih (acts_complete h))
theorem acts_finishShort {z s a1 a2} (h : Acts z s) : Acts z (finishShort s a1 a2) := by
  unfold finishShort
  exact acts_settleShort (acts_complete h)
theorem acts_shortCmd {z a0 a1 a2 s} (ha2 : ∀ b0 b1, Acts z b1 → Acts z (a2 b0 b1)) (h : Acts z s) :
    Acts z (shortCmd a0 a1 a2 s) := by
  unfold shortCmd
  split
  · exact h
  · exact acts_ite h (acts_ite (acts_finishShort h) (acts_ite (acts_finishShort h) (ha2 _ _ h)))
theorem acts_injectLookup {z s a1 a2} (h : Acts z s) : Acts z (injectLookup s a1 a2) := by
  unfold injectLookup
  split
  · rename_i y0 y1 y2 y3
    have h4 := acts_of_snd y3 (acts_addFrm h _)
    exact acts_originate h4
theorem acts_injectTimed {z s a1 a2 a3 a4} (h : Acts z s) : Acts z (injectTimed s a1 a2 a3 a4) := by
  unfold injectTimed
  split
  · rename_i y0 y1 y2 y3
    have h4 := acts_of_snd y3 (acts_addFrm h _)
    exact acts_updPort h4 _ _ _
theorem acts_injectToPort {z a0 a1 a2 a3 s} (h : Acts z s) : Acts z (injectToPort a0 a1 a2 a3 s) := by
  unfold injectToPort
  exact acts_ite (acts_finishShort h) (acts_ite (acts_finishShort h) (acts_ite (acts_finishShort h) (acts_ite (acts_finishShort (acts_tqCount h)) (acts_ite (acts_finishShort h) (acts_finishShort (acts_injectTimed h))))))
theorem acts_opInject {z a0 s} (h : Acts z s) : Acts z (opInject a0 s) := by
  unfold opInject
  extract_lets +onlyGivenNames u0
  clear_value u0
  split
  · exact acts_finishShort h
  · exact acts_ite (acts_injectToPort h) (acts_finishShort (acts_injectLookup h))
theorem acts_updOp {z s a1 a2} (h : Acts z s) : Acts z (updOp s a1 a2) := by
  unfold updOp
  exact acts_updHost h
theorem acts_endOp {z s a1 a2 a3 a4} (h : Acts z s) : Acts z (endOp s a1 a2 a3 a4) := by
  unfold endOp
  exact acts_updOp h
theorem acts_cancelLane {z a0 s a2} (h : Acts z s) : Acts z (cancelLane a0 s a2) := by
  unfold cancelLane
  split
  · extract_lets +onlyGivenNames u0
    clear_value u0
    refine acts_ite h ?_
    split
    · rename_i y1 y2 y3 y4
      have h5 := acts_of_snd y4 (acts_unmeasuredWords (acts_queueCtl h))
      extract_lets +onlyGivenNames u6
      have h7 : Acts z u6 := acts_updLane (acts_endStripLane h5) _ _ _
      clear_value u6
      exact acts_ite (acts_updLane (acts_setLaneState h7) _ _ _) (acts_ite (acts_startStrip h7) (acts_ite (acts_stripOrWait h7) (acts_ite (acts_updLane (acts_setLaneState (acts_ringsParked h7)) _ _ _) (acts_setLaneState h7))))
theorem acts_freeLoad {z s a1} (h : Acts z s) : Acts z (freeLoad s a1) := by
  unfold freeLoad
  refine acts_foldl h (fun x0 x1 h2 => acts_ite h2 ?_)
  extract_lets +onlyGivenNames u3
  clear_value u3
  split
  · rename_i y4 y5 y6 y7 y8
    have h9 := acts_of_snd y8 (acts_lookupPending h2)
    exact acts_freeRow (acts_putEntry h9)
  · rename_i y10 y11 y12 y13 y14
    have h15 := acts_of_snd y14 (acts_lookupPending h2)
    exact h15
theorem acts_cancelKnotFlush {z s a1} (h : Acts z s) : Acts z (cancelKnotFlush s a1) := by
  unfold cancelKnotFlush
  split
  · exact h
  · exact acts_foldl (acts_cancelFlush h) (fun x0 x1 h2 => acts_ite (acts_ite (acts_statusToControl h2) h2) (acts_finishKnotCmd h2))
theorem acts_undoOp {z s a1} (h : Acts z s) : Acts z (undoOp s a1) := by
  unfold undoOp
  refine acts_ite h ?_
  split
  · split
    · exact acts_ite (acts_foldl h (fun x0 x1 h2 => acts_cancelLane h2)) (acts_cancelStrip h)
  · exact acts_freeLoad h
  · exact acts_cancelKnotFlush h
  · exact acts_ite h (acts_ite (acts_mk h) (acts_mk h))
  · exact h
theorem acts_opSuspend {z a0 s} (h : Acts z s) : Acts z (opSuspend a0 s) := by
  unfold opSuspend
  split
  · exact acts_finishShort h
  · exact acts_ite (acts_finishShort h) (acts_ite (acts_finishShort h) (acts_ite (acts_finishShort h) (acts_updOp h)))
theorem acts_opResume {z a0 s} (h : Acts z s) : Acts z (opResume a0 s) := by
  unfold opResume
  split
  · exact acts_ite (acts_finishShort (acts_updOp h)) (acts_finishShort h)
  · exact acts_finishShort h
theorem acts_opCancel {z a0 s} (h : Acts z s) : Acts z (opCancel a0 s) := by
  unfold opCancel
  split
  · exact acts_finishShort h
  · exact acts_ite (acts_finishShort h) (acts_ite (acts_finishShort (acts_ite (acts_updOp h) h)) (acts_finishShort (acts_endOp (acts_undoOp h))))
theorem acts_answerSuspend {z s a1 a2} (h : Acts z s) : Acts z (answerSuspend s a1 a2) := by
  unfold answerSuspend
  split
  · exact acts_ite (acts_finishShort h) h
  · exact h
theorem acts_doSuspendPoint {z a0 s} (h : Acts z s) : Acts z (doSuspendPoint a0 s) := by
  unfold doSuspendPoint
  split
  · exact acts_ite (acts_answerSuspend (acts_updOp h)) h
  · exact h
theorem acts_doLongOpComplete {z a0 a1 s} (h : Acts z s) : Acts z (doLongOpComplete a0 a1 s) := by
  unfold doLongOpComplete
  split
  · exact h
  · refine acts_ite h ?_
    extract_lets +onlyGivenNames u0
    have h1 : Acts z u0 := acts_ite h (acts_undoOp h)
    clear_value u0
    extract_lets +onlyGivenNames u2
    have h3 : Acts z u2 := acts_updHost h1
    clear_value u2
    extract_lets +onlyGivenNames u4
    have h5 : Acts z u4 := acts_ite (acts_complete h3) (acts_complete h3)
    clear_value u4
    exact acts_ite (acts_answerSuspend h5) h5
theorem acts_restartOps {z s} (h : Acts z s) : Acts z (restartOps s) := by
  unfold restartOps
  exact acts_foldl h (fun x0 x1 h2 => acts_ite h2 (acts_endOp (acts_undoOp h2)))
theorem acts_unmask {z a0 s} (h : Acts z s) : Acts z (unmask a0 s) := by
  unfold unmask
  refine acts_ite ?_ h
  extract_lets +onlyGivenNames u0
  have h1 : Acts z u0 := acts_setF h _ _ _
  clear_value u0
  exact acts_ite (acts_sendMsi h1) h1

/-! ## LongOps -/

theorem acts_longOp {z a0 a1 a2 s} (ha2 : ∀ b0 b1, Acts z b1 → Acts z (a2 b0 b1)) (h : Acts z s) :
    Acts z (longOp a0 a1 a2 s) := by
  unfold longOp
  split
  · exact acts_ite (ha2 _ _ h) h
  · exact h
theorem acts_beginStripPort {z a0 a1 a2 s} (h : Acts z s) : Acts z (beginStripPort a0 a1 a2 s) := by
  unfold beginStripPort
  extract_lets +onlyGivenNames u0 u1 u2
  clear_value u0 u1 u2
  refine acts_ite (acts_endOp h) (acts_ite (acts_endOp h) (acts_ite (acts_endOp h) ?_))
  extract_lets +onlyGivenNames u3
  clear_value u3
  exact acts_updOp (acts_foldl h (fun x4 x5 h6 => acts_startStrip h6))
theorem acts_beginStripLanyard {z a0 a1 a2 s} (h : Acts z s) : Acts z (beginStripLanyard a0 a1 a2 s) := by
  unfold beginStripLanyard
  refine acts_ite (acts_endOp h) (acts_ite (acts_endOp h) ?_)
  extract_lets +onlyGivenNames u0
  have h1 : Acts z u0 := acts_wr h _ _
  clear_value u0
  exact acts_updOp (acts_armStrip h1)
theorem acts_endStrip {z a0 a1 a2 a3 s} (h : Acts z s) : Acts z (endStrip a0 a1 a2 a3 s) := by
  unfold endStrip
  exact acts_endOp (acts_hostWrite h _ _)
theorem acts_opTestStrip {z a0 s} (h : Acts z s) : Acts z (opTestStrip a0 s) := by
  unfold opTestStrip
  split
  · exact acts_ite (acts_ite (acts_beginStripPort h) (acts_beginStripLanyard h)) (acts_ite (acts_ite (acts_endStrip h) h) (acts_ite (acts_endStrip h) h))
theorem acts_notePasses {z s a1} (h : Acts z s) : Acts z (notePasses s a1) := by
  unfold notePasses
  exact acts_foldl h (fun x0 x1 h2 => acts_ite (acts_notePass h2) h2)
theorem acts_selfTestRun {z a0 a1 a2 s} (h : Acts z s) : Acts z (selfTestRun a0 a1 a2 s) := by
  unfold selfTestRun
  extract_lets +onlyGivenNames u0 u1
  clear_value u0 u1
  extract_lets +onlyGivenNames u2
  have h3 : Acts z u2 := acts_ite (acts_countN h _ _) h
  clear_value u2
  extract_lets +onlyGivenNames u4
  clear_value u4
  extract_lets +onlyGivenNames u5
  have h6 : Acts z u5 := acts_ite (acts_fileSelfTest (acts_ite (acts_integCount h3) h3)) h3
  clear_value u5
  extract_lets +onlyGivenNames u7 u8
  clear_value u7 u8
  extract_lets +onlyGivenNames u9
  have h10 : Acts z u9 := acts_updOp h6
  clear_value u9
  exact acts_ite (acts_endOp (acts_notePasses h10)) h10
theorem acts_opSelfTest {z a0 a1 s} (h : Acts z s) : Acts z (opSelfTest a0 a1 s) := by
  unfold opSelfTest
  extract_lets +onlyGivenNames u0 u1
  clear_value u0 u1
  refine acts_ite (acts_ite (acts_endOp h) (acts_ite (acts_endOp h) (acts_ite (acts_endOp h) (acts_updOp h)))) ?_
  split
  · exact acts_selfTestRun h
  · exact acts_endOp h
theorem acts_scrubTable {z a0 a1 s} (h : Acts z s) : Acts z (scrubTable a0 a1 s).2.2 := by
  unfold scrubTable
  extract_lets +onlyGivenNames u0
  clear_value u0
  extract_lets +onlyGivenNames u1
  have h2 : Acts z u1 := acts_foldl h (fun x3 x4 h5 => acts_scrubEntry h5)
  clear_value u1
  exact h2
theorem acts_opTableScrub {z a0 s} (h : Acts z s) : Acts z (opTableScrub a0 s) := by
  unfold opTableScrub
  extract_lets +onlyGivenNames u0
  clear_value u0
  split
  · exact acts_endOp h
  · split
    · rename_i y1 y2 y3 y4 y5
      have h6 := acts_of_snd2 y5 (acts_scrubTable h)
      extract_lets +onlyGivenNames u7
      clear_value u7
      extract_lets +onlyGivenNames u8
      have h9 : Acts z u8 := acts_updOp h6
      clear_value u8
      exact acts_ite (acts_endOp h9) h9
theorem acts_failLoad {z a0 a1 s} (h : Acts z s) : Acts z (failLoad a0 a1 s) := by
  unfold failLoad
  exact acts_endOp (acts_freeLoad h)
theorem acts_loadRecord {z a0 a1 a2 s} (h : Acts z s) : Acts z (loadRecord a0 a1 a2 s) := by
  unfold loadRecord
  extract_lets +onlyGivenNames u0 u1
  clear_value u0 u1
  refine acts_ite (acts_failLoad h) ?_
  extract_lets +onlyGivenNames u2
  have h3 : Acts z u2 := acts_freeLoad h
  clear_value u2
  refine acts_ite (acts_updOp h3) ?_
  split
  · rename_i y4 y5 y6 y7
    have h8 := acts_of_snd y7 (acts_createRow h3)
    exact acts_updOp (acts_holdWrite h8)
  · rename_i y9 y10 y11 y12
    have h13 := acts_of_snd y12 (acts_createRow h3)
    exact acts_failLoad h13
theorem acts_loadNext {z a0 s} (h : Acts z s) : Acts z (loadNext a0 s) := by
  unfold loadNext
  extract_lets +onlyGivenNames u0 u1 u2
  clear_value u0 u1 u2
  exact acts_ite (acts_failLoad h) (acts_ite (acts_updOp h) (acts_loadRecord h))
theorem acts_removeRow {z s a1 a2} (h : Acts z s) : Acts z (removeRow s a1 a2) := by
  unfold removeRow
  split
  · rename_i y0 y1 y2 y3 y4
    have h5 := acts_of_snd y4 (acts_lookupRow h)
    exact acts_freeRow (acts_putEntry h5)
  · rename_i y6 y7 y8 y9 y10
    have h11 := acts_of_snd y10 (acts_lookupRow h)
    exact h11
theorem acts_flipKey {z s a1} (h : Acts z s) : Acts z (flipKey s a1) := by
  unfold flipKey
  extract_lets +onlyGivenNames u0
  clear_value u0
  extract_lets +onlyGivenNames u1
  have h2 : Acts z u1 := acts_removeRow h
  clear_value u1
  refine acts_ite h2 ?_
  split
  · rename_i y3 y4 y5 y6 y7
    have h8 := acts_of_snd y7 (acts_lookupPending h2)
    exact acts_putEntry h8
  · rename_i y9 y10 y11 y12 y13
    have h14 := acts_of_snd y13 (acts_lookupPending h2)
    exact h14
theorem acts_loadFlip {z a0 s} (h : Acts z s) : Acts z (loadFlip a0 s) := by
  unfold loadFlip
  split
  · exact acts_endOp h
  · refine acts_ite h ?_
    extract_lets +onlyGivenNames u0
    clear_value u0
    extract_lets +onlyGivenNames u1
    have h2 : Acts z u1 := acts_updOp (acts_flipKey h)
    clear_value u1
    exact acts_ite (acts_endOp h2) h2
theorem acts_opHoldLoad {z a0 s} (h : Acts z s) : Acts z (opHoldLoad a0 s) := by
  unfold opHoldLoad
  exact acts_ite (acts_failLoad h) (acts_ite (acts_updOp h) (acts_ite (acts_loadNext h) (acts_loadFlip h)))
theorem acts_endCheckpoint {z a0 a1 a2 s} (h : Acts z s) : Acts z (endCheckpoint a0 a1 a2 s) := by
  unfold endCheckpoint
  exact acts_endOp h
theorem acts_checkpointRow {z a0 a1 s} (h : Acts z s) : Acts z (checkpointRow a0 a1 s) := by
  unfold checkpointRow
  extract_lets +onlyGivenNames u0 u1
  clear_value u0 u1
  extract_lets +onlyGivenNames u2 u3
  clear_value u2 u3
  refine acts_ite h (acts_ite (acts_endCheckpoint h) ?_)
  extract_lets +onlyGivenNames u4
  have h5 : Acts z u4.2 := acts_meetBad h
  clear_value u4
  extract_lets +onlyGivenNames u6
  have h7 : Acts z u6.2 := acts_meetBad h5
  clear_value u6
  split
  · exact acts_endCheckpoint h7
  · extract_lets +onlyGivenNames u8
    clear_value u8
    extract_lets +onlyGivenNames u9
    have h10 : Acts z u9 := acts_updOp (acts_hostWrite h7 _ _)
    clear_value u9
    split
    · exact h10
    · exact acts_endCheckpoint h10
theorem acts_opHoldCheckpoint {z a0 s} (h : Acts z s) : Acts z (opHoldCheckpoint a0 s) := by
  unfold opHoldCheckpoint
  refine acts_ite (acts_endCheckpoint h) (acts_ite (acts_updOp h) ?_)
  split
  · exact acts_checkpointRow h
  · exact acts_endCheckpoint h
theorem acts_opKnotFlushLong {z a0 s} (h : Acts z s) : Acts z (opKnotFlushLong a0 s) := by
  unfold opKnotFlushLong
  extract_lets +onlyGivenNames u0 u1
  clear_value u0 u1
  extract_lets +onlyGivenNames u2
  have h3 : ∀ w0, Acts z w0 → Acts z (u2 w0) := by
    unfold u2
    exact fun x4 h5 => acts_updOp h5
  clear_value u2
  refine acts_ite (acts_ite h (acts_endOp h)) ?_
  split
  · exact h3 _ (acts_startFlush h)
  · exact h3 _ (acts_startFlush h)
  · exact h3 _ h
  · exact acts_endOp h
  · exact acts_endOp h
theorem acts_updMgmt {z s a1} (h : Acts z s) : Acts z (State.updMgmt s a1) := by
  unfold State.updMgmt
  exact acts_mk h
theorem acts_updFlash {z s a1} (h : Acts z s) : Acts z (State.updFlash s a1) := by
  unfold State.updFlash
  exact acts_updMgmt h
theorem acts_endUpdate {z a0 a1 s} (h : Acts z s) : Acts z (endUpdate a0 a1 s) := by
  unfold endUpdate
  extract_lets +onlyGivenNames u0
  have h1 : Acts z u0 := acts_ite (acts_updMgmt h) h
  clear_value u0
  exact acts_endOp h1
theorem acts_updateBlock {z a0 s} (h : Acts z s) : Acts z (updateBlock a0 s) := by
  unfold updateBlock
  extract_lets +onlyGivenNames u0
  clear_value u0
  extract_lets +onlyGivenNames u1
  have h2 : Acts z u1 := acts_updFlash h
  clear_value u1
  exact acts_updOp h2
theorem acts_opFwUpdate {z a0 s} (h : Acts z s) : Acts z (opFwUpdate a0 s) := by
  unfold opFwUpdate
  extract_lets +onlyGivenNames u0
  clear_value u0
  refine acts_ite ?_ (acts_ite (acts_endUpdate (acts_updFlash h)) (acts_ite (acts_endUpdate (acts_updFlash h)) (acts_ite (acts_updateBlock h) (acts_endUpdate (acts_updFlash h)))))
  extract_lets +onlyGivenNames u1 u2
  clear_value u1 u2
  exact acts_ite (acts_endOp h) (acts_updOp h)
theorem acts_setMeasure {z s a1 a2} (h : Acts z s) : Acts z (setMeasure s a1 a2) := by
  unfold setMeasure
  exact acts_foldl h (fun x0 x1 h2 => acts_wr h2 _ _)
theorem acts_opAttest {z a0 s} (h : Acts z s) : Acts z (opAttest a0 s) := by
  unfold opAttest
  extract_lets +onlyGivenNames u0
  clear_value u0
  refine acts_ite h (acts_ite (acts_endOp h) (acts_ite h (acts_ite (acts_ite (acts_endOp h) ?_) (acts_endOp (acts_hostWrite h _ _)))))
  extract_lets +onlyGivenNames u1
  have h2 : Acts z u1 := acts_setMeasure (acts_updMgmt h)
  clear_value u1
  extract_lets +onlyGivenNames u3 u4
  clear_value u3 u4
  exact acts_updOp h2
theorem acts_opLogbookRead {z a0 s} (h : Acts z s) : Acts z (opLogbookRead a0 s) := by
  unfold opLogbookRead
  extract_lets +onlyGivenNames u0
  clear_value u0
  refine acts_ite (acts_ite (acts_endOp h) ?_) ?_
  · split
    · split
      · rename_i y1 y2 y3 y4
        have h5 := acts_of_snd y4 (acts_drawFree h _)
        exact acts_endOp h5
    · exact acts_updOp h
  · extract_lets +onlyGivenNames u6
    have h7 : Acts z u6 := acts_hostWrite h _ _
    clear_value u6
    exact acts_ite (acts_endOp h7) (acts_updOp h7)

/-! ## Dma -/

theorem acts_countF {z s a1 a2} (h : Acts z s) : Acts z (State.countF s a1 a2) := by
  unfold State.countF
  exact acts_setF h _ _ _
theorem acts_writeWindow {z a0 s} (h : Acts z s) : Acts z (writeWindow a0 s) := by
  unfold writeWindow
  exact acts_setF h _ _ _
theorem acts_updCh {z s a1 a2} (h : Acts z s) : Acts z (State.updCh s a1 a2) := by
  unfold State.updCh
  exact acts_updHost h
theorem acts_writeDmaTail {z a0 a1 s} (h : Acts z s) : Acts z (writeDmaTail a0 a1 s) := by
  unfold writeDmaTail
  exact acts_updCh (acts_setF h _ _ _)
theorem acts_writeDmaCtrl {z a0 a1 s} (h : Acts z s) : Acts z (writeDmaCtrl a0 a1 s) := by
  unfold writeDmaCtrl
  extract_lets +onlyGivenNames u0
  clear_value u0
  refine acts_causeWrite h (fun x1 h2 => ?_)
  extract_lets +onlyGivenNames u3
  have h4 : Acts z u3 := acts_setF (acts_setF h2 _ _ _) _ _ _
  clear_value u3
  extract_lets +onlyGivenNames u5
  clear_value u5
  extract_lets +onlyGivenNames u6
  have h7 : Acts z u6 := acts_ite h4 (acts_setF h4 _ _ _)
  clear_value u6
  extract_lets +onlyGivenNames u8
  clear_value u8
  exact acts_ite h7 (acts_ite (acts_ite (acts_setF h7 _ _ _) h7) (acts_setF h7 _ _ _))
theorem acts_dmaRead {z s a1 a2 a3 a4} (h : Acts z s) : Acts z (dmaRead s a1 a2 a3 a4).2.2 := by
  unfold dmaRead
  extract_lets +onlyGivenNames u0 u1
  clear_value u0 u1
  split
  · rename_i y2 y3 y4 y5 y6
    have h7 := acts_of_snd2 y6 (by
        split
        · exact acts_devRead h
        · exact h
      )
    exact h7
theorem acts_dmaWrite {z s a1 a2 a3} (h : Acts z s) : Acts z (dmaWrite s a1 a2 a3) := by
  unfold dmaWrite
  extract_lets +onlyGivenNames u0
  clear_value u0
  extract_lets +onlyGivenNames u1
  have h2 : ∀ w0 w1, Acts z w0 → Acts z (u1 w0 w1) := by
    unfold u1
    exact fun x3 x4 h5 => acts_ite (acts_devWrite h5) (acts_hostWrite h5 _ _)
  clear_value u1
  exact acts_ite h (acts_ite (h2 _ _ h) (h2 _ _ h))
theorem acts_dmaMove {z a0 a1 a2 a3 a4 s} (h : Acts z s) : Acts z (dmaMove a0 a1 a2 a3 a4 s) := by
  unfold dmaMove
  extract_lets +onlyGivenNames u0
  clear_value u0
  split
  · rename_i y1 y2 y3 y4 y5
    have h6 := acts_of_snd2 y5 (acts_dmaRead h)
    extract_lets +onlyGivenNames u7 u8 u9
    clear_value u7 u8 u9
    split
    · extract_lets +onlyGivenNames u10
      have h11 : Acts z u10 := acts_ite (acts_noteRefused h6) h6
      clear_value u10
      extract_lets +onlyGivenNames u12
      have h13 : Acts z u12 := acts_dmaWrite h11
      clear_value u12
      exact acts_updCh (acts_updHost h13)
theorem acts_dmaBegin {z a0 a1 a2 s} (h : Acts z s) : Acts z (dmaBegin a0 a1 a2 s).2 := by
  unfold dmaBegin
  extract_lets +onlyGivenNames u0 u1
  clear_value u0 u1
  split
  · exact h
  · split
    · exact h
    · split
      · exact h
      · split
        · exact acts_pair (acts_noteRefused h)
        · exact h
theorem acts_dmaServe {z a0 a1 a2 s} (h : Acts z s) : Acts z (dmaServe a0 a1 a2 s) := by
  unfold dmaServe
  split
  · exact h
  · exact acts_ite h (acts_dmaMove h)
theorem acts_dmaFetch {z a0 s} (h : Acts z s) : Acts z (dmaFetch a0 s) := by
  unfold dmaFetch
  extract_lets +onlyGivenNames u0
  clear_value u0
  refine acts_ite (acts_updCh h) ?_
  extract_lets +onlyGivenNames u1
  clear_value u1
  split
  · rename_i y2 y3 y4 y5
    have h6 := acts_of_snd y5 (acts_dmaBegin h)
    exact acts_updCh (acts_ite h6 (acts_setDmaState h6))
theorem acts_doDmaFetch {z a0 a1 a2 s} (h : Acts z s) : Acts z (doDmaFetch a0 a1 a2 s) := by
  unfold doDmaFetch
  split
  · exact h
  · refine acts_ite h ?_
    extract_lets +onlyGivenNames u0
    have h1 : Acts z u0 := acts_updHost h
    clear_value u0
    exact acts_dmaServe (acts_ite (acts_dmaFetch h1) h1)
theorem acts_dmaWriteBack {z s a1 a2} (h : Acts z s) : Acts z (dmaWriteBack s a1 a2) := by
  unfold dmaWriteBack
  extract_lets +onlyGivenNames u0 u1 u2
  clear_value u0 u1 u2
  extract_lets +onlyGivenNames u3
  have h4 : Acts z u3 := acts_ite (acts_devWrite h) (acts_hostWrite h _ _)
  clear_value u3
  extract_lets +onlyGivenNames u5 u6 u7
  clear_value u5 u6 u7
  extract_lets +onlyGivenNames u8
  have h9 : Acts z u8 := acts_setF (acts_hostWrite h4 _ _) _ _ _
  clear_value u8
  extract_lets +onlyGivenNames u10
  have h11 : Acts z u10 := acts_setF h9 _ _ _
  clear_value u10
  exact acts_updCh h11
theorem acts_dmaAfter {z s a1 a2} (h : Acts z s) : Acts z (dmaAfter s a1 a2) := by
  unfold dmaAfter
  extract_lets +onlyGivenNames u0
  clear_value u0
  extract_lets +onlyGivenNames u1
  have h2 : ∀ w0 w1, Acts z w0 → Acts z (u1 w0 w1) := by
    unfold u1
    exact fun x3 x4 h5 => acts_setF h5 _ _ _
  clear_value u1
  exact acts_ite h (acts_ite (h2 _ _ h) (acts_ite (h2 _ _ (acts_setF h _ _ _)) (h2 _ _ h)))
theorem acts_doDmaComplete {z a0 s} (h : Acts z s) : Acts z (doDmaComplete a0 s) := by
  unfold doDmaComplete
  split
  · exact h
  · refine acts_ite h ?_
    extract_lets +onlyGivenNames u0
    have h1 : Acts z u0 := acts_setF (acts_dmaWriteBack h) _ _ _
    clear_value u0
    refine acts_withCause h1 (fun x2 h3 => ?_)
    extract_lets +onlyGivenNames u4
    have h5 : Acts z u4 := acts_ite (acts_setBit h3 _ _) h3
    clear_value u4
    exact acts_dmaAfter h5
theorem acts_writeDmaCpl {z a0 a1 s} (h : Acts z s) : Acts z (writeDmaCpl a0 a1 s) := by
  unfold writeDmaCpl
  extract_lets +onlyGivenNames u0 u1 u2
  clear_value u0 u1 u2
  exact acts_updCh (acts_setF h _ _ _)
theorem acts_armShadow {z a0 s} (h : Acts z s) : Acts z (armShadow a0 s) := by
  unfold armShadow
  exact acts_setBit (acts_setBit h _ _) _ _
theorem acts_writeDmaCfg {z a0 a1 s} (h : Acts z s) : Acts z (writeDmaCfg a0 a1 s) := by
  unfold writeDmaCfg
  extract_lets +onlyGivenNames u0 u1 u2
  clear_value u0 u1 u2
  exact acts_setF (acts_setF (acts_setF h _ _ _) _ _ _) _ _ _
theorem acts_zeroIndices {z a0 s} (h : Acts z s) : Acts z (zeroIndices a0 s) := by
  unfold zeroIndices
  exact acts_updCh (acts_wr (acts_setF (acts_setF h _ _ _) _ _ _) _ _)
theorem acts_doHandover {z a0 a1 s} (h : Acts z s) : Acts z (doHandover a0 a1 s) := by
  unfold doHandover
  extract_lets +onlyGivenNames u0 u1
  clear_value u0 u1
  refine acts_ite h ?_
  extract_lets +onlyGivenNames u2 u3
  clear_value u2 u3
  extract_lets +onlyGivenNames u4
  have h5 : Acts z u4 := acts_updCh h
  clear_value u4
  extract_lets +onlyGivenNames u6
  have h7 : Acts z u6 := acts_ite (acts_zeroIndices h5) h5
  clear_value u6
  exact acts_ite (acts_setBit h7 _ _) (acts_setF (acts_setF h7 _ _ _) _ _ _)

end Sys2Proof.Machine
end

