-- ==== Sys2Proof/Laws/ActsPower.lean ====
section
/-! SUPPORT. Laws of resets, power, management and BAR0: each operation stays within what Acts allows. -/

namespace Sys2Proof.Machine

/-! ## Resets -/

theorem acts_keepRegs {z a0 s} (h : Acts z s) : Acts z (keepRegs a0 s) := by
  unfold keepRegs
  exact (h.reset _).other rfl rfl rfl rfl rfl
theorem acts_reapply {z s} (h : Acts z s) : Acts z (reapply s) := by
  unfold reapply
  refine acts_foldl h (fun x0 x1 h2 => ?_)
  extract_lets +onlyGivenNames u3 u4 u5
  clear_value u3 u4 u5
  refine acts_ite h2 ?_
  extract_lets +onlyGivenNames u6
  have h7 : Acts z u6 := acts_ite (acts_setEngState h2) (acts_ite (acts_retireEffect h2) h2)
  clear_value u6
  extract_lets +onlyGivenNames u8 u9
  clear_value u8 u9
  exact acts_ite (acts_setF h7 _ _ _) h7
theorem acts_stopMgmt {z s} (h : Acts z s) : Acts z (stopMgmt s) := by
  unfold stopMgmt
  extract_lets +onlyGivenNames u0
  clear_value u0
  extract_lets +onlyGivenNames u1
  have h2 : Acts z u1 := acts_setF (acts_setF (acts_setF h _ _ _) _ _ _) _ _ _
  clear_value u1
  extract_lets +onlyGivenNames u3
  have h4 : Acts z u3 := acts_setF h2 _ _ _
  clear_value u3
  exact acts_mk h4
theorem acts_restartMgmt {z s} (h : Acts z s) : Acts z (restartMgmt s) := by
  unfold restartMgmt
  exact acts_stopMgmt (acts_restartOps h)
theorem acts_dropLoads {z s} (h : Acts z s) : Acts z (dropLoads s) := by
  unfold dropLoads
  exact acts_foldl h (fun x0 x1 h2 => acts_ite (acts_freeLoad h2) h2)
theorem acts_resetEndpoint {z s} (h : Acts z s) : Acts z (resetEndpoint s) := by
  unfold resetEndpoint
  extract_lets +onlyGivenNames u0
  have h1 : Acts z u0 := acts_keepRegs (acts_dropLoads h)
  clear_value u0
  exact acts_reapply (acts_mk h1)
theorem acts_dropHoldOps {z s} (h : Acts z s) : Acts z (dropHoldOps s) := by
  unfold dropHoldOps
  extract_lets +onlyGivenNames u0
  have h1 : Acts z u0 := acts_foldl h (fun x2 x3 h4 => acts_ite h4 (acts_discardStaged h4))
  clear_value u0
  exact acts_mk h1
theorem acts_warmBody {z s} (h : Acts z s) : Acts z (warmBody s) := by
  unfold warmBody
  extract_lets +onlyGivenNames u0
  have h1 : Acts z u0 := acts_keepRegs (acts_dropHoldOps (acts_dropLoads h))
  clear_value u0
  extract_lets +onlyGivenNames u2 u3
  clear_value u2 u3
  extract_lets +onlyGivenNames u4
  have h5 : Acts z u4 := acts_setF (acts_setF h1 _ _ _) _ _ _
  clear_value u4
  extract_lets +onlyGivenNames u6
  clear_value u6
  extract_lets +onlyGivenNames u7
  have h8 : Acts z u7 := acts_mk h5
  clear_value u7
  exact acts_reapply (acts_mk h8)
theorem acts_coldBody {z s} (h : Acts z s) : Acts z (coldBody s) := by
  unfold coldBody
  extract_lets +onlyGivenNames u0 u1 v0 v1 v2 u2
  have h2 : Acts z u2 := (h.reset fun r => isAon r.1).other rfl rfl rfl rfl rfl
  clear_value u2
  exact acts_reapply (acts_wr (acts_setF (acts_setF (acts_setF h2 _ _ _) _ _ _) _ _ _) _ _)
theorem acts_release {z s} (h : Acts z s) : Acts z (release s) := by
  unfold release
  exact acts_ite (acts_mk h) h
theorem acts_powerOnBody {z s} (h : Acts z s) : Acts z (powerOnBody s) := by
  unfold powerOnBody
  extract_lets u0 v1 u1 v2 u2 v3 u3 u4
  have h0 : Acts z u0 := acts_coldBody (h.reset fun r => r.1 == 0x01400004)
  have h5 : Acts z u4 := acts_mk (acts_setF h0 _ _ _)
  exact acts_wr h5 _ _
theorem acts_haltAll {z s} (h : Acts z s) : Acts z (haltAll s) := by
  unfold haltAll
  exact acts_foldl h (fun x0 x1 h2 => acts_ite (acts_enterHalted h2) h2)
theorem acts_enterP2 {z s} (h : Acts z s) : Acts z (enterP2 s) := by
  unfold enterP2
  extract_lets +onlyGivenNames u0
  have h1 : Acts z u0 := acts_haltAll (acts_foldl h (fun x2 x3 h4 => acts_writeQuarantine h4))
  clear_value u0
  extract_lets +onlyGivenNames u5
  have h6 : Acts z u5 := acts_keepRegs h1
  clear_value u5
  extract_lets +onlyGivenNames u7
  have h8 : Acts z u7 := acts_mk h6
  clear_value u7
  extract_lets +onlyGivenNames u9
  clear_value u9
  exact acts_reapply (acts_setF (acts_setF h8 _ _ _) _ _ _)

/-! ## Power -/

theorem acts_updPwr {z s a1} (h : Acts z s) : Acts z (State.updPwr s a1) := by
  unfold State.updPwr
  exact acts_mk h
theorem acts_setPState {z s a1} (h : Acts z s) : Acts z (setPState s a1) := by
  unfold setPState
  exact acts_setF h _ _ _
theorem acts_setPTarget {z s a1} (h : Acts z s) : Acts z (setPTarget s a1) := by
  unfold setPTarget
  exact acts_setF h _ _ _
theorem acts_setPLast {z s a1} (h : Acts z s) : Acts z (setPLast s a1) := by
  unfold setPLast
  exact acts_setF h _ _ _
theorem acts_driveRails {z s a1} (h : Acts z s) : Acts z (driveRails s a1) := by
  unfold driveRails
  exact acts_emit (acts_updPwr h) _
theorem acts_cancelTransition {z s} (h : Acts z s) : Acts z (cancelTransition s) := by
  unfold cancelTransition
  exact acts_ite h (acts_updPwr (acts_setPLast (acts_setPTarget h)))
theorem acts_requestReset {z a0 a1 s} (ha1 : ∀ b0, Acts z b0 → Acts z (a1 b0)) (h : Acts z s) :
    Acts z (requestReset a0 a1 s) := by
  unfold requestReset
  exact acts_ite (acts_setBit h _ _) (ha1 _ (acts_updPwr (acts_cancelTransition h)))
theorem acts_holdDatapath {z s} (h : Acts z s) : Acts z (holdDatapath s) := by
  unfold holdDatapath
  exact acts_updPwr (acts_foldl h (fun x0 x1 h2 => acts_truncateTx h2))
theorem acts_requestCold {z s} (h : Acts z s) : Acts z (requestCold s) := by
  unfold requestCold
  exact acts_requestReset (fun x0 h1 => acts_holdDatapath h1) h
theorem acts_requestWarm {z s} (h : Acts z s) : Acts z (requestWarm s) := by
  unfold requestWarm
  exact acts_requestReset (fun x0 h1 => acts_holdDatapath h1) h
theorem acts_doHoldDone {z s} (h : Acts z s) : Acts z (doHoldDone s) := by
  unfold doHoldDone
  refine acts_ite h (acts_ite (acts_release (acts_coldBody h)) ?_)
  extract_lets +onlyGivenNames u0
  have h1 : Acts z u0 := acts_warmBody h
  clear_value u0
  exact acts_ite (acts_setPState h1) h1
theorem acts_noteWake {z a0 a1 s} (h : Acts z s) : Acts z (noteWake a0 a1 s) := by
  unfold noteWake
  extract_lets +onlyGivenNames u0
  clear_value u0
  extract_lets +onlyGivenNames u1
  have h2 : Acts z u1 := acts_setF h _ _ _
  clear_value u1
  exact acts_ite (acts_updPwr (acts_setF h2 _ _ _)) (acts_ite (acts_setF h2 _ _ _) h2)
theorem acts_wakeStart {z s} (h : Acts z s) : Acts z (wakeStart s) := by
  unfold wakeStart
  extract_lets +onlyGivenNames u0
  clear_value u0
  exact acts_setTimeState (acts_updTime (acts_updPwr (acts_setPState h)))
theorem acts_beginWake {z s} (h : Acts z s) : Acts z (beginWake s) := by
  unfold beginWake
  extract_lets +onlyGivenNames u0
  have h1 : Acts z u0 := acts_driveRails (acts_updPwr h)
  clear_value u0
  exact acts_ite (acts_wakeStart h1) h1
theorem acts_wakeSource {z a0 s} (h : Acts z s) : Acts z (wakeSource a0 s) := by
  unfold wakeSource
  refine acts_ite ?_ (acts_ite (acts_ite (acts_updPwr (acts_noteWake h)) (acts_noteWake (acts_cancelTransition h))) h)
  extract_lets +onlyGivenNames u0
  have h1 : Acts z u0 := acts_noteWake h
  clear_value u0
  exact acts_ite h1 (acts_beginWake h1)
theorem acts_doWakeTimer {z s} (h : Acts z s) : Acts z (doWakeTimer s) := by
  unfold doWakeTimer
  extract_lets +onlyGivenNames u0
  clear_value u0
  exact acts_ite (acts_wakeSource h) h
theorem acts_doGpioWake {z a0 a1 s} (h : Acts z s) : Acts z (doGpioWake a0 a1 s) := by
  unfold doGpioWake
  exact acts_ite (acts_wakeSource h) h
theorem acts_requestState {z a0 s} (h : Acts z s) : Acts z (requestState a0 s) := by
  unfold requestState
  extract_lets +onlyGivenNames u0
  clear_value u0
  refine acts_ite (acts_ite (acts_updPwr (acts_setPTarget h)) (acts_setPLast (acts_setPState h))) (acts_ite (acts_ite ?_ (acts_ite (acts_setPTarget (acts_updPwr (acts_enterP2 h))) (acts_setPLast h))) (acts_ite (acts_updTime (acts_setPTarget h)) (acts_setPLast h)))
  split
  · rename_i y1 y2 y3 y4
    have h5 := acts_of_snd y4 (acts_drawCode h)
    exact acts_setPLast h5
theorem acts_writePwrCtrl {z a0 a1 s} (h : Acts z s) : Acts z (writePwrCtrl a0 a1 s) := by
  unfold writePwrCtrl
  refine acts_ite (acts_setPLast h) ?_
  extract_lets +onlyGivenNames u0
  have h1 : Acts z u0 := acts_setF h _ _ _
  clear_value u0
  exact acts_ite (acts_requestState h1) h1
theorem acts_enterP3 {z s} (h : Acts z s) : Acts z (enterP3 s) := by
  unfold enterP3
  extract_lets +onlyGivenNames u0
  have h1 : Acts z u0 := acts_driveRails (acts_setPState (acts_coldBody (acts_setPLast (acts_setPTarget h))))
  clear_value u0
  extract_lets +onlyGivenNames u2
  have h3 : Acts z u2 := acts_updPwr h1
  clear_value u2
  exact acts_ite (acts_beginWake h3) (acts_ite (acts_beginWake (acts_noteWake h3)) h3)
theorem acts_doTransitionDone {z s} (h : Acts z s) : Acts z (doTransitionDone s) := by
  unfold doTransitionDone
  exact acts_ite (acts_setPLast (acts_setPTarget (acts_setPState h))) (acts_ite (acts_ite (acts_setPLast (acts_setPTarget (acts_setPState h))) h) (acts_ite (acts_ite (acts_enterP3 h) (acts_updPwr (acts_setBit h _ _))) h))
theorem acts_releasePads {z s} (h : Acts z s) : Acts z (releasePads s) := by
  unfold releasePads
  exact acts_setF h _ _ _
theorem acts_doPowerOn {z a0 s} (h : Acts z s) : Acts z (doPowerOn a0 s) := by
  unfold doPowerOn
  extract_lets +onlyGivenNames u0
  clear_value u0
  extract_lets +onlyGivenNames u1
  have h2 : Acts z u1 := acts_powerOnBody h
  clear_value u1
  extract_lets +onlyGivenNames u3
  have h4 : Acts z u3 := acts_setF (acts_setF h2 _ _ _) _ _ _
  clear_value u3
  exact acts_release (acts_driveRails h4)
theorem acts_doBrownout {z s} (h : Acts z s) : Acts z (doBrownout s) := by
  unfold doBrownout
  extract_lets +onlyGivenNames u0
  clear_value u0
  extract_lets +onlyGivenNames u1
  have h2 : Acts z u1 := acts_setF (acts_powerOnBody h) _ _ _
  clear_value u1
  extract_lets +onlyGivenNames u3
  have h4 : Acts z u3 := acts_updPwr (acts_setBit h2 _ _)
  clear_value u3
  exact acts_release (acts_driveRails h4)
theorem acts_doVauxRemoval {z s} (h : Acts z s) : Acts z (doVauxRemoval s) := by
  unfold doVauxRemoval
  extract_lets +onlyGivenNames u0
  have h1 : Acts z u0 := acts_driveRails (acts_updPwr (acts_powerOnBody h))
  clear_value u0
  exact acts_ite (acts_emit h1 _) h1
theorem acts_doGoodRise {z s} (h : Acts z s) : Acts z (doGoodRise s) := by
  unfold doGoodRise
  refine acts_ite h ?_
  extract_lets +onlyGivenNames u0
  have h1 : Acts z u0 := acts_setBit h _ _
  clear_value u0
  exact acts_ite (acts_wakeStart h1) (acts_ite h1 (acts_release h1))
theorem acts_doGoodFall {z s} (h : Acts z s) : Acts z (doGoodFall s) := by
  unfold doGoodFall
  refine acts_ite h ?_
  extract_lets +onlyGivenNames u0
  have h1 : Acts z u0 := acts_setF h _ _ _
  clear_value u0
  refine acts_ite h1 ?_
  extract_lets +onlyGivenNames u2
  have h3 : Acts z u2 := acts_setBit h1 _ _
  clear_value u2
  extract_lets +onlyGivenNames u4
  have h5 : Acts z u4 := acts_ite (acts_setBit h3 _ _) (acts_cancelTransition h3)
  clear_value u4
  exact acts_coldBody (acts_updPwr h5)
theorem acts_thermTrip {z s} (h : Acts z s) : Acts z (thermTrip s) := by
  unfold thermTrip
  extract_lets +onlyGivenNames u0
  have h1 : Acts z u0 := acts_setBit (acts_cancelTransition h) _ _
  clear_value u0
  exact acts_driveRails (acts_emit (acts_coldBody (acts_updPwr h1)) _)
theorem acts_doResetPin {z s} (h : Acts z s) : Acts z (doResetPin s) := by
  unfold doResetPin
  extract_lets +onlyGivenNames u0
  have h1 : Acts z u0 := acts_setBit h _ _
  clear_value u0
  exact acts_ite (acts_release (acts_driveRails (acts_emit (acts_updPwr h1) _))) (acts_ite (acts_wakeSource h1) (acts_requestCold h1))
theorem acts_resetWrite {z a0 a1 s} (ha1 : ∀ b0, Acts z b0 → Acts z (a1 b0)) (h : Acts z s) :
    Acts z (resetWrite a0 a1 s) := by
  unfold resetWrite
  refine acts_ite h ?_
  extract_lets +onlyGivenNames u0
  clear_value u0
  exact ha1 _ (acts_ite h (acts_setF h _ _ _))
theorem acts_askCold {z s} (h : Acts z s) : Acts z (askCold s) := by
  unfold askCold
  exact acts_requestCold (acts_setBit h _ _)
theorem acts_askWarm {z s} (h : Acts z s) : Acts z (askWarm s) := by
  unfold askWarm
  exact acts_requestWarm (acts_setBit h _ _)
theorem acts_flushForTransit {z s} (h : Acts z s) : Acts z (flushForTransit s) := by
  unfold flushForTransit
  refine acts_foldl h (fun x0 x1 h2 => ?_)
  extract_lets +onlyGivenNames u3
  clear_value u3
  refine acts_ite h2 ?_
  extract_lets +onlyGivenNames u4
  have h5 : Acts z u4 := acts_setKnot h2
  clear_value u4
  split
  · exact h5
  · exact acts_foldl h5 (fun x6 x7 h8 => acts_answerFlush h8)
theorem acts_startTransit {z s} (h : Acts z s) : Acts z (startTransit s) := by
  unfold startTransit
  extract_lets +onlyGivenNames u0
  have h1 : Acts z u0 := acts_flushForTransit (acts_updTabs (acts_restartMgmt h))
  clear_value u0
  exact acts_foldl h1 (fun x2 x3 h4 => acts_resetEngineAll h4)
theorem acts_askTransit {z s} (h : Acts z s) : Acts z (askTransit s) := by
  unfold askTransit
  exact acts_requestReset (fun x0 h1 => acts_startTransit h1) h
theorem acts_doTransitEnd {z s} (h : Acts z s) : Acts z (doTransitEnd s) := by
  unfold doTransitEnd
  refine acts_ite ?_ h
  extract_lets +onlyGivenNames u0
  have h1 : Acts z u0 := acts_updPwr (acts_setBit h _ _)
  clear_value u0
  extract_lets +onlyGivenNames u2
  have h3 : Acts z u2 := acts_updTabs h1
  clear_value u2
  exact acts_ite (acts_openTxn h3) h3
theorem acts_resetChannel {z a0 s} (h : Acts z s) : Acts z (resetChannel a0 s) := by
  unfold resetChannel
  extract_lets +onlyGivenNames u0 u1 v1 u2
  have h2 : Acts z u2 := (h.reset fun r => !u1 r.1).other rfl rfl rfl rfl rfl
  clear_value u2
  exact acts_ite (acts_setDmaState h2) h2
theorem acts_unitReset {z a0 a1 a2 s} (h : Acts z s) : Acts z (unitReset a0 a1 a2 s) := by
  unfold unitReset
  refine acts_ite h ?_
  split
  · exact acts_ite (acts_linkStart (acts_writeQuarantine h)) h
  · exact acts_ite (acts_linkStart (acts_writeQuarantine h)) h
  · exact acts_ite h (acts_resetEngine h)
  · exact acts_resetChannel h
  · exact h
theorem acts_writeUnitReset {z a0 s} (h : Acts z s) : Acts z (writeUnitReset a0 s) := by
  unfold writeUnitReset
  extract_lets +onlyGivenNames u0
  clear_value u0
  exact acts_ite h (acts_ite h (acts_ite (acts_setBit h _ _) (acts_unitReset (acts_cancelTransition h))))
theorem acts_endpointReset {z s} (h : Acts z s) : Acts z (endpointReset s) := by
  unfold endpointReset
  extract_lets +onlyGivenNames u0
  have h1 : Acts z u0 := acts_resetEndpoint (acts_setBit h _ _)
  clear_value u0
  split
  · exact acts_askWarm h1
  · exact acts_requestCold h1
  · exact h1
theorem acts_doPerstAssert {z s} (h : Acts z s) : Acts z (doPerstAssert s) := by
  unfold doPerstAssert
  extract_lets +onlyGivenNames u0
  have h1 : Acts z u0 := acts_updHost h
  clear_value u0
  exact acts_ite (acts_updHost h1) (acts_endpointReset h1)
theorem acts_doPerstDeassert {z s} (h : Acts z s) : Acts z (doPerstDeassert s) := by
  unfold doPerstDeassert
  extract_lets +onlyGivenNames u0
  have h1 : Acts z u0 := acts_updHost h
  clear_value u0
  exact acts_ite (acts_wakeSource h1) h1
theorem acts_doHotReset {z s} (h : Acts z s) : Acts z (doHotReset s) := by
  unfold doHotReset
  exact acts_ite h (acts_endpointReset h)
theorem acts_startDie {z a0 s} (h : Acts z s) : Acts z (startDie a0 s) := by
  unfold startDie
  extract_lets +onlyGivenNames u0
  have h1 : Acts z u0 := acts_setF h _ _ _
  clear_value u0
  exact acts_ite (acts_updPwr (acts_setF h1 _ _ _)) h1
theorem acts_startOptical {z a0 s} (h : Acts z s) : Acts z (startOptical a0 s) := by
  unfold startOptical
  extract_lets +onlyGivenNames u0
  have h1 : Acts z u0 := acts_setF h _ _ _
  clear_value u0
  exact acts_foldl h1 (fun x2 x3 h4 => acts_linkStart h4)
theorem acts_doStagger {z a0 s} (h : Acts z s) : Acts z (doStagger a0 s) := by
  unfold doStagger
  split
  · exact h
  · extract_lets +onlyGivenNames u0
    have h1 : Acts z u0 := acts_updPwr h
    clear_value u0
    refine acts_ite h (acts_ite (acts_startOptical h1) ?_)
    extract_lets +onlyGivenNames u2
    have h3 : Acts z u2 := acts_startDie h1
    clear_value u2
    refine acts_ite h3 ?_
    extract_lets +onlyGivenNames u4
    have h5 : Acts z u4 := acts_updPwr (acts_setF h3 _ _ _)
    clear_value u4
    exact acts_ite (acts_thermTrip h5) (acts_moveBand h5)
theorem acts_askRail {z s a1 a2 a3} (h : Acts z s) : Acts z (askRail s a1 a2 a3) := by
  unfold askRail
  exact acts_updPwr (acts_setF h _ _ _)
theorem acts_doAvsTimeout {z a0 s} (h : Acts z s) : Acts z (doAvsTimeout a0 s) := by
  unfold doAvsTimeout
  refine acts_ite ?_ h
  split
  · rename_i y0 y1 y2 y3
    have h4 := acts_of_snd y3 (acts_drawFree h _)
    exact acts_fileRec (acts_updPwr h4)
theorem acts_pauseDie {z a0 s} (h : Acts z s) : Acts z (pauseDie a0 s) := by
  unfold pauseDie
  exact acts_foldl h (fun x0 x1 h2 => acts_ite (acts_flowPort h2) h2)
theorem acts_doJunction {z a0 a1 s} (h : Acts z s) : Acts z (doJunction a0 a1 s) := by
  unfold doJunction
  refine acts_ite h ?_
  extract_lets +onlyGivenNames u0 u1 u2
  clear_value u0 u1 u2
  extract_lets +onlyGivenNames u3
  have h4 : Acts z u3 := acts_updPwr (acts_setF h _ _ _)
  clear_value u3
  refine acts_ite (acts_thermTrip h4) ?_
  extract_lets +onlyGivenNames u5
  have h6 : Acts z u5 := acts_moveBand h4
  clear_value u5
  extract_lets +onlyGivenNames u7 u8
  clear_value u7 u8
  extract_lets +onlyGivenNames u9
  have h10 : Acts z u9 := acts_setF h6 _ _ _
  clear_value u9
  extract_lets +onlyGivenNames u11
  have h12 : Acts z u11 := acts_ite h10 (acts_fileRec h10)
  clear_value u11
  extract_lets +onlyGivenNames u13
  have h14 : Acts z u13 := acts_ite (acts_raiseIbi h12) h12
  clear_value u13
  extract_lets +onlyGivenNames u15
  have h16 : Acts z u15 := acts_ite (acts_fileRec h14) h14
  clear_value u15
  exact acts_ite (acts_pauseDie h16) h16
theorem acts_doControlLoss {z a0 s} (h : Acts z s) : Acts z (doControlLoss a0 s) := by
  unfold doControlLoss
  extract_lets +onlyGivenNames u0
  clear_value u0
  split
  · rename_i y1 y2 y3 y4
    have h5 := acts_of_snd y4 (acts_drawFree h _)
    exact acts_fileRec (acts_setF h5 _ _ _)

/-! ## MgmtBoot -/

theorem acts_setBootStage {z s a1} (h : Acts z s) : Acts z (setBootStage s a1) := by
  unfold setBootStage
  exact acts_setF h _ _ _
theorem acts_mgmtEvent {z s a1} (h : Acts z s) : Acts z (mgmtEvent s a1) := by
  unfold mgmtEvent
  exact acts_setEvent h
theorem acts_startImage {z a0 s} (h : Acts z s) : Acts z (startImage a0 s) := by
  unfold startImage
  extract_lets +onlyGivenNames u0
  have h1 : Acts z u0 := acts_setMeasure h
  clear_value u0
  exact acts_setBootStage (acts_updMgmt (acts_wr h1 _ _))
theorem acts_noteFallback {z s} (h : Acts z s) : Acts z (noteFallback s) := by
  unfold noteFallback
  exact acts_updMgmt (acts_mgmtEvent h)
theorem acts_measureSelector {z s} (h : Acts z s) : Acts z (measureSelector s) := by
  unfold measureSelector
  extract_lets +onlyGivenNames u0
  clear_value u0
  exact acts_setMeasure h
theorem acts_dropTrial {z s} (h : Acts z s) : Acts z (dropTrial s) := by
  unfold dropTrial
  extract_lets +onlyGivenNames u0
  clear_value u0
  refine acts_ite ?_ h
  split
  · rename_i y1 y2 y3 y4
    have h5 := acts_of_snd y4 (acts_drawFree h _)
    exact acts_fileRec (acts_noteFallback (acts_updFlash h5))
theorem acts_bootSlot {z a0 a1 s} (h : Acts z s) : Acts z (bootSlot a0 a1 s) := by
  unfold bootSlot
  extract_lets +onlyGivenNames u0
  have h1 : Acts z u0 := acts_setF (acts_setF h _ _ _) _ _ _
  clear_value u0
  exact acts_measureSelector (acts_startImage h1)
theorem acts_bootFailed {z s} (h : Acts z s) : Acts z (bootFailed s) := by
  unfold bootFailed
  exact acts_raiseIbi (acts_updPwr (acts_setBootStage (acts_setBootStage h)))
theorem acts_doBootRom {z s} (h : Acts z s) : Acts z (doBootRom s) := by
  unfold doBootRom
  refine acts_ite h ?_
  extract_lets +onlyGivenNames u0
  clear_value u0
  extract_lets +onlyGivenNames u1
  have h2 : Acts z u1 := acts_updPwr (acts_setF h _ _ _)
  clear_value u1
  extract_lets +onlyGivenNames u3
  have h4 : Acts z u3 := acts_dropTrial (acts_updMgmt h2)
  clear_value u3
  extract_lets +onlyGivenNames u5 u6 u7
  clear_value u5 u6 u7
  exact acts_ite (acts_bootSlot (acts_ite (acts_updFlash h4) h4)) (acts_ite (acts_bootSlot (acts_noteFallback h4)) (acts_bootFailed h4))
theorem acts_loadConfig {z s} (h : Acts z s) : Acts z (loadConfig s) := by
  unfold loadConfig
  refine acts_ite h ?_
  extract_lets +onlyGivenNames u0
  have h1 : Acts z u0 := acts_foldl h (fun x2 x3 h4 => acts_wr h4 _ _)
  clear_value u0
  extract_lets +onlyGivenNames u5
  clear_value u5
  exact acts_ite (acts_setF h1 _ _ _) h1
theorem acts_takeRecords {z s} (h : Acts z s) : Acts z (takeRecords s) := by
  unfold takeRecords
  extract_lets +onlyGivenNames u0
  clear_value u0
  extract_lets +onlyGivenNames u1
  have h2 : Acts z u1 := acts_updMgmt h
  clear_value u1
  extract_lets +onlyGivenNames u3
  extract_lets +onlyGivenNames u4
  have h5 : Acts z u4 := acts_setMeasure (acts_setMeasure (acts_setMeasure h2))
  clear_value u4
  extract_lets +onlyGivenNames u6
  have h7 : Acts z u6 := acts_setF h5 _ _ _
  clear_value u6
  exact acts_ite (acts_setF (acts_setF h7 _ _ _) _ _ _) h7
theorem acts_lockBoot {z s} (h : Acts z s) : Acts z (lockBoot s) := by
  unfold lockBoot
  exact acts_setF (acts_setF h _ _ _) _ _ _
theorem acts_tellCauses {z s} (h : Acts z s) : Acts z (tellCauses s) := by
  unfold tellCauses
  extract_lets +onlyGivenNames u0
  have h1 : Acts z u0 := acts_ite (acts_fileRec h) h
  clear_value u0
  extract_lets +onlyGivenNames u2
  have h3 : Acts z u2 := by
    unfold u2
    refine acts_ite ?_ h1
    split
    · rename_i y4 y5 y6 y7
      have h8 := acts_of_snd y7 (acts_drawFree h1 _)
      exact acts_fileRec h8
  clear_value u2
  exact acts_updPwr h3
theorem acts_doStage1 {z s} (h : Acts z s) : Acts z (doStage1 s) := by
  unfold doStage1
  refine acts_ite h ?_
  extract_lets +onlyGivenNames u0
  have h1 : Acts z u0 := acts_loadConfig (acts_takeRecords h)
  clear_value u0
  extract_lets +onlyGivenNames u2
  have h3 : Acts z u2 := acts_ite h1 (acts_lockBoot h1)
  clear_value u2
  extract_lets +onlyGivenNames u4
  have h5 : Acts z u4 := acts_tellCauses (acts_setBootStage h3)
  clear_value u4
  exact acts_ite (acts_updPwr h5) h5
theorem acts_writeBootLock {z a0 s} (h : Acts z s) : Acts z (writeBootLock a0 s) := by
  unfold writeBootLock
  exact acts_ite (acts_lockBoot h) h
theorem acts_doIdentity {z a0 a1 s} (h : Acts z s) : Acts z (doIdentity a0 a1 s) := by
  unfold doIdentity
  refine acts_ite h ?_
  extract_lets +onlyGivenNames u0
  clear_value u0
  exact acts_ite (acts_updMgmt (acts_setF h _ _ _)) (acts_fileRec (acts_updMgmt h))
theorem acts_doConfirm {z s} (h : Acts z s) : Acts z (doConfirm s) := by
  unfold doConfirm
  refine acts_ite ?_ h
  extract_lets +onlyGivenNames u0
  clear_value u0
  extract_lets +onlyGivenNames u1
  have h2 : Acts z u1 := acts_setF (acts_updFlash h) _ _ _
  clear_value u1
  exact acts_mgmtEvent h2
theorem acts_doActivate {z s} (h : Acts z s) : Acts z (doActivate s) := by
  unfold doActivate
  exact acts_ite (acts_restartMgmt h) h
theorem acts_doWatchdog {z s} (h : Acts z s) : Acts z (doWatchdog s) := by
  unfold doWatchdog
  refine acts_ite ?_ h
  extract_lets +onlyGivenNames u0
  have h1 : Acts z u0 := acts_fileRec h
  clear_value u0
  exact acts_updMgmt (acts_restartMgmt (acts_mgmtEvent (acts_countF h1)))
theorem acts_writeRecovery {z a0 s} (h : Acts z s) : Acts z (writeRecovery a0 s) := by
  unfold writeRecovery
  extract_lets +onlyGivenNames u0
  clear_value u0
  extract_lets +onlyGivenNames u1
  have h2 : Acts z u1 := acts_setF h _ _ _
  clear_value u1
  extract_lets +onlyGivenNames u3
  have h4 : Acts z u3 := acts_ite (acts_setBit h2 _ _) h2
  clear_value u3
  refine acts_ite ?_ h4
  extract_lets +onlyGivenNames u5
  clear_value u5
  exact acts_ite (acts_startImage (acts_noteFallback (acts_measureSelector (acts_setF h4 _ _ _)))) h4
theorem acts_writeKeyWord {z a0 a1 s} (h : Acts z s) : Acts z (writeKeyWord a0 a1 s) := by
  unfold writeKeyWord
  refine acts_ite h ?_
  extract_lets +onlyGivenNames u0 u1
  clear_value u0 u1
  extract_lets +onlyGivenNames u2
  have h3 : Acts z u2 := acts_updMgmt h
  clear_value u2
  exact acts_ite (acts_setF h3 _ _ _) h3

/-! ## Bar0 -/

theorem acts_plainWrite {z a0 a1 a2 a3 s} (h : Acts z s) : Acts z (plainWrite a0 a1 a2 a3 s) := by
  unfold plainWrite
  exact acts_wr h _ _
theorem acts_putPair {z a0 a1 a2 a3 a4 s} (h : Acts z s) : Acts z (putPair a0 a1 a2 a3 a4 s) := by
  unfold putPair
  extract_lets +onlyGivenNames u0
  clear_value u0
  split
  · exact acts_writeHoldReg h
  · exact acts_writeHoldReg h
  · refine acts_ite h ?_
    split
    · exact acts_plainWrite (acts_plainWrite h)
    · exact h
theorem acts_writePairHigh {z a0 a1 a2 a3 s} (h : Acts z s) : Acts z (writePairHigh a0 a1 a2 a3 s) := by
  unfold writePairHigh
  split
  · rename_i y0 y1 y2 y3
    have h4 := acts_of_snd y3 (acts_takeHeldLow h)
    exact acts_putPair h4
theorem acts_writeTxnCtrl {z a0 s} (h : Acts z s) : Acts z (writeTxnCtrl a0 s) := by
  unfold writeTxnCtrl
  extract_lets +onlyGivenNames u0
  clear_value u0
  split
  · exact acts_doBegin h
  · exact acts_doCommitNow h
  · exact acts_doCommitAt h
  · exact acts_doAbort h
  · exact h
theorem acts_writeTblCmd {z a0 s} (h : Acts z s) : Acts z (writeTblCmd a0 s) := by
  unfold writeTblCmd
  extract_lets +onlyGivenNames u0 u1
  clear_value u0 u1
  split
  · exact acts_tblGuard h (acts_tblWrite h)
  · exact acts_tblRead h
  · exact acts_tblRead h
  · exact acts_tblGuard h (acts_tblInsert h)
  · exact acts_tblGuard h (acts_tblDelete h)
  · exact acts_tblDone h
theorem acts_writeEngineCtrl {z a0 a1 s} (h : Acts z s) : Acts z (writeEngineCtrl a0 a1 s) := by
  unfold writeEngineCtrl
  extract_lets +onlyGivenNames u0
  have h1 : Acts z u0 := acts_writeGateEn h
  clear_value u0
  split
  · exact acts_opEngineStart h1
  · exact acts_opEngineHalt h1
  · exact acts_opEngineReset h1
  · exact h1
theorem acts_writeKnotCmd {z a0 a1 s} (h : Acts z s) : Acts z (writeKnotCmd a0 a1 s) := by
  unfold writeKnotCmd
  extract_lets +onlyGivenNames u0
  clear_value u0
  split
  · exact acts_opKnotLoad h
  · exact acts_opKnotFlush h
  · exact acts_opKnotUnload h
  · exact acts_opKnotRead h
  · exact acts_opKnotAdvance h
  · exact acts_opKnotAnchor h
  · exact acts_knotCmd (fun x1 h2 => h2) h
theorem acts_writeUnitCmd {z a0 s} (h : Acts z s) : Acts z (writeUnitCmd a0 s) := by
  unfold writeUnitCmd
  split
  · exact acts_opUnitQuery h
  · exact acts_opUnitRetire h
  · exact acts_opUnitRestore h
  · exact acts_wr h _ _
theorem acts_writeExposureCtrl {z a0 a1 s} (h : Acts z s) : Acts z (writeExposureCtrl a0 a1 s) := by
  unfold writeExposureCtrl
  split
  · exact acts_opExposeNow h
  · exact acts_opExposeAt h
  · exact acts_writeExposure h
theorem acts_writeResetCtrl {z a0 s} (h : Acts z s) : Acts z (writeResetCtrl a0 s) := by
  unfold writeResetCtrl
  split
  · exact acts_resetWrite (fun x0 h1 => acts_askCold h1) h
  · exact acts_resetWrite (fun x2 h3 => acts_askWarm h3) h
  · exact acts_resetWrite (fun x4 h5 => acts_askTransit h5) h
  · exact acts_resetWrite (fun x6 h7 => h7) h
theorem acts_writeWraps {z a0 s} (h : Acts z s) : Acts z (writeWraps a0 s) := by
  unfold writeWraps
  exact acts_updTime h
theorem acts_settleBuckets {z a0 s} (h : Acts z s) : Acts z (settleBuckets a0 s) := by
  unfold settleBuckets
  exact acts_foldl h (fun x0 x1 h2 => acts_setBucket h2)
theorem acts_restartSources {z a0 a1 s} (h : Acts z s) : Acts z (restartSources a0 a1 s) := by
  unfold restartSources
  exact acts_updPort h _ _ _
theorem acts_writeCsCtrl {z a0 s} (h : Acts z s) : Acts z (writeCsCtrl a0 s) := by
  unfold writeCsCtrl
  extract_lets +onlyGivenNames u0 u1 u2
  clear_value u0 u1 u2
  exact acts_withCause h (fun x3 h4 => acts_wr h4 _ _)
theorem acts_writeFabricReg {z a0 a1 a2 a3 s} (h : Acts z s) {t} (e : (writeFabricReg a0 a1 a2 a3 s) = some t) :
    Acts z t := by
  unfold writeFabricReg at e
  split at e <;> cases e
  · exact acts_writeLaneCtrl h
  · exact acts_foldl (acts_plainWrite h) fun _ _ k => acts_showLineOk k
  · exact acts_writeExclude h
  · exact acts_writeFence h
  · exact acts_writeReserve h
  · exact acts_writeReserve h
  · exact acts_writeReserve h
  · exact acts_writeTimeCtrl h
  · exact acts_writePrio h
  · exact acts_writePrio h
  · exact acts_writePpsLoad h
  · exact acts_writePpsAnchor h
  · exact acts_writeWraps h
  · exact acts_writeLanyardCtrl h
  · exact acts_ite (acts_armStrip (acts_plainWrite h)) (acts_plainWrite h)
  all_goals first | exact acts_stagedWrite h | exact acts_writeTxnCtrl h | exact acts_writeTblCmd h
theorem acts_writeCoreReg {z a0 a1 a2 a3 s} (h : Acts z s) {t} (e : (writeCoreReg a0 a1 a2 a3 s) = some t) :
    Acts z t := by
  unfold writeCoreReg at e
  have hp : Acts z (plainWrite a0 (a0.ref a1 a2) a2 a3 s) := acts_plainWrite h
  extract_lets +onlyGivenNames u0 u1 u2 at e
  split at e <;> cases e
  · exact acts_writeBufConfig h
  · exact acts_writeBufConfig h
  · exact acts_writeSpraySeed h
  · exact acts_flowPort hp
  · exact acts_ite (acts_writeAdmit h) (acts_writeQuarantine h)
  · exact acts_writeShaper h
  · exact acts_restartSources hp
  · exact acts_updDie hp _ _
  · exact acts_writeCsCtrl h
  · exact acts_writeExposureCtrl h
  · exact acts_writePolicer0 h
  · exact acts_plainWrite (acts_settleBuckets h)
  · exact acts_plainWrite (acts_settleBuckets h)
  · exact acts_writeEngineCtrl h
  · exact acts_doEngineLayoutWrite h
  · exact acts_updEng hp
  · exact acts_writeKnotCmd h
  · exact acts_writeHoldCtrl h
  all_goals exact acts_writeHoldReg h
theorem acts_writeHostReg {z a0 a1 a2 a3 s} (h : Acts z s) {t} (e : (writeHostReg a0 a1 a2 a3 s) = some t) :
    Acts z t := by
  unfold writeHostReg at e
  split at e <;> cases e
  · exact acts_writeLogTime h
  · exact acts_writeUnitCmd h
  · exact acts_writeCmdCtrl h
  · exact acts_writeCmdTail h
  · exact acts_writeCplCtrl h
  · exact acts_writeCplHead h
  · exact acts_writeWindow h
  · exact acts_ite (acts_unmask h) (acts_plainWrite h)
  · exact acts_writeDmaCtrl h
  · exact acts_writeDmaTail h
  · exact acts_writeDmaCpl h
  · exact acts_writeDmaCfg h
  · exact acts_ite (acts_armShadow h) h
  · exact acts_writeBootLock h
  · exact acts_writeKeyWord h
  · exact acts_writeRecovery h
  · exact acts_writePwrCtrl h
  · exact acts_ite (acts_releasePads h) h
  · exact acts_writeResetCtrl h
  · exact acts_writeUnitReset h
theorem acts_causedWrite {z a0 a1 a2 a3 s} (h : Acts z s) : Acts z (causedWrite a0 a1 a2 a3 s) := by
  unfold causedWrite
  split
  · exact acts_causeWrite h (fun x0 h1 => acts_plainWrite h1)
  · split
    · exact acts_withCause h (fun x2 h3 => acts_plainWrite h3)
    · exact acts_plainWrite h
theorem acts_bar0Write {z a0 a1 s} (h : Acts z s) : Acts z (bar0Write a0 a1 s) := by
  unfold bar0Write
  extract_lets +onlyGivenNames u0
  clear_value u0
  split
  · exact h
  · split
    · rename_i e
      rcases (Option.orElse_eq_some _ _ _).1 e with e | ⟨-, e⟩
      · exact acts_writeFabricReg h e
      · rcases (Option.orElse_eq_some _ _ _).1 e with e | ⟨-, e⟩
        · exact acts_writeCoreReg h e
        · exact acts_writeHostReg h e
    · refine acts_ite (acts_ite (acts_ite h (acts_holdLow h)) (acts_writePairHigh h)) (acts_causedWrite h)
theorem acts_afterRead {z a0 a1 a2 s} (h : Acts z s) : Acts z (afterRead a0 a1 a2 s) := by
  unfold afterRead
  extract_lets +onlyGivenNames u0
  clear_value u0
  split
  · exact acts_updTabs h
  · exact acts_mk h
  · exact acts_ite (acts_wr h _ _) h
theorem acts_captureHigh {z a0 s} (h : Acts z s) : Acts z (captureHigh a0 s) := by
  unfold captureHigh
  split
  · exact acts_mk h
  · exact h
theorem acts_bar0Read {z a0 s} (h : Acts z s) : Acts z (bar0Read a0 s).2 := by
  unfold bar0Read
  extract_lets +onlyGivenNames u0
  clear_value u0
  split
  · exact h
  · extract_lets +onlyGivenNames u1
    clear_value u1
    split
    · exact acts_pair (acts_captureHigh h)
    · split
      · split
        · exact h
        · exact acts_pair (acts_mk h)
      · exact acts_pair (acts_afterRead h)
theorem acts_badAccess {z a0 a1 s} (h : Acts z s) : Acts z (badAccess a0 a1 s) := by
  unfold badAccess
  extract_lets +onlyGivenNames u0
  have h1 : Acts z u0 := acts_countF h
  clear_value u0
  exact acts_ite h1 (acts_emit h1 _)
theorem acts_wordWrite {z a0 a1 s} (h : Acts z s) : Acts z (wordWrite a0 a1 s) := by
  unfold wordWrite
  exact acts_ite (acts_bar0Write h) (acts_badAccess h)
theorem acts_wordRead {z a0 s} (h : Acts z s) : Acts z (wordRead a0 s).2 := by
  unfold wordRead
  split
  · exact acts_bar0Read h
  · exact acts_pair (acts_badAccess h)
theorem acts_readOut {z a0 s} (h : Acts z s) : Acts z (readOut a0 s) := by
  unfold readOut
  split
  · rename_i y0 y1 y2 y3
    have h4 := acts_of_snd y3 (acts_wordRead h)
    exact acts_emit h4 _

/-! ## MgmtNet -/

theorem acts_mgmtCount {z s a1} (h : Acts z s) : Acts z (mgmtCount s a1) := by
  unfold mgmtCount
  exact acts_count h _
theorem acts_queueReq {z a0 s} (h : Acts z s) : Acts z (queueReq a0 s) := by
  unfold queueReq
  exact acts_ite (acts_mgmtCount h) (acts_ite (acts_mgmtCount h) (acts_updMgmt h))
theorem acts_takeContent {z a0 s} (h : Acts z s) : Acts z (takeContent a0 s) := by
  unfold takeContent
  split
  · exact acts_ite (acts_emit h _) (acts_mgmtCount h)
  · exact acts_ite (acts_emit h _) (acts_mgmtCount h)
  · exact acts_ite (acts_emit h _) (acts_mgmtCount h)
  · exact acts_ite (acts_mgmtCount h) (acts_ite (acts_queueReq h) (acts_ite h (acts_mgmtCount h)))
  · exact acts_mgmtCount h
theorem acts_doMgmtFrame {z a0 s} (h : Acts z s) : Acts z (doMgmtFrame a0 s) := by
  unfold doMgmtFrame
  exact acts_ite h (acts_ite (acts_takeContent h) (acts_mgmtCount h))
theorem acts_doMgmtLink {z a0 s} (h : Acts z s) : Acts z (doMgmtLink a0 s) := by
  unfold doMgmtLink
  exact acts_ite h (acts_mgmtEvent (acts_setF h _ _ _))
theorem acts_dropReq {z a0 s} (h : Acts z s) : Acts z (dropReq a0 s) := by
  unfold dropReq
  exact acts_ite (acts_mgmtEvent (acts_mgmtCount h)) (acts_mgmtCount h)
theorem acts_acceptReq {z a0 s} (h : Acts z s) : Acts z (acceptReq a0 s) := by
  unfold acceptReq
  exact acts_updMgmt (acts_mgmtCount h)
theorem acts_respond {z a0 a1 a2 a3 s} (h : Acts z s) : Acts z (respond a0 a1 a2 a3 s) := by
  unfold respond
  extract_lets +onlyGivenNames u0
  clear_value u0
  exact acts_emit h _
theorem acts_settleReqs {z a0 s} (h : Acts z s) : Acts z (settleReqs a0 s) := by
  induction a0 generalizing s with
  | nil => exact acts_updMgmt h
  | cons r l ih =>
    unfold settleReqs
    split
    · exact ih (acts_dropReq h)
    · exact acts_ite (ih (acts_respond (acts_acceptReq h))) (acts_updMgmt h)
theorem acts_serveReq {z a0 a1 s} (ha1 : ∀ b0 b1, Acts z b1 → Acts z (a1 b0 b1).2.2) (h : Acts z s) :
    Acts z (serveReq a0 a1 s) := by
  unfold serveReq
  refine acts_ite h ?_
  extract_lets +onlyGivenNames u0
  have h1 : Acts z u0 := acts_settleReqs h
  clear_value u0
  split
  · exact h1
  · refine acts_ite h ?_
    extract_lets +onlyGivenNames u2
    clear_value u2
    extract_lets +onlyGivenNames u3
    have h4 : Acts z u3 := acts_acceptReq (acts_updMgmt h1)
    clear_value u3
    split
    · rename_i y5 y6 y7 y8 y9
      have h10 := acts_of_snd2 y9 (ha1 _ _ h4)
      exact acts_respond h10
theorem acts_reqEcho {z a0 s} (h : Acts z s) : Acts z (reqEcho a0 s).2.2 := by
  unfold reqEcho
  exact h
theorem acts_ackNotice {z a0 s} (h : Acts z s) : Acts z (ackNotice a0 s) := by
  unfold ackNotice
  exact acts_mgmtCount (acts_mk h)
theorem acts_reqNoticeAck {z a0 s} (h : Acts z s) : Acts z (reqNoticeAck a0 s).2.2 := by
  unfold reqNoticeAck
  extract_lets +onlyGivenNames u0
  clear_value u0
  split
  · exact h
  · exact acts_pair2 (acts_foldl h (fun x1 x2 h3 => acts_ackNotice h3))
theorem acts_readRegs {z a0 a1 a2 s} (h : Acts z s) : Acts z (readRegs a0 a1 a2 s).2 := by
  induction a1 generalizing a0 a2 s with
  | zero => exact h
  | succ n ih =>
    unfold readRegs
    split
    rename_i e
    exact ih (acts_of_snd e (acts_wordRead h))
theorem acts_reqRegRead {z a0 s} (h : Acts z s) : Acts z (reqRegRead a0 s).2.2 := by
  unfold reqRegRead
  split
  · exact h
  · split
    · rename_i y0 y1 y2 y3
      have h4 := acts_of_snd y3 (acts_readRegs h)
      exact h4
theorem acts_reqRegWrite {z a0 s} (h : Acts z s) : Acts z (reqRegWrite a0 s).2.2 := by
  unfold reqRegWrite
  extract_lets +onlyGivenNames u0 u1
  clear_value u0 u1
  split
  · exact h
  · split
    · exact acts_pair2 (acts_foldl h (fun x2 x3 h4 => acts_wordWrite h4))
    · exact h
theorem acts_reqLogbook {z a0 s} (h : Acts z s) : Acts z (reqLogbook a0 s).2.2 := by
  unfold reqLogbook
  split
  · exact h
  · exact h
theorem acts_reqKeyRotate {z a0 s} (h : Acts z s) : Acts z (reqKeyRotate a0 s).2.2 := by
  unfold reqKeyRotate
  split
  · exact h
  · exact acts_pair2 (acts_mgmtEvent (acts_updMgmt h))
theorem acts_doWakeDatagram {z a0 s} (h : Acts z s) : Acts z (doWakeDatagram a0 s) := by
  unfold doWakeDatagram
  exact acts_ite (acts_wakeSource (acts_updMgmt (acts_mgmtCount h))) h
theorem acts_setDynAddr {z a0 s} (h : Acts z s) : Acts z (setDynAddr a0 s) := by
  unfold setDynAddr
  exact acts_setF (acts_setF h _ _ _) _ _ _
theorem acts_doEntdaa {z a0 a1 s} (h : Acts z s) : Acts z (doEntdaa a0 a1 s) := by
  unfold doEntdaa
  exact acts_ite (acts_setDynAddr (acts_emit h _)) h
theorem acts_doRstdaa {z s} (h : Acts z s) : Acts z (doRstdaa s) := by
  unfold doRstdaa
  exact acts_ite (acts_setF (acts_setF h _ _ _) _ _ _) h
theorem acts_i3cReturn {z a0 s} (h : Acts z s) : Acts z (i3cReturn a0 s) := by
  unfold i3cReturn
  exact acts_ite (acts_emit h _) h
theorem acts_doI3cWrite {z a0 s} (h : Acts z s) : Acts z (doI3cWrite a0 s) := by
  unfold doI3cWrite
  exact acts_ite (acts_wakeSource h) h

end Sys2Proof.Machine
end

