-- ==== Sys2Proof/Laws/ActsExec.lean ====
section
/-! SUPPORT. Every command stays within what Acts allows, whatever its operands and the state; and so does the machine's
step but for its clock tick. -/

namespace Sys2Proof.Machine

/-- The answer of a meaning: a next state that Acts allows. -/
def ActsO (z : State) : Host.Outcome State Fault Refusal → Prop
  | .next t => Acts z t
  | _ => False

theorem actsO_next {z t : State} (h : Acts z t) : ActsO z (.next t) := h

theorem acts_execBar0RegWrite {z a0 a1 s} (h : Acts z s) : ActsO z (execBar0RegWrite a0 a1 s) := by
  unfold execBar0RegWrite
  exact actsO_next (acts_wordWrite h)
theorem acts_execBar0BadAccess {z a0 a1 a2 s} (h : Acts z s) : ActsO z (execBar0BadAccess a0 a1 a2 s) := by
  unfold execBar0BadAccess
  exact actsO_next (acts_ite h (acts_badAccess h))
theorem acts_execPairLowRead {z a0 s} (h : Acts z s) : ActsO z (execPairLowRead a0 s) := by
  unfold execPairLowRead
  exact actsO_next (acts_readOut h)
theorem acts_execPairLowWrite {z a0 a1 s} (h : Acts z s) : ActsO z (execPairLowWrite a0 a1 s) := by
  unfold execPairLowWrite
  exact actsO_next (acts_ite (acts_bar0Write h) h)
theorem acts_execPairHighWrite {z a0 a1 s} (h : Acts z s) : ActsO z (execPairHighWrite a0 a1 s) := by
  unfold execPairHighWrite
  exact actsO_next (acts_ite (acts_bar0Write h) h)
theorem acts_execRcFieldRead {z a0 s} (h : Acts z s) : ActsO z (execRcFieldRead a0 s) := by
  unfold execRcFieldRead
  exact actsO_next (acts_readOut h)
theorem acts_execReplicatedWrite {z a0 a1 s} (h : Acts z s) : ActsO z (execReplicatedWrite a0 a1 s) := by
  unfold execReplicatedWrite
  exact actsO_next (acts_wordWrite h)
theorem acts_execChannelClassWrite {z a0 a1 a2 a3 s} (h : Acts z s) :
    ActsO z (execChannelClassWrite a0 a1 a2 a3 s) := by
  unfold execChannelClassWrite
  exact actsO_next (acts_bar0Write h)
theorem acts_execFlitReceive {z a0 a1 a2 a3 s} (h : Acts z s) : ActsO z (execFlitReceive a0 a1 a2 a3 s) := by
  unfold execFlitReceive
  exact actsO_next (acts_doFlitReceive h)
theorem acts_execLinkTrainingLoss {z a0 a1 s} (h : Acts z s) : ActsO z (execLinkTrainingLoss a0 a1 s) := by
  unfold execLinkTrainingLoss
  exact actsO_next (acts_linkDown h)
theorem acts_execDieLinkRetrain {z a0 a1 s} (h : Acts z s) : ActsO z (execDieLinkRetrain a0 a1 s) := by
  unfold execDieLinkRetrain
  exact actsO_next (acts_doRetrain h)
theorem acts_execDieLinkUp {z a0 a1 s} (h : Acts z s) : ActsO z (execDieLinkUp a0 a1 s) := by
  unfold execDieLinkUp
  exact actsO_next (acts_doDieLinkUp h)
theorem acts_execMeshDrainDone {z a0 a1 s} (h : Acts z s) : ActsO z (execMeshDrainDone a0 a1 s) := by
  unfold execMeshDrainDone
  exact actsO_next (acts_doDrainDone h)
theorem acts_execCreditSyncReceive {z a0 a1 a2 s} (h : Acts z s) : ActsO z (execCreditSyncReceive a0 a1 a2 s) := by
  unfold execCreditSyncReceive
  exact actsO_next (acts_ite h (acts_setF h _ _ _))
theorem acts_execCodewordReceive {z a0 a1 a2 s} (h : Acts z s) : ActsO z (execCodewordReceive a0 a1 a2 s) := by
  unfold execCodewordReceive
  exact actsO_next (acts_doCodeword h)
theorem acts_execAlignmentMarkerReceive {z a0 a1 a2 a3 a4 s} (h : Acts z s) :
    ActsO z (execAlignmentMarkerReceive a0 a1 a2 a3 a4 s) := by
  unfold execAlignmentMarkerReceive
  exact actsO_next (acts_doMarker h)
theorem acts_execFrameReceive {z a0 a1 a2 s} (h : Acts z s) : ActsO z (execFrameReceive a0 a1 a2 s) := by
  unfold execFrameReceive
  exact actsO_next (acts_doFrameReceive h)
theorem acts_execFrameAbortReceive {z a0 a1 a2 a3 s} (h : Acts z s) :
    ActsO z (execFrameAbortReceive a0 a1 a2 a3 s) := by
  unfold execFrameAbortReceive
  exact actsO_next (acts_doAbortReceive h)
theorem acts_execXoffXonReceive {z a0 a1 a2 s} (h : Acts z s) : ActsO z (execXoffXonReceive a0 a1 a2 s) := by
  unfold execXoffXonReceive
  exact actsO_next (acts_doXoff h)
theorem acts_execXoffRefresh {z a0 a1 s} (h : Acts z s) : ActsO z (execXoffRefresh a0 a1 s) := by
  unfold execXoffRefresh
  exact actsO_next (acts_doXoffRefresh h)
theorem acts_execPauseWatchdog {z a0 a1 a2 s} (h : Acts z s) : ActsO z (execPauseWatchdog a0 a1 a2 s) := by
  unfold execPauseWatchdog
  exact actsO_next (acts_doPauseWatchdog h)
theorem acts_execLinkFaultReceive {z a0 a1 a2 s} (h : Acts z s) : ActsO z (execLinkFaultReceive a0 a1 a2 s) := by
  unfold execLinkFaultReceive
  exact actsO_next (acts_losePort (acts_resetQuiet (acts_updPort h _ _ _)))
theorem acts_execLinkFaultConditionEnd {z a0 a1 s} (h : Acts z s) : ActsO z (execLinkFaultConditionEnd a0 a1 s) := by
  unfold execLinkFaultConditionEnd
  exact actsO_next (acts_ite (acts_updPort h _ _ _) h)
theorem acts_execLaneSetReceive {z a0 a1 a2 a3 s} (h : Acts z s) : ActsO z (execLaneSetReceive a0 a1 a2 a3 s) := by
  unfold execLaneSetReceive
  exact actsO_next (acts_updPort h _ _ _)
theorem acts_execLaneSetEffective {z a0 a1 a2 s} (h : Acts z s) : ActsO z (execLaneSetEffective a0 a1 a2 s) := by
  unfold execLaneSetEffective
  exact actsO_next (acts_doLaneSetEffective h)
theorem acts_execLaneDownReceive {z a0 a1 a2 s} (h : Acts z s) : ActsO z (execLaneDownReceive a0 a1 a2 s) := by
  unfold execLaneDownReceive
  exact actsO_next (acts_doLaneDownReceive h)
theorem acts_execTestStripWordReceive {z a0 a1 a2 s} (h : Acts z s) :
    ActsO z (execTestStripWordReceive a0 a1 a2 s) := by
  unfold execTestStripWordReceive
  exact actsO_next (acts_doStripWord h)
theorem acts_execPortLaneCtrlWrite {z a0 a1 a2 s} (h : Acts z s) : ActsO z (execPortLaneCtrlWrite a0 a1 a2 s) := by
  unfold execPortLaneCtrlWrite
  exact actsO_next (acts_writeLaneCtrl h)
theorem acts_execTestStripStart {z a0 a1 s} (h : Acts z s) : ActsO z (execTestStripStart a0 a1 s) := by
  unfold execTestStripStart
  exact actsO_next (acts_linkStart h)
theorem acts_execTsLaserCheckDone {z a0 a1 a2 a3 s} (h : Acts z s) : ActsO z (execTsLaserCheckDone a0 a1 a2 a3 s) := by
  unfold execTsLaserCheckDone
  exact actsO_next (acts_doLaserCheck h)
theorem acts_execRingLock {z a0 a1 a2 a3 s} (h : Acts z s) : ActsO z (execRingLock a0 a1 a2 a3 s) := by
  unfold execRingLock
  exact actsO_next (acts_doRingLock h)
theorem acts_execRingSeekFail {z a0 a1 a2 s} (h : Acts z s) : ActsO z (execRingSeekFail a0 a1 a2 s) := by
  unfold execRingSeekFail
  exact actsO_next (acts_doSeekFail h)
theorem acts_execPrbsSyncTimeout {z a0 a1 s} (h : Acts z s) : ActsO z (execPrbsSyncTimeout a0 a1 s) := by
  unfold execPrbsSyncTimeout
  exact actsO_next (acts_doPrbsTimeout h)
theorem acts_execTsSweepPointDone {z a0 a1 a2 s} (h : Acts z s) : ActsO z (execTsSweepPointDone a0 a1 a2 s) := by
  unfold execTsSweepPointDone
  exact actsO_next (acts_doSweepPoint h)
theorem acts_execTsMeasureDone {z a0 a1 s} (h : Acts z s) : ActsO z (execTsMeasureDone a0 a1 s) := by
  unfold execTsMeasureDone
  exact actsO_next (acts_doMeasureDone h)
theorem acts_execTestStripTimeout {z a0 a1 s} (h : Acts z s) : ActsO z (execTestStripTimeout a0 a1 s) := by
  unfold execTestStripTimeout
  exact actsO_next (acts_doStripTimeout h)
theorem acts_execHeaterUpdate {z a0 a1 a2 a3 a4 s} (h : Acts z s) : ActsO z (execHeaterUpdate a0 a1 a2 a3 a4 s) := by
  unfold execHeaterUpdate
  exact actsO_next (acts_doHeater h)
theorem acts_execToneWindow {z a0 a1 a2 a3 s} (h : Acts z s) : ActsO z (execToneWindow a0 a1 a2 a3 s) := by
  unfold execToneWindow
  exact actsO_next (acts_doToneWindow h)
theorem acts_execLaneLockLoss {z a0 a1 s} (h : Acts z s) : ActsO z (execLaneLockLoss a0 a1 s) := by
  unfold execLaneLockLoss
  exact actsO_next (acts_doLockLoss h)
theorem acts_execLaneNoCodeword {z a0 a1 s} (h : Acts z s) : ActsO z (execLaneNoCodeword a0 a1 s) := by
  unfold execLaneNoCodeword
  exact actsO_next (acts_doNoCodeword h)
theorem acts_execLightLoss {z a0 a1 s} (h : Acts z s) : ActsO z (execLightLoss a0 a1 s) := by
  unfold execLightLoss
  exact actsO_next (acts_doLightLoss h)
theorem acts_execLightReturn {z a0 a1 s} (h : Acts z s) : ActsO z (execLightReturn a0 a1 s) := by
  unfold execLightReturn
  exact actsO_next (acts_doLightReturn h)
theorem acts_execFastRelockDone {z a0 a1 a2 a3 s} (h : Acts z s) : ActsO z (execFastRelockDone a0 a1 a2 a3 s) := by
  unfold execFastRelockDone
  exact actsO_next (acts_doFastRelock h)
theorem acts_execRelockWindowExpire {z a0 a1 s} (h : Acts z s) : ActsO z (execRelockWindowExpire a0 a1 s) := by
  unfold execRelockWindowExpire
  exact actsO_next (acts_doWindowExpire h)
theorem acts_execLaneRetest {z a0 a1 s} (h : Acts z s) : ActsO z (execLaneRetest a0 a1 s) := by
  unfold execLaneRetest
  exact actsO_next (acts_doRetest h)
theorem acts_execLaneExcludeWrite {z a0 a1 a2 s} (h : Acts z s) : ActsO z (execLaneExcludeWrite a0 a1 a2 s) := by
  unfold execLaneExcludeWrite
  exact actsO_next (acts_writeExclude h)
theorem acts_execPhotonicTempSample {z a0 a1 a2 s} (h : Acts z s) : ActsO z (execPhotonicTempSample a0 a1 a2 s) := by
  unfold execPhotonicTempSample
  exact actsO_next (acts_doPhotonicTemp h)
theorem acts_execSlewDrainDone {z a0 s} (h : Acts z s) : ActsO z (execSlewDrainDone a0 s) := by
  unfold execSlewDrainDone
  exact actsO_next (acts_doSlewDrain h)
theorem acts_execSlewPauseEnd {z a0 s} (h : Acts z s) : ActsO z (execSlewPauseEnd a0 s) := by
  unfold execSlewPauseEnd
  exact actsO_next (acts_doSlewEnd h)
theorem acts_execSyncInterval {z s} (h : Acts z s) : ActsO z (execSyncInterval s) := by
  unfold execSyncInterval
  exact actsO_next (acts_doSyncInterval h)
theorem acts_execSyncReceive {z a0 a1 a2 a3 s} (h : Acts z s) : ActsO z (execSyncReceive a0 a1 a2 a3 s) := by
  unfold execSyncReceive
  exact actsO_next (acts_sendTime (acts_sendTime h))
theorem acts_execFollowReceive {z a0 a1 a2 a3 s} (h : Acts z s) : ActsO z (execFollowReceive a0 a1 a2 a3 s) := by
  unfold execFollowReceive
  exact actsO_next (acts_doFollow h)
theorem acts_execReplyReceive {z a0 a1 a2 a3 s} (h : Acts z s) : ActsO z (execReplyReceive a0 a1 a2 a3 s) := by
  unfold execReplyReceive
  exact actsO_next (acts_doReply h)
theorem acts_execTimeExchangeTimeout {z s} (h : Acts z s) : ActsO z (execTimeExchangeTimeout s) := by
  unfold execTimeExchangeTimeout
  exact actsO_next (acts_doExchangeTimeout h)
theorem acts_execTimeWrap {z s} (h : Acts z s) : ActsO z (execTimeWrap s) := by
  unfold execTimeWrap
  exact actsO_next (acts_doWrap h)
theorem acts_execMasterLoss {z s} (h : Acts z s) : ActsO z (execMasterLoss s) := by
  unfold execMasterLoss
  exact actsO_next (acts_loseMaster h)
theorem acts_execHoldoverSwitchExpire {z s} (h : Acts z s) : ActsO z (execHoldoverSwitchExpire s) := by
  unfold execHoldoverSwitchExpire
  exact actsO_next (acts_doSwitchExpire h)
theorem acts_execSourceQualify {z a0 s} (h : Acts z s) : ActsO z (execSourceQualify a0 s) := by
  unfold execSourceQualify
  exact actsO_next (acts_doQualify h)
theorem acts_execTimePrioWrite {z a0 a1 s} (h : Acts z s) : ActsO z (execTimePrioWrite a0 a1 s) := by
  unfold execTimePrioWrite
  exact actsO_next (acts_writePrio h)
theorem acts_execPpsLoadWrite {z a0 s} (h : Acts z s) : ActsO z (execPpsLoadWrite a0 s) := by
  unfold execPpsLoadWrite
  exact actsO_next (acts_writePpsLoad h)
theorem acts_execPpsEdge {z s} (h : Acts z s) : ActsO z (execPpsEdge s) := by
  unfold execPpsEdge
  exact actsO_next (acts_doPpsEdge h)
theorem acts_execPpsLoss {z s} (h : Acts z s) : ActsO z (execPpsLoss s) := by
  unfold execPpsLoss
  exact actsO_next (acts_doPpsLoss h)
theorem acts_execPpsOutEdge {z s} (h : Acts z s) : ActsO z (execPpsOutEdge s) := by
  unfold execPpsOutEdge
  exact actsO_next (acts_doPpsOutEdge h)
theorem acts_execTimedLaunch {z a0 a1 s} (h : Acts z s) : ActsO z (execTimedLaunch a0 a1 s) := by
  unfold execTimedLaunch
  exact actsO_next (acts_doTimedLaunch h)
theorem acts_execTimedDrop {z a0 a1 s} (h : Acts z s) : ActsO z (execTimedDrop a0 a1 s) := by
  unfold execTimedDrop
  exact actsO_next (acts_doTimedDrop h)
theorem acts_execLanyardSlotCheck {z a0 a1 s} (h : Acts z s) : ActsO z (execLanyardSlotCheck a0 a1 s) := by
  unfold execLanyardSlotCheck
  exact actsO_next (acts_doSlotCheck h)
theorem acts_execLanyardSlotBoundary {z a0 a1 s} (h : Acts z s) : ActsO z (execLanyardSlotBoundary a0 a1 s) := by
  unfold execLanyardSlotBoundary
  exact actsO_next (acts_doSlotBoundary h)
theorem acts_execLanyardBurstReceive {z a0 a1 a2 a3 s} (h : Acts z s) :
    ActsO z (execLanyardBurstReceive a0 a1 a2 a3 s) := by
  unfold execLanyardBurstReceive
  exact actsO_next (acts_doBurst h)
theorem acts_execLanyardHoldoverExpire {z a0 a1 s} (h : Acts z s) : ActsO z (execLanyardHoldoverExpire a0 a1 s) := by
  unfold execLanyardHoldoverExpire
  exact actsO_next (acts_ite (acts_updLan h _ _ _) h)
theorem acts_execLanyardWaitExpire {z a0 a1 a2 s} (h : Acts z s) : ActsO z (execLanyardWaitExpire a0 a1 a2 s) := by
  unfold execLanyardWaitExpire
  exact actsO_next (acts_doWaitExpire h)
theorem acts_execLanyardToneDecision {z a0 a1 a2 a3 a4 a5 s} (h : Acts z s) :
    ActsO z (execLanyardToneDecision a0 a1 a2 a3 a4 a5 s) := by
  unfold execLanyardToneDecision
  exact actsO_next (acts_doToneDecision h)
theorem acts_execLanyardReseekDone {z a0 a1 a2 a3 a4 a5 s} (h : Acts z s) :
    ActsO z (execLanyardReseekDone a0 a1 a2 a3 a4 a5 s) := by
  unfold execLanyardReseekDone
  exact actsO_next (acts_doLanReseek h)
theorem acts_execLanyardRotaWrite {z a0 a1 a2 a3 a4 s} (h : Acts z s) :
    ActsO z (execLanyardRotaWrite a0 a1 a2 a3 a4 s) := by
  unfold execLanyardRotaWrite
  exact actsO_next (acts_stageRota h)
theorem acts_execLanyardTsArm {z a0 a1 s} (h : Acts z s) : ActsO z (execLanyardTsArm a0 a1 s) := by
  unfold execLanyardTsArm
  exact actsO_next (acts_armStrip h)
theorem acts_execLanyardTsStart {z a0 a1 s} (h : Acts z s) : ActsO z (execLanyardTsStart a0 a1 s) := by
  unfold execLanyardTsStart
  exact actsO_next (acts_doTsStart h)
theorem acts_execLanyardDiscoverySlot {z a0 a1 a2 a3 a4 a5 s} (h : Acts z s) :
    ActsO z (execLanyardDiscoverySlot a0 a1 a2 a3 a4 a5 s) := by
  unfold execLanyardDiscoverySlot
  exact actsO_next (acts_doDiscovery h)
theorem acts_execLanyardTsComplete {z a0 a1 s} (h : Acts z s) : ActsO z (execLanyardTsComplete a0 a1 s) := by
  unfold execLanyardTsComplete
  exact actsO_next (acts_doTsComplete h)
theorem acts_execFrameLookup {z a0 a1 s} (h : Acts z s) : ActsO z (execFrameLookup a0 a1 s) := by
  unfold execFrameLookup
  exact actsO_next (acts_doFrameLookup h)
theorem acts_execLearnInsert {z s} (h : Acts z s) : ActsO z (execLearnInsert s) := by
  unfold execLearnInsert
  exact actsO_next (acts_doLearnInsert h)
theorem acts_execTableScrubRead {z a0 a1 a2 a3 a4 s} (h : Acts z s) :
    ActsO z (execTableScrubRead a0 a1 a2 a3 a4 s) := by
  unfold execTableScrubRead
  exact actsO_next (acts_doScrubRead h)
theorem acts_execPartitionFenceWrite {z a0 a1 s} (h : Acts z s) : ActsO z (execPartitionFenceWrite a0 a1 s) := by
  unfold execPartitionFenceWrite
  exact actsO_next (acts_writeFence h)
theorem acts_execTxnBegin {z a0 s} (h : Acts z s) : ActsO z (execTxnBegin a0 s) := by
  unfold execTxnBegin
  exact actsO_next (acts_doBegin h)
theorem acts_execCommitNow {z a0 s} (h : Acts z s) : ActsO z (execCommitNow a0 s) := by
  unfold execCommitNow
  exact actsO_next (acts_doCommitNow h)
theorem acts_execCommitAt {z a0 s} (h : Acts z s) : ActsO z (execCommitAt a0 s) := by
  unfold execCommitAt
  exact actsO_next (acts_doCommitAt h)
theorem acts_execTxnAbort {z a0 s} (h : Acts z s) : ActsO z (execTxnAbort a0 s) := by
  unfold execTxnAbort
  exact actsO_next (acts_doAbort h)
theorem acts_execTxnFlip {z s} (h : Acts z s) : ActsO z (execTxnFlip s) := by
  unfold execTxnFlip
  exact actsO_next (acts_doFlip h)
theorem acts_execTxnCatchupDone {z s} (h : Acts z s) : ActsO z (execTxnCatchupDone s) := by
  unfold execTxnCatchupDone
  exact actsO_next (acts_doCatchupDone h)
theorem acts_execTxnAbortDone {z s} (h : Acts z s) : ActsO z (execTxnAbortDone s) := by
  unfold execTxnAbortDone
  exact actsO_next (acts_doAbortDone h)
theorem acts_execStagedRegWrite {z a0 a1 s} (h : Acts z s) : ActsO z (execStagedRegWrite a0 a1 s) := by
  unfold execStagedRegWrite
  exact actsO_next (acts_stagedWrite h)
theorem acts_execTblWrite {z a0 a1 s} (h : Acts z s) : ActsO z (execTblWrite a0 a1 s) := by
  unfold execTblWrite
  exact actsO_next (acts_tblGuard h (acts_tblWrite h))
theorem acts_execTblInsert {z a0 a1 s} (h : Acts z s) : ActsO z (execTblInsert a0 a1 s) := by
  unfold execTblInsert
  exact actsO_next (acts_tblGuard h (acts_tblInsert h))
theorem acts_execTblDelete {z a0 a1 s} (h : Acts z s) : ActsO z (execTblDelete a0 a1 s) := by
  unfold execTblDelete
  exact actsO_next (acts_tblGuard h (acts_tblDelete h))
theorem acts_execReadActive {z a0 a1 s} (h : Acts z s) : ActsO z (execReadActive a0 a1 s) := by
  unfold execReadActive
  exact actsO_next (acts_tblRead h)
theorem acts_execReadStaged {z a0 a1 s} (h : Acts z s) : ActsO z (execReadStaged a0 a1 s) := by
  unfold execReadStaged
  exact actsO_next (acts_tblRead h)
theorem acts_execDieTableCopy {z a0 s} (h : Acts z s) : ActsO z (execDieTableCopy a0 s) := by
  unfold execDieTableCopy
  exact actsO_next (acts_doDieCopy h)
theorem acts_execSchedulerSlot {z a0 s} (h : Acts z s) : ActsO z (execSchedulerSlot a0 s) := by
  unfold execSchedulerSlot
  exact actsO_next (acts_doSchedulerSlot h)
theorem acts_execDepthBroadcast {z a0 s} (h : Acts z s) : ActsO z (execDepthBroadcast a0 s) := by
  unfold execDepthBroadcast
  exact actsO_next (acts_doDepthBroadcast h)
theorem acts_execFrameEgressAdmit {z a0 s} (h : Acts z s) : ActsO z (execFrameEgressAdmit a0 s) := by
  unfold execFrameEgressAdmit
  exact actsO_next (acts_doEgressAdmit h)
theorem acts_execEgressWaitAdmit {z a0 s} (h : Acts z s) : ActsO z (execEgressWaitAdmit a0 s) := by
  unfold execEgressWaitAdmit
  exact actsO_next (acts_serveWaiters h)
theorem acts_execCutThroughUnderrun {z a0 a1 s} (h : Acts z s) : ActsO z (execCutThroughUnderrun a0 a1 s) := by
  unfold execCutThroughUnderrun
  exact actsO_next (acts_doUnderrun h)
theorem acts_execEgressSchedule {z a0 a1 s} (h : Acts z s) : ActsO z (execEgressSchedule a0 a1 s) := by
  unfold execEgressSchedule
  exact actsO_next (acts_doEgressSchedule h)
theorem acts_execPortDown {z a0 a1 s} (h : Acts z s) : ActsO z (execPortDown a0 a1 s) := by
  unfold execPortDown
  exact actsO_next (acts_portDown h)
theorem acts_execPortBack {z a0 a1 s} (h : Acts z s) : ActsO z (execPortBack a0 a1 s) := by
  unfold execPortBack
  exact actsO_next (acts_portBack h)
theorem acts_execPortHoldExpire {z a0 a1 s} (h : Acts z s) : ActsO z (execPortHoldExpire a0 a1 s) := by
  unfold execPortHoldExpire
  exact actsO_next (acts_holdExpire h)
theorem acts_execPortQuarantine {z a0 a1 s} (h : Acts z s) : ActsO z (execPortQuarantine a0 a1 s) := by
  unfold execPortQuarantine
  exact actsO_next (acts_writeQuarantine h)
theorem acts_execPortAdmit {z a0 a1 s} (h : Acts z s) : ActsO z (execPortAdmit a0 a1 s) := by
  unfold execPortAdmit
  exact actsO_next (acts_writeAdmit h)
theorem acts_execPortReserveWrite {z a0 a1 a2 a3 s} (h : Acts z s) : ActsO z (execPortReserveWrite a0 a1 a2 a3 s) := by
  unfold execPortReserveWrite
  exact actsO_next (acts_writeReserve h)
theorem acts_execBufConfigWrite {z a0 a1 a2 s} (h : Acts z s) : ActsO z (execBufConfigWrite a0 a1 a2 s) := by
  unfold execBufConfigWrite
  exact actsO_next (acts_writeBufConfig h)
theorem acts_execSpraySeedWrite {z a0 a1 s} (h : Acts z s) : ActsO z (execSpraySeedWrite a0 a1 s) := by
  unfold execSpraySeedWrite
  exact actsO_next (acts_writeSpraySeed h)
theorem acts_execShaperWrite {z a0 a1 a2 a3 s} (h : Acts z s) : ActsO z (execShaperWrite a0 a1 a2 a3 s) := by
  unfold execShaperWrite
  exact actsO_next (acts_writeShaper h)
theorem acts_execPolicerEnableWrite {z a0 a1 s} (h : Acts z s) : ActsO z (execPolicerEnableWrite a0 a1 s) := by
  unfold execPolicerEnableWrite
  exact actsO_next (acts_writePolicer0 h)
theorem acts_execCsRecordWrite {z a0 s} (h : Acts z s) : ActsO z (execCsRecordWrite a0 s) := by
  unfold execCsRecordWrite
  exact actsO_next (acts_doCsRecordWrite h)
theorem acts_execExposureNow {z a0 a1 s} (h : Acts z s) : ActsO z (execExposureNow a0 a1 s) := by
  unfold execExposureNow
  exact actsO_next (acts_opExposeNow h)
theorem acts_execExposureAt {z a0 a1 s} (h : Acts z s) : ActsO z (execExposureAt a0 a1 s) := by
  unfold execExposureAt
  exact actsO_next (acts_opExposeAt h)
theorem acts_execExposureCapture {z a0 s} (h : Acts z s) : ActsO z (execExposureCapture a0 s) := by
  unfold execExposureCapture
  exact actsO_next (acts_doExposureCapture h)
theorem acts_execExposureWriteDone {z a0 s} (h : Acts z s) : ActsO z (execExposureWriteDone a0 s) := by
  unfold execExposureWriteDone
  exact actsO_next (acts_doExposureWriteDone h)
theorem acts_execEngineFrameArrive {z a0 a1 a2 s} (h : Acts z s) : ActsO z (execEngineFrameArrive a0 a1 a2 s) := by
  unfold execEngineFrameArrive
  exact actsO_next (acts_hwOutside (acts_doEngineFrameArrive h))
theorem acts_execEngineDispatch {z a0 a1 a2 s} (h : Acts z s) : ActsO z (execEngineDispatch a0 a1 a2 s) := by
  unfold execEngineDispatch
  exact actsO_next (acts_hwOutside (acts_doEngineDispatch h))
theorem acts_execDispatchEnd {z a0 s} (h : Acts z s) : ActsO z (execDispatchEnd a0 s) := by
  unfold execDispatchEnd
  exact actsO_next (acts_doDispatchEnd h)
theorem acts_execDispatchBudget {z a0 s} (h : Acts z s) : ActsO z (execDispatchBudget a0 s) := by
  unfold execDispatchBudget
  exact actsO_next (acts_doDispatchBudget h)
theorem acts_execKnotTimerExpire {z a0 s} (h : Acts z s) : ActsO z (execKnotTimerExpire a0 s) := by
  unfold execKnotTimerExpire
  exact actsO_next (acts_doKnotTimerExpire h)
theorem acts_execEngineStart {z a0 a1 s} (h : Acts z s) : ActsO z (execEngineStart a0 a1 s) := by
  unfold execEngineStart
  exact actsO_next (acts_opEngineStart (acts_writeGateEn h))
theorem acts_execEngineStartCheckDone {z a0 s} (h : Acts z s) : ActsO z (execEngineStartCheckDone a0 s) := by
  unfold execEngineStartCheckDone
  exact actsO_next (acts_doStartCheckDone h)
theorem acts_execEngineHalt {z a0 a1 s} (h : Acts z s) : ActsO z (execEngineHalt a0 a1 s) := by
  unfold execEngineHalt
  exact actsO_next (acts_opEngineHalt (acts_writeGateEn h))
theorem acts_execEngineReset {z a0 a1 s} (h : Acts z s) : ActsO z (execEngineReset a0 a1 s) := by
  unfold execEngineReset
  exact actsO_next (acts_opEngineReset (acts_writeGateEn h))
theorem acts_execEngineResetDone {z a0 s} (h : Acts z s) : ActsO z (execEngineResetDone a0 s) := by
  unfold execEngineResetDone
  exact actsO_next (acts_ite (acts_enterHalted h) h)
theorem acts_execEngineLayoutWrite {z a0 a1 s} (h : Acts z s) : ActsO z (execEngineLayoutWrite a0 a1 s) := by
  unfold execEngineLayoutWrite
  exact actsO_next (acts_doEngineLayoutWrite h)
theorem acts_execEngineGate {z a0 s} (h : Acts z s) : ActsO z (execEngineGate a0 s) := by
  unfold execEngineGate
  exact actsO_next (acts_doEngineGate h)
theorem acts_execEngineWake {z a0 s} (h : Acts z s) : ActsO z (execEngineWake a0 s) := by
  unfold execEngineWake
  exact actsO_next (acts_doEngineWake h)
theorem acts_execNop {z a0 a1 s} (h : Acts z s) : ActsO z (execNop a0 a1 s) := by
  unfold execNop
  exact actsO_next (acts_runNop h)
theorem acts_execPld {z a0 a1 s} (h : Acts z s) : ActsO z (execPld a0 a1 s) := by
  unfold execPld
  exact actsO_next (acts_runSlot (fun x0 x1 x2 x3 h4 => acts_opPld h4) h)
theorem acts_execPst {z a0 a1 s} (h : Acts z s) : ActsO z (execPst a0 a1 s) := by
  unfold execPst
  exact actsO_next (acts_runSlot (fun x0 x1 x2 x3 h4 => acts_opPst h4) h)
theorem acts_execPsend {z a0 a1 s} (h : Acts z s) : ActsO z (execPsend a0 a1 s) := by
  unfold execPsend
  exact actsO_next (acts_runSlot (fun x0 x1 x2 x3 h4 => acts_opPsend h4) h)
theorem acts_execPret {z a0 a1 s} (h : Acts z s) : ActsO z (execPret a0 a1 s) := by
  unfold execPret
  exact actsO_next (acts_runSlot (fun x0 x1 x2 x3 h4 => acts_opPret h4) h)
theorem acts_execPacq {z a0 a1 s} (h : Acts z s) : ActsO z (execPacq a0 a1 s) := by
  unfold execPacq
  exact actsO_next (acts_runSlot (fun x0 x1 x2 x3 h4 => acts_opPacq h4) h)
theorem acts_execPrel {z a0 a1 s} (h : Acts z s) : ActsO z (execPrel a0 a1 s) := by
  unfold execPrel
  exact actsO_next (acts_runSlot (fun x0 x1 x2 x3 h4 => acts_opPrel h4) h)
theorem acts_execHget {z a0 a1 s} (h : Acts z s) : ActsO z (execHget a0 a1 s) := by
  unfold execHget
  exact actsO_next (acts_runSlot (fun x0 x1 x2 x3 h4 => acts_opHget h4) h)
theorem acts_execHput {z a0 a1 s} (h : Acts z s) : ActsO z (execHput a0 a1 s) := by
  unfold execHput
  exact actsO_next (acts_runSlot (fun x0 x1 x2 x3 h4 => acts_opHput h4) h)
theorem acts_execHunlk {z a0 a1 s} (h : Acts z s) : ActsO z (execHunlk a0 a1 s) := by
  unfold execHunlk
  exact actsO_next (acts_runSlot (fun x0 x1 x2 x3 h4 => acts_opHunlk h4) h)
theorem acts_execPldw {z a0 a1 s} (h : Acts z s) : ActsO z (execPldw a0 a1 s) := by
  unfold execPldw
  with_reducible exact actsO_next (acts_runSlot (fun x0 x1 x2 x3 h4 => acts_opPldw h4) h)
theorem acts_execMld {z a0 a1 s} (h : Acts z s) : ActsO z (execMld a0 a1 s) := by
  unfold execMld
  exact actsO_next (acts_runSlot (fun x0 x1 x2 x3 h4 => acts_opMld h4) h)
theorem acts_execMst {z a0 a1 s} (h : Acts z s) : ActsO z (execMst a0 a1 s) := by
  unfold execMst
  exact actsO_next (acts_runSlot (fun x0 x1 x2 x3 h4 => acts_opMst h4) h)
theorem acts_execMldx {z a0 a1 s} (h : Acts z s) : ActsO z (execMldx a0 a1 s) := by
  unfold execMldx
  exact actsO_next (acts_runSlot (fun x0 x1 x2 x3 h4 => acts_opMldx h4) h)
theorem acts_execMstx {z a0 a1 s} (h : Acts z s) : ActsO z (execMstx a0 a1 s) := by
  unfold execMstx
  exact actsO_next (acts_runSlot (fun x0 x1 x2 x3 h4 => acts_opMstx h4) h)
theorem acts_execVadd {z a0 a1 s} (h : Acts z s) : ActsO z (execVadd a0 a1 s) := by
  unfold execVadd
  exact actsO_next (acts_runSlot (fun x0 x1 x2 x3 h4 => acts_opVadd h4) h)
theorem acts_execVsub {z a0 a1 s} (h : Acts z s) : ActsO z (execVsub a0 a1 s) := by
  unfold execVsub
  exact actsO_next (acts_runSlot (fun x0 x1 x2 x3 h4 => acts_opVsub h4) h)
theorem acts_execVmul {z a0 a1 s} (h : Acts z s) : ActsO z (execVmul a0 a1 s) := by
  unfold execVmul
  exact actsO_next (acts_runSlot (fun x0 x1 x2 x3 h4 => acts_opVmul h4) h)
theorem acts_execVfma {z a0 a1 s} (h : Acts z s) : ActsO z (execVfma a0 a1 s) := by
  unfold execVfma
  exact actsO_next (acts_runSlot (fun x0 x1 x2 x3 h4 => acts_opVfma h4) h)
theorem acts_execVmin {z a0 a1 s} (h : Acts z s) : ActsO z (execVmin a0 a1 s) := by
  unfold execVmin
  exact actsO_next (acts_runSlot (fun x0 x1 x2 x3 h4 => acts_opVmin h4) h)
theorem acts_execVmax {z a0 a1 s} (h : Acts z s) : ActsO z (execVmax a0 a1 s) := by
  unfold execVmax
  exact actsO_next (acts_runSlot (fun x0 x1 x2 x3 h4 => acts_opVmax h4) h)
theorem acts_execVand {z a0 a1 s} (h : Acts z s) : ActsO z (execVand a0 a1 s) := by
  unfold execVand
  exact actsO_next (acts_runSlot (fun x0 x1 x2 x3 h4 => acts_opVand h4) h)
theorem acts_execVor {z a0 a1 s} (h : Acts z s) : ActsO z (execVor a0 a1 s) := by
  unfold execVor
  exact actsO_next (acts_runSlot (fun x0 x1 x2 x3 h4 => acts_opVor h4) h)
theorem acts_execVxor {z a0 a1 s} (h : Acts z s) : ActsO z (execVxor a0 a1 s) := by
  unfold execVxor
  exact actsO_next (acts_runSlot (fun x0 x1 x2 x3 h4 => acts_opVxor h4) h)
theorem acts_execVshl {z a0 a1 s} (h : Acts z s) : ActsO z (execVshl a0 a1 s) := by
  unfold execVshl
  exact actsO_next (acts_runSlot (fun x0 x1 x2 x3 h4 => acts_opVshl h4) h)
theorem acts_execVshr {z a0 a1 s} (h : Acts z s) : ActsO z (execVshr a0 a1 s) := by
  unfold execVshr
  exact actsO_next (acts_runSlot (fun x0 x1 x2 x3 h4 => acts_opVshr h4) h)
theorem acts_execVsra {z a0 a1 s} (h : Acts z s) : ActsO z (execVsra a0 a1 s) := by
  unfold execVsra
  exact actsO_next (acts_runSlot (fun x0 x1 x2 x3 h4 => acts_opVsra h4) h)
theorem acts_execVcmp {z a0 a1 s} (h : Acts z s) : ActsO z (execVcmp a0 a1 s) := by
  unfold execVcmp
  exact actsO_next (acts_runSlot (fun x0 x1 x2 x3 h4 => acts_opVcmp h4) h)
theorem acts_execVsel {z a0 a1 s} (h : Acts z s) : ActsO z (execVsel a0 a1 s) := by
  unfold execVsel
  exact actsO_next (acts_runSlot (fun x0 x1 x2 x3 h4 => acts_opVsel h4) h)
theorem acts_execVbcast {z a0 a1 s} (h : Acts z s) : ActsO z (execVbcast a0 a1 s) := by
  unfold execVbcast
  exact actsO_next (acts_runSlot (fun x0 x1 x2 x3 h4 => acts_opVbcast h4) h)
theorem acts_execVshuf {z a0 a1 s} (h : Acts z s) : ActsO z (execVshuf a0 a1 s) := by
  unfold execVshuf
  exact actsO_next (acts_runSlot (fun x0 x1 x2 x3 h4 => acts_opVshuf h4) h)
theorem acts_execVhred {z a0 a1 s} (h : Acts z s) : ActsO z (execVhred a0 a1 s) := by
  unfold execVhred
  exact actsO_next (acts_runSlot (fun x0 x1 x2 x3 h4 => acts_opVhred h4) h)
theorem acts_execVrcp {z a0 a1 s} (h : Acts z s) : ActsO z (execVrcp a0 a1 s) := by
  unfold execVrcp
  exact actsO_next (acts_runSlot (fun x0 x1 x2 x3 h4 => acts_opVrcp h4) h)
theorem acts_execVrsqrt {z a0 a1 s} (h : Acts z s) : ActsO z (execVrsqrt a0 a1 s) := by
  unfold execVrsqrt
  exact actsO_next (acts_runSlot (fun x0 x1 x2 x3 h4 => acts_opVrsqrt h4) h)
theorem acts_execVcvt {z a0 a1 s} (h : Acts z s) : ActsO z (execVcvt a0 a1 s) := by
  unfold execVcvt
  exact actsO_next (acts_runSlot (fun x0 x1 x2 x3 h4 => acts_opVcvt h4) h)
theorem acts_execVexp {z a0 a1 s} (h : Acts z s) : ActsO z (execVexp a0 a1 s) := by
  unfold execVexp
  exact actsO_next (acts_runSlot (fun x0 x1 x2 x3 h4 => acts_opVexp h4) h)
theorem acts_execVmxunpk {z a0 a1 s} (h : Acts z s) : ActsO z (execVmxunpk a0 a1 s) := by
  unfold execVmxunpk
  exact actsO_next (acts_runSlot (fun x0 x1 x2 x3 h4 => acts_opVmxunpk h4) h)
theorem acts_execVmxpk {z a0 a1 s} (h : Acts z s) : ActsO z (execVmxpk a0 a1 s) := by
  unfold execVmxpk
  exact actsO_next (acts_runSlot (fun x0 x1 x2 x3 h4 => acts_opVmxpk h4) h)
theorem acts_execVins {z a0 a1 s} (h : Acts z s) : ActsO z (execVins a0 a1 s) := by
  unfold execVins
  exact actsO_next (acts_runSlot (fun x0 x1 x2 x3 h4 => acts_opVins h4) h)
theorem acts_execAacc {z a0 a1 s} (h : Acts z s) : ActsO z (execAacc a0 a1 s) := by
  unfold execAacc
  exact actsO_next (acts_runSlot (fun x0 x1 x2 x3 h4 => acts_opAacc h4) h)
theorem acts_execAldw {z a0 a1 s} (h : Acts z s) : ActsO z (execAldw a0 a1 s) := by
  unfold execAldw
  exact actsO_next (acts_runSlot (fun x0 x1 x2 x3 h4 => acts_opAldw h4) h)
theorem acts_execAstw {z a0 a1 s} (h : Acts z s) : ActsO z (execAstw a0 a1 s) := by
  unfold execAstw
  exact actsO_next (acts_runSlot (fun x0 x1 x2 x3 h4 => acts_opAstw h4) h)
theorem acts_execAclr {z a0 a1 s} (h : Acts z s) : ActsO z (execAclr a0 a1 s) := by
  unfold execAclr
  exact actsO_next (acts_runSlot (fun x0 x1 x2 x3 h4 => acts_opAclr h4) h)
theorem acts_execArnd {z a0 a1 s} (h : Acts z s) : ActsO z (execArnd a0 a1 s) := by
  unfold execArnd
  exact actsO_next (acts_runSlot (fun x0 x1 x2 x3 h4 => acts_opArnd h4) h)
theorem acts_execAres {z a0 a1 s} (h : Acts z s) : ActsO z (execAres a0 a1 s) := by
  unfold execAres
  exact actsO_next (acts_runSlot (fun x0 x1 x2 x3 h4 => acts_opAres h4) h)
theorem acts_execAaddw {z a0 a1 s} (h : Acts z s) : ActsO z (execAaddw a0 a1 s) := by
  unfold execAaddw
  exact actsO_next (acts_runSlot (fun x0 x1 x2 x3 h4 => acts_opAaddw h4) h)
theorem acts_execSmrg {z a0 a1 s} (h : Acts z s) : ActsO z (execSmrg a0 a1 s) := by
  unfold execSmrg
  exact actsO_next (acts_runSlot (fun x0 x1 x2 x3 h4 => acts_opSmrg h4) h)
theorem acts_execSsort {z a0 a1 s} (h : Acts z s) : ActsO z (execSsort a0 a1 s) := by
  unfold execSsort
  exact actsO_next (acts_runSlot (fun x0 x1 x2 x3 h4 => acts_opSsort h4) h)
theorem acts_execSfind {z a0 a1 s} (h : Acts z s) : ActsO z (execSfind a0 a1 s) := by
  unfold execSfind
  exact actsO_next (acts_runSlot (fun x0 x1 x2 x3 h4 => acts_opSfind h4) h)
theorem acts_execAddOp {z a0 a1 s} (h : Acts z s) : ActsO z (execAddOp a0 a1 s) := by
  unfold execAddOp
  exact actsO_next (acts_runSlot (fun x0 x1 x2 x3 h4 => acts_opAdd h4) h)
theorem acts_execSubOp {z a0 a1 s} (h : Acts z s) : ActsO z (execSubOp a0 a1 s) := by
  unfold execSubOp
  exact actsO_next (acts_runSlot (fun x0 x1 x2 x3 h4 => acts_opSub h4) h)
theorem acts_execAndOp {z a0 a1 s} (h : Acts z s) : ActsO z (execAndOp a0 a1 s) := by
  unfold execAndOp
  exact actsO_next (acts_runSlot (fun x0 x1 x2 x3 h4 => acts_opAnd h4) h)
theorem acts_execOrOp {z a0 a1 s} (h : Acts z s) : ActsO z (execOrOp a0 a1 s) := by
  unfold execOrOp
  exact actsO_next (acts_runSlot (fun x0 x1 x2 x3 h4 => acts_opOr h4) h)
theorem acts_execXorOp {z a0 a1 s} (h : Acts z s) : ActsO z (execXorOp a0 a1 s) := by
  unfold execXorOp
  exact actsO_next (acts_runSlot (fun x0 x1 x2 x3 h4 => acts_opXor h4) h)
theorem acts_execShl {z a0 a1 s} (h : Acts z s) : ActsO z (execShl a0 a1 s) := by
  unfold execShl
  exact actsO_next (acts_runSlot (fun x0 x1 x2 x3 h4 => acts_opShl h4) h)
theorem acts_execShr {z a0 a1 s} (h : Acts z s) : ActsO z (execShr a0 a1 s) := by
  unfold execShr
  exact actsO_next (acts_runSlot (fun x0 x1 x2 x3 h4 => acts_opShr h4) h)
theorem acts_execSra {z a0 a1 s} (h : Acts z s) : ActsO z (execSra a0 a1 s) := by
  unfold execSra
  exact actsO_next (acts_runSlot (fun x0 x1 x2 x3 h4 => acts_opSra h4) h)
theorem acts_execMulOp {z a0 a1 s} (h : Acts z s) : ActsO z (execMulOp a0 a1 s) := by
  unfold execMulOp
  exact actsO_next (acts_runSlot (fun x0 x1 x2 x3 h4 => acts_opMul h4) h)
theorem acts_execAddi {z a0 a1 s} (h : Acts z s) : ActsO z (execAddi a0 a1 s) := by
  unfold execAddi
  exact actsO_next (acts_runSlot (fun x0 x1 x2 x3 h4 => acts_opAddi h4) h)
theorem acts_execLi {z a0 a1 s} (h : Acts z s) : ActsO z (execLi a0 a1 s) := by
  unfold execLi
  exact actsO_next (acts_runSlot (fun x0 x1 x2 x3 h4 => acts_opLi h4) h)
theorem acts_execAddm {z a0 a1 s} (h : Acts z s) : ActsO z (execAddm a0 a1 s) := by
  unfold execAddm
  exact actsO_next (acts_runSlot (fun x0 x1 x2 x3 h4 => acts_opAddm h4) h)
theorem acts_execCmp {z a0 a1 s} (h : Acts z s) : ActsO z (execCmp a0 a1 s) := by
  unfold execCmp
  exact actsO_next (acts_runSlot (fun x0 x1 x2 x3 h4 => acts_opCmp h4) h)
theorem acts_execCmpi {z a0 a1 s} (h : Acts z s) : ActsO z (execCmpi a0 a1 s) := by
  unfold execCmpi
  exact actsO_next (acts_runSlot (fun x0 x1 x2 x3 h4 => acts_opCmpi h4) h)
theorem acts_execExtOp {z a0 a1 s} (h : Acts z s) : ActsO z (execExtOp a0 a1 s) := by
  unfold execExtOp
  exact actsO_next (acts_runSlot (fun x0 x1 x2 x3 h4 => acts_opExt h4) h)
theorem acts_execVx {z a0 a1 s} (h : Acts z s) : ActsO z (execVx a0 a1 s) := by
  unfold execVx
  exact actsO_next (acts_runSlot (fun x0 x1 x2 x3 h4 => acts_opVx h4) h)
theorem acts_execPmov {z a0 a1 s} (h : Acts z s) : ActsO z (execPmov a0 a1 s) := by
  unfold execPmov
  exact actsO_next (acts_runSlot (fun x0 x1 x2 x3 h4 => acts_opPmov h4) h)
theorem acts_execXp {z a0 a1 s} (h : Acts z s) : ActsO z (execXp a0 a1 s) := by
  unfold execXp
  exact actsO_next (acts_runSlot (fun x0 x1 x2 x3 h4 => acts_opXp h4) h)
theorem acts_execPlog {z a0 a1 s} (h : Acts z s) : ActsO z (execPlog a0 a1 s) := by
  unfold execPlog
  exact actsO_next (acts_runSlot (fun x0 x1 x2 x3 h4 => acts_opPlog h4) h)
theorem acts_execBr {z a0 a1 s} (h : Acts z s) : ActsO z (execBr a0 a1 s) := by
  unfold execBr
  exact actsO_next (acts_runSlot (fun x0 x1 x2 x3 h4 => acts_opBr h4) h)
theorem acts_execJal {z a0 a1 s} (h : Acts z s) : ActsO z (execJal a0 a1 s) := by
  unfold execJal
  exact actsO_next (acts_runSlot (fun x0 x1 x2 x3 h4 => acts_opJal h4) h)
theorem acts_execJr {z a0 a1 s} (h : Acts z s) : ActsO z (execJr a0 a1 s) := by
  unfold execJr
  exact actsO_next (acts_runSlot (fun x0 x1 x2 x3 h4 => acts_opJr h4) h)
theorem acts_execEndOp {z a0 a1 s} (h : Acts z s) : ActsO z (execEndOp a0 a1 s) := by
  unfold execEndOp
  exact actsO_next (acts_runSlot (fun x0 x1 x2 x3 h4 => acts_opEnd h4) h)
theorem acts_execKarr {z a0 a1 s} (h : Acts z s) : ActsO z (execKarr a0 a1 s) := by
  unfold execKarr
  exact actsO_next (acts_runSlot (fun x0 x1 x2 x3 h4 => acts_opKarr h4) h)
theorem acts_execKcsum {z a0 a1 s} (h : Acts z s) : ActsO z (execKcsum a0 a1 s) := by
  unfold execKcsum
  exact actsO_next (acts_runSlot (fun x0 x1 x2 x3 h4 => acts_opKcsum h4) h)
theorem acts_execKseal {z a0 a1 s} (h : Acts z s) : ActsO z (execKseal a0 a1 s) := by
  unfold execKseal
  exact actsO_next (acts_runSlot (fun x0 x1 x2 x3 h4 => acts_opKseal h4) h)
theorem acts_execKfail {z a0 a1 s} (h : Acts z s) : ActsO z (execKfail a0 a1 s) := by
  unfold execKfail
  exact actsO_next (acts_runSlot (fun x0 x1 x2 x3 h4 => acts_opKfail h4) h)
theorem acts_execKfree {z a0 a1 s} (h : Acts z s) : ActsO z (execKfree a0 a1 s) := by
  unfold execKfree
  exact actsO_next (acts_runSlot (fun x0 x1 x2 x3 h4 => acts_opKfree h4) h)
theorem acts_execKrd {z a0 a1 s} (h : Acts z s) : ActsO z (execKrd a0 a1 s) := by
  unfold execKrd
  exact actsO_next (acts_runSlot (fun x0 x1 x2 x3 h4 => acts_opKrd h4) h)
theorem acts_execKwr {z a0 a1 s} (h : Acts z s) : ActsO z (execKwr a0 a1 s) := by
  unfold execKwr
  exact actsO_next (acts_runSlot (fun x0 x1 x2 x3 h4 => acts_opKwr h4) h)
theorem acts_execKtimer {z a0 a1 s} (h : Acts z s) : ActsO z (execKtimer a0 a1 s) := by
  unfold execKtimer
  exact actsO_next (acts_runSlot (fun x0 x1 x2 x3 h4 => acts_opKtimer h4) h)
theorem acts_execSanc {z a0 a1 s} (h : Acts z s) : ActsO z (execSanc a0 a1 s) := by
  unfold execSanc
  exact actsO_next (acts_runSlot (fun x0 x1 x2 x3 h4 => acts_opSanc h4) h)
theorem acts_execAstat {z a0 a1 s} (h : Acts z s) : ActsO z (execAstat a0 a1 s) := by
  unfold execAstat
  exact actsO_next (acts_runSlot (fun x0 x1 x2 x3 h4 => acts_opAstat h4) h)
theorem acts_execRdres {z a0 a1 s} (h : Acts z s) : ActsO z (execRdres a0 a1 s) := by
  unfold execRdres
  exact actsO_next (acts_runSlot (fun x0 x1 x2 x3 h4 => acts_opRdres h4) h)
theorem acts_execWaitOp {z a0 a1 s} (h : Acts z s) : ActsO z (execWaitOp a0 a1 s) := by
  unfold execWaitOp
  exact actsO_next (acts_runSlot (fun x0 x1 x2 x3 h4 => acts_opWait h4) h)
theorem acts_execHstat {z a0 a1 s} (h : Acts z s) : ActsO z (execHstat a0 a1 s) := by
  unfold execHstat
  exact actsO_next (acts_runSlot (fun x0 x1 x2 x3 h4 => acts_opHstat h4) h)
theorem acts_execRdcyc {z a0 a1 s} (h : Acts z s) : ActsO z (execRdcyc a0 a1 s) := by
  unfold execRdcyc
  exact actsO_next (acts_runSlot (fun x0 x1 x2 x3 h4 => acts_opRdcyc h4) h)
theorem acts_execRdtime {z a0 a1 s} (h : Acts z s) : ActsO z (execRdtime a0 a1 s) := by
  unfold execRdtime
  exact actsO_next (acts_runSlot (fun x0 x1 x2 x3 h4 => acts_opRdtime h4) h)
theorem acts_execHoldOpComplete {z a0 a1 a2 s} (h : Acts z s) : ActsO z (execHoldOpComplete a0 a1 a2 s) := by
  unfold execHoldOpComplete
  exact actsO_next (acts_doHoldOpComplete h)
theorem acts_execKnotLoad {z a0 a1 s} (h : Acts z s) : ActsO z (execKnotLoad a0 a1 s) := by
  unfold execKnotLoad
  exact actsO_next (acts_opKnotLoad h)
theorem acts_execKnotCmdFlush {z a0 a1 s} (h : Acts z s) : ActsO z (execKnotCmdFlush a0 a1 s) := by
  unfold execKnotCmdFlush
  exact actsO_next (acts_opKnotFlush h)
theorem acts_execKnotUnload {z a0 a1 s} (h : Acts z s) : ActsO z (execKnotUnload a0 a1 s) := by
  unfold execKnotUnload
  exact actsO_next (acts_opKnotUnload h)
theorem acts_execKnotRead {z a0 a1 s} (h : Acts z s) : ActsO z (execKnotRead a0 a1 s) := by
  unfold execKnotRead
  exact actsO_next (acts_opKnotRead h)
theorem acts_execKnotAdvance {z a0 a1 s} (h : Acts z s) : ActsO z (execKnotAdvance a0 a1 s) := by
  unfold execKnotAdvance
  exact actsO_next (acts_opKnotAdvance h)
theorem acts_execSetAnchor {z a0 a1 s} (h : Acts z s) : ActsO z (execSetAnchor a0 a1 s) := by
  unfold execSetAnchor
  exact actsO_next (acts_opKnotAnchor h)
theorem acts_execDrainMarkerReceive {z a0 a1 s} (h : Acts z s) : ActsO z (execDrainMarkerReceive a0 a1 s) := by
  unfold execDrainMarkerReceive
  exact actsO_next (acts_doDrainMarker h)
theorem acts_execKnotFlushDone {z a0 s} (h : Acts z s) : ActsO z (execKnotFlushDone a0 s) := by
  unfold execKnotFlushDone
  exact actsO_next (acts_doFlushDone h)
theorem acts_execKnotFrameAdmit {z a0 s} (h : Acts z s) : ActsO z (execKnotFrameAdmit a0 s) := by
  unfold execKnotFrameAdmit
  exact actsO_next (acts_doKnotFrameAdmit h)
theorem acts_execBroadcastStatus {z a0 s} (h : Acts z s) : ActsO z (execBroadcastStatus a0 s) := by
  unfold execBroadcastStatus
  exact actsO_next (acts_doBroadcastStatus h)
theorem acts_execXchkAdd {z a0 a1 s} (h : Acts z s) : ActsO z (execXchkAdd a0 a1 s) := by
  unfold execXchkAdd
  exact actsO_next (acts_doXchkAdd h)
theorem acts_execXchkCompare {z a0 s} (h : Acts z s) : ActsO z (execXchkCompare a0 s) := by
  unfold execXchkCompare
  exact actsO_next (acts_doXchkCompare h)
theorem acts_execXchkAbandonTimeout {z a0 s} (h : Acts z s) : ActsO z (execXchkAbandonTimeout a0 s) := by
  unfold execXchkAbandonTimeout
  exact actsO_next (acts_doXchkTimeout h)
theorem acts_execHoldGatherServe {z a0 s} (h : Acts z s) : ActsO z (execHoldGatherServe a0 s) := by
  unfold execHoldGatherServe
  exact actsO_next (acts_doHoldGatherServe h)
theorem acts_execHoldGatherResponse {z a0 a1 a2 s} (h : Acts z s) : ActsO z (execHoldGatherResponse a0 a1 a2 s) := by
  unfold execHoldGatherResponse
  exact actsO_next (acts_doHoldGatherResponse h)
theorem acts_execHoldLockGrant {z a0 s} (h : Acts z s) : ActsO z (execHoldLockGrant a0 s) := by
  unfold execHoldLockGrant
  exact actsO_next (acts_doHoldLockGrant h)
theorem acts_execHoldTxnCommit {z a0 s} (h : Acts z s) : ActsO z (execHoldTxnCommit a0 s) := by
  unfold execHoldTxnCommit
  exact actsO_next (acts_doHoldTxnCommit h)
theorem acts_execScatterStatus {z a0 s} (h : Acts z s) : ActsO z (execScatterStatus a0 s) := by
  unfold execScatterStatus
  exact actsO_next (acts_doScatterStatus h)
theorem acts_execHoldScrub {z a0 a1 s} (h : Acts z s) : ActsO z (execHoldScrub a0 a1 s) := by
  unfold execHoldScrub
  exact actsO_next (acts_doHoldScrub h)
theorem acts_execHoldEnable {z a0 a1 s} (h : Acts z s) : ActsO z (execHoldEnable a0 a1 s) := by
  unfold execHoldEnable
  exact actsO_next (acts_writeHoldCtrl h)
theorem acts_execHoldClearDone {z a0 s} (h : Acts z s) : ActsO z (execHoldClearDone a0 s) := by
  unfold execHoldClearDone
  exact actsO_next (acts_doHoldClearDone h)
theorem acts_execHoldConfigWrite {z a0 a1 a2 s} (h : Acts z s) : ActsO z (execHoldConfigWrite a0 a1 a2 s) := by
  unfold execHoldConfigWrite
  exact actsO_next (acts_writeHoldReg h)
theorem acts_execHoldDieLoss {z a0 s} (h : Acts z s) : ActsO z (execHoldDieLoss a0 s) := by
  unfold execHoldDieLoss
  exact actsO_next (acts_doHoldDieLoss h)
theorem acts_execLogbookWrite {z s} (h : Acts z s) : ActsO z (execLogbookWrite s) := by
  unfold execLogbookWrite
  exact actsO_next (acts_doLogbookWrite h)
theorem acts_execLogbookHeartbeat {z s} (h : Acts z s) : ActsO z (execLogbookHeartbeat s) := by
  unfold execLogbookHeartbeat
  split
  · exact actsO_next h
  · split
    · rename_i y0 y1 y2 y3
      have h4 := acts_of_snd y3 (acts_drawFree h _)
      exact actsO_next (acts_fileRec (acts_mk h4))
theorem acts_execFaultNoticeSend {z s} (h : Acts z s) : ActsO z (execFaultNoticeSend s) := by
  unfold execFaultNoticeSend
  exact actsO_next (acts_doNoticeSend h)
theorem acts_execFaultNoticeResend {z a0 s} (h : Acts z s) : ActsO z (execFaultNoticeResend a0 s) := by
  unfold execFaultNoticeResend
  exact actsO_next (acts_doNoticeResend h)
theorem acts_execSelfTestSlice {z a0 a1 a2 a3 s} (h : Acts z s) : ActsO z (execSelfTestSlice a0 a1 a2 a3 s) := by
  unfold execSelfTestSlice
  exact actsO_next (acts_doSelfTestSlice h)
theorem acts_execIntegLogTimeWrite {z a0 s} (h : Acts z s) : ActsO z (execIntegLogTimeWrite a0 s) := by
  unfold execIntegLogTimeWrite
  exact actsO_next (acts_writeLogTime h)
theorem acts_execUnitQuery {z a0 s} (h : Acts z s) : ActsO z (execUnitQuery a0 s) := by
  unfold execUnitQuery
  exact actsO_next (acts_opUnitQuery h)
theorem acts_execUnitRetire {z a0 s} (h : Acts z s) : ActsO z (execUnitRetire a0 s) := by
  unfold execUnitRetire
  exact actsO_next (acts_opUnitRetire h)
theorem acts_execUnitRestore {z a0 s} (h : Acts z s) : ActsO z (execUnitRestore a0 s) := by
  unfold execUnitRestore
  exact actsO_next (acts_opUnitRestore h)
theorem acts_execCmdRingTailWrite {z a0 s} (h : Acts z s) : ActsO z (execCmdRingTailWrite a0 s) := by
  unfold execCmdRingTailWrite
  exact actsO_next (acts_writeCmdTail h)
theorem acts_execCmdFetch {z a0 s} (h : Acts z s) : ActsO z (execCmdFetch a0 s) := by
  unfold execCmdFetch
  exact actsO_next (acts_doCmdFetch h)
theorem acts_execCompletionWrite {z s} (h : Acts z s) : ActsO z (execCompletionWrite s) := by
  unfold execCompletionWrite
  exact actsO_next (acts_doCompletionWrite h)
theorem acts_execCplRingHeadWrite {z a0 s} (h : Acts z s) : ActsO z (execCplRingHeadWrite a0 s) := by
  unfold execCplRingHeadWrite
  exact actsO_next (acts_writeCplHead h)
theorem acts_execRingEnableWrite {z a0 a1 s} (h : Acts z s) : ActsO z (execRingEnableWrite a0 a1 s) := by
  unfold execRingEnableWrite
  exact actsO_next (acts_ite (acts_writeCplCtrl h) (acts_writeCmdCtrl h))
theorem acts_execCmdNop {z a0 s} (h : Acts z s) : ActsO z (execCmdNop a0 s) := by
  unfold execCmdNop
  exact actsO_next (acts_shortCmd (fun x0 x1 h2 => acts_finishShort h2) h)
theorem acts_execInject {z a0 s} (h : Acts z s) : ActsO z (execInject a0 s) := by
  unfold execInject
  exact actsO_next (acts_shortCmd (fun x0 x1 h2 => acts_opInject h2) h)
theorem acts_execTestStrip {z a0 s} (h : Acts z s) : ActsO z (execTestStrip a0 s) := by
  unfold execTestStrip
  exact actsO_next (acts_longOp (fun x0 x1 h2 => acts_opTestStrip h2) h)
theorem acts_execSelfTest {z a0 a1 s} (h : Acts z s) : ActsO z (execSelfTest a0 a1 s) := by
  unfold execSelfTest
  exact actsO_next (acts_longOp (fun x0 x1 h2 => acts_opSelfTest h2) h)
theorem acts_execTableScrub {z a0 s} (h : Acts z s) : ActsO z (execTableScrub a0 s) := by
  unfold execTableScrub
  exact actsO_next (acts_longOp (fun x0 x1 h2 => acts_opTableScrub h2) h)
theorem acts_execHoldLoad {z a0 s} (h : Acts z s) : ActsO z (execHoldLoad a0 s) := by
  unfold execHoldLoad
  exact actsO_next (acts_longOp (fun x0 x1 h2 => acts_opHoldLoad h2) h)
theorem acts_execHoldCheckpoint {z a0 s} (h : Acts z s) : ActsO z (execHoldCheckpoint a0 s) := by
  unfold execHoldCheckpoint
  exact actsO_next (acts_longOp (fun x0 x1 h2 => acts_opHoldCheckpoint h2) h)
theorem acts_execKnotFlush {z a0 s} (h : Acts z s) : ActsO z (execKnotFlush a0 s) := by
  unfold execKnotFlush
  exact actsO_next (acts_longOp (fun x0 x1 h2 => acts_opKnotFlushLong h2) h)
theorem acts_execFwUpdate {z a0 s} (h : Acts z s) : ActsO z (execFwUpdate a0 s) := by
  unfold execFwUpdate
  exact actsO_next (acts_longOp (fun x0 x1 h2 => acts_opFwUpdate h2) h)
theorem acts_execAttest {z a0 s} (h : Acts z s) : ActsO z (execAttest a0 s) := by
  unfold execAttest
  exact actsO_next (acts_longOp (fun x0 x1 h2 => acts_opAttest h2) h)
theorem acts_execLogbookRead {z a0 s} (h : Acts z s) : ActsO z (execLogbookRead a0 s) := by
  unfold execLogbookRead
  exact actsO_next (acts_longOp (fun x0 x1 h2 => acts_opLogbookRead h2) h)
theorem acts_execSuspend {z a0 s} (h : Acts z s) : ActsO z (execSuspend a0 s) := by
  unfold execSuspend
  exact actsO_next (acts_shortCmd (fun x0 x1 h2 => acts_opSuspend h2) h)
theorem acts_execResume {z a0 s} (h : Acts z s) : ActsO z (execResume a0 s) := by
  unfold execResume
  exact actsO_next (acts_shortCmd (fun x0 x1 h2 => acts_opResume h2) h)
theorem acts_execCancel {z a0 s} (h : Acts z s) : ActsO z (execCancel a0 s) := by
  unfold execCancel
  exact actsO_next (acts_shortCmd (fun x0 x1 h2 => acts_opCancel h2) h)
theorem acts_execSuspendPointReached {z a0 s} (h : Acts z s) : ActsO z (execSuspendPointReached a0 s) := by
  unfold execSuspendPointReached
  exact actsO_next (acts_doSuspendPoint h)
theorem acts_execLongOpComplete {z a0 a1 s} (h : Acts z s) : ActsO z (execLongOpComplete a0 a1 s) := by
  unfold execLongOpComplete
  exact actsO_next (acts_doLongOpComplete h)
theorem acts_execMsixUnmask {z a0 s} (h : Acts z s) : ActsO z (execMsixUnmask a0 s) := by
  unfold execMsixUnmask
  exact actsO_next (acts_unmask h)
theorem acts_execBar2Read {z a0 a1 a2 s} (h : Acts z s) : ActsO z (execBar2Read a0 a1 a2 s) := by
  unfold execBar2Read
  split
  · rename_i y0 y1 y2 y3 y4
    have h5 := acts_of_snd2 y4 (acts_devRead h)
    exact actsO_next (acts_emit h5 _)
theorem acts_execBar2Write {z a0 a1 s} (h : Acts z s) : ActsO z (execBar2Write a0 a1 s) := by
  unfold execBar2Write
  extract_lets +onlyGivenNames u0
  clear_value u0
  extract_lets +onlyGivenNames u1
  clear_value u1
  extract_lets +onlyGivenNames u2
  have h3 : Acts z u2 := acts_devWrite h
  clear_value u2
  exact actsO_next (acts_ite (acts_countF h3) h3)
theorem acts_execBar2WindowWrite {z a0 s} (h : Acts z s) : ActsO z (execBar2WindowWrite a0 s) := by
  unfold execBar2WindowWrite
  exact actsO_next (acts_writeWindow h)
theorem acts_execDmaChTailWrite {z a0 a1 s} (h : Acts z s) : ActsO z (execDmaChTailWrite a0 a1 s) := by
  unfold execDmaChTailWrite
  exact actsO_next (acts_writeDmaTail h)
theorem acts_execDmaRunWrite {z a0 a1 s} (h : Acts z s) : ActsO z (execDmaRunWrite a0 a1 s) := by
  unfold execDmaRunWrite
  exact actsO_next (acts_writeDmaCtrl h)
theorem acts_execDmaDescFetch {z a0 a1 a2 s} (h : Acts z s) : ActsO z (execDmaDescFetch a0 a1 a2 s) := by
  unfold execDmaDescFetch
  exact actsO_next (acts_doDmaFetch h)
theorem acts_execDmaDescComplete {z a0 s} (h : Acts z s) : ActsO z (execDmaDescComplete a0 s) := by
  unfold execDmaDescComplete
  exact actsO_next (acts_doDmaComplete h)
theorem acts_execDmaShadowArm {z a0 s} (h : Acts z s) : ActsO z (execDmaShadowArm a0 s) := by
  unfold execDmaShadowArm
  exact actsO_next (acts_armShadow h)
theorem acts_execDmaShadowHandover {z a0 a1 s} (h : Acts z s) : ActsO z (execDmaShadowHandover a0 a1 s) := by
  unfold execDmaShadowHandover
  exact actsO_next (acts_doHandover h)
theorem acts_execPerstAssert {z s} (h : Acts z s) : ActsO z (execPerstAssert s) := by
  unfold execPerstAssert
  exact actsO_next (acts_doPerstAssert h)
theorem acts_execPerstDeassert {z s} (h : Acts z s) : ActsO z (execPerstDeassert s) := by
  unfold execPerstDeassert
  exact actsO_next (acts_doPerstDeassert h)
theorem acts_execPcieHotReset {z s} (h : Acts z s) : ActsO z (execPcieHotReset s) := by
  unfold execPcieHotReset
  exact actsO_next (acts_doHotReset h)
theorem acts_execMgmtWatchdog {z s} (h : Acts z s) : ActsO z (execMgmtWatchdog s) := by
  unfold execMgmtWatchdog
  exact actsO_next (acts_doWatchdog h)
theorem acts_execBootRomStart {z s} (h : Acts z s) : ActsO z (execBootRomStart s) := by
  unfold execBootRomStart
  exact actsO_next (acts_doBootRom h)
theorem acts_execStage1Done {z s} (h : Acts z s) : ActsO z (execStage1Done s) := by
  unfold execStage1Done
  exact actsO_next (acts_doStage1 h)
theorem acts_execBootLockWrite {z a0 s} (h : Acts z s) : ActsO z (execBootLockWrite a0 s) := by
  unfold execBootLockWrite
  exact actsO_next (acts_writeBootLock h)
theorem acts_execIdentityReady {z a0 a1 s} (h : Acts z s) : ActsO z (execIdentityReady a0 a1 s) := by
  unfold execIdentityReady
  exact actsO_next (acts_doIdentity h)
theorem acts_execFwConfirm {z s} (h : Acts z s) : ActsO z (execFwConfirm s) := by
  unfold execFwConfirm
  exact actsO_next (acts_doConfirm h)
theorem acts_execFwActivateRestart {z s} (h : Acts z s) : ActsO z (execFwActivateRestart s) := by
  unfold execFwActivateRestart
  exact actsO_next (acts_doActivate h)
theorem acts_execRecoveryGo {z a0 s} (h : Acts z s) : ActsO z (execRecoveryGo a0 s) := by
  unfold execRecoveryGo
  exact actsO_next (acts_writeRecovery h)
theorem acts_execMgmtFrameReceive {z a0 s} (h : Acts z s) : ActsO z (execMgmtFrameReceive a0 s) := by
  unfold execMgmtFrameReceive
  exact actsO_next (acts_doMgmtFrame h)
theorem acts_execMgmtLinkChange {z a0 s} (h : Acts z s) : ActsO z (execMgmtLinkChange a0 s) := by
  unfold execMgmtLinkChange
  exact actsO_next (acts_doMgmtLink h)
theorem acts_execEcho {z s} (h : Acts z s) : ActsO z (execEcho s) := by
  unfold execEcho
  exact actsO_next (acts_serveReq (fun x0 x1 h2 => acts_reqEcho h2) h)
theorem acts_execNoticeAck {z s} (h : Acts z s) : ActsO z (execNoticeAck s) := by
  unfold execNoticeAck
  exact actsO_next (acts_serveReq (fun x0 x1 h2 => acts_reqNoticeAck h2) h)
theorem acts_execRegRead {z s} (h : Acts z s) : ActsO z (execRegRead s) := by
  unfold execRegRead
  exact actsO_next (acts_serveReq (fun x0 x1 h2 => acts_reqRegRead h2) h)
theorem acts_execRegWrite {z s} (h : Acts z s) : ActsO z (execRegWrite s) := by
  unfold execRegWrite
  exact actsO_next (acts_serveReq (fun x0 x1 h2 => acts_reqRegWrite h2) h)
theorem acts_execMgmtLogbookRead {z s} (h : Acts z s) : ActsO z (execMgmtLogbookRead s) := by
  unfold execMgmtLogbookRead
  exact actsO_next (acts_serveReq (fun x0 x1 h2 => acts_reqLogbook h2) h)
theorem acts_execKeyRotate {z s} (h : Acts z s) : ActsO z (execKeyRotate s) := by
  unfold execKeyRotate
  exact actsO_next (acts_serveReq (fun x0 x1 h2 => acts_reqKeyRotate h2) h)
theorem acts_execWakeDatagram {z a0 s} (h : Acts z s) : ActsO z (execWakeDatagram a0 s) := by
  unfold execWakeDatagram
  exact actsO_next (acts_doWakeDatagram h)
theorem acts_execSessionKeyWrite {z a0 a1 s} (h : Acts z s) : ActsO z (execSessionKeyWrite a0 a1 s) := by
  unfold execSessionKeyWrite
  exact actsO_next (acts_writeKeyWord h)
theorem acts_execEntdaa {z a0 a1 s} (h : Acts z s) : ActsO z (execEntdaa a0 a1 s) := by
  unfold execEntdaa
  exact actsO_next (acts_doEntdaa h)
theorem acts_execRstdaa {z s} (h : Acts z s) : ActsO z (execRstdaa s) := by
  unfold execRstdaa
  exact actsO_next (acts_doRstdaa h)
theorem acts_execSetnewda {z a0 s} (h : Acts z s) : ActsO z (execSetnewda a0 s) := by
  unfold execSetnewda
  exact actsO_next (acts_ite (acts_setDynAddr h) h)
theorem acts_execGetpid {z s} (h : Acts z s) : ActsO z (execGetpid s) := by
  unfold execGetpid
  exact actsO_next (acts_i3cReturn h)
theorem acts_execGetbcr {z s} (h : Acts z s) : ActsO z (execGetbcr s) := by
  unfold execGetbcr
  exact actsO_next (acts_i3cReturn h)
theorem acts_execGetdcr {z s} (h : Acts z s) : ActsO z (execGetdcr s) := by
  unfold execGetdcr
  exact actsO_next (acts_i3cReturn h)
theorem acts_execGetstatus {z s} (h : Acts z s) : ActsO z (execGetstatus s) := by
  unfold execGetstatus
  refine actsO_next ?_
  split
  · rename_i y0 y1 y2 y3
    have h4 := acts_of_snd y3 (acts_drawFree h _)
    exact acts_i3cReturn h4
theorem acts_execGetmwl {z s} (h : Acts z s) : ActsO z (execGetmwl s) := by
  unfold execGetmwl
  exact actsO_next (acts_i3cReturn h)
theorem acts_execGetmrl {z s} (h : Acts z s) : ActsO z (execGetmrl s) := by
  unfold execGetmrl
  exact actsO_next (acts_i3cReturn h)
theorem acts_execSetmwl {z a0 a1 s} (h : Acts z s) : ActsO z (execSetmwl a0 a1 s) := by
  unfold execSetmwl
  exact actsO_next (acts_ite (acts_updMgmt h) h)
theorem acts_execSetmrl {z a0 a1 s} (h : Acts z s) : ActsO z (execSetmrl a0 a1 s) := by
  unfold execSetmrl
  exact actsO_next (acts_ite (acts_updMgmt h) h)
theorem acts_execEnec {z a0 a1 s} (h : Acts z s) : ActsO z (execEnec a0 a1 s) := by
  unfold execEnec
  exact actsO_next (acts_ite (acts_setF h _ _ _) h)
theorem acts_execDisec {z a0 a1 s} (h : Acts z s) : ActsO z (execDisec a0 a1 s) := by
  unfold execDisec
  exact actsO_next (acts_ite (acts_setF h _ _ _) h)
theorem acts_execRstact {z a0 a1 s} (h : Acts z s) : ActsO z (execRstact a0 a1 s) := by
  unfold execRstact
  exact actsO_next (acts_ite (acts_updMgmt h) h)
theorem acts_execI3cPrivateRead {z a0 s} (h : Acts z s) : ActsO z (execI3cPrivateRead a0 s) := by
  unfold execI3cPrivateRead
  exact actsO_next (acts_i3cReturn h)
theorem acts_execI3cPrivateWrite {z a0 s} (h : Acts z s) : ActsO z (execI3cPrivateWrite a0 s) := by
  unfold execI3cPrivateWrite
  exact actsO_next (acts_doI3cWrite h)
theorem acts_execPowerOnReset {z a0 s} (h : Acts z s) : ActsO z (execPowerOnReset a0 s) := by
  unfold execPowerOnReset
  exact actsO_next (acts_doPowerOn h)
theorem acts_execPwrGoodRise {z s} (h : Acts z s) : ActsO z (execPwrGoodRise s) := by
  unfold execPwrGoodRise
  exact actsO_next (acts_doGoodRise h)
theorem acts_execPwrGoodFall {z s} (h : Acts z s) : ActsO z (execPwrGoodFall s) := by
  unfold execPwrGoodFall
  exact actsO_next (acts_doGoodFall h)
theorem acts_execStaggerStep {z a0 s} (h : Acts z s) : ActsO z (execStaggerStep a0 s) := by
  unfold execStaggerStep
  exact actsO_next (acts_doStagger h)
theorem acts_execAvsMarginChange {z a0 a1 a2 s} (h : Acts z s) : ActsO z (execAvsMarginChange a0 a1 a2 s) := by
  unfold execAvsMarginChange
  exact actsO_next (acts_ite (acts_askRail h) h)
theorem acts_execAvsLowerStep {z a0 a1 s} (h : Acts z s) : ActsO z (execAvsLowerStep a0 a1 s) := by
  unfold execAvsLowerStep
  exact actsO_next (acts_ite (acts_updPwr (acts_askRail h)) h)
theorem acts_execAvsTimeout {z a0 s} (h : Acts z s) : ActsO z (execAvsTimeout a0 s) := by
  unfold execAvsTimeout
  exact actsO_next (acts_doAvsTimeout h)
theorem acts_execJunctionTempSample {z a0 a1 s} (h : Acts z s) : ActsO z (execJunctionTempSample a0 a1 s) := by
  unfold execJunctionTempSample
  exact actsO_next (acts_doJunction h)
theorem acts_execAonBrownout {z s} (h : Acts z s) : ActsO z (execAonBrownout s) := by
  unfold execAonBrownout
  exact actsO_next (acts_ite (acts_doBrownout h) h)
theorem acts_execPwrTargetP0 {z a0 s} (h : Acts z s) : ActsO z (execPwrTargetP0 a0 s) := by
  unfold execPwrTargetP0
  exact actsO_next (acts_writePwrCtrl h)
theorem acts_execPwrTargetP1 {z a0 s} (h : Acts z s) : ActsO z (execPwrTargetP1 a0 s) := by
  unfold execPwrTargetP1
  exact actsO_next (acts_writePwrCtrl h)
theorem acts_execPwrTargetP2 {z a0 s} (h : Acts z s) : ActsO z (execPwrTargetP2 a0 s) := by
  unfold execPwrTargetP2
  exact actsO_next (acts_writePwrCtrl h)
theorem acts_execPwrTargetP3 {z a0 s} (h : Acts z s) : ActsO z (execPwrTargetP3 a0 s) := by
  unfold execPwrTargetP3
  exact actsO_next (acts_writePwrCtrl h)
theorem acts_execPwrTransitionDone {z s} (h : Acts z s) : ActsO z (execPwrTransitionDone s) := by
  unfold execPwrTransitionDone
  exact actsO_next (acts_doTransitionDone h)
theorem acts_execWakeTimerExpire {z s} (h : Acts z s) : ActsO z (execWakeTimerExpire s) := by
  unfold execWakeTimerExpire
  exact actsO_next (acts_doWakeTimer h)
theorem acts_execGpioWake {z a0 a1 s} (h : Acts z s) : ActsO z (execGpioWake a0 a1 s) := by
  unfold execGpioWake
  exact actsO_next (acts_doGpioWake h)
theorem acts_execResetPin {z s} (h : Acts z s) : ActsO z (execResetPin s) := by
  unfold execResetPin
  exact actsO_next (acts_doResetPin h)
theorem acts_execPadReleaseGo {z s} (h : Acts z s) : ActsO z (execPadReleaseGo s) := by
  unfold execPadReleaseGo
  exact actsO_next (acts_releasePads h)
theorem acts_execResetCold {z a0 s} (h : Acts z s) : ActsO z (execResetCold a0 s) := by
  unfold execResetCold
  exact actsO_next (acts_resetWrite (fun x0 h1 => acts_askCold h1) h)
theorem acts_execResetWarm {z a0 s} (h : Acts z s) : ActsO z (execResetWarm a0 s) := by
  unfold execResetWarm
  exact actsO_next (acts_resetWrite (fun x0 h1 => acts_askWarm h1) h)
theorem acts_execResetTransit {z a0 s} (h : Acts z s) : ActsO z (execResetTransit a0 s) := by
  unfold execResetTransit
  exact actsO_next (acts_resetWrite (fun x0 h1 => acts_askTransit h1) h)
theorem acts_execResetHoldDone {z s} (h : Acts z s) : ActsO z (execResetHoldDone s) := by
  unfold execResetHoldDone
  exact actsO_next (acts_doHoldDone h)
theorem acts_execTransitResetEnd {z s} (h : Acts z s) : ActsO z (execTransitResetEnd s) := by
  unfold execTransitResetEnd
  exact actsO_next (acts_doTransitEnd h)
theorem acts_execUnitReset {z a0 s} (h : Acts z s) : ActsO z (execUnitReset a0 s) := by
  unfold execUnitReset
  exact actsO_next (acts_writeUnitReset h)
theorem acts_execCodewordTransmit {z a0 a1 s} (h : Acts z s) : ActsO z (execCodewordTransmit a0 a1 s) := by
  unfold execCodewordTransmit
  exact actsO_next (acts_doCodewordTransmit h)
theorem acts_execControlLinkLoss {z a0 s} (h : Acts z s) : ActsO z (execControlLinkLoss a0 s) := by
  unfold execControlLinkLoss
  exact actsO_next (acts_doControlLoss h)
theorem acts_execMemoryLinkLoss {z a0 a1 s} (h : Acts z s) : ActsO z (execMemoryLinkLoss a0 a1 s) := by
  unfold execMemoryLinkLoss
  exact actsO_next (acts_mk h)
theorem acts_execMemoryLinkReturn {z a0 a1 s} (h : Acts z s) : ActsO z (execMemoryLinkReturn a0 a1 s) := by
  unfold execMemoryLinkReturn
  exact actsO_next (acts_mk h)
theorem acts_execLaserFeedChange {z a0 a1 a2 a3 a4 a5 s} (h : Acts z s) :
    ActsO z (execLaserFeedChange a0 a1 a2 a3 a4 a5 s) := by
  unfold execLaserFeedChange
  exact actsO_next (acts_doLaserFeed h)
theorem acts_execVauxRemoval {z s} (h : Acts z s) : ActsO z (execVauxRemoval s) := by
  unfold execVauxRemoval
  exact actsO_next (acts_doVauxRemoval h)
theorem acts_execIoDieTempSample {z a0 s} (h : Acts z s) : ActsO z (execIoDieTempSample a0 s) := by
  unfold execIoDieTempSample
  exact actsO_next (acts_moveBand (acts_updPwr h))

/-- Every command answers a next state that Acts allows. -/
theorem acts_exec {z : State} (c : Instr) (s : State) (h : Acts z s) : ActsO z (exec c s) := by
  cases c with
  | bar0RegWrite => exact acts_execBar0RegWrite h
  | bar0BadAccess => exact acts_execBar0BadAccess h
  | pairLowRead => exact acts_execPairLowRead h
  | pairLowWrite => exact acts_execPairLowWrite h
  | pairHighWrite => exact acts_execPairHighWrite h
  | rcFieldRead => exact acts_execRcFieldRead h
  | replicatedWrite => exact acts_execReplicatedWrite h
  | channelClassWrite => exact acts_execChannelClassWrite h
  | flitReceive => exact acts_execFlitReceive h
  | linkTrainingLoss => exact acts_execLinkTrainingLoss h
  | dieLinkRetrain => exact acts_execDieLinkRetrain h
  | dieLinkUp => exact acts_execDieLinkUp h
  | meshDrainDone => exact acts_execMeshDrainDone h
  | creditSyncReceive => exact acts_execCreditSyncReceive h
  | codewordReceive => exact acts_execCodewordReceive h
  | alignmentMarkerReceive x0 x1 x2 x3 x4 => exact acts_execAlignmentMarkerReceive (a0 := x0) (a1 := x1) (a2 := x2) (a3 := x3) (a4 := x4) h
  | frameReceive => exact acts_execFrameReceive h
  | frameAbortReceive x0 x1 x2 x3 => exact acts_execFrameAbortReceive (a0 := x0) (a1 := x1) (a2 := x2) (a3 := x3) h
  | xoffXonReceive => exact acts_execXoffXonReceive h
  | xoffRefresh => exact acts_execXoffRefresh h
  | pauseWatchdog => exact acts_execPauseWatchdog h
  | linkFaultReceive => exact acts_execLinkFaultReceive h
  | linkFaultConditionEnd => exact acts_execLinkFaultConditionEnd h
  | laneSetReceive => exact acts_execLaneSetReceive h
  | laneSetEffective => exact acts_execLaneSetEffective h
  | laneDownReceive => exact acts_execLaneDownReceive h
  | testStripWordReceive => exact acts_execTestStripWordReceive h
  | portLaneCtrlWrite => exact acts_execPortLaneCtrlWrite h
  | testStripStart => exact acts_execTestStripStart h
  | tsLaserCheckDone => exact acts_execTsLaserCheckDone h
  | ringLock => exact acts_execRingLock h
  | ringSeekFail => exact acts_execRingSeekFail h
  | prbsSyncTimeout => exact acts_execPrbsSyncTimeout h
  | tsSweepPointDone => exact acts_execTsSweepPointDone h
  | tsMeasureDone => exact acts_execTsMeasureDone h
  | testStripTimeout => exact acts_execTestStripTimeout h
  | heaterUpdate => exact acts_execHeaterUpdate h
  | toneWindow => exact acts_execToneWindow h
  | laneLockLoss => exact acts_execLaneLockLoss h
  | laneNoCodeword => exact acts_execLaneNoCodeword h
  | lightLoss => exact acts_execLightLoss h
  | lightReturn => exact acts_execLightReturn h
  | fastRelockDone => exact acts_execFastRelockDone h
  | relockWindowExpire => exact acts_execRelockWindowExpire h
  | laneRetest => exact acts_execLaneRetest h
  | laneExcludeWrite => exact acts_execLaneExcludeWrite h
  | photonicTempSample => exact acts_execPhotonicTempSample h
  | slewDrainDone => exact acts_execSlewDrainDone h
  | slewPauseEnd => exact acts_execSlewPauseEnd h
  | syncInterval => exact acts_execSyncInterval h
  | syncReceive x0 x1 x2 x3 => exact acts_execSyncReceive (a0 := x0) (a1 := x1) (a2 := x2) (a3 := x3) h
  | followReceive => exact acts_execFollowReceive h
  | replyReceive => exact acts_execReplyReceive h
  | timeExchangeTimeout => exact acts_execTimeExchangeTimeout h
  | timeWrap => exact acts_execTimeWrap h
  | masterLoss => exact acts_execMasterLoss h
  | holdoverSwitchExpire => exact acts_execHoldoverSwitchExpire h
  | sourceQualify => exact acts_execSourceQualify h
  | timePrioWrite => exact acts_execTimePrioWrite h
  | ppsLoadWrite => exact acts_execPpsLoadWrite h
  | ppsEdge => exact acts_execPpsEdge h
  | ppsLoss => exact acts_execPpsLoss h
  | ppsOutEdge => exact acts_execPpsOutEdge h
  | timedLaunch => exact acts_execTimedLaunch h
  | timedDrop => exact acts_execTimedDrop h
  | lanyardSlotCheck => exact acts_execLanyardSlotCheck h
  | lanyardSlotBoundary => exact acts_execLanyardSlotBoundary h
  | lanyardBurstReceive => exact acts_execLanyardBurstReceive h
  | lanyardHoldoverExpire => exact acts_execLanyardHoldoverExpire h
  | lanyardWaitExpire => exact acts_execLanyardWaitExpire h
  | lanyardToneDecision => exact acts_execLanyardToneDecision h
  | lanyardReseekDone => exact acts_execLanyardReseekDone h
  | lanyardRotaWrite => exact acts_execLanyardRotaWrite h
  | lanyardTsArm => exact acts_execLanyardTsArm h
  | lanyardTsStart => exact acts_execLanyardTsStart h
  | lanyardDiscoverySlot => exact acts_execLanyardDiscoverySlot h
  | lanyardTsComplete => exact acts_execLanyardTsComplete h
  | frameLookup => exact acts_execFrameLookup h
  | learnInsert => exact acts_execLearnInsert h
  | tableScrubRead => exact acts_execTableScrubRead h
  | partitionFenceWrite => exact acts_execPartitionFenceWrite h
  | txnBegin => exact acts_execTxnBegin h
  | commitNow => exact acts_execCommitNow h
  | commitAt => exact acts_execCommitAt h
  | txnAbort => exact acts_execTxnAbort h
  | txnFlip => exact acts_execTxnFlip h
  | txnCatchupDone => exact acts_execTxnCatchupDone h
  | txnAbortDone => exact acts_execTxnAbortDone h
  | stagedRegWrite => exact acts_execStagedRegWrite h
  | tblWrite => exact acts_execTblWrite h
  | tblInsert => exact acts_execTblInsert h
  | tblDelete => exact acts_execTblDelete h
  | readActive x0 x1 => exact acts_execReadActive (a0 := x0) (a1 := x1) h
  | readStaged x0 x1 => exact acts_execReadStaged (a0 := x0) (a1 := x1) h
  | dieTableCopy => exact acts_execDieTableCopy h
  | schedulerSlot => exact acts_execSchedulerSlot h
  | depthBroadcast => exact acts_execDepthBroadcast h
  | frameEgressAdmit => exact acts_execFrameEgressAdmit h
  | egressWaitAdmit => exact acts_execEgressWaitAdmit h
  | cutThroughUnderrun => exact acts_execCutThroughUnderrun h
  | egressSchedule => exact acts_execEgressSchedule h
  | portDown => exact acts_execPortDown h
  | portBack => exact acts_execPortBack h
  | portHoldExpire => exact acts_execPortHoldExpire h
  | portQuarantine => exact acts_execPortQuarantine h
  | portAdmit => exact acts_execPortAdmit h
  | portReserveWrite => exact acts_execPortReserveWrite h
  | bufConfigWrite => exact acts_execBufConfigWrite h
  | spraySeedWrite => exact acts_execSpraySeedWrite h
  | shaperWrite => exact acts_execShaperWrite h
  | policerEnableWrite => exact acts_execPolicerEnableWrite h
  | csRecordWrite => exact acts_execCsRecordWrite h
  | exposureNow => exact acts_execExposureNow h
  | exposureAt => exact acts_execExposureAt h
  | exposureCapture => exact acts_execExposureCapture h
  | exposureWriteDone => exact acts_execExposureWriteDone h
  | engineFrameArrive => exact acts_execEngineFrameArrive h
  | engineDispatch => exact acts_execEngineDispatch h
  | dispatchEnd => exact acts_execDispatchEnd h
  | dispatchBudget => exact acts_execDispatchBudget h
  | knotTimerExpire => exact acts_execKnotTimerExpire h
  | engineStart => exact acts_execEngineStart h
  | engineStartCheckDone => exact acts_execEngineStartCheckDone h
  | engineHalt => exact acts_execEngineHalt h
  | engineReset => exact acts_execEngineReset h
  | engineResetDone => exact acts_execEngineResetDone h
  | engineLayoutWrite => exact acts_execEngineLayoutWrite h
  | engineGate => exact acts_execEngineGate h
  | engineWake => exact acts_execEngineWake h
  | nop => exact acts_execNop h
  | pld => exact acts_execPld h
  | pst => exact acts_execPst h
  | psend => exact acts_execPsend h
  | pret => exact acts_execPret h
  | pacq => exact acts_execPacq h
  | prel => exact acts_execPrel h
  | hget => exact acts_execHget h
  | hput => exact acts_execHput h
  | hunlk => exact acts_execHunlk h
  | pldw => exact acts_execPldw h
  | mld => exact acts_execMld h
  | mst => exact acts_execMst h
  | mldx => exact acts_execMldx h
  | mstx => exact acts_execMstx h
  | vadd => exact acts_execVadd h
  | vsub => exact acts_execVsub h
  | vmul => exact acts_execVmul h
  | vfma => exact acts_execVfma h
  | vmin => exact acts_execVmin h
  | vmax => exact acts_execVmax h
  | vand => exact acts_execVand h
  | vor => exact acts_execVor h
  | vxor => exact acts_execVxor h
  | vshl => exact acts_execVshl h
  | vshr => exact acts_execVshr h
  | vsra => exact acts_execVsra h
  | vcmp => exact acts_execVcmp h
  | vsel => exact acts_execVsel h
  | vbcast => exact acts_execVbcast h
  | vshuf => exact acts_execVshuf h
  | vhred => exact acts_execVhred h
  | vrcp => exact acts_execVrcp h
  | vrsqrt => exact acts_execVrsqrt h
  | vcvt => exact acts_execVcvt h
  | vexp => exact acts_execVexp h
  | vmxunpk => exact acts_execVmxunpk h
  | vmxpk => exact acts_execVmxpk h
  | vins => exact acts_execVins h
  | aacc => exact acts_execAacc h
  | aldw => exact acts_execAldw h
  | astw => exact acts_execAstw h
  | aclr => exact acts_execAclr h
  | arnd => exact acts_execArnd h
  | ares => exact acts_execAres h
  | aaddw => exact acts_execAaddw h
  | smrg => exact acts_execSmrg h
  | ssort => exact acts_execSsort h
  | sfind => exact acts_execSfind h
  | addOp => exact acts_execAddOp h
  | subOp => exact acts_execSubOp h
  | andOp => exact acts_execAndOp h
  | orOp => exact acts_execOrOp h
  | xorOp => exact acts_execXorOp h
  | shl => exact acts_execShl h
  | shr => exact acts_execShr h
  | sra => exact acts_execSra h
  | mulOp => exact acts_execMulOp h
  | addi => exact acts_execAddi h
  | li => exact acts_execLi h
  | addm => exact acts_execAddm h
  | cmp => exact acts_execCmp h
  | cmpi => exact acts_execCmpi h
  | extOp => exact acts_execExtOp h
  | vx => exact acts_execVx h
  | pmov => exact acts_execPmov h
  | xp => exact acts_execXp h
  | plog => exact acts_execPlog h
  | br => exact acts_execBr h
  | jal => exact acts_execJal h
  | jr => exact acts_execJr h
  | endOp => exact acts_execEndOp h
  | karr => exact acts_execKarr h
  | kcsum => exact acts_execKcsum h
  | kseal => exact acts_execKseal h
  | kfail => exact acts_execKfail h
  | kfree => exact acts_execKfree h
  | krd => exact acts_execKrd h
  | kwr => exact acts_execKwr h
  | ktimer => exact acts_execKtimer h
  | sanc => exact acts_execSanc h
  | astat => exact acts_execAstat h
  | rdres => exact acts_execRdres h
  | waitOp => exact acts_execWaitOp h
  | hstat => exact acts_execHstat h
  | rdcyc => exact acts_execRdcyc h
  | rdtime => exact acts_execRdtime h
  | holdOpComplete => exact acts_execHoldOpComplete h
  | knotLoad => exact acts_execKnotLoad h
  | knotCmdFlush => exact acts_execKnotCmdFlush h
  | knotUnload => exact acts_execKnotUnload h
  | knotRead => exact acts_execKnotRead h
  | knotAdvance => exact acts_execKnotAdvance h
  | setAnchor => exact acts_execSetAnchor h
  | drainMarkerReceive => exact acts_execDrainMarkerReceive h
  | knotFlushDone => exact acts_execKnotFlushDone h
  | knotFrameAdmit => exact acts_execKnotFrameAdmit h
  | broadcastStatus => exact acts_execBroadcastStatus h
  | xchkAdd => exact acts_execXchkAdd h
  | xchkCompare => exact acts_execXchkCompare h
  | xchkAbandonTimeout => exact acts_execXchkAbandonTimeout h
  | holdGatherServe => exact acts_execHoldGatherServe h
  | holdGatherResponse => exact acts_execHoldGatherResponse h
  | holdLockGrant => exact acts_execHoldLockGrant h
  | holdTxnCommit => exact acts_execHoldTxnCommit h
  | scatterStatus => exact acts_execScatterStatus h
  | holdScrub => exact acts_execHoldScrub h
  | holdEnable => exact acts_execHoldEnable h
  | holdClearDone => exact acts_execHoldClearDone h
  | holdConfigWrite => exact acts_execHoldConfigWrite h
  | holdDieLoss => exact acts_execHoldDieLoss h
  | logbookWrite => exact acts_execLogbookWrite h
  | logbookHeartbeat => exact acts_execLogbookHeartbeat h
  | faultNoticeSend => exact acts_execFaultNoticeSend h
  | faultNoticeResend => exact acts_execFaultNoticeResend h
  | selfTestSlice => exact acts_execSelfTestSlice h
  | integLogTimeWrite => exact acts_execIntegLogTimeWrite h
  | unitQuery => exact acts_execUnitQuery h
  | unitRetire => exact acts_execUnitRetire h
  | unitRestore => exact acts_execUnitRestore h
  | cmdRingTailWrite => exact acts_execCmdRingTailWrite h
  | cmdFetch => exact acts_execCmdFetch h
  | completionWrite => exact acts_execCompletionWrite h
  | cplRingHeadWrite => exact acts_execCplRingHeadWrite h
  | ringEnableWrite => exact acts_execRingEnableWrite h
  | cmdNop => exact acts_execCmdNop h
  | inject => exact acts_execInject h
  | testStrip => exact acts_execTestStrip h
  | selfTest => exact acts_execSelfTest h
  | tableScrub => exact acts_execTableScrub h
  | holdLoad => exact acts_execHoldLoad h
  | holdCheckpoint => exact acts_execHoldCheckpoint h
  | knotFlush => exact acts_execKnotFlush h
  | fwUpdate => exact acts_execFwUpdate h
  | attest => exact acts_execAttest h
  | logbookRead => exact acts_execLogbookRead h
  | suspend => exact acts_execSuspend h
  | resume => exact acts_execResume h
  | cancel => exact acts_execCancel h
  | suspendPointReached => exact acts_execSuspendPointReached h
  | longOpComplete => exact acts_execLongOpComplete h
  | msixUnmask => exact acts_execMsixUnmask h
  | bar2Read => exact acts_execBar2Read h
  | bar2Write => exact acts_execBar2Write h
  | bar2WindowWrite => exact acts_execBar2WindowWrite h
  | dmaChTailWrite => exact acts_execDmaChTailWrite h
  | dmaRunWrite => exact acts_execDmaRunWrite h
  | dmaDescFetch => exact acts_execDmaDescFetch h
  | dmaDescComplete => exact acts_execDmaDescComplete h
  | dmaShadowArm => exact acts_execDmaShadowArm h
  | dmaShadowHandover => exact acts_execDmaShadowHandover h
  | perstAssert => exact acts_execPerstAssert h
  | perstDeassert => exact acts_execPerstDeassert h
  | pcieHotReset => exact acts_execPcieHotReset h
  | mgmtWatchdog => exact acts_execMgmtWatchdog h
  | bootRomStart => exact acts_execBootRomStart h
  | stage1Done => exact acts_execStage1Done h
  | bootLockWrite => exact acts_execBootLockWrite h
  | identityReady => exact acts_execIdentityReady h
  | fwConfirm => exact acts_execFwConfirm h
  | fwActivateRestart => exact acts_execFwActivateRestart h
  | recoveryGo => exact acts_execRecoveryGo h
  | mgmtFrameReceive => exact acts_execMgmtFrameReceive h
  | mgmtLinkChange => exact acts_execMgmtLinkChange h
  | echo => exact acts_execEcho h
  | noticeAck => exact acts_execNoticeAck h
  | regRead => exact acts_execRegRead h
  | regWrite => exact acts_execRegWrite h
  | mgmtLogbookRead => exact acts_execMgmtLogbookRead h
  | keyRotate => exact acts_execKeyRotate h
  | wakeDatagram => exact acts_execWakeDatagram h
  | sessionKeyWrite => exact acts_execSessionKeyWrite h
  | entdaa => exact acts_execEntdaa h
  | rstdaa => exact acts_execRstdaa h
  | setnewda => exact acts_execSetnewda h
  | getpid => exact acts_execGetpid h
  | getbcr => exact acts_execGetbcr h
  | getdcr => exact acts_execGetdcr h
  | getstatus => exact acts_execGetstatus h
  | getmwl => exact acts_execGetmwl h
  | getmrl => exact acts_execGetmrl h
  | setmwl => exact acts_execSetmwl h
  | setmrl => exact acts_execSetmrl h
  | enec => exact acts_execEnec h
  | disec => exact acts_execDisec h
  | rstact => exact acts_execRstact h
  | i3cPrivateRead => exact acts_execI3cPrivateRead h
  | i3cPrivateWrite => exact acts_execI3cPrivateWrite h
  | powerOnReset => exact acts_execPowerOnReset h
  | pwrGoodRise => exact acts_execPwrGoodRise h
  | pwrGoodFall => exact acts_execPwrGoodFall h
  | staggerStep => exact acts_execStaggerStep h
  | avsMarginChange => exact acts_execAvsMarginChange h
  | avsLowerStep => exact acts_execAvsLowerStep h
  | avsTimeout => exact acts_execAvsTimeout h
  | junctionTempSample => exact acts_execJunctionTempSample h
  | aonBrownout => exact acts_execAonBrownout h
  | pwrTargetP0 => exact acts_execPwrTargetP0 h
  | pwrTargetP1 => exact acts_execPwrTargetP1 h
  | pwrTargetP2 => exact acts_execPwrTargetP2 h
  | pwrTargetP3 => exact acts_execPwrTargetP3 h
  | pwrTransitionDone => exact acts_execPwrTransitionDone h
  | wakeTimerExpire => exact acts_execWakeTimerExpire h
  | gpioWake => exact acts_execGpioWake h
  | resetPin => exact acts_execResetPin h
  | padReleaseGo => exact acts_execPadReleaseGo h
  | resetCold => exact acts_execResetCold h
  | resetWarm => exact acts_execResetWarm h
  | resetTransit => exact acts_execResetTransit h
  | resetHoldDone => exact acts_execResetHoldDone h
  | transitResetEnd => exact acts_execTransitResetEnd h
  | unitReset => exact acts_execUnitReset h
  | codewordTransmit => exact acts_execCodewordTransmit h
  | controlLinkLoss => exact acts_execControlLinkLoss h
  | memoryLinkLoss => exact acts_execMemoryLinkLoss h
  | memoryLinkReturn => exact acts_execMemoryLinkReturn h
  | laserFeedChange => exact acts_execLaserFeedChange h
  | vauxRemoval => exact acts_execVauxRemoval h
  | ioDieTempSample => exact acts_execIoDieTempSample h

end Sys2Proof.Machine
end

