-- ==== Sys2Proof/Laws/Flags.lean ====
section
/-! SUPPORT. What sending a message and setting an event do: host memory and what left the package may change with the message, and
nothing else does but what the event's own change makes (R369). -/

namespace Sys2Proof.Machine

/-- A message changes only host memory and the record of what left the package. -/
theorem sendMsi_eq (s : State) (v : Nat) : ∃ h o, sendMsi s v = { s with hostMem := h, out := o } := by
  unfold sendMsi
  split
  · exact ⟨s.hostMem, s.out, rfl⟩
  · exact ⟨_, _, rfl⟩

/-- A change with its interrupt is the change, but for host memory and the record of what left the package. -/
theorem withCause_eq (s : State) (v : Nat) (f : State → State) : ∃ h o, withCause s v f = { f s with hostMem := h, out := o } := by
  unfold withCause
  simp only
  split
  · exact sendMsi_eq _ _
  · exact ⟨(f s).hostMem, (f s).out, rfl⟩

/-- A software write of a cause register, likewise. -/
theorem causeWrite_eq (s : State) (v : Nat) (f : State → State) : ∃ h o, causeWrite s v f = { f s with hostMem := h, out := o } := by
  unfold causeWrite
  simp only
  split
  · exact sendMsi_eq _ _
  · exact ⟨(f s).hostMem, (f s).out, rfl⟩

/-- Setting an event writes its bit. -/
theorem setEvent_eq (s : State) (v : Nat) (r : RegRef) (f : Fld) :
    ∃ h o, setEvent s v r f = { s.setBit r f with hostMem := h, out := o } := withCause_eq _ _ _

@[simp] theorem setEvent_regs (s : State) (v : Nat) (r : RegRef) (f : Fld) : (setEvent s v r f).regs = (s.setBit r f).regs := by
  obtain ⟨h, o, e⟩ := setEvent_eq s v r f
  rw [e]

@[simp] theorem setEvent_time (s : State) (v : Nat) (r : RegRef) (f : Fld) : (setEvent s v r f).time = s.time := by
  obtain ⟨h, o, e⟩ := setEvent_eq s v r f
  rw [e]; rfl

end Sys2Proof.Machine
end

