-- ==== Sys2Proof/Laws/Step.lean ====
section
/-! SUPPORT. What a step can do, said once for a command and for a tick. -/

namespace Sys2Proof.Machine

/-- A tick moves the clock on by one; what else it does is within Acts of that state. -/
theorem acts_tick (s : State) : Acts { s with cycle := s.cycle + 1 } (tick s) := by
  have h : Acts { s with cycle := s.cycle + 1 } (tickAon { s with cycle := s.cycle + 1 }) := acts_tickAon .refl
  unfold tick
  exact acts_ite h (acts_tickCore (acts_moveTime h))

/-- A meaning's answer within Acts is a next state. -/
theorem ActsO.next {z : State} {r : Host.Outcome State Fault Refusal} (h : ActsO z r) : ∃ t, r = .next t ∧ Acts z t := by
  cases r with
  | next t => exact ⟨t, rfl, h⟩
  | fault _ => exact h.elim
  | refused _ => exact h.elim

end Sys2Proof.Machine
end

