-- ==== Sys2Proof/WellFormed.lean ====
section
/-! DEFINITION. Which commands can arrive at all: the limits that the spec puts on the data a command carries. The effects are total, so
they are defined on the others too. -/

namespace Sys2Proof

/-- A payload of a frame is 0 to 9,216 bytes (R49). -/
def payloadFits (b : Bytes) : Bool := decide (b.length ≤ 9216)

/-- A frame within the limits of R49. -/
def Frame.wf (f : Frame) : Bool := payloadFits f.payload

/-- The head of a frame is its header with up to 96 of the bytes after it, a tail or a whole frame has a payload of R49. -/
def RxEvent.wf : RxEvent → Bool
  | .block => true
  | .head _ first => decide (first.length ≤ 96)
  | .tail payload _ _ => payloadFits payload
  | .whole _ payload _ _ => payloadFits payload

/-- A codeword is 544 symbols (R35). -/
def Codeword.wf : Codeword → Bool
  | .received symbols => decide (symbols.length = 544)
  | .invalid => true

/-- Each frame of a burst is within R49. -/
def BurstRx.wf : BurstRx → Bool
  | .silent => true
  | .badId => true
  | .burst _ _ _ _ _ frames => frames.all fun f => f.1.wf

/-- A frame of the management port has up to 1,518 bytes, and what it carries fits it (R402). -/
def MgmtFrame.wf (f : MgmtFrame) : Bool :=
  decide (f.len.toNat ≤ 1518) && match f.content with
    | .echo _ _ _ data => decide (data.length ≤ f.len.toNat)
    | .udp _ _ _ _ _ data => decide (data.length ≤ f.len.toNat)
    | _ => true

/-- A BAR0 request that is not a 4-byte-aligned access of 4 bytes (R8). -/
def badBar0Access (addr : Word) (len : Nat) : Bool := decide (addr.toNat % 4 ≠ 0 ∨ len ≠ 4)

/-- A BAR0 register access is aligned (R8); the halves of a pair are two such registers (R9). -/
def alignedBar0 (addr : Word) : Bool := decide (addr.toNat % 4 = 0)

/-- Lines that the laser check of a lane measures: its own, or the 32 of the lanyard feed (R80, R125). -/
def checkedLines (n : Nat) : Nat := if n < 128 then 1 else 32

/-- A command whose data lie within the limits of the spec. -/
def Instr.wf : Instr → Bool
  | .bar0RegWrite addr _ => alignedBar0 addr
  | .bar0BadAccess addr len _ => badBar0Access addr len
  | .pairLowRead addr => alignedBar0 addr
  | .pairLowWrite addr _ => alignedBar0 addr
  | .pairHighWrite addr _ => alignedBar0 addr
  | .rcFieldRead addr => alignedBar0 addr
  | .replicatedWrite addr _ => alignedBar0 addr
  | .stagedRegWrite addr _ => alignedBar0 addr
  | .codewordReceive _ _ cw => cw.wf
  | .tsLaserCheckDone _ n power tone => decide (power.length = checkedLines n.val ∧ tone.length = checkedLines n.val)
  | .frameReceive _ _ ev => ev.wf
  | .lanyardBurstReceive _ _ _ b => b.wf
  | .mgmtFrameReceive f => f.wf
  | .bar2Write _ data => decide (1 ≤ data.length ∧ data.length ≤ 512)
  | _ => true

end Sys2Proof
end

