-- ==== Sys2Proof/Tests/Slice0.lean ====
section
/-! SUPPORT. Tests with expected values from the spec, a smoke test of each check of WellFormed, and a witness for the premises of each
statement. -/

set_option Elab.async false

open Sys2Proof Sys2Proof.Machine

/-! ## Values of the spec -/

/-- The check value of R54: "123456789" in ASCII. -/
theorem test_crc32c_check_value : crc32c [0x31, 0x32, 0x33, 0x34, 0x35, 0x36, 0x37, 0x38, 0x39] = 0xE3069283 := by decide +kernel

/-- The header of Table 2.10. -/
theorem test_header_of_table_2_10 :
    (let h := mkHeader 1 2 5 6 0x40 0x40 0x0CBFFFE8 0x0CB09405 1 7 12005 4096 1 34816 0
     h.w0 = 0x42A64040#32 ∧ h.w3 = 0x107#32 ∧ h.w4 = 0xBB950001#32 ∧ h.w5 = 0x8800#32) := by decide +kernel

/-- BAR0 addresses of Table 17.4. -/
theorem test_addresses_of_table_17_4 :
    (engReg R.ENGINE_STATUS 59).addr = 0x13AB0004 ∧ (laneStatus 3 77).addr = 0x0C713400 ∧
    devPlace 0x1ED00000 = .engine 59 0 0 ∧ devPlace 0x102040000080 = .hold 9 := by decide +kernel

/-- Provisional IDs of Table 15.8. -/
theorem test_provisional_ids_of_table_15_8 :
    ((State.reset.wr R.DEVICE_ID 0x1100#32).setF R.I3C_STATUS F.I3C_STATUS_SLOT 3).pid = 0x058A10243110 ∧
    ((State.reset.wr R.DEVICE_ID 0x1100#32).setF R.I3C_STATUS F.I3C_STATUS_SLOT 0xB).pid = 0x058A1024B110 := by decide +kernel

/-- Steps 4 to 6 of Table 16.4: stage 1 at 100.0 and 101.6 °C, kept at 98.5 °C; left at 97.0 °C. -/
theorem test_throttle_of_table_16_4 :
    throttleStage 0 10000 300 10000 = 1 ∧ throttleStage 1 10000 300 10160 = 1 ∧ throttleStage 1 10000 300 9850 = 1 ∧
    throttleStage 1 10000 300 9700 = 0 ∧ throttleStage 1 10000 300 10300 = 2 := by decide +kernel

/-- A register of the map takes a write and reads it back (R5); a reserved offset keeps the state (R7). -/
theorem test_register_write_reads_back :
    (match exec (.bar0RegWrite 0x01400008#32 100#32) State.reset with
     | .next t => (bar0Read 0x01400008 t).1
     | _ => 0) = 100#32 := by decide +kernel

/-- GETBCR answers the byte of R407. -/
theorem test_getbcr : (match exec .getbcr ((State.reset.setF R.I3C_STATUS F.I3C_STATUS_ADDR_VALID 1)) with
    | .next t => decide (t.out = [.i3c [0x06]])
    | _ => false) = true := by decide +kernel

/-- A full NOP: the entry is fetched short, and its completion waits with status 0 (R373). -/
theorem test_nop_completes :
    (match exec (.cmdNop false) (State.reset.updHost fun h => { h with fetched := [⟨[0x01000005] ++ List.replicate 15 0⟩] }) with
     | .next t => decide (t.host.waiting = [⟨5, 1, 0, 0, 0, false⟩])
     | _ => false) = true := by decide +kernel

/-- The first command of the queue runs, and the rest stays. -/
theorem test_step_takes_the_front :
    (match step { State.reset with pending := [.rstdaa, .getbcr] } with
     | .next t => decide (t.pending = [.getbcr])
     | _ => false) = true := by decide +kernel

/-- Thirty parity symbols make every syndrome 0, and a changed symbol does not (R35). -/
theorem test_fec_parity : (rsSyndromes (rsEncode [5, 1023])).all (· == 0) = true ∧ (rsEncode [5, 1023]).length = 32 ∧
    (rsSyndromes ((rsEncode [5, 1023]).set 1 1)).all (· == 0) = false := by decide +kernel

/-- The digest of "abc" that FIPS 180-4 gives as its example of SHA-256 (R359, R406). -/
theorem test_sha256_of_abc : beNat (sha256 [0x61, 0x62, 0x63]) =
    0xba7816bf8f01cfea414140de5dae2223b00361a396177a9cb410ff61f20015ad := by decide +kernel

/-! ## What WellFormed refuses -/

theorem test_wf_bar0 : Instr.wf (.bar0RegWrite 2#32 0#32) = false ∧ Instr.wf (.pairLowRead 1#32) = false ∧
    Instr.wf (.pairLowWrite 3#32 0#32) = false ∧ Instr.wf (.pairHighWrite 2#32 0#32) = false ∧ Instr.wf (.rcFieldRead 1#32) = false ∧
    Instr.wf (.replicatedWrite 1#32 0#32) = false ∧ Instr.wf (.stagedRegWrite 1#32 0#32) = false := by decide +kernel

theorem test_wf_bad_access : Instr.wf (.bar0BadAccess 4#32 4 true) = false ∧ Instr.wf (.bar0BadAccess 5#32 4 true) = true := by
  decide +kernel

/-- A payload of 9,217 bytes exists, and no check takes it; a head has up to 96 bytes after the header. -/
theorem test_wf_frame (h : Header) (c : Word) (x : Bool) (b : Bytes) (hb : b.length = 9217) : payloadFits b = false ∧
    Instr.wf (.frameReceive 0 0 (.head h (List.replicate 97 0))) = false ∧ Instr.wf (.frameReceive 0 0 .block) = true ∧ Instr.wf (.frameReceive 0 0 (.tail b c x)) = false ∧
    Instr.wf (.frameReceive 0 0 (.whole h b c x)) = false ∧ Frame.wf ⟨h, b, c⟩ = false := by
  simp [Instr.wf, RxEvent.wf, Frame.wf, payloadFits, hb]

theorem test_wf_codeword : Instr.wf (.codewordReceive 0 0 (.received [])) = false ∧
    Codeword.wf (.received (List.replicate 543 0)) = false ∧ Codeword.wf (.received (List.replicate 544 0)) = true ∧
    Codeword.wf .invalid = true := by decide +kernel

theorem test_wf_laser_check : Instr.wf (.tsLaserCheckDone 0 127 [0, 0] [0]) = false ∧ Instr.wf (.tsLaserCheckDone 0 128 [0] [0]) = false ∧
    Instr.wf (.tsLaserCheckDone 0 127 [0] [0]) = true := by decide +kernel

theorem test_wf_burst (h : Header) (c : Word) (b : Bytes) (hb : b.length = 9217) :
    Instr.wf (.lanyardBurstReceive 0 0 0 (.burst 0 0 0 0 none [(⟨h, b, c⟩, true)])) = false := by
  simp [Instr.wf, BurstRx.wf, Frame.wf, payloadFits, hb]

theorem test_wf_mgmt_frame : Instr.wf (.mgmtFrameReceive ⟨none, 1519#16, .other⟩) = false ∧ MgmtFrame.wf ⟨none, 1519#16, .other⟩ = false ∧
    MgmtFrame.wf ⟨none, 1#16, .echo false 0 0 [0, 0]⟩ = false ∧ MgmtFrame.wf ⟨none, 1#16, .udp false 0 0 0 0 [0, 0]⟩ = false := by
  decide +kernel

theorem test_wf_bar2_write : Instr.wf (.bar2Write 0#32 []) = false ∧ Instr.wf (.bar2Write 0#32 [0]) = true := by decide +kernel

theorem test_wf_others : Instr.wf .rstdaa = true := by decide +kernel

/-! ## Witnesses of the premises of the statements -/

/-- Witnesses of the premises of WriteByAccessCode. -/
theorem witness_WriteByAccessCode :
    (let r : FieldRow := ⟨⟨31, 31⟩, .RW, 0⟩
     let q : FieldRow := ⟨⟨30, 0⟩, .RO, 0⟩
     r ∈ [r, q] ∧ r.fld.mask.getLsbD 31 = true ∧ q.fld.mask.getLsbD 31 = false ∧ q ≠ r ∧
     ([⟨⟨30, 0⟩, .RO, 0⟩] : List FieldRow).all (fun x => x.fld.mask.getLsbD 31 = false) = true) := by
  decide +kernel

/-- The register that an address names, and whether it is the low half of a pair, or the high half, and writable. -/
def pairAt (a : Nat) : Option (Reg × Bool × Bool × Bool) :=
  (findReg (canonReg a)).map fun x => (x.1.reg, isPairLow x.1.reg, isPairHigh x.1.reg, pairWritable x.1.reg)

/-- Witnesses of the premises of Bar0Accesses. -/
theorem witness_Bar0Accesses :
    (0xFFFFFFFC#32).toNat % 4 = 0 ∧ findReg (canonReg (0xFFFFFFFC#32).toNat) = none ∧
    (0x01400008#32).toNat % 4 = 0 ∧ pairAt (0x01400008#32).toNat = some (.PWR_STAGGER, false, false, false) ∧
    causeVector .PWR_STAGGER [] = none ∧ enableVector .PWR_STAGGER [] = none ∧ causeVector .TIME_STATUS [] = some 33 ∧
    canonReg (R.OVR_SEED 7 0).addr = canonReg (R.OVR_SEED 0 0).addr ∧ (R.OVR_SEED 7 0).addr ≠ (R.OVR_SEED 0 0).addr ∧
    pairAt (R.PORT_PARTITION 3 127).addr = some (.PORT_PARTITION, false, false, false) ∧ isStaged .PORT_PARTITION = true ∧
    pairAt 0x200 = some (.HOST_BAD_ACCESS, false, false, false) ∧
    ((findReg 0x200).map fun x => x.1.fields.any fun f => f.acc == .RC) = some true := by
  decide +kernel

/-- Witnesses of the premises of the clauses of Bar0Accesses on logs and pairs. -/
theorem witness_Bar0Accesses_pairs :
    sget (State.reset.updTabs fun t => { t with plog := [(7, [5])] }).tabs.plog 7 [] = [5] ∧
    pairAt 0x1300030 = some (.AON_TICK, true, false, false) ∧ pairAt 0x1300034 = some (.AON_TICK_HI, false, true, false) ∧
    pairAt 0x1400018 = some (.WAKE_TIMER, true, false, true) ∧ pairAt 0x140001C = some (.WAKE_TIMER_HI, false, true, true) ∧
    pairShut State.reset .WAKE_TIMER_HI = false ∧ State.reset.locked .MGMT_MAC_ADDR = false ∧
    (State.reset.setBit R.MGMT_BOOT_CTRL F.MGMT_BOOT_CTRL_BOOT_LOCK).locked .MGMT_MAC_ADDR = true ∧
    (pairAt (R.HOLD_RING_BASE_HI 8).addr).map (·.1) = some .HOLD_RING_BASE_HI ∧
    (pairAt (R.HOLD_POOL_BASE_HI 9 15).addr).map (·.1) = some .HOLD_POOL_BASE_HI ∧
    (pairAt (R.PARTITION_BRIDGE_HI 7 63).addr).map (·.1) = some .PARTITION_BRIDGE_HI ∧
    sget State.reset.heldLow 0x1400018 0 = 0 := by
  decide +kernel

/-- Witnesses of the premises of Bar0BadAccess. -/
theorem witness_Bar0BadAccess : (0x01400009#32).toNat % 4 ≠ 0 ∧ (0x01400008#32).toNat % 4 = 0 ∧ (3 : Nat) ≠ 4 := by decide

/-- A state in which the link from die 1 to die 0 is up and carries one flit, replayed before on its channel. -/
def linkState (f : Flit) (replays : Nat) : State :=
  ((State.reset.setF (R.D2D_LINK_STATUS 0 1) F.D2D_LINK_STATUS_UP 1).setF (R.D2D_LINK_STATUS 1 0) F.D2D_LINK_STATUS_UP 1).setLink 1 0
    { Link.init with flight := [f], replays := [(f.vc, replays)] }

/-- Witnesses of the premises of DieLinks. -/
theorem witness_DieLinks :
    ((State.reset.link 1 0).flight.find? (fun f => f.vc == 0) = none) ∧
    (let f : Flit := ⟨3, 7, true, false, false, 0, 0, 1⟩; let s := linkState f 14;
      s.linkUp 0 1 = true ∧ (s.link 1 0).flight.find? (fun f => f.vc == 3) = some f ∧ sget (s.link 1 0).replays 3 0 + 1 < 16 ∧
      f.head = true ∧ f.vc % 2 = 1) ∧
    (let f : Flit := ⟨2, 7, false, true, false, 0, 0, 1⟩; let s := linkState f 15;
      s.linkUp 0 1 = true ∧ (s.link 1 0).flight.find? (fun f => f.vc == 2) = some f ∧ 16 ≤ sget (s.link 1 0).replays 2 0 + 1 ∧
      f.head = false) ∧
    (let f : Flit := ⟨0, 7, true, false, false, 5, 0, 1⟩; let s := linkState f 0;
      s.linkUp 0 1 = true ∧ (s.link 1 0).flight.find? (fun f => f.vc == 0) = some f ∧ f.head = true ∧ f.vc % 2 ≠ 1 ∧ f.dest ≠ 0) ∧
    (let s := (State.reset.setF (R.D2D_LINK_STATUS 0 1) F.D2D_LINK_STATUS_UP 0).setLink 0 1 { Link.init with training := true };
      s.linkUp 0 1 = false ∧ (s.link 0 1).training = true) ∧
    pinnedIndirect State.reset 0 1 = false ∧
    pinnedIndirect (State.reset.setFrm 0 { FrameRec.init with inDie := 0, outDie := 1, service := 1, via := 3 }) 0 1
      = true := by
  decide

/-- Witnesses of the premises of CodewordReception: a lane of no port, lane 0 of port 0, and a lanyard lane. -/
theorem witness_CodewordReception :
    ((State.reset.setF (R.PORT_LANE_CTRL 0 0) F.PORT_LANE_CTRL_WIDTH 1).setF (R.PORT_LANE_CTRL 0 1) F.PORT_LANE_CTRL_WIDTH 0).portOfLane 0 1 = none ∧
    State.reset.portOfLane 0 0 = some 0 ∧ State.reset.portOfLane 7 143 = some 129 ∧
    (rsDecode ((List.replicate 544 (0 : BitVec 10)).map BitVec.toNat)).map (·.2) = some 0 ∧
    (rsDecode ((List.replicate 16 (1 : BitVec 10)).map BitVec.toNat)).isNone = true := by
  decide +kernel

/-- A header that passes every check (R55): a DATA frame, version 1, traffic class 0, hop limit 5, 32 payload bytes. -/
def goodHeader : Header := mkHeader 1 1 0 5 0 0 0x04000001 0x04000402 7 0 0 32 3 0 0

/-- A state in which port 0 of die 0 is UP. -/
def upState : State := State.reset.setF (R.PORT_CORE_STATUS 0 0) F.PORT_CORE_STATUS_STATE 4

/-- Witnesses of the premises of FrameHeaderChecks. -/
theorem witness_FrameHeaderChecks :
    ((State.reset.updPort 0 0 fun x => { x with hunt := true }).port 0 0).hunt = true ∧
    headerCheck State.reset { goodHeader with w7 := 0 } = some 0 ∧
    ((State.reset.updPort 0 0 fun x => { x with hunt := false }).port 0 0).hunt = false ∧
    headerCheck State.reset (mkHeader 3 1 0 5 0 0 0x04000001 0x04000402 7 0 0 32 3 0 0) = some 6 ∧
    headerCheck State.reset (mkHeader 1 1 0 0 0 0 0x04000001 0x04000402 7 0 0 32 3 0 0) = some 8 ∧
    headerCheck State.reset goodHeader = none ∧ headerCheck upState goodHeader = none ∧
    State.reset.portUp 0 0 = false ∧ upState.portUp 0 0 = true ∧ upState.pwr.hold = false ∧
    ({ upState with pwr := { upState.pwr with hold := true } } : State).pwr.hold = true := by
  decide +kernel

/-- Witnesses of the premises of FrameReception. -/
theorem witness_FrameReception :
    State.reset.portExists 7 120 = true ∧ (State.reset.port 7 120).rxOpen = none ∧
    ((State.reset.updPort 7 120 fun x => { x with rxOpen := some 3 }).port 7 120).rxOpen = some 3 ∧
    (State.reset.updPort 7 120 fun x => { x with rxOpen := some 3 }).portExists 7 120 = true ∧
    (State.reset.setF (R.PORT_LANE_CTRL 0 1) F.PORT_LANE_CTRL_WIDTH 0).portExists 0 1 = false ∧
    (State.reset.port 7 120).rxStream = [] ∧ (State.reset.port 7 120).rxHdr = none ∧ (State.reset.port 7 120).rxSkip = 0 ∧
    (headerOf (zeros 32)).w7.toNat ≠ hCrc (headerOf (zeros 32)) ∧ goodHeader.w7.toNat = hCrc goodHeader ∧
    headerOf (hBytes goodHeader ++ beBytes goodHeader.w7.toNat 4) = goodHeader ∧
    (let s := State.reset.setFrm 3 { FrameRec.init with frame := ⟨goodHeader, [], 0⟩ }
     s.frm? 3 = some { FrameRec.init with frame := ⟨goodHeader, [], 0⟩ } ∧ (zeros 32).length = hPlen goodHeader ∧
      (BitVec.ofNat 32 (payloadCrc (zeros 32))).toNat = payloadCrc (zeros 32) ∧ (0#32).toNat ≠ payloadCrc (zeros 32)) := by
  decide +kernel

/-- Witnesses of the premises of FlowControlReceived. -/
theorem witness_FlowControlReceived :
    State.reset.fld (R.PORT_FC_STATUS 0 0) F.PORT_FC_STATUS_TX_OFF = 0 ∧
    (State.reset.setF (R.PORT_FC_STATUS 7 127) F.PORT_FC_STATUS_TX_OFF 4).fld (R.PORT_FC_STATUS 7 127) F.PORT_FC_STATUS_TX_OFF ≠ 0 ∧
    State.reset.paused 0 0 7 = false ∧
    (let s := State.reset.setF (R.PORT_FC_STATUS 7 129) F.PORT_FC_STATUS_RX_OFF 128
     let t : State := { s.updPort 7 129 fun x => { x with pausedAt := [(7, 1)] } with cycle := 160000001 }
     t.paused 7 129 7 = true ∧ t.fld (R.PORT_YFP_CTRL 7 129) F.PORT_YFP_CTRL_PAUSE_WD_MS ≠ 0 ∧ sget (t.port 7 129).pausedAt 7 0 = 1 ∧
     t.fld (R.PORT_YFP_CTRL 7 129) F.PORT_YFP_CTRL_PAUSE_WD_MS * 1600000 < t.cycle + 1 - 1 ∧ sget (s.port 7 129).pausedAt 7 0 = 0) := by
  decide +kernel

/-- Witnesses of the premises of FaultsAndLaneSets. -/
theorem witness_FaultsAndLaneSets :
    (∀ n ∈ State.reset.laneList 0 0, State.reset.rxActive 0 0 n = true → 8 ≤ (State.reset.lane 0 n).quiet) ∧
    (let s := State.reset.setF (R.PORT_LANE_STATUS 0 0) F.PORT_LANE_STATUS_RX_ACTIVE 1
     ¬ ∀ n ∈ s.laneList 0 0, s.rxActive 0 0 n = true → 8 ≤ (s.lane 0 n).quiet) ∧
    ((State.reset.updPort 7 120 fun x => { x with laneSetRx := some (3, 16383), laneSetTx := some (1, 0) }).port 7 120).laneSetRx = some (3, 16383) ∧
    State.reset.leadRx 7 120 = none ∧ (State.reset.port 7 120).txIdx = 0 ∧
    (State.reset.port 7 120).laneSetTx = none := by
  decide +kernel

/-- A lane that is lit, whose next codeword has index i, with these words waiting. -/
def litState (i : Nat) (q : List Ctl) : State :=
  (((State.reset.setLaneState 0 0 lsAdmitted).setBit (laneStatus 0 0) F.LANE_STATUS_TX_LOCK)).updLane 0 0 fun l =>
    { l with txRows := [(i, [])], txq := q }

/-- Its port with no fault condition to send. -/
def calmState (i : Nat) (q : List Ctl) : State :=
  ((litState i q).setF (R.PORT_LANE_CTRL 0 0) F.PORT_LANE_CTRL_MIN_WIDTH 0).setPortState 0 0 2

/-- Witnesses of the premises of CodewordTransmission. -/
theorem witness_CodewordTransmission :
    (litState 0 []).portOfLane 0 0 = some 0 ∧ (litState 0 []).laneLit 0 0 0 = true ∧ State.reset.laneLit 0 0 0 = false ∧
    ((litState 16383 []).lane 0 0).txRows.isEmpty = false ∧ (((litState 16383 []).lane 0 0).txRows.headD (0, [])).1 = 16383 ∧
    (litState 16383 []).sendCond 0 0 ≠ 0 ∧ ((litState 16383 []).lane 0 0).setLeft = 0 ∧ ctlChoice ((litState 1 []).lane 0 0) 1 = none ∧
    ((litState 16383 []).lane 0 0).gap = 0 ∧ (calmState 1 []).sendCond 0 0 = 0 ∧ (calmState 1 []).laneLit 0 0 0 = true ∧
    ctlChoice ((calmState 1 [⟨6, 0, false⟩, ⟨5, 0, false⟩]).lane 0 0) 1 = some ⟨5, 0, false⟩ ∧
    ctlChoice ((calmState 1 [⟨3, 0, false⟩]).lane 0 0) 1 = some ⟨3, 0, false⟩ := by
  decide +kernel

/-- Lane 0 of die 0, which is lane 0 of port 0, in a state of Table 3.2. -/
def laneAt (st : Nat) (f : Lane → Lane) : State := (State.reset.setLaneState 0 0 st).updLane 0 0 f

/-- A lane's sweeps: one best phase, one best threshold with four usable points on each side, an open eye. -/
def sweptLane (l : Lane) : Lane :=
  { l with step := 7, phasePts := [(0, 0)], edges := (List.range 8).map fun i => ((i : Int) - 4, -5, 5),
           thrPts := [⟨-4, 10000, 40⟩, ⟨-3, 10000, 30⟩, ⟨-2, 10000, 20⟩, ⟨-1, 10000, 10⟩, ⟨0, 10000, 0⟩, ⟨1, 10000, 10⟩, ⟨2, 10000, 20⟩,
             ⟨3, 10000, 30⟩, ⟨4, 10000, 40⟩] }

/-- A swept lane with its line good, both rings locked, and no margin too low. -/
def sweptState : State :=
  ((ringLocked (ringLocked (laneAt lsMeasure sweptLane) 0 0 .tx 0) 0 0 .rx 0).setF (R.OPT_TS_CTRL 0) F.OPT_TS_CTRL_MARGIN_MIN 0x8000).setF
    (R.OPT_LASER_STATUS 0) F.OPT_LASER_STATUS_LINE_OK 1

/-- The margin lies within ±20.00 dB. -/
theorem marginOf_bounds (x : ℚ) : -2000 ≤ marginOf x ∧ marginOf x ≤ 2000 := by
  unfold marginOf
  split
  · omega
  · have := List.length_filter_le (fun k : ℕ => decide ((10 : ℚ) ^ (2 * ((k : Int) - 1999) - 1) ≤ x ^ 4000)) (List.range 4000)
    rw [List.length_range] at this
    omega

/-- The swept lane gives a measurement with an eye height of 10 and a margin of at least −20.00 dB. -/
theorem swept_measures : (Machine.measure sweptState 0 0).1.height = 10 ∧
    ∃ m q, (Machine.measure sweptState 0 0).1.fit = some (m, q) ∧ -2000 ≤ m := by
  have h3 : sweptState.lane 0 0 = sweptLane Lane.init := by decide +kernel
  have h1 : fewestErrors (·.2) [((0 : Int), (0 : Nat))] = [(0, 0)] := by decide
  have h2 : fewestErrors SweepPoint.errors (sweptLane Lane.init).thrPts = [⟨0, 10000, 0⟩] := by decide
  have h4 : ((sweptLane Lane.init).thrPts.filter fun p => decide (p.threshold < 0) && pointUsable p).length = 4 := by decide
  have h5 : ((sweptLane Lane.init).thrPts.filter fun p => decide ((0 : Int) < p.threshold) && pointUsable p).length = 4 := by decide
  unfold Machine.measure
  simp only [h3]
  rw [show (sweptLane Lane.init).phasePts = [(0, 0)] from rfl, h1, h2]
  simp only [pickOptimum, List.length_cons, List.length_nil, Nat.mod_one, List.getD_cons_zero, h4, h5, Nat.zero_add, Nat.max_self]
  exact ⟨by decide, _, _, rfl, (marginOf_bounds _).1⟩

/-- The swept lane is admitted. -/
theorem swept_admits : admission (Machine.measure sweptState 0 0).2 0 0 (Machine.measure sweptState 0 0).1 = none := by
  obtain ⟨h, m, q, e, k⟩ := swept_measures
  have r : ∀ s : State, s.regs = sweptState.regs → s.lineOk 0 0 = true ∧ s.bit (laneStatus 0 0) F.LANE_STATUS_TX_TONE_OK = true ∧
      s.ringLock 0 0 .tx = true ∧ s.ringLock 0 0 .rx = true ∧ s.bit (laneStatus 0 0) F.LANE_STATUS_RX_TONE_OK = true ∧
      toSigned 16 (s.fld (R.OPT_TS_CTRL 0) F.OPT_TS_CTRL_MARGIN_MIN) = -32768 := by
    intro s hs
    simp only [State.lineOk, State.bit, State.fld, State.rd, State.ringLock, hs]
    decide +kernel
  obtain ⟨a, b, c, d, f, g⟩ := r (Machine.measure sweptState 0 0).2 rfl
  simp only [admission, laneEngine, laneIndex] at *
  simp only [Nat.zero_mod, Nat.zero_div, Nat.mul_zero, Nat.zero_add] at *
  simp [a, b, c, d, f, g, h, e]
  omega

/-- Witnesses of the premises of TestStrip. -/
theorem witness_TestStrip :
    State.reset.portExists 7 120 = true ∧
    State.reset.laneState 0 0 ≠ lsLaserCheck ∧ (laneAt lsLaserCheck id).laneState 0 0 = lsLaserCheck ∧
    (showLine (laneAt lsLaserCheck id) 0 0 0x7FFF#16 1000).lineOk 0 0 = true ∧
    (showLine (laneAt lsLaserCheck id) 0 0 0x8000#16 1000).lineOk 0 0 = false ∧
    toneNear 1020 (lineTone 0) = true ∧ toneNear 1021 (lineTone 0) = false ∧
    (let s := laneAt lsLocking fun l => { l with seekRx := true };
      s.laneState 0 0 = lsLocking ∧ (s.lane 0 0).seekRx = true ∧ (s.lane 0 0).reseek = false ∧
      (ringLocked s 0 0 .tx 0).ringLock 0 0 .rx = false ∧ (ringLocked (ringLocked s 0 0 .rx 0) 0 0 .tx 0).ringLock 0 0 .rx = true) ∧
    ((laneAt lsLocking fun l => { l with step := 2 }).lane 0 0).step = 2 ∧
    ((laneAt lsParked fun l => { l with reseek := true }).lane 0 0).reseek = true ∧
    State.reset.portOfLane 0 0 = some 0 ∧ (laneAt lsLaserCheck id).answers 0 0 = false ∧
    (ringLocked (laneAt lsLocking id) 0 0 .tx 0).answers 0 0 = true ∧ (State.reset.setLaneState 0 136 lsLaserCheck).laneState 0 136 = lsLaserCheck ∧
    (let s := laneAt lsMeasure fun l => { l with step := 4 };
      s.inMeasure 0 0 = true ∧ (s.lane 0 0).step = 4 ∧ (s.lane 0 0).phasePts = [] ∧ s.slewPaused 0 = false) ∧
    (State.reset.setF (R.OPT_THERM_STATUS 0) F.OPT_THERM_STATUS_SLEW_PAUSE 1).slewPaused 0 = true ∧
    sweptState.inMeasure 0 0 = true ∧ sweptState.laneState 0 0 = lsMeasure ∧ (sweptState.lane 0 0).edges.length = 8 ∧
    (let m : Measured := ⟨none, 0, 0, 0, 0, 1⟩; let s := sweptState;
      admission State.reset 0 0 m = some 0x10 ∧ admission (ringParked s 0 0 .rx) 0 0 m = some 0x11 ∧
      admission (s.setF (laneStatus 0 0) F.LANE_STATUS_RX_TONE_OK 0) 0 0 m = some 0x12 ∧ s.rxToneCheck 0 0 = true ∧
      admission s 0 0 { m with height := 0 } = some 0x14 ∧ admission s 0 0 m = some 0x18 ∧
      admission s 0 0 { m with fit := some (0, 0) } = none) := by
  decide +kernel

/-- Witnesses of the premises of LanesInService. -/
theorem witness_LanesInService :
    (ringParked (laneAt lsAdmitted id) 0 0 .rx).laneState 0 0 = lsAdmitted ∧
    ((laneAt lsRejected fun l => { l with rejRun := 3 }).lane 0 0).rejRun = 3 ∧
    (ringLocked (laneAt lsAdmitted id) 0 0 .tx 0).ringLock 0 0 .tx = true ∧ (laneAt lsAdmitted id).ringLock 0 0 .tx = false ∧
    (laneAt lsAdmitted id).laneState 0 0 = lsAdmitted ∧ (ringLocked (laneAt lsAdmitted id) 0 0 .tx 0).laneState 0 0 = lsAdmitted ∧
    lineOfTone 1000 = some 0 ∧ lineOfTone 2750 = some 7 ∧ lineOfTone 1100 = none ∧
    codewordsBad ((laneAt lsAdmitted fun l => { l with noCw := 8 }).lane 0 0) = true ∧
    codewordsBad ((laneAt lsAdmitted fun l => { l with noCw := 7 }).lane 0 0) = false ∧
    (let s := laneAt lsRelocking fun l => { l with window := true, light := true, stored := some ⟨1, 1, 0, 0, 200⟩ };
      s.laneState 0 0 = lsRelocking ∧ (s.lane 0 0).window = true ∧ (s.lane 0 0).light = true ∧ tempClose s 0 0 = true ∧
      s.slewPaused 0 = false) ∧
    (let s := (laneAt lsRelocking fun l => { l with window := true, light := false }).setF R.OPTICAL_STATUS F.OPTICAL_STATUS_ENGINE_UP 1;
      s.laneState 0 0 = lsRelocking ∧ (s.lane 0 0).light = false ∧ tempClose s 0 0 = false ∧ s.testable 0 0 false = true) ∧
    (laneAt lsDark id).laneState 0 0 = lsDark ∧ (State.reset.lane 0 0).window = false ∧
    (let s := (laneAt lsRejected fun l => { l with rejRun := 2 }).setF R.OPTICAL_STATUS F.OPTICAL_STATUS_ENGINE_UP 1;
      s.laneState 0 0 = lsRejected ∧ (s.lane 0 0).rejRun < 3 ∧ s.testable 0 0 false = true ∧
      s.fld (R.OPT_LANE_POLICY 0) F.OPT_LANE_POLICY_RETEST_S ≠ 0) ∧
    State.reset.laneState 0 0 ≠ lsRejected := by
  decide +kernel

/-- Witnesses of the premises of LaneControlAndHeat. -/
theorem witness_LaneControlAndHeat :
    State.reset.bit (R.LANE_CTRL 0 0) F.LANE_CTRL_EXCLUDE = false ∧ State.reset.isRetired (laneKind 0) 0 0 = false ∧
    (State.reset.setF (R.LANE_CTRL 0 0) F.LANE_CTRL_EXCLUDE 1).bit (R.LANE_CTRL 0 0) F.LANE_CTRL_EXCLUDE = true ∧
    (State.reset.setHealth (laneKind 0) 0 0 { UnitHealth.init with state := 3 }).isRetired (laneKind 0) 0 0 = true ∧
    widthBad State.reset 0 0 9 = true ∧ widthBad State.reset 0 0 8 = false ∧
    reserveOverflow 0 0 State.reset (State.reset.setF (R.PORT_LANE_CTRL 0 0) F.PORT_LANE_CTRL_WIDTH 8) = false ∧
    (let s := (((State.reset.setF (R.PORT_YFP_CTRL 0 0) F.PORT_YFP_CTRL_LOSSLESS_TC 1).setF (R.PORT_ADMIT 0 0) F.PORT_ADMIT_ADMIT 1).setF (R.BUF_POOL_CTRL 0) F.BUF_POOL_CTRL_STAGE_CELLS 0).setF
        (R.PORT_LANE_CTRL 0 0) F.PORT_LANE_CTRL_WIDTH 1;
      widthBad s 0 0 8 = false ∧ reserveOverflow 0 0 s (s.setF (R.PORT_LANE_CTRL 0 0) F.PORT_LANE_CTRL_WIDTH 8) = true) ∧
    (8499#16).toInt < 8500 ∧ 8500 ≤ (8500#16).toInt ∧ State.reset.slewPaused 0 = false ∧
    ((State.reset.fld (R.OPT_THERM_CTRL 0) F.OPT_THERM_CTRL_SLEW_LIMIT * 10 : Nat) : Int) < (2047#12).toInt ∧
    (0#12).toInt ≤ ((State.reset.fld (R.OPT_THERM_CTRL 0) F.OPT_THERM_CTRL_SLEW_LIMIT * 10 : Nat) : Int) ∧
    (State.reset.setF (R.OPT_THERM_STATUS 15) F.OPT_THERM_STATUS_SLEW_PAUSE 1).slewPaused 15 = true ∧
    toSigned 12 (State.reset.fld (R.OPT_THERM_STATUS 15) F.OPT_THERM_STATUS_SLOPE) <
      ((State.reset.fld (R.OPT_THERM_CTRL 15) F.OPT_THERM_CTRL_SLEW_RESUME * 10 : Nat) : Int) ∧
    State.reset.lineOk 0 0 = false ∧
    (showLine State.reset 15 7 0x7FFF#16 2750).lineOk 15 7 = true := by
  decide +kernel

/-- A state that follows port 7.127 with one exchange under way. -/
def followState (t2 : Option Stamp) : State :=
  State.reset.updTime fun t => { t with master := some (7, 127), exch := [⟨63, ⟨0, 0⟩, t2⟩] }

/-- Witnesses of the premises of TimeExchanges. -/
theorem witness_TimeExchanges :
    State.reset.time.master = none ∧ (followState none).time.master = some (7, 127) ∧ (followState none).isRoot = false ∧
    State.reset.leadTx 7 127 = none ∧
    ((State.reset.setF (R.PORT_LANE_STATUS 0 0) F.PORT_LANE_STATUS_TX_ACTIVE 1).leadTx 0 0).isSome = true ∧
    (followState none).time.exch.find? (fun e => e.seq == 62) = none ∧
    (followState none).time.exch.find? (fun e => e.seq == 63) = some ⟨63, ⟨0, 0⟩, none⟩ ∧
    (followState (some ⟨5, 0⟩)).time.exch.find? (fun e => e.seq == 63) = some ⟨63, ⟨0, 0⟩, some ⟨5, 0⟩⟩ ∧
    State.reset.time.exch = [] ∧ (followState none).time.exch = [⟨63, ⟨0, 0⟩, none⟩] := by
  decide +kernel

/-- Witnesses of the premises of ServoOnOffset. -/
theorem witness_ServoOnOffset :
    (State.reset.fld R.TIME_SERVO F.TIME_SERVO_STEP_NS : ℚ) < |(100000 : ℚ)| ∧
    |(0 : ℚ)| ≤ (State.reset.fld R.TIME_SERVO F.TIME_SERVO_STEP_NS : ℚ) ∧ State.reset.timeState ≠ tsLocked ∧
    (State.reset.setF R.TIME_STATUS F.TIME_STATUS_STATE tsLocked).timeState = tsLocked ∧ State.reset.time.count ≠ 3 := by
  have h : State.reset.fld R.TIME_SERVO F.TIME_SERVO_STEP_NS ≤ 65535 := by decide +kernel
  refine ⟨?_, by simp, by decide +kernel, by decide +kernel, by decide +kernel⟩
  have : (State.reset.fld R.TIME_SERVO F.TIME_SERVO_STEP_NS : ℚ) ≤ 65535 := by exact_mod_cast h
  rw [abs_of_pos (by norm_num)]
  linarith

/-- Witnesses of the premises of MastersAndReferenceEdges. -/
theorem witness_MastersAndReferenceEdges :
    State.reset.time.master = none ∧ State.reset.time.lost = false ∧ (followState none).time.lost = false ∧
    ((followState none).updTime fun t => { t with lost := true }).time.lost = true ∧
    State.reset.srcUp (srcOf .ref) = false ∧
    (let s := (State.reset.setF R.TIME_REF_CTRL F.TIME_REF_CTRL_REF_PRIO 7).updTime fun t => { t with refUp := true };
      s.srcUp (srcOf .ref) = true ∧ s.time.master = none ∧ bestSource s none = some (255, 0) ∧ bestSource s none ≠ s.time.master) ∧
    bestSource State.reset none = State.reset.time.master ∧
    (let s := (followState none).updTime fun t => { t with silent := [(7, 127)] }; (7, 127) ∈ s.time.silent) ∧
    State.reset.now ≠ 2 ^ 32 - 1 ∧
    (let s := State.reset.updTime fun t => { t with fab := (2 ^ 32 - 1) * 2 ^ 56 }; s.now = 2 ^ 32 - 1 ∧ s.wraps + 1 < 2 ^ 32) ∧
    (State.reset.setF R.TIME_CTRL F.TIME_CTRL_ROOT 1).isRoot = true ∧
    State.reset.bit R.TIME_REF_CTRL F.TIME_REF_CTRL_PPS_IN_EN = false ∧ State.reset.time.ppsExpect = none ∧
    (let s := (State.reset.setF R.TIME_REF_CTRL F.TIME_REF_CTRL_PPS_IN_EN 1).updTime fun t => { t with ppsLoad := true };
      s.bit R.TIME_REF_CTRL F.TIME_REF_CTRL_PPS_IN_EN = true ∧ s.time.ppsLoad = true ∧ s.time.fab < 2 ^ 120) ∧
    (let s := State.reset.updTime fun t => { t with ppsExpect := some 65536000001 };
      s.time.ppsExpect = some 65536000001 ∧ 65536000000 < |stampDiff (stampNat s.stamp) 65536000001|) ∧
    (let s := State.reset.updTime fun t => { t with ppsExpect := some 5 };
      s.time.ppsExpect = some 5 ∧ stampDiff (stampNat s.stamp) 5 < 65536000000) ∧
    (let s := State.reset.updTime fun t => { t with ppsExpect := some (2 ^ 48 - 65536000000) };
      s.time.ppsExpect = some (2 ^ 48 - 65536000000) ∧ 65536000000 ≤ stampDiff (stampNat s.stamp) (2 ^ 48 - 65536000000)) ∧
    (let s := State.reset.setF R.TIME_REF_CTRL F.TIME_REF_CTRL_PPS_OUT_EN 1;
      s.bit R.TIME_REF_CTRL F.TIME_REF_CTRL_PPS_OUT_EN = true ∧ -2 ≤ s.ppsOutLate ∧ s.ppsOutLate ≤ 2 ∧
      s.bit R.PAD_RELEASE F.PAD_RELEASE_HELD = false ∧
      (s.setF R.PAD_RELEASE F.PAD_RELEASE_HELD 1).bit R.PAD_RELEASE F.PAD_RELEASE_HELD = true) ∧
    State.reset.bit R.TIME_REF_CTRL F.TIME_REF_CTRL_PPS_OUT_EN = false ∧
    (State.reset.updTime fun t => { t with ppsOutAt := 3 }).ppsOutLate < -2 := by
  decide +kernel

/-- A lanyard port 7.129 with a rota of one slot of 1,000 ns, whose lane 7 transmits on colour 31 and receives on colour 31 from the peer of
entry 31, in ACTIVE with time LOCKED. -/
def rotaState : State :=
  let s1 := (State.reset.setF (R.LANYARD_ROTA_ACTIVE 7 129) F.LANYARD_ROTA_ACTIVE_SLOT_NS 1000).setF (R.LANYARD_ROTA_ACTIVE 7 129)
    F.LANYARD_ROTA_ACTIVE_LENGTH 1
  let s2 := ((s1.setF (R.LANYARD_STATUS 7 129) F.LANYARD_STATUS_STATE lanyardActive).setF R.TIME_STATUS F.TIME_STATUS_STATE tsLocked).setF
    R.OPTICAL_STATUS F.OPTICAL_STATUS_ENGINE_UP 0x8000
  let s3 := (s2.setF (R.OPT_LASER_STATUS 15) F.OPT_LASER_STATUS_LANYARD_FEED_OK 1).setF (R.LANYARD_PEER_STATUS 7 129 31)
    F.LANYARD_PEER_STATUS_RX_OK 1
  let s4 := ((s3.setF (R.LANYARD_STATUS 7 129) F.LANYARD_STATUS_GUARD_NS 60).setF (R.LANYARD_PEER_STATUS 7 129 31)
    F.LANYARD_PEER_STATUS_RX_COLOUR 31).setF (R.LANYARD_PEER_PATH 7 129 31)
    F.LANYARD_PEER_PATH_RX_LANES 0x80
  { s4 with tabs := { s4.tabs with slot0 := [(regLoc (R.LANYARD_ROTA 7 129 7 0).addr, [0x9F9F])] } }

/-- Witnesses of the premises of LanyardSlots. -/
theorem witness_LanyardSlots :
    rotaState.dueSlot 7 1 0 = some 0 ∧ rotaState.dueSlot 7 1 50 = some 0 ∧
    (rotaState.updLan 7 1 fun l => { l with slot := 1 }).dueSlot 7 1 0 = none ∧
    (rotaState.updLan 7 1 fun l => { l with slot := 1 }).dueSlot 7 1 50 = none ∧
    rotaState.rotaRuns 7 1 = true ∧ State.reset.rotaRuns 7 1 = false ∧
    entryTx (rotaState.rotaEntry 7 1 7 0) = true ∧ entryTx (State.reset.rotaEntry 7 1 7 0) = false ∧
    rotaState.lanMayTransmit 7 1 = true ∧ (128 : Nat).testBit 7 = true ∧ rotaState.lanLaneOk 7 1 7 = true ∧
    rotaState.timeState ≠ tsHoldover ∧ (State.reset.setF R.TIME_STATUS F.TIME_STATUS_STATE tsHoldover).timeState = tsHoldover ∧
    (let s := { (State.reset.setF (R.LANYARD_PORT_CTRL 7 129) F.LANYARD_PORT_CTRL_HOLDOVER_MS 1).setF
        (R.LANYARD_PORT_CTRL 7 129) F.LANYARD_PORT_CTRL_MAX_WAIT_US 1000 with cycle := 1600000 };
      s.fld (R.LANYARD_PORT_CTRL 7 129) F.LANYARD_PORT_CTRL_HOLDOVER_MS * 1600000 ≤ s.cycle - s.time.holdAt ∧
      s.cycle - 1 < s.fld (R.LANYARD_PORT_CTRL 7 129) F.LANYARD_PORT_CTRL_HOLDOVER_MS * 1600000 ∧
      s.fld (R.LANYARD_PORT_CTRL 7 129) F.LANYARD_PORT_CTRL_MAX_WAIT_US * 1600 ≤ s.cycle - 0 ∧
      s.cycle - 1 < s.fld (R.LANYARD_PORT_CTRL 7 129) F.LANYARD_PORT_CTRL_MAX_WAIT_US * 1600) ∧
    sget (rotaState.lan 7 1).queues 63 [] = [] ∧
    sget ((rotaState.updLan 7 1 fun l => { l with queues := [(63, [(0, 0)])] }).lan 7 1).queues 63 [] = [(0, 0)] := by
  decide +kernel

/-- Witnesses of the premises of LanyardBursts. -/
theorem witness_LanyardBursts :
    rotaState.rxSlot 7 1 (burstTime rotaState .silent) = some ⟨[0, 0, 0, 0, 0, 0, 0, 0x9F9F], 0, 60, 60⟩ ∧
    rotaState.rxSlot 7 1 (burstTime rotaState (.burst 0 31 0 0 none [])) = some ⟨[0, 0, 0, 0, 0, 0, 0, 0x9F9F], 0, 60, 60⟩ ∧
    entryRx 0x9F9F = true ∧ entryRxColour 0x9F9F = 31 ∧ entryRx 0 = false ∧
    (rotaState.setF (R.LANYARD_PEER_STATUS 7 129 31) F.LANYARD_PEER_STATUS_RX_OK 0).peerHeard 7 1 7 31 = none ∧
    (rotaState.setF (R.LANYARD_RX_DELAY 7 129) F.LANYARD_RX_DELAY_DELAY_NS 1000).rxSlot 7 1 0 = none ∧
    State.reset.rotaRuns 7 1 = false ∧ rotaState.rotaRuns 7 1 = true ∧
    rotaState.lanRxOk 7 1 7 = true ∧ (rotaState.updLan 7 1 fun l => { l with removed := 128 }).lanRxOk 7 1 7 = false ∧
    rotaState.peerHeard 7 1 7 31 = some 31 ∧ rotaState.rd (R.LANYARD_PEER_ADDR 7 129 31) = 0#32 ∧
    (RxSlot.mk [] 0 1000 100).inTime 1020 = true ∧ (RxSlot.mk [] 0 1000 100).inTime 1021 = false := by
  decide +kernel

/-- Witnesses of the premises of LanyardVerification. -/
theorem witness_LanyardVerification :
    (rotaState.lan 7 1).removed.testBit 7 = false ∧ colourTone 1000 0 = true ∧ colourTone 1021 0 = false ∧
    sget (rotaState.lan 7 1).reseek 511 0 = 0 ∧
    ((rotaState.updLan 7 1 fun l => { l with removed := 128 }).lan 7 1).removed.testBit 7 = true ∧
    ((rotaState.updLan 7 1 fun l => { l with removed := 128 }).lan 7 1).strip = false ∧
    sget ((rotaState.updLan 7 1 fun l => { l with reseek := [(511, 1)] }).lan 7 1).reseek 511 0 ≠ 0 := by
  decide +kernel

/-- Witnesses of the premises of LanyardDiscovery. -/
theorem witness_LanyardDiscovery :
    (let s := State.reset.setBit (R.LANYARD_TS_CTRL 7 129) F.LANYARD_TS_CTRL_ARM;
      s.bit (R.LANYARD_TS_CTRL 7 129) F.LANYARD_TS_CTRL_ARM = true ∧ s.reached (s.stripAt 7 1) = true ∧ (s.lan 7 1).strip = false) ∧
    (State.reset.lan 7 1).strip = false ∧
    (let s := (State.reset.updLan 7 1 fun l => { l with strip := true }).wr (R.LANYARD_TS_START 7 129) 0xFF000000#32;
      (s.lan 7 1).strip = true ∧ s.laneState 7 143 ≠ lsMeasure ∧ s.laneState 7 143 ≠ lsLocking ∧
      s.reached (s.stripAt 7 1 + 6296000) = true) ∧
    (let s := (((State.reset.updLan 7 1 fun l => { l with strip := true }).setLaneState 7 143 lsMeasure).wr
        (R.LANYARD_TS_START 7 129) (-2200000#32 - 31#32 * 64000#32));
      (s.lan 7 1).strip = true ∧ s.laneState 7 143 = lsMeasure ∧ s.discoveryOpen 7 1 false 31 = true ∧
      s.discoveryOpen 7 1 true 31 = false ∧
      s.bit (laneStatus 7 143) F.LANE_STATUS_RX_LOCK = false ∧
      (s.setBit (laneStatus 7 143) F.LANE_STATUS_RX_LOCK).bit (laneStatus 7 143) F.LANE_STATUS_RX_LOCK = true ∧ s.heardOn 7 1 7 27 = none) := by
  decide +kernel

/-- A state whose transaction is in a state of Table 6.8, owned by 5. -/
def txnState (n : Nat) : State := (State.reset.setTxn n).updTabs fun t => { t with owner := 5, copying := n == 4 || n == 1 }

/-- A state with a frame of id 0, whole or not, first in the backlog of pipe 7.15. -/
def backlogState (w : Bool) : State :=
  (State.reset.setFrm 0 { FrameRec.init with
    frame := ⟨mkHeader 1 1 0 5 0 0 0x04000001 0x04000402 7 0 0 32 3 0 0, [], 0⟩, inDie := 7, inPort := 120, whole := w }).setBacklog 7 15 [0]

/-- Witnesses of the premises of FrameLookup. -/
theorem witness_FrameLookup :
    nextOfBacklog State.reset 7 15 = none ∧ State.reset.pipeOut 7 15 = false ∧ State.reset.pipeOut 7 (15 ^^^ 1) = false ∧
    nextOfBacklog (backlogState true) 7 15 = some 0 ∧ (backlogState true).pipeOut 7 15 = false ∧
    (let s := (backlogState true).setHealth 5 7 15 { UnitHealth.init with state := 3 };
      s.pipeOut 7 15 = true ∧ s.pipeOut 7 14 = false ∧ nextOfBacklog s 7 14 = none ∧ nextOfBacklog s 7 (14 ^^^ 1) = some 0) ∧
    ingressBad (backlogState true) ((backlogState true).frm 0) = true ∧
    (let s := backlogState true;
      ingressBad s { s.frm 0 with origin := .host } = false ∧ frameFenced s { s.frm 0 with origin := .host } = false) ∧
    (let s := ((backlogState true).updFrm 0 fun x => { x with origin := .host }).setF (R.PARTITION_FENCE 0 1) F.PARTITION_FENCE_FENCE 1;
      ingressBad s (s.frm 0) = false ∧ frameFenced s (s.frm 0) = true) ∧
    (let s := (backlogState true).updFrm 0 fun x => { x with origin := .host };
      (resolve (learnCheck (s.lookupCount 7 15 0) 7 15 (s.frm 0)) 7 15 s.genBit (hDest (s.frm 0).frame.hdr)).1 = none) ∧
    (let s := ((backlogState true).updFrm 0 fun x => { x with origin := .host }).updTabs fun t =>
        { t with slot0 := [(tblLoc 3 4, [0xB0000000, 0])] };
      (resolve (learnCheck (s.lookupCount 7 15 0) 7 15 (s.frm 0)) 7 15 s.genBit (hDest (s.frm 0).frame.hdr)).1 =
        some (0xB0000000, .trie)) := by
  decide +kernel

/-- Witnesses of the premises of TableTransactions. -/
theorem witness_TableTransactions :
    State.reset.txn = txIdle ∧ State.reset.tabs.transit = false ∧ (txnState 4).txn = txCatchup ∧ (txnState 4).tabs.copying = true ∧
    ((txnState 0).updTabs fun t => { t with transit := true }).tabs.transit = true ∧ (txnState 0).txn = txIdle ∧
    (txnState 2).txn = txOpen ∧ (txnState 2).tabs.owner = (5#8).toNat ∧ (txnState 2).tabs.owner ≠ (6#8).toNat ∧
    (txnState 2).tabs.journal.any isLanyardLoc = false ∧
    ((txnState 2).updTabs fun t => { t with journal := [regLoc (R.LANYARD_ROTA_STAGE 0 128).addr] }).tabs.journal.any isLanyardLoc = true ∧
    ((txnState 2).wr (R.TXN_TIME 0) 999#32).ahead 999 < 1000 ∧ ((txnState 2).wr (R.TXN_TIME 0) 1000#32).rd (R.TXN_TIME 0) = 1000#32 ∧
    1000 ≤ (txnState 2).ahead 1000 ∧ (txnState 2).ahead (2 ^ 30 - 1) < 2 ^ 30 ∧ 2 ^ 30 ≤ (txnState 2).ahead (2 ^ 30) ∧
    (txnState 3).txn = txPending ∧ (txnState 3).reached (txnState 3).tabs.flipAt = true ∧
    ((txnState 3).updTabs fun t => { t with flipAt := 1 }).reached 1 = false ∧
    (txnState 1).txn = txBeginWait ∧ (txnState 1).tabs.copying = true ∧ (txnState 2).tabs.copying = false ∧
    (txnState 5).txn = txAborting ∧ (txnState 2).txn ≠ txAborting := by
  decide +kernel

/-- Witnesses of the premises of TableOperations. -/
theorem witness_TableOperations :
    (txnState 2).txn = txOpen ∧ (txnState 2).tabs.transit = false ∧ ¬ (State.reset.txn = txOpen) ∧
    (txnState 2).tblIndex < tblSize 9 ∧ tblSize 9 ≤ ((txnState 2).setF (R.TBL_INDEX 0) F.TBL_INDEX_INDEX 4096).tblIndex ∧
    (journalAll (txnState 2) [tblLoc 9 4095]).isSome = true ∧
    (let s := (txnState 2).wr (R.TBL_DATA 0 0) 5#32;
      s.tblData 0 ≠ 0 ∧ s.tblData 0 ≠ 0xFFFFFFFF ∧ (insertKey s (s.tabs.slot s.staged) (s.tblEntry 0)).ok = true ∧
      (journalAll (showInsert s (insertKey s (s.tabs.slot s.staged) (s.tblEntry 0)))
        (insertKey s (s.tabs.slot s.staged) (s.tblEntry 0)).changed).isSome = true ∧
      keyLoc s (s.tabs.slot s.staged) (s.tblData 0) = none) ∧
    (let s := ((txnState 2).wr (R.TBL_DATA 0 0) 5#32).updTabs fun t => { t with slot1 := [(tblLoc 1 524288, [5, 1, 0])] };
      keyLoc s (s.tabs.slot s.staged) (s.tblData 0) = some 524288) ∧
    ([0, 1].any (· != 0)) = true ∧
    (findReg (canonAddr 0x17600000)).map (fun x => x.1.reg) = some .NATIVE_BLOCK ∧
    (findReg (canonAddr (R.LANYARD_ROTA_STAGE 7 129).addr)).map (fun x => (x.1.reg, stagedIgnored x.1 0, stagedIgnored x.1 0x1F4)) =
      some (.LANYARD_ROTA_STAGE, true, false) := by
  decide +kernel

/-- Witnesses of the premises of LearnScrubFence. -/
theorem witness_LearnScrubFence :
    State.reset.tabs.learn = [] ∧ (txnState 2).txn ≠ txIdle ∧
    (let s := State.reset.updTabs fun t => { t with learn := [⟨5, 0, 0, 0⟩] };
      s.tabs.learn = [⟨5, 0, 0, 0⟩] ∧ s.txn = txIdle ∧ ovrFind s s.genBit 5 = none) ∧
    (let s := State.reset.updTabs fun t => { t with slot0 := [(tblLoc 1 524288, [5, 0x81000000, 0xC0000000]), (tblLoc 1 524289, [6, 0x81000000, 0])] };
      ovrFind s s.genBit 5 = some 524288 ∧ (s.tword s.genBit (tblLoc 1 524288) 2).testBit 31 = true ∧
      ovrFind s s.genBit 6 = some 524289 ∧ (s.tword s.genBit (tblLoc 1 524289) 2).testBit 31 = false) ∧
    tblSize 9 ≤ 4096 ∧ 4095 < tblSize 9 ∧ State.reset.marked 0 0 5 = false ∧
    (let s := (State.reset.updTabs fun t => { t with stale := [7] }).setF R.DIE_STATUS F.DIE_STATUS_DIE_UP 1;
      s.tabs.stale.contains 7 = true ∧ s.dieUp 0 = true ∧ s.tabs.stale.contains 0 = false) ∧
    State.reset.tabs.stale.contains 7 = false := by
  decide +kernel

/-- A state in which the egress of port 7.127 has a frame of 64 bytes for class 5, made by `o` and lossless or not. -/
def egressFrame (o : Origin) (l : Bool) : State :=
  (State.reset.setFrm 0 { FrameRec.init with
    frame := ⟨mkHeader 1 1 0 5 0 0 0x04000001 0x04000402 7 0 0 32 3 0 0, [], 0⟩, inDie := 7, inPort := 120, outDie := 7,
    outPort := 127, tc := 5, origin := o, lossless := l, arrived := true, whole := true }).updDie 7
      fun x => { x with admitQ := [0] }

/-- The same with no minimum for the port and its share of the shared pool spent. -/
def fullEgress (o : Origin) (l : Bool) (used : Nat) : State :=
  (((egressFrame o l).setF (R.PORT_BUF_CTRL 7 127) F.PORT_BUF_CTRL_MIN_CELLS 0).updDie 7 fun x => { x with sharedUsed := used }).updPort 7 127
    fun x => { x with shUsed := [(5, 131072)] }

/-- A port in state `st` whose class queue 5 holds frame 0. -/
def queuedPort (st : Nat) : State := ((egressFrame .port false).setPortState 7 127 st).updPort 7 127 fun x => x.setQueue 5 [0]

/-- A port in state UP whose timed queue holds frame 0 with launch time `l`. -/
def timedPort (l : Nat) : State :=
  (((egressFrame .port false).setF (R.TQ_CTRL 7 127) F.TQ_CTRL_REQUIRE_LOCK 0).setPortState 7 127 4).updPort 7 127 fun x => { x with timed := [(0, l)] }

/-- Witnesses of the premises of CrossbarSlot. -/
theorem witness_CrossbarSlot :
    (let s := (egressFrame .port false).updDie 7 fun x => { x with xfers := [⟨120, 127, 0, 1, false, false, 8, 8⟩, ⟨172, 3, 0, 2, true, true, 8, 8⟩] }
     (matchSlot s 7).1 = [(120, 127)]) ∧
    (1 : Fin 8) ≠ 0 ∧
    (offWanted { Link.init with offSent := 4 }).testBit 2 = false := by
  decide +kernel

/-- Witnesses of the premises of EgressAdmission. -/
theorem witness_EgressAdmission :
    (State.reset.die 0).waitQ = [] ∧ (State.reset.die 0).admitQ = [] ∧ ((egressFrame .port false).die 7).admitQ = [0] ∧
    (let s := (egressFrame .port false).updDie 7 fun x => { x with admitQ := [] }
     s.portState 7 127 ≠ 4 ∧ orderedRefusal s (s.frm 0) = some 12 ∧ orderedRefusal (s.setPortState 7 127 2) (s.frm 0) = some 10 ∧
     orderedRefusal (s.setPortState 7 127 3) (s.frm 0) = none ∧ orderedRefusal (s.setPortState 7 127 4) (s.frm 0) = none) ∧
    (let s := (egressFrame .port false).updFrm 0 fun x => { x with mcast := true }
     (s.frm 0).mcast = true ∧ s.portUp 7 127 = false) ∧
    (let s := (egressFrame .port false).setPortState 7 127 4
     s.skips (s.frm 0) = false ∧ orderedRefusal s (s.frm 0) = none ∧ cellsOf (hLen (s.frm 0).frame.hdr) = 1 ∧
     (s.frm 0).service = 0 ∧ (s.frm 0).outPort = 127 ∧ (s.frm 0).mcast = false ∧ blockedByWaiter s 0 (s.die 7).waitQ = false ∧
     admitRegion (noteShared s (s.frm 0) 1) (s.frm 0) 1 = some .portMin ∧
     (s.port 7 127).minUsed + 1 ≤ s.fld (R.PORT_BUF_CTRL 7 127) F.PORT_BUF_CTRL_MIN_CELLS) ∧
    (let s := ((egressFrame .port false).setPortState 7 127 4).setFrm 1 ((egressFrame .port false).frm 0)
     orderedRefusal s (s.frm 0) = none ∧ blockedByWaiter s 0 [1] = true) ∧
    (let s := (fullEgress .port true 0).setPortState 7 127 4
     orderedRefusal s (s.frm 0) = none ∧ blockedByWaiter s 0 (s.die 7).waitQ = false ∧
     admitRegion (noteShared s (s.frm 0) 1) (s.frm 0) 1 = none ∧ mustWait (s.frm 0) = true) ∧
    (let s := (fullEgress .port false 0).setPortState 7 127 4
     orderedRefusal s (s.frm 0) = none ∧ blockedByWaiter s 0 (s.die 7).waitQ = false ∧
     admitRegion (noteShared s (s.frm 0) 1) (s.frm 0) 1 = none ∧ mustWait (s.frm 0) = false ∧ 1 ≤ s.sharedFree 7) ∧
    (let s := noteShared ((fullEgress .port false 131072).setPortState 7 127 4) ((fullEgress .port false 0).frm 0) 1
     orderedRefusal s (s.frm 0) = none ∧ blockedByWaiter s 0 (s.die 7).waitQ = false ∧
     admitRegion s (s.frm 0) 1 = none ∧ mustWait (s.frm 0) = false ∧ s.sharedFree 7 < 1 ∧
     (pushOut 7 (s.pushClass 7 5) 1 4 s).isSome = false) ∧
    (let s := (((fullEgress .port false 0).setF (R.PUSHOUT_MAP 7) (F.PUSHOUT_MAP_CLASS 5) 3).setF (R.PUSHOUT_MAP 7) (F.PUSHOUT_MAP_CLASS 0) 0).setFrm 1
        { (egressFrame .port false).frm 0 with tc := 0, region := .shared, cells := 1 }
     let u := (s.updPort 7 127 fun x => x.setQueue 0 [1]).updDie 7 fun x => { x with sharedUsed := s.sharedSize 7 }
     u.sharedFree 7 < 1 ∧ (pushOut 7 (u.pushClass 7 5) 1 4 u).isSome = true) ∧
    (let s := (egressFrame .port false).updPort 7 127 fun x => { x with tx := some 0 }
     (s.port 7 127).tx = some 0 ∧ (s.frm 0).cut = false ∧ ((s.updFrm 0 fun x => { x with cut := true }).frm 0).cut = true) := by
  decide +kernel

/-- Witnesses of the premises of PortStates. -/
theorem witness_PortStates :
    (queuedPort 1).portState 7 127 = 1 ∧ (queuedPort 2).portState 7 127 = 2 ∧ (queuedPort 3).portState 7 127 = 3 ∧ (queuedPort 4).portState 7 127 = 4 ∧
    (queuedPort 0).portState 7 127 = 0 ∧ (State.reset.setPortState 7 129 4).portState 7 129 = 4 ∧ ((queuedPort 3).port 7 127).slew = false ∧
    (queuedPort 3).portReady 7 127 = false ∧
    (((queuedPort 3).setF (R.PORT_ADMIT 7 127) F.PORT_ADMIT_ADMIT 1).setF (R.PORT_LANE_STATUS 7 127) F.PORT_LANE_STATUS_UP 1).portReady 7 127 = true ∧
    (State.reset.setPortState 7 129 1).isRetired (portKind 129) 7 129 = false ∧
    (State.reset.setPortState 7 129 1).gen = 0 ∧
    (let s := (State.reset.wr (R.TXN_GEN 0) 1).setPortState 7 129 1
     s.portState 7 129 = 1 ∧ s.gen ≠ 0 ∧ s.tabs.stale.contains 7 = false ∧
     s.reserveSum 7 (fun q => decide (q ≠ 129) && s.bit (R.PORT_ADMIT 7 q) F.PORT_ADMIT_ADMIT) + s.reserve 7 129 ≤
       s.fld (R.BUF_POOL_CTRL 7) F.BUF_POOL_CTRL_STAGE_CELLS) ∧
    (let s := (((State.reset.wr (R.TXN_GEN 0) 1).setPortState 7 127 1).setF (R.PORT_LANE_CTRL 7 127) F.PORT_LANE_CTRL_WIDTH 1).setF (R.BUF_POOL_CTRL 7) F.BUF_POOL_CTRL_STAGE_CELLS 0
     let u := s.setF (R.PORT_YFP_CTRL 7 127) F.PORT_YFP_CTRL_LOSSLESS_TC 1
     u.fld (R.BUF_POOL_CTRL 7) F.BUF_POOL_CTRL_STAGE_CELLS <
       u.reserveSum 7 (fun q => decide (q ≠ 127) && u.bit (R.PORT_ADMIT 7 q) F.PORT_ADMIT_ADMIT) + u.reserve 7 127 ∧
     (let x := s.setF (R.PORT_ADMIT 7 127) F.PORT_ADMIT_ADMIT 1
      reserveOverflow 7 127 x (reserveWrite 7 127 .yfpCtrl 0x10000#32 x) = true ∧
      reserveOverflow 7 127 x (reserveWrite 7 127 .yfpCtrl 0#32 x) = false)) ∧
    allQuarantined State.reset 7 = true ∧ allQuarantined (queuedPort 2) 7 = false ∧
    F.BUF_POOL_CTRL_STAGE_CELLS.get 8191#32 < 8192 ∧ F.BUF_POOL_CTRL_STAGE_CELLS.get 8192#32 = 8192 ∧
    F.BUF_POOL_CTRL_STAGE_CELLS.get 65537#32 = 65537 := by
  decide +kernel

/-- Witnesses of the premises of EgressSending. -/
theorem witness_EgressSending :
    State.reset.portUp 7 127 = false ∧
    (let s := queuedPort 4
     s.portUp 7 127 = true ∧ s.txFree 7 127 = true ∧ s.noStart 7 127 = false ∧ (endTx s 7 127).timedDue 7 127 = none ∧
     s.cutNext 7 127 = none ∧ (pickLevel 7 127 8 (endTx s 7 127)).1 = some 5 ∧ (endTx s 7 127).headFrame 7 127 5 = some 0 ∧ s.eligible 7 127 5 = true) ∧
    (let s := State.reset.setPortState 7 127 4
     s.portUp 7 127 = true ∧ s.txFree 7 127 = true ∧ s.noStart 7 127 = false ∧ (pickLevel 7 127 8 (endTx s 7 127)).1 = none) ∧
    (let s := ((egressFrame .port false).setPortState 7 127 4).updPort 7 127 fun x => { x with cutWait := [0] }
     s.portUp 7 127 = true ∧ s.txFree 7 127 = true ∧ s.noStart 7 127 = false ∧
     (settleTimed (endTx s 7 127) 7 127).timedDue 7 127 = none ∧ (settleTimed (endTx s 7 127) 7 127).cutNext 7 127 = some 0) ∧
    (let s := (queuedPort 4).updPort 7 127 fun x => { x with turn := [((queuedPort 4).prio 7 127 5, 6)], deficit := [(5, 68)] }
     s.turnGoesOn 7 127 (s.prio 7 127 5) = true ∧ (queuedPort 4).turnGoesOn 7 127 (s.prio 7 127 5) = false ∧
     (drrPick (queuedPort 4) 7 127 (s.prio 7 127 5)).1 = some 5) ∧
    (let s := (timedPort 0).setPortState 7 127 2
     s.portUp 7 127 = false ∧ s.reached 0 = true ∧ (s.port 7 127).overdue.contains 0 = false) ∧
    (settleTimed (timedPort 0) 7 127).timedDue 7 127 = some (0, 0) ∧ (settleTimed State.reset 7 127).timedDue 7 127 = none ∧
    F.TM_SHAPER_EN.get 0#32 = 0 ∧
    (timedPort 0).portUp 7 127 = true ∧ (timedPort 0).timedDue 7 127 = some (0, 0) ∧ (endTx (timedPort 0) 7 127).timedDue 7 127 = some (0, 0) ∧
    (timedPort 0).txFree 7 127 = true ∧ (timedPort 0).noStart 7 127 = false ∧
    ((timedPort 0).setPortState 7 127 2).portUp 7 127 = false ∧ (timedPort 1).reached 1 = false ∧ (timedPort 0).reached 0 = true ∧
    ((timedPort 0).setF (R.PORT_FC_STATUS 7 127) F.PORT_FC_STATUS_RX_OFF 32).timedDue 7 127 = none ∧
    (let s := (timedPort 0).setF (R.TQ_CTRL 7 127) F.TQ_CTRL_DROP_US 0
     s.reached (0 + s.fld (R.TQ_CTRL 7 127) F.TQ_CTRL_DROP_US * 1000) = true) ∧
    (timedPort 1).reached (1 + (timedPort 1).fld (R.TQ_CTRL 7 127) F.TQ_CTRL_DROP_US * 1000) = false ∧
    State.reset.bit (R.TM_SHAPER 7 129 7) F.TM_SHAPER_EN = false ∧ F.TM_SHAPER_EN.get 0xFFFFFFFF#32 = 1 ∧
    (State.reset.setF (R.TM_SHAPER 7 129 7) F.TM_SHAPER_EN 1).bit (R.TM_SHAPER 7 129 7) F.TM_SHAPER_EN = true := by
  decide +kernel

/-- Witnesses of the premises of Policing. -/
theorem witness_Policing :
    (⟨0, 0, 0⟩ : Bucket).tp < 1 * 65536 ∧ (1 * 65536 ≤ (⟨65536, 65535, 0⟩ : Bucket).tp ∧ (⟨65536, 65535, 0⟩ : Bucket).tc < 1 * 65536) ∧
    1 * 65536 ≤ (⟨65536, 65536, 0⟩ : Bucket).tc ∧ F.POLICER_CFG0_EN.get 0x80000000#32 = 1 ∧ F.POLICER_CFG0_EN.get 0#32 = 0 ∧
    State.reset.fld (R.POLICER_CFG1 0 8703) F.POLICER_CFG1_CBS < 37 ∧
    (let s := (State.reset.setF (R.POLICER_CFG1 0 8703) F.POLICER_CFG1_CBS 37).setF (R.POLICER_CFG2 0 8703) F.POLICER_CFG2_PBS 37
     policerBad 8703 0x80000000#32 s = false ∧ s.bit (R.POLICER_CFG0 0 8703) F.POLICER_CFG0_EN = false ∧
     s.fld (R.POLICER_CFG1 0 8703) F.POLICER_CFG1_PIR = F.POLICER_CFG0_CIR.get 0x80000000#32) := by
  decide +kernel

/-- Witnesses of the premises of ContactSheetAndExposures. -/
theorem witness_ContactSheetAndExposures :
    (State.reset.die 7).csBuf = [] ∧ State.reset.bit R.CS_RING_CTRL F.CS_RING_CTRL_EN = false ∧
    (let s := (State.reset.updDie 7 fun x => { x with csBuf := [(129, [])] }).setF R.CS_RING_CTRL F.CS_RING_CTRL_EN 1
     (s.die 7).csBuf = [(129, [])] ∧ s.bit R.CS_RING_CTRL F.CS_RING_CTRL_EN = true ∧ s.csPending ≠ s.csSize ∧
     s.bit R.CS_RING_CTRL F.CS_RING_CTRL_MODE = false ∧ (s.wr R.CS_RING_PROD (BitVec.ofNat 32 s.csSize)).csPending = s.csSize) ∧
    State.reset.bit (R.EXPOSURE_STATUS 7) F.EXPOSURE_STATUS_BUSY = false ∧
    (State.reset.setBit (R.EXPOSURE_STATUS 7) F.EXPOSURE_STATUS_BUSY).bit (R.EXPOSURE_STATUS 7) F.EXPOSURE_STATUS_BUSY = true ∧
    State.reset.ahead 999 < 1000 ∧ 1000 ≤ State.reset.ahead 1000 ∧ State.reset.ahead (2 ^ 30 - 1) < 2 ^ 30 ∧ 2 ^ 30 ≤ State.reset.ahead (2 ^ 30) ∧
    ((State.reset.updDie 7 fun x => { x with expo := ⟨some 0, some [1]⟩ }).die 7).expo = ⟨some 0, some [1]⟩ ∧ State.reset.reached 0 = true ∧
    State.reset.reached 1 = false ∧ (State.reset.die 7).expo.sched = none ∧ (State.reset.die 7).expo.image = none ∧
    (let s := State.reset.setBit (R.EXPOSURE_CTRL 7) F.EXPOSURE_CTRL_CLEAR
     s.bit (R.EXPOSURE_CTRL 7) F.EXPOSURE_CTRL_CLEAR = true ∧ State.reset.bit (R.EXPOSURE_CTRL 7) F.EXPOSURE_CTRL_CLEAR = false) ∧
    (R.CORE_COUNT 7 0 0).addr ≠ (R.EXPOSURE_STATUS 7).addr := by
  decide +kernel

/-- A slot word of an operation code, with IMM and MOD. -/
def wordOf (op imm mod : Nat) : Word128 := { Word128.ofNat 0 with op := op, imm := imm, mod := mod }

/-- Engine 127 in a FRAME dispatch whose braid 0 has issued and stands at slot k, which holds word w. -/
def slotState (k : Nat) (w : Word128) : State :=
  State.reset.updEng 127 fun g => { g with
    imem := sputs [] (16 * k) ((List.range 16).map fun i => BitVec.ofNat 8 (w.toNat / 256 ^ i)) 0, slot := k, issued := true,
    disp := some ⟨0, 0, 0, 0, 0, Header.zero, 0, [], 0⟩ }

/-- The next slot of engine 127 executes an operation, its guard on. -/
def slotRuns (c : Cls) (op : Nat) (s : State) : Bool :=
  match armSlot c false op 127 .ok s with
  | .go t _ w => guardOn (t.eng 127).view w
  | .stop _ => false

/-- Arming the next slot of engine 127 stops. -/
def slotStops (c : Cls) (op : Nat) (s : State) : Bool :=
  match armSlot c false op 127 .ok s with
  | .go _ _ _ => false
  | .stop _ => true

/-- A slot of each class. -/
def slotNo (c : Cls) : Nat := match c with | .P => 0 | .M => 2 | .V => 4 | .A => 5 | .S => 6 | .C => 7

/-- Every one of some operation codes of a class runs on engine 127. -/
def classRuns (c : Cls) (ops : List Nat) : Bool := ops.all fun op => slotRuns c op (slotState (slotNo c) (wordOf op 0 0))

/-- Engine 127 in a dispatch at the start of a braid of zeros, within BUDGET and LIMIT, but for what f changes. -/
def freshBraid (f : Engine → Engine) : State :=
  (((State.reset.setF (engReg R.ENGINE_IMEM_CTRL 127) F.ENGINE_IMEM_CTRL_LIMIT 1).setF (engReg R.ENGINE_DISPATCH_CTRL 127)
    F.ENGINE_DISPATCH_CTRL_BUDGET 2)).updEng 127 fun g => f { g with disp := some ⟨0, 0, 0, 0, 0, Header.zero, 0, [], 0⟩ }

/-- Witnesses of the premises of EngineOperations. -/
theorem witness_EngineOperations :
    classRuns .P [1, 2, 3, 4, 5, 6, 7, 8, 9, 10] = true ∧ classRuns .M [1, 2, 3, 4] = true ∧ classRuns .V ((List.range 24).map (· + 1)) = true ∧
    classRuns .A [1, 2, 3, 4, 5, 6, 7] = true ∧ classRuns .S [1, 2, 3] = true ∧
    classRuns .C ((List.range 19).map (· + 1) ++ [0x20, 0x21, 0x22] ++ (List.range 16).map (· + 0x30)) = true ∧
    slotStops .C 1 State.reset = true ∧ slotStops .C 2 (slotState 7 (wordOf 1 0 0)) = true ∧
    (let w : Word128 := { wordOf 1 0 0 with gp := 1 }
     slotRuns .C 1 (slotState 7 w) = false ∧ slotStops .C 1 (slotState 7 w) = false ∧ guardOn ((slotState 7 w).eng 127).view w = false) ∧
    (hwCheck (slotState 7 (wordOf 1 0 0)) 127 7 1 (.uncorrectable 0 5 6)).2 = some (causeStateEcc, 1) ∧
    (hwCheck (slotState 7 (wordOf 1 0 0)) 127 7 1 .ok).2 = none := by
  decide +kernel

/-- Witnesses of the premises of the clauses of EngineOperations on arming a slot and on its end. -/
theorem witness_EngineOperations_arming :
    (State.reset.eng 127).disp = none ∧ ((slotState 7 (wordOf 1 0 0)).eng 127).issued = true ∧ clsOf 7 = .C ∧
    (let g := (freshBraid id).eng 127
     g.issued = false ∧ g.ended = false ∧ g.count < (freshBraid id).fld (engReg R.ENGINE_DISPATCH_CTRL 127) F.ENGINE_DISPATCH_CTRL_BUDGET ∧
     g.pc < (freshBraid id).fld (engReg R.ENGINE_IMEM_CTRL 127) F.ENGINE_IMEM_CTRL_LIMIT ∧
     braidLegal (winFormat ((freshBraid id).knot 0)) (braidWords g.imem g.pc) = true ∧ clsOf g.slot = .P ∧ (slotWord g.imem g.pc g.slot).op = 0 ∧
     outsideWait (freshBraid id) 127 (g.core.commit g.count g.lc) (braidWords g.imem g.pc) = none) ∧
    ((freshBraid fun g => { g with count := 2 }).eng 127).count = 2 ∧ ((freshBraid fun g => { g with pc := 1 }).eng 127).pc = 1 ∧
    (let g := (freshBraid fun g => { g with imem := [(15, 0xFF)] }).eng 127
     braidLegal (winFormat ((freshBraid id).knot 0)) (braidWords g.imem g.pc) = false) ∧
    (let s := (freshBraid fun g => { g with imem := sputs [] 0 ((List.range 16).map fun i => BitVec.ofNat 8 ((wordOf 9 0 0).toNat / 256 ^ i)) 0 })
     let g := s.eng 127
     let u : State := { s with hold := { s.hold with ops := List.replicate 8 ⟨127, 0, 0, .get, 0, 128, 0, [], false, false, false, 0⟩ } }
     (outsideWait u 127 (g.core.commit g.count g.lc) (braidWords g.imem g.pc)).isSome = true) ∧
    (((freshBraid fun g => { g with branch := some (5, 1) }).eng 127).branch = some (5, 1)) ∧
    ((freshBraid fun g => { g with branch := some (5, 0) }).eng 127).branch = some (5, 0) ∧
    (let ws := [wordOf 0 0 0, wordOf 0 0 0, wordOf 0 0 0, wordOf 7 0 0, { wordOf 7 0 0 with rd := 1 }]
     braidLegal 0 ws = true ∧ (Dst.v 1) ∈ slotOuts 0 4 (ws.getD 4 (Word128.ofNat 0))) := by
  decide +kernel

/-- Witnesses of the premises of ScalarOperations, PredicatesAndBranches and VectorOperations (with those of EngineOperations). -/
theorem witness_ScalarOperations :
    classRuns .C [1, 2, 3, 4, 5, 6, 7, 8, 9, 10, 11, 12, 15] = true ∧ slotRuns .C 8 (slotState 7 (wordOf 8 63 0)) = true := by
  decide +kernel

/-- Witnesses of the premises of PredicatesAndBranches. -/
theorem witness_PredicatesAndBranches :
    classRuns .C [13, 14, 16, 17, 18, 19, 0x20, 0x21, 0x22, 0x30, 0x3C] = true ∧ ((slotState 7 (wordOf 0x20 0 0)).eng 127).branch = none ∧
    (let s := (slotState 7 (wordOf 0x20 0 0)).updEng 127 fun g => { g with branch := some (1, 1) }
     slotRuns .C 0x20 s = true ∧ (s.eng 127).branch ≠ none) := by
  decide +kernel

/-- Witnesses of the premises of VectorOperations. -/
theorem witness_VectorOperations : classRuns .V ((List.range 24).map (· + 1)) = true ∧ 31 < 1024 / 32 ∧ 1023 < 1024 := by
  decide +kernel

/-- Witnesses of the premises of AccumulatorsAndSets. -/
theorem witness_AccumulatorsAndSets :
    classRuns .A [1, 2, 3, 4, 5, 6, 7] = true ∧ classRuns .S [1, 2, 3] = true ∧
    (let s := slotState 5 (wordOf 1 1 1)
     slotRuns .A 1 s = true ∧ winAt s 127 (wordOf 1 1 1) true 1 768 = none ∧ winAt s 127 (wordOf 1 0 0) false 1 768 = some (.regs 0 1) ∧
     winAt s 127 (wordOf 2 1 0) true 0 768 = none ∧ (winAt s 127 (wordOf 2 128 0) true 0 768).isSome = true) ∧
    slotRuns .A 1 (slotState 5 (wordOf 1 0 2)) = true ∧
    ((5 : Int) ≠ winNan 96 ∧ -winMax 96 < (5 : Int) ∧ (5 : Int) < winMax 96 ∧ (5 : Int) + 5 ≤ winMax 96) ∧
    [((5 : Nat), (0 : Nat)), (7, 1)].Pairwise (fun a b => keyBefore false b.1 a.1 = false) := by
  decide +kernel

/-- Engine 127 at slot k with word w in a FRAME dispatch from cell 5, and a retained frame of its knot in cell 9. -/
def frameState (k : Nat) (w : Word128) (f : Engine → Engine) : State :=
  (slotState k w).updEng 127 fun g => f { g with
    disp := some ⟨0, 0, 0, 5, 3, Header.zero, 0, [], 0⟩,
    rx := [⟨5, 1, Header.zero, [], 0, 0, 0, 3, false⟩, ⟨9, 1, Header.zero, [], 0, 0, 0, 3, true⟩] }

/-- The scalar registers of an engine set from a list of pairs. -/
def withX (xs : SMap Nat) (g : Engine) : Engine := { g with core := { g.core with x := xs } }

/-- A word with RA = 1 and RB = 2. -/
def wordAB (op imm mod : Nat) : Word128 := { wordOf op imm mod with ra := 1, rb := 2 }

/-- Witnesses of the premises of PacketAndMemory. -/
theorem witness_PacketAndMemory :
    classRuns .P [1, 2, 3, 4, 5, 6, 7, 8, 9, 10] = true ∧ classRuns .M [1, 2, 3, 4] = true ∧
    (let g := (frameState 0 (wordAB 1 0 0) id).eng 127
     g.stageOk 0 128 = false ∧ g.stageOk (5 * 256) 128 = true ∧ g.stageOk txBase 768 = true ∧ g.stageOk 0 768 = false ∧ inTx 0 128 = false ∧
     inTx (stageEnd - 128) 128 = true ∧ inTx (stageEnd - 127) 128 = false ∧ g.retainedAt 0 = none ∧
     g.retainedAt (9 * 256) = some ⟨9, 1, Header.zero, [], 0, 0, 0, 3, true⟩ ∧ g.disp = some ⟨0, 0, 0, 5, 3, Header.zero, 0, [], 0⟩) ∧
    holdLimits 128 txBase = true ∧ holdLimits 0 txBase = false ∧ holdLimits 12288 txBase = true ∧
    (let s := frameState 0 (wordAB 3 0 0) (withX [(1, txBase)])
     let c := (s.eng 127).view
     slotRuns .P 3 s = true ∧ c.getX 1 = txBase ∧ hPlen (stageHeader c txBase) ≤ 9216 ∧ txBase + hLen (stageHeader c txBase) ≤ stageEnd ∧
     (s.eng 127).stageOk txBase 28 = true ∧ (s.eng 127).stageOk 0 28 = false ∧ (s.eng 127).stageOk (5 * 256) 28 = true ∧
     (s.knot 0).blocked = false ∧ recordAt s 127 0 0 c = some (0, false) ∧ recordAt s 127 0 0xFFFFF c = none) ∧
    (let s := frameState 0 (wordAB 3 0 4) fun g => { withX [(1, txBase)] g with core := { (withX [(1, txBase)] g).core with sram := [(3, 2)] } }
     slotRuns .P 3 s = true ∧ recordAt s 127 0 0 (s.eng 127).view = some (0, true) ∧ (wordAB 3 0 4).m 2 = true) ∧
    ((((frameState 0 (wordAB 3 0 4) id).updKnot 0 fun x => { x with blocked := true }).knot 0).blocked = true) ∧
    (let s := frameState 2 (wordAB 1 0 0) id
     ramAddr (s.partOf 127 0) 0 128 = some 0 ∧ ramAddr (s.partOf 127 0) 0x40000 128 = none ∧ ramAddr (s.partOf 127 0) 0x3FFF8 8 = some 0x3FFF8 ∧
     ramAddr (s.partOf 127 0) 0x40000 8 = none) ∧
    guardVal ((slotState 2 (wordAB 2 0 0)).eng 127).view (wordAB 2 0 0) = none ∧
    guardVal ((slotState 2 (wordAB 2 0 0)).eng 127).view { wordAB 2 0 0 with gn := true } = some (ones 64) ∧ (zeros 128).length = 128 := by
  decide +kernel

/-- Witnesses of the premises of SegmentRecords. -/
theorem witness_SegmentRecords :
    classRuns .C [0x31, 0x32, 0x33, 0x34, 0x35] = true ∧
    (let s := frameState 7 (wordAB 0x31 0 0) id
     let c := (s.eng 127).view
     readRec s 127 c 1 = none ∧ readRec s 127 c 0 = some ⟨0, 0, 0, false, false, false, 0, 0⟩ ∧ (sget c.sram 16 0).toNat.testBit 3 = false) ∧
    (let s := frameState 7 (wordAB 0x31 0 0) fun g => { g with core := { g.core with sram := [(2, 4), (3, 4), (4, 7), (16, 8)] } }
     let c := (s.eng 127).view
     readRec s 127 c 0 = some ⟨0, 0, 4, false, false, true, 7, 0⟩ ∧ (sget c.sram 16 0).toNat.testBit 3 = true) ∧
    (let s := frameState 7 (wordAB 0x31 0 0) fun g => { g with core := { g.core with sram := [(0, 1), (3, 1), (8, 0xFF), (9, 0xFF), (10, 0xFF), (11, 0x7F)] } }
     readRec s 127 (s.eng 127).view 0 = some ⟨0, 1, 0, true, false, false, 0, 2 ^ 31 - 1⟩) ∧
    (State.reset.knot 0).expected = 0 ∧ State.reset.partnerOf 127 0 0 (fun y => y.seg == 0) = none ∧
    ((State.reset.updEng 112 fun g => { g with xchk := some ⟨127, 0, 0, 0, [], 0, [], [], none, 0, 0⟩ }).partnerOf 127 0 0 (fun y => y.seg == 0)) =
      some 112 ∧
    isStatus 4 = true ∧ isStatus 5 = false ∧ (256 : Nat) % 256 = 0 ∧
    ({ (⟨1, 0, 0, 5, 3, Header.zero, 0, [], 0⟩ : Dispatch) with kind := 1 }).kind ≠ 0 := by
  decide +kernel

/-- Witnesses of the premises of KnotFieldsAndSync. -/
theorem witness_KnotFieldsAndSync :
    classRuns .C ([0x36, 0x37, 0x38, 0x39, 0x3A, 0x3B, 0x3D, 0x3E, 0x3F]) = true ∧
    slotRuns .C 0x36 (slotState 7 (wordOf 0x36 9 0)) = true ∧ slotRuns .C 0x36 (slotState 7 (wordOf 0x36 10 0)) = true ∧
    slotRuns .C 0x37 (slotState 7 (wordOf 0x37 3 0)) = true ∧ slotRuns .C 0x37 (slotState 7 (wordOf 0x37 9 0)) = true ∧
    (let s := frameState 7 (wordAB 0x38 0 0) (withX [(1, 5)])
     slotRuns .C 0x38 s = true ∧ (s.eng 127).view.getX 1 = 5) ∧
    ({ Knot.init with words := List.replicate 64 0 }).words.length = 64 := by
  decide +kernel

/-- Engine 127 in a state of Table 9.9, changed by f. -/
def engIn (st : Nat) (f : Engine → Engine) : State := ((State.reset.updEng 127 f).setEngState 127 st)

/-- Witnesses of the premises of EngineDispatch. -/
theorem witness_EngineDispatch :
    (State.reset.eng 127).rxWait = [] ∧
    (let s := (engIn 3 fun g => { g with rxWait := [0] }).setFrm 0 FrameRec.init
     (s.eng 127).rxWait = [0] ∧ s.engTakes 127 = true ∧ (s.eng 127).rxRoom 1 ≠ [] ∧ 383 ∈ (s.eng 127).rxRoom 1 ∧
     ((engIn 3 fun g => { g with rx := [⟨0, 384, Header.zero, [], 0, 0, 0, 0, false⟩] }).eng 127).rxRoom 1 = []) ∧
    (engIn 1 id).engTakes 127 = false ∧
    (let s := (engIn 3 fun g => { g with control := [(0, 16, 0)] }).setF (engReg R.ENGINE_STATUS 127) F.ENGINE_STATUS_GATED 0
     s.engState 127 = 3 ∧ s.bit (engReg R.ENGINE_STATUS 127) F.ENGINE_STATUS_GATED = false ∧ (s.eng 127).disp = none ∧ s.dieHeld 7 = false ∧
     (s.eng 127).control = [(0, 16, 0)]) ∧
    ((engIn 3 fun g => { g with timer := [5] }).eng 127).timer = [5] ∧
    (((engIn 3 fun g => { g with frameQ := [5], rx := [⟨5, 1, Header.zero, [], 0, 0, 0, 0, false⟩] }).eng 127).rxAt 5).isSome = true ∧
    ((frameState 7 (wordOf 0x30 0 0) fun g => { g with ended := true }).eng 127).ended = true ∧
    (let s := (frameState 0 (wordOf 0 0 0) fun g => { g with issued := false }).setF (engReg R.ENGINE_DISPATCH_CTRL 127) F.ENGINE_DISPATCH_CTRL_BUDGET 0
     (s.eng 127).disp.isSome = true ∧ (s.eng 127).ended = false ∧ (s.eng 127).issued = false ∧ (s.eng 127).slot = 0 ∧
     s.fld (engReg R.ENGINE_DISPATCH_CTRL 127) F.ENGINE_DISPATCH_CTRL_BUDGET ≤ (s.eng 127).count) ∧
    (State.reset.knot 16383).timer = none ∧
    (let s := State.reset.updKnot 16383 fun x => { x with timer := some 0, state := 1 }
     (s.knot 16383).timer = some 0 ∧ 0 ≤ s.fab64 ∧ (s.knot 16383).state = 1) ∧
    ((State.reset.updKnot 16383 fun x => { x with timer := some 1 }).knot 16383).timer = some 1 ∧ State.reset.fab64 < 1 := by
  decide +kernel

/-- Witnesses of the premises of EngineControl. -/
theorem witness_EngineControl :
    (engIn 1 id).engState 127 = 1 ∧ (engIn 2 id).engState 127 = 2 ∧ (engIn 3 id).engState 127 = 3 ∧ (engIn 4 id).engState 127 = 4 ∧
    (engIn 0 id).engState 127 = 0 ∧ (engIn 7 id).engState 127 = 7 ∧ (engIn 3 id).homed 127 = 0 ∧
    ((engIn 3 id).updKnot 5 fun x => { x with state := 1, words := [0, 0x7F000000] }).homed 127 ≠ 0 ∧
    (engIn 2 id).fld (engReg R.ENGINE_IMEM_CTRL 127) F.ENGINE_IMEM_CTRL_LIMIT = 0 ∧
    (let s := (engIn 2 id).setF (engReg R.ENGINE_IMEM_CTRL 127) F.ENGINE_IMEM_CTRL_LIMIT 1
     s.fld (engReg R.ENGINE_IMEM_CTRL 127) F.ENGINE_IMEM_CTRL_LIMIT = 1 ∧
     crc32c (sgets (s.eng 127).imem 0 (1 * 128) 0) ≠ (s.rd (engReg R.ENGINE_IMEM_CRC 127)).toNat ∧
     (let u := s.wr (engReg R.ENGINE_IMEM_CRC 127) (BitVec.ofNat 32 (crc32c (sgets (s.eng 127).imem 0 128 0)))
      crc32c (sgets (u.eng 127).imem 0 (1 * 128) 0) = (u.rd (engReg R.ENGINE_IMEM_CRC 127)).toNat)) ∧
    partition 3 1 = some (0x100000, 0x80000) ∧ partition 0 0 = some (0, 0x40000) ∧
    (let s := (engIn 3 fun g => { g with waking := true }).setF (engReg R.ENGINE_CTRL 127) F.ENGINE_CTRL_GATE_EN 1
     s.bit (engReg R.ENGINE_CTRL 127) F.ENGINE_CTRL_GATE_EN = true ∧ (s.eng 127).noWork = true ∧ (s.eng 127).waking = true ∧
     (let u : State := { s with pwr := { s.pwr with clk := 2 ^ 40 } }
      (u.eng 127).idleAt + u.fld (engReg R.ENGINE_DISPATCH_CTRL 127) F.ENGINE_DISPATCH_CTRL_GATE_IDLE ≤ u.pwr.clk) ∧
     (s.setBit (engReg R.ENGINE_STATUS 127) F.ENGINE_STATUS_GATED).bit (engReg R.ENGINE_STATUS 127) F.ENGINE_STATUS_GATED = true) := by
  decide +kernel

/-- The Hold with both dies ONLINE, a valid shape 0 of one line, and operations ops. -/
def holdState (ops : List HoldOp) : State :=
  let s := (((State.reset.setF (R.HOLD_STATUS 8) F.HOLD_STATUS_STATE 2).setF (R.HOLD_STATUS 9) F.HOLD_STATUS_STATE 2).setF (R.HOLD_SHAPE 8 0)
    F.HOLD_SHAPE_VALID 1).setF (R.HOLD_SHAPE 8 0) F.HOLD_SHAPE_VALUE_LINES 1
  { s with hold := { s.hold with ops := ops } }

/-- An operation of engine 127 on key 5. -/
def opAt (kind : HoldKind) (key : Nat) : HoldOp := ⟨127, 0, 0, kind, key, 0, 0, [], false, false, false, 0⟩

/-- The Hold with a lock on key 5 held by a dispatch of engine e. -/
def lockedHold (e : Nat) (ops : List HoldOp) : State :=
  { (holdState ops) with hold := { (holdState ops).hold with locks := [⟨5, e, 0⟩] } }

/-- The Hold with one scatter of engine 127. -/
def scatterHold (txn ended settled wants : Bool) : State :=
  { (holdState []) with hold := { (holdState []).hold with scatters := [⟨127, 0, 0, 0, 1, 0, 0, wants, txn, 0, ended, settled⟩] } }

/-- Witnesses of the premises of HoldRows. -/
theorem witness_HoldRows :
    ((holdState []).hold.ops.filter fun o => o.engine == 127)[0]? = none ∧
    (let o := opAt .getLock 5
     let s := holdState [o]
     (s.hold.ops.filter fun p => p.engine == 127)[0]? = some o ∧ (s.holdPath 7 (s.holdDie 5)).isSome = true ∧ earlierOp s o = false ∧
     lockRefused s o = false ∧ lockRefused (lockedHold 127 [o]) o = true ∧ s.lockedByOther 5 127 0 = false ∧
     (lockedHold 3 [o]).lockedByOther 5 127 0 = true ∧ waiterAhead s o = false) ∧
    (let o := { opAt .get 5 with waited := true, ticket := 1 }
     let p := { opAt .getLock 5 with waited := true, ticket := 2 }
     let s := holdState [p, o]
     s.hold.ops.find? (s.grantable (s.holdDie 5)) = some o ∧ waiterAhead s p = true ∧ waiterAhead s o = false) ∧
    (holdState []).hold.ops.find? (fun o => o.waited) = none ∧
    (holdState []).badKey 5 = false ∧ (holdState []).badKey (2 ^ 64 - 1) = true ∧ (holdState []).imageBytes (shapeOf 5) = 128 ∧
    (holdState []).holdOnline ((holdState []).holdDie 5) = true ∧
    ((holdState []).setF (R.HOLD_STATUS ((holdState []).holdDie 5)) F.HOLD_STATUS_STATE 3).holdOnline ((holdState []).holdDie 5) = false ∧
    ((holdState []).locksOf 127 0).contains 5 = false ∧ ((lockedHold 127 []).locksOf 127 0).contains 5 = true ∧
    ((scatterHold true true false false).hold.scatters.find? fun x => x.engine == 127 && x.txn && x.ended && !x.settled).isSome = true ∧
    (scatterHold true true false false).opsOf 127 0 = false ∧ (holdState [opAt .get 5]).opsOf 127 0 = true ∧
    ((scatterHold true true true true).hold.scatters.find? fun x => x.engine == 127 && x.ended && x.settled &&
      !(scatterHold true true true true).opsOf 127 x.serial).map (·.wants) = some true ∧
    ((scatterHold true true true false).hold.scatters.find? fun x => x.engine == 127 && x.ended && x.settled &&
      !(scatterHold true true true false).opsOf 127 x.serial).map (·.wants) = some false ∧
    ((State.reset.hold.scatters.find? fun x => x.engine == 127) = none) := by
  decide +kernel

/-- Die 7's Hold agent with one gather of key 5 in service. -/
def gatherHold (s : State) (waited : Bool) : State := setGathers s 7 [⟨Header.zero, 0, [5], 0, waited, 0, 0⟩]

/-- Witnesses of the premises of HoldGathersAndConfig. -/
theorem witness_HoldGathersAndConfig :
    (State.reset.die 7).holdIn = [] ∧ ((State.reset.updDie 7 fun x => { x with holdIn := [0] }).die 7).holdIn = [0] ∧
    (State.reset.gathersOf 7).length < 64 ∧ (State.reset.gathersOf 7)[63]? = none ∧
    64 ≤ ((setGathers State.reset 7 (List.replicate 64 ⟨Header.zero, 0, [5], 0, false, 0, 0⟩)).gathersOf 7).length ∧
    (let s := gatherHold (holdState []) false
     let ks := ([5] : List Nat)
     (s.gathersOf 7)[0]? = some ⟨Header.zero, 0, [5], 0, false, 0, 0⟩ ∧ (([5] : List Nat).drop 0).take (9216 / (16 + s.valueBytes 0)) = ks ∧
     (∀ k ∈ ks, (s.holdPath 7 (s.holdDie k)).isSome = true) ∧ s.rspBytes 7 + 36 + 1 * (16 + s.valueBytes 0) ≤ 262144 ∧
     (let kept := fun k => (s.lockOf k).isSome || s.waitsBefore k (s.waitPlace 0)
      ks.find? kept = none) ∧
     (let u := gatherHold (lockedHold 3 []) false
      ks.find? (fun k => (u.lockOf k).isSome || u.waitsBefore k (u.waitPlace 0)) = some 5) ∧
     (let v := holdState [{ opAt .getLock 5 with waited := true, ticket := 1 }]
      let u := gatherHold { v with hold := { v.hold with ticket := 1 } } false
      (u.lockOf 5).isSome = false ∧ u.waitsBefore 5 (u.waitPlace 0) = true)) ∧
    ((gatherHold (lockedHold 3 []) true).gathersOf 7)[0]? = some ⟨Header.zero, 0, [5], 0, true, 0, 0⟩ ∧
    (let s := gatherHold { (holdState []) with hold := { (holdState []).hold with linkDown := 0xFFFF } } false
     (s.holdPath 7 (s.holdDie 5)).isSome = false) ∧
    (State.reset.setF (R.HOLD_SCRUB_CTRL 9) F.HOLD_SCRUB_CTRL_PASS_H 0).fld (R.HOLD_SCRUB_CTRL 9) F.HOLD_SCRUB_CTRL_PASS_H = 0 ∧
    (State.reset.setF (R.HOLD_SCRUB_CTRL 9) F.HOLD_SCRUB_CTRL_PASS_H 1).fld (R.HOLD_SCRUB_CTRL 9) F.HOLD_SCRUB_CTRL_PASS_H ≠ 0 ∧
    State.reset.holdEn 9 = false ∧ (State.reset.setBit (R.HOLD_CTRL 9) F.HOLD_CTRL_EN).holdEn 9 = true ∧
    regionsOk (holdRegions (State.reset.wr (R.HOLD_RING_SIZE 9) 4) 9) = false ∧ regionsOk (holdRegions State.reset 9) = true ∧
    regionsOk (holdRegions (((State.reset.wr64 (R.HOLD_RING_BASE 9) (R.HOLD_RING_BASE_HI 9) 0x1000000000)).wr (R.HOLD_RING_SIZE 9) 4) 9) = true ∧
    (State.reset.setF (R.HOLD_STATUS 9) F.HOLD_STATUS_STATE 1).fld (R.HOLD_STATUS 9) F.HOLD_STATUS_STATE = 1 ∧
    State.reset.fld (R.HOLD_STATUS 9) F.HOLD_STATUS_STATE ≠ 1 ∧ holdShared .seed = true ∧ holdShared .ringSize = false := by
  decide +kernel

/-- Knot 16383 in a state of Table 11.3. -/
def knotIn (st : Nat) (f : Knot → Knot) : State := State.reset.updKnot 16383 fun x => f { x with state := st }

/-- Words of a REDUCE knot of one member at engine 127. -/
def knotWords : List Word :=
  [0x10000000, 0x7F000000, 1, 0, 0, 0, 0, 0, 0, 0] ++ List.replicate 22 0 ++ [1] ++ List.replicate 31 0

/-- Interface 7 holding the words of a knot, engine 127 with LIMIT 1 in a state. -/
def loadState (st : Nat) : State :=
  ((List.range 64).foldl (fun s w => s.wr (R.KNOT_DATA 7 w) (knotWords.getD w 0))
    (State.reset.setF (engReg R.ENGINE_IMEM_CTRL 127) F.ENGINE_IMEM_CTRL_LIMIT 1)).setEngState 127 st

/-- Witnesses of the premises of KnotCommands. -/
theorem witness_KnotCommands :
    State.reset.knotBusy 7 = false ∧ (State.reset.setBit (R.KNOT_CMD_STATUS 7) F.KNOT_CMD_STATUS_BUSY).knotBusy 7 = true ∧
    (State.reset.knot 16383).state = 0 ∧ ((knotIn 1 id).knot 16383).state = 1 ∧ ((knotIn 2 id).knot 16383).state = 2 ∧
    ((knotIn 3 id).knot 16383).state = 3 ∧ ((knotIn 4 id).knot 16383).state = 4 ∧
    loadCheck (loadState 3) 16383 ((loadState 3).knotData 7) = 0 ∧ loadCheck (loadState 6) 16383 ((loadState 6).knotData 7) = 0x17 ∧
    loadCheck State.reset 16383 (State.reset.knotData 7) = 0x10 ∧ fieldsOk (loadState 3) ((loadState 3).knotData 7) = true ∧
    (loadState 3).engLive ((loadState 3).knotData 7).home = true ∧ (partition ((loadState 3).layout 127) 0).isSome = true ∧
    ((knotIn 2 id).fromDie 16383 7 = false) ∧
    ((knotIn 2 id).setFrm 0 { FrameRec.init with service := 1, inDie := 7, frame := ⟨mkHeader 1 1 0 5 0 0 0 0 0 0 16383 0 0 0 0, [], 0⟩ }).fromDie
      16383 7 = true ∧
    (let s := knotIn 2 fun x => { x with flush := some ⟨255, 1, [⟨false, 7, true, true⟩]⟩ }
     let f : Flush := ⟨255, 1, [⟨false, 7, true, true⟩]⟩
     (s.knot 16383).flush = some f ∧ flushReady s 16383 (s.knot 16383) f = true ∧ f.waits.any (·.advance) = true ∧
     flushReady s 16383 (s.knot 16383) { f with markers := 254 } = false) ∧
    (State.reset.knot 16383).gen < 256 := by
  decide +kernel

/-- Knot 5 LOADED with the words of a REDUCE knot at engine 127. -/
def memberKnot : Knot := { Knot.init with state := 1, words := knotWords }

/-- A frame on port 0.0 for knot 5 under generation g on channel c, in format fm. -/
def knotFrame (type g c fm w5 : Nat) : FrameRec :=
  { FrameRec.init with frame := ⟨mkHeader 1 type 0 5 c 0 0 0 0 g 5 4 fm w5 0, zeros 4, 0⟩, inDie := 0, inPort := 0, service := 1 }

/-- Witnesses of the premises of KnotFramesAndChecks. -/
theorem witness_KnotFramesAndChecks :
    Knot.init.state ≠ 1 ∧ memberKnot.state = 1 ∧ admitKnot memberKnot (knotFrame tContrib 0 0 0 0) = .take 0 ∧
    admitKnot memberKnot (knotFrame tContrib 1 0 0 0) = .drop 2 ∧ admitKnot memberKnot (knotFrame tContrib 0 1 0 0) = .drop 3 ∧
    admitKnot memberKnot (knotFrame tVote 0 0 0 0) = .drop 4 ∧
    admitKnot memberKnot { knotFrame tContrib 0 0 0 0 with inPort := 1 } = .drop 5 ∧
    admitKnot memberKnot (knotFrame tContrib 0 0 1 0) = .drop 6 ∧ admitKnot memberKnot (knotFrame tKnotCtrl 0 0 0 0) = .drop 8 ∧
    admitKnot (memberKnot.setWord 7 5) { knotFrame tKnotCtrl 0 0 0 0x10 with frame := ⟨mkHeader 1 tKnotCtrl 0 5 0 0 0 5 0 0 5 0 0 0x10 0, [], 0⟩ } = .inband ∧
    (State.reset.die 7).knotIn = [] ∧ ((State.reset.updDie 7 fun x => { x with knotIn := [0] }).die 7).knotIn = [0] ∧
    ({ memberKnot with words := [0x90000000] } : Knot).hwGather = true ∧ memberKnot.hwGather = false ∧
    (State.reset.knot 5).bcast = none ∧
    (let s := State.reset.setKnot 5 { memberKnot with bcast := some (1, 2), missed := 1 }
     (s.knot 5).bcast = some (1, 2) ∧ s.knotSends 5 = false ∧ (s.knot 5).parentAddr = 0 ∧ (s.knot 5).missed ≠ 0 ∧
     (memberKnot.setWord 6 9).parentAddr ≠ 0) ∧
    (State.reset.eng 112).xchk = none ∧
    (let x : Xchk := ⟨127, 5, 0, 0, [], 0, [], [], some 0, 0, 0⟩
     let s := State.reset.updEng 112 fun g => { g with xchk := some x }
     (s.eng 112).xchk = some x ∧ x.queue = [] ∧ x.allSent 0 = false ∧ ({ x with outs := [⟨zeros 4, 0, false⟩] } : Xchk).allSent 0 = true ∧ checkResidue x = 0 % resM ∧ s.holdsResults 127 5 0 = false ∧
     checkResidue { x with lanes := [(0, 1)] } ≠ 0 % resM ∧ ([⟨[], 0, false⟩] : List XchkOut).filterMap (firstDiff 0 x) = [] ∧
     ([⟨[1, 0, 0, 0], 0, false⟩] : List XchkOut).filterMap (firstDiff 0 x) = [0] ∧ s.reached (x.sealAt + 50000) = false ∧
     (s.updEng 127 fun g => { g with heldRes := [(5, 0, 0)] }).holdsResults 127 5 0 = true ∧
     s.reached (2 ^ 32 - 50000 + 50000) = true) := by
  decide +kernel

/-- A record of class 4 against engine 127 that counts, n times over. -/
def countingRec (n : Nat) : LogRec := { LogRec.of 4 7 4 7 15 with counts := true, folded := n }

/-- Reset with engine 127 in a state of Table 13.10 and AUTO_RETIRE as given. -/
def unitState (st : Nat) (auto : Nat) : State :=
  (State.reset.setHealth 4 7 15 { UnitHealth.init with state := st }).setF R.INTEG_CTRL F.INTEG_CTRL_AUTO_RETIRE auto

/-- Witnesses of the premises of LogbookAndUnits. -/
theorem witness_LogbookAndUnits :
    State.reset.integ.queue = [] ∧ State.reset.integ.toBook = [] ∧ State.reset.mgmtRuns = false ∧
    (let s : State := { State.reset with integ := { State.reset.integ with toBook := [[1]] } }
     s.integ.queue = [] ∧ s.integ.toBook = [1] :: [] ∧ (s.setF R.MGMT_STATUS F.MGMT_STATUS_BOOT_STAGE 2).mgmtRuns = true ∧
     (s.setF R.MGMT_STATUS F.MGMT_STATUS_BOOT_STAGE 2).integ.toBook = [1] :: []) ∧
    State.reset.pwr.aon < State.reset.integ.heartAt + 90000000000 ∧
    (let s : State := { State.reset with pwr := { State.reset.pwr with aon := 90000000000 } }
     s.integ.heartAt + 90000000000 ≤ s.pwr.aon) ∧
    (let s : State := { State.reset with integ := { State.reset.integ with queue := [countingRec 1] } }
     s.integ.queue = [countingRec 1]) ∧
    (LogRec.of 4 7 4 7 15).counts = false ∧ (countingRec 3).counts = true ∧
    (([((countingRec 1).signature, 0, 0)] : List (Nat × Nat × Nat)).filter fun o => o.1 == (countingRec 1).signature &&
      decide (0 ≤ o.2.1 + 3600)).length < State.reset.fld R.INTEG_CLASS_CTRL F.INTEG_CLASS_CTRL_REPEAT ∧
    ¬ (List.replicate 15 (1 : Nat)).length < State.reset.fld R.INTEG_CLASS_CTRL F.INTEG_CLASS_CTRL_REPEAT ∧
    (State.reset.health 4 7 15).state = 0 ∧ (State.reset.health 4 7 15).passes = [] ∧
    (classify State.reset (countingRec 15)).2.integ.units = [(unitKey 4 7 15, { UnitHealth.init with state := 1, suspicions := 1 })] ∧
    ((unitState 1 1).health 4 7 15).state = 1 ∧ (unitState 1 1).bit R.INTEG_CTRL F.INTEG_CTRL_AUTO_RETIRE = true ∧ unitsOfKind 4 ≠ 0 ∧
    (unitState 1 1).budgetUsed 4 < (unitState 1 1).budget 4 ∧ (unitState 1 0).bit R.INTEG_CTRL F.INTEG_CTRL_AUTO_RETIRE = false ∧
    unitInRange 4 7 15 = true ∧ unitInRange 4 7 16 = false ∧ unitInRange 2 7 127 = true ∧ unitInRange 9 0 0 = false ∧
    unitInRange 6 10 31 = true ∧ unitOf 0x0470000F#32 = (4, 7, 15) ∧ unitOf 0x04700010#32 = (4, 7, 16) ∧
    ((unitState 3 0).health 4 7 15).state = 3 ∧ ((unitState 4 0).health 4 7 15).state = 4 ∧ (unitState 4 0).bandHeld 4 7 15 = false := by
  decide +kernel

/-- Engines 112 and 113 READY with the self-test enabled, engine 116 in a state. -/
def sliceState (st : Nat) : State :=
  let s := (((State.reset.setEngState 112 3).setEngState 113 3).setEngState 116 st).setF R.INTEG_CTRL F.INTEG_CTRL_ST_EN 1
  { s with pwr := { s.pwr with clk := 2 ^ 32 } }

/-- A processor that can send, with notices not yet sent and not yet acknowledged. -/
def noticeState (fresh unacked : List Notice) : State :=
  let s := (State.reset.setF R.MGMT_STATUS F.MGMT_STATUS_BOOT_STAGE 2).setF R.MGMT_KEY_CTRL F.MGMT_KEY_CTRL_KEY_SET 1
  let t := (s.setF R.MGMT_NET_CFG F.MGMT_NET_CFG_EN 1).setF R.INTEG_NOTICE_CTRL F.INTEG_NOTICE_CTRL_SENDS 8
  { t with integ := { t.integ with fresh := fresh, unacked := unacked } }

/-- Witnesses of the premises of NoticesAndSlices. -/
theorem witness_NoticesAndSlices :
    State.reset.integ.fresh = [] ∧ State.reset.canNotify = false ∧
    (noticeState [⟨0, 0, 0, false, false, []⟩] []).integ.fresh = [⟨0, 0, 0, false, false, []⟩] ∧ (noticeState [] []).canNotify = true ∧
    State.reset.integ.unacked[255]? = none ∧
    (noticeState [] (List.replicate 256 ⟨0, 8, 0, false, false, []⟩)).integ.unacked[255]? = some ⟨0, 8, 0, false, false, []⟩ ∧
    (let s : State := { (noticeState [] []) with pwr := { State.reset.pwr with aon := 250000 } }
     (noticeState [] []).pwr.aon < 0 + 250000 * 2 ^ (1 - 1) ∧ 0 + 250000 * 2 ^ (1 - 1) ≤ s.pwr.aon ∧ s.canNotify = true) ∧
    (noticeState [] []).fld R.INTEG_NOTICE_CTRL F.INTEG_NOTICE_CTRL_SENDS ≤ 8 ∧
    7 < (noticeState [] []).fld R.INTEG_NOTICE_CTRL F.INTEG_NOTICE_CTRL_SENDS ∧
    (sliceState 3).bit R.INTEG_CTRL F.INTEG_CTRL_ST_EN = true ∧ (sliceState 3).slicable 112 1 = true ∧ (sliceState 3).slicable 113 1 = true ∧
    112 / 16 * 16 + (112 % 16 ^^^ 4) = 116 ∧ (noteSlice 1 (noteSlice 1 (sliceState 3) 112) 113).slicable 116 1 = true ∧
    (noteSlice 1 (noteSlice 1 (sliceState 1) 112) 113).slicable 116 1 = false ∧ State.reset.slicable 112 1 = false ∧ (0#64 ≠ 1#64) := by
  decide +kernel

/-- An entry of the command ring with an opcode, a tag and a target, its other words as given. -/
def entry (op tag target : Nat) (ws : List Nat) : Cmd := ⟨[op * 2 ^ 24 + tag, target] ++ ws ++ List.replicate (14 - ws.length) 0⟩

/-- A device that runs, with one entry in a command ring of 16. -/
def ringState (c : Cmd) (ops : List LongOp) : State :=
  let s := (State.reset.setF R.MGMT_STATUS F.MGMT_STATUS_BOOT_STAGE 2).wr R.CMD_RING_CTRL 0x80000004#32
  let t := (s.setF R.CMD_RING_TAIL F.CMD_RING_TAIL_INDEX 0).setF R.CMD_RING_HEAD F.CMD_RING_HEAD_INDEX 15
  (t.hostWrite (15 * 64) (leWords c.words)).updHost fun h => { h with ops := ops }

/-- A completion queue of 16 whose last slot is next. -/
def cplState (waiting : List Cpl) : State :=
  let s := (State.reset.wr R.CPL_RING_CTRL 0x80000004#32).setF R.CPL_RING_TAIL F.CPL_RING_TAIL_INDEX 15
  s.updHost fun h => { h with waiting := waiting, cplOut := [true] }

/-- The entry that a state's ring holds. -/
def ringEntry (s : State) : Cmd := ⟨toLeWords 16 (s.hostRead (15 * 64) 64)⟩

/-- A long operation of an opcode and tag. -/
def longAt (op tag : Nat) (f : LongOp → LongOp) : LongOp := f (LongOp.fresh (entry op tag 0 []))

/-- Host memory that holds a frame of 36 bytes, and the entry that injects it on port 0.0 at a time. -/
def injectState (timed time : Nat) : Cmd × State :=
  (entry 2 7 0 [0, 0, 36, timed * 2 ^ 31, time],
   (State.reset.hostWrite 0 (zeros 36)).updHost fun h => { h with fetched := [entry 2 7 0 [0, 0, 36, timed * 2 ^ 31, time]] })

/-- Witnesses of the premises of CommandRing: fetch and completion. -/
theorem witness_CommandRing :
    (let s := ringState (entry 0x11 7 0 [1]) []
     s.canFetch = true ∧ (ringEntry s) = entry 0x11 7 0 [1] ∧ opLong (ringEntry s).op = true ∧ (ringEntry s).clean = true ∧
     s.fld R.CMD_RING_HEAD F.CMD_RING_HEAD_INDEX % s.cmdSize = 15) ∧
    State.reset.canFetch = false ∧ (entry 0x11 7 1 [1]).clean = false ∧
    (longAt 0x12 7 id).cmd.tag = (entry 0x11 7 0 [1]).tag ∧ (entry 0x16 9 0 []).sameTarget (entry 0x16 8 0 []) = true ∧
    (entry 0x13 9 0 [0, 0, 0, 0, 3]).sameDies (entry 0x14 8 0 [0, 0, 0, 0, 2]) = true ∧
    opDefined (entry 1 7 0 []).op = true ∧ opLong (entry 1 7 0 []).op = false ∧ opDefined (entry 0xFF 7 0 []).op = false ∧
    opLong (entry 0xFF 7 0 []).op = false ∧
    State.reset.host.waiting = [] ∧ State.reset.cplFree = 0 ∧ (cplState [⟨1, 1, 0, 0, 0, true⟩]).cplFree = 15 ∧
    irqPending (cplState [⟨1, 1, 0, 0, 0, true⟩]) 0 = true ∧
    ((cplState []).fld R.CPL_RING_TAIL F.CPL_RING_TAIL_INDEX % (cplState []).cplSize + 1) % (cplState []).cplSize = 0 ∧
    State.reset.bit R.CMD_RING_CTRL F.CMD_RING_CTRL_EN = false ∧ F.CMD_RING_CTRL_EN.get 0x80000004#32 = 1 ∧
    State.reset.bit R.CPL_RING_CTRL F.CPL_RING_CTRL_EN = false := by
  decide +kernel

/-- Witnesses of the premises of CommandRing: short commands. -/
theorem witness_CommandRing_short :
    State.reset.host.fetched = [] ∧ (injectState 0 0).2.host.fetched = (injectState 0 0).1 :: [] ∧ (injectState 0 0).1.clean = true ∧
    (injectState 0 0).1.op = 2 ∧ (injectFrame (injectState 0 0).2 (injectState 0 0).1).isSome = true ∧
    injectFrame State.reset (entry 2 7 0 [0, 0, 35]) = none ∧ ((injectState 1 0).1.w 5).testBit 31 = true ∧
    ((injectState 0 0).1.w 5).testBit 31 = false ∧ State.reset.portExists 0 127 = false ∧ State.reset.portExists 0 0 = true ∧
    State.reset.isRetired 2 0 0 = false ∧ (State.reset.setHealth 2 0 0 { UnitHealth.init with state := 3 }).isRetired 2 0 0 = true ∧
    (writeQuarantine 0 0 State.reset).portState 0 0 = 1 ∧
    (State.reset.setF (R.PORT_CORE_STATUS 0 0) F.PORT_CORE_STATUS_STATE 4).portState 0 0 ≠ 1 ∧
    2 ^ 30 ≤ State.reset.ahead (2 ^ 30) ∧ State.reset.reached (2 ^ 30) = false ∧ State.reset.ahead 0 < 2 ^ 30 ∧
    State.reset.reached (2 ^ 32 - 1) = true ∧
    256 ≤ ((State.reset.updPort 0 0 fun x => { x with timed := List.replicate 256 (0, 0) }).port 0 0).timed.length ∧
    (entry 1 7 0 []).clean = true ∧ (entry 0x20 7 9 []).clean = true ∧ (entry 0x21 7 9 []).clean = true ∧ (entry 0x22 7 9 []).clean = true ∧
    State.reset.op? 9 = none ∧
    (∀ st : State, (st.updHost fun h => { h with ops := [longAt 0x11 9 id] }).op? 9 = some (longAt 0x11 9 id)) ∧
    hasSuspend 0x11 = true ∧ hasSuspend 0x10 = false ∧ (longAt 0x11 9 fun o => { o with paused := true }).paused = true ∧
    (longAt 0x11 9 fun o => { o with ended := true }).ended = true ∧ (longAt 0x11 9 id).ended = false ∧
    State.reset.opCommitted (longAt 0x11 9 id) = false ∧
    State.reset.opCommitted (longAt 0x11 9 fun o => { o with committed := true }) = true ∧
    State.reset.opCommitted (longAt 0x13 9 fun o => { o with committed := true }) = true ∧
    State.reset.bit (R.MSIX_CTRL 63) F.MSIX_CTRL_MASK = true ∧
    (State.reset.setF (R.MSIX_CTRL 63) F.MSIX_CTRL_MASK 0).bit (R.MSIX_CTRL 63) F.MSIX_CTRL_MASK = false ∧
    irqPending (State.reset.setF (R.MSIX_CTRL 63) F.MSIX_CTRL_MASK 0) 63 = false ∧
    irqPending ((cplState []).setF (R.MSIX_CTRL 0) F.MSIX_CTRL_MASK 0) 0 = true := by
  refine ⟨?_, ?_, ?_, ?_, ?_, ?_, ?_, ?_, ?_, ?_, ?_, ?_, ?_, ?_, ?_, ?_, ?_, ?_, ?_, ?_, ?_, ?_, ?_, ?_, fun _ => rfl, ?_⟩
  all_goals decide +kernel

/-- Reset with one long operation of tag 9: its opcode, its words from word 2 on, and what f changes. -/
def opState (op : Nat) (ws : List Nat) (f : LongOp → LongOp) (s : State) : State :=
  s.updHost fun h => { h with ops := [f (LongOp.fresh ⟨[op * 2 ^ 24 + 9, 0] ++ ws ++ List.replicate (14 - ws.length) 0⟩)] }

/-- The operation of tag 9 of a state. -/
def opOf (s : State) : LongOp := (s.op? 9).getD (LongOp.fresh ⟨[]⟩)

/-- The device identity is ready. -/
def identityState : State := State.reset.setF R.MGMT_STATUS F.MGMT_STATUS_IDENTITY_OK 1

/-- A good record of the logbook. -/
def bookState (n : Nat) : State :=
  let ws := recWords (LogRec.of 4 7 4 7 15) 0 0
  { State.reset with integ := { State.reset.integ with book := [(0, ws)], written := n } }

/-- The Hold with key 5 at the first entry of die 8's index. -/
def indexState : State := putEntry (holdState []) (holdBase 8) ⟨5, 0, true, false⟩

/-- A configuration object whose form holds. -/
def configObject : Bytes :=
  leWords [0x31465A56, 0x10241100, 0, 0, 0, 2] ++ zeros 8168

/-- Witnesses of the premises of LongOperations: gating, TEST_STRIP, TABLE_SCRUB, SELF_TEST. -/
theorem witness_LongOperations :
    State.reset.op? 9 = none ∧ ((opState 0x10 [] id State.reset).op? 9).isSome = true ∧ (opOf (opState 0x10 [] id State.reset)).ended = false ∧
    (opOf (opState 0x10 [] id State.reset)).paused = false ∧ (opOf (opState 0x10 [] id State.reset)).asked = false ∧
    (opOf (opState 0x10 [] (fun o => { o with asked := true }) State.reset)).asked = true ∧
    (opOf (opState 0x10 [7 * 2 ^ 24 + 128] id State.reset)).cmd.w 2 % 256 = 128 ∧
    State.reset.portExists 7 127 = false ∧ State.reset.portExists 7 120 = true ∧ 1 < 2 ^ (State.reset.portLanes 7 120).2 ∧
    2 ^ (State.reset.portLanes 7 127).2 ≤ 255 ∧ maskBits 1 8 = [0] ∧
    State.reset.isRetired 2 7 120 = false ∧ State.reset.isRetired 7 7 120 = false ∧ State.reset.isRetired 3 7 129 = false ∧
    (State.reset.setHealth 7 7 120 { UnitHealth.init with state := 3 }).isRetired 7 7 120 = true ∧
    (State.reset.setHealth 3 7 129 { UnitHealth.init with state := 3 }).isRetired 3 7 129 = true ∧
    State.reset.testable 7 120 true = false ∧ (State.reset.setF R.OPTICAL_STATUS F.OPTICAL_STATUS_ENGINE_UP 0xFFFF).testable 7 120 true = true ∧
    (State.reset.lane 7 120).step = 0 ∧ ((State.reset.updLane 7 120 fun l => { l with step := 1 }).lane 7 120).step ≠ 0 ∧
    State.reset.bit (R.LANYARD_TS_CTRL 7 129) F.LANYARD_TS_CTRL_ARM = false ∧ (State.reset.lan 7 1).strip = false ∧
    ((State.reset.updLan 7 1 fun l => { l with strip := true }).lan 7 1).strip = true ∧
    (maskBits 0x80 8).length ≤ 10 / 10 ∧ (maskBits 0x80 8)[9 / 10]? = some 7 ∧ 8 + 1 < (maskBits 0x80 8).length * 10 ∧
    (maskBits 0x80 8).length * 10 ≤ 9 + 1 ∧
    maskBits (engineMask ⟨[0, 0, 0, 0, 0, 2 ^ 31]⟩) 128 = [127] ∧ maskBits (engineMask ⟨[]⟩) 128 = [] ∧
    State.reset.isRetired 4 7 15 = false ∧ (State.reset.setHealth 4 7 15 { UnitHealth.init with state := 3 }).isRetired 4 7 15 = true ∧
    State.reset.engState 127 ≠ 3 ∧ (State.reset.setEngState 127 3).engState 127 = 3 ∧ State.reset.homed 127 = 0 ∧
    (List.range 128).find? (2 ^ 127 : Nat).testBit = some 127 ∧ (List.range 128).find? (0 : Nat).testBit = none ∧
    setMaskBit (2 ^ 127 + 1) 0 false ≠ 0 := by
  decide +kernel

/-- Witnesses of the premises of LongOperations: HOLD_LOAD, HOLD_CHECKPOINT, KNOT_FLUSH, FW_UPDATE, ATTEST, LOGBOOK_READ. -/
theorem witness_LongOperations_rest :
    State.reset.holdOut ⟨[0, 0, 0, 0, 0, 0, 1]⟩ = true ∧ (holdState []).holdOut ⟨[0, 0, 0, 0, 0, 0, 3]⟩ = false ∧
    (let s := (holdState []).hostWrite 0 (leBytes 5 8 ++ zeros 4 ++ leBytes 128 4)
     let r := recordAtHost s 0
     r.key = 5 ∧ r.len = 128 ∧ r.malformed 144 = false ∧ r.malformed 143 = true ∧ s.badKey 5 = false ∧ r.len ≤ s.imageBytes (shapeOf 5) ∧
     (⟨[0, 0, 0, 0, 0, 0, 2 ^ 16 + 3]⟩ : Cmd).hasDie (s.holdDie 5) = true ∧ (⟨[0, 0, 0, 0, 0, 0, 2 ^ 16 + 3]⟩ : Cmd).hasShape (shapeOf 5) = true ∧
     (⟨[]⟩ : Cmd).hasDie (s.holdDie 5) = false) ∧
    (holdState []).badKey (2 ^ 64 - 1) = true ∧
    firstFlip (holdState []) [] = none ∧ firstFlip (holdState []) [(5, 1)] = some (5, 1) ∧ (holdState []).lockOf 5 = none ∧
    ((lockedHold 3 []).lockOf 5).isSome = true ∧
    nextLive (holdState []) ⟨[0, 0, 0, 0, 0, 0, 2 ^ 16 + 3]⟩ 0 = none ∧
    nextLive indexState ⟨[0, 0, 0, 0, 0, 0, 2 ^ 16 + 3]⟩ 0 = some (holdBase 8) ∧ (indexState.entryAt (holdBase 8)).key = 5 ∧
    indexState.lockOf 5 = none ∧ indexState.imageBytes (shapeOf 5) = 128 ∧
    (State.reset.knot 16383).state = 0 ∧ ((knotIn 1 id).knot 16383).state = 1 ∧ ((knotIn 2 id).knot 16383).state = 2 ∧
    ((knotIn 3 id).knot 16383).state = 3 ∧ ((knotIn 4 id).knot 16383).state = 4 ∧
    objForm [] 0 = false ∧ State.reset.mgmt.ownRec = [] ∧
    (opState 0x17 [] id State.reset).attestTurn 9 = true ∧ State.reset.attestTurn 9 = false ∧ State.reset.mgmt.idFailed = false ∧
    (State.reset.updMgmt fun m => { m with idFailed := true }).mgmt.idFailed = true ∧
    State.reset.bit R.MGMT_STATUS F.MGMT_STATUS_IDENTITY_OK = false ∧ identityState.bit R.MGMT_STATUS F.MGMT_STATUS_IDENTITY_OK = true ∧
    416 + 7856 + identityState.mgmt.flash.manuf.cert.length ≤ 2 ^ 31 ∧
    State.reset.bookFrom 0 1 = [] ∧ ((bookState 1).bookFrom 0 1).length = 1 := by
  decide +kernel

/-- The form of a signed object can hold. -/
theorem witness_LongOperations_object : objForm configObject 2 = true := by
  have h : configObject.length = 8192 := by
    unfold configObject zeros
    rw [List.length_append, List.length_replicate]
    rfl
  have w : objWord configObject 0 = 0x31465A56 ∧ objWord configObject 4 = 0x10241100 ∧ objWord configObject 16 = 0 ∧
      objWord configObject 20 = 2 := by decide +kernel
  simp [objForm, h, w]

/-- Channel 31 with one descriptor in host memory at a ring in host memory at 0, in a state of Table 14.23. -/
def dmaState31 (st w5 : Nat) : State :=
  let s := (State.reset.setF (R.DMA_CH_CTRL 31) F.DMA_CH_CTRL_RUN 1).setF (R.DMA_CH_STATUS 31) F.DMA_CH_STATUS_STATE st
  (s.setF (R.DMA_CH_TAIL 31) F.DMA_CH_TAIL_INDEX 1).hostWrite 0 (zeros 16 ++ leWords [4, w5, 0, 0])

/-- Channel 31 that holds a descriptor in execution, with n completion records not released. -/
def dmaRunState (n : Nat) : State :=
  State.reset.updCh 31 fun x => { x with run := some ⟨0, 0, 0, 4, 2 ^ 31, 4, true, 0⟩, used := n }

/-- Channel 31 with its shadow set armed, its ring base as given. -/
def shadowState (base : Nat) : State :=
  (State.reset.setF (R.DMA_CH_SHADOW_CTRL 31) F.DMA_CH_SHADOW_CTRL_ARM 1).wr (R.DMA_CH_RING_BASE 31) (BitVec.ofNat 32 base)

/-- Witnesses of the premises of Bar2AndDma. -/
theorem witness_Bar2AndDma :
    devBad State.reset .ok 0x2FFFFFFF = false ∧ State.reset.devWritable 0x2FFFFFFF ≠ .refused ∧ State.reset.devWritable 0x30000000 = .refused ∧
    devPlace 0x30000000 = .empty ∧ State.reset.bar2Addr 0x30000000 = 0x30000000 ∧
    State.reset.dmaState 31 = 0 ∧ State.reset.dmaIdle 31 = true ∧ (dmaRunState 0).dmaIdle 31 = false ∧ (dmaState31 4 0).dmaState 31 = 4 ∧
    State.reset.dmaReady 31 = false ∧ (dmaState31 1 0).dmaReady 31 = true ∧ (dmaState31 4 (2 ^ 31)).dmaReady 31 = true ∧
    ((dmaState31 1 0).descAt 31 ((dmaState31 1 0).dmaAt 31)).own = false ∧
    ((dmaState31 1 (2 ^ 31)).descAt 31 ((dmaState31 1 (2 ^ 31)).dmaAt 31)).own = true ∧
    ((dmaState31 1 (2 ^ 31)).descAt 31 ((dmaState31 1 (2 ^ 31)).dmaAt 31)).len = 4 ∧
    (⟨0, 0, 4, 2 ^ 31⟩ : DmaDesc).bad = false ∧ (⟨0, 0, 5, 2 ^ 31 + 2 ^ 24⟩ : DmaDesc).bad = true ∧
    (⟨0, 0, 4, 2 ^ 31⟩ : DmaDesc).dstDev = false ∧ (⟨0, 0x30000000, 4, 2 ^ 31 + 2 ^ 28⟩ : DmaDesc).bad = false ∧
    (⟨0, 0x30000000, 4, 2 ^ 31 + 2 ^ 28⟩ : DmaDesc).dstDev = true ∧ State.reset.devAny 0x30000000 4 dstRefused = true ∧
    (⟨0, 0, 4, 2 ^ 31⟩ : DmaDesc).srcDev = false ∧ (⟨0, 0, 4, 2 ^ 31⟩ : DmaDesc).srcFix = false ∧ (⟨0, 0, 4, 2 ^ 31⟩ : DmaDesc).dstFix = false ∧
    (State.reset.ch 31).run = none ∧ ((dmaRunState 0).ch 31).run = some ⟨0, 0, 0, 4, 2 ^ 31, 4, true, 0⟩ ∧
    State.reset.dmaTurnOf = none ∧ State.reset.dmaWork 0 = false ∧ (dmaState31 1 0).dmaTurnOf = some (31, 0) ∧ (dmaState31 4 (2 ^ 31)).dmaTurnOf = some (31, 0) ∧
    (let s := (dmaState31 2 (2 ^ 31)).updCh 31 fun x => { x with run := some ⟨0, 0, 0, 4, 2 ^ 31, 0, false, 0⟩ }
     s.dmaTurnOf = some (31, 0) ∧ s.dmaWork 31 = true ∧ (s.ch 31).run = some ⟨0, 0, 0, 4, 2 ^ 31, 0, false, 0⟩ ∧
     (s.updHost fun h => { h with dmaTurn := 31, dmaHeld := 4088 }).dmaLeft 31 4088 ≠ 0 ∧
     (s.updHost fun h => { h with dmaTurn := 31, dmaHeld := 4096 }).dmaLeft 31 4096 = 0) ∧
    (dmaBegin false 0 ((dmaState31 1 (2 ^ 31)).descAt 31 0) (dmaState31 1 (2 ^ 31))).1.through = false ∧
    (dmaBegin true 0 ((dmaState31 4 (2 ^ 31)).descAt 31 0) (dmaState31 4 (2 ^ 31))).1.through = true ∧
    (⟨0, 0, 0, 4, 2 ^ 31, 0, false, 0⟩ : DmaRun).desc.srcDev = false ∧
    dmaRefused State.reset (⟨0, 0, 0x2FFFFFFE, 4, 2 ^ 31 + 2 ^ 28, 0, false, 0⟩ : DmaRun).desc 0 4 = some 2 ∧
    dmaRefused State.reset (⟨0, 0, 0, 4, 2 ^ 31, 0, false, 0⟩ : DmaRun).desc 0 4 = none ∧
    ((dmaRunState 255).ch 31).used < ((dmaRunState 255).ch 31).act.cplSize ∧
    ((dmaRunState 256).ch 31).act.cplSize ≤ ((dmaRunState 256).ch 31).used ∧
    (2 ^ 30 : Nat).testBit 30 = true ∧ (2 ^ 21 : Nat).testBit 21 = true ∧
    State.reset.bit (R.DMA_CH_SHADOW_CTRL 31) F.DMA_CH_SHADOW_CTRL_ARM = false ∧
    (shadowState 0).bit (R.DMA_CH_SHADOW_CTRL 31) F.DMA_CH_SHADOW_CTRL_ARM = true ∧ (shadowState 0).dmaIdle 31 = true ∧
    ((shadowState 0).shadowSet 31).ring = ((shadowState 0).ch 31).act.ring ∧ ((shadowState 0).shadowSet 31).cpl = ((shadowState 0).ch 31).act.cpl ∧
    ((shadowState 4096).shadowSet 31).ring ≠ ((shadowState 4096).ch 31).act.ring := by
  decide +kernel

/-- Reset with the management processor in a boot stage, and TRIAL as given. -/
def bootState (stage trial : Nat) : State :=
  (State.reset.setF R.MGMT_STATUS F.MGMT_STATUS_BOOT_STAGE stage).setF R.MGMT_STATUS F.MGMT_STATUS_TRIAL trial

/-- Witnesses of the premises of ProcessorStart. -/
theorem witness_ProcessorStart :
    (State.reset.updPwr fun p => { p with released := false }).pwr.released = false ∧
    (State.reset.updPwr fun p => { p with released := true }).pwr.released = true ∧ State.reset.bootStage = 0 ∧ (bootState 1 0).bootStage = 1 ∧
    (State.reset.updFlash fun f => { f with selA := ⟨false, true, false, 1, true, true⟩ }).mgmt.flash.sel.confirmed = false ∧
    (State.reset.updFlash fun f => { f with selA := ⟨false, true, false, 1, true, true⟩ }).mgmt.flash.sel.tried = true ∧
    (State.reset.updFlash fun f => { f with selA := ⟨false, true, true, 1, true, true⟩ }).mgmt.flash.sel.confirmed = true ∧
    3 ≤ (State.reset.updPwr fun p => { p with level := 4 }).pwr.level ∧
    (bootState 1 0).pState < 2 ∧ (bootState 1 0).pTarget = 15 ∧
    F.MGMT_BOOT_CTRL_BOOT_LOCK.get 0#32 ≠ 1 ∧ F.MGMT_BOOT_CTRL_BOOT_LOCK.get 1#32 = 1 ∧
    (bootState 2 0).bootStage = 2 ∧ (bootState 2 0).bit R.MGMT_STATUS F.MGMT_STATUS_IDENTITY_OK = false ∧
    (bootState 2 1).bit R.MGMT_STATUS F.MGMT_STATUS_TRIAL = true ∧ (bootState 2 0).bit R.MGMT_STATUS F.MGMT_STATUS_TRIAL = false ∧
    State.reset.mgmt.activate = false ∧ (State.reset.updMgmt fun m => { m with activate := true }).mgmt.activate = true ∧
    State.reset.mgmt.rerun = none ∧ State.reset.mgmt.activateAt ≤ State.reset.pwr.aon ∧
    State.reset.pwr.aon < (State.reset.updMgmt fun m => { m with activateAt := 1 }).mgmt.activateAt ∧
    (let s := State.reset.updMgmt fun m => { m with rerun := some true }
     s.mgmt.rerun = some true ∧ ¬ (s.mgmt.flash.sel.confirmed = false ∧ s.mgmt.flash.sel.tried = true)) ∧
    State.reset.host.ops = [] ∧ State.reset.host.waiting = [] ∧
    ((State.reset.updHost fun h => { h with ops := [LongOp.fresh ⟨[0x16000000]⟩] }).host.ops.any fun o => o.cmd.op == 0x16) = true ∧
    (State.reset.setF R.PWR_STATUS F.PWR_STATUS_PWR_GOOD 0).ioUp = false ∧
    ((State.reset.setF R.PWR_STATUS F.PWR_STATUS_PWR_GOOD 1).updPwr fun p => { p with railEn := true, vaux := true }).ioUp = true ∧
    F.MGMT_RECOVERY_CTRL_GO.get 0x80000000#32 = 1 ∧ F.MGMT_RECOVERY_CTRL_GO.get 0#32 ≠ 1 ∧ (bootState 3 0).bootStage = 3 ∧
    State.reset.bit R.MGMT_KEY_CTRL F.MGMT_KEY_CTRL_KEY_LOCK = false ∧
    (State.reset.setF R.MGMT_KEY_CTRL F.MGMT_KEY_CTRL_KEY_LOCK 1).bit R.MGMT_KEY_CTRL F.MGMT_KEY_CTRL_KEY_LOCK = true ∧
    State.reset.mgmt.key.length = 32 ∧ setMaskBit 0x7F 7 true = 255 := by
  decide +kernel

/-- A message of a type under the key of zeros: its sequence, tag and body. -/
def msgOf (typ seq : Nat) (tag body : Bytes) : Bytes :=
  let h := beBytes 0x564D5031 4 ++ beBytes seq 4 ++ [BitVec.ofNat 8 typ, 0] ++ beBytes body.length 2 ++ tag ++ body
  h ++ hmac (zeros 32) h

/-- A processor that runs under the key of zeros, with requests waiting. -/
def netState (rs : List MgmtReq) : State :=
  let s := (State.reset.setF R.MGMT_STATUS F.MGMT_STATUS_BOOT_STAGE 2).setF R.MGMT_KEY_CTRL F.MGMT_KEY_CTRL_KEY_SET 1
  let t := (s.setF R.MGMT_NET_CFG F.MGMT_NET_CFG_EN 1).setF R.MGMT_STATUS F.MGMT_STATUS_LINK_UP 1
  t.updMgmt fun m => { m with reqs := rs }

/-- A request that holds. -/
def goodReq (typ : Nat) (body : Bytes) : MgmtReq := ⟨1, 2, msgOf typ 0 (zeros 4) body⟩

/-- Witnesses of the premises of ManagementPort: frames, links, wakes. -/
theorem witness_ManagementPort :
    State.reset.netUp = false ∧ (netState []).netUp = true ∧ (netState []).tagOk none = true ∧ (netState []).tagOk (some 1#12) = false ∧
    (1518#16).toNat ≤ 1518 ∧ ¬ (1519#16).toNat ≤ 1518 ∧ (netState []).forUs false 0 = true ∧ (netState []).forUs true 0 = false ∧
    ((netState []).setF R.MGMT_NET_CFG F.MGMT_NET_CFG_IPV6 1).forUs true 0 = true ∧
    msgForm (goodReq 1 []).raw = true ∧ msgForm [] = false ∧
    256 ≤ (netState (List.replicate 256 ⟨0, 0, []⟩)).mgmt.reqs.length ∧
    (netState []).fld R.MGMT_PORTS F.MGMT_PORTS_REQ_PORT ≠ 1 ∧ (netState []).fld R.MGMT_PORTS F.MGMT_PORTS_WAKE_PORT ≠ 1 ∧
    ((netState []).wr R.MGMT_PORTS 0x00010002#32).fld R.MGMT_PORTS F.MGMT_PORTS_WAKE_PORT = 2 ∧
    (netState []).pState ≠ 3 ∧ (setPState (netState []) 3).pState = 3 ∧ (netState []).bit R.MGMT_STATUS F.MGMT_STATUS_LINK_UP = true ∧
    (let s := setPState ((netState []).setF R.WAKE_EN F.WAKE_EN_MGMT 1) 3
     s.bit R.WAKE_EN F.WAKE_EN_MGMT = true ∧ s.wakeOk (msgOf 0x10 0 (zeros 4) (s.mgmt.aonTag ++ beBytes 0xFFFFFFFF 4)) = true ∧
     s.wakeOk [] = false) := by
  decide +kernel

/-- Witnesses of the premises of ManagementPort: requests. -/
theorem witness_ManagementPort_requests :
    State.reset.bootStage ≠ 2 ∧ State.reset.mgmt.reqs = [] ∧ (netState [goodReq 1 []]).bootStage = 2 ∧
    (netState [goodReq 1 []]).mgmt.reqs = [goodReq 1 []] ∧
    (let s := netState [goodReq 1 [7]]
     let r := goodReq 1 [7]
     s.hmacOk r.raw r.bodyLen = true ∧ r.seq ∉ s.mgmt.seen ∧ s.mgmt.high < r.seq + 65 ∧ r.tag = zeros 4 ∧ s.dropIndex r = none ∧ r.typ = 1 ∧
     r.body = [7]) ∧
    (netState []).hmacOk (zeros 48) 0 = false ∧
    ((netState []).updMgmt fun m => { m with seen := [0] }).mgmt.seen.contains (goodReq 1 []).seq = true ∧
    (goodReq 1 []).seq + 65 ≤ ((netState []).updMgmt fun m => { m with high := 65 }).mgmt.high ∧
    (⟨1, 2, msgOf 1 0 [1, 2, 3, 4] []⟩ : MgmtReq).tag ≠ (netState []).deviceTag ∧
    (goodReq 0 []).typ = 0 ∧ 6 < (goodReq 7 []).typ ∧ (netState []).dropIndex (goodReq 7 []) = none ∧
    (goodReq 2 (zeros 256)).bodyLen = 256 ∧ (goodReq 2 (zeros 260)).bodyLen = 260 ∧
    (goodReq 3 (beBytes 0 4 ++ beBytes 64 4)).w 1 = 64 ∧ (goodReq 3 (beBytes 0 4 ++ beBytes 65 4)).w 1 = 65 ∧
    (netState []).inWindow 0 = false ∧ (goodReq 4 (zeros 512)).bodyLen = 512 ∧
    (goodReq 5 (beBytes 0 4 ++ beBytes 16 4)).w 1 = 16 ∧ (goodReq 6 (zeros 32)).bodyLen = 32 ∧ (goodReq 6 (zeros 31)).bodyLen = 31 := by
  decide +kernel

/-- A write window of the configuration record takes in an offset. -/
theorem witness_ManagementPort_window :
    (let cfg : Bytes := leWords [0, 0, 0, 0, 112] ++ zeros 8172 ++ leWords (List.replicate 12 0 ++ [0x1400040, 4] ++ List.replicate 14 0)
     let s := (netState []).updMgmt fun m => { m with cfgRec := cfg }
     s.inWindow 0x1400040 = true ∧ s.inWindow 0x1400041 = false) := by
  decide +kernel

/-- A target with the dynamic address 0x7F, or without one. -/
def i3cState (valid wake : Nat) : State :=
  let s := (State.reset.setF R.I3C_STATUS F.I3C_STATUS_DYN_ADDR 0x7F).setF R.I3C_STATUS F.I3C_STATUS_ADDR_VALID valid
  (s.setF R.WAKE_EN F.WAKE_EN_I3C wake).updPwr fun p => { p with vaux := true }

/-- Witnesses of the premises of I3cTarget. -/
theorem witness_I3cTarget :
    (i3cState 0 0).pwr.vaux = true ∧ (i3cState 0 0).bit R.I3C_STATUS F.I3C_STATUS_ADDR_VALID = false ∧
    (i3cState 0 0).pid ≤ (0xFFFFFFFFFFFF#48).toNat ∧ ¬ (i3cState 0 0).pid ≤ (0#48).toNat ∧
    (i3cState 1 0).bit R.I3C_STATUS F.I3C_STATUS_ADDR_VALID = true ∧
    ((i3cState 1 0).updPwr fun p => { p with vaux := false }).pwr.vaux = false ∧
    (i3cState 0 0).i3cHears true = true ∧ (i3cState 0 0).i3cHears false = false ∧ (i3cState 1 0).i3cHears false = true ∧
    (i3cState 1 0).bit R.WAKE_EN F.WAKE_EN_I3C = false ∧ (i3cState 1 1).bit R.WAKE_EN F.WAKE_EN_I3C = true := by
  decide +kernel

/-- Reset with the device in a power state, and the target of a transition. -/
def powerState (st target : Nat) : State := setPTarget (setPState State.reset st) target

/-- Witnesses of the premises of PowerStates. -/
theorem witness_PowerStates :
    (powerState 0 15).pTarget = 15 ∧ (powerState 0 3).pTarget ≠ 15 ∧ (powerState 1 15).pState ≠ 2 ∧ (powerState 2 15).pState = 2 ∧
    ((powerState 1 15).setF R.PWR_CTRL F.PWR_CTRL_AON_LP_EN 1).mayEnterP2 = true ∧
    (((powerState 1 15).updKnot 16383 fun k => { k with state := 1 }).setF R.PWR_CTRL F.PWR_CTRL_AON_LP_EN 1).mayEnterP2 = false ∧
    State.reset.integ.units = [] ∧ (powerState 0 2).pTarget = 2 ∧ (powerState 2 1).pTarget < 2 ∧ (powerState 2 0).pwr.stagger = [] ∧
    ((powerState 2 1).updPwr fun p => { p with stagger := [31] }).pwr.stagger ≠ [] ∧ (powerState 2 3).pTarget = 3 ∧
    (powerState 2 3).pwr.latched = false ∧ ((powerState 2 3).updPwr fun p => { p with latched := true }).pwr.latched = true ∧
    3 < (powerState 0 15).pTarget ∧ (powerState 2 3).pwr.waking = false ∧ (powerState 2 3).bit R.WAKE_EN F.WAKE_EN_TIMER = false ∧
    ((State.reset.setF R.WAKE_EN F.WAKE_EN_GPIO 8).fld R.WAKE_EN F.WAKE_EN_GPIO).testBit 3 = true ∧
    (State.reset.fld R.WAKE_EN F.WAKE_EN_GPIO_POL).testBit 3 = false ∧
    (let s := (powerState 3 15).setF R.WAKE_EN F.WAKE_EN_TIMER 1
     s.bit R.WAKE_EN F.WAKE_EN_TIMER = true ∧ s.rd64 R.WAKE_TIMER R.WAKE_TIMER_HI ≤ s.pwr.aon ∧ s.pState = 3) ∧
    ((powerState 3 15).updPwr fun p => { p with waking := true }).pwr.waking = true := by
  decide +kernel

/-- Reset with dies and optical engines to start. -/
def staggerState (l : List Nat) : State := State.reset.updPwr fun p => { p with stagger := l }

/-- Switch die 7 up. -/
def die7Up : State := startDie 7 State.reset

/-- Witnesses of the premises of RailsAndTemperatures. -/
theorem witness_RailsAndTemperatures :
    State.reset.pwr.vaux = true ∧ (State.reset.updPwr fun p => { p with vaux := false }).pwr.vaux = false ∧
    State.reset.pwr.tripped = false ∧ (State.reset.updPwr fun p => { p with tripped := true }).pwr.tripped = true ∧
    State.reset.pwrGood = false ∧ (State.reset.setBit R.PWR_STATUS F.PWR_STATUS_PWR_GOOD).pwrGood = true ∧ State.reset.pState ≠ 3 ∧
    (powerState 3 15).pwrGood = false ∧ ((powerState 3 15).updPwr fun p => { p with waking := true }).pwr.waking = true ∧
    State.reset.pwr.railEn = true ∧ (State.reset.updPwr fun p => { p with railEn := false }).pwr.railEn = false ∧ State.reset.isRoot = false ∧
    State.reset.pwr.stagger = [] ∧ (staggerState [31]).pwr.stagger = [31] ∧ (staggerState [9, 0]).pwr.stagger = [9, 0] ∧
    (staggerState [7]).pwr.stagger = [7] ∧ 12500 ≤ (12500#16).toInt ∧ (12499#16).toInt < 12500 ∧
    (staggerState [7]).pwr.stepAt ≤ (staggerState [7]).cycle ∧
    (staggerState [7]).cycle < ((staggerState [7]).updPwr fun p => { p with stepAt := 1 }).pwr.stepAt ∧
    sget die7Up.pwr.lowerAt 7 0 ≤ die7Up.cycle ∧ die7Up.cycle < sget (die7Up.updPwr fun p => { p with lowerAt := [(7, 1)] }).pwr.lowerAt 7 0 ∧
    State.reset.pwr.wakeAt = State.reset.cycle ∧ (State.reset.updPwr fun p => { p with wakeAt := 1 }).pwr.wakeAt ≠ State.reset.cycle ∧
    State.reset.dieUp 7 = false ∧ die7Up.dieUp 7 = true ∧ (0#16).toInt < 10500 ∧
    (0#16).toInt < (100 * die7Up.fld R.THERM_CTRL F.THERM_CTRL_THROTTLE_C : Nat) ∧
    die7Up.fld (R.DIE_PWR_STATUS 7) F.DIE_PWR_STATUS_STAGE = 0 := by
  decide +kernel

/-- Reset with a reset of a rank under way. -/
def levelState (n : Nat) (hold : Bool) : State := State.reset.updPwr fun p => { p with level := n, hold := hold }

/-- Witnesses of the premises of Resets. -/
theorem witness_Resets :
    F.RESET_CTRL_CONFIRM.get 0#32 ≠ 0xA5 ∧ F.RESET_CTRL_CONFIRM.get 0x00A50000#32 = 0xA5 ∧ 4 ≤ (levelState 4 true).pwr.level ∧
    (levelState 3 true).pwr.level < 4 ∧ 3 ≤ (levelState 3 true).pwr.level ∧ (levelState 2 false).pwr.level < 3 ∧
    2 ≤ (levelState 2 false).pwr.level ∧ (levelState 1 false).pwr.level < 2 ∧
    (levelState 4 false).pwr.hold = false ∧ (levelState 4 true).pwr.hold = true ∧ (levelState 3 true).pwr.level ≠ 4 ∧
    (levelState 4 true).cycle < (levelState 4 true).pwr.holdAt + 1600 ∧
    (let s : State := { levelState 3 true with cycle := 1600 }
     s.pwr.hold = true ∧ s.pwr.holdAt + 1600 ≤ s.cycle ∧ (warmBody s).pState ≠ 2 ∧ (warmBody (setPState s 2)).pState = 2) ∧ State.reset.integ.units = [] ∧
    (State.reset.updPwr fun p => { p with tripped := true }).pwr.tripped = true ∧ State.reset.pwr.tripped = false ∧
    State.reset.pState ≠ 3 ∧ State.reset.pTarget ≠ 3 ∧ (setPState State.reset 3).pState = 3 ∧
    (setPTarget State.reset 3).pTarget = 3 ∧ State.reset.pwr.latched = false ∧
    ((levelState 2 false).setF R.MGMT_STATUS F.MGMT_STATUS_BOOT_STAGE 2).fld R.MGMT_STATUS F.MGMT_STATUS_BOOT_STAGE = 2 ∧
    State.reset.txn ≠ txBeginWait ∧ (State.reset.setTxn txBeginWait).txn = txBeginWait ∧ (State.reset.setTxn txBeginWait).tabs.copying = false ∧
    (F.UNIT_RESET_KIND.get 0x2700007F#32 = 2 ∧ F.UNIT_RESET_DIE.get 0x2700007F#32 = 7 ∧ F.UNIT_RESET_UNIT.get 0x2700007F#32 = 127) ∧
    unitInRange 2 7 127 = true ∧ unitInRange 2 7 128 = false ∧ unitInRange 4 7 15 = true ∧ unitInRange 6 10 31 = true ∧
    F.UNIT_RESET_KIND.get 0x4700000F#32 = 4 ∧ F.UNIT_RESET_KIND.get 0x6A00001F#32 = 6 ∧ (levelState 0 false).pwr.level = 0 ∧
    (cancelTransition State.reset).portExists 7 120 = true ∧ (cancelTransition State.reset).portExists 7 127 = false ∧
    (cancelTransition (State.reset.setEngState 127 0)).engState 127 = 0 ∧ (cancelTransition (State.reset.setEngState 127 3)).engState 127 = 3 ∧
    State.reset.isRetired 6 10 31 = false ∧ (State.reset.setHealth 6 10 31 { UnitHealth.init with state := 3 }).isRetired 6 10 31 = true ∧
    State.reset.host.perstP3 = false ∧ (State.reset.updHost fun h => { h with perstP3 := true }).host.perstP3 = true ∧
    State.reset.bit R.WAKE_EN F.WAKE_EN_PCIE = true ∧ (State.reset.setF R.WAKE_EN F.WAKE_EN_PCIE 0).bit R.WAKE_EN F.WAKE_EN_PCIE = false ∧
    State.reset.fld R.RESET_CTRL F.RESET_CTRL_PERST_ACTION ≠ 1 ∧ State.reset.fld R.RESET_CTRL F.RESET_CTRL_PERST_ACTION ≠ 2 ∧
    (State.reset.setF R.RESET_CTRL F.RESET_CTRL_PERST_ACTION 2).fld R.RESET_CTRL F.RESET_CTRL_PERST_ACTION = 2 := by
  decide +kernel
end

section
/-! PROOFS. What a software write and a read do to one bit of a register word, and BAR0 requests that are not aligned accesses of 4 bytes. -/

namespace Sys2Proof.Machine

/-! ## One bit of a word that the rows of a field table change in turn -/

section
variable {step : Word → FieldRow → Word} {act : Access → Bool → Bool} {b : Nat}
  (hstep : ∀ w q, (step w q).getLsbD b = if q.fld.mask.getLsbD b then act q.acc (w.getLsbD b) else w.getLsbD b)
include hstep

/-- Rows that act on their own bits alone leave a bit that none of them covers. -/
theorem foldl_getLsbD_of_uncovered {fs : List FieldRow} (w : Word) (hfree : ∀ q ∈ fs, q.fld.mask.getLsbD b = false) :
    (fs.foldl step w).getLsbD b = w.getLsbD b := by
  induction fs generalizing w with
  | nil => rfl
  | cons q fs ih =>
    obtain ⟨hq, hfs⟩ := List.forall_mem_cons.mp hfree
    simp [ih _ hfs, hstep, hq]

/-- A bit that one row alone covers is changed as that row's access code says, however often the row is listed, where acting twice is
acting once. -/
theorem foldl_getLsbD_of_sole_cover (hidem : ∀ c x, act c (act c x) = act c x) {fs : List FieldRow} {r : FieldRow} (w : Word)
    (hcover : r.fld.mask.getLsbD b = true) (hsole : ∀ q ∈ fs, q ≠ r → q.fld.mask.getLsbD b = false) :
    (fs.foldl step w).getLsbD b = if r ∈ fs then act r.acc (w.getLsbD b) else w.getLsbD b := by
  induction fs generalizing w with
  | nil => rfl
  | cons q fs ih =>
    obtain ⟨hq, hfs⟩ := List.forall_mem_cons.mp hsole
    rw [List.foldl_cons, ih _ hfs, hstep]
    by_cases hqr : q = r
    · simp [hqr, hcover, hidem]
    · simp [hq hqr, Ne.symm hqr]

end

/-! ## Access codes (R5) -/

/-- A bit after a write of v over it, by its field's access code. -/
def Access.onWrite (locked v : Bool) : Access → Bool → Bool
  | .RW, _ => v
  | .W1C, x => x && !v
  | .W1S, x => x || v
  | .RWL, x => if locked then x else v
  | .RO, x | .WO, x | .RC, x => x

/-- A bit after a read of its register, by its field's access code. -/
def Access.onRead : Access → Bool → Bool
  | .RC, _ => false
  | _, x => x

theorem onWrite_onWrite (locked v : Bool) (c : Access) (x : Bool) :
    c.onWrite locked v (c.onWrite locked v x) = c.onWrite locked v x := by
  cases c <;> cases locked <;> simp [Access.onWrite]

theorem onRead_onRead (c : Access) (x : Bool) : c.onRead (c.onRead x) = c.onRead x := by
  cases c <;> rfl

/-- A bit of a word with the bits of a mask cleared. -/
theorem getLsbD_and_not (w m : Word) (b : Nat) : (w &&& ~~~m).getLsbD b = (w.getLsbD b && !m.getLsbD b) := by
  by_cases hb : b < 32
  · simp [hb]
  · simp [BitVec.getLsbD_of_ge _ _ (Nat.le_of_not_lt hb)]

/-- A bit of a word that takes the bits of a mask from another word. -/
theorem getLsbD_merge (w v m : Word) (b : Nat) :
    ((w &&& ~~~m) ||| (v &&& m)).getLsbD b = if m.getLsbD b then v.getLsbD b else w.getLsbD b := by
  rw [BitVec.getLsbD_or, getLsbD_and_not, BitVec.getLsbD_and]
  cases m.getLsbD b <;> simp

/-- A write of a field changes the field's bits alone, by its access code. -/
theorem write_getLsbD (locked : Bool) (v w : Word) (r : FieldRow) (b : Nat) :
    (r.write locked v w).getLsbD b =
      if r.fld.mask.getLsbD b then r.acc.onWrite locked (v.getLsbD b) (w.getLsbD b) else w.getLsbD b := by
  obtain ⟨f, c, n⟩ := r
  cases c with
  | RW => exact getLsbD_merge w v f.mask b
  | RWL =>
    cases locked with
    | false => exact getLsbD_merge w v f.mask b
    | true => exact (ite_self _).symm
  | W1C =>
    rw [FieldRow.write, getLsbD_and_not, BitVec.getLsbD_and]
    cases f.mask.getLsbD b <;> simp [Access.onWrite]
  | W1S =>
    rw [FieldRow.write, BitVec.getLsbD_or, BitVec.getLsbD_and]
    cases f.mask.getLsbD b <;> simp [Access.onWrite]
  | RO | WO | RC => exact (ite_self _).symm

/-- A read treats the fields one after the other. -/
theorem clearRc_eq_foldl (fs : List FieldRow) (w : Word) : clearRc fs w = fs.foldl (fun w r => clearRc [r] w) w := rfl

/-- A read of one field changes the field's bits alone, by its access code. -/
theorem clearRc_singleton_getLsbD (r : FieldRow) (w : Word) (b : Nat) :
    (clearRc [r] w).getLsbD b = if r.fld.mask.getLsbD b then r.acc.onRead (w.getLsbD b) else w.getLsbD b := by
  obtain ⟨f, c, n⟩ := r
  cases c with
  | RC =>
    refine (getLsbD_and_not w f.mask b).trans ?_
    cases f.mask.getLsbD b <;> simp [Access.onRead]
  | RW | RO | WO | W1C | W1S | RWL => exact (ite_self _).symm

/-- The field tables give every WO field the reset value 0: a finite fact of the register index, evaluated. -/
theorem reset_eq_zero_of_WO : ∀ row ∈ regIndex, ∀ f ∈ row.fields, f.acc = .WO → f.reset = 0 := by
  decide +kernel

/-! ## Requests that are not aligned accesses of 4 bytes (R8) -/

theorem goodAccess_eq_false {a n : Nat} (h : a % 4 ≠ 0 ∨ n ≠ 4) : goodAccess a n = false := by
  rcases h with h | h <;> simp [goodAccess, h]

/-- A bad access has the effect of `badAccess`. -/
theorem exec_bar0BadAccess {a : Word} {n : Nat} (h : a.toNat % 4 ≠ 0 ∨ n ≠ 4) (write : Bool) (s : State) :
    exec (.bar0BadAccess a n write) s = .next (badAccess n write s) := by
  have harm : exec (.bar0BadAccess a n write) s = execBar0BadAccess a n write s := rfl
  simp [harm, execBar0BadAccess, goodAccess_eq_false h]

/-- Such a write of a word is counted and discarded. -/
theorem wordWrite_of_misaligned {a : Nat} (h : a % 4 ≠ 0) (v : Word) (s : State) :
    wordWrite a v s = s.countF R.HOST_BAD_ACCESS F.HOST_BAD_ACCESS_BAR0 := by
  simp [wordWrite, goodAccess_eq_false (.inl h), badAccess]

/-- A count in a field adds one and stops at the field's last value. -/
theorem fld_countF_same (s : State) (r : RegRef) (f : Fld) (hl : f.lo ≤ f.hi) (hh : f.hi < 32) :
    (s.countF r f).fld r f = min f.ones (s.fld r f + 1) := by
  have hpos := Nat.two_pow_pos (f.hi + 1 - f.lo)
  have hlt : min f.ones (s.fld r f + 1) < 2 ^ (f.hi + 1 - f.lo) := by
    unfold Fld.ones
    omega
  rw [State.countF, fld_setF_same _ _ _ _ hl hh, Nat.mod_eq_of_lt hlt]

end Sys2Proof.Machine

open Sys2Proof Sys2Proof.Machine

/-- Settles O7: no such access is a good one, so each is only counted, in a field that saturates. -/
theorem bar0BadAccess : Obligations.Bar0BadAccess := by
  refine ⟨fun a n s h => ?_, fun a v s h => ?_, fun s => ?_⟩
  · exact ⟨exec_bar0BadAccess h true s, exec_bar0BadAccess h false s⟩
  · have hexec : execBar0RegWrite a v s = .next (s.countF R.HOST_BAD_ACCESS F.HOST_BAD_ACCESS_BAR0) := by
      rw [execBar0RegWrite, wordWrite_of_misaligned h]
    exact ⟨hexec, hexec⟩
  · exact fld_countF_same s R.HOST_BAD_ACCESS F.HOST_BAD_ACCESS_BAR0 (by decide) (by decide)

/-- Settles O5: each field changes its own bits alone, by its access code, so a bit that one field covers sees that field only. -/
theorem writeByAccessCode : Obligations.WriteByAccessCode := by
  refine ⟨fun locked fs r old v b hr hcover hsole => ?_, fun locked fs old v b hfree => ?_, fun fs r w b hr hcover hsole => ?_,
    reset_eq_zero_of_WO⟩
  · have hbit := foldl_getLsbD_of_sole_cover (fun w q => write_getLsbD locked v w q b) (onWrite_onWrite locked _) old hcover hsole
    rw [writeFields, hbit, if_pos hr]
    cases r.acc <;> rfl
  · exact foldl_getLsbD_of_uncovered (fun w q => write_getLsbD locked v w q b) old hfree
  · have hbit := foldl_getLsbD_of_sole_cover (fun w q => clearRc_singleton_getLsbD q w b) onRead_onRead w hcover hsole
    rw [clearRc_eq_foldl, hbit, if_pos hr]
    cases r.acc <;> rfl
end

section
/-! PROOFS. When a stated fabric time counts as reached (R102). -/

namespace Sys2Proof.Machine

/-- The time since T and the time until T are opposites modulo 2^32, so one is 2^31 or more exactly where the other is 1 to 2^31. -/
theorem two_pow_31_le_toNat_iff_neg (x : Word) : 2 ^ 31 ≤ x.toNat ↔ 1 ≤ (-x).toNat ∧ (-x).toNat ≤ 2 ^ 31 := by
  rw [BitVec.toNat_neg]
  have hx := x.isLt
  omega

theorem State.now_lt (s : State) : s.now < 2 ^ 32 := Nat.mod_lt _ (Nat.two_pow_pos 32)

/-- Reached: less than 2^31 ns have passed since T, as a difference of words. -/
theorem State.reached_toNat (s : State) (t : Word) : s.reached t.toNat = decide ((BitVec.ofNat 32 s.now - t).toNat < 2 ^ 31) := by
  have hdiff : (s.now + 2 ^ 32 - t.toNat % 2 ^ 32) % 2 ^ 32 = (BitVec.ofNat 32 s.now - t).toNat := by
    rw [BitVec.toNat_sub, BitVec.toNat_ofNat]
    have hnow := s.now_lt
    have ht := t.isLt
    omega
  rw [State.reached, reachedAt, hdiff]

/-- The time until T is the opposite difference of words. -/
theorem State.ahead_toNat (s : State) (t : Word) : s.ahead t.toNat = (t - BitVec.ofNat 32 s.now).toNat := by
  rw [State.ahead, BitVec.toNat_sub, BitVec.toNat_ofNat]
  have hnow := s.now_lt
  have ht := t.isLt
  omega

/-- T is not reached exactly where it lies 1 to 2^31 ns ahead; the bound 2^31 itself is the model's choice (log entry 100). -/
theorem State.reached_toNat_eq_false_iff (s : State) (t : Word) :
    s.reached t.toNat = false ↔ 1 ≤ s.ahead t.toNat ∧ s.ahead t.toNat ≤ 2 ^ 31 := by
  rw [s.reached_toNat, decide_eq_false_iff_not, Nat.not_lt, two_pow_31_le_toNat_iff_neg, neg_sub, ← s.ahead_toNat]

end Sys2Proof.Machine

open Sys2Proof Sys2Proof.Machine

/-- Settles O18: the time since T and the time until T are opposite differences of words. -/
theorem timeReached : Obligations.TimeReached :=
  fun s t => ⟨s.reached_toNat t, s.reached_toNat_eq_false_iff t⟩
end

section
/-! PROOFS. What holds of every command and of every step: a command acts within Acts, and a step is the front command or one core cycle. -/

namespace Sys2Proof.Machine

/-- A step on a queue runs its front command on the state with the rest of the queue. -/
theorem step_cons (c : Instr) (rest : List Instr) (s : State) :
    step { s with pending := c :: rest } = exec c { s with pending := rest } := rfl

/-- A step on an empty queue is one core cycle. -/
theorem step_nil (s : State) (h : s.pending = []) : step s = .next (tick s) := by
  rw [step, h]

/-- Every command answers a next state, within Acts of the state before. -/
theorem exec_next (c : Instr) (s : State) : ∃ t, exec c s = .next t ∧ Acts s t := (acts_exec c s .refl).next

/-- A meaning that answers the same next state. -/
theorem next_eq {s t : State} (h : s = t) : (Host.Outcome.next s : Result) = .next t := congrArg _ h

/-- What Acts allows keeps the canonical form. -/
theorem Acts.canonical {s t : State} (h : Acts s t) (hs : s.canonical = true) : t.canonical = true := by
  obtain ⟨hregs, hmem⟩ := Bool.and_eq_true_iff.mp hs
  exact Bool.and_eq_true_iff.mpr ⟨h.regs_rising hregs, h.hostMem_wf hmem⟩

end Sys2Proof.Machine

open Sys2Proof Sys2Proof.Machine

/-- Settles O3: a step acts within Acts of its state but for the clock and the queue, which the canonical form does not read. -/
theorem stepKeepsCanonical : Obligations.StepKeepsCanonical := by
  intro s t hs hstep
  unfold step at hstep
  split at hstep
  · cases hstep
    exact (acts_tick s).canonical hs
  · next c rest _ =>
    obtain ⟨u, hu, hacts⟩ := exec_next c { s with pending := rest }
    cases hstep.symm.trans hu
    exact hacts.canonical hs

/-- Settles O2: a command acts within Acts, which leaves the clock and the queue and only adds to what left the package. -/
theorem everyCommandCompletes : Obligations.EveryCommandCompletes := by
  intro c s
  obtain ⟨t, ht, hacts⟩ := exec_next c s
  exact ⟨t, ht, hacts.pending, hacts.cycle, hacts.out⟩

/-- Settles O1: a step is the front command on the rest of the queue, or a tick, which moves the clock on by one. -/
theorem stepRunsFrontCommand : Obligations.StepRunsFrontCommand := by
  refine ⟨fun c rest s => ?_, fun s => ?_⟩
  · obtain ⟨t, ht, hacts⟩ := exec_next c { s with pending := rest }
    exact ⟨step_cons c rest s, t, ht, hacts.pending⟩
  · have hacts := acts_tick { s with pending := [] }
    exact ⟨_, step_nil _ rfl, hacts.cycle, hacts.pending⟩

/-- Settles O4: nothing is written at reset. -/
theorem resetIsCanonical : Obligations.ResetIsCanonical := ⟨rfl, rfl, rfl, rfl⟩
end

section
/-! PROOFS. Die links (R19 to R25). -/

open Sys2Proof Sys2Proof.Machine

/-- Settles O8: each command of a link by the branch that the link's fields take. -/
theorem dieLinks : Obligations.DieLinks := by
  refine ⟨fun d peer vc ok s h => next_eq ?_,
    fun d peer vc f s hup hf => ⟨fun hn => next_eq ?_, fun hn => next_eq ?_, fun hh => next_eq ?_, fun hh hv => next_eq ?_,
      fun hh hv hd => next_eq ?_⟩,
    fun d peer s => ⟨fun h => next_eq ?_, fun hne hup => next_eq ?_⟩, fun d peer s hne hup hd hp => next_eq ?_,
    fun d peer s h => next_eq ?_, fun d peer s => ⟨fun h => next_eq ?_, fun ht hup => next_eq ?_⟩,
    fun d peer s => ⟨fun h => next_eq ?_, fun h => next_eq ?_⟩, fun d peer mask s hne => next_eq ?_⟩
  · rcases h with h | h
    · simp [doFlitReceive, h]
    · simp only [doFlitReceive, h]
      split <;> rfl
  · simp [doFlitReceive, hf, hup, Nat.not_le.mpr hn]
  · simp [doFlitReceive, hf, hup, hn]
  · simp [doFlitReceive, acceptFlit, hf, hup, hh]
  · simp only [doFlitReceive, acceptFlit, hf, hup, hh, hv, Bool.not_true, Bool.false_eq_true, ↓reduceIte]
    rfl
  · simp [doFlitReceive, acceptFlit, hf, hup, hh, hv, hd]
  · rw [linkDown, if_pos (h.imp (congrArg Fin.val) (by simp [·]))]
  · have : d.val ≠ peer.val := Fin.val_ne_of_ne hne
    simp [linkDown, setBoth, this, hup]
  · have : d.val ≠ peer.val := Fin.val_ne_of_ne hne
    simp [doRetrain, this, hup, hd, hp]
  · rw [doRetrain, if_pos (h.imp (congrArg Fin.val) (by simp [·]))]
  · rw [doDieLinkUp, if_neg (by rcases h with h | h <;> simp [h])]
  · rw [doDieLinkUp, if_pos (by simp [ht, hup])]
    rfl
  · simp [doDrainDone, h]
  · simp [doDrainDone, h]
  · rw [if_neg hne]
end

section
/-! PROOFS. Codewords and markers received on a lane (R35 to R42, R48, R55, R117). -/

open Sys2Proof Sys2Proof.Machine

/-- Settles O9: a codeword by whether its lane has a port and whether it decodes; a marker by the lane's port. -/
theorem codewordReception : Obligations.CodewordReception := by
  refine ⟨fun d n syms s hp => ⟨fun m k hdec => next_eq ?_, fun hdec => next_eq ?_⟩,
    fun d n p syms s hp => ⟨fun m k hdec => next_eq ?_, fun hdec => next_eq ?_⟩, fun d n s => rfl,
    fun d n idx mask gid s => ⟨fun hp => next_eq ?_, fun p hp hlan => next_eq ?_, fun p hp hdata => next_eq ?_⟩⟩
  · simp [doCodeword, hp, hdec]
  · simp [doCodeword, hp, hdec]
  · simp [doCodeword, hp, hdec]
  · simp [doCodeword, hp, hdec]
  · simp [doMarker, hp]
  · simp [doMarker, hp, hlan]
  · simp only [doMarker, hp, Nat.not_le.mpr hdata, ↓reduceIte, BitVec.ofNat_toNat, BitVec.setWidth_eq]
    generalize State.leadRx _ d.val p = lead
    cases lead <;> rfl
end

section
/-! PROOFS. Frames received on a data port, and their end (R49, R55, R57). -/

namespace Sys2Proof.Machine

/-- The next data block of a port's stream: skipped, or it goes on with a header or a frame, or it begins a frame. -/
theorem rxBlock_cons {d p : Nat} {s : State} {b : RxBlk} {rest : List RxBlk} (h : (s.port d p).rxStream = b :: rest) :
    let x := s.port d p
    let s1 := s.updPort d p fun y => { y with rxStream := rest }
    let add := s1.updPort d p fun y => { y with rxAsm := x.rxAsm ++ b.block.bytes, rxBad := x.rxBad || b.bad }
    rxBlock d p s =
      if x.rxSkip ≠ 0 then s1.updPort d p fun y => { y with rxSkip := x.rxSkip - 1 }
      else match x.rxHdr, x.rxOpen with
        | some h, _ => rxStart add d p h
        | none, some id =>
          if x.rxAsm.length / 32 + 1 = bodyBlocks (s.frm id).frame.hdr then rxFinish add d p id (s.frm id).frame.hdr else add
        | none, none => rxFirst s1 d p b := by
  simp only [rxBlock, h, port_updPort_same]
  rfl

/-- An event of a data port that exists reaches that port. -/
theorem doFrameReceive_of_exists {d p : Nat} {s : State} (hp : p < 128) (he : s.portExists d p = true) (ev : RxEvent) :
    doFrameReceive d p ev s = match ev with
      | .block => rxBlock d p s
      | .head h first =>
        if (s.port d p).rxOpen.isSome then s
        else (rxHead s d p 255 h first).2.updPort d p fun x => { x with rxOpen := (rxHead s d p 255 h first).1 }
      | .tail payload crc bad =>
        match (s.port d p).rxOpen with
        | none => s
        | some id => rxTail (s.updPort d p fun x => { x with rxOpen := none }) d p id payload crc bad
      | .whole h payload crc bad => if (s.port d p).rxOpen.isSome then s else rxWhole s d p 255 h payload crc bad := by
  exact if_neg (by simp [he, Nat.not_le.mpr hp])

/-- FRAME_RECEIVE of a block on a data port that exists takes the next block of the stream. -/
theorem exec_frameReceive_block (d : Fin 8) (p : Fin 130) (s : State) (hp : p.val < 128) (he : s.portExists d.val p.val = true) :
    exec (.frameReceive d p .block) s = .next (rxBlock d.val p.val s) :=
  next_eq (doFrameReceive_of_exists hp he .block)

end Sys2Proof.Machine

open Sys2Proof Sys2Proof.Machine

/-- Settles O11: each event by the port's open frame, the stream's next block, and the checks at the end of a frame. -/
theorem frameReception : Obligations.FrameReception := by
  refine ⟨fun d p ev s h => next_eq ?_, fun d p s hp he => ⟨fun hs => ?_, fun b rest hs => ?_⟩,
    fun d p h b crc bad id s hp he ho => ?_, fun d p h b crc bad s hp he ho => ?_,
    fun d p id b crc bad f s hf => ?_, fun d p seq reason s => ⟨fun ho => next_eq ?_, fun id ho => next_eq ?_⟩⟩
  · unfold doFrameReceive
    rw [if_pos (h.imp_right (by simp [·]))]
  · rw [exec_frameReceive_block d p s hp he, rxBlock, hs]
  · rw [exec_frameReceive_block d p s hp he, rxBlock_cons hs]
    refine ⟨fun hskip => ?_, fun hd hskip hhdr => ?_, fun id hskip hhdr hopen => ?_, fun hskip hhdr hopen =>
      ⟨fun hbad => ?_, fun hbad hcrc => ?_, fun hbad hcrc => ?_⟩⟩
    · rw [if_pos hskip]
    · simp [hskip, hhdr]
    · simp [hskip, hhdr, hopen]
    · simp [hskip, hhdr, hopen, rxFirst, hbad]
    · simp [hskip, hhdr, hopen, rxFirst, hbad, hcrc]
    · simp [hskip, hhdr, hopen, rxFirst, hbad, hcrc]
  · refine ⟨next_eq ?_, next_eq ?_, next_eq ?_⟩ <;> simp [doFrameReceive_of_exists hp he, ho]
  · refine ⟨next_eq ?_, next_eq ?_, next_eq ?_⟩ <;> simp [doFrameReceive_of_exists hp he, ho]
    rfl
  · have hfrm : s.frm id = f := by rw [State.frm, hf]; rfl
    refine ⟨fun hbad => ?_, fun hbad hlen => ?_, fun hbad hlen hcrc => ?_, fun hbad hlen hcrc => ?_⟩
    · simp [rxTail, hf, hbad]
    · simp [rxTail, hf, hfrm, hbad, hlen]
    · simp [rxTail, hf, hfrm, hbad, hlen, hcrc]
    · simp [rxTail, hf, hfrm, hbad, hlen, hcrc]
  · simp [doAbortReceive, ho]
  · simp [doAbortReceive, ho]
end

section
/-! PROOFS. Flow control, link faults, lane sets, and what a transmitted codeword carries (R39 to R47, R65, R68). -/

namespace Sys2Proof.Machine

/-- Since when a class is paused, after a mask of off classes: kept where it already was, now where it was not, 0 where it is on. -/
def pauseSince (mask now : Nat) (m : SMap Nat) (c : Nat) : SMap Nat :=
  if mask.testBit c then (if sget m c 0 = 0 then sput m c now 0 else m) else sput m c 0 0

theorem sget_pauseSince_same (mask now c : Nat) (m : SMap Nat) :
    sget (pauseSince mask now m c) c 0 = if mask.testBit c then (if sget m c 0 = 0 then now else sget m c 0) else 0 := by
  unfold pauseSince
  split
  · split <;> simp [*]
  · simp

theorem sget_pauseSince_ne (mask now : Nat) (m : SMap Nat) {a c : Nat} (h : a ≠ c) :
    sget (pauseSince mask now m c) a 0 = sget m a 0 := by
  unfold pauseSince
  split
  · split
    · exact sget_sput_ne m h now 0 0
    · rfl
  · exact sget_sput_ne m h 0 0 0

/-- Each class is treated once, by what it was before. -/
theorem sget_foldl_pauseSince (mask now : Nat) {cs : List Nat} (hcs : cs.Nodup) (m : SMap Nat) (a : Nat) :
    sget (cs.foldl (pauseSince mask now) m) a 0 = if a ∈ cs then sget (pauseSince mask now m a) a 0 else sget m a 0 := by
  induction cs generalizing m with
  | nil => rfl
  | cons c cs ih =>
    obtain ⟨hc, hcs⟩ := List.nodup_cons.mp hcs
    rw [List.foldl_cons, ih hcs]
    by_cases hac : a = c
    · subst hac
      simp [hc]
    · simp [hac, sget_pauseSince_same, sget_pauseSince_ne mask now m hac]

/-- The far end's mask on a data port. -/
theorem doXoff_of_data {d p : Nat} (hp : p < 128) (mask : Nat) (s : State) :
    doXoff d p mask s = (s.setF (R.PORT_FC_STATUS d p) F.PORT_FC_STATUS_RX_OFF mask).updPort d p fun x =>
      { x with pausedAt := (List.range 8).foldl (pauseSince mask (s.cycle + 1)) x.pausedAt } :=
  if_neg (Nat.not_le.mpr hp)

/-- The lanes of a port are quiet where each active one has passed eight codewords without the condition. -/
theorem quietEnough_iff (s : State) (d p : Nat) :
    quietEnough s d p = true ↔ ∀ n ∈ s.laneList d p, s.rxActive d p n = true → 8 ≤ (s.lane d n).quiet := by
  simp only [quietEnough, List.all_eq_true, Bool.or_eq_true, Bool.not_eq_true', decide_eq_true_eq]
  exact forall₂_congr fun n _ => by cases s.rxActive d p n <;> simp

end Sys2Proof.Machine

open Sys2Proof Sys2Proof.Machine

/-- Settles O12: the masks by the kind of port, the watchdog by how long the class has been paused. -/
theorem flowControlReceived : Obligations.FlowControlReceived := by
  refine ⟨fun d p mask s h => next_eq ?_, fun d p mask s h => ?_, fun d p s => ⟨fun h => next_eq ?_, fun hm hp => next_eq ?_⟩,
    fun d p tc s => ⟨fun h => next_eq ?_, fun hp hms hsince hlong => next_eq ?_⟩⟩
  · rw [doXoff, if_pos h]
  · refine ⟨_, next_eq (doXoff_of_data h mask.toNat s), rfl, ?_, fun c hc => ?_⟩
    · rw [port_updPort_same]
      rfl
    · rw [port_updPort_same]
      have hfold := sget_foldl_pauseSince mask.toNat (s.cycle + 1) List.nodup_range (s.port d.val p.val).pausedAt c (cs := List.range 8)
      rw [if_pos (List.mem_range.mpr hc), sget_pauseSince_same] at hfold
      exact hfold
  · rw [doXoffRefresh, if_pos h]
  · rw [doXoffRefresh, if_neg (by simp [hm, Nat.not_le.mpr hp])]
  · have : s.pausedLong d.val p.val tc.val = false := by
      rw [← Nat.not_lt] at h
      rcases h with h | h | h | h <;> simp [State.pausedLong, h]
    simp [doPauseWatchdog, this]
  · have : s.pausedLong d.val p.val tc.val = true := by simp [State.pausedLong, hp, hms, hsince, hlong]
    simp [doPauseWatchdog, this]

/-- Settles O13: each command by what the port waits for; the far end's condition ends by `quietEnough_iff`. -/
theorem faultsAndLaneSets : Obligations.FaultsAndLaneSets := by
  refine ⟨fun _ _ _ _ => rfl, fun d p s => ⟨fun h => next_eq ?_, fun h => next_eq ?_⟩, fun _ _ _ _ _ => rfl,
    fun d p m i s => ⟨fun h => next_eq ?_, fun h => next_eq ?_, fun h hlead => next_eq ?_, fun n h hlead hi => next_eq ?_,
      fun h hi => next_eq ?_, fun h hi => next_eq ?_⟩, fun _ _ _ _ => rfl⟩
  · rw [if_pos ((quietEnough_iff s d.val p.val).mpr h)]
  · rw [if_neg (mt (quietEnough_iff s d.val p.val).mp h)]
  · simp [doLaneSetEffective, h]
  · simp [doLaneSetEffective, h]
  · have : (s.leadRx d.val p.val).all (fun n => (s.lane d.val n).rxIdx == i) = true := by
      cases hl : s.leadRx d.val p.val with
      | none => rfl
      | some n => simpa using hlead n hl
    simp [doLaneSetEffective, h, this]
  · simp [doLaneSetEffective, h, hlead, hi]
  · simp [doLaneSetEffective, h, hi]
  · simp [doLaneSetEffective, h, hi]
end

section
/-! PROOFS. What a transmitted codeword carries in its control slot (R39, R40, R45, R46). -/

namespace Sys2Proof.Machine

/-- A codeword leaves a lane with a control word of type t and body b, the lane left as x, from state u. -/
def sendCodeword (d n : Nat) (row : List Block) (t b : Nat) (x : Lane) (u : State) : State :=
  let r := slotsOf (u.setLane d n { x with txRows := x.txRows.drop 1 }) d n (ctlBlock t b) row
  let c := makeCodeword x.txScr r.1
  ((r.2.updLane d n fun y => { y with txScr := c.2, prbsOn := y.prbsOn || (t == 7 && b / 2 ^ 52 == 3) }).emit
    (.codeword d n c.1)).emit (.control d n t b)

/-- The state in which a lit lane sends its next codeword: a row is dealt where the lane holds none. -/
def dealt (s : State) (d p n : Nat) : State :=
  if (s.lane d n).txRows.isEmpty then dealRow s d p ((s.laneList d p).filter (s.laneLit d p)) else s

/-- A lane that is off, or of a lanyard port or of none, sends no codeword. -/
theorem doCodewordTransmit_of_unlit {d n : Nat} {s : State}
    (h : ∀ p, s.portOfLane d n = some p → 128 ≤ p ∨ s.laneLit d p n = false) : doCodewordTransmit d n s = s := by
  unfold doCodewordTransmit
  cases hp : s.portOfLane d n with
  | none => rfl
  | some p => exact if_pos ((h p hp).imp_right (by simp [·]))

section
variable {d n p : Nat} {s : State} (hp : s.portOfLane d n = some p) (hdata : p < 128) (hlit : s.laneLit d p n = true)
  {t b : Nat} {x : Lane}
  (hslot : nextSlot (dealt s d p n) d p n ((((dealt s d p n).lane d n).txRows.headD (0, [])).1) = (t, b, x))
include hp hdata hlit hslot

/-- A lit data lane sends the word that `nextSlot` chooses. -/
theorem doCodewordTransmit_of_word (ht : t ≠ 3) : doCodewordTransmit d n s =
    sendCodeword d n (((dealt s d p n).lane d n).txRows.headD (0, [])).2 t b x (dealt s d p n) := by
  have hsend : ¬ (128 ≤ p ∨ (!s.laneLit d p n) = true) := by simp [hlit, hdata]
  simp only [dealt] at hslot
  simp only [doCodewordTransmit, hp, if_neg hsend, hslot, if_neg ht]
  rfl

/-- A TIME word leaves stamped. -/
theorem doCodewordTransmit_of_time (ht : t = 3) : doCodewordTransmit d n s =
    sendCodeword d n (((dealt s d p n).lane d n).txRows.headD (0, [])).2 3 (stampTime (dealt s d p n) b).1 x
      (stampTime (dealt s d p n) b).2 := by
  have hsend : ¬ (128 ≤ p ∨ (!s.laneLit d p n) = true) := by simp [hlit, hdata]
  subst ht
  simp only [dealt] at hslot
  simp only [doCodewordTransmit, hp, if_neg hsend, hslot, ↓reduceIte]
  rfl
end

/-! ## The word of the control slot, by what waits -/

section
variable {s : State} {d p n idx : Nat} (hidx : idx ≠ 0)
include hidx

/-- A fault condition that has to go in this slot goes. -/
theorem nextSlot_of_fault_due (hcond : s.sendCond d p ≠ 0) (hset : (s.lane d n).setLeft = 0) (hgap : 1 ≤ (s.lane d n).gap ∨ idx = 16383) :
    nextSlot s d p n idx = (5, s.sendCond d p * 2 ^ 52, { s.lane d n with gap := 0 }) := by
  have hdue : s.sendCond d p ≠ 0 ∧ (s.lane d n).setLeft = 0 ∧ (1 ≤ (s.lane d n).gap ∨ idx = 16383) := ⟨hcond, hset, hgap⟩
  simp only [nextSlot, if_neg hidx, if_pos hdue]

/-- A fault condition goes where no word waits. -/
theorem nextSlot_of_fault (hcond : s.sendCond d p ≠ 0) (hnone : ctlChoice (s.lane d n) idx = none) :
    nextSlot s d p n idx = (5, s.sendCond d p * 2 ^ 52, { s.lane d n with gap := 0 }) := by
  simp only [nextSlot, if_neg hidx, hnone, if_pos hcond, ite_self]

/-- IDLE goes where there is no condition and no word waits. -/
theorem nextSlot_of_idle (hcond : s.sendCond d p = 0) (hnone : ctlChoice (s.lane d n) idx = none) :
    nextSlot s d p n idx = (1, 0, { s.lane d n with gap := (s.lane d n).gap + 1 }) := by
  simp [nextSlot, hidx, hcond, hnone]

/-- The waiting word of highest rank goes where no condition has to. -/
theorem nextSlot_of_waiting {c : Ctl} (hfree : s.sendCond d p = 0 ∨ (s.lane d n).setLeft ≠ 0 ∨ ((s.lane d n).gap = 0 ∧ idx ≠ 16383))
    (hc : ctlChoice (s.lane d n) idx = some c) : nextSlot s d p n idx = (c.typ, c.body, sentWord (s.lane d n) c) := by
  have : ¬ (s.sendCond d p ≠ 0 ∧ (s.lane d n).setLeft = 0 ∧ (1 ≤ (s.lane d n).gap ∨ idx = 16383)) := by
    rintro ⟨hcond, hset, hgap⟩
    rcases hfree with h | h | ⟨h, h'⟩
    · exact hcond h
    · exact h hset
    · omega
  simp only [nextSlot, if_neg hidx, if_neg this, hc]
end

end Sys2Proof.Machine

open Sys2Proof Sys2Proof.Machine

/-- Settles O14: a lit data lane sends the word that `nextSlot` chooses, by the cases of that choice. -/
theorem codewordTransmission : Obligations.CodewordTransmission := by
  refine ⟨fun d n s h => next_eq (doCodewordTransmit_of_unlit h), fun d n p s hp hdata hlit =>
    ⟨fun hidx => next_eq ?_, fun hidx hcond hset hgap => next_eq ?_, fun hidx hcond hset hnone => next_eq ?_,
      fun hidx hcond hnone => next_eq ?_, fun c hidx hfree hc ht => next_eq ?_, fun c hidx hfree hc ht => next_eq ?_⟩⟩
  · exact doCodewordTransmit_of_word hp hdata hlit (if_pos hidx) (by decide)
  · exact doCodewordTransmit_of_word hp hdata hlit (nextSlot_of_fault_due hidx hcond hset hgap) (by decide)
  · exact doCodewordTransmit_of_word hp hdata hlit (nextSlot_of_fault hidx hcond hnone) (by decide)
  · exact doCodewordTransmit_of_word hp hdata hlit (nextSlot_of_idle hidx hcond hnone) (by decide)
  · exact doCodewordTransmit_of_word hp hdata hlit (nextSlot_of_waiting hidx hfree hc) ht
  · exact doCodewordTransmit_of_time hp hdata hlit (nextSlot_of_waiting hidx hfree hc) ht
end

section
/-! PROOFS. The test strip of a lane (R79 to R85, R125). -/

namespace Sys2Proof.Machine

/-- The transmit ring of a data lane locks: nothing happens off its tone or outside a seek, else its line shows, and with both rings
locked and sought the lane goes on. -/
theorem doRingLock_tx {d n : Nat} (hn : n < 128) (tone : Nat) (s : State) :
    let s1 := (ringLocked s d n .tx (laneIndex n)).updLane d n fun x => { x with seekTx := true }
    doRingLock d n .tx tone s =
      if (s.laneState d n = lsLocking ∨ (s.lane d n).reseek = true) ∧ toneNear tone (lineTone (laneIndex n)) = true then
        (if s1.ringLock d n .tx && s1.ringLock d n .rx && ((s.lane d n).reseek || (s.lane d n).seekRx) then ringsReady s1 d n else s1)
      else s := by
  have hlane : (ringLocked s d n .tx (laneIndex n)).lane d n = s.lane d n := rfl
  simp [doRingLock, hn, hlane]

/-- A seek of the rings that fails before a re-seek began ends the strip in its step 2. -/
theorem doSeekFail_of_strip {d n : Nat} {s : State} (ring : Ring) (hn : n < 128) (hseek : (s.lane d n).reseek = false)
    (hstate : s.laneState d n = lsLocking) (hstep : (s.lane d n).step = 2) :
    doSeekFail d n ring s = rejectLane (ringParked s d n ring) d n 0x11 true none := by
  simp [doSeekFail, hn, hseek, hstate, hstep]

/-- A word of the strip that names the lane has its phase's effect. -/
theorem doStripWord_of_lane {d n p : Nat} {w : TsWord} {s : State} (hp : s.portOfLane d n = some p) (hw : w.lane.val = laneIndex n) :
    doStripWord d n w s = stripWord d n p w s := by
  simp [doStripWord, hp, hw]

/-- The fit gave a margin below the floor of its engine. -/
def Measured.fitLow (m : Measured) (s : State) (oe : Nat) : Bool :=
  match m.fit with
  | some (margin, _) => decide (margin < toSigned 16 (s.fld (R.OPT_TS_CTRL oe) F.OPT_TS_CTRL_MARGIN_MIN))
  | none => false

theorem Measured.fitLow_iff (m : Measured) (s : State) (oe : Nat) :
    m.fitLow s oe = true ↔ ∃ x q, m.fit = some (x, q) ∧ x < toSigned 16 (s.fld (R.OPT_TS_CTRL oe) F.OPT_TS_CTRL_MARGIN_MIN) := by
  unfold fitLow
  split <;> simp [*]

end Sys2Proof.Machine

open Sys2Proof Sys2Proof.Machine

/-- Settles O15: each command of the strip by the lane's state and step. -/
theorem testStrip : Obligations.TestStrip := by
  refine ⟨fun d p s hp => next_eq ?_, fun d n power tone s hn hs => next_eq ?_, fun d n power tone s hn =>
      ⟨fun hs => next_eq ?_, fun hs hok => next_eq ?_, fun hs hok => next_eq ?_⟩, ?ringLock, ?seekFail, ?word, ?prbs, ?sweep, ?measured,
      ?admission, ?timeout⟩
  · have hdata : ¬ (128 ≤ p.val ∨ (!s.portExists d.val p.val) = true) := by simp [hp]
    rw [linkStart, if_neg hdata]
    rfl
  · rw [doLaserCheck, if_pos hs, if_neg (Nat.not_lt.mpr hn)]
    rfl
  · rw [doLaserCheck, if_neg hs]
  · rw [doLaserCheck, if_pos hs, if_pos hn]
    exact if_pos hok
  · rw [doLaserCheck, if_pos hs, if_pos hn]
    exact if_neg (by simp [hok])
  case ringLock =>
    intro d n tone s hn
    have heq := doRingLock_tx (d := d.val) hn tone s
    refine ⟨fun h => next_eq ?_, fun hr hs hrx => next_eq ?_, fun hr hs htx hrx hboth => next_eq ?_⟩
    · exact heq.trans (if_neg (mt And.symm h))
    · exact heq.trans ((if_pos ⟨hs, hr⟩).trans (if_neg (by simp [hrx])))
    · exact heq.trans ((if_pos ⟨hs, hr⟩).trans (if_pos (by simp [htx, hrx, hboth])))
  case seekFail =>
    refine fun d n ring s => ⟨fun hn => next_eq (if_pos hn), fun hn hseek hstate hstep => next_eq ?_, fun hn hseek => next_eq ?_⟩
    · exact doSeekFail_of_strip ring hn hseek hstate hstep
    · exact (if_neg (Nat.not_le.mpr hn)).trans (if_pos hseek)
  case word =>
    refine fun d n w p s hp => ⟨fun hw => next_eq ?_, fun hw hph => next_eq ?_, fun hw hph => next_eq ?_,
      fun hw hph hans hfar hstep => next_eq ?_, fun hw hph => next_eq ?_, fun hw hph => next_eq ?_⟩
    · simp [doStripWord, hp, hw]
    · simp [doStripWord_of_lane hp hw, stripWord, hph]
    · simp [doStripWord_of_lane hp hw, stripWord, hph]
    · simp [doStripWord_of_lane hp hw, stripWord, hph, takeRequest, hans, hfar, hstep]
    · simp [doStripWord_of_lane hp hw, stripWord, hph]
    · simp [doStripWord_of_lane hp hw, stripWord, hph]
  case prbs =>
    refine fun d n s hin => ⟨fun hstep hpts => next_eq (if_pos ⟨hin, hstep, hpts⟩), fun hstep => next_eq (if_neg fun h => hstep h.2.1)⟩
  case sweep =>
    refine fun d n m s => ⟨fun hslew => next_eq (if_neg (by simp [hslew])), fun hin hstate hslew => next_eq ?_⟩
    rw [doSweepPoint, if_pos ⟨hin, hstate, by simp [hslew]⟩]
    cases m <;> rfl
  case measured =>
    intro d n s hin hstate hedges
    refine ⟨fun code hcode => next_eq ?_, fun hnone => next_eq ?_⟩
    · rw [doMeasureDone, if_pos ⟨hin, hstate, hedges⟩]
      simp only [hcode]
    · rw [doMeasureDone, if_pos ⟨hin, hstate, hedges⟩]
      simp only [hnone]
  case admission =>
    intro d n m s oe bad10 bad11 bad12 bad14
    have h10 : (!s.lineOk oe (laneIndex n) || !s.bit (laneStatus d n) F.LANE_STATUS_TX_TONE_OK) = true ↔ bad10 := by simp [bad10]
    have h11 : (!s.ringLock d n .tx || !s.ringLock d n .rx) = true ↔ bad11 := by simp [bad11]
    have h12 : (s.rxToneCheck d n && !s.bit (laneStatus d n) F.LANE_STATUS_RX_TONE_OK) = true ↔ bad12 := by simp [bad12]
    have h14 : (m.fitLow s oe || m.height == 0) = true ↔ bad14 := by
      simp only [bad14, ← m.fitLow_iff s oe, Bool.or_eq_true, beq_iff_eq, or_comm]
    have hfit : m.fit.isNone = true ↔ m.fit = none := Option.isNone_iff_eq_none
    have after10 {c : Option Nat} (n10 : ¬ bad10) (h : _ = c) : admission s d n m = c := (if_neg (mt h10.mp n10)).trans h
    have after11 {c : Option Nat} (n10 : ¬ bad10) (n11 : ¬ bad11) (h : _ = c) : admission s d n m = c :=
      after10 n10 ((if_neg (mt h11.mp n11)).trans h)
    have after12 {c : Option Nat} (n10 : ¬ bad10) (n11 : ¬ bad11) (n12 : ¬ bad12) (h : _ = c) : admission s d n m = c :=
      after11 n10 n11 ((if_neg (mt h12.mp n12)).trans h)
    have after14 {c : Option Nat} (n10 : ¬ bad10) (n11 : ¬ bad11) (n12 : ¬ bad12) (n14 : ¬ bad14) (h : _ = c) :
        admission s d n m = c := after12 n10 n11 n12 ((if_neg (mt h14.mp n14)).trans h)
    refine ⟨fun h => if_pos (h10.mpr h), fun n10 h => after10 n10 (if_pos (h11.mpr h)), fun n10 n11 h => after11 n10 n11 (if_pos (h12.mpr h)),
      fun n10 n11 n12 h => after12 n10 n11 n12 (if_pos (h14.mpr h)), fun n10 n11 n12 n14 h => after14 n10 n11 n12 n14 (if_pos (hfit.mpr h)),
      fun n10 n11 n12 n14 h => after14 n10 n11 n12 n14 (if_neg (mt hfit.mp h))⟩
  case timeout =>
    refine fun d n s => ⟨fun h => next_eq (if_pos h), fun hstep hslew => next_eq (if_neg ?_)⟩
    simp [hstep, hslew]
end

section
/-! PROOFS. Lanes in service, lanes held out, widths, heat and light (R76, R77, R86 to R98, R129). -/

namespace Sys2Proof.Machine

/-- The tone window of a ring of an admitted lane, by the line its tone belongs to. -/
theorem doToneWindow_tx_of_admitted {d n : Nat} {s : State} (tone : Nat) (hst : s.laneState d n = lsAdmitted)
    (hlock : s.ringLock d n .tx = true) :
    doToneWindow d n .tx tone s = match lineOfTone tone with
      | some k =>
        if k = laneIndex n then s.setF (laneStatus d n) F.LANE_STATUS_TX_TONE_OK 1 else wrongLine s d n .tx
      | none => laneDown (s.setF (laneStatus d n) F.LANE_STATUS_TX_TONE_OK 0) d n := by
  have hin : s.inMeasure d n = false := by simp [State.inMeasure, hst, lsAdmitted, lsHandshake, lsMeasure]
  simp only [doToneWindow, toneLost, hst, hlock, hin, ↓reduceIte]
  rfl

/-- A lane that is admitted goes down when its lock is lost. -/
theorem lockLost_of_admitted {d n : Nat} {s : State} (h : s.laneState d n = lsAdmitted) : lockLost s d n = laneDown s d n :=
  if_pos h

/-- A relock is tried once more while the window is open. -/
theorem relockTry_of_window {d n : Nat} {s : State} (h : (s.lane d n).window = true) :
    relockTry s d n = s.updLane d n fun l => { l with tries := l.tries + 1 } := by
  simp [relockTry, State.updLane, h]

/-- A lane that waits for a command cannot be tested without one. -/
theorem testable_of_stuck {d n : Nat} {s : State}
    (h : 3 ≤ (s.lane d n).rejRun ∨ 3 ≤ (s.lane d n).reseekFails.length) : s.testable d n false = false := by
  have : (s.lane d n).stuck.isNone = false := by
    unfold Lane.stuck
    rcases h with h | h <;> simp [h]
    split <;> rfl
  simp [State.testable, this]

end Sys2Proof.Machine

open Sys2Proof Sys2Proof.Machine

/-- Settles O16: each command of a lane in service by the lane's state. -/
theorem lanesInService : Obligations.LanesInService := by
  refine ⟨fun d n heat drift s => ?heater, fun d n tone s hst hlock => ?tone, fun d n ring s => ?lock, fun d n s hst => ?noCodeword,
    fun d n s => ?lightLoss, fun d n s => ?lightReturn, fun d n tx rx s hst hwin hlight htemp hslew => next_eq ?_, fun d n s => ?window,
    fun d n s => ?retest⟩
  case heater =>
    refine ⟨fun hlock => next_eq (if_neg (by simp [hlock])), fun hlock h => next_eq ?_, fun hlock hheat hdrift => next_eq ?_⟩
    · have : ¬ (heat.toNat = 0 ∧ drift = true) := by
        rintro ⟨h0, h1⟩
        exact h.elim (fun h => h (BitVec.eq_of_toNat_eq h0)) (by simp [h1])
      exact (if_pos hlock).trans (if_neg this)
    · exact (if_pos hlock).trans (if_pos ⟨by simp [hheat], hdrift⟩)
  case tone =>
    have heq := doToneWindow_tx_of_admitted tone hst hlock
    refine ⟨fun h => next_eq ?_, fun k h hk => next_eq ?_, fun h => next_eq ?_⟩ <;> refine heq.trans ?_ <;> simp [*]
  case lock =>
    refine ⟨fun hn hst => next_eq ?_, fun hn => ⟨next_eq ?_, next_eq ?_⟩, fun hn hst => next_eq ?_⟩
    · exact (if_pos hn).trans (lockLost_of_admitted hst)
    · exact if_neg (Nat.not_lt.mpr hn)
    · exact if_neg (Nat.not_lt.mpr hn)
    · exact (if_pos hn).trans (lockLost_of_admitted hst)
  case noCodeword =>
    exact ⟨fun h => next_eq (if_pos ⟨hst, h⟩), fun h => next_eq (if_neg (by simp [h]))⟩
  case lightLoss =>
    exact ⟨fun hn => next_eq (if_pos hn), fun hn hst => next_eq ((if_neg (Nat.not_le.mpr hn)).trans (lockLost_of_admitted hst))⟩
  case lightReturn =>
    refine ⟨fun hn => next_eq (if_pos hn), fun hn hst hwin htemp => next_eq ?_, fun hn hst hwin htemp htest => next_eq ?_,
      fun hn hst => next_eq ?_⟩
    · have hrelock := relockTry_of_window (d := d.val) (n := n.val) (s := s.updLane d.val n.val fun l => { l with light := true })
        (by simp [hwin])
      simp [doLightReturn, Nat.not_le.mpr hn, hst, hwin, htemp, hrelock]
    · simp [doLightReturn, Nat.not_le.mpr hn, hst, hwin, htemp, htest]
    · simp [doLightReturn, Nat.not_le.mpr hn, hst, lsDark, lsRelocking, linkStartLane]
  · rw [doFastRelock, if_pos ⟨hst, hwin, hlight, htemp, by simp [hslew]⟩]
  case window =>
    refine ⟨fun hwin => next_eq (if_neg (by simp [hwin])), fun hwin hst hlight => next_eq ?_, fun hwin hst hlight => next_eq ?_⟩
    · simp [doWindowExpire, hwin, hst, hlight]
    · simp [doWindowExpire, hwin, hst, hlight]
  case retest =>
    refine ⟨fun h => next_eq (if_pos h), fun h => next_eq (if_neg h), fun h => next_eq (if_neg ?_)⟩
    simp [testable_of_stuck h]

/-- Settles O17: each command by what the registers of the lane, the port and the optical engine show. -/
theorem laneControlAndHeat : Obligations.LaneControlAndHeat := by
  refine ⟨fun d n v s => ?exclude, fun d p v s => ?width, fun oe temp slope s => ?sample, fun oe s => ?slew, fun oe df lf j power tone s => ?feed⟩
  case exclude =>
    refine ⟨fun hret => next_eq ?_, fun hbit => next_eq ?_, fun hbit hret => next_eq ?_, fun hbit h => next_eq ?_⟩
    · simp [writeExclude, hret]
    · simp [writeExclude, hbit]
    · simp [writeExclude, hbit, hret]
    · cases v <;> simp_all [writeExclude]
  case width =>
    refine ⟨fun h => next_eq (if_pos h), fun hp hbad hover => next_eq ?_, fun hp hbad hover => next_eq ?_⟩
    · exact (if_neg (by simp [hp, hbad])).trans (if_pos hover)
    · exact (if_neg (by simp [hp, hbad])).trans (if_neg (by simp [hover]))
  case sample =>
    refine ⟨fun ht h => next_eq ?_, fun ht hslope hp => next_eq ?_, fun ht hslope => next_eq ?_⟩
    · simp only [doPhotonicTemp, Int.not_le.mpr ht, ↓reduceIte]
      exact if_neg (by rcases h with h | h <;> simp_all)
    · simp only [doPhotonicTemp, Int.not_le.mpr ht, ↓reduceIte]
      exact if_pos ⟨hslope, by simp [hp]⟩
    · simp only [doPhotonicTemp, ht, ↓reduceIte]
      exact if_neg (fun h => Int.not_lt.mpr hslope h.1)
  case slew =>
    refine ⟨fun h => ⟨next_eq (if_neg (by simp [h])), next_eq (if_neg (by simp [h]))⟩, fun h => next_eq (if_pos h),
      fun h hs => next_eq (if_pos ⟨h, hs⟩)⟩
  case feed =>
    refine ⟨fun h => next_eq (if_neg ?_), fun hwas hnow => next_eq (if_pos ?_)⟩
    · rcases h with h | h
      · simp [h]
      · exact fun hc => by simp_all
    · exact Bool.and_eq_true_iff.mpr ⟨hwas, by simpa using hnow⟩
end

section
/-! PROOFS. Two writes of one key of a sparse map; exchanges of TIME words and the servo (R103 to R106). -/

namespace Sys2Proof.Machine

variable {α : Type}

theorem sins_sins_same (m : SMap α) (n : Nat) (v w : α) : sins (sins m n v) n w = sins m n w := by
  induction m with
  | nil => simp [sins]
  | cons e m ih =>
    obtain ⟨k, u⟩ := e
    rcases Nat.lt_trichotomy n k with h | h | h
    · simp [sins, h]
    · simp [sins, h]
    · simp [sins, Nat.lt_asymm h, Nat.ne_of_gt h, ih]

/-- The later of two writes to a key stands, where neither writes what an unlisted key reads as. -/
theorem sput_sput_same [DecidableEq α] (m : SMap α) (n : Nat) {v w d : α} (hv : v ≠ d) (hw : w ≠ d) :
    sput (sput m n v d) n w d = sput m n w d := by
  simp [sput, hv, hw, sins_sins_same]

/-- A word other than XOFF_XON waits behind the words of its lane. -/
theorem queueCtl_of_typ_ne {c : Ctl} (h : c.typ ≠ 2) (s : State) (d n : Nat) :
    queueCtl s d n c = s.updLane d n fun l => { l with txq := l.txq ++ [c] } := by
  simp [queueCtl, h]

/-- A lane with a waiting word is not as at reset. -/
theorem txq_append_ne_init (l : Lane) (q : List Ctl) (c : Ctl) : { l with txq := q ++ [c] } ≠ Lane.init := by
  intro h
  have := congrArg Lane.txq h
  simp [Lane.init] at this

/-- Two words queued one after the other wait in their order. -/
theorem queueCtl_queueCtl {a b : Ctl} (ha : a.typ ≠ 2) (hb : b.typ ≠ 2) (s : State) (d n : Nat) :
    queueCtl (queueCtl s d n a) d n b = s.updLane d n fun l => { l with txq := l.txq ++ [a] ++ [b] } := by
  simp only [queueCtl_of_typ_ne ha, queueCtl_of_typ_ne hb, State.updLane, State.setLane, State.lane, sget_sput_same]
  rw [sput_sput_same _ _ (txq_append_ne_init _ _ _) (txq_append_ne_init _ _ _)]

/-- A word that carries the time as it is queued. -/
theorem sendTime_now (s t : State) (d p kind seq : Nat) : sendTime t d p kind seq s.stamp = queueLead t d p (ctlTime kind seq s.now s.frac) := by
  have hnow : s.stamp.ns.toNat = s.now := Nat.mod_eq_of_lt s.now_lt
  have hfrac : s.stamp.frac.toNat = s.frac := Nat.mod_eq_of_lt (Nat.mod_lt _ (by decide))
  rw [sendTime, hnow, hfrac]

theorem ctlTime_typ_ne (kind seq ns frac : Nat) : (ctlTime kind seq ns frac).typ ≠ 2 := by
  simp [ctlTime]

/-- FOLLOW carries the time of arrival and is not stamped as it leaves. -/
theorem stampTime_follow (s : State) (seq : Fin 64) :
    stampTime s (ctlTime 1 seq.val s.now s.frac).body = ((ctlTime 1 seq.val s.now s.frac).body, s) := by
  have hfrac : s.frac < 65536 := Nat.mod_lt _ (by decide)
  have hnow : s.now < 4294967296 := s.now_lt
  have hkind : (ctlTime 1 seq.val s.now s.frac).body / 2 ^ 54 % 4 = 1 := by
    simp only [ctlTime]
    omega
  exact if_pos hkind

/-- A REPLY without an exchange, without its FOLLOW, or from another port than the master ends none. -/
theorem doReply_of_incomplete {d p seq : Nat} {s : State} (t3 : Stamp)
    (h : ∀ e, s.time.exch.find? (fun e => e.seq == seq) = some e → e.t2 = none ∨ s.time.master ≠ some (d, p)) :
    doReply d p seq t3 s = s := by
  unfold doReply
  split
  · rfl
  · next e he =>
    split
    · rfl
    · next t2 ht2 => exact if_pos ((h e he).resolve_left (by simp [ht2]))

/-- A REPLY that completes an exchange of the master's port ends it: the delay is shown and the servo acts on the offset. -/
theorem doReply_of_complete {d p seq : Nat} {s : State} (t3 : Stamp) {e : Exch} {t2 : Stamp}
    (h : s.time.exch.find? (fun e => e.seq == seq) = some e) (ht2 : e.t2 = some t2) (hm : s.time.master = some (d, p)) :
      let x := exchangeOf (stampNat e.t1) (stampNat t2) (stampNat t3) (stampNat s.stamp)
        (toSigned 16 (s.fld (R.TIME_PORT_CTRL d p) F.TIME_PORT_CTRL_ASYM_PS))
      let s1 := s.updTime fun t =>
        { t with exch := t.exch.filter (·.seq != seq), discards := 0, lost := false,
                 silent := t.silent.filter (· != (d, p)) }
      let r := roundFree s1 (x.1 * 256)
      doReply d p seq t3 s = servo (r.2.wr (R.TIME_PORT_DELAY d p) (BitVec.ofInt 32 r.1)) x.2 s.intervalNs := by
  unfold doReply
  intro x s1 r
  split
  · next hnone => cases h.symm.trans hnone
  · next e' he =>
    cases h.symm.trans he
    split
    · next hnone => cases ht2.symm.trans hnone
    · next t2' ht2' =>
      cases ht2.symm.trans ht2'
      refine (if_neg (not_not.mpr hm)).trans ?_
      -- Both pairs are named before they are taken apart, so that the kernel does not evaluate the rational arithmetic.
      generalize hu : servo (r.2.wr _ _) x.2 _ = u
      dsimp -iota -proj only
      split
      next dl th hx =>
      split
      next n s2 hr =>
      have hx' : x = (dl, th) := hx
      have hr' : r = (n, s2) := by rw [← hr]; simp only [r, hx', s1]
      rw [← hu, hx', hr']

/-- The frequency stays within 200 ppm. -/
theorem limitFreq_mem (f : Int) : -219902325 ≤ limitFreq f ∧ limitFreq f ≤ 219902325 := by
  simp only [limitFreq, freqLimit]
  omega

/-- HOLDOVER_MS counts anew in the lanyard ports alone. -/
@[simp] theorem freshHoldover_time (s : State) : (freshHoldover s).time = s.time :=
  List.foldlRecOn (motive := fun t : State => t.time = s.time) (List.range 16)
    (fun t i => t.updLan (i / 2) (i % 2) fun l => { l with held := false }) rfl fun _ ih _ _ => ih

@[simp] theorem freshHoldover_regs (s : State) : (freshHoldover s).regs = s.regs :=
  List.foldlRecOn (motive := fun t : State => t.regs = s.regs) (List.range 16)
    (fun t i => t.updLan (i / 2) (i % 2) fun l => { l with held := false }) rfl fun _ ih _ _ => ih

/-- A change of the time state leaves the counter and the servo as they are, but for the time of the change. -/
theorem setTimeState_time (s : State) (st : Nat) : ∃ c, (setTimeState s st).time = { s.time with holdAt := c } := by
  unfold setTimeState
  generalize (if s.isRoot then tsLocked else st) = t
  simp only
  split
  · exact ⟨s.time.holdAt, rfl⟩
  · exact ⟨s.cycle, by rw [freshHoldover_time, State.updTime, timeEvent, setEvent_time, setF_time]⟩

@[simp] theorem setTimeState_freq (s : State) (st : Nat) : (setTimeState s st).time.f = s.time.f := by
  obtain ⟨c, hc⟩ := setTimeState_time s st
  rw [hc]

@[simp] theorem setTimeState_count (s : State) (st : Nat) : (setTimeState s st).time.count = s.time.count := by
  obtain ⟨c, hc⟩ := setTimeState_time s st
  rw [hc]

/-- Steering leaves the frequency within 200 ppm. -/
theorem steer_freq_mem (s : State) (theta T : ℚ) : -219902325 ≤ (steer s theta T).time.f ∧ (steer s theta T).time.f ≤ 219902325 := by
  unfold steer
  simp only [apply_ite State.time, apply_ite TimeUnit.f, setTimeState_freq, ite_self]
  exact limitFreq_mem _

end Sys2Proof.Machine

open Sys2Proof Sys2Proof.Machine

/-- Settles O19: each word of an exchange by the master and the exchange it belongs to. -/
theorem timeExchanges : Obligations.TimeExchanges := by
  refine ⟨fun s h => next_eq ?_, fun d p s hm hd hroot => next_eq ?_, fun d p seq t1 n s => ⟨fun h => next_eq ?_, fun h => next_eq ?_⟩,
    stampTime_follow, fun d p seq t2 s => ⟨fun h => next_eq (if_neg h), fun h => next_eq (if_pos h)⟩, fun d p seq t3 s => ?reply, fun s => ?timeout⟩
  · unfold doSyncInterval
    split
    · rfl
    · next d p hm =>
      refine if_pos (h.elim (fun h => ?_) fun h => h.imp (fun ⟨q, hq⟩ => ?_) id)
      · cases hm.symm.trans h
      · cases hm.symm.trans hq
        rfl
  · simp [doSyncInterval, hm, hd, hroot, sendTime_now]
  · simp only [sendTime_now, queueLead, h]
  · have hlead : ∀ c, (queueCtl s d.val n c).leadTx d.val p.val = some n := fun c => h
    simp only [sendTime_now, queueLead, h, hlead]
    exact queueCtl_queueCtl (ctlTime_typ_ne _ _ _ _) (ctlTime_typ_ne _ _ _ _) s d.val n
  case reply =>
    refine ⟨fun h => next_eq ?_, fun e h hno => next_eq ?_, fun e t2 h ht2 hm => next_eq ?_⟩
    · exact doReply_of_incomplete t3 fun e he => by cases h.symm.trans he
    · exact doReply_of_incomplete t3 fun e' he => by cases h.symm.trans he; exact hno
    · exact doReply_of_complete t3 h ht2 hm
  case timeout =>
    refine ⟨fun h => next_eq ?_, fun e rest h => next_eq ?_⟩
    · simp [doExchangeTimeout, h]
    · simp only [doExchangeTimeout, h]
      rfl

/-- Settles O20: the servo by whether the offset is beyond STEP_NS, and by the state and the run of discards. -/
theorem servoOnOffset : Obligations.ServoOnOffset := by
  refine ⟨fun s theta T hbig hst hcount => ?_, fun s theta T hbig h => ?_, fun s theta T hsmall => ?_, fun s theta => ?_⟩
  · rw [servo, if_pos hbig, if_neg (by simp [hst, hcount])]
    rfl
  · rw [servo, if_pos hbig, if_pos (h.imp_right (by simp [·]))]
  · have heq : servo s theta T = steer (showTheta s theta) theta T := if_neg (not_lt.mpr hsmall)
    exact ⟨heq, heq ▸ steer_freq_mem _ theta T⟩
  · exact setTimeState_count _ tsAcquiring
end

section
/-! PROOFS. Masters, the wrap of fabric time, and the reference inputs (R100, R105 to R108). -/

namespace Sys2Proof.Machine

/-- A change of the time state leaves the counter. -/
@[simp] theorem setTimeState_fab (s : State) (st : Nat) : (setTimeState s st).time.fab = s.time.fab := by
  obtain ⟨c, hc⟩ := setTimeState_time s st
  rw [hc]

@[simp] theorem setTimeState_ppsLoad (s : State) (st : Nat) : (setTimeState s st).time.ppsLoad = s.time.ppsLoad := by
  obtain ⟨c, hc⟩ := setTimeState_time s st
  rw [hc]

/-- A root reads LOCKED after every change of the time state. -/
theorem setTimeState_of_root {s : State} (st : Nat) (h : s.isRoot = true) : (setTimeState s st).timeState = tsLocked := by
  have hstate (t : State) : t.timeState = F.TIME_STATUS_STATE.get (sget t.regs R.TIME_STATUS.addr R.TIME_STATUS.reset) := rfl
  unfold setTimeState
  simp only [h, ↓reduceIte]
  split
  · assumption
  · simp only [hstate, freshHoldover_regs, State.updTime, timeEvent, setEvent_regs]
    have hne := fld_setF_ne (s.setF R.TIME_STATUS F.TIME_STATUS_STATE tsLocked) R.TIME_STATUS F.TIME_STATUS_STATE
      F.TIME_STATUS_STATE_EVENT 1 (by decide) (by decide)
    exact hne.trans (fld_setF_same s R.TIME_STATUS F.TIME_STATUS_STATE tsLocked (by decide) (by decide))

/-- From its last value the counter passes to 0 and the wrap count moves on by one. -/
theorem wrap_fab (fab : Nat) : (((fab : Int) + ((wrapUnits - fab % wrapUnits : Nat) : Int)) % ((2 ^ 120 : Nat) : Int)).toNat =
    (fab / 2 ^ 88 + 1) % 2 ^ 32 * 2 ^ 88 := by
  simp only [wrapUnits]
  omega

/-- The counter at its last value passes zero, which sets WRAP_EVENT. -/
theorem doWrap_of_last {s : State} (h : s.now = 2 ^ 32 - 1) : doWrap s =
    timeEvent (s.updTime fun t => { t with fab := (s.time.fab / 2 ^ 88 + 1) % 2 ^ 32 * 2 ^ 88 }) F.TIME_STATUS_WRAP_EVENT := by
  have hcross : (0 : Int) < ((wrapUnits - s.time.fab % wrapUnits : Nat) : Int) ∧ ((s.time.fab / wrapUnits : Nat) : Int) <
      ((s.time.fab : Int) + ((wrapUnits - s.time.fab % wrapUnits : Nat) : Int)) / (wrapUnits : Int) := by
    simp only [wrapUnits]
    omega
  rw [doWrap, if_pos h, moveTime, if_pos hcross, wrap_fab]

/-- Setting an event of TIME_STATUS makes its bit read 1. -/
theorem timeEvent_bit (s : State) {f : Fld} (hl : f.lo = f.hi) (hh : f.hi < 32) : (timeEvent s f).bit R.TIME_STATUS f = true := by
  have hrd : (timeEvent s f).fld R.TIME_STATUS f = (s.setBit R.TIME_STATUS f).fld R.TIME_STATUS f := by
    simp only [State.fld, State.rd, timeEvent, setEvent_regs]
  rw [State.bit, hrd, State.setBit, fld_setF_same _ _ _ _ hl.le hh, hl, Nat.add_sub_cancel_left]
  rfl

/-- The edge that sets fabric time puts the loaded value in place of the nanoseconds, with the fraction 0. -/
theorem ppsSet_fab (s : State) : (ppsSet s).time.fab = s.time.fab / wrapUnits * wrapUnits + (s.rd R.TIME_PPS_LOAD).toNat * 2 ^ 56 := by
  rw [ppsSet, setTimeState_fab, timeEvent, setEvent_time]
  rfl

/-- An edge more than 1 ms from the expected one is ignored. -/
theorem ppsExpected_of_far {s : State} {e : Nat} (h : 65536000000 < |stampDiff (stampNat s.stamp) e|) : ppsExpected s e = s := by
  have hfar : (1000000 * 65536 : Int) < |stampDiff (stampNat s.stamp) e| := by
    norm_num
    exact h
  exact if_pos hfar

theorem ppsSet_ppsLoad (s : State) : (ppsSet s).time.ppsLoad = false := by
  rw [ppsSet, setTimeState_ppsLoad, timeEvent, setEvent_time]
  rfl

end Sys2Proof.Machine

open Sys2Proof Sys2Proof.Machine

/-- Settles O21: the masters by what is lost and what is best; the wrap and the edges by the counter's units. -/
theorem mastersAndReferenceEdges : Obligations.MastersAndReferenceEdges := by
  refine ⟨fun s => ?loss, fun src s => ?qualify, fun d p v s => ?prio, fun v s => rfl, fun m s hm hp => ?_, fun s h => next_eq (if_neg h),
    fun s h hw => ?wrap, fun s st h _ => setTimeState_of_root st h, fun v s => rfl, fun s h => next_eq (if_pos (by simp [h])),
    fun s hen hload hfab => ?set, fun s hen hload => ?edge, fun s => ?ppsLoss, fun s => ?out⟩
  case loss =>
    refine ⟨fun h => next_eq (if_pos (h.imp_left (by simp [·]))), fun m hm hl => next_eq (if_neg (by simp [hm, hl])),
      fun h => next_eq (if_neg (by simp [h])), fun h => next_eq (if_pos h)⟩
  case qualify =>
    refine ⟨fun hup hhigher hbest => next_eq ?_, fun hup => next_eq ?_⟩
    · unfold doQualify
      cases hm : s.time.master with
      | none => simp [hup, hbest]
      | some x => simp [hup, hbest, hhigher x hm]
    · simp [doQualify, hup]
  case prio =>
    refine ⟨fun hbest hl => ?_, fun h => ?_⟩
    · exact next_eq (if_pos ⟨hbest, congrArg not hl⟩)
    · refine next_eq (if_neg fun hk => ?_)
      obtain ⟨hbest, hl⟩ := hk
      exact h.elim (· hbest) fun hlost => Bool.noConfusion (hl.symm.trans (congrArg not hlost))
  · simp [State.srcUp, hm, hp]
  case wrap =>
    refine ⟨_, next_eq (doWrap_of_last h), ?_, ?_, ?_, timeEvent_bit _ rfl (by decide)⟩
    · simp only [State.now, timeEvent, setEvent_time, State.updTime]
      omega
    · simp only [State.frac, timeEvent, setEvent_time, State.updTime]
      omega
    · simp only [State.wraps, timeEvent, setEvent_time, State.updTime] at *
      omega
  case set =>
    have hv := (s.rd R.TIME_PPS_LOAD).isLt
    refine ⟨ppsSet s, next_eq ?_, ?_, ?_, ?_, ppsSet_ppsLoad s⟩
    · simp [doPpsEdge, hen, hload]
    · rw [State.now, ppsSet_fab, wrapUnits]
      omega
    · rw [State.frac, ppsSet_fab, wrapUnits]
      omega
    · rw [State.wraps, ppsSet_fab, wrapUnits, State.wraps]
      omega
  case edge =>
    refine ⟨fun h => next_eq ?_, fun e h hfar => next_eq ?_⟩
    · simp [doPpsEdge, hen, hload, h, secondUnits]
    · simp [doPpsEdge, hen, hload, h, ppsExpected_of_far hfar]
  case ppsLoss =>
    refine ⟨fun h => next_eq ?_, fun e h hnear => next_eq ?_, fun e h hfar => next_eq ?_⟩
    · simp [doPpsLoss, h]
    · simp only [doPpsLoss, h]
      exact if_pos hnear
    · simp only [doPpsLoss, h]
      exact if_neg (Int.not_lt.mpr hfar)
  case out =>
    refine ⟨fun hen hlo hhi => ⟨fun hheld => next_eq ?_, fun hheld => next_eq ?_⟩, fun h => next_eq (if_pos ?_)⟩
    · rw [doPpsOutEdge, if_neg (by simp [hen, hlo, hhi])]
      exact if_neg (by simpa using hheld)
    · rw [doPpsOutEdge, if_neg (by simp [hen, hlo, hhi])]
      exact if_pos hheld
    · simpa [or_assoc] using h
end

section
/-! PROOFS. Lanyards: slots, bursts, verification and discovery (R118 to R135). -/

namespace Sys2Proof.Machine

/-- One lane at a slot boundary, by whether its entry transmits and everything allows it. -/
theorem slotLane_eq (d lp n ok lane : Nat) (s : State) : slotLane d lp n ok s lane =
    if entryTx (s.rotaEntry d lp lane n) = false then s
    else if s.lanMayTransmit d lp = true ∧ ok.testBit lane = true ∧ s.lanLaneOk d lp lane = true then
      sendBurst d lp n lane (entryTxColour (s.rotaEntry d lp lane n)) s
    else s.lanCount d lp 1 := by
  simp [slotLane, and_assoc]

/-- A lane takes nothing in a slot without a peer's colour, while the rota stands, and where it cannot receive. -/
theorem burstAt_of_deaf {d lp lane : Nat} {b : BurstRx} {s : State} {rx : RxSlot}
    (h : s.rotaRuns d lp = false ∨ s.lanRxOk d lp lane = false ∨ entryRx (rx.entries.getD lane 0) = false ∨
      s.peerHeard d lp lane (entryRxColour (rx.entries.getD lane 0)) = none) : burstAt d lp lane b s (some rx) = s := by
  unfold burstAt
  simp only
  split
  · rfl
  · next peer hpeer =>
    refine if_pos ?_
    rcases h with h | h | h | h
    · rw [h, Bool.not_false, Bool.true_or, Bool.true_or]
    · rw [h, Bool.not_false, Bool.or_true]
    · rw [h, Bool.not_false, Bool.or_true, Bool.true_or]
    · cases h.symm.trans hpeer

/-- A burst outside a slot, or at a lane that is deaf, is not taken. -/
theorem doBurst_of_deaf {d lp lane : Nat} {b : BurstRx} {s : State}
    (h : s.rxSlot d lp (burstTime s b) = none ∨ s.rotaRuns d lp = false ∨ s.lanRxOk d lp lane = false) : doBurst d lp lane b s = s := by
  unfold doBurst
  cases hslot : s.rxSlot d lp (burstTime s b) with
  | none => rfl
  | some rx => exact burstAt_of_deaf ((h.resolve_left (by simp [hslot])).imp_right .inl)

/-- What a burst counts before it is taken: another source, colour or slot, and a first bit out of time. -/
def countBurst (d lp : Nat) (s : State) (rx : RxSlot) (src : Word) (colour : Fin 32) (slot : Fin 1024) (first : BitVec 32)
    (addr : Word) (x : Nat) : State :=
  let s1 := if src = addr then s else s.lanCount d lp 6
  let s2 := if colour.val = x then s1 else s1.lanCount d lp 7
  let s3 := if slot.val = rx.index then s2 else s2.lanCount d lp 8
  if rx.inTime first.toNat then s3 else s3.lanCount d lp 10

section
variable {d lp lane peer : Nat} {s : State} {rx : RxSlot} (hruns : s.rotaRuns d lp = true) (hlane : s.lanRxOk d lp lane = true)
  (hentry : entryRx (rx.entries.getD lane 0) = true)
  (hpeer : s.peerHeard d lp lane (entryRxColour (rx.entries.getD lane 0)) = some peer)
include hruns hlane hentry hpeer

/-- Without a burst, or with a bad LANYARD_ID, the lane and colour have failed once more. -/
theorem burstAt_of_unread {b : BurstRx} (h : b = .silent ∨ b = .badId) : burstAt d lp lane b s (some rx) =
    burstFailed d lp lane (entryRxColour (rx.entries.getD lane 0)) (s.lanCount d lp 5) := by
  rcases h with rfl | rfl <;> simp [burstAt, hruns, hlane, hentry, hpeer, -List.getD_eq_getElem?_getD]

/-- A burst that can be read fails where its source, colour or slot is wrong, else its mask and frames are taken. -/
theorem burstAt_burst (src : Word) (colour : Fin 32) (slot : Fin 1024) (first : BitVec 32) (mask : Option Byte)
    (frames : List (Frame × Bool)) :
    let x := entryRxColour (rx.entries.getD lane 0)
    let addr := s.rd (R.LANYARD_PEER_ADDR d (128 + lp) peer)
    let s4 := countBurst d lp s rx src colour slot first addr x
    let s5 := (s4.updLan d lp fun l => { l with failed := sput l.failed (lane * 32 + x) 0 0 }).lanCount d lp 4
    burstAt d lp lane (.burst src colour slot first mask frames) s (some rx) =
      if src ≠ addr ∨ colour.val ≠ x ∨ slot.val ≠ rx.index then burstFailed d lp lane x s4
      else frames.foldl (burstFrame d lp peer)
        (mask.elim s5 fun m => s5.updLan d lp fun l => { l with xoff := sput l.xoff peer m.toNat 0 }) := by
  cases mask <;> simp [burstAt, countBurst, hruns, hlane, hentry, hpeer, or_assoc, -List.getD_eq_getElem?_getD]
end

/-- The timing margin as a bound on the signed distance from the expected time. -/
theorem RxSlot.inTime_iff (rx : RxSlot) (first : Nat) : rx.inTime first = true ↔ 2 * |sincens first rx.due| ≤ (rx.guard : Int) - 60 := by
  rw [RxSlot.inTime, decide_eq_true_iff, Int.abs_eq_natAbs]
  omega

/-- Sweep 2 records nothing where sweep 1 heard nothing. -/
theorem recordHeard_of_unheard {d lp lane colour : Nat} {s : State} (t : Nat) (o : DiscoveryObs) (h : s.heardOn d lp lane colour = none) :
    recordHeard d lp lane t colour true o s = s := by
  unfold recordHeard
  simp only [h]
  split <;> rfl

/-- A slot of discovery has its effect while the strip runs, the lane has come through the steps before it, and the slot is open. -/
theorem doDiscovery_eq (d lp t lane : Nat) (second : Bool) (o : DiscoveryObs) (s : State) :
    let n := 128 + lp * 8 + lane
    let colour := (t + 4 * lane) % 32
    let s1 := sendDiscovery d lp lane t colour second (s.setLaneState d n lsMeasure)
    let s2 := recordHeard d lp lane t colour second o s1
    doDiscovery d lp second t lane o s =
      if (s.lan d lp).strip = true ∧ (s.laneState d n = lsLocking ∨ s.laneState d n = lsMeasure) ∧ s.discoveryOpen d lp second t = true then
        (if s.bit (laneStatus d n) F.LANE_STATUS_RX_LOCK = true then (if second then takeReports d lp t colour o s2 else s2) else s1)
      else s := by
  unfold doDiscovery lanyardLane
  dsimp only
  rw [← ite_not]
  refine ite_congr (by simp [or_iff_not_imp_left]) (fun _ => ?_) (fun _ => rfl)
  rw [← ite_not]
  exact ite_congr (by simp) (fun _ => rfl) (fun _ => rfl)

end Sys2Proof.Machine

open Sys2Proof Sys2Proof.Machine

/-- Settles O22: the slot that is due, or none; each lane by `slotLane_eq`. -/
theorem lanyardSlots : Obligations.LanyardSlots := by
  refine ⟨fun d lp s => ⟨fun h => next_eq ?_, fun n h => next_eq ?_⟩,
    fun d lp s => ⟨fun h => next_eq ?_, fun n h => ⟨fun hruns => next_eq ?_, fun hruns => next_eq ?_⟩⟩,
    fun d lp n ok lane s => ⟨fun he => ?_, fun he hmay hok hlane => ?_, fun he hno => ?_⟩,
    fun d lp s => ⟨fun hst hlast => next_eq ?_, fun h => next_eq ?_⟩,
    fun d lp q s => ⟨fun h => next_eq ?_, fun id c rest h => ⟨fun hlt => next_eq ?_, fun hle => next_eq ?_⟩⟩⟩
  · rw [doSlotCheck, h]
    rfl
  · rw [doSlotCheck, h]
    rfl
  · rw [doSlotBoundary, h]
    rfl
  · rw [doSlotBoundary, h]
    exact if_neg (by simp [hruns])
  · rw [doSlotBoundary, h]
    exact if_pos hruns
  · simp [slotLane_eq, he]
  · simp [slotLane_eq, he, hmay, hok, hlane]
  · rw [slotLane_eq, if_neg (by simp [he]), if_neg]
    rintro ⟨hmay, hok, hlane⟩
    simp_all
  · exact if_pos ⟨hst, decide_eq_true hlast⟩
  · refine if_neg ?_
    rintro ⟨hst, hlast⟩
    exact h.elim (· hst) (Nat.not_lt.mpr (of_decide_eq_true hlast))
  · simp [doWaitExpire, h]
  · simp only [doWaitExpire, h]
    exact if_neg (Nat.not_le.mpr hlt)
  · simp only [doWaitExpire, h]
    exact if_pos hle

/-- Settles O23: a burst by its slot, whether the lane listens, and what of the burst is wrong. -/
theorem lanyardBursts : Obligations.LanyardBursts := by
  refine ⟨fun d lp lane b s h => next_eq (doBurst_of_deaf h), fun d lp lane b rx s hslot =>
    ⟨fun h => next_eq ?_, fun peer hruns hlane hentry hpeer => ⟨fun h => next_eq ?_, fun src colour slot first mask frames hb =>
      ⟨fun hbad => next_eq ?_, fun hsrc hcol hidx => next_eq ?_⟩⟩⟩, RxSlot.inTime_iff⟩
  all_goals rw [doBurst, hslot]
  · exact burstAt_of_deaf (.inr (.inr h))
  · exact burstAt_of_unread hruns hlane hentry hpeer h
  · rw [hb, burstAt_burst hruns hlane hentry hpeer, if_pos hbad]
    rfl
  · rw [hb, burstAt_burst hruns hlane hentry hpeer, if_neg (by simp [hsrc, hcol, hidx])]
    rfl

/-- Settles O24: a tone by whether it is the colour's and a re-seek runs; a re-seek by its outcome. -/
theorem lanyardVerification : Obligations.LanyardVerification := by
  refine ⟨fun d lp lane ring colour tone s => ⟨fun hrem hstrip => next_eq ?_, fun hrem htone hseek => next_eq ?_,
      fun hrem htone => next_eq ?_⟩,
    fun d lp lane ring colour ok s => ⟨fun h => next_eq (if_pos (.inl h)), fun hseek hrem => next_eq ?_, fun hseek hrem => next_eq ?_⟩⟩
  · exact if_pos ⟨hrem, by simp [hstrip]⟩
  · rw [doToneDecision, if_neg (by simp [hrem]), if_pos htone]
    exact if_neg (by rw [reseekKey, hseek]; decide)
  · rw [doToneDecision, if_neg (by simp [hrem]), if_neg (by simp [htone])]
    rfl
  · exact if_neg (not_or.mpr ⟨hseek, by simp [hrem]⟩)
  · refine (if_neg (not_or.mpr ⟨hseek, by simp [hrem]⟩)).trans ?_
    simp only [Bool.false_eq_true, ↓reduceIte, reseekFailed, secondCycles, lanyardLane]
    rfl

/-- Settles O25: the strip by its arming, its start, its slots and its end. -/
theorem lanyardDiscovery : Obligations.LanyardDiscovery := by
  refine ⟨fun _ _ _ _ _ _ => rfl, fun _ _ _ => rfl, fun d lp s => ⟨fun h => next_eq ?_, fun harm hdue hstrip => next_eq ?_⟩,
    fun d lp second t lane o s => ⟨fun h => next_eq ?_, fun hstrip hready hdue => ⟨fun hlock => next_eq ?_, fun hlock => next_eq ?_⟩⟩,
    fun d lp lane t colour o s h => recordHeard_of_unheard t o h, fun d lp s hstrip hend => next_eq ?_⟩
  · refine if_neg ?_
    rcases h with h | h | h <;> simp [h]
  · exact if_pos (by simp [harm, hdue, hstrip])
  · refine (doDiscovery_eq ..).trans (if_neg fun ⟨hstrip, hready, hopen⟩ => ?_)
    exact h.elim (by simp [hstrip]) fun h => h.elim (· hready) (by simp [hopen])
  · exact (doDiscovery_eq ..).trans ((if_pos ⟨hstrip, hready, hdue⟩).trans (if_neg (by simp [hlock])))
  · exact (doDiscovery_eq ..).trans ((if_pos ⟨hstrip, hready, hdue⟩).trans (if_pos hlock))
  · exact if_pos (by simp [hstrip, hend])
end

section
/-! PROOFS. The lookup of a frame (R141 to R162, Table 13.11). -/

namespace Sys2Proof.Machine

/-- A pipe that takes a frame of a backlog looks it up and serves that backlog's ports. -/
theorem lookupFrom_of_next {d ll b id : Nat} {s : State} (h : nextOfBacklog s d b = some id) :
    lookupFrom d ll b s = flowPipe (pullOriginated
      (lookupFrame (s.setBacklog d b ((s.backlog d b).filter (· != id))) d ll id) d b) d b := by
  rw [lookupFrom, h]

/-- A pipe whose backlog holds none takes an originated frame. -/
theorem lookupFrom_of_none {d ll b : Nat} {s : State} (h : nextOfBacklog s d b = none) :
    lookupFrom d ll b s = flowPipe (pullOriginated s d b) d b := by
  rw [lookupFrom, h]

end Sys2Proof.Machine

open Sys2Proof Sys2Proof.Machine

/-- Settles O26: a slot of a pipe by whose backlog it serves, and a lookup by the first check that ends it. -/
theorem frameLookup : Obligations.FrameLookup := by
  refine ⟨fun d ll s => ⟨fun h => next_eq (if_pos h), fun hout hnext hpair => next_eq ?_, fun id hout hnext => next_eq ?_,
      fun id hout hnext hpair hother => next_eq ?_⟩,
    fun d ll id s => ⟨fun h => if_pos h, fun hin h => ?_, fun hin hf hmiss => ?_, fun r src hin hf hhit hsrc => ?_⟩⟩
  · rw [doFrameLookup, if_neg (by simp [hout]), if_neg (by simp [hpair]), lookupFrom_of_none hnext]
  · rw [doFrameLookup, if_neg (by simp [hout]), if_neg (by simp [hnext]), lookupFrom_of_next hnext]
  · rw [doFrameLookup, if_neg (by simp [hout]), if_pos (by simp [hnext, hpair]), lookupFrom_of_next hother]
  · exact (if_neg (by simp [hin])).trans (if_pos h)
  · rw [lookupFrame, if_neg (by simp [hin]), if_neg (by simp [hf])]
    dsimp only
    generalize resolve _ _ _ _ _ = found at hmiss ⊢
    obtain ⟨o, s3⟩ := found
    obtain rfl : o = none := hmiss
    rfl
  · rw [lookupFrame, if_neg (by simp [hin]), if_neg (by simp [hf])]
    dsimp only
    generalize resolve _ _ _ _ _ = found at hhit ⊢
    obtain ⟨o, s3⟩ := found
    obtain rfl : o = some (r, src) := hhit
    exact if_neg hsrc
end

section
/-! PROOFS. The tables: transactions, operations, learning, scrubbing and fences (R150 to R171). -/

namespace Sys2Proof.Machine

/-! ## The states of the transaction (R165 to R169) -/

/-- An operation of the owner of an open transaction. -/
theorem ownsOpen_iff {s : State} {owner : Nat} : s.ownsOpen owner = true ↔ s.txn = txOpen ∧ s.tabs.owner = owner := by
  simp [State.ownsOpen]

theorem ownsOpen_eq_false {s : State} {owner : Nat} (h : ¬ (s.txn = txOpen ∧ s.tabs.owner = owner)) : s.ownsOpen owner = false :=
  Bool.eq_false_iff.mpr (mt ownsOpen_iff.mp h)

/-- Only BEGIN waits and only an open or pending transaction ends by its owner's ABORT; any other is late or refused. -/
theorem doAbort_of_other {owner : Nat} {s : State} (hw : s.txn ≠ txBeginWait) (ho : s.tabs.owner ≠ owner) :
    doAbort owner s = txnRefuse s := by
  simp [doAbort, hw, ho]

/-- While a copy between the slots runs, its end closes a catch-up, and opens a BEGIN that waits. -/
theorem doCatchupDone_of_copying {s : State} (hc : s.tabs.copying = true) (ht : s.txn = txCatchup ∨ s.txn = txBeginWait) :
    doCatchupDone s =
      let s1 := endTxn (copyJournal s) stCompleted
      if s.txn = txCatchup then s1.setTxn txIdle
      else if s.tabs.transit then s1
      else openTxn s1 (s1.fld (R.TXN_CTRL 0) F.TXN_CTRL_OWNER) :=
  if_pos (by simpa [hc] using ht)

/-! ## Table operations (R170) -/

/-- WRITE, INSERT and DELETE run only in OPEN, from the owner, and in no transit-preserving reset. -/
theorem tblGuard_of_refused {owner : Nat} {s t : State}
    (h : ¬ (s.txn = txOpen ∧ s.tabs.owner = owner ∧ s.tabs.transit = false)) : tblGuard owner s t = txnRefuse s :=
  if_neg (by simp only [State.ownsOpen, State.stageOk, Bool.and_eq_true, beq_iff_eq, Bool.not_eq_true']; tauto)

theorem tblGuard_of_taken {owner : Nat} {s t : State} (hopen : s.txn = txOpen) (hown : s.tabs.owner = owner)
    (ht : s.tabs.transit = false) : tblGuard owner s t = t :=
  if_pos (by simp [State.ownsOpen, State.stageOk, hopen, hown, ht])

/-- A slot put into the tables reads back, and leaves the other slot. -/
theorem slot_setSlot_same (t : Tables) (g : Nat) (m : SMap (List Nat)) : (t.setSlot g m).slot g = m := by
  unfold Tables.slot Tables.setSlot
  split <;> rfl

theorem slot_setSlot_next (t : Tables) (g : Nat) (m : SMap (List Nat)) : (t.setSlot (g + 1) m).slot g = t.slot g := by
  unfold Tables.slot Tables.setSlot
  obtain h | h := Nat.mod_two_eq_zero_or_one g
  · simp [h, Nat.add_mod]
  · simp [h, Nat.add_mod]

/-- An entry put into a slot reads back there, and leaves the other slot. -/
theorem entry_putEntry_same (s : State) (g loc : Nat) (e : List Nat) (he : e.any (· != 0) = true) :
    (s.putEntry g loc e).entry g loc = e := by
  have : ¬ e.all (· == 0) = true := by simpa [List.any_eq_true] using he
  simp [State.putEntry, State.entry, slot_setSlot_same, sget_sput_same, this]

theorem entry_putEntry_staged (s : State) (loc a : Nat) (e : List Nat) :
    (s.putEntry s.staged loc e).entry s.genBit a = s.entry s.genBit a := by
  simp only [State.putEntry, State.entry, State.staged, slot_setSlot_next]

/-- A write of a staged register that stands in the tables alone is a write of that register. -/
theorem stagedWrite_of_plain {a : Nat} {v : Word} {s : State} {row : RegRow} {idx : List Nat}
    (hfind : findReg (canonAddr a) = some (row, idx))
    (hreg : row.reg = .NATIVE_BLOCK ∨ row.reg = .PARTITION_FLOOD ∨ row.reg = .LEARN_RANGE_ADDR ∨ row.reg = .LANYARD_ROTA_STAGE) :
    stagedWrite a v s = stageOne row (canonAddr a) idx v s := by
  rw [stagedWrite, hfind]
  dsimp only
  rcases hreg with h | h | h | h <;> rw [h]

end Sys2Proof.Machine

open Sys2Proof Sys2Proof.Machine

/-- Settles O27: each command of the transaction by the state and the owner it meets. -/
theorem tableTransactions : Obligations.TableTransactions := by
  refine ⟨fun o s => ⟨fun h ht => next_eq (if_pos ⟨h, by simp [ht]⟩), fun h => next_eq ?wait, fun hi hc => next_eq ?busy⟩,
    fun o s h => ⟨next_eq (if_pos ?_), next_eq (if_pos ?_)⟩,
    fun o s hopen hown => ⟨fun h => next_eq ?_, fun h => next_eq ?_, fun h => next_eq ?_, fun h1 h2 => next_eq ?_⟩,
    fun o s => ⟨fun h hown => next_eq ?end_, fun h hown => next_eq ?late, fun hw ho => next_eq (doAbort_of_other hw ho)⟩,
    fun s => ⟨fun h => next_eq (if_neg ?_), fun h ht => next_eq (if_pos ⟨h, ht⟩)⟩,
    fun s => ⟨fun h => next_eq (if_neg (by simp [h])), fun hc h => next_eq ?_, fun hc h ht => next_eq ?_,
      fun h => next_eq (if_neg h), fun h => next_eq (if_pos h)⟩⟩
  case wait =>
    refine (if_neg ?_).trans (if_pos (h.symm.imp And.left id))
    rcases h with h | ⟨-, h⟩
    · simp [h, txCatchup, txIdle]
    · simp [h]
  case busy => exact (if_neg (hi ·.1)).trans (if_neg (not_or.mpr ⟨hi, hc⟩))
  case end_ =>
    refine (if_neg ?_).trans (if_pos ⟨h, by simp [hown]⟩)
    rcases h with h | h <;> simp [h, txOpen, txPending, txBeginWait]
  case late => simp [doAbort, h, hown, txCatchup, txBeginWait, txOpen, txPending]
  · simp [ownsOpen_eq_false h]
  · simp [ownsOpen_eq_false h]
  · exact (if_neg (by simp [ownsOpen_iff, hopen, hown])).trans (if_pos h)
  · exact (if_neg (by simp [ownsOpen_iff, hopen, hown])).trans (if_neg (by simp [h]))
  · exact (if_neg (by simp [ownsOpen_iff, hopen, hown])).trans (if_pos h)
  · exact (if_neg (by simp [ownsOpen_iff, hopen, hown])).trans (if_neg (by omega))
  · rintro ⟨h1, h2⟩
    exact h.elim (· h1) (by simp [h2])
  · exact (doCatchupDone_of_copying hc (.inl h)).trans (if_pos h)
  · exact (doCatchupDone_of_copying hc (.inr h)).trans ((if_neg (by simp [h, txCatchup, txBeginWait])).trans (if_neg (by simp [ht])))

/-- Settles O28: each operation by its guard, its table and its key. -/
theorem tableOperations : Obligations.TableOperations := by
  refine ⟨fun o t s h => ⟨next_eq (tblGuard_of_refused h), next_eq (tblGuard_of_refused h), next_eq (tblGuard_of_refused h)⟩,
    fun o t s hopen hown ht => ⟨fun h => next_eq ?_, fun h2 hi => ⟨fun u hu => next_eq ?_, fun hu => next_eq ?_⟩, fun h => next_eq ?_,
      fun h0 hk hk' => ⟨fun h => next_eq ?_, fun u hok hu => next_eq ?_⟩, fun h => next_eq ?_, fun k u h0 hk hu => next_eq ?_⟩,
    fun l e s he => ⟨entry_putEntry_same s _ l e he, fun a => entry_putEntry_staged s l a e⟩,
    fun o t s h0 hi => ⟨next_eq ?_, next_eq ?_⟩, fun o t s h0 hi => ⟨next_eq ?_, next_eq ?_⟩,
    fun a v s row idx hfind hreg => ⟨fun h => next_eq ?_, fun h hr => next_eq ?_, fun h hopen ht => next_eq ?_⟩⟩
  · exact (tblGuard_of_taken hopen hown ht).trans (if_pos h)
  · refine (tblGuard_of_taken hopen hown ht).trans ?_
    refine (if_neg (by omega)).trans ?_
    dsimp only
    rw [hu]
  · refine (tblGuard_of_taken hopen hown ht).trans ?_
    refine (if_neg (by omega)).trans ?_
    dsimp only
    rw [hu]
  · exact (tblGuard_of_taken hopen hown ht).trans (if_pos h)
  · refine (tblGuard_of_taken hopen hown ht).trans ?_
    exact (if_neg (by simp [h0, hk, hk'])).trans (if_pos (by simp [h]))
  · refine (tblGuard_of_taken hopen hown ht).trans ?_
    refine (if_neg (by simp [h0, hk, hk'])).trans ((if_neg (by simp [hok])).trans ?_)
    rw [hu]
  · refine (tblGuard_of_taken hopen hown ht).trans ?_
    rw [tblDelete]
    split
    · rfl
    · exact if_pos (h.resolve_right (by simp [*]))
  · refine (tblGuard_of_taken hopen hown ht).trans ?_
    rw [tblDelete, hk]
    refine (if_neg (by simp [h0])).trans ?_
    rw [hu]
  · exact (if_neg h0).trans (if_neg (by omega))
  · exact (if_neg h0).trans (if_neg (by omega))
  · exact (if_neg h0).trans (if_pos hi)
  · exact (if_neg h0).trans (if_pos hi)
  · exact (stagedWrite_of_plain hfind hreg).trans (if_pos h)
  · refine (stagedWrite_of_plain hfind hreg).trans ((if_neg (by simp [h])).trans (if_neg ?_))
    rcases hr with hr | hr <;> simp [State.stageOk, hr]
  · refine (stagedWrite_of_plain hfind hreg).trans ((if_neg (by simp [h])).trans (if_pos ?_))
    simp [State.stageOk, hopen, ht]

/-- Settles O29: a request by the entry it meets, an entry by its mark, a copy by the dies that run. -/
theorem learnScrubFence : Obligations.LearnScrubFence := by
  refine ⟨fun s h => next_eq ?_, fun q rest s hq ht => ⟨fun h => next_eq ?_, fun l h hr => next_eq ?_, fun l h hr => next_eq ?_⟩,
    fun d g t i bad s => ⟨fun h => next_eq (if_pos h), fun hi h => next_eq ?_, fun hg ht hi => next_eq ?_, fun h => if_pos (by simp [h])⟩,
    fun d s => ⟨fun h => next_eq (if_pos ?_), fun h => next_eq (if_neg ?_)⟩, fun _ _ _ => rfl⟩
  · rw [doLearnInsert]
    split
    · rfl
    · exact if_pos (h.resolve_left (by simp [*]))
  · rw [doLearnInsert, hq]
    refine (if_neg (by simp [ht])).trans ?_
    rw [h]
  · rw [doLearnInsert, hq]
    refine (if_neg (by simp [ht])).trans ?_
    rw [h]
    exact if_pos hr
  · rw [doLearnInsert, hq]
    refine (if_neg (by simp [ht])).trans ?_
    rw [h]
    exact if_neg (by simp [hr])
  · exact (if_neg (by omega)).trans (if_neg h)
  · exact (if_neg (by simp [ht, hi, tblSize])).trans (if_pos ⟨hg, ht, hi⟩)
  · simpa [and_assoc] using h
  · simpa [and_assoc] using h
end

section
/-! PROOFS. A slot time of a die's crossbar and the broadcast of depths (R17, R21, R173 to R175, R188). -/

namespace Sys2Proof.Machine

/-! ## The matching (R174) -/

/-- The first from a pointer is one of the numbers. -/
theorem firstFrom_mem {ptr : Nat} {xs : List Nat} {x : Nat} (h : firstFrom ptr xs = some x) : x ∈ xs := by
  refine List.foldlRecOn xs _ (motive := fun best => ∀ x, best = some x → x ∈ xs) (by simp) (fun best hbest y hy => ?_) x h
  split
  · simpa using hy
  · split
    · simpa using hy
    · exact hbest

/-- Pairs chosen one for each of some numbers, the number on either side, are distinct in that number. -/
theorem nodup_map_filterMap {f : Nat → Option (Nat × Nat)} {g : Nat × Nat → Nat} {xs : List Nat} (hxs : xs.Nodup)
    (hf : ∀ x p, f x = some p → g p = x) : ((xs.filterMap f).map g).Nodup := by
  rw [List.map_filterMap]
  refine hxs.filterMap fun a a' b h h' => ?_
  obtain ⟨p, hp, rfl⟩ := Option.map_eq_some_iff.mp h
  obtain ⟨q, hq, hqp⟩ := Option.map_eq_some_iff.mp h'
  rw [← hf a p hp, ← hf a' q hq, hqp]

/-- The pairs that the outputs grant: an open request each. -/
def grantsOf (reqs : List (Nat × Nat)) (x : Die) (done : List (Nat × Nat)) : List (Nat × Nat) :=
  let openReqs := reqs.filter fun r => !done.any fun m => m.1 == r.1 || m.2 == r.2
  (openReqs.map (·.2)).dedup.filterMap fun o =>
    (firstFrom (sget x.grant o 0) ((openReqs.filter (·.2 == o)).map (·.1))).map fun i => (i, o)

/-- An iteration accepts, for each input with grants, one of them. -/
theorem matchOnce_eq (reqs : List (Nat × Nat)) (x : Die) (done : List (Nat × Nat)) :
    matchOnce reqs x done = ((grantsOf reqs x done).map (·.1)).dedup.filterMap fun i =>
      (firstFrom (sget x.accept i 0) (((grantsOf reqs x done).filter (·.1 == i)).map (·.2))).map fun o => (i, o) := rfl

/-- No output grants twice. -/
theorem grantsOf_nodup (reqs : List (Nat × Nat)) (x : Die) (done : List (Nat × Nat)) :
    ((grantsOf reqs x done).map Prod.snd).Nodup :=
  nodup_map_filterMap (List.nodup_dedup _) fun o p h => by
    obtain ⟨i, -, rfl⟩ := Option.map_eq_some_iff.mp h
    rfl

/-- A grant is a request whose input and output are still open. -/
theorem grantsOf_open {reqs : List (Nat × Nat)} {x : Die} {done : List (Nat × Nat)} {p : Nat × Nat} (h : p ∈ grantsOf reqs x done) :
    p ∈ reqs ∧ ∀ m ∈ done, m.1 ≠ p.1 ∧ m.2 ≠ p.2 := by
  obtain ⟨o, -, h⟩ := List.mem_filterMap.mp h
  obtain ⟨i, hi, rfl⟩ := Option.map_eq_some_iff.mp h
  have hmem := firstFrom_mem hi
  simpa [not_or, and_assoc] using hmem

/-- No input accepts twice. -/
theorem matchOnce_nodup_fst (reqs : List (Nat × Nat)) (x : Die) (done : List (Nat × Nat)) :
    ((matchOnce reqs x done).map Prod.fst).Nodup :=
  nodup_map_filterMap (List.nodup_dedup _) fun i p h => by
    obtain ⟨o, -, rfl⟩ := Option.map_eq_some_iff.mp h
    rfl

/-- What is accepted was granted. -/
theorem matchOnce_granted {reqs : List (Nat × Nat)} {x : Die} {done : List (Nat × Nat)} {p : Nat × Nat}
    (h : p ∈ matchOnce reqs x done) : p ∈ grantsOf reqs x done := by
  rw [matchOnce_eq] at h
  obtain ⟨i, -, h⟩ := List.mem_filterMap.mp h
  obtain ⟨o, ho, rfl⟩ := Option.map_eq_some_iff.mp h
  have hmem := firstFrom_mem ho
  simpa using hmem

/-- No output is accepted twice, as none grants twice. -/
theorem matchOnce_nodup_snd (reqs : List (Nat × Nat)) (x : Die) (done : List (Nat × Nat)) :
    ((matchOnce reqs x done).map Prod.snd).Nodup :=
  (matchOnce_nodup_fst reqs x done).of_map.map_on fun _ hp _ hq h =>
    List.inj_on_of_nodup_map (grantsOf_nodup reqs x done) (matchOnce_granted hp) (matchOnce_granted hq) h

/-- A matching: no input and no output twice. -/
def IsMatching (ms : List (Nat × Nat)) : Prop := (ms.map Prod.fst).Nodup ∧ (ms.map Prod.snd).Nodup

/-- One more iteration keeps a matching. -/
theorem IsMatching.append {done : List (Nat × Nat)} (h : IsMatching done) (reqs : List (Nat × Nat)) (x : Die) :
    IsMatching (done ++ matchOnce reqs x done) := by
  obtain ⟨hfst, hsnd⟩ := h
  have hopen := fun p hp => (grantsOf_open (matchOnce_granted (reqs := reqs) (x := x) (done := done) (p := p) hp)).2
  constructor
  · rw [List.map_append]
    refine hfst.append (matchOnce_nodup_fst ..) (List.disjoint_left.mpr fun i hi hi' => ?_)
    obtain ⟨m, hm, rfl⟩ := List.mem_map.mp hi
    obtain ⟨p, hp, hpm⟩ := List.mem_map.mp hi'
    exact (hopen p hp m hm).1 hpm.symm
  · rw [List.map_append]
    refine hsnd.append (matchOnce_nodup_snd ..) (List.disjoint_left.mpr fun o ho ho' => ?_)
    obtain ⟨m, hm, rfl⟩ := List.mem_map.mp ho
    obtain ⟨p, hp, hpm⟩ := List.mem_map.mp ho'
    exact (hopen p hp m hm).2 hpm.symm

/-- The requests of a slot time: crossings that are ready and neither locked nor barred, on inputs and outputs that none uses. -/
def slotRequests (s : State) (d : Nat) : List (Nat × Nat) :=
  (((s.die d).xfers.filter fun t => !t.locked && t.ready s d && !barred (s.die d).xfers t &&
    !(movingLocked s d).any fun m => m.out == t.out || m.inp == t.inp).map fun t => (t.inp, t.out)).dedup

/-- The matching of a slot time is that of three iterations over its requests. -/
theorem matchSlot_fst (s : State) (d : Nat) :
    let x := s.die d
    let reqs := slotRequests s d
    let m1 := matchOnce reqs x []
    let y := movePointers x m1
    let m2 := m1 ++ matchOnce reqs y m1
    (matchSlot s d).1 = m2 ++ matchOnce reqs y m2 := rfl

/-- The matching of a slot time uses no input and no output twice. -/
theorem isMatching_matchSlot (s : State) (d : Nat) : IsMatching (matchSlot s d).1 := by
  rw [matchSlot_fst]
  have h0 : IsMatching [] := ⟨List.nodup_nil, List.nodup_nil⟩
  exact ((h0.append _ _).append _ _).append _ _

/-- Every match of a slot time is one of its requests. -/
theorem matchSlot_requests {s : State} {d : Nat} {m : Nat × Nat} (h : m ∈ (matchSlot s d).1) : m ∈ slotRequests s d := by
  rw [matchSlot_fst] at h
  simp only [List.mem_append] at h
  rcases h with (h | h) | h <;> exact (grantsOf_open (matchOnce_granted h)).1

/-- A request of a slot time comes from a crossing that may be matched, and meets no locked crossing that moves. -/
theorem mem_slotRequests {s : State} {d : Nat} {m : Nat × Nat} (h : m ∈ slotRequests s d) :
    (∃ t ∈ (s.die d).xfers, t.inp = m.1 ∧ t.out = m.2 ∧ t.ready s d = true ∧ t.locked = false ∧
      barred (s.die d).xfers t = false) ∧ ∀ l ∈ movingLocked s d, l.inp ≠ m.1 ∧ l.out ≠ m.2 := by
  obtain ⟨t, ht, rfl⟩ := List.mem_map.mp (List.mem_dedup.mp h)
  obtain ⟨hmem, ht⟩ := List.mem_filter.mp ht
  simp only [Bool.and_eq_true, Bool.not_eq_true', List.any_eq_false, Bool.or_eq_true, beq_iff_eq, not_or] at ht
  obtain ⟨⟨⟨hlock, hready⟩, hbar⟩, hmove⟩ := ht
  exact ⟨⟨t, hmem, rfl, rfl, hready, hlock, hbar⟩, fun l hl => (hmove l hl).symm⟩

/-! ## The locked crossings that move (R175) -/

/-- Crossings of a die that are locked and ready, at most one for each input and output. -/
structure MovingOk (s : State) (d : Nat) (ms : List Xfer) : Prop where
  inps : (ms.map (·.inp)).Nodup
  outs : (ms.map (·.out)).Nodup
  mem : ∀ t ∈ ms, t ∈ (s.die d).xfers ∧ t.locked = true ∧ t.ready s d = true

/-- A locked crossing that is ready, on an input and an output that none uses, joins them. -/
theorem MovingOk.add {s : State} {d : Nat} {ms : List Xfer} {t : Xfer} (h : MovingOk s d ms) (ht : t ∈ (s.die d).xfers)
    (hlock : t.locked = true) (hready : t.ready s d = true) (hfree : ∀ m ∈ ms, m.inp ≠ t.inp ∧ m.out ≠ t.out) :
    MovingOk s d (ms ++ [t]) where
  inps := by
    rw [List.map_append]
    refine h.inps.append (List.nodup_singleton _) (List.disjoint_singleton.mpr fun hm => ?_)
    obtain ⟨m, hm, he⟩ := List.mem_map.mp hm
    exact (hfree m hm).1 he
  outs := by
    rw [List.map_append]
    refine h.outs.append (List.nodup_singleton _) (List.disjoint_singleton.mpr fun hm => ?_)
    obtain ⟨m, hm, he⟩ := List.mem_map.mp hm
    exact (hfree m hm).2 he
  mem := fun u hu => (List.mem_append.mp hu).elim (h.mem u) fun hu => by
    obtain rfl := List.mem_singleton.mp hu
    exact ⟨ht, hlock, hready⟩

/-- The locked crossings that move in a slot time are such. -/
theorem movingOk_movingLocked (s : State) (d : Nat) : MovingOk s d (movingLocked s d) := by
  refine List.foldlRecOn _ _ ⟨List.nodup_nil, List.nodup_nil, by simp⟩ fun ms hms t ht => ?_
  split
  · next hc =>
    simp only [Bool.and_eq_true, Bool.not_eq_true', List.any_eq_false, Bool.or_eq_true, beq_iff_eq, not_or] at hc
    obtain ⟨⟨hlock, hready⟩, hfree⟩ := hc
    exact hms.add ht hlock hready hfree
  · exact hms

/-! ## The off mask (R21) -/

/-- A sum of the powers of two of some numbers below n: a bit each, and below 2^n. -/
theorem testBit_sum_two_pow (b : Nat → Bool) (n : Nat) :
    ((List.range n).map fun v => if b v then 2 ^ v else 0).sum < 2 ^ n ∧
    ∀ v < n, ((List.range n).map fun v => if b v then 2 ^ v else 0).sum.testBit v = b v := by
  induction n with
  | zero => simp
  | succ n ih =>
    obtain ⟨hlt, hbit⟩ := ih
    simp only [List.range_succ, List.map_append, List.sum_append, List.map_cons, List.map_nil, List.sum_singleton]
    generalize ((List.range n).map fun v => if b v then 2 ^ v else 0).sum = k at hlt hbit ⊢
    cases hb : b n with
    | false =>
      refine ⟨by simp; omega, fun v hv => ?_⟩
      rcases Nat.lt_succ_iff_lt_or_eq.mp hv with hv | rfl
      · simpa using hbit v hv
      · simpa [hb] using Nat.testBit_lt_two_pow hlt
    | true =>
      refine ⟨by simp only [↓reduceIte, Nat.pow_succ]; omega, fun v hv => ?_⟩
      rw [if_pos rfl, Nat.add_comm]
      rcases Nat.lt_succ_iff_lt_or_eq.mp hv with hv | rfl
      · rw [Nat.testBit_two_pow_add_gt hv, hbit v hv]
      · rw [Nat.testBit_two_pow_add_eq, Nat.testBit_lt_two_pow hlt, hb, Bool.not_false]

/-! ## The broadcast of depths (R188) -/

theorem die_updDie_ne (s : State) {d e : Nat} (h : e ≠ d) (f : Die → Die) : (s.updDie d f).die e = s.die e :=
  sget_sput_ne s.dies h ..

/-- Changing each die of a list by one function changes those dies alone, and no register. -/
theorem foldl_updDie (f : Die → Die) {ds : List Nat} (hds : ds.Nodup) (s : State) :
    (ds.foldl (fun t e => t.updDie e f) s).regs = s.regs ∧
    ∀ e, (ds.foldl (fun t e => t.updDie e f) s).die e = if e ∈ ds then f (s.die e) else s.die e := by
  induction ds generalizing s with
  | nil => simp
  | cons d ds ih =>
    obtain ⟨hd, hds⟩ := List.nodup_cons.mp hds
    obtain ⟨hregs, hdie⟩ := ih hds (s.updDie d f)
    refine ⟨hregs, fun e => ?_⟩
    rw [List.foldl_cons, hdie e]
    by_cases he : e = d
    · subst he
      simp [hd]
    · simp [he, die_updDie_ne s he]

end Sys2Proof.Machine

open Sys2Proof Sys2Proof.Machine

/-- Settles O30: a matching kept by every iteration, and the movements, the masks and the depths as they are defined. -/
theorem crossbarSlot : Obligations.CrossbarSlot := by
  refine ⟨fun d s => rfl, fun d s => ?_, fun d s => ?_, fun l v hv => (testBit_sum_two_pow _ 8).2 v hv |>.trans ?_, fun d s => ?_⟩
  · obtain ⟨hfst, hsnd⟩ := isMatching_matchSlot s d
    exact ⟨hfst, hsnd, fun m hm => mem_slotRequests (matchSlot_requests hm)⟩
  · obtain ⟨hinp, hout, hmem⟩ := movingOk_movingLocked s d
    exact ⟨hinp, hout, hmem⟩
  · rfl
  · have hnd : ((List.range 8).filter (· != d.val)).Nodup := List.nodup_range.filter _
    obtain ⟨hregs, hdie⟩ := foldl_updDie (fun x => { x with depths := learnDepths d.val (depthsOf s d.val) x.depths }) hnd s
    refine ⟨_, rfl, hregs, (hdie d.val).trans (if_neg (by simp)), fun e he => (hdie e.val).trans (if_pos ?_)⟩
    simp [Fin.val_ne_of_ne he]
end

section
/-! PROOFS. Admission of frames at the egress (R182 to R187, R190 to R192). -/

namespace Sys2Proof.Machine

/-- An offered frame that neither is skipped nor refused nor waits behind another is tried, its lack of shared cells noted. -/
theorem admitFrame_of_tried {s : State} {id : Nat} (hskip : s.skips (s.frm id) = false) (href : orderedRefusal s (s.frm id) = none)
    (hheld : ¬ blockedByWaiter s id (s.die (s.frm id).outDie).waitQ = true) :
    admitFrame s id =
      let s1 := noteShared s (s.frm id) (cellsOf (hLen (s.frm id).frame.hdr))
      (tryAdmit s1 id).getD (waitFrame s1 id) := by
  simp only [admitFrame, hskip, href, hheld, Bool.false_eq_true, ↓reduceIte]
  cases tryAdmit (noteShared s (s.frm id) (cellsOf (hLen (s.frm id).frame.hdr))) id <;> rfl

/-- Noting a lack of shared cells leaves the frames. -/
theorem noteShared_frm (s : State) (f : FrameRec) (c n : Nat) : (noteShared s f c).frm n = s.frm n := by
  unfold noteShared
  split
  · obtain ⟨h, o, e⟩ := setEvent_eq s 62 (R.BUF_EVENT f.outDie) F.BUF_EVENT_SHARED_FULL
    rw [e]
    rfl
  · rfl

/-- A push-out that ends well leaves the cells it was asked for. -/
theorem pushOut_frees {d k c n : Nat} {s t : State} (h : pushOut d k c n s = some t) : c ≤ t.sharedFree d := by
  induction n generalizing s with
  | zero =>
    obtain ⟨hc, he⟩ := Option.ite_none_right_eq_some.mp h
    exact Option.some.inj he ▸ hc
  | succ n ih =>
    rw [pushOut] at h
    split at h
    · next hc =>
      cases h
      exact hc
    · split at h
      · cases h
      · exact ih h

end Sys2Proof.Machine

open Sys2Proof Sys2Proof.Machine

/-- Settles O31: an offered frame by the first check that decides it, and one that no region takes by what it may do then. -/
theorem egressAdmission : Obligations.EgressAdmission := by
  refine ⟨fun d s => rfl, fun d s hw => ⟨fun h => next_eq ?_, fun id rest h => next_eq ?_⟩,
    fun f s hs hp hm => ⟨fun h => ?_, fun h hf => ?_, fun h => ?_⟩, fun id s hm hup => if_pos (by simp [State.skips, hm, hup]),
    fun id s hskip => ⟨fun i h => ?_, fun h hheld => ?_, fun h hheld => ⟨fun g hg => ?_, fun hg hm => ?_, fun t hg hm hc ht => ?_,
      fun hg hm hc ht => ?_, fun hg hm hc => ?_⟩⟩,
    fun _ _ _ _ _ _ h => pushOut_frees h, fun f s p c hp hs h => ?_,
    fun d p s => ⟨fun id h hcut => next_eq ?_, fun h => next_eq ?_⟩⟩
  · simp [doEgressAdmit, serveWaiters, hw, admitWaiters, h]
  · simp [doEgressAdmit, serveWaiters, hw, admitWaiters, h]
  · simp [orderedRefusal, hs, Nat.not_le.mpr hp, hm, h.symm]
  · simp [orderedRefusal, hs, Nat.not_le.mpr hp, hm, h, hf]
  · rcases h with h | h <;> simp [orderedRefusal, h]
  · simp [admitFrame, hskip, h]
  · simp [admitFrame, hskip, h, hheld]
  · simp [admitFrame_of_tried hskip h hheld, tryAdmit, noteShared_frm, hg]
  · simp [admitFrame_of_tried hskip h hheld, tryAdmit, noteShared_frm, hg, hm]
  · simp [admitFrame_of_tried hskip h hheld, tryAdmit, noteShared_frm, hg, hm, hc, ht]
  · simp [admitFrame_of_tried hskip h hheld, tryAdmit, noteShared_frm, hg, hm, hc, ht, refuseFrame]
  · simp [admitFrame_of_tried hskip h hheld, tryAdmit, noteShared_frm, hg, hm, Nat.not_lt.mpr hc, refuseFrame]
  · subst hp
    simp [admitRegion, hs, h]
  · simp [doUnderrun, h, hcut]
  · unfold doUnderrun
    split
    · next id hid => exact if_neg (by simp [h id hid])
    · rfl
end

section
/-! PROOFS. The states of a port (R180, R190 to R194). -/

open Sys2Proof Sys2Proof.Machine

/-- Settles O32: each command by the port's state, admission by the first check that fails, a configuration by its guards. -/
theorem portStates : Obligations.PortStates := by
  refine ⟨fun d p s => ⟨fun h => next_eq (if_neg ?_), fun h hp => next_eq ?_, fun h hp => next_eq ?_, fun hr h => next_eq (if_pos ?_),
      fun h => next_eq (if_neg ?_), fun h => next_eq (if_neg h), fun h hs => next_eq ?_, fun h => next_eq (if_pos h),
      fun h0 h1 => next_eq (if_neg (not_or.mpr ⟨h0, h1⟩))⟩,
    fun d p s => ⟨fun h => next_eq (if_neg h), fun h hr => next_eq ?_, fun h hr ht => next_eq ?_, fun h hr ht hm => next_eq ?_,
      fun h hr ht hm => next_eq ?_⟩,
    fun d p reg v s => ⟨fun h => next_eq (if_pos h), fun h => next_eq (if_neg (by simp [h]))⟩,
    fun d pool v s => ⟨fun h => next_eq (if_pos (by simp [h])), fun h h1 h2 => next_eq ?_, fun h hv => next_eq ?_, fun h => next_eq ?_⟩⟩
  · simpa [State.portUp] using h
  · exact (if_pos (by simp [State.portUp, h])).trans (if_neg (Nat.not_lt.mpr hp))
  · exact (if_pos (by simp [State.portUp, h])).trans (if_pos hp)
  · simpa [hr] using h
  · rintro hc
    simp only [Bool.and_eq_true, Bool.or_eq_true, beq_iff_eq] at hc
    exact h.elim (by simp [hc.1]) fun h => hc.2.elim h.1 h.2
  · refine (if_pos h).trans ?_
    simp [hs]
  · simp [writeAdmit, admitStatus, h, hr]
  · have ht : s.gen = 0 ∨ s.tabs.stale.contains d.val = true := by simpa [-List.contains_eq_mem, imp_iff_not_or] using ht
    have hst : admitStatus d.val p.val s = 0x18 := by rw [admitStatus, if_neg (by simp [hr]), if_pos ht]
    simp [writeAdmit, h, hst]
  · have ht' : ¬ (s.gen = 0 ∨ s.tabs.stale.contains d.val = true) := by simpa [-List.contains_eq_mem] using ht
    have hst : admitStatus d.val p.val s = 0x10 := by
      rw [admitStatus, if_neg (by simp [hr]), if_neg ht', if_pos (Nat.not_le.mp hm)]
    simp [writeAdmit, h, hst]
  · have ht' : ¬ (s.gen = 0 ∨ s.tabs.stale.contains d.val = true) := by simpa [-List.contains_eq_mem] using ht
    have hst : admitStatus d.val p.val s = 0 := by
      rw [admitStatus, if_neg (by simp [hr]), if_neg ht', if_neg (Nat.not_lt.mpr hm)]
    simp [writeAdmit, h, hst]
  · exact (if_neg (by simp [h])).trans ((if_pos rfl).trans (if_pos ⟨h1, h2⟩))
  · exact (if_neg (by simp [h])).trans ((if_pos rfl).trans (if_neg (by omega)))
  · exact (if_neg (by simp [h])).trans (if_neg (by simp))
end

section
/-! PROOFS. Sending, shapers and policers (R112, R181, R199 to R207). -/

namespace Sys2Proof.Machine

/-! ## The round robin of a level (R199, R200) -/

theorem port_setPort_same (s : State) (d p : Nat) (x : Port) : (s.setPort d p x).port d p = x := by
  simp [State.setPort, State.port]

/-- A port with only the turns and the places of its round robins moved. -/
def Port.turned (x : Port) (turn rr : SMap Nat) : Port := { x with turn := turn, rr := rr }

/-- The turns of a port's round robins do not make a class eligible. -/
theorem eligible_turned (s : State) (d p u : Nat) (turn rr : SMap Nat) :
    (s.setPort d p ((s.port d p).turned turn rr)).eligible d p u = s.eligible d p u := by
  have hport := port_setPort_same s d p ((s.port d p).turned turn rr)
  have hhead : (s.setPort d p ((s.port d p).turned turn rr)).headFrame d p u = s.headFrame d p u := by
    simp only [State.headFrame, hport]
    rfl
  have hguard : ∀ len, (s.setPort d p ((s.port d p).turned turn rr)).guardOk d p len = s.guardOk d p len := fun len => by
    simp only [State.guardOk, hport]
    rfl
  have hcredit : (s.setPort d p ((s.port d p).turned turn rr)).creditNow d p u = s.creditNow d p u := by
    simp only [State.creditNow, hport]
    rfl
  simp only [State.eligible, State.eligibleNoShaper, State.shaperOk, hhead, hguard, hcredit]
  rfl

/-- A turn that goes on is of a class of the level that is eligible. -/
theorem turnGoesOn_class {s : State} {d p level : Nat} (h : s.turnGoesOn d p level = true) :
    s.prio d p (sget (s.port d p).turn level 0 - 1) = level ∧ s.eligible d p (sget (s.port d p).turn level 0 - 1) = true := by
  simp only [State.turnGoesOn, Bool.and_eq_true, beq_iff_eq] at h
  obtain ⟨⟨⟨-, hprio⟩, helig⟩, -⟩ := h
  exact ⟨hprio, helig⟩

/-- A level where no turn goes on picks a class of it that is eligible, which gains its quantum. -/
theorem drrPick_of_next {s : State} {d p level t : Nat} {x : Port} (hturn : s.turnGoesOn d p level = false)
    (h : drrPick s d p level = (some t, x)) : s.prio d p t = level ∧ s.eligible d p t = true ∧
      x.deficit = supd (s.port d p).deficit t 0 (· + s.quantum d p t) := by
  simp only [drrPick, hturn, Bool.false_eq_true, ↓reduceIte] at h
  split at h
  · cases h
  · next u hu =>
    have hfound := List.find?_some hu
    simp only [Bool.and_eq_true, decide_eq_true_eq] at hfound
    cases h
    exact ⟨hfound.1, hfound.2, rfl⟩

/-- A class that a level picks is of the level, and eligible. -/
theorem drrPick_class {s : State} {d p level t : Nat} {x : Port} (h : drrPick s d p level = (some t, x)) :
    s.prio d p t = level ∧ s.eligible d p t = true := by
  cases hturn : s.turnGoesOn d p level with
  | true =>
    simp only [drrPick, hturn, ↓reduceIte] at h
    cases h
    exact turnGoesOn_class hturn
  | false =>
    obtain ⟨hprio, helig, -⟩ := drrPick_of_next hturn h
    exact ⟨hprio, helig⟩

/-- Every class number below 8 is in the order of a round robin. -/
theorem mem_rotation (start : Nat) {u : Nat} (hu : u < 8) : u ∈ (List.range 8).map fun i => (start + i) % 8 :=
  List.mem_map.mpr ⟨(u + 8 - start % 8) % 8, List.mem_range.mpr (Nat.mod_lt _ (by decide)), by omega⟩

/-- A level that picks none has no eligible class, and moves only turns. -/
theorem drrPick_none {s : State} {d p level : Nat} {x : Port} (h : drrPick s d p level = (none, x)) :
    (∃ turn rr, x = (s.port d p).turned turn rr) ∧ ∀ u < 8, s.prio d p u = level → s.eligible d p u = false := by
  simp only [drrPick] at h
  split at h
  · cases h
  · split at h
    · next hnone =>
      refine ⟨?_, fun u hu hprio => ?_⟩
      · obtain rfl := (Prod.mk.inj h).2
        split
        · exact ⟨_, _, rfl⟩
        · exact ⟨_, _, rfl⟩
      · simpa [hprio] using List.find?_eq_none.mp hnone u (mem_rotation _ hu)
    · cases h

/-- The level picked is the highest below n with an eligible class. -/
theorem pickLevel_some {d p n t : Nat} {s s2 : State} (h : pickLevel d p n s = (some t, s2)) :
    s.eligible d p t = true ∧ s.prio d p t < n ∧
    ∀ u < 8, s.eligible d p u = true → s.prio d p u < n → s.prio d p u ≤ s.prio d p t := by
  induction n generalizing s with
  | zero => cases h
  | succ n ih =>
    rw [pickLevel] at h
    split at h
    · next u x hpick =>
      cases h
      obtain ⟨hprio, helig⟩ := drrPick_class hpick
      exact ⟨helig, by omega, fun u _ _ hu => by omega⟩
    · next x hpick =>
      obtain ⟨⟨turn, rr, rfl⟩, hnone⟩ := drrPick_none hpick
      obtain ⟨helig, hlt, hmax⟩ := ih h
      simp only [eligible_turned] at helig hmax
      refine ⟨helig, Nat.lt_succ_of_lt hlt, fun u hu helu hun => ?_⟩
      rcases Nat.lt_succ_iff_lt_or_eq.mp hun with hun | hun
      · exact hmax u hu helu hun
      · exact absurd helu (by simp [hnone u hu hun])

/-! ## Credits and buckets (R201, R202, R205) -/

theorem Fld_get_lt (f : Fld) (w : Word) : f.get w < 2 ^ (f.hi + 1 - f.lo) := Nat.mod_lt _ (Nat.two_pow_pos _)

theorem burstUnits_eq (n : Nat) : burstUnits n = n * 2 ^ 24 := by rw [burstUnits]; omega

/-- A credit never passes its burst. -/
theorem creditNow_le (s : State) (d p t : Nat) :
    s.creditNow d p t ≤ (burstUnits (s.fld (R.TM_SHAPER d p t) F.TM_SHAPER_BURST) : Nat) := min_le_right ..

/-- A credit just set, and not beyond its burst, is the credit now. -/
theorem creditNow_setCredit (s : State) (d p t : Nat) {c : Int}
    (hc : c ≤ (burstUnits (s.fld (R.TM_SHAPER d p t) F.TM_SHAPER_BURST) : Nat)) :
    (s.setCredit d p t c).creditNow d p t = c := by
  have hport : (s.setCredit d p t c).port d p =
      { s.port d p with credit := sput (s.port d p).credit t c 0, creditAt := sput (s.port d p).creditAt t s.cycle 0 } :=
    port_updPort_same ..
  have hfld : (s.setCredit d p t c).fld (R.TM_SHAPER d p t) F.TM_SHAPER_BURST = s.fld (R.TM_SHAPER d p t) F.TM_SHAPER_BURST := rfl
  have hcycle : (s.setCredit d p t c).cycle = s.cycle := rfl
  simp only [State.creditNow, hport, sget_sput_same, hcycle, hfld, Nat.sub_self, Nat.mul_zero, Nat.cast_zero, add_zero]
  exact min_eq_left hc

/-- Counting in TM_COUNT leaves a shaper of a port. -/
theorem creditNow_tmCount (s : State) {d p t n : Nat} (ht : t < 8) (hn : n < 16) :
    (s.tmCount d p n).creditNow d p t = s.creditNow d p t := by
  have haddr : (R.TM_SHAPER d p t).addr ≠ (R.TM_COUNT d p n).addr := by simp only [R.TM_SHAPER, R.TM_COUNT]; omega
  have hfld : ∀ f, (s.tmCount d p n).fld (R.TM_SHAPER d p t) f = s.fld (R.TM_SHAPER d p t) f := fun f =>
    fld_of_rd (rd_countN_reg s haddr 1) f
  simp only [State.creditNow, hfld]
  rfl

/-- Charging a frame lowers its class's credit by the frame's length. -/
theorem creditNow_chargeStart (s : State) {d p t : Nat} (id : Nat) (ht : t < 8) :
    (chargeStart s d p t id).creditNow d p t = s.creditNow d p t - (hLen (s.frm id).frame.hdr * 65536 : Nat) := by
  have hset := creditNow_setCredit s d p t (c := s.creditNow d p t - (hLen (s.frm id).frame.hdr * 65536 : Nat))
    ((Int.sub_le_self _ (Int.natCast_nonneg _)).trans (creditNow_le s d p t))
  unfold chargeStart
  split
  · rw [creditNow_tmCount _ ht (by decide)]
    refine Eq.trans ?_ hset
    simp only [State.creditNow, port_updPort_same]
    rfl
  · exact hset

/-- A field within a range takes the value that lies in it. -/
theorem fld_setInRange (s : State) (r : RegRef) (f : Fld) (v : Word) (lo hi : Nat) (hl : f.lo ≤ f.hi) (hh : f.hi < 32) :
    (setInRange s r f v lo hi).fld r f = if lo ≤ f.get v ∧ f.get v ≤ hi then f.get v else s.fld r f := by
  unfold setInRange
  split
  · rw [fld_setF_same _ _ _ _ hl hh, Nat.mod_eq_of_lt (Fld_get_lt f v)]
  · rfl

/-- Setting a field within a range leaves the other fields. -/
theorem fld_setInRange_ne (s : State) (r : RegRef) (f g : Fld) (v : Word) (lo hi : Nat) (hl : g.lo ≤ g.hi)
    (h : f.hi < g.lo ∨ g.hi < f.lo) : (setInRange s r g v lo hi).fld r f = s.fld r f := by
  unfold setInRange
  split
  · exact fld_setF_ne s r f g _ hl h
  · rfl

/-- The shaper as a write leaves its fields: those out of range as they were. -/
def shaperFields (d p t : Nat) (v : Word) (s : State) : State :=
  let r := R.TM_SHAPER d p t
  (setInRange (setInRange s r F.TM_SHAPER_BURST v 37 65535) r F.TM_SHAPER_RATE v 0 16000).setF r F.TM_SHAPER_EN
    (F.TM_SHAPER_EN.get v)

theorem shaperFields_en (d p t : Nat) (v : Word) (s : State) :
    (shaperFields d p t v s).fld (R.TM_SHAPER d p t) F.TM_SHAPER_EN = F.TM_SHAPER_EN.get v := by
  rw [shaperFields, fld_setF_same _ _ _ _ (by decide) (by decide)]
  exact Nat.mod_eq_of_lt (Fld_get_lt F.TM_SHAPER_EN v)

theorem shaperFields_rate (d p t : Nat) (v : Word) (s : State) :
    (shaperFields d p t v s).fld (R.TM_SHAPER d p t) F.TM_SHAPER_RATE =
      if F.TM_SHAPER_RATE.get v ≤ 16000 then F.TM_SHAPER_RATE.get v else s.fld (R.TM_SHAPER d p t) F.TM_SHAPER_RATE := by
  rw [shaperFields, fld_setF_ne _ _ _ _ _ (by decide) (by decide), fld_setInRange _ _ _ _ _ _ (by decide) (by decide),
    fld_setInRange_ne _ _ _ _ _ _ _ (by decide) (by decide)]
  simp

theorem shaperFields_burst (d p t : Nat) (v : Word) (s : State) :
    (shaperFields d p t v s).fld (R.TM_SHAPER d p t) F.TM_SHAPER_BURST =
      if 37 ≤ F.TM_SHAPER_BURST.get v then F.TM_SHAPER_BURST.get v else s.fld (R.TM_SHAPER d p t) F.TM_SHAPER_BURST := by
  have hle : F.TM_SHAPER_BURST.get v ≤ 65535 := Nat.le_of_lt_succ (Fld_get_lt F.TM_SHAPER_BURST v)
  rw [shaperFields, fld_setF_ne _ _ _ _ _ (by decide) (by decide), fld_setInRange_ne _ _ _ _ _ _ _ (by decide) (by decide),
    fld_setInRange _ _ _ _ _ _ (by decide) (by decide)]
  simp [hle]

/-- The credit that a write of a shaper leaves: the new burst where EN rises, else the credit within it. -/
theorem writeShaper_eq (d p t : Nat) (v : Word) (s : State) :
    let s3 := shaperFields d p t v s
    let full : Int := (burstUnits (s3.fld (R.TM_SHAPER d p t) F.TM_SHAPER_BURST) : Nat)
    writeShaper d p t v s = s3.setCredit d p t
      (if !s.bit (R.TM_SHAPER d p t) F.TM_SHAPER_EN && s3.bit (R.TM_SHAPER d p t) F.TM_SHAPER_EN then full
       else min (s.creditNow d p t) full) := rfl

/-- What refuses to enable a policer. -/
theorem policerBad_iff {i : Nat} {v : Word} {s : State} : policerBad i v s = true ↔
    s.fld (R.POLICER_CFG1 0 i) F.POLICER_CFG1_PIR < F.POLICER_CFG0_CIR.get v ∨
      s.fld (R.POLICER_CFG1 0 i) F.POLICER_CFG1_CBS < 37 ∨ s.fld (R.POLICER_CFG2 0 i) F.POLICER_CFG2_PBS < 37 ∨
      F.POLICER_CFG0_YELLOW_ACT.get v = 3 ∨ F.POLICER_CFG0_RED_ACT.get v = 3 := by
  simp [policerBad, or_assoc]

/-- A bucket set for every die of a list stands there, with the registers and the clock as they were. -/
theorem foldl_setBucket (i : Nat) (b : Nat → Bucket) (ds : List Nat) (s : State) :
    let t := ds.foldl (fun t d => t.setBucket d i (b d)) s
    t.regs = s.regs ∧ t.cycle = s.cycle ∧
      ∀ e, sget (t.die e).buckets i Bucket.init = if e ∈ ds then b e else sget (s.die e).buckets i Bucket.init := by
  induction ds generalizing s with
  | nil => simp
  | cons d ds ih =>
    obtain ⟨hregs, hcycle, hdie⟩ := ih (s.setBucket d i (b d))
    refine ⟨hregs, hcycle, fun e => (hdie e).trans ?_⟩
    by_cases hmem : e ∈ ds
    · simp [hmem]
    · by_cases he : e = d
      · subst he
        simp [hmem, State.setBucket]
      · simp [hmem, he, State.setBucket, die_updDie_ne s he]

/-- A bucket set as of now within its sizes is the bucket now. -/
theorem bucketNow_of_full {s : State} {d i : Nat} {b : Bucket} (hb : sget (s.die d).buckets i Bucket.init = b) (hat : b.at_ = s.cycle)
    (htp : b.tp = burstUnits (s.fld (R.POLICER_CFG2 0 i) F.POLICER_CFG2_PBS))
    (htc : b.tc = burstUnits (s.fld (R.POLICER_CFG1 0 i) F.POLICER_CFG1_CBS)) :
    (s.bucketNow d i).tp = b.tp ∧ (s.bucketNow d i).tc = b.tc := by
  simp only [State.bucketNow, hb, hat, Nat.sub_self, Nat.mul_zero, Nat.add_zero, ← htp, ← htc, min_self, and_self]

/-- A write of word 0 that is not refused keeps the buckets as they are now, writes the word, and fills them where EN rises. -/
theorem writePolicer0_of_taken {i : Nat} {v : Word} {s : State} (h : ¬ (F.POLICER_CFG0_EN.get v = 1 ∧ policerBad i v s = true)) :
    writePolicer0 i v s =
      let s1 := ((List.range 8).foldl (fun t d => t.setBucket d i (s.bucketNow d i)) s).wr (R.POLICER_CFG0 0 i) (v &&& 0xFF003FFF#32)
      if !s.bit (R.POLICER_CFG0 0 i) F.POLICER_CFG0_EN && F.POLICER_CFG0_EN.get v == 1 then
        (List.range 8).foldl (fun t d => t.setBucket d i
          { tp := burstUnits (s.fld (R.POLICER_CFG2 0 i) F.POLICER_CFG2_PBS),
            tc := burstUnits (s.fld (R.POLICER_CFG1 0 i) F.POLICER_CFG1_CBS), at_ := s.cycle }) s1
      else s1 := if_neg h

theorem writePolicer0_rd {i : Nat} {v : Word} {s : State} (h : ¬ (F.POLICER_CFG0_EN.get v = 1 ∧ policerBad i v s = true)) :
    (writePolicer0 i v s).rd (R.POLICER_CFG0 0 i) = v &&& 0xFF003FFF#32 := by
  rw [writePolicer0_of_taken h]
  dsimp only
  split
  · rw [rd_of_regs (foldl_setBucket i _ _ _).1]
    exact rd_wr_same ..
  · exact rd_wr_same ..

/-- Enabling a policer fills the buckets of every die. -/
theorem writePolicer0_fills {i : Nat} {v : Word} {s : State} (hen : F.POLICER_CFG0_EN.get v = 1) (hbad : policerBad i v s = false)
    (hwas : s.bit (R.POLICER_CFG0 0 i) F.POLICER_CFG0_EN = false) {d : Nat} (hd : d < 8) :
    ((writePolicer0 i v s).bucketNow d i).tp = burstUnits (s.fld (R.POLICER_CFG2 0 i) F.POLICER_CFG2_PBS) ∧
    ((writePolicer0 i v s).bucketNow d i).tc = burstUnits (s.fld (R.POLICER_CFG1 0 i) F.POLICER_CFG1_CBS) := by
  rw [writePolicer0_of_taken (by simp [hbad])]
  dsimp only
  rw [if_pos (by simp [hwas, hen])]
  obtain ⟨hregs0, hcycle0, -⟩ := foldl_setBucket i (fun d => s.bucketNow d i) (List.range 8) s
  generalize (List.range 8).foldl (fun t d => t.setBucket d i (s.bucketNow d i)) s = s0 at hregs0 hcycle0 ⊢
  obtain ⟨hregs, hcycle, hdie⟩ := foldl_setBucket i (fun _ =>
    { tp := burstUnits (s.fld (R.POLICER_CFG2 0 i) F.POLICER_CFG2_PBS),
      tc := burstUnits (s.fld (R.POLICER_CFG1 0 i) F.POLICER_CFG1_CBS), at_ := s.cycle : Bucket }) (List.range 8)
    (s0.wr (R.POLICER_CFG0 0 i) (v &&& 0xFF003FFF#32))
  have hcfg : ∀ {r : RegRef} (f : Fld), r.addr ≠ (R.POLICER_CFG0 0 i).addr → State.fld _ r f = s.fld r f := fun f hr =>
    (fld_of_rd ((rd_of_regs hregs _).trans ((rd_wr_ne s0 hr _).trans (rd_of_regs hregs0 _))) f)
  exact bucketNow_of_full ((hdie d).trans (if_pos (List.mem_range.mpr hd))) (hcycle.trans hcycle0).symm
    (congrArg burstUnits (hcfg _ (by simp only [R.POLICER_CFG2, R.POLICER_CFG0]; omega)).symm)
    (congrArg burstUnits (hcfg _ (by simp only [R.POLICER_CFG1, R.POLICER_CFG0]; omega)).symm)

end Sys2Proof.Machine

open Sys2Proof Sys2Proof.Machine

/-- Settles O33: the transmitter by what is due, a level by its round robin, a credit by what is charged and written. -/
theorem egressSending : Obligations.EgressSending := by
  refine ⟨fun d p s => ⟨fun h => next_eq ?_, fun id l h htimed => next_eq ?_, fun id h htimed hcut => next_eq ?_,
      fun s2 h htimed hcut hpick => next_eq ?_, fun t s2 id h htimed hcut hpick hhead => next_eq ?_⟩,
    fun d p n t s s2 h => pickLevel_some h,
    fun d p level s => ⟨fun h => if_pos h, fun t x hturn h => drrPick_of_next hturn h⟩,
    fun d p s => ⟨rfl, fun h => next_eq ?_, fun id l h hup htx hno => next_eq ?_, fun id l rest h hl => ?_⟩,
    fun d p id l s => ⟨fun hup hl ho => ?_, fun hup hlate => ?_, fun hup hlate => ?_⟩,
    fun d p t id s => creditNow_chargeStart s id t.isLt,
    fun d p t v s => ⟨_, next_eq (writeShaper_eq ..), shaperFields_en .., fun hwas hen => ?_, fun h => ?_, shaperFields_rate ..,
      shaperFields_burst ..⟩,
    fun d v s => ⟨_, rfl, ?_, ?_, fun e he => ?_⟩⟩
  · exact if_neg (by simpa [and_assoc] using h)
  · rw [doEgressSchedule, if_pos (by simpa [and_assoc] using h)]
    simp only [htimed]
  · rw [doEgressSchedule, if_pos (by simpa [and_assoc] using h)]
    simp only [htimed, hcut]
  · rw [doEgressSchedule, if_pos (by simpa [and_assoc] using h)]
    simp only [htimed, hcut, hpick]
  · rw [doEgressSchedule, if_pos (by simpa [and_assoc] using h)]
    simp only [htimed, hcut, hpick, hhead]
  · simp only [doTimedLaunch, h]
  · simp [doTimedLaunch, h, hup, htx, hno]
  · simp [State.timedDue, h, hl]
  · simp [State.timedLost, -List.contains_eq_mem, hup, hl, ho]
  · simp [State.timedLost, hup, hlate]
  · simp [State.timedLost, hup, hlate]
  · refine (creditNow_setCredit _ _ _ _ ?_).trans ?_
    · split
      · exact le_rfl
      · exact min_le_right ..
    · exact if_pos (by rw [hwas]; simp [State.bit, shaperFields_en, hen])
  · refine (creditNow_setCredit _ _ _ _ ?_).trans ?_
    · split
      · exact le_rfl
      · exact min_le_right ..
    · refine if_neg ?_
      rcases h with h | h
      · simp [h]
      · simp [State.bit, shaperFields_en, h]
  · exact rd_wr_same s _ v
  · simp [writeSpraySeed]
  · exact die_updDie_ne _ he _

/-- Settles O34: the marker's three cases, the sizes as caps, and a write of word 0 by the check that refuses it. -/
theorem policing : Obligations.Policing := by
  refine ⟨fun b len => ⟨fun h => if_pos h, fun h1 h2 => (if_neg (Nat.not_lt.mpr h1)).trans (if_pos h2), fun h1 h2 =>
      (if_neg (Nat.not_lt.mpr h1)).trans (if_neg (Nat.not_lt.mpr h2))⟩,
    fun d i s => ⟨?tp, ?tc⟩, fun i v s => ⟨fun hen hbad => next_eq ?_, fun h => ⟨_, rfl, writePolicer0_rd ?taken⟩,
      fun hen hbad hwas => ⟨_, rfl, fun d hd => writePolicer0_fills hen ?_ hwas hd⟩⟩⟩
  case tp => exact (min_le_right _ _).trans (burstUnits_eq _).le
  case tc => exact (min_le_right _ _).trans (burstUnits_eq _).le
  case taken =>
    rintro ⟨hen, hbad⟩
    exact h.elim (by simp [hen]) fun h => h (policerBad_iff.mp hbad)
  · exact if_pos ⟨hen, policerBad_iff.mpr hbad⟩
  · exact Bool.eq_false_iff.mpr (mt policerBad_iff.mp hbad)
end

section
/-! PROOFS. Contact-sheet records and exposures (R210, R211). -/

namespace Sys2Proof.Machine

/-- Every counter of an exposure is 0 after reset. -/
theorem reset_of_mem_exposureRegs {d sets : Nat} {r : RegRef} (h : r ∈ exposureRegs d sets) : r.reset = 0 := by
  obtain ⟨n, -, h⟩ := List.mem_flatMap.mp h
  unfold exposureSet at h
  split at h <;> simp only [List.mem_flatMap, List.mem_append, List.mem_map, List.not_mem_nil] at h
  · obtain ⟨p, -, ((⟨i, -, rfl⟩ | ⟨i, -, rfl⟩) | ⟨i, -, rfl⟩) | ⟨i, -, rfl⟩⟩ := h <;> rfl
  · obtain ⟨ll, -, i, -, rfl⟩ := h; rfl
  · obtain ⟨lp, -, i, -, rfl⟩ := h; rfl
  · obtain ⟨i, -, k, -, rfl⟩ := h; rfl
  · obtain ⟨j, -, k, -, i, -, rfl⟩ := h; rfl

/-- A register cleared reads 0, at whatever name its address is read. -/
theorem rd_wr_zero (s : State) {q r : RegRef} (h : r.addr = q.addr) (hr : r.reset = 0) (hq : q.reset = 0) : (s.wr q 0).rd r = 0 := by
  obtain ⟨a, x⟩ := r
  obtain ⟨b, y⟩ := q
  dsimp only at h hr hq
  subst h hr hq
  exact rd_wr_same s _ 0

/-- Clearing counters one after another leaves each of them 0, and keeps one that is 0. -/
theorem rd_foldl_clear {rs : List RegRef} {r : RegRef} (s : State) (hr : r.reset = 0) (hrs : ∀ q ∈ rs, q.reset = 0)
    (h : r ∈ rs ∨ s.rd r = 0) : (rs.foldl (fun s r => s.wr r 0) s).rd r = 0 := by
  induction rs generalizing s with
  | nil => simpa using h
  | cons q rs ih =>
    obtain ⟨hq0, hrs⟩ := List.forall_mem_cons.mp hrs
    refine ih _ hrs ?_
    by_cases hq : r.addr = q.addr
    · exact .inr (rd_wr_zero s hq hr hq0)
    · rw [rd_wr_ne s hq]
      exact h.imp_left fun h => (List.mem_cons.mp h).resolve_left fun h => hq (congrArg RegRef.addr h)

/-- A write of the control register leaves the status. -/
theorem bit_writeExposure (s : State) (d : Nat) (v : Word) (f : Fld) :
    (writeExposure s d v).bit (R.EXPOSURE_STATUS d) f = s.bit (R.EXPOSURE_STATUS d) f := by
  rw [State.bit, writeExposure, fld_wr_reg s (by simp [R.EXPOSURE_STATUS, R.EXPOSURE_CTRL])]
  rfl

/-- An exposure starts only while none is busy. -/
theorem beginExposure_of_busy {s : State} {d : Nat} (v : Word) (f : State → State)
    (h : s.bit (R.EXPOSURE_STATUS d) F.EXPOSURE_STATUS_BUSY = true) :
    beginExposure (writeExposure s d v) d f = refuseExposure (writeExposure s d v) d :=
  if_pos ((bit_writeExposure s d v _).trans h)

theorem beginExposure_of_idle {s : State} {d : Nat} (v : Word) (f : State → State)
    (h : s.bit (R.EXPOSURE_STATUS d) F.EXPOSURE_STATUS_BUSY = false) :
    beginExposure (writeExposure s d v) d f = f (writeExposure s d v) :=
  if_neg (by simp [bit_writeExposure, h])

end Sys2Proof.Machine

open Sys2Proof Sys2Proof.Machine

/-- Settles O35: a record by the ring, an exposure by its status and its time, a capture by what it clears. -/
theorem contactSheetAndExposures : Obligations.ContactSheetAndExposures := by
  refine ⟨fun d s => ⟨fun h => next_eq ?_, fun h => next_eq ?_, fun p rec rest h hen => ⟨fun hfull hmode => next_eq ?_, fun h' => next_eq ?_⟩⟩,
    fun d v s => ⟨fun h => ⟨next_eq (beginExposure_of_busy v _ h), next_eq (beginExposure_of_busy v _ h)⟩,
      fun h => next_eq (beginExposure_of_idle v _ h), fun h h1 h2 => next_eq ((beginExposure_of_idle v _ h).trans (if_pos ⟨h1, h2⟩)),
      fun ht => next_eq ?_⟩,
    fun d s => ⟨fun t h ht => next_eq ?_, fun t h ht => next_eq ?_, fun h => next_eq ?_⟩,
    fun d s => ⟨fun h r hr hne => ?_, fun h => ?_⟩, fun d s => ⟨fun h => next_eq ?_, fun img h => next_eq ?_⟩⟩
  · simp only [doCsRecordWrite, h]
  · unfold doCsRecordWrite
    split
    · rfl
    · exact if_pos (by simp [h])
  · simp only [doCsRecordWrite, h]
    exact (if_neg (by simp [hen])).trans (if_pos ⟨hfull, by simp [hmode]⟩)
  · simp only [doCsRecordWrite, h]
    refine (if_neg (by simp [hen])).trans (if_neg ?_)
    rintro ⟨h1, h2⟩
    exact h'.elim (· h1) (by simpa using h2)
  · cases h : s.bit (R.EXPOSURE_STATUS d.val) F.EXPOSURE_STATUS_BUSY with
    | true => exact beginExposure_of_busy v _ h
    | false => exact (beginExposure_of_idle v _ h).trans (if_neg fun h => ht.elim (Nat.not_lt.mpr h.1) (Nat.not_le.mpr h.2))
  · simp [doExposureCapture, h, ht]
  · simp [doExposureCapture, h, ht]
  · simp only [doExposureCapture, h]
  · refine (rd_setF_reg _ hne _ _).trans ?_
    rw [if_pos h]
    exact rd_foldl_clear s (reset_of_mem_exposureRegs hr) (fun _ => reset_of_mem_exposureRegs) (.inl hr)
  · refine (fld_setF_same _ _ _ _ (by decide) (by decide)).trans ?_
    exact Nat.mod_mod _ _
  · simp only [doExposureWriteDone, h]
  · simp only [doExposureWriteDone, h]
    rfl
end

section
/-! PROOFS. Engines as a whole: the table of slot operations, arming a slot, the end of a braid (R227 to R230, R238 to R240, R252). -/

namespace Sys2Proof.Machine

/-! ## Reading an engine -/

@[simp] theorem eng_updEng_same (s : State) (e : Nat) (f : Engine → Engine) : (s.updEng e f).eng e = f (s.eng e) := by
  simp [State.updEng, State.setEng, State.eng]

theorem showFetch_eng (s : State) (e i : Nat) : (showFetch s e).eng i = s.eng i := rfl

/-! ## A slot operation, by what arming and the checks answer -/

section
variable {c : Cls} {op e k depth cause : Nat} {body : Nat → Nat → Word128 → State → SlotRes} {hw : OpHw} {s t u : State} {w : Word128}

theorem runSlot_of_stop (h : armSlot c false op e hw s = .stop t) : runSlot c op body e hw s = t := by
  rw [runSlot, h]

theorem runSlot_of_fault (h : armSlot c false op e hw s = .go t k w) (hu : hwCheck t e k op hw = (u, some (cause, depth))) :
    runSlot c op body e hw s = abortDispatch u e cause depth := by
  rw [runSlot, h]
  dsimp only
  rw [hu]

/-- The guard of a slot does not mask lanes: C, S, and the P and M operations but the stores of code 2. -/
def GuardSkips (c : Cls) (op : Nat) : Prop := c = .C ∨ c = .S ∨ ((c = .P ∨ c = .M) ∧ op ≠ 2)

/-- The guard of a slot lets it run, or masks its lanes. -/
theorem guard_runs {g : Core} (hg : GuardSkips c op → guardOn g w = true) :
    ¬ (!(c == .V || c == .A || ((c == .P || c == .M) && op == 2)) && !guardOn g w) = true := by
  simp only [Bool.and_eq_true, Bool.not_eq_true', Bool.or_eq_false_iff, Bool.and_eq_false_iff, beq_eq_false_iff_ne, ne_eq]
  rintro ⟨⟨⟨hv, ha⟩, hp⟩, hoff⟩
  have hskip : GuardSkips c op := by
    cases c <;> simp_all [GuardSkips]
  exact absurd (hg hskip) (by simp [hoff])

/-- An armed slot that passes the checks and whose guard lets it run does what its body does. -/
theorem runSlot_of_ok {v : State} (h : armSlot c false op e hw s = .go t k w) (hu : hwCheck t e k op hw = (u, none))
    (hg : GuardSkips c op → guardOn (u.eng e).view w = true) (hbody : body e k w u = .ok v) :
    runSlot c op body e hw s = slotDone v e k := by
  rw [runSlot, h]
  dsimp only
  rw [hu]
  dsimp only
  rw [hbody]
  exact if_neg (guard_runs hg)

/-- And aborts the dispatch where its body does. -/
theorem runSlot_of_abort (h : armSlot c false op e hw s = .go t k w) (hu : hwCheck t e k op hw = (u, none))
    (hg : GuardSkips c op → guardOn (u.eng e).view w = true) (hbody : body e k w u = .abort cause) :
    runSlot c op body e hw s = abortDispatch u e cause 4 := by
  rw [runSlot, h]
  dsimp only
  rw [hu]
  dsimp only
  rw [hbody]
  exact if_neg (guard_runs hg)

/-- A slot whose guard is false passes without effect. -/
theorem runSlot_of_masked (h : armSlot c false op e hw s = .go t k w) (hu : hwCheck t e k op hw = (u, none)) (hskip : GuardSkips c op)
    (hg : guardOn (u.eng e).view w = false) : runSlot c op body e hw s = slotDone u e k := by
  rw [runSlot, h]
  dsimp only
  rw [hu]
  refine if_pos ?_
  rcases hskip with rfl | rfl | ⟨rfl | rfl, hop⟩ <;> simp_all

end

/-- The operation is a slot of a class with an operation code: it runs as one. -/
def IsSlot (e : Fin 128) (hw : OpHw) (s : State) (p : (OpHw → Instr) × Cls × Nat) : Prop :=
  ∃ body, exec (p.1 hw) s = .next (runSlot p.2.1 p.2.2 body e.val hw s)

/-! ## Arming a slot -/

/-- Braids that pass name no register as destination twice. -/
theorem disjointOuts_getD {outs : List (List Dst)} {i j : Nat} (h : disjointOuts outs = true) (hij : i < j) (hj : j < outs.length)
    {r : Dst} (hr : r ∈ outs.getD i []) : r ∉ outs.getD j [] := by
  induction outs generalizing i j with
  | nil => simp at hj
  | cons xs rest ih =>
    obtain ⟨hxs, hrest⟩ := Bool.and_eq_true_iff.mp h
    obtain _ | j := j
    · omega
    have hj : j < rest.length := by simpa using hj
    cases i with
    | zero =>
      have hys := List.all_eq_true.mp (List.all_eq_true.mp hxs (rest[j]) (List.getElem_mem hj)) r (by simpa using hr)
      simpa [hj] using hys
    | succ i => simpa using ih hrest (i := i) (by omega) hj (by simpa using hr)

/-- The destinations of the slots of a braid, by slot. -/
theorem slotOuts_getD (wf : Nat) (ws : List Word128) {i : Nat} (h : i < ws.length) :
    (((List.range ws.length).zip ws).map fun kw => slotOuts wf kw.1 kw.2).getD i [] = slotOuts wf i (ws.getD i (Word128.ofNat 0)) := by
  simp [h]

/-- The last slot ends its braid. -/
theorem slotDone_last (s : State) (e : Nat) : (slotDone s e 7).eng e =
    { s.eng e with slot := 0, issued := false, count := (s.eng e).count + 1, lc := (s.eng e).lc + 1,
                   pc := if (s.eng e).ended then (s.eng e).pc else (nextFetch ((s.eng e).pc, (s.eng e).branch)).1,
                   branch := (nextFetch ((s.eng e).pc, (s.eng e).branch)).2, newFlags := 0, newRes := 0,
                   core := { (s.eng e).core with
                     flags := (s.eng e).core.flags ||| (s.eng e).newFlags, res := ((s.eng e).core.res + (s.eng e).newRes) % resM } } := by
  rw [slotDone, if_neg (by decide), endBraid, showFetch_eng, eng_updEng_same]

end Sys2Proof.Machine

open Sys2Proof Sys2Proof.Machine

/-- Settles O36: the table of the operations as slots of their class and code, arming by its checks in order, the end of a braid by its branch. -/
theorem engineOperations : Obligations.EngineOperations := by
  refine ⟨fun e hw s => ?_, fun e hw s => ⟨fun t h => next_eq ?_, fun t k w u cause depth h hu => next_eq ?_, fun t k w u h hu => next_eq ?_⟩,
    fun c op e hw s => ⟨fun h => ?_, fun d hd he => ⟨fun hi hc hop => ?_, fun hi h => ?_, fun hi hb => ?_, fun hi hb hl => ?_,
      fun hi hb hl hlegal => ?_, fun hi hb hl hlegal hc hop => ⟨fun ev hev => ?_, fun hev => ?_⟩⟩⟩,
    fun wf ws i j r hlegal hij hj hr => ?_,
    fun e s => ⟨fun k hk => ?_, fun he => ⟨?_, ?_, ?_, fun hb => ?_, fun a hb => ?_, fun a n hb => ?_⟩⟩⟩
  · intro table p hp
    have hslot : IsSlot e hw s p := by
      revert p
      refine List.forall_mem_append.mpr ⟨?_, ?_⟩
      · repeat' refine List.forall_mem_cons.mpr ⟨⟨_, rfl⟩, ?_⟩
        exact List.forall_mem_nil _
      · repeat' refine List.forall_mem_cons.mpr ⟨⟨_, rfl⟩, ?_⟩
        exact List.forall_mem_nil _
    obtain ⟨body, hbody⟩ := hslot
    rw [hbody]
    exact ⟨fun t h => next_eq (runSlot_of_stop h), fun t k w u cause depth h hu => next_eq (runSlot_of_fault h hu),
      fun t k w u h hu hskip hg => next_eq (runSlot_of_masked h hu hskip hg)⟩
  · rw [runNop, h]
  · rw [runNop, h]
    dsimp only
    rw [hu]
  · rw [runNop, h]
    dsimp only
    rw [hu]
  · rcases h with h | h
    · simp only [armSlot, h]
    · simp only [armSlot, h]
      split <;> rfl
  · simp [armSlot, hd, he, hi, hc, hop]
  · rcases h with h | h <;> simp [armSlot, hd, he, hi, h]
  · simp [armSlot, hd, he, hi, hb]
  · simp [armSlot, hd, he, hi, Nat.not_le.mpr hb, hl]
  · simp [armSlot, hd, he, hi, Nat.not_le.mpr hb, Nat.not_le.mpr hl, hlegal]
  · simp [armSlot, hd, he, hi, Nat.not_le.mpr hb, Nat.not_le.mpr hl, hlegal, hc, hop, hev]
  · simp [armSlot, hd, he, hi, Nat.not_le.mpr hb, Nat.not_le.mpr hl, hlegal, hc, hop, hev]
  · obtain ⟨-, hdis⟩ := Bool.and_eq_true_iff.mp hlegal
    have := disjointOuts_getD hdis hij (by simpa using hj) (r := r)
    rw [slotOuts_getD wf ws (hij.trans hj), slotOuts_getD wf ws hj] at this
    exact this hr
  · rw [slotDone, if_pos hk, eng_updEng_same]
    exact ⟨rfl, rfl⟩
  · simp [slotDone_last]
  · simp [slotDone_last]
  · simp [slotDone_last]
  · simp [slotDone_last, he, nextFetch, hb]
  · simp [slotDone_last, he, nextFetch, hb]
  · simp [slotDone_last, he, nextFetch, hb]
end

section
/-! PROOFS. The scalar operations, predicates, moves and branches of the C slot (R269, R270, R275). -/

namespace Sys2Proof.Machine

section
variable {c : Cls} {i : Instr} {e : Fin 128} {op k : Nat} {body : Nat → Nat → Word128 → State → SlotRes} {s t v : State} {w : Word128}

/-- A slot operation that the hardware checks find good does what its body does. -/
theorem exec_slot_ok (hi : exec i s = .next (runSlot c op body e.val .ok s)) (harm : armSlot c false op e.val .ok s = .go t k w)
    (hg : GuardSkips c op → guardOn (t.eng e.val).view w = true) (hbody : body e.val k w t = .ok v) :
    exec i s = .next (slotDone v e.val k) :=
  hi.trans (next_eq (runSlot_of_ok harm rfl hg hbody))

theorem exec_slot_abort {cause : Nat} (hi : exec i s = .next (runSlot c op body e.val .ok s))
    (harm : armSlot c false op e.val .ok s = .go t k w) (hg : GuardSkips c op → guardOn (t.eng e.val).view w = true)
    (hbody : body e.val k w t = .abort cause) : exec i s = .next (abortDispatch t e.val cause 4) :=
  hi.trans (next_eq (runSlot_of_abort harm rfl hg hbody))

end

/-- The two's complement of a natural number is its residue. -/
theorem tc_natCast (w n : Nat) : tc w (n : Int) = n % 2 ^ w := by
  rw [tc, ← Int.natCast_mod, Int.toNat_natCast]

/-- An arithmetic shift right: the quotient of the word, filled with the sign. -/
theorem tc_sx_shift (w a : Nat) {sh : Nat} (h : sh ≤ w) : tc w (sx w a / (2 ^ sh : Nat)) =
    (if 2 ^ (w - 1) ≤ a % 2 ^ w then a % 2 ^ w / 2 ^ sh + (2 ^ w - 2 ^ (w - sh)) else a % 2 ^ w / 2 ^ sh) % 2 ^ w := by
  unfold sx
  dsimp only
  have hpow : 2 ^ w = 2 ^ (w - sh) * 2 ^ sh := by rw [← Nat.pow_add, Nat.sub_add_cancel h]
  have hle : 2 ^ (w - sh) ≤ 2 ^ w := Nat.pow_le_pow_right (by decide) (Nat.sub_le w sh)
  split
  · next hlt =>
    rw [if_neg (Nat.not_le.mpr hlt), ← Int.natCast_ediv, tc_natCast]
  · next hge =>
    rw [if_pos (Nat.not_lt.mp hge)]
    generalize a % 2 ^ w = m
    have hdiv : ((m : Int) - (2 ^ w : Nat)) / (2 ^ sh : Nat) = ((m / 2 ^ sh + (2 ^ w - 2 ^ (w - sh)) : Nat) : Int) - (2 ^ w : Nat) := by
      have hq : ((m : Int) - (2 ^ w : Nat)) / (2 ^ sh : Nat) = ((m / 2 ^ sh : Nat) : Int) - (2 ^ (w - sh) : Nat) := by
        rw [hpow, Nat.cast_mul, Int.sub_mul_ediv_right _ _ (by positivity), Int.natCast_ediv]
      rw [hq, Nat.cast_add, Nat.cast_sub hle]
      ring
    rw [hdiv, tc, Int.sub_emod_right, ← tc, tc_natCast]

/-- The model's conditions, as the statement writes them. -/
theorem condHolds_eq (c a b : Nat) : condHolds c a b = match c with
    | 0 => decide (a = b) | 1 => decide (a ≠ b) | 2 => decide (sx 64 a < sx 64 b) | 3 => decide (a < b)
    | 4 => decide (sx 64 a ≤ sx 64 b) | _ => decide (a ≤ b) := by
  obtain _ | _ | _ | _ | _ | c := c
  · rfl
  · exact Bool.eq_iff_iff.mpr (by simp [condHolds])
  all_goals rfl

theorem takeBranch_of_none {e target : Nat} {s : State} (h : (s.eng e).branch = none) : takeBranch e target s =
    .ok (pmc (s.updEng e fun g => { g with branch := some (target, 2) }) e 0x13 1) := if_neg (by simp [h])

theorem takeBranch_of_taken {e target : Nat} {s : State} (h : (s.eng e).branch ≠ none) : takeBranch e target s = .abort causeIllegal :=
  if_pos (Option.isSome_iff_ne_none.mpr h)

/-- The operation is one of the C slot, which with its guard true leaves a state before the slot is done. -/
def IsScalar (e : Fin 128) (s t v : State) (k : Nat) (w : Word128) (i : Instr) (op : Nat) : Prop :=
  ∃ body, exec i s = .next (runSlot .C op body e.val .ok s) ∧ body e.val k w t = .ok v

end Sys2Proof.Machine

open Sys2Proof Sys2Proof.Machine

/-- Settles O37: each operation as a slot of its code whose body writes the stated word. -/
theorem scalarOperations : Obligations.ScalarOperations := by
  intro e s t k w c a b sh m table p hp harm hg
  have hslot : IsScalar e s t (putC e.val k (.x w.rd) (p.2.2 % 2 ^ 64) t) k w p.1 p.2.1 := by
    clear harm
    revert p
    refine List.forall_mem_cons.mpr ⟨⟨opAdd, rfl, rfl⟩, ?_⟩
    refine List.forall_mem_cons.mpr ⟨⟨opSub, rfl, rfl⟩, ?_⟩
    refine List.forall_mem_cons.mpr ⟨⟨opAnd, rfl, rfl⟩, ?_⟩
    refine List.forall_mem_cons.mpr ⟨⟨opOr, rfl, rfl⟩, ?_⟩
    refine List.forall_mem_cons.mpr ⟨⟨opXor, rfl, rfl⟩, ?_⟩
    refine List.forall_mem_cons.mpr ⟨⟨opShl, rfl, rfl⟩, ?_⟩
    refine List.forall_mem_cons.mpr ⟨⟨opShr, rfl, rfl⟩, ?_⟩
    refine List.forall_mem_cons.mpr ⟨⟨opSra, rfl, ?sra⟩, ?_⟩
    case sra => exact congrArg (fun n => SlotRes.ok (putC e.val k (.x w.rd) n t)) ((congrArg (· % 2 ^ 64) (tc_sx_shift 64 a (Nat.mod_lt _ (by decide)).le)).trans (Nat.mod_mod _ _))
    refine List.forall_mem_cons.mpr ⟨⟨opMul, rfl, rfl⟩, ?_⟩
    refine List.forall_mem_cons.mpr ⟨⟨opAddi, rfl, rfl⟩, ?_⟩
    refine List.forall_mem_cons.mpr ⟨⟨opLi, rfl, rfl⟩, ?_⟩
    refine List.forall_mem_cons.mpr ⟨⟨opAddm, rfl, ?addm⟩, ?_⟩
    case addm => exact congrArg (fun n => SlotRes.ok (putC e.val k (.x w.rd) (n % 2 ^ 64) t)) (Nat.add_mod a b m).symm
    refine List.forall_mem_cons.mpr ⟨⟨opExt, rfl, rfl⟩, ?_⟩
    exact List.forall_mem_nil _
  obtain ⟨body, hi, hbody⟩ := hslot
  exact exec_slot_ok hi harm (fun _ => hg) hbody

/-- Settles O38: each as a slot of its code; a branch by whether one is taken already. -/
theorem predicatesAndBranches : Obligations.PredicatesAndBranches := by
  refine ⟨fun e s t k w => ?_, fun e s t k w => ⟨fun harm hg => ⟨fun h => ?_, fun h => ?_⟩, fun harm hg => ⟨fun h => ?_, fun h => ?_⟩,
    fun harm hg => ⟨fun h => ?_, fun h => ?_⟩, fun harm hg => exec_slot_ok rfl harm (fun _ => hg) rfl,
    fun harm hg => exec_slot_ok rfl harm (fun _ => hg) rfl⟩⟩
  · intro c a cond p q table x hx harm hg
    have hslot : IsScalar e s t (putC e.val k x.2.2.1 x.2.2.2 t) k w x.1 x.2.1 := by
      clear harm
      revert x
      refine List.forall_mem_cons.mpr ⟨⟨opCmp, rfl, ?_⟩, ?_⟩
      · exact congrArg (fun b => SlotRes.ok (putC e.val k (.p w.rd) (allOnes b) t)) (condHolds_eq w.mod a (c.getX w.rb))
      refine List.forall_mem_cons.mpr ⟨⟨opCmpi, rfl, ?_⟩, ?_⟩
      · exact congrArg (fun b => SlotRes.ok (putC e.val k (.p w.rd) (allOnes b) t)) (condHolds_eq w.mod a w.imm)
      refine List.forall_mem_cons.mpr ⟨⟨opVx, rfl, rfl⟩, ?_⟩
      refine List.forall_mem_cons.mpr ⟨⟨opPmov, rfl, rfl⟩, ?_⟩
      refine List.forall_mem_cons.mpr ⟨⟨opXp, rfl, rfl⟩, ?_⟩
      refine List.forall_mem_cons.mpr ⟨⟨opPlog, rfl, ?_⟩, ?_⟩
      · rfl
      exact List.forall_mem_nil _
    obtain ⟨body, hi, hbody⟩ := hslot
    exact exec_slot_ok hi harm (fun _ => hg) hbody
  · exact exec_slot_ok rfl harm (fun _ => hg) (takeBranch_of_none h)
  · exact exec_slot_abort rfl harm (fun _ => hg) (takeBranch_of_taken h)
  · exact exec_slot_ok rfl harm (fun _ => hg) (takeBranch_of_none (by simpa [putC, Engine.later] using h))
  · exact exec_slot_abort rfl harm (fun _ => hg) (takeBranch_of_taken (by simpa [putC, Engine.later] using h))
  · exact exec_slot_ok rfl harm (fun _ => hg) (takeBranch_of_none h)
  · exact exec_slot_abort rfl harm (fun _ => hg) (takeBranch_of_taken h)
end

section
/-! PROOFS. The P and M slots (R222, R255 to R259). -/

namespace Sys2Proof.Machine

/-! ## The swap of bytes (R256) -/

/-- Where a byte comes from when groups of q bytes are reversed. -/
def swapSrc (q i : Nat) : Nat := i / q * q + (q - 1 - i % q)

theorem swapSrc_lt {sw i : Nat} (hsw : sw < 4) (hi : i < 128) : swapSrc (2 ^ sw) i < 128 := by
  unfold swapSrc
  interval_cases sw <;> omega

theorem swapSrc_swapSrc {sw : Nat} (hsw : sw < 4) (i : Nat) : swapSrc (2 ^ sw) (swapSrc (2 ^ sw) i) = i := by
  unfold swapSrc
  interval_cases sw <;> omega

theorem swapBytes_length (sw : Nat) (b : Bytes) : (swapBytes sw b).length = b.length := by simp [swapBytes]

theorem swapBytes_getElem (sw : Nat) (b : Bytes) {i : Nat} (h : i < (swapBytes sw b).length) :
    (swapBytes sw b)[i] = b.getD (swapSrc (2 ^ sw) i) 0 := by
  simp only [swapBytes, List.getElem_map, List.getElem_range]
  rfl

/-- Reversing the groups twice gives the bytes back. -/
theorem swapBytes_swapBytes {sw : Nat} {b : Bytes} (hsw : sw < 4) (hb : b.length = 128) : swapBytes sw (swapBytes sw b) = b := by
  refine List.ext_getElem (by simp [swapBytes_length]) fun i h1 h2 => ?_
  have hlt : swapSrc (2 ^ sw) i < (swapBytes sw b).length := by
    rw [swapBytes_length, hb]
    exact swapSrc_lt hsw (hb ▸ h2)
  rw [swapBytes_getElem, List.getD_eq_getElem _ _ hlt, swapBytes_getElem, swapSrc_swapSrc hsw, List.getD_eq_getElem _ _ h2]

/-! ## PST (R255) -/

theorem opPst_of_outside {s : State} {e k : Nat} {w : Word128} (h : inTx (addrOf (s.eng e).view w) 128 = false) :
    opPst e k w s = .abort causeStaging := by
  simp only [opPst, h, Bool.not_false, ↓reduceIte]

theorem opPst_of_inside {s : State} {e k : Nat} {w : Word128} (h : inTx (addrOf (s.eng e).view w) 128 = true) :
    opPst e k w s = .ok (s.setEng e { s.eng e with core := { (s.eng e).core with
      stage := (pstBytes (s.eng e).view w).foldl (fun m b => sput m (addrOf (s.eng e).view w + b.1) b.2 0) (s.eng e).core.stage } }) := by
  simp only [opPst, h, Bool.not_true, Bool.false_eq_true, ↓reduceIte]

/-! ## PLDW (R258) -/

theorem opPldw_of_outside {s : State} {e k : Nat} {w : Word128} (h : (s.eng e).stageOk (addrOf (s.eng e).view w) 768 = false) :
    opPldw e k w s = .abort causeStaging := by
  simp only [opPldw, h, Bool.not_false, ↓reduceIte]

theorem opPldw_of_inside {s : State} {e k : Nat} {w : Word128} (h : (s.eng e).stageOk (addrOf (s.eng e).view w) 768 = true) :
    opPldw e k w s = .ok (s.setEng e { (s.eng e).laterCycle k 8 false (.w w.rd) (ones 6144)
      (winFromWire (if w.fmt = 8 then 12 else 24) ((s.eng e).stageRead (s.eng e).view (addrOf (s.eng e).view w) 768)) with
        pFree := (s.eng e).lc + 6 }) := by
  simp only [opPldw, h, Bool.not_true, Bool.false_eq_true, ↓reduceIte]

/-! ## PSEND (R256) -/

section
variable {s : State} {e k a : Nat} {w : Word128} {d : Dispatch}

/-- The frame at a staging offset begins a transmit cell, and ends within the area and its length limit. -/
def SendFits (c : Core) (a : Nat) : Prop :=
  a % 256 = 0 ∧ txBase ≤ a ∧ hPlen (stageHeader c a) ≤ 9216 ∧ a + hLen (stageHeader c a) ≤ stageEnd

theorem opPsend_of_range (hd : (s.eng e).disp = some d) (hr : w.mod % 4 ≠ 3)
    (h : (s.eng e).stageOk ((s.eng e).view.getX w.ra) 28 = false) : opPsend e k w s = .abort causeStaging := by
  simp only [opPsend, hd]
  exact (if_neg hr).trans (if_pos (by simp [h]))

theorem opPsend_of_misfit (hd : (s.eng e).disp = some d) (hr : w.mod % 4 ≠ 3)
    (h : (s.eng e).stageOk ((s.eng e).view.getX w.ra) 28 = true) (hfit : ¬ SendFits (s.eng e).view ((s.eng e).view.getX w.ra)) :
    opPsend e k w s = .abort causeIllegal := by
  simp only [opPsend, hd]
  refine (if_neg hr).trans ((if_neg (by simp [h])).trans ?_)
  split
  · rfl
  · next hplace =>
    refine if_pos ?_
    unfold SendFits at hfit
    omega

/-- A frame that may be sent goes, unless the knot is blocked or its record did not pass. -/
theorem opPsend_of_fits (hd : (s.eng e).disp = some d) (hr : w.mod % 4 ≠ 3)
    (h : (s.eng e).stageOk ((s.eng e).view.getX w.ra) 28 = true) (hfit : SendFits (s.eng e).view ((s.eng e).view.getX w.ra)) :
    opPsend e k w s =
      let c := (s.eng e).view
      let a := c.getX w.ra
      let x := s.knot d.knot
      let send := fun result rec => SlotRes.ok (sendFrame s e d a (w.mod % 4) result rec (stageHeader c a)
        (c.stageGet (a + 32) (hPlen (stageHeader c a))))
      if x.blocked && (w.m 2 || (x.type == 2 && w.mod % 4 == 2)) then .ok (s.knotCount (e / 16) 10)
      else if w.m 2 then
        (recordAt s e d.knot (c.getX w.rc) c).elim (.abort causePartition) fun r =>
          if r.2 then send true (some r.1) else .abort causeIllegal
      else send false none := by
  obtain ⟨hcell, hbase, hplen, hend⟩ := hfit
  simp only [opPsend, hd]
  refine (if_neg hr).trans ((if_neg (by simp [h])).trans ((if_neg (by omega)).trans ((if_neg (by omega)).trans ?_)))
  refine if_congr Iff.rfl rfl (if_congr Iff.rfl ?_ rfl)
  cases recordAt s e d.knot ((s.eng e).view.getX w.rc) (s.eng e).view <;> rfl

end

/-! ## M slots (R259) -/

section
variable {s : State} {e k n b : Nat} {w : Word128}

theorem opMst_of_all (h : mPlace s e w 128 = some b) (hg : guardVal (s.eng e).view w = none) : opMst e k w s =
    .ok (s.updEng e fun g => g.store k ((List.range 128).map fun i =>
      (b + i, BitVec.ofNat 8 (laneOf ((s.eng e).view.getV w.rb) 8 i)))) := by
  simp only [opMst, h, State.updEng, hg, List.filter_true]

theorem opMst_of_some {p : Nat} (h : mPlace s e w 128 = some b) (hg : guardVal (s.eng e).view w = some p) : opMst e k w s =
    .ok (s.updEng e fun g => g.store k (((List.range 128).filter fun i => p.testBit (i / 2)).map fun i =>
      (b + i, BitVec.ofNat 8 (laneOf ((s.eng e).view.getV w.rb) 8 i)))) := by
  simp only [opMst, h, State.updEng, hg]

end

end Sys2Proof.Machine

open Sys2Proof Sys2Proof.Machine

/-- Settles O41: each operation as a slot of its code, by the check that its place, its limits or its record fails. -/
theorem packetAndMemory : Obligations.PacketAndMemory := by
  refine ⟨fun e s t k w => ⟨fun ha hg h => ?_, fun ha hg h => ?_, fun ha h => ?_, fun ha h => ?_, fun ha hg h => ?_, fun ha hg h => ?_,
      fun ha hg h => ?_, fun f ha hg h => ?_, fun ha hg h => ?_, fun f d ha hg h hd hne => ?_, fun ha hg h => ?_, fun ha hg h => ?_,
      fun ha hg h => ?_, fun ha hg h => ?_, fun ha hg => exec_slot_ok rfl ha (fun _ => hg) rfl⟩,
    fun e s t k w d ha hg hd => ?send, fun e s t k w d ha hg hd => ⟨fun h => ?_, fun h => ?_⟩,
    fun e s t k w => ?mem, fun sw b hsw hb => swapBytes_swapBytes hsw hb⟩
  · exact exec_slot_abort rfl ha (fun _ => hg) (if_pos (by simp [h]))
  · exact exec_slot_ok rfl ha (fun _ => hg) (if_neg (by simp [h]))
  · exact exec_slot_abort rfl ha (by simp [GuardSkips]) (opPst_of_outside h)
  · exact exec_slot_ok rfl ha (by simp [GuardSkips]) (opPst_of_inside h)
  · exact exec_slot_abort rfl ha (fun _ => hg) (opPldw_of_outside h)
  · exact exec_slot_ok rfl ha (fun _ => hg) (opPldw_of_inside h)
  · exact exec_slot_abort rfl ha (fun _ => hg) (by simp only [opPacq, h])
  · exact exec_slot_ok rfl ha (fun _ => hg) (by simp only [opPacq, h])
  · exact exec_slot_abort rfl ha (fun _ => hg) (by simp only [opPrel, h])
  · exact exec_slot_ok rfl ha (fun _ => hg) (by simp [opPrel, h, hd, hne])
  · exact exec_slot_ok rfl ha (fun _ => hg) (if_neg (by simp [h]))
  · exact exec_slot_abort rfl ha (fun _ => hg) (if_pos (by simp [h]))
  · exact exec_slot_ok rfl ha (fun _ => hg) (if_neg (by simp [h]))
  · exact exec_slot_abort rfl ha (fun _ => hg) (if_pos (by simp [h]))
  case send =>
    refine ⟨fun hr => ?_, fun hr h => exec_slot_abort rfl ha (fun _ => hg) (opPsend_of_range hd hr h),
      fun hr h hfit => exec_slot_abort rfl ha (fun _ => hg) (opPsend_of_misfit hd hr h hfit),
      fun ⟨hr, h, hfit⟩ hb => ?_, fun ⟨hr, h, hfit⟩ hb hres => ?_, fun ⟨hr, h, hfit⟩ hb hres hrec => ?_,
      fun seg ⟨hr, h, hfit⟩ hb hres hrec => ?_, fun seg ⟨hr, h, hfit⟩ hb hres hrec => ?_⟩
    · exact exec_slot_abort rfl ha (fun _ => hg) (by simp only [opPsend, hd, not_not.mp hr, ↓reduceIte])
    · exact exec_slot_ok rfl ha (fun _ => hg) ((opPsend_of_fits hd hr h hfit).trans (if_pos (by simpa using hb)))
    · exact exec_slot_ok rfl ha (fun _ => hg) ((opPsend_of_fits hd hr h hfit).trans ((if_neg (by simpa using hb)).trans (if_neg hres)))
    all_goals have hfits := (opPsend_of_fits hd hr h hfit (k := k)).trans ((if_neg (by simpa using hb)).trans (if_pos hres))
    · exact exec_slot_abort rfl ha (fun _ => hg) (by rw [hfits, hrec, Option.elim_none])
    · exact exec_slot_abort rfl ha (fun _ => hg) (by rw [hfits, hrec]; rfl)
    · exact exec_slot_ok rfl ha (fun _ => hg) (by rw [hfits, hrec]; rfl)
  · exact exec_slot_abort rfl ha (fun _ => hg) (by simp only [opPret, hd]; exact if_pos h)
  · exact exec_slot_ok rfl ha (fun _ => hg) (by simp only [opPret, hd]; exact if_neg (by simp [h]))
  case mem =>
    refine ⟨fun ha hg h => ?_, fun ha h => ?_, fun ha hg h => ?_, fun ha hg h => ?_, fun b ha hg h => ?_, fun b ha hg h => ?_,
      fun b ha hg h => ?_, fun b ha h hg => exec_slot_ok rfl ha (by simp [GuardSkips]) (opMst_of_all h hg),
      fun b p ha h hg => exec_slot_ok rfl ha (by simp [GuardSkips]) (opMst_of_some h hg)⟩
    · exact exec_slot_abort rfl ha (fun _ => hg) (by simp only [opMld, show mPlace t e.val w 128 = none from h])
    · exact exec_slot_abort rfl ha (by simp [GuardSkips]) (by simp only [opMst, show mPlace t e.val w 128 = none from h])
    · exact exec_slot_abort rfl ha (fun _ => hg) (by simp only [opMldx, show mPlace t e.val w 8 = none from h])
    · exact exec_slot_abort rfl ha (fun _ => hg) (by simp only [opMstx, show mPlace t e.val w 8 = none from h])
    · exact exec_slot_ok rfl ha (fun _ => hg) (by simp only [opMld, show mPlace t e.val w 128 = some b from h, State.updEng])
    · exact exec_slot_ok rfl ha (fun _ => hg) (by simp only [opMldx, show mPlace t e.val w 8 = some b from h, State.updEng])
    · exact exec_slot_ok rfl ha (fun _ => hg) (by simp only [opMstx, show mPlace t e.val w 8 = some b from h, State.updEng])
end

section
/-! PROOFS. Segment control records, knot fields and the synchronisation of the C slot (R271 to R275). -/

namespace Sys2Proof.Machine

/-! ## The operations on records (R271 to R273) -/

section
variable {s : State} {e k : Nat} {w : Word128}

theorem opKarr_of_record {d : Dispatch} {r : SegRec} (hd : (s.eng e).disp = some d) (hk : d.kind = 0)
    (hr : readRec s e (s.eng e).view ((s.eng e).view.getX w.ra) = some r) : opKarr e k w s =
      let seg := (s.eng e).view.getX w.rb % 2 ^ 32
      let cell := r.at_ + 16 + d.member / 8
      let old := (sget (s.eng e).view.sram cell 0).toNat
      let n := (r.count + 1) % 65536
      if r.sealed then .ok (putC e k (.x w.rd) (negX 3) s)
      else if r.busy ∧ r.seg ≠ seg then .ok (putC e k (.x w.rd) (negX 2) s)
      else if old.testBit (d.member % 8) then .ok (putC e k (.x w.rd) (negX 1) s)
      else .ok (putC e k (.x w.rd) n (xchkCopy ((writeRec s e { r with busy := true, seg := seg, count := n }).updEng e fun g =>
        { g with core := g.core.ramPut cell [BitVec.ofNat 8 (setMaskBit old (d.member % 8) true)] }) e d seg)) := by
  simp only [opKarr, hd]
  refine (if_neg (not_not.mpr hk)).trans ?_
  rw [hr]

theorem opKcsum_of_record {r : SegRec} (hr : readRec s e (s.eng e).view ((s.eng e).view.getX w.ra) = some r) :
    opKcsum e k w s = .ok (writeRec s e { r with csum :=
      if r.csum = resM ∨ resM ≤ (s.eng e).view.getX w.rb then resM else (r.csum + (s.eng e).view.getX w.rb % resM) % resM }) := by
  simp only [opKcsum, hr]

theorem opKcsum_of_sum {r : SegRec} (hr : readRec s e (s.eng e).view ((s.eng e).view.getX w.ra) = some r) (hc : r.csum ≠ resM)
    (hb : (s.eng e).view.getX w.rb < resM) :
    opKcsum e k w s = .ok (writeRec s e { r with csum := (r.csum + (s.eng e).view.getX w.rb) % resM }) := by
  rw [opKcsum_of_record hr, if_neg (not_or.mpr ⟨hc, Nat.not_le.mpr hb⟩), Nat.mod_eq_of_lt hb]

theorem opKcsum_of_bad {r : SegRec} (hr : readRec s e (s.eng e).view ((s.eng e).view.getX w.ra) = some r)
    (h : r.csum = resM ∨ resM ≤ (s.eng e).view.getX w.rb) : opKcsum e k w s = .ok (writeRec s e { r with csum := resM }) := by
  rw [opKcsum_of_record hr, if_pos h]

/-- The record sealed with a status. -/
def sealRec (s : State) (e : Nat) (r : SegRec) (st : Nat) : State :=
  writeRec s e { r with sealed := true, status := st, passed := decide (st = 0) }

/-- What the senders and the checksum make of a record that is sealed. -/
def sealStatus (s : State) (e : Nat) (r : SegRec) (b : Nat) : Nat :=
  if r.count ≠ (s.knot (s.eng e).knotGen.1).expected then 0x04 else if r.csum ≠ b % resM then 0x15 else r.status

theorem opKseal_of_record {r : SegRec} (hr : readRec s e (s.eng e).view ((s.eng e).view.getX w.ra) = some r)
    (hs : r.sealed = false) : opKseal e k w s =
      let st := sealStatus s e r ((s.eng e).view.getX w.rb)
      let kg := (s.eng e).knotGen
      .ok (putC e k (.p w.rd) (allOnes (decide (st = 0))) (if st = 0 then
          let u := (sealRec s e r st).knotCount (e / 16) 9
          (u.partnerOf e kg.1 kg.2 fun x => x.seg == r.seg).elim u fun q => u.updEng q fun g => { g with xchk := g.xchk.map fun x =>
            { x with csum := some r.csum, sealAt := s.now } }
        else segFailed (sealRec s e r st) e kg.1 kg.2 r.seg)) := by
  simp only [opKseal, hr]
  refine (if_neg (by simp [hs])).trans ?_
  refine congrArg (fun v => SlotRes.ok (putC e k (.p w.rd) _ v)) (if_congr Iff.rfl ?_ rfl)
  dsimp only [sealRec, sealStatus]
  generalize State.partnerOf _ _ _ _ _ = partner
  cases partner <;> rfl

/-- A record that is sealed as failed is given up. -/
theorem opKseal_of_failed {r : SegRec} {st : Nat} (hr : readRec s e (s.eng e).view ((s.eng e).view.getX w.ra) = some r)
    (hs : r.sealed = false) (hst : sealStatus s e r ((s.eng e).view.getX w.rb) = st) (hbad : st ≠ 0) :
    opKseal e k w s = .ok (putC e k (.p w.rd) 0 (segFailed (sealRec s e r st) e (s.eng e).knotGen.1 (s.eng e).knotGen.2 r.seg)) := by
  rw [opKseal_of_record hr hs, hst]
  simp only [hbad, decide_false, allOnes, Bool.false_eq_true, ↓reduceIte]

theorem opKseal_of_passed {r : SegRec} (hr : readRec s e (s.eng e).view ((s.eng e).view.getX w.ra) = some r)
    (hs : r.sealed = false) (hst : sealStatus s e r ((s.eng e).view.getX w.rb) = 0) : opKseal e k w s =
      let u := (sealRec s e r 0).knotCount (e / 16) 9
      .ok (putC e k (.p w.rd) (2 ^ 64 - 1)
        ((u.partnerOf e (s.eng e).knotGen.1 (s.eng e).knotGen.2 fun x => x.seg == r.seg).elim u fun q =>
          u.updEng q fun g => { g with xchk := g.xchk.map fun x => { x with csum := some r.csum, sealAt := s.now } })) := by
  rw [opKseal_of_record hr hs, hst]
  rfl

end

/-! ## Knot fields (R274) -/

/-- The fields that KRD reads, by their codes. -/
theorem knotField_eq (x : Knot) (code : Nat) : knotField x code =
    [x.type, x.expected, x.format, tc 64 x.anchor, x.gen, x.jobTag, if x.native then 1 else 0, x.resultAddr, x.serviceAddr,
      x.get 10 31 0 + 2 ^ 32 * x.get 11 31 0][code]? := by
  obtain _ | _ | _ | _ | _ | _ | _ | _ | _ | _ | code := code <;> rfl

/-- A word of an entry reads as it was written. -/
theorem getD_setWord_same {x : Knot} {n : Nat} (h : n < x.words.length) (v : Word) : (x.setWord n v).words.getD n 0 = v := by
  simp [Knot.setWord, h]

/-- Word 1 with another anchor: the anchor reads, the home stays. -/
theorem anchor_setAnchor {x : Knot} (h : x.words.length = 64) (v : Nat) :
    (x.setWord 1 (BitVec.ofNat 32 (x.get 1 31 16 * 65536 + v % 65536))).anchor = toSigned 16 (v % 65536) := by
  have hlt : x.get 1 31 16 < 65536 := Nat.mod_lt _ (by decide)
  have hget : (x.setWord 1 (BitVec.ofNat 32 (x.get 1 31 16 * 65536 + v % 65536))).get 1 15 0 = v % 65536 := by
    rw [Knot.get, getD_setWord_same (by omega), BitVec.toNat_ofNat]
    omega
  rw [Knot.anchor, hget]

theorem home_setAnchor {x : Knot} (h : x.words.length = 64) (v : Nat) :
    (x.setWord 1 (BitVec.ofNat 32 (x.get 1 31 16 * 65536 + v % 65536))).home = x.home := by
  have hlt : (x.words.getD 1 0).toNat < 2 ^ 32 := (x.words.getD 1 0).isLt
  simp only [Knot.home, Knot.get] at *
  rw [getD_setWord_same (by omega), BitVec.toNat_ofNat]
  omega

end Sys2Proof.Machine

open Sys2Proof Sys2Proof.Machine

/-- Settles O42: each operation by the record it finds. -/
theorem segmentRecords : Obligations.SegmentRecords := by
  refine ⟨fun e s t k w d ha hg hd => ⟨fun h => ?_, fun h hr => ?_, fun r h hr => ⟨fun hs => ?_, fun hs hb hseg => ?_, fun hs hb hold => ?_,
      fun hs hb hold => ?_⟩⟩,
    fun e s t k w => ⟨fun ⟨ha, hg⟩ hr => ?_, fun r ⟨ha, hg⟩ hr hc hb => ?_, fun r ⟨ha, hg⟩ hr h => ?_, fun ⟨ha, hg⟩ hr => ?_,
      fun r ⟨ha, hg⟩ hr hs => ?_, fun r ⟨ha, hg⟩ hr hs => ⟨fun hn => ?_, fun hn hc => ?_, fun hn hc hst => ?_,
        fun hn hc hst => ⟨fun hq => ?_, fun q hq => ?_⟩⟩,
      fun ⟨ha, hg⟩ h => ?_, fun r ⟨ha, hg⟩ h0 h hr => ?_, fun ⟨ha, hg⟩ hr => ?_, fun r ⟨ha, hg⟩ hr => ?_⟩⟩
  · exact exec_slot_abort rfl ha (fun _ => hg) (by simp only [opKarr, hd]; exact if_pos h)
  · exact exec_slot_abort rfl ha (fun _ => hg) (by simp only [opKarr, hd, hr]; exact if_neg (not_not.mpr h))
  · exact exec_slot_ok rfl ha (fun _ => hg) ((opKarr_of_record hd h hr).trans (if_pos hs))
  · exact exec_slot_ok rfl ha (fun _ => hg) ((opKarr_of_record hd h hr).trans ((if_neg (by simp [hs])).trans (if_pos ⟨hb, hseg⟩)))
  · exact exec_slot_ok rfl ha (fun _ => hg) ((opKarr_of_record hd h hr).trans ((if_neg (by simp [hs])).trans
      ((if_neg fun ⟨h1, h2⟩ => hb.elim (by simp [h1]) h2).trans (if_pos hold))))
  · exact exec_slot_ok rfl ha (fun _ => hg) ((opKarr_of_record hd h hr).trans ((if_neg (by simp [hs])).trans
      ((if_neg fun ⟨h1, h2⟩ => hb.elim (by simp [h1]) h2).trans (if_neg (Bool.eq_false_iff.mp hold)))))
  · exact exec_slot_abort rfl ha (fun _ => hg) (by simp only [opKcsum, hr])
  · exact exec_slot_ok rfl ha (fun _ => hg) (opKcsum_of_sum hr hc hb)
  · exact exec_slot_ok rfl ha (fun _ => hg) (opKcsum_of_bad hr h)
  · exact exec_slot_abort rfl ha (fun _ => hg) (by simp only [opKseal, hr])
  · exact exec_slot_ok rfl ha (fun _ => hg) (by simp only [opKseal, hr]; exact if_pos hs)
  · exact exec_slot_ok rfl ha (fun _ => hg) (opKseal_of_failed hr hs (if_pos hn) (by decide))
  · exact exec_slot_ok rfl ha (fun _ => hg) (opKseal_of_failed hr hs ((if_neg (not_not.mpr hn)).trans (if_pos hc)) (by decide))
  · exact exec_slot_ok rfl ha (fun _ => hg)
      (opKseal_of_failed hr hs ((if_neg (not_not.mpr hn)).trans (if_neg (not_not.mpr hc))) hst)
  · refine exec_slot_ok rfl ha (fun _ => hg)
      ((opKseal_of_passed hr hs ((if_neg (not_not.mpr hn)).trans ((if_neg (not_not.mpr hc)).trans hst))).trans ?_)
    dsimp only [sealRec]
    rw [hq]
    rfl
  · refine exec_slot_ok rfl ha (fun _ => hg)
      ((opKseal_of_passed hr hs ((if_neg (not_not.mpr hn)).trans ((if_neg (not_not.mpr hc)).trans hst))).trans ?_)
    dsimp only [sealRec]
    rw [hq]
    rfl
  · refine exec_slot_abort rfl ha (fun _ => hg) (if_pos (h.imp_right fun h => by simp [h]))
  · refine exec_slot_ok rfl ha (fun _ => hg) ((if_neg (not_or.mpr ⟨h0, by simp [h]⟩)).trans ?_)
    rw [hr]
    rfl
  · exact exec_slot_abort rfl ha (fun _ => hg) (by simp only [opKfree, hr])
  · exact exec_slot_ok rfl ha (fun _ => hg) (by simp only [opKfree, hr])

/-- Settles O43: each operation as a slot of its code, and word 1 of an entry by its halves. -/
theorem knotFieldsAndSync : Obligations.KnotFieldsAndSync := by
  refine ⟨fun e s t k w => ⟨fun v ⟨ha, hg⟩ hv => ?_, fun ⟨ha, hg⟩ hv => ?_, fun ⟨ha, hg⟩ h => ?_,
      fun ⟨ha, hg⟩ h => ?_, fun ⟨ha, hg⟩ h3 h9 => exec_slot_abort rfl ha (fun _ => hg) ((if_neg h3).trans (if_neg h9)),
      fun ⟨ha, hg⟩ h => ?_, fun ⟨ha, hg⟩ h => ?_, fun ⟨ha, hg⟩ => ?_,
      fun ⟨ha, hg⟩ => exec_slot_ok rfl ha (fun _ => hg) rfl, fun ⟨ha, hg⟩ => exec_slot_ok rfl ha (fun _ => hg) rfl,
      fun ⟨ha, hg⟩ => ?_, fun ⟨ha, hg⟩ => ?_, fun ⟨ha, hg⟩ => ?_⟩,
    fun x v h => ⟨anchor_setAnchor h v, home_setAnchor h v⟩⟩
  · exact exec_slot_ok rfl ha (fun _ => hg) (by rw [opKrd, (knotField_eq _ w.imm).trans hv])
  · exact exec_slot_abort rfl ha (fun _ => hg) (by rw [opKrd, (knotField_eq _ w.imm).trans (List.getElem?_eq_none hv)])
  · exact exec_slot_ok rfl ha (fun _ => hg) (by simp only [opKwr, h, ↓reduceIte, setAnchor])
  · exact exec_slot_ok rfl ha (fun _ => hg) ((if_neg (by simp [h])).trans (if_pos h))
  · refine exec_slot_ok rfl ha (fun _ => hg) ?_
    simp only [opKtimer, show (t.eng e.val).view.getX w.ra = 0 from h, ↓reduceIte]
  · refine exec_slot_ok rfl ha (fun _ => hg) ?_
    simp only [opKtimer, show (t.eng e.val).view.getX w.ra ≠ 0 from h, ↓reduceIte, State.fab64]
  · exact exec_slot_ok rfl ha (fun _ => hg) (by simp only [opSanc, State.updEng])
  · exact exec_slot_ok rfl ha (fun _ => hg) (by simp only [opHstat])
  · exact exec_slot_ok rfl ha (fun _ => hg) (by simp only [opRdcyc, State.engCycle])
  · exact exec_slot_ok rfl ha (fun _ => hg) (by simp only [opRdtime, State.fab64])
end

section
/-! PROOFS. Dispatch and control of an engine (R220 to R242, R275). -/

namespace Sys2Proof.Machine

/-! ## The receive area (R225) -/

theorem exec_engineFrameArrive_ok (e : Fin 128) (bad : Bool) (s : State) :
    exec (.engineFrameArrive e bad .ok) s = .next (doEngineFrameArrive e.val bad s) := rfl

/-- A place in the receive area: free, and at an end of the free cells it takes. -/
theorem mem_rxRoom {g : Engine} {n c : Nat} (h : c ∈ g.rxRoom n) :
    (∀ i < n, g.rxTaken (c + i) = false) ∧ (c = 0 ∨ g.rxTaken (c - 1) = true ∨ g.rxTaken (c + n) = true) := by
  obtain ⟨-, h⟩ := List.mem_filter.mp h
  simpa [or_assoc] using h

/-- A free cell lies in the area, and in no frame. -/
theorem rxTaken_eq_false {g : Engine} {c : Nat} (h : g.rxTaken c = false) :
    c < 384 ∧ ∀ f ∈ g.rx, ¬ (f.cell ≤ c ∧ c < f.cell + f.cells) := by
  simpa [Engine.rxTaken] using h

/-- A frame that finds room is received at one of the places. -/
theorem doEngineFrameArrive_of_room {e id : Nat} {rest : List Nat} {s : State} (hw : (s.eng e).rxWait = id :: rest)
    (ht : s.engTakes e = true) (hroom : (s.eng e).rxRoom (cellsOf (hLen (s.frm id).frame.hdr)) ≠ []) :
    ∃ c ∈ (s.eng e).rxRoom (cellsOf (hLen (s.frm id).frame.hdr)),
      doEngineFrameArrive e false s = receiveFrame (s.drawFree 9).2 e id c := by
  simp only [doEngineFrameArrive, hw, ht, Bool.not_true, Bool.false_eq_true, ↓reduceIte]
  generalize (s.eng e).rxRoom (cellsOf (hLen (s.frm id).frame.hdr)) = room at hroom ⊢
  cases room with
  | nil => exact absurd rfl hroom
  | cons c cs =>
    refine ⟨(c :: cs).getD ((s.drawFree 9).1 % (c :: cs).length) c, ?_, rfl⟩
    rw [List.getD_eq_getElem _ _ (Nat.mod_lt _ (by simp))]
    exact List.getElem_mem _

/-! ## Dispatch (R220) -/

section
variable {e : Nat} {s : State}

/-- A READY engine that runs, without a dispatch, on a die that is not held. -/
def MayDispatch (e : Nat) (s : State) : Prop :=
  s.engState e = 3 ∧ s.bit (engReg R.ENGINE_STATUS e) F.ENGINE_STATUS_GATED = false ∧ (s.eng e).disp = none ∧
    s.dieHeld (e / 16) = false

theorem doEngineDispatch_of_not (bad : Bool) (h : ¬ MayDispatch e s) : doEngineDispatch e bad s = s := by
  refine if_pos ?_
  by_contra hc
  simp only [not_or, ne_eq, not_not, Bool.not_eq_true, Option.isSome_eq_false_iff, Option.isNone_iff_eq_none] at hc
  exact h hc

theorem MayDispatch.not_stop (h : MayDispatch e s) : ¬ (s.engState e ≠ 3 ∨ s.bit (engReg R.ENGINE_STATUS e) F.ENGINE_STATUS_GATED = true ∨
    (s.eng e).disp.isSome = true ∨ s.dieHeld (e / 16) = true) := by
  obtain ⟨hstate, hgate, hdisp, hheld⟩ := h
  simp [hstate, hgate, hdisp, hheld]

/-- It takes the head of CONTROL, or else of TIMER, or else of FRAME. -/
theorem doEngineDispatch_of_control {k op gen : Nat} {rest : List (Nat × Nat × Nat)} (bad : Bool) (h : MayDispatch e s)
    (hc : (s.eng e).control = (k, op, gen) :: rest) :
    doEngineDispatch e bad s = beginControl (s.setEng e { s.eng e with control := rest }) e k op gen := by
  refine (if_neg h.not_stop).trans ?_
  simp only [hc]

theorem doEngineDispatch_of_timer {k : Nat} {rest : List Nat} (bad : Bool) (h : MayDispatch e s) (hc : (s.eng e).control = [])
    (ht : (s.eng e).timer = k :: rest) : doEngineDispatch e bad s = beginTimer (s.setEng e { s.eng e with timer := rest }) e k := by
  refine (if_neg h.not_stop).trans ?_
  simp only [hc, ht]

theorem doEngineDispatch_of_frame {c : Nat} {rest : List Nat} {f : RxFrame} (bad : Bool) (h : MayDispatch e s) (hc : (s.eng e).control = [])
    (ht : (s.eng e).timer = []) (hq : (s.eng e).frameQ = c :: rest) (hf : (s.eng e).rxAt c = some f) : doEngineDispatch e bad s =
      if bad then
        (dropBadStaging (s.setEng e { s.eng e with frameQ := rest, rx := (s.eng e).rx.filter fun r => r.cell != c }) e).markIdle e
      else beginFrame (s.setEng e { s.eng e with frameQ := rest }) e f := by
  refine (if_neg h.not_stop).trans ?_
  simp only [hc, ht, hq, hf]

theorem doEngineDispatch_of_none (bad : Bool) (h : MayDispatch e s) (hc : (s.eng e).control = []) (ht : (s.eng e).timer = [])
    (hq : (s.eng e).frameQ = []) : doEngineDispatch e bad s = s := by
  refine (if_neg h.not_stop).trans ?_
  simp only [hc, ht, hq]

end

/-! ## The check of START, and gating (R237, R241) -/

theorem doStartCheckDone_of_check {e : Nat} {s : State} (h : s.engState e = 2) : doStartCheckDone e s =
    let st := startStatus s e
    let s1 := s.setF (engReg R.ENGINE_STATUS e) F.ENGINE_STATUS_START_STATUS st
    engEvent (if st = 0 then (s1.setEngState e 3).markIdle e else enterHalted s1 e) e F.ENGINE_EVENT_START_DONE :=
  if_neg (not_not.mpr h)

/-- Partitions of a layout lie in the state SRAM, one behind the other. -/
theorem partition_disjoint {layout n m : Nat} {a b : Nat × Nat} (ha : partition layout n = some a) (hb : partition layout m = some b) :
    a.1 + a.2 ≤ 0x180000 ∧ (n < m → a.1 + a.2 ≤ b.1) := by
  obtain _ | _ | _ | layout := layout
  all_goals
    simp only [partition] at ha hb
    repeat' split at ha
  all_goals repeat' split at hb
  all_goals simp only [Option.some.injEq, reduceCtorEq, Prod.ext_iff] at ha hb
  all_goals omega

end Sys2Proof.Machine

open Sys2Proof Sys2Proof.Machine

/-- Settles O44: an arrival by its room, a dispatch by the queue it comes from, its end by its state. -/
theorem engineDispatch : Obligations.EngineDispatch := by
  refine ⟨fun e bad s => ⟨fun h => ?_, fun id rest h => ⟨fun ht => ?_, fun ht => ?_, fun ht hr => ?_, fun ht hr => ?_⟩⟩,
    fun g n c hn hc => ⟨?_, fun f hf i h1 h2 => ?_, (mem_rxRoom hc).2⟩,
    fun e bad s => ⟨fun h => next_eq (doEngineDispatch_of_not bad h), fun k op gen rest h hc => next_eq (doEngineDispatch_of_control bad h hc),
      fun k rest h hc ht => next_eq (doEngineDispatch_of_timer bad h hc ht),
      fun c rest f h hc ht hq hf => ⟨next_eq (doEngineDispatch_of_frame false h hc ht hq hf),
        next_eq (doEngineDispatch_of_frame true h hc ht hq hf)⟩,
      fun h hc ht hq => next_eq (doEngineDispatch_of_none bad h hc ht hq)⟩,
    fun e s => ⟨fun h => next_eq ?_, fun d hd he => next_eq ?_, fun hd he hi hs hb => next_eq (if_pos ?_), fun h => next_eq (if_neg ?_)⟩,
    fun k s => ⟨fun h => next_eq ?_, fun t ht hdue hst => next_eq ?_, fun t ht h => next_eq ?_⟩⟩
  · rw [exec_engineFrameArrive_ok, doEngineFrameArrive, h]
  · rw [exec_engineFrameArrive_ok, doEngineFrameArrive, h]
    exact next_eq (if_pos (by simp [ht]))
  · rw [exec_engineFrameArrive_ok, doEngineFrameArrive, h]
    exact next_eq ((if_neg (by simp [ht])).trans (if_pos rfl))
  · rw [exec_engineFrameArrive_ok, doEngineFrameArrive, h]
    refine next_eq ((if_neg (by simp [ht])).trans ((if_neg (by simp)).trans ?_))
    dsimp only
    rw [hr]
  · obtain ⟨c, hc, heq⟩ := doEngineFrameArrive_of_room h ht hr
    exact ⟨c, hc, (exec_engineFrameArrive_ok e false s).trans (next_eq heq)⟩
  · have hlast := (rxTaken_eq_false ((mem_rxRoom hc).1 (n - 1) (by omega))).1
    omega
  · have hfree := (rxTaken_eq_false ((mem_rxRoom hc).1 (i - c) (by omega))).2 f hf
    rwa [Nat.add_sub_cancel' h1] at hfree
  · unfold doDispatchEnd
    split
    · rfl
    · exact if_pos (by simpa [*] using h)
  · simp only [doDispatchEnd, hd, he, Bool.not_true, Bool.false_eq_true, ↓reduceIte]
  · simp [hd, he, hi, hs, hb]
  · rcases h with h | h | h <;> simp [h]
  · simp only [doKnotTimerExpire, h]
  · simp only [doKnotTimerExpire, ht]
    exact if_pos ⟨hdue, hst⟩
  · simp only [doKnotTimerExpire, ht]
    refine if_neg fun ⟨h1, h2⟩ => ?_
    exact h.elim (Nat.not_lt.mpr h1) fun h => h2.elim h.1 h.2

/-- Settles O45: each operation by the engine's state. -/
theorem engineControl : Obligations.EngineControl := by
  refine ⟨fun e gate s => ⟨fun h => next_eq (if_pos h), fun h => next_eq (if_neg h), fun h => next_eq (if_pos h),
      fun h0 h => next_eq ((if_neg (not_not.mpr h0)).trans (if_pos h)), fun h0 h => next_eq ?_,
      fun h0 h3 h4 => next_eq ((if_neg (not_not.mpr h0)).trans ((if_neg h3).trans (if_neg h4))),
      fun h => next_eq (if_pos h), fun h0 h7 => next_eq (if_neg (not_or.mpr ⟨h0, h7⟩))⟩,
    fun e s => ⟨fun h => next_eq (if_pos h), fun h hl => next_eq ?_, fun h h0 hl hcrc => next_eq ?_, fun h h0 hl hcrc => next_eq ?_⟩,
    fun e v s => ⟨fun h => next_eq (if_pos h), fun h => next_eq (if_neg h), fun h => next_eq (if_pos h), fun h => next_eq (if_neg h)⟩,
    fun layout n m a b ha hb => partition_disjoint ha hb,
    fun e s => ⟨fun h => next_eq (if_pos ?_), fun h => next_eq (if_neg ?_), fun h => next_eq (if_pos ?_), fun h => next_eq (if_neg ?_)⟩⟩
  · exact (if_neg (not_not.mpr h0)).trans ((if_neg (ne_of_eq_of_ne h (by decide))).trans (if_pos h))
  · have hst : startStatus s e.val = 0x10 := if_pos hl
    rw [doStartCheckDone_of_check h, hst]
    rfl
  · have hst : startStatus s e.val = 0x15 := (if_neg (by omega)).trans (if_neg hcrc)
    rw [doStartCheckDone_of_check h, hst]
    rfl
  · have hst : startStatus s e.val = 0 := (if_neg (by omega)).trans (if_pos hcrc)
    rw [doStartCheckDone_of_check h, hst]
    rfl
  · simpa [and_assoc] using h
  · simpa [and_assoc] using h
  · simpa using h
  · simpa using h
end

section
/-! PROOFS. Row operations, locks and transactions of the Hold (R326 to R335). -/

namespace Sys2Proof.Machine

/-! ## The memory of the Hold -/

theorem mendBad_mem (s : State) (p : Nat → Bool) : (mendBad s p).hold.mem = s.hold.mem := by
  unfold mendBad
  split
  · rfl
  · rfl

theorem holdWrite_mem (s : State) (a : Nat) (b : Bytes) : (s.holdWrite a b).hold.mem = sputs s.hold.mem a b 0 := mendBad_mem _ _

/-- Consecutive values are equal where each of them is. -/
theorem sgets_congr {α : Type} {m m' : SMap α} {d : α} {n c : Nat} (h : ∀ i < c, sget m (n + i) d = sget m' (n + i) d) :
    sgets m n c d = sgets m' n c d := by
  induction c generalizing n with
  | zero => rfl
  | succ c ih =>
    refine congrArg₂ List.cons (h 0 (Nat.succ_pos c)) (ih fun i hi => ?_)
    have h1 := h (i + 1) (Nat.succ_lt_succ hi)
    rwa [Nat.add_comm i 1, ← Nat.add_assoc] at h1

/-- Consecutive values that are each known. -/
theorem sgets_eq {α : Type} {m : SMap α} {d : α} {n : Nat} {vs : List α}
    (h : ∀ (i : Nat) (hi : i < vs.length), sget m (n + i) d = vs[i]) : sgets m n vs.length d = vs := by
  induction vs generalizing n with
  | nil => rfl
  | cons v vs ih =>
    refine congrArg₂ List.cons (h 0 (Nat.succ_pos _)) (ih fun i hi => ?_)
    rw [Nat.add_assoc, Nat.add_comm 1 i]
    exact h (i + 1) (Nat.succ_lt_succ hi)

/-- Bytes written to a memory read back. -/
theorem sgets_sputs (m : SMap Byte) (a : Nat) (b : Bytes) : sgets (sputs m a b 0) a b.length 0 = b :=
  sgets_eq fun _ hi => sget_sputs_in m a b 0 hi

/-- Bytes beside those that are written stay as they are. -/
theorem sgets_sputs_out (m : SMap Byte) (a : Nat) (b : Bytes) {c n : Nat} (h : c + n ≤ a ∨ a + b.length ≤ c) :
    sgets (sputs m a b 0) c n 0 = sgets m c n 0 :=
  sgets_congr fun i hi => sget_sputs_out m a b 0 0 (by omega)

theorem holdRead_holdWrite_same (s : State) (a : Nat) (b : Bytes) : (s.holdWrite a b).holdRead a b.length = b := by
  rw [State.holdRead, holdWrite_mem, sgets_sputs]

theorem holdRead_holdWrite_out (s : State) (a : Nat) (b : Bytes) {c n : Nat} (h : c + n ≤ a ∨ a + b.length ≤ c) :
    (s.holdWrite a b).holdRead c n = s.holdRead c n := by
  rw [State.holdRead, holdWrite_mem, sgets_sputs_out _ _ _ h, State.holdRead]

/-! ## An operation of an engine (R326, R327) -/

/-- It is the first of its engine, on a die that can be reached. -/
def firstOp (s : State) (e : Nat) (o : HoldOp) : Prop :=
  (s.holdPath (e / 16) (s.holdDie o.key)).isSome = true ∧ earlierOp s o = false ∧ o.waited = false

/-- A lock request against the order, or beyond the count. -/
def refusedOp (s : State) (o : HoldOp) : Prop := o.kind = .getLock ∧ o.granted = false ∧ lockRefused s o = true

/-- Its row is locked, or another waits for it. -/
def heldOp (s : State) (e : Nat) (o : HoldOp) : Prop :=
  s.lockedByOther o.key e o.serial = true ∨ (o.granted = false ∧ waiterAhead s o = true)

section
variable {e i : Nat} {hw : HoldHw} {s : State} {o : HoldOp}

theorem doHoldOpComplete_of_none (h : ((holdUpset s hw).hold.ops.filter fun o => o.engine == e)[i]? = none) :
    doHoldOpComplete e i hw s = holdUpset s hw := by
  simp only [doHoldOpComplete, h]

/-- Table of the outcomes of an outstanding operation. -/
theorem doHoldOpComplete_of_some (h : ((holdUpset s hw).hold.ops.filter fun o => o.engine == e)[i]? = some o) :
    doHoldOpComplete e i hw s =
      if ((holdUpset s hw).holdPath (e / 16) ((holdUpset s hw).holdDie o.key)).isNone || earlierOp (holdUpset s hw) o || o.waited then
        holdUpset s hw
      else if o.kind == .getLock && !o.granted && lockRefused (holdUpset s hw) o then
        completeOp (holdUpset s hw) o ⟨0x10, none, holdUpset s hw⟩
      else if (holdUpset s hw).lockedByOther o.key e o.serial || (!o.granted && waiterAhead (holdUpset s hw) o) then
        waitOp (holdUpset s hw) o
      else completeOp (holdUpset s hw) o (rowOp (holdUpset s hw) o (holdMech hw)) := by
  simp only [doHoldOpComplete, h]

theorem firstOp_iff : firstOp s e o ↔
    ((s.holdPath (e / 16) (s.holdDie o.key)).isNone || earlierOp s o || o.waited) = false := by
  simp [firstOp, Option.isSome_iff_ne_none, and_assoc]

theorem refusedOp_iff : refusedOp s o ↔ (o.kind == .getLock && !o.granted && lockRefused s o) = true := by
  simp [refusedOp, and_assoc]

theorem heldOp_iff : heldOp s e o ↔
    (s.lockedByOther o.key e o.serial || (!o.granted && waiterAhead s o)) = true := by
  simp [heldOp]

variable (h : ((holdUpset s hw).hold.ops.filter fun o => o.engine == e)[i]? = some o)
include h

theorem doHoldOpComplete_of_not_first (h1 : ¬ firstOp (holdUpset s hw) e o) : doHoldOpComplete e i hw s = holdUpset s hw :=
  (doHoldOpComplete_of_some h).trans (if_pos (Bool.not_eq_false _ ▸ mt firstOp_iff.mpr h1))

theorem doHoldOpComplete_of_refused (h1 : firstOp (holdUpset s hw) e o) (h2 : refusedOp (holdUpset s hw) o) :
    doHoldOpComplete e i hw s = completeOp (holdUpset s hw) o ⟨0x10, none, holdUpset s hw⟩ :=
  (doHoldOpComplete_of_some h).trans ((if_neg (Bool.eq_false_iff.mp (firstOp_iff.mp h1))).trans (if_pos (refusedOp_iff.mp h2)))

theorem doHoldOpComplete_of_held (h1 : firstOp (holdUpset s hw) e o) (h2 : ¬ refusedOp (holdUpset s hw) o)
    (h3 : heldOp (holdUpset s hw) e o) : doHoldOpComplete e i hw s = waitOp (holdUpset s hw) o :=
  (doHoldOpComplete_of_some h).trans ((if_neg (Bool.eq_false_iff.mp (firstOp_iff.mp h1))).trans
    ((if_neg (mt refusedOp_iff.mpr h2)).trans (if_pos (heldOp_iff.mp h3))))

theorem doHoldOpComplete_of_free (h1 : firstOp (holdUpset s hw) e o) (h2 : ¬ refusedOp (holdUpset s hw) o)
    (h3 : ¬ heldOp (holdUpset s hw) e o) :
    doHoldOpComplete e i hw s = completeOp (holdUpset s hw) o (rowOp (holdUpset s hw) o (holdMech hw)) :=
  (doHoldOpComplete_of_some h).trans ((if_neg (Bool.eq_false_iff.mp (firstOp_iff.mp h1))).trans
    ((if_neg (mt refusedOp_iff.mpr h2)).trans (if_neg (mt heldOp_iff.mpr h3))))

end

/-! ## What an operation does to its row -/

section
variable {s : State} {o : HoldOp} {mech : Nat}

theorem rowOp_of_bad (h : s.badKey o.key = true ∨ s.imageBytes (shapeOf o.key) < o.len) : rowOp s o mech = ⟨0x10, none, s⟩ := by
  unfold rowOp
  by_cases hb : s.badKey o.key = true
  · exact if_pos hb
  · exact (if_neg hb).trans (if_pos (h.resolve_left hb))

theorem rowOp_of_offline (hb : s.badKey o.key = false) (hl : o.len ≤ s.imageBytes (shapeOf o.key))
    (ho : s.holdOnline (s.holdDie o.key) = false) : rowOp s o mech = ⟨0x17, none, s⟩ := by
  unfold rowOp
  exact (if_neg (Bool.eq_false_iff.mp hb)).trans ((if_neg (Nat.not_lt.mpr hl)).trans (if_pos (Bool.not_eq_true' _ ▸ ho)))

theorem rowOp_of_unlock (hb : s.badKey o.key = false) (hl : o.len ≤ s.imageBytes (shapeOf o.key))
    (ho : s.holdOnline (s.holdDie o.key) = true) (hk : o.kind = .unlock) : rowOp s o mech =
      if !(s.locksOf o.engine o.serial).contains o.key then ⟨0x10, none, s⟩
      else if o.txn then ⟨0, none, unlockTxn s o⟩ else ⟨0, none, dropLock s o.key o.engine o.serial⟩ := by
  simp only [rowOp, hb, Nat.not_lt.mpr hl, ho, hk, Bool.false_eq_true, ↓reduceIte, Bool.not_true]

theorem notMem_locksOf_dropLock (s : State) (key e serial : Nat) : key ∉ (dropLock s key e serial).locksOf e serial := by
  intro hm
  obtain ⟨l, hl, hk⟩ := List.mem_map.mp hm
  obtain ⟨hd, ho⟩ := List.mem_filter.mp hl
  obtain ⟨_, hn⟩ := List.mem_filter.mp hd
  obtain ⟨he, hs⟩ := Bool.and_eq_true_iff.mp ho
  rw [he, hs, beq_iff_eq.mpr hk] at hn
  exact Bool.false_ne_true hn

end

/-! ## The grant of a lock -/

theorem doHoldLockGrant_of_none {m : Nat} {s : State} (h : s.hold.ops.find? (s.grantable m) = none) : doHoldLockGrant m s = s := by
  simp only [doHoldLockGrant, h]

theorem doHoldLockGrant_of_some {m : Nat} {s : State} {o : HoldOp} (h : s.hold.ops.find? (s.grantable m) = some o) :
    doHoldLockGrant m s =
      let lock := o.kind == .getLock && s.dispatchLive o.engine o.serial
      let s1 := setOp s o { o with waited := false, granted := lock }
      if lock then takeLock s1 o.key o.engine o.serial else s1 := by
  simp only [doHoldLockGrant, h]

/-! ## The commit of a transactional scatter, and its outcome (R329, R330) -/

section
variable {e : Nat} {s : State} {x : Scatter}

/-- The writes that a dispatch has staged. -/
def txnWrites (s : State) (e serial : Nat) : List Staged := s.hold.staged.filter fun w => w.engine == e && w.serial == serial

/-- The dies of the rows that a dispatch writes or locks. -/
def txnDies (s : State) (e serial : Nat) : List Nat :=
  (((txnWrites s e serial).map (·.key) ++ s.locksOf e serial).map s.holdDie).dedup

variable (h : s.hold.scatters.find? (fun x => x.engine == e && x.txn && x.ended && !x.settled) = some x)
include h

theorem doHoldTxnCommit_of_ops (ho : s.opsOf e x.serial = true) : doHoldTxnCommit e s = s := by
  simp only [doHoldTxnCommit, h, ho, ↓reduceIte]

theorem doHoldTxnCommit_of_failed (ho : s.opsOf e x.serial = false)
    (hg : ¬ (x.bad = 0 ∧ ∀ m ∈ txnDies s e x.serial, s.holdOnline m = true)) :
    doHoldTxnCommit e s = updScatter (discardStaged s e x.serial) e x.serial fun y =>
      { y with settled := true, bad := if y.bad = 0 then 0x17 else y.bad } := by
  simp only [doHoldTxnCommit, h]
  refine (if_neg (Bool.eq_false_iff.mp ho)).trans (if_pos ?_)
  by_cases hb : x.bad = 0
  · refine .inr ?_
    obtain ⟨m, hm, hl⟩ := not_forall₂.mp fun hd => hg ⟨hb, hd⟩
    exact List.any_eq_true.mpr ⟨m, hm, by simp [hl]⟩
  · exact .inl hb

theorem doHoldTxnCommit_of_good (ho : s.opsOf e x.serial = false)
    (hg : x.bad = 0 ∧ ∀ m ∈ txnDies s e x.serial, s.holdOnline m = true) :
    doHoldTxnCommit e s =
      let s2 := (txnDies s e x.serial).foldl (fun s m => s.count (R.HOLD_COUNT m 12)) ((txnWrites s e x.serial).foldl applyStaged s)
      updScatter (releaseLocks { s2 with hold := { s2.hold with
        staged := s2.hold.staged.filter fun w => !(w.engine == e && w.serial == x.serial) } } e x.serial) e x.serial fun y =>
          { y with settled := true } := by
  simp only [doHoldTxnCommit, h]
  refine (if_neg (Bool.eq_false_iff.mp ho)).trans (if_neg (not_or.mpr ⟨not_not.mpr hg.1, ?_⟩))
  intro hl
  obtain ⟨m, hm, hl⟩ := List.any_eq_true.mp hl
  simp [hg.2 m hm] at hl

end

end Sys2Proof.Machine

open Sys2Proof Sys2Proof.Machine

/-- Settles O46: the outcomes of an operation as its die, the engine's order, the refusals and the waiting have it; its row; the memory;
the grant of a lock; the commit of a scatter and its outcome. -/
theorem holdRows : Obligations.HoldRows := by
  unfold Obligations.HoldRows
  refine ⟨fun e i hw s0 => ?ops, fun o mech s => ⟨fun h => ?_, fun hb hl ho => ?_, fun hb hl ho hk hc => ?_,
    fun hb hl ho hk hc ht => ?_⟩, fun a b s => ⟨holdRead_holdWrite_same s a b, fun c n h => holdRead_holdWrite_out s a b h⟩,
    fun m s => ⟨fun h => next_eq (doHoldLockGrant_of_none h), fun o h => next_eq (doHoldLockGrant_of_some h)⟩, fun e s => ?commit, fun e s => ⟨fun h => next_eq ?_, fun x h =>
      ⟨fun hw => next_eq ?_, fun hw => next_eq ?_⟩⟩⟩
  case ops =>
    exact ⟨fun h => next_eq (doHoldOpComplete_of_none h), fun o h => ⟨fun h1 => next_eq (doHoldOpComplete_of_not_first h h1),
      fun h1 h2 => next_eq (doHoldOpComplete_of_refused h h1 h2), fun h1 h2 h3 => next_eq (doHoldOpComplete_of_held h h1 h2 h3),
      fun h1 h2 h3 => next_eq (doHoldOpComplete_of_free h h1 h2 h3)⟩⟩
  case commit =>
    refine ⟨fun h => next_eq ?_, fun x h ho => next_eq (doHoldTxnCommit_of_ops h ho), fun x h ho =>
      ⟨fun hg => next_eq (doHoldTxnCommit_of_failed h ho hg), fun hg => next_eq (doHoldTxnCommit_of_good h ho hg)⟩⟩
    simp only [doHoldTxnCommit, h]
  · simp only [rowOp_of_bad h, and_self]
  · simp only [rowOp_of_offline hb hl ho, and_self]
  · rw [rowOp_of_unlock hb hl ho hk, if_pos (by simp only [hc, Bool.not_false])]
    exact ⟨rfl, rfl⟩
  · rw [rowOp_of_unlock hb hl ho hk, if_neg (by simp only [hc, Bool.not_true, Bool.false_eq_true, not_false_eq_true]),
      if_neg (Bool.eq_false_iff.mp ht)]
    exact ⟨rfl, notMem_locksOf_dropLock s o.key o.engine o.serial⟩
  · simp only [doScatterStatus, h]
  · simp only [doScatterStatus, h, hw, Bool.false_eq_true, ↓reduceIte]
  · simp only [doScatterStatus, h, hw, ↓reduceIte]
end

section
/-! PROOFS. Gathers, the patrol and the configuration of the Hold (R315 to R325, R335, R336). -/

namespace Sys2Proof.Machine

/-! ## Bits of a mask -/

/-- A power of two added to a mask that lacks it changes that bit alone. -/
theorem testBit_add_two_pow {m i : Nat} (h : m.testBit i = false) (j : Nat) :
    (m + 2 ^ i).testBit j = if j = i then true else m.testBit j := by
  rw [Nat.add_comm]
  obtain hj | rfl | hj := Nat.lt_trichotomy j i
  · rw [if_neg hj.ne, Nat.testBit_two_pow_add_gt hj]
  · rw [if_pos rfl, Nat.testBit_two_pow_add_eq, h, Bool.not_false]
  · obtain ⟨k, rfl⟩ := Nat.exists_eq_add_of_lt hj
    rw [if_neg hj.ne', show i + k + 1 = k + (i + 1) by omega, Nat.testBit_add, Nat.testBit_add]
    refine congrArg (Nat.testBit · k) ?_
    rw [Nat.pow_succ, ← Nat.div_div_eq_div_mul, ← Nat.div_div_eq_div_mul, Nat.add_comm, Nat.add_div_right _ (Nat.two_pow_pos i)]
    have he : m / 2 ^ i % 2 ≠ 1 := by simpa [Nat.testBit_eq_decide_div_mod_eq] using h
    omega

theorem testBit_setMaskBit (m i : Nat) (b : Bool) (j : Nat) :
    (setMaskBit m i b).testBit j = if j = i then b else m.testBit j := by
  unfold setMaskBit
  by_cases h : m.testBit i = b
  · rw [if_pos h]
    split
    · next hj => rw [hj, h]
    · rfl
  rw [if_neg h]
  cases b with
  | true => exact testBit_add_two_pow (Bool.eq_false_iff.mpr h) j
  | false =>
    have hm : m.testBit i = true := Bool.eq_true_of_not_eq_false h
    have hsub : m = (m - 2 ^ i) + 2 ^ i := (Nat.sub_add_cancel (Nat.ge_two_pow_of_testBit hm)).symm
    have hi : (m - 2 ^ i).testBit i = false := by
      rwa [hsub, Nat.add_comm, Nat.testBit_two_pow_add_eq, Bool.not_eq_true'] at hm
    simp only [Bool.false_eq_true, ↓reduceIte]
    split
    · next hj => rw [hj, hi]
    · next hj => rw [hsub, testBit_add_two_pow hi, if_neg hj, ← hsub]

/-! ## What a report leaves of the Hold -/

theorem setEvent_hold (s : State) (v : Nat) (r : RegRef) (f : Fld) : (setEvent s v r f).hold = s.hold := by
  obtain ⟨h, o, e⟩ := setEvent_eq s v r f
  rw [e]
  rfl

theorem countFinding_hold (s : State) (r : LogRec) : (countFinding s r).hold = s.hold := by
  unfold countFinding
  split
  · rfl
  split
  · rfl
  split
  · rfl
  · rfl

theorem pushRec_hold (s : State) (r : LogRec) : (pushRec s r).hold = s.hold := by
  unfold pushRec
  dsimp only
  split
  · rfl
  · exact setEvent_hold _ _ _ _

theorem queueRec_hold (s : State) (r : LogRec) : (queueRec s r).hold = s.hold := by
  unfold queueRec
  dsimp only
  split
  · split
    · exact pushRec_hold _ _
    · rfl
  · exact pushRec_hold _ _

theorem fileRec_hold (s : State) (r : LogRec) : (fileRec s r).hold = s.hold :=
  (queueRec_hold _ _).trans (countFinding_hold _ _)

theorem eccLog_patrol (s : State) (m line : Nat) (unc : Bool) : (eccLog s m line unc).hold.patrol = s.hold.patrol := by
  unfold eccLog
  dsimp only
  split
  · rfl
  · rw [setEvent_hold]

theorem reportBad_patrol (s : State) (m line mech : Nat) : (reportBad s m line mech).hold.patrol = s.hold.patrol := by
  unfold reportBad fileHold
  dsimp only
  rw [fileRec_hold, setEvent_hold]
  exact eccLog_patrol _ m line true

theorem meetBad_patrol (s : State) (m a n mech : Nat) : (meetBad s m a n mech).2.hold.patrol = s.hold.patrol := by
  unfold meetBad
  dsimp only
  generalize s.badLines a n = ls
  induction ls generalizing s with
  | nil => rfl
  | cons l ls ih => exact (ih _).trans (reportBad_patrol _ _ _ _)

/-- The patrol stands at the line after the one it read. -/
theorem doHoldScrub_patrol {m : Nat} {hw : HoldHw} {s : State} (h : s.fld (R.HOLD_SCRUB_CTRL m) F.HOLD_SCRUB_CTRL_PASS_H ≠ 0) :
    sget (doHoldScrub m hw s).hold.patrol m 0 = if sget (holdUpset s hw).hold.patrol m 0 + 1 < 941176470 then
      sget (holdUpset s hw).hold.patrol m 0 + 1 else 0 := by
  unfold doHoldScrub
  rw [if_neg h]
  dsimp only
  rw [meetBad_patrol]
  generalize (if sget (holdUpset s hw).hold.patrol m 0 + 1 < 941176470 then sget (holdUpset s hw).hold.patrol m 0 + 1 else 0) = n
  by_cases hn : n = 0
  · rw [if_pos hn]
    exact sget_sput_same (holdUpset s hw).hold.patrol m n 0
  · rw [if_neg hn]
    exact sget_sput_same (holdUpset s hw).hold.patrol m n 0

/-! ## The next response of a gather (R323, R324) -/

section
variable {d i : Nat} {hw : HoldHw} {s : State} {g : Gather}

/-- Keys of the next response of a gather. -/
def nextKeys (s : State) (g : Gather) : List Nat :=
  (g.keys.drop g.pos).take (9216 / (16 + s.valueBytes (shapeOf (g.keys.headD 0))))

/-- Every die of the next response can be reached, and staging has room. -/
def mayRespond (s : State) (d : Nat) (g : Gather) : Prop :=
  (∀ k ∈ nextKeys s g, (s.holdPath d (s.holdDie k)).isSome = true) ∧
    s.rspBytes d + 36 + (nextKeys s g).length * (16 + s.valueBytes (shapeOf (g.keys.headD 0))) ≤ 262144

variable (h : ((holdUpset s hw).gathersOf d)[i]? = some g)
include h

theorem doHoldGatherResponse_of_not (hm : ¬ mayRespond (holdUpset s hw) d g) : doHoldGatherResponse d i hw s = holdUpset s hw := by
  simp only [doHoldGatherResponse, h]
  by_cases hp : ∀ k ∈ nextKeys (holdUpset s hw) g, ((holdUpset s hw).holdPath d ((holdUpset s hw).holdDie k)).isSome = true
  · exact (ite_eq_left_iff.mpr fun _ => if_pos (Nat.not_le.mp fun hl => hm ⟨hp, hl⟩))
  · obtain ⟨k, hk, hn⟩ := not_forall₂.mp hp
    exact if_pos (List.any_eq_true.mpr ⟨k, hk, by simpa using hn⟩)

theorem doHoldGatherResponse_of_may (hm : mayRespond (holdUpset s hw) d g) :
    doHoldGatherResponse d i hw s = ((nextKeys (holdUpset s hw) g).find? ((holdUpset s hw).gatherBlocked g)).elim
      (let s := holdUpset s hw
       let sh := shapeOf (g.keys.headD 0)
       let v := 16 + s.valueBytes sh
       let ks := nextKeys s g
       let last := g.pos + ks.length == g.keys.length
       let r := ((List.range ks.length).zip ks).foldl (fun (acc : Bytes × State) x =>
         let r := gatherRecord sh (holdMech hw) acc.2 x.2 (g.pos + x.1)
         (acc.1 ++ r.1, r.2)) ([], s)
       let h := mkHeader 1 tGatherRsp (s.fld (R.HOLD_CTRL 8) F.HOLD_CTRL_RSP_TC)
         (s.fld R.YFP_DEV_CTRL F.YFP_DEV_CTRL_ORIGIN_HOP_LIMIT) (hChannel g.hdr) (if last then 8 else 0) (hSrc g.hdr)
         (hDest g.hdr) (hSeq g.hdr) (hGen g.hdr) g.knot (ks.length * v) (hFmt g.hdr) (ks.headD 0 / 2 ^ 32) (ks.headD 0 % 2 ^ 32)
       let a := r.2.addFrm { FrameRec.init with
         frame := mkFrame h r.1, inDie := d, origin := .holdRsp, engine := d * 16, tc := hTc h, whole := true }
       let s3 := if last then (setGathers a.2 d ((a.2.gathersOf d).erase g)).count (R.HOLD_COUNT 8 0)
         else setGather a.2 d g { g with pos := g.pos + ks.length, waited := false, ticket := 0 }
       originate (s3.count (R.HOLD_COUNT 8 2)) d a.1) (waitGather (holdUpset s hw) d g) := by
  simp only [doHoldGatherResponse, h]
  obtain ⟨hp, hl⟩ := hm
  refine (if_neg fun hn => ?_).trans ((if_neg (Nat.not_lt.mpr hl)).trans ?_)
  · obtain ⟨k, hk, hn⟩ := List.any_eq_true.mp hn
    have hs := hp k hk
    rw [Option.isNone_iff_eq_none.mp hn] at hs
    exact Bool.false_ne_true hs
  · dsimp only [nextKeys]
    split
    · next hf => rw [hf]; rfl
    · next hf => rw [hf]; rfl

end

/-! ## The configuration -/

theorem regionsOk_fit {rs : List (Nat × Nat)} (h : regionsOk rs = true) : ∀ r ∈ rs, r.1 + r.2 ≤ holdBytes := by
  induction rs with
  | nil => exact fun _ hr => nomatch hr
  | cons r rs ih =>
    obtain ⟨⟨hfit, _⟩, hrest⟩ : (r.1 + r.2 ≤ holdBytes ∧ _) ∧ regionsOk rs = true := by simpa [regionsOk] using h
    exact List.forall_mem_cons.mpr ⟨hfit, ih hrest⟩

theorem regionsOk_disjoint {rs : List (Nat × Nat)} (h : regionsOk rs = true) :
    rs.Pairwise fun a b => ∀ x, ¬ (a.1 ≤ x ∧ x < a.1 + a.2 ∧ b.1 ≤ x ∧ x < b.1 + b.2) := by
  induction rs with
  | nil => exact .nil
  | cons r rs ih =>
    simp only [regionsOk, Bool.and_eq_true, decide_eq_true_eq, List.all_eq_true, Bool.or_eq_true] at h
    obtain ⟨⟨_, hapart⟩, hrest⟩ := h
    refine .cons (fun q hq x => ?_) (ih hrest)
    have := hapart q hq
    omega

/-- What EN makes of the regions where RSP_TC stays. -/
theorem writeHoldCtrl_of_same {m : Nat} {v : Word} {s : State} (h : F.HOLD_CTRL_RSP_TC.get v = s.fld (R.HOLD_CTRL m) F.HOLD_CTRL_RSP_TC) :
    writeHoldCtrl m v s =
      if (F.HOLD_CTRL_EN.get v == 1) = s.holdEn m then s
      else if (F.HOLD_CTRL_EN.get v == 1) = true then
        if regionsOk (holdRegions s m) then
          let s2 := (s.setBit (R.HOLD_CTRL m) F.HOLD_CTRL_EN).setF (R.HOLD_STATUS m) F.HOLD_STATUS_STATE 1
          { s2 with hold := { s2.hold with lost := setMaskBit s2.hold.lost m false } }
        else holdRefused s m
      else (s.setF (R.HOLD_CTRL m) F.HOLD_CTRL_EN 0).setF (R.HOLD_STATUS m) F.HOLD_STATUS_STATE 0 := by
  simp only [writeHoldCtrl, if_pos h, beq_iff_eq]

/-- A write that leaves EN as it is. -/
theorem writeHoldCtrl_of_en {m : Nat} {v : Word} {s : State} (h : F.HOLD_CTRL_EN.get v = 1 ↔ s.holdEn m = true) :
    writeHoldCtrl m v s = if F.HOLD_CTRL_RSP_TC.get v = s.fld (R.HOLD_CTRL m) F.HOLD_CTRL_RSP_TC then s
      else if s.holdEn 8 || s.holdEn 9 then holdRefused s m else setRspTc s (F.HOLD_CTRL_RSP_TC.get v) := by
  have he : ((F.HOLD_CTRL_EN.get v == 1) == s.holdEn m) = true := by
    rw [beq_iff_eq, Bool.eq_iff_iff, beq_iff_eq, h]
  simp only [writeHoldCtrl]
  exact if_pos he

/-- A write to a register that is locked. -/
theorem writeHoldReg_of_locked {m v : Nat} {r : HoldReg} {s : State}
    (h : (if holdShared r then s.holdEn 8 || s.holdEn 9 else s.holdEn m) = true) (hr : r ≠ .seed) :
    writeHoldReg m r v s = holdRefused s m := by
  refine (if_neg (by rw [h]; exact Bool.false_ne_true)).trans ?_
  cases r with
  | seed => exact absurd rfl hr
  | indexCtrl => rfl
  | ringBase => rfl
  | ringSize => rfl
  | shape sh => rfl
  | poolBase sh => rfl
  | poolRows sh => rfl

/-! ## The clear (R335) -/

/-- What a filter drops reads as a key not listed. -/
theorem sget_filter_out {α : Type} {m : SMap α} {p : Nat × α → Bool} {a : Nat} (d : α) (h : ∀ v, p (a, v) = false) :
    sget (m.filter p) a d = d := by
  induction m with
  | nil => rfl
  | cons e m ih =>
    obtain ⟨k, v⟩ := e
    rw [List.filter_cons]
    split
    · next hp =>
      refine (if_neg fun hk => ?_).trans ih
      rw [← hk, h v] at hp
      exact Bool.false_ne_true hp
    · exact ih

theorem rowsUsed_setRows_same (s : State) (m sh : Nat) (rs : List Nat) : (setRows s m sh rs).rowsUsed m sh = rs :=
  sget_sput_same s.hold.rows (m * 16 + sh) rs []

theorem rowsUsed_setRows_ne (s : State) (m : Nat) {sh n : Nat} (rs : List Nat) (h : n ≠ sh) :
    (setRows s m sh rs).rowsUsed m n = s.rowsUsed m n :=
  sget_sput_ne s.hold.rows (show m * 16 + n ≠ m * 16 + sh by omega) rs [] []

theorem rowsUsed_of_hold {s t : State} (h : s.hold = t.hold) (m sh : Nat) : s.rowsUsed m sh = t.rowsUsed m sh := by
  rw [State.rowsUsed, State.rowsUsed, h]

theorem foldl_setRows_mem (m : Nat) (ns : List Nat) (s : State) :
    (ns.foldl (fun s sh => setRows s m sh []) s).hold.mem = s.hold.mem := by
  induction ns generalizing s with
  | nil => rfl
  | cons n ns ih => exact ih _

theorem foldl_setRows_rows (m : Nat) {ns : List Nat} {n : Nat} (s : State) (h : n ∈ ns ∨ s.rowsUsed m n = []) :
    (ns.foldl (fun s sh => setRows s m sh []) s).rowsUsed m n = [] := by
  induction ns generalizing s with
  | nil => exact h.resolve_left (List.not_mem_nil)
  | cons k ns ih =>
    refine ih _ ?_
    by_cases hk : n = k
    · exact .inr (hk ▸ rowsUsed_setRows_same s m k [])
    · refine h.imp (fun hn => (List.mem_cons.mp hn).resolve_left hk) fun hr => ?_
      exact (rowsUsed_setRows_ne s m [] hk).trans hr

/-- The index without its entries, and without the errors of its lines. -/
def emptyIndex (m : Nat) (s : State) : State :=
  let b := holdBase m
  let n := 2 ^ s.fld (R.HOLD_INDEX_CTRL m) F.HOLD_INDEX_CTRL_BUCKETS_LOG2 * 128
  mendBad { s with hold := { s.hold with
    mem := s.hold.mem.filter fun c => !(decide (b ≤ c.1) && decide (c.1 < b + n)),
    cache := sput s.hold.cache m [] [] } } fun l => decide (b ≤ l * 128) && decide (l * 128 < b + n)

section
variable {m : Nat} {s : State} (h : s.fld (R.HOLD_STATUS m) F.HOLD_STATUS_STATE = 1)
include h

theorem doHoldClearDone_hold :
    (doHoldClearDone m s).hold = ((List.range 16).foldl (fun s sh => setRows s m sh []) (emptyIndex m s)).hold := by
  unfold doHoldClearDone emptyIndex
  rw [if_neg (not_not.mpr h), setEvent_hold, setF_hold]

theorem doHoldClearDone_rows {sh : Nat} (hs : sh < 16) : (doHoldClearDone m s).rowsUsed m sh = [] := by
  exact (rowsUsed_of_hold (doHoldClearDone_hold h) m sh).trans (foldl_setRows_rows m _ (.inl (List.mem_range.mpr hs)))

theorem doHoldClearDone_mem {a : Nat} (ha : holdBase m ≤ a)
    (hb : a < holdBase m + 2 ^ s.fld (R.HOLD_INDEX_CTRL m) F.HOLD_INDEX_CTRL_BUCKETS_LOG2 * 128) :
    sget (doHoldClearDone m s).hold.mem a 0 = 0 := by
  rw [doHoldClearDone_hold h, foldl_setRows_mem, emptyIndex, mendBad_mem]
  exact sget_filter_out 0 fun v => by simp [ha, hb]

end

end Sys2Proof.Machine

open Sys2Proof Sys2Proof.Machine

/-- Settles O47: the requests in service and their next response; the patrol; EN and RSP_TC; the regions; the clear; the configuration
registers; the loss of a die and of a link. -/
theorem holdGathersAndConfig : Obligations.HoldGathersAndConfig := by
  unfold Obligations.HoldGathersAndConfig
  refine ⟨fun d s => ⟨fun h => next_eq ?_, fun id rest h hn => next_eq ?_⟩, fun d i hw s0 => ⟨fun h => next_eq ?_, fun g h => ?gather⟩,
    fun m hw s => ⟨fun h => next_eq (if_pos h), fun h => ⟨_, rfl, doHoldScrub_patrol h⟩⟩,
    fun m v s => fun h => next_eq (writeHoldCtrl_of_en h), fun m v s => ?enable, fun rs h => ⟨regionsOk_disjoint h, regionsOk_fit h⟩,
    fun m s => ⟨fun h => next_eq (if_pos h), fun h => ⟨_, rfl, fun sh hs => doHoldClearDone_rows h hs, fun a ha hb =>
      doHoldClearDone_mem h ha hb⟩⟩,
    fun m r v s => ?config, fun m s => rfl, fun d m s => ?links⟩
  case gather =>
    refine ⟨fun hm => next_eq (doHoldGatherResponse_of_not h hm), fun k hm hk => next_eq ?_, fun hm hk => next_eq ?_⟩
    · exact (doHoldGatherResponse_of_may h hm).trans (congrArg (Option.elim · _ _) hk)
    · exact (doHoldGatherResponse_of_may h hm).trans (congrArg (Option.elim · _ _) hk)
  case enable =>
    refine ⟨fun h he hd hr => next_eq ?_, fun h he hd hr => next_eq ?_, fun h he hd => next_eq ?_⟩
    · rw [writeHoldCtrl_of_same h]
      simp only [he, hd, hr, BEq.rfl, Bool.true_eq_false, Bool.false_eq_true, ↓reduceIte]
    · rw [writeHoldCtrl_of_same h]
      simp only [he, hd, hr, BEq.rfl, Bool.true_eq_false, ↓reduceIte]
    · rw [writeHoldCtrl_of_same h]
      simp only [he, hd, Nat.reduceBEq, Bool.false_eq_true, ↓reduceIte]
  case config =>
    refine ⟨fun h hr => next_eq (writeHoldReg_of_locked h hr), fun h hr => next_eq ?_,
      fun h => next_eq (if_pos (by rw [Bool.not_eq_true']; exact h))⟩
    subst hr
    exact if_neg (by rw [h]; exact Bool.false_ne_true)
  case links =>
    refine ⟨_, _, rfl, rfl, rfl, rfl, ?_, ?_, ?_, fun i hi => ⟨?_, ?_⟩⟩
    · exact (testBit_setMaskBit _ _ _ _).trans (if_pos rfl)
    · exact (testBit_setMaskBit _ _ _ _).trans (if_pos rfl)
    · refine if_pos ?_
      dsimp only
      rw [Nat.add_sub_cancel_left, testBit_setMaskBit, if_pos rfl, Bool.not_false]
    · exact (testBit_setMaskBit _ _ _ _).trans (if_neg hi)
    · exact (testBit_setMaskBit _ _ _ _).trans (if_neg hi)
  · rw [doHoldGatherServe]
    cases hq : (s.die d.val).holdIn with
    | nil => rfl
    | cons id rest => exact if_pos (h.resolve_left (by simp [hq]))
  · rw [doHoldGatherServe, h]
    exact if_neg (Nat.not_le.mpr hn)
  · simp only [doHoldGatherResponse, h]
end

section
/-! PROOFS. Commands of a knot interface, and the flush (R281 to R288, R312). -/

namespace Sys2Proof.Machine

/-! ## The interface -/

section
variable {i k : Nat} {s : State}

theorem knotCmd_of_busy (f : State → State) (h : s.knotBusy i = true) : knotCmd i k f s = s := if_pos h

theorem knotCmd_of_free (f : State → State) (h : s.knotBusy i = false) :
    knotCmd i k f s = f (s.setF (R.KNOT_CMD i) F.KNOT_CMD_KNOT k) := if_neg (Bool.eq_false_iff.mp h)

end

/-! ## LOAD (R284) -/

theorem loadKnot_of_taken {s : State} {k : Nat} (x : Knot) (h : (s.knot k).state = 0 ∨ (s.knot k).state = 3) :
    loadKnot s k x = (loadCheck s k x, if loadCheck s k x = 0 then enterLoaded s k x else s) :=
  if_neg fun hn => h.elim hn.1 hn.2

theorem loadKnot_of_refused {s : State} {k : Nat} (x : Knot) (h0 : (s.knot k).state ≠ 0) (h3 : (s.knot k).state ≠ 3) :
    loadKnot s k x = (0x10, s) := if_pos ⟨h0, h3⟩

section
variable {s : State} {k : Nat} {x : Knot}

/-- A live engine is neither held nor retired. -/
theorem not_held_of_engLive {e : Nat} (h : s.engLive e = true) : ¬ (s.engState e = 6 ∨ s.engState e = 7) := by
  simp only [State.engLive, Bool.or_eq_true, beq_iff_eq] at h
  omega

theorem loadCheck_of_dead (h1 : fieldsOk s x = true) (h2 : ¬ (s.engState x.home = 6 ∨ s.engState x.home = 7))
    (h3 : s.engLive x.home = false ∨ partition (s.layout x.home) x.part = none) : loadCheck s k x = 0x10 := by
  simp only [loadCheck, h1, Bool.not_true, Bool.false_eq_true, ↓reduceIte, h2]
  by_cases hl : s.engLive x.home = true
  · simp only [hl, h3.resolve_left (by simp [hl]), Bool.not_true, Bool.false_eq_true, ↓reduceIte]
  · simp only [hl, Bool.not_false, ↓reduceIte]

theorem loadCheck_of_partition {q : Nat × Nat} (h1 : fieldsOk s x = true) (h2 : s.engLive x.home = true)
    (h3 : partition (s.layout x.home) x.part = some q) :
    loadCheck s k x = if q.2 < x.stateBytes ∨ 2 ^ 20 < x.stateBytes then 0x11 else if s.tagClash k x x.home then 0x10 else 0 := by
  simp only [loadCheck, h1, h2, h3, not_held_of_engLive h2, Bool.not_true, Bool.false_eq_true, ↓reduceIte]

theorem knot_setKnot_same (s : State) (k : Nat) (x : Knot) : (s.setKnot k x).knot k = x := sget_sput_same s.knots k x Knot.init

theorem knot_updEng (s : State) (e k : Nat) (f : Engine → Engine) : (s.updEng e f).knot k = s.knot k := rfl

theorem knot_wakeAsk (s : State) (e k : Nat) : (wakeAsk s e).knot k = s.knot k := by
  unfold wakeAsk
  split
  · rfl
  · rfl

/-- A knot that is loaded. -/
theorem knot_enterLoaded (s : State) (k : Nat) (x : Knot) : ∃ ws, (enterLoaded s k x).knot k =
    { Knot.init with state := 1, gen := ((s.knot k).gen + 1) % 256, words := ws } := by
  unfold enterLoaded
  dsimp only
  split
  · exact ⟨_, knot_setKnot_same _ _ _⟩
  · exact ⟨_, (knot_wakeAsk _ _ _).trans ((knot_updEng _ _ _ _).trans (knot_setKnot_same _ _ _))⟩

end

/-! ## The flush (R285) -/

section
variable {k : Nat} {s : State}

theorem doFlushDone_of_waiting {f : Flush} (hf : (s.knot k).flush = some f) (h : (s.knot k).state ≠ 2 ∨ flushReady s k (s.knot k) f = false) :
    doFlushDone k s = s := by
  simp only [doFlushDone, hf]
  exact if_pos (h.imp_right fun hr => by rw [hr]; rfl)

/-- The knot is FLUSHED, and its event is set. -/
def flushed (s : State) (k : Nat) : State :=
  let x := s.knot k
  let d := x.home / 16
  (setEvent (dropArrived (s.setKnot k { x with state := 3, timer := none, flush := none }) k x.home) (52 + d) (R.KNOT_EVENT d)
    F.KNOT_EVENT_FLUSH_DONE).knotCount d 14

theorem doFlushDone_of_ready {f : Flush} (hf : (s.knot k).flush = some f) (h2 : (s.knot k).state = 2)
    (hr : flushReady s k (s.knot k) f = true) : doFlushDone k s =
      let r := if f.waits.any (·.advance) then advanceReload (flushed s k) k f.prev else (0, flushed s k)
      f.waits.foldl (answerFlush k r.1) r.2 := by
  simp only [doFlushDone, hf]
  refine (if_neg fun hn => ?_).trans rfl
  exact hn.elim (fun h => h h2) fun h => by simp [hr] at h

end

end Sys2Proof.Machine

open Sys2Proof Sys2Proof.Machine

/-- Settles O48: a busy interface; each command on a free one, by the knot's state; the entry loaded; a marker; the end of a flush; the
checks of LOAD in order. -/
theorem knotCommands : Obligations.KnotCommands := by
  unfold Obligations.KnotCommands
  refine ⟨fun i k s h => ?busy, fun i k s0 hb => ?free, fun k x s _ => ?loaded,
    fun k d s => ⟨fun h => next_eq (if_neg fun hn => ?_), fun h2 hd => next_eq (if_pos ⟨h2, by rw [hd]; rfl⟩)⟩,
    fun k s => ⟨fun h => next_eq ?_, fun f hf h2 hr => next_eq (doFlushDone_of_waiting hf (.inr hr)), fun f hf h2 hr =>
      ⟨fun ha => next_eq ?_, fun ha => next_eq ?_⟩⟩, fun k x s => ?check⟩
  case busy =>
    simp only [List.mem_cons, List.not_mem_nil, or_false, forall_eq_or_imp, forall_eq]
    exact ⟨next_eq (knotCmd_of_busy _ h), next_eq (knotCmd_of_busy _ h), next_eq (knotCmd_of_busy _ h), next_eq (knotCmd_of_busy _ h),
      next_eq (knotCmd_of_busy _ h), next_eq (knotCmd_of_busy _ h)⟩
  case free =>
    refine ⟨fun h0 h3 => next_eq ?_, fun h hc => next_eq ?_, fun h hc => next_eq ?_, fun h => next_eq ?_, fun h => next_eq ?_,
      fun h => next_eq ?_, fun h => next_eq ?_, fun h => next_eq ?_, fun h => next_eq ?_, fun h => ⟨next_eq ?_, next_eq ?_⟩,
      fun h => next_eq ?_, fun h => next_eq ?_, fun h => next_eq ?_, fun h1 h4 => next_eq ?_⟩
    all_goals refine (knotCmd_of_free _ hb).trans ?_
    · rw [loadKnot_of_refused _ h0 h3]
    · rw [loadKnot_of_taken _ h]
      simp only [hc, ↓reduceIte]
    · rw [loadKnot_of_taken _ h]
      simp only [hc, ↓reduceIte]
    · exact if_pos h
    · exact if_neg h
    · simp only [h, ↓reduceIte]
      refine congrArg (finishKnotCmd · i.val k.val 0) (congrArg (fun f => List.foldl f _ _) ?_)
      funext t w
      cases w with
      | zero => rfl
      | succ w => rfl
    · simp only [h, ↓reduceIte]
    · exact if_pos h
    · exact if_neg h
    · obtain h | h := h <;> simp only [h]
    · obtain h | h := h <;> simp only [h]
    · simp only [h]
    · simp only [h]
    · simp only [h]
    · split
      · next h => exact absurd h h1
      · next h => exact absurd h h4
      · rfl
  case loaded =>
    obtain ⟨ws, hk⟩ := knot_enterLoaded s k x
    exact ⟨_, hk, rfl, rfl, rfl, rfl⟩
  case check =>
    refine ⟨fun h => if_pos (by rw [h]; rfl), fun h he => ?_, fun h h6 h7 hd => loadCheck_of_dead h (not_or.mpr ⟨h6, h7⟩) hd,
      fun q h hl hq hs => (loadCheck_of_partition h hl hq).trans (if_pos hs), fun q h hl hq h1 h2 => (loadCheck_of_partition h hl hq).trans
        (if_neg (not_or.mpr ⟨Nat.not_lt.mpr h1, Nat.not_lt.mpr h2⟩))⟩
    simp only [loadCheck, h, he, Bool.not_true, Bool.false_eq_true, ↓reduceIte]
  · obtain ⟨h2, hd⟩ := hn
    exact h.elim (fun h => h h2) fun h => by simp [h] at hd
  · cases hf : (s.knot k.val).flush with
    | none => simp only [doFlushDone, hf]
    | some f => exact doFlushDone_of_waiting hf (.inl (h.resolve_left (by simp [hf])))
  · rw [doFlushDone_of_ready hf h2 hr, ha]
    rfl
  · rw [doFlushDone_of_ready hf h2 hr, ha]
    rfl
end

section
/-! PROOFS. Admission of a knot's frames, broadcasts and cross-checks (R289 to R291, R306, R343 to R345). -/

namespace Sys2Proof.Machine

/-! ## The checks of admission (Table 11.5) -/

section
variable {x : Knot} {f : FrameRec}

/-- A frame that is no operation, or an operation for the engine. -/
def isPlain (f : FrameRec) : Prop :=
  ¬ hType f.frame.hdr = tKnotCtrl ∨ (isKnotOp f.frame.hdr.w5.toNat = true ∧ isDeviceOp f.frame.hdr.w5.toNat = false)

theorem admitKnot_of_reserved (h1 : x.state = 1) (hc : hType f.frame.hdr = tKnotCtrl)
    (h : isKnotOp f.frame.hdr.w5.toNat = false ∨ (isDeviceOp f.frame.hdr.w5.toNat = true ∧ fromControl x f.frame.hdr = false)) :
    admitKnot x f = .drop 8 := by
  refine (if_neg (not_not.mpr h1)).trans (if_pos ⟨hc, ?_⟩)
  obtain h | ⟨hd, hf⟩ := h
  · rw [h]; rfl
  · rw [hd, hf]; simp

theorem admitKnot_of_device (h1 : x.state = 1) (hc : hType f.frame.hdr = tKnotCtrl) (hd : isDeviceOp f.frame.hdr.w5.toNat = true)
    (hk : isKnotOp f.frame.hdr.w5.toNat = true) (hf : fromControl x f.frame.hdr = true) : admitKnot x f = .inband :=
  (if_neg (not_not.mpr h1)).trans ((if_neg (by simp [hk, hf])).trans (if_pos ⟨hc, hd⟩))

/-- The checks of a frame that is no operation of the device. -/
theorem admitKnot_of_plain (h1 : x.state = 1) (hp : isPlain f) : admitKnot x f =
    if hGen f.frame.hdr ≠ x.gen then .drop 2
    else if aPart (hSrc f.frame.hdr) ≠ x.jobPart ∨ hChannel f.frame.hdr ≠ x.channel then .drop 3
    else if !typeAdmitted x f.frame.hdr (memberIndex x f) then .drop 4
    else if !isSender x f.frame.hdr (memberIndex x f) then .drop 5
    else if !formatOk x f.frame.hdr (memberIndex x f) then .drop 6
    else .take ((memberIndex x f).getD 1086) := by
  refine (if_neg (not_not.mpr h1)).trans ((if_neg fun hn => ?_).trans (if_neg fun hn => ?_))
  · obtain ⟨hc, hb⟩ := hn
    obtain ⟨hk, hd⟩ := hp.resolve_left (not_not.mpr hc)
    simp [hk, hd] at hb
  · obtain ⟨hc, hd⟩ := hn
    obtain ⟨_, hd'⟩ := hp.resolve_left (not_not.mpr hc)
    exact Bool.false_ne_true (hd'.symm.trans hd)

/-- The checks of a frame of the knot's generation, partition and channel. -/
theorem admitKnot_of_own (h1 : x.state = 1) (hp : isPlain f) (hg : hGen f.frame.hdr = x.gen) (ha : aPart (hSrc f.frame.hdr) = x.jobPart)
    (hc : hChannel f.frame.hdr = x.channel) : admitKnot x f =
    if !typeAdmitted x f.frame.hdr (memberIndex x f) then .drop 4
    else if !isSender x f.frame.hdr (memberIndex x f) then .drop 5
    else if !formatOk x f.frame.hdr (memberIndex x f) then .drop 6
    else .take ((memberIndex x f).getD 1086) :=
  (admitKnot_of_plain h1 hp).trans ((if_neg (not_not.mpr hg)).trans (if_neg (not_or.mpr ⟨not_not.mpr ha, not_not.mpr hc⟩)))

end

/-! ## The frame at the front -/

section
variable {d id : Nat} {rest : List Nat} {s : State} (h : (s.die d).knotIn = id :: rest)
include h

/-- A frame that is taken goes to the Hold agent or to the knot's engine. -/
theorem doKnotFrameAdmit_of_take {m : Nat} (ha : admitKnot (s.knot (hKnot (s.frm id).frame.hdr)) (s.frm id) = .take m) :
    doKnotFrameAdmit d s =
      let hd := (s.frm id).frame.hdr
      let k := hKnot hd
      let x := s.knot k
      let s2 := (((s.updDie d fun y => { y with knotIn := rest }).knotCount (s.knotDie k d) 0).updKnot k fun y =>
        { y with lastTc := hTc hd }).updFrm id fun g => { g with member := m }
      let s3 := s2.updEng x.home fun g => { g with rxWait := g.rxWait ++ [id] }
      if hType hd = tGatherReq ∧ x.hwGather then s2.updDie d fun y => { y with holdIn := y.holdIn ++ [id] }
      else if hType hd = tContrib then xchkClaim s3 k x.home hd.w5.toNat else s3 := by
  simp only [doKnotFrameAdmit, h, ha]

end

/-! ## The comparison of a sample (R345) -/

theorem doXchkCompare_of_waiting {q : Nat} {s : State} {x : Xchk} (hx : (s.eng q).xchk = some x)
    (h : x.csum = none ∨ x.queue ≠ [] ∨ x.allSent (s.knot x.knot).format = false) : doXchkCompare q s = s := by
  simp only [doXchkCompare, hx]
  cases hc : x.csum with
  | none => rfl
  | some csum =>
    refine if_pos ?_
    obtain hq | ha := h.resolve_left (by simp [hc])
    · simp [hq]
    · rw [ha, Bool.not_false, Bool.or_true]

/-- What is done with a sample whose additions are complete, by what the residue and the result frames show. -/
theorem doXchkCompare_of_complete {q csum : Nat} {s : State} {x : Xchk} (hx : (s.eng q).xchk = some x) (hc : x.csum = some csum)
    (hq : x.queue = []) (ha : x.allSent (s.knot x.knot).format = true) : doXchkCompare q s =
      let fmt := (s.knot x.knot).format
      let s1 := (s.updEng q fun g => { g with xchk := none }).updEng x.home fun g =>
        { g with xdone := g.xdone ++ [(x.knot, x.gen, x.seg)] }
      let tell := fun (t : State) => statusToControl t x.knot (s.knot x.knot).lastTc 0x15 x.seg
      let wrong := fileXchk (s1.integCount 8) q x.seg 0 q x.knot x.gen 0 0
      if checkResidue x ≠ csum % resM then
        if s.holdsResults x.home x.knot x.seg then tell (dropHeld wrong x.home x.knot x.seg) else wrong
      else (x.outs.filterMap (firstDiff fmt x)).head?.elim (releaseResults (s1.integCount 7) x.home x.knot x.seg) fun i =>
        dropHeld (setEvent (tell (fileXchk (s1.integCount 9) x.home x.seg i q x.knot x.gen 1 0x15)) 51 R.INTEG_EVENT
          F.INTEG_EVENT_RESULT_WRONG) x.home x.knot x.seg := by
  simp only [doXchkCompare, hx, hc]
  refine (if_neg (by simp [hq, ha])).trans (if_congr Iff.rfl rfl ?_)
  split
  · next hd => rw [hd]; rfl
  · next hd => rw [hd]; rfl

end Sys2Proof.Machine

open Sys2Proof Sys2Proof.Machine

/-- Settles O49: the checks of admission in order; the frame at the front; a broadcast's status; the additions, the comparison and the
end of a sample. -/
theorem knotFramesAndChecks : Obligations.KnotFramesAndChecks := by
  unfold Obligations.KnotFramesAndChecks
  refine ⟨fun x f => ?checks, fun d s => ⟨fun h => next_eq ?_, fun id rest h => ⟨fun i ha => next_eq ?_, fun ha => next_eq ?_, fun m ha =>
      ⟨fun ht hh => next_eq ?_, fun hh ht => next_eq ?_, fun ht => next_eq ?_⟩⟩⟩, fun k s => ?bcast, fun q bad s => ⟨fun h => ?none, fun x h => ?some⟩⟩
  case checks =>
    refine ⟨fun h => if_pos h, fun h hc hb => admitKnot_of_reserved h hc hb, fun h ⟨hc, hd⟩ hk hf => admitKnot_of_device h hc hd hk hf,
      fun h hp hg => (admitKnot_of_plain h hp).trans (if_pos hg), fun h hp hg hc => (admitKnot_of_plain h hp).trans
        ((if_neg (not_not.mpr hg)).trans (if_pos hc)), fun h hp hg ha hc => ⟨fun h4 => ?_, fun h4 h5 => ?_, fun h4 h5 h6 => ?_, fun h4 h5 h6 => ?_⟩⟩
    all_goals refine (admitKnot_of_own h hp hg ha hc).trans ?_
    · simp only [h4, Bool.not_false, ↓reduceIte]
    · simp only [h4, h5, Bool.not_true, Bool.not_false, Bool.false_eq_true, ↓reduceIte]
    · simp only [h4, h5, h6, Bool.not_true, Bool.not_false, Bool.false_eq_true, ↓reduceIte]
    · simp only [h4, h5, h6, Bool.not_true, Bool.false_eq_true, ↓reduceIte]
  case bcast =>
    refine ⟨fun h => next_eq ?_, fun tc w6 hb hs => ⟨fun hp => next_eq ?_, fun hp hm => next_eq ?_, fun hp hm => next_eq ?_⟩⟩
    · cases hb : (s.knot k.val).bcast with
      | none => simp only [doBroadcastStatus, hb]
      | some p => simp only [doBroadcastStatus, hb, h.resolve_left (by simp [hb]), ↓reduceIte]
    · simp only [doBroadcastStatus, hb, hs, hp, Bool.false_eq_true, ↓reduceIte]
    · simp only [doBroadcastStatus, hb, hs, hp, hm, Bool.false_eq_true, ↓reduceIte]
    · simp only [doBroadcastStatus, hb, hs, hp, hm, Bool.false_eq_true, ↓reduceIte]
  case none =>
    refine ⟨next_eq ?_, next_eq ?_, next_eq ?_⟩
    · simp only [doXchkAdd, h]
    · simp only [doXchkCompare, h]
    · simp only [doXchkTimeout, h]
  case some =>
    refine ⟨next_eq ?_, fun hq => next_eq ?_, fun it rest hq => next_eq ?_, fun hw => next_eq (doXchkCompare_of_waiting h hw),
      fun csum hc hq ha => ⟨fun hr hh => next_eq ?_, fun hr hh => next_eq ?_, fun hr hd => next_eq ?_, fun i more hr hd => next_eq ?_⟩,
      fun hc ht => next_eq ?_, fun hn => next_eq ?_⟩
    · simp only [doXchkAdd, h, ↓reduceIte]
    · simp only [doXchkAdd, h, hq, Bool.false_eq_true, ↓reduceIte]
    · simp only [doXchkAdd, h, hq, Bool.false_eq_true, ↓reduceIte]
    · exact (doXchkCompare_of_complete h hc hq ha).trans ((if_pos hr).trans (if_neg (Bool.eq_false_iff.mp hh)))
    · exact (doXchkCompare_of_complete h hc hq ha).trans ((if_pos hr).trans (if_pos hh))
    · refine (doXchkCompare_of_complete h hc hq ha).trans ((if_neg (not_not.mpr hr)).trans ?_)
      rw [hd]; rfl
    · refine (doXchkCompare_of_complete h hc hq ha).trans ((if_neg (not_not.mpr hr)).trans ?_)
      rw [hd]; rfl
    · simp only [doXchkTimeout, h, hc, ht, Bool.and_self, ↓reduceIte]
    · simp only [doXchkTimeout, h]
      exact if_neg (by simpa using fun h1 => hn.resolve_left (by simp [h1]))
  · simp only [doKnotFrameAdmit, h]
  · simp only [doKnotFrameAdmit, h, ha]
  · simp only [doKnotFrameAdmit, h, ha]
  · exact (doKnotFrameAdmit_of_take h ha).trans (if_pos ⟨ht, hh⟩)
  · refine (doKnotFrameAdmit_of_take h ha).trans ((if_neg fun hn => ?_).trans (if_neg ht))
    exact hh.elim (fun h => h hn.1) fun h => Bool.false_ne_true (h.symm.trans hn.2)
  · refine (doKnotFrameAdmit_of_take h ha).trans ((if_neg fun hn => ?_).trans (if_pos ht))
    exact absurd (ht.symm.trans hn.1) (by decide)
end

section
/-! PROOFS. What leaves the health of the units as it is (R347): every act of the device but the classification and retirement of a unit. -/

namespace Sys2Proof.Machine

/-- The units' health is z. -/
def Units (z : SMap UnitHealth) (s : State) : Prop := s.integ.units = z

theorem units_of_snd {α : Type} {z : SMap UnitHealth} {p : α × State} {a : α} {b : State} (e : p = (a, b)) (h : Units z p.2) : Units z b := by
  rw [e] at h; exact h
theorem units_pair {α : Type} {z : SMap UnitHealth} {s : State} {a : α} (h : Units z s) : Units z (a, s).2 := h
theorem units_foldl {α : Type} {z : SMap UnitHealth} {g : State → α → State} {l : List α} {s : State} (h : Units z s)
    (hg : ∀ t a, Units z t → Units z (g t a)) : Units z (l.foldl g s) := by
  induction l generalizing s with
  | nil => exact h
  | cons a l ih => exact ih (hg s a h)
theorem units_ite {z : SMap UnitHealth} {s t : State} {c : Prop} [Decidable c] (h : Units z s) (k : Units z t) : Units z (if c then s else t) := by
  split
  · exact h
  · exact k
/-- A state with the same health of the units. -/
theorem units_mk {z : SMap UnitHealth} {s t : State} (h : Units z s) (e : t.integ.units = s.integ.units) : Units z t := e.trans h

section
variable {z : SMap UnitHealth} {s : State} (h : Units z s)
include h
theorem units_wr (r : RegRef) (v : Word) : Units z (s.wr r v) := h
theorem units_setF (r : RegRef) (f : Fld) (n : Nat) : Units z (s.setF r f n) := h
theorem units_setBit (r : RegRef) (f : Fld) : Units z (s.setBit r f) := h
theorem units_countN (r : RegRef) (n : Nat) : Units z (s.countN r n) := h
theorem units_count (r : RegRef) : Units z (s.count r) := h
theorem units_wr64 (lo hi : RegRef) (n : Nat) : Units z (s.wr64 lo hi n) := h
theorem units_drawFree (w : Nat) : Units z (s.drawFree w).2 := h
theorem units_emit (o : Out) : Units z (s.emit o) := h
theorem units_hostWrite (a : Nat) (b : Bytes) : Units z (s.hostWrite a b) := h
theorem units_updPort (d p : Nat) (f : Port → Port) : Units z (s.updPort d p f) := h
theorem units_updLane (d n : Nat) (f : Lane → Lane) : Units z (s.updLane d n f) := h
theorem units_updDie (d : Nat) (f : Die → Die) : Units z (s.updDie d f) := h
theorem units_updLan (d p : Nat) (f : Lany → Lany) : Units z (s.updLan d p f) := h
theorem units_setFrm (n : Nat) (f : FrameRec) : Units z (s.setFrm n f) := h
theorem units_delFrm (n : Nat) : Units z (s.delFrm n) := h
theorem units_addFrm (f : FrameRec) : Units z (s.addFrm f).2 := h
theorem units_updFrm (n : Nat) (f : FrameRec → FrameRec) : Units z (s.updFrm n f) := by
  unfold State.updFrm; split
  · exact units_setFrm h _ _
  · exact h
end

theorem units_yfpCount {z s a1 a2 a3} (h : Units z s) : Units z (State.yfpCount s a1 a2 a3) := by
  unfold State.yfpCount
  exact units_count h _
theorem units_coreCount {z s a1 a2 a3} (h : Units z s) : Units z (State.coreCount s a1 a2 a3) := by
  unfold State.coreCount
  exact units_count h _
theorem units_tmCount {z s a1 a2 a3} (h : Units z s) : Units z (State.tmCount s a1 a2 a3) := by
  unfold State.tmCount
  exact units_count h _
theorem units_lookupCount {z s a1 a2 a3} (h : Units z s) : Units z (State.lookupCount s a1 a2 a3) := by
  unfold State.lookupCount
  exact units_count h _
theorem units_lanCount {z s a1 a2 a3} (h : Units z s) : Units z (State.lanCount s a1 a2 a3) := by
  unfold State.lanCount
  exact units_count h _
theorem units_integCount {z s a1} (h : Units z s) : Units z (State.integCount s a1) := by
  unfold State.integCount
  exact units_count h _
theorem units_laneCount {z s a1 a2 a3} (h : Units z s) : Units z (State.laneCount s a1 a2 a3) := by
  unfold State.laneCount
  exact units_ite h (units_count h _)
theorem units_setLaneState {z s a1 a2 a3} (h : Units z s) : Units z (State.setLaneState s a1 a2 a3) := by
  unfold State.setLaneState
  exact units_setF h _ _ _
theorem units_sendMsi {z s a1} (h : Units z s) : Units z (sendMsi s a1) := by
  unfold sendMsi
  refine units_ite h ?_
  extract_lets +onlyGivenNames u0 u1
  clear_value u0 u1
  exact units_emit (units_hostWrite h _ _) _
theorem units_withCause {z s a1 a2} (h : Units z s) (ha2 : ∀ b0, Units z b0 → Units z (a2 b0)) :
    Units z (withCause s a1 a2) := by
  unfold withCause
  extract_lets +onlyGivenNames u0
  have h1 : Units z u0 := ha2 _ h
  clear_value u0
  exact units_ite (units_sendMsi h1) h1
theorem units_setEvent {z s a1 a2 a3} (h : Units z s) : Units z (setEvent s a1 a2 a3) := by
  unfold setEvent
  exact units_withCause h (fun x0 h1 => units_setBit h1 _ _)
theorem units_pushRec {z s a1} (h : Units z s) : Units z (pushRec s a1) := by
  unfold pushRec
  extract_lets +onlyGivenNames u0 u1
  have h2 : Units z u1 := units_mk h rfl
  clear_value u1
  exact units_ite (units_mk h2 rfl) (units_setEvent (units_integCount h2))
theorem units_countFinding {z s a1} (h : Units z s) : Units z (countFinding s a1) := by
  unfold countFinding
  exact units_ite (units_integCount h) (units_ite (units_integCount h) (units_ite (units_integCount h) h))
theorem units_queueRec {z s a1} (h : Units z s) : Units z (queueRec s a1) := by
  unfold queueRec
  refine units_ite ?_ (units_pushRec h)
  extract_lets +onlyGivenNames u0 u1 u2
  clear_value u0 u1 u2
  exact units_ite (units_pushRec (units_mk h rfl)) (units_mk h rfl)
theorem units_fileRec {z s a1} (h : Units z s) : Units z (fileRec s a1) := by
  unfold fileRec
  exact units_queueRec (units_countFinding h)
theorem units_setPortState {z s a1 a2 a3} (h : Units z s) : Units z (State.setPortState s a1 a2 a3) := by
  unfold State.setPortState
  exact units_setF h _ _ _
theorem units_csLost {z s a1 a2} (h : Units z s) : Units z (csLost s a1 a2) := by
  unfold csLost
  exact units_setEvent (units_ite (units_tmCount (units_count h _)) (units_count h _))
theorem units_csCapture {z s a1 a2 a3} (h : Units z s) : Units z (csCapture s a1 a2 a3) := by
  unfold csCapture
  extract_lets +onlyGivenNames u0
  clear_value u0
  extract_lets +onlyGivenNames u1
  have h2 : Units z u1 := units_mk h rfl
  clear_value u1
  exact units_ite (units_updDie h2 _ _) (units_csLost h2)
theorem units_mirrorDrop {z s a1 a2 a3 a4 a5 a6 a7 a8} (h : Units z s) :
    Units z (mirrorDrop s a1 a2 a3 a4 a5 a6 a7 a8) := by
  unfold mirrorDrop
  extract_lets +onlyGivenNames u0
  clear_value u0
  refine units_ite ?_ h
  extract_lets +onlyGivenNames u1
  clear_value u1
  refine units_ite (units_updPort h _ _ _) ?_
  extract_lets +onlyGivenNames u2
  clear_value u2
  exact units_csCapture (units_tmCount (units_updPort h _ _ _))
theorem units_dropCore {z s a1 a2 a3 a4} (h : Units z s) : Units z (dropCore s a1 a2 a3 a4) := by
  unfold dropCore
  exact units_mirrorDrop (units_coreCount h)
theorem units_dropLookup {z s a1 a2 a3 a4} (h : Units z s) : Units z (dropLookup s a1 a2 a3 a4) := by
  unfold dropLookup
  exact units_mirrorDrop (units_lookupCount h)
theorem units_logParity {z s a1 a2 a3 a4} (h : Units z s) : Units z (logParity s a1 a2 a3 a4) := by
  unfold logParity
  extract_lets +onlyGivenNames u0 u1
  clear_value u0 u1
  exact units_ite (units_mk h rfl) (units_mk h rfl)
theorem units_fileParity {z s a1 a2 a3 a4 a5} (h : Units z s) : Units z (fileParity s a1 a2 a3 a4 a5) := by
  unfold fileParity
  exact units_fileRec h
theorem units_parityMiss {z s a1 a2 a3 a4} (h : Units z s) : Units z (parityMiss s a1 a2 a3 a4) := by
  unfold parityMiss
  exact units_fileParity (units_logParity (units_lookupCount h))
theorem units_queueCtl {z s a1 a2 a3} (h : Units z s) : Units z (queueCtl s a1 a2 a3) := by
  unfold queueCtl
  exact units_updLane h _ _ _
theorem units_queueAll {z s a1 a2 a3} (h : Units z s) : Units z (queueAll s a1 a2 a3) := by
  unfold queueAll
  exact units_foldl h (fun x0 x1 h2 => units_queueCtl h2)
theorem units_flowUpdate {z s a1 a2} (h : Units z s) : Units z (flowUpdate s a1 a2) := by
  unfold flowUpdate
  refine units_ite ?_ h
  extract_lets +onlyGivenNames u0
  clear_value u0
  exact units_ite h (units_queueAll (units_setF h _ _ _))
theorem units_lanFlowUpdate {z s a1 a2 a3} (h : Units z s) : Units z (lanFlowUpdate s a1 a2 a3) := by
  unfold lanFlowUpdate
  refine units_ite h ?_
  extract_lets +onlyGivenNames u0 u1
  clear_value u0 u1
  extract_lets +onlyGivenNames u2 u3
  clear_value u2 u3
  exact units_updLan h _ _ _
theorem units_lanFlowAll {z s a1 a2} (h : Units z s) : Units z (lanFlowAll s a1 a2) := by
  unfold lanFlowAll
  exact units_ite h (units_foldl h (fun x0 x1 h2 => units_lanFlowUpdate h2))
theorem units_flowPort {z s a1 a2} (h : Units z s) : Units z (flowPort s a1 a2) := by
  unfold flowPort
  exact units_lanFlowAll (units_flowUpdate h)
theorem units_flowPipe {z s a1 a2} (h : Units z s) : Units z (flowPipe s a1 a2) := by
  unfold flowPipe
  exact units_lanFlowAll (units_foldl h (fun x0 x1 h2 => units_flowUpdate h2))
theorem units_stageFlow {z s a1 a2 a3} (h : Units z s) : Units z (stageFlow s a1 a2 a3) := by
  unfold stageFlow
  exact units_lanFlowUpdate (units_flowUpdate h)
theorem units_freeStage {z s a1} (h : Units z s) : Units z (freeStage s a1) := by
  unfold freeStage
  extract_lets +onlyGivenNames u0
  clear_value u0
  refine units_ite h ?_
  extract_lets +onlyGivenNames u1
  have h2 : Units z u1 := units_updFrm h _ _
  clear_value u1
  extract_lets +onlyGivenNames u3
  have h4 : Units z u3 := units_updPort h2 _ _ _
  clear_value u3
  exact units_stageFlow h4
theorem units_setEng {z s a1 a2} (h : Units z s) : Units z (State.setEng s a1 a2) := by
  unfold State.setEng
  exact units_mk h rfl
theorem units_updEng {z s a1 a2} (h : Units z s) : Units z (State.updEng s a1 a2) := by
  unfold State.updEng
  exact units_setEng h
theorem units_setEngState {z s a1 a2} (h : Units z s) : Units z (State.setEngState s a1 a2) := by
  unfold State.setEngState
  exact units_setF h _ _ _
theorem units_engCount {z s a1 a2} (h : Units z s) : Units z (State.engCount s a1 a2) := by
  unfold State.engCount
  exact units_count h _
theorem units_engEvent {z s a1 a2} (h : Units z s) : Units z (engEvent s a1 a2) := by
  unfold engEvent
  exact units_setEvent h
theorem units_setKnot {z s a1 a2} (h : Units z s) : Units z (State.setKnot s a1 a2) := by
  unfold State.setKnot
  exact units_mk h rfl
theorem units_updKnot {z s a1 a2} (h : Units z s) : Units z (State.updKnot s a1 a2) := by
  unfold State.updKnot
  exact units_setKnot h
theorem units_knotCount {z s a1 a2} (h : Units z s) : Units z (State.knotCount s a1 a2) := by
  unfold State.knotCount
  exact units_count h _
theorem units_noteMissed {z s a1 a2} (h : Units z s) : Units z (noteMissed s a1 a2) := by
  unfold noteMissed
  exact units_ite (units_updKnot h) h
theorem units_freeRegion {z s a1} (h : Units z s) : Units z (freeRegion s a1) := by
  unfold freeRegion
  extract_lets +onlyGivenNames u0
  clear_value u0
  extract_lets +onlyGivenNames u1
  have h2 : Units z u1 := units_updFrm h _ _
  clear_value u1
  split
  · exact h2
  · exact units_updPort h2 _ _ _
  · exact units_updDie (units_updPort h2 _ _ _) _ _
  · exact units_updDie h2 _ _
  · exact units_updDie h2 _ _
theorem units_offMesh {z s a1} (h : Units z s) : Units z (offMesh s a1) := by
  unfold offMesh
  extract_lets +onlyGivenNames u0
  exact units_mk h rfl
theorem units_copyPlaced {z s a1} (h : Units z s) : Units z (copyPlaced s a1) := by
  unfold copyPlaced
  extract_lets +onlyGivenNames u0
  clear_value u0
  refine units_ite h ?_
  extract_lets +onlyGivenNames u1
  have h2 : Units z u1 := units_updFrm h _ _
  clear_value u1
  exact units_ite (units_freeStage h2) h2
theorem units_copyGone {z s a1} (h : Units z s) : Units z (copyGone s a1) := by
  unfold copyGone
  refine units_ite h ?_
  extract_lets +onlyGivenNames u0
  clear_value u0
  extract_lets +onlyGivenNames u1
  have h2 : Units z u1 := units_ite (units_updFrm h _ _) h
  clear_value u1
  exact units_ite (units_delFrm (units_freeStage h2) _) h2
theorem units_discardFrame {z s a1} (h : Units z s) : Units z (discardFrame s a1) := by
  unfold discardFrame
  extract_lets +onlyGivenNames u0
  clear_value u0
  extract_lets +onlyGivenNames u1
  have h2 : Units z u1 := units_ite (units_noteMissed h) h
  clear_value u1
  extract_lets +onlyGivenNames u3
  have h4 : Units z u3 := units_ite (units_copyPlaced h2) h2
  clear_value u3
  exact units_copyGone (units_delFrm (units_offMesh (units_freeRegion (units_freeStage h4))) _)
theorem units_sprayChoose {z s a1 a2 a3 a4} (h : Units z s) : Units z (sprayChoose s a1 a2 a3 a4).2 := by
  unfold sprayChoose
  split
  · exact h
  · exact h
  · extract_lets +onlyGivenNames u0 u1
    clear_value u0 u1
    extract_lets +onlyGivenNames u2 u3
    clear_value u2 u3
    extract_lets +onlyGivenNames u4 u5
    clear_value u4 u5
    extract_lets +onlyGivenNames u6 u7
    clear_value u6 u7
    extract_lets +onlyGivenNames u8
    have h9 : Units z u8 := units_updDie h _ _
    clear_value u8
    exact h9
theorem units_placeAt {z s a1 a2} (h : Units z s) : Units z (placeAt s a1 a2) := by
  unfold placeAt
  extract_lets +onlyGivenNames u0
  clear_value u0
  exact units_updFrm h _ _
theorem units_offerFrame {z s a1} (h : Units z s) : Units z (offerFrame s a1) := by
  unfold offerFrame
  exact units_updDie h _ _
theorem units_noCandidate {z s a1 a2} (h : Units z s) : Units z (noCandidate s a1 a2) := by
  unfold noCandidate
  extract_lets +onlyGivenNames u0
  clear_value u0
  extract_lets +onlyGivenNames u1
  have h2 : Units z u1 := units_ite (units_dropCore h) h
  clear_value u1
  extract_lets +onlyGivenNames u3
  have h4 : Units z u3 := by
    unfold u3
    split
    · exact units_lanCount h2
    · exact h2
  clear_value u3
  exact units_discardFrame h4
theorem units_lookupDrop {z s a1 a2 a3 a4} (h : Units z s) : Units z (lookupDrop s a1 a2 a3 a4) := by
  unfold lookupDrop
  exact units_discardFrame (units_dropLookup h)
theorem units_sprayPlace {z s a1 a2 a3 a4} (h : Units z s) : Units z (sprayPlace s a1 a2 a3 a4).2 := by
  unfold sprayPlace
  extract_lets +onlyGivenNames u0
  clear_value u0
  split
  · rename_i y1 y2 y3 y4
    have h5 := units_of_snd y4 (units_sprayChoose h)
    split
    · rename_i y6
      have h7 := units_of_snd y4 (units_sprayChoose h)
      exact units_pair (units_noCandidate h5)
    · rename_i y8 y9
      have h10 := units_of_snd y4 (units_sprayChoose h)
      split
      · exact units_pair (units_placeAt h5)
      · exact units_pair (units_lookupDrop h5)
theorem units_handOn {z s a1} (h : Units z s) : Units z (handOn s a1) := by
  unfold handOn
  exact units_ite (units_offerFrame h) (units_updFrm h _ _)
theorem units_dropFromQueues {z s a1 a2 a3} (h : Units z s) : Units z (dropFromQueues s a1 a2 a3) := by
  unfold dropFromQueues
  extract_lets +onlyGivenNames u0
  exact units_updPort h _ _ _
theorem units_dropFromWaits {z s a1} (h : Units z s) : Units z (dropFromWaits s a1) := by
  unfold dropFromWaits
  extract_lets +onlyGivenNames u0
  exact units_mk h rfl
theorem units_resprayOne {z a0 a1 s a3} (h : Units z s) : Units z (resprayOne a0 a1 s a3) := by
  unfold resprayOne
  extract_lets +onlyGivenNames u0
  have h1 : Units z u0 := units_offMesh (units_freeRegion (units_coreCount h))
  clear_value u0
  extract_lets +onlyGivenNames u2
  have h3 : Units z u2 := units_updFrm h1 _ _
  clear_value u2
  extract_lets +onlyGivenNames u4
  clear_value u4
  split
  · extract_lets +onlyGivenNames u5
    have h6 : Units z u5 := units_parityMiss h3
    clear_value u5
    exact units_discardFrame (units_mirrorDrop h6)
  · exact units_lookupDrop h3
  · split
    · rename_i y7 y8 y9
      have h10 := units_of_snd y9 (units_sprayPlace h3)
      exact units_handOn h10
    · rename_i y11 y12 y13
      have h14 := units_of_snd y13 (units_sprayPlace h3)
      exact h14
theorem units_resprayPort {z s a1 a2} (h : Units z s) : Units z (resprayPort s a1 a2) := by
  unfold resprayPort
  extract_lets +onlyGivenNames u0 u1
  clear_value u0 u1
  exact units_foldl (units_dropFromWaits (units_dropFromQueues h)) (fun x2 x3 h4 => units_resprayOne h4)
theorem units_endCut {z s a1 a2} (h : Units z s) : Units z (endCut s a1 a2) := by
  unfold endCut
  extract_lets +onlyGivenNames u0
  clear_value u0
  refine units_ite ?_ (units_discardFrame (units_dropFromQueues h))
  extract_lets +onlyGivenNames u1
  have h2 : Units z u1 := units_emit (units_yfpCount h) _
  clear_value u1
  exact units_discardFrame (units_updPort h2 _ _ _)
theorem units_endBad {z s a1 a2} (h : Units z s) : Units z (endBad s a1 a2) := by
  unfold endBad
  extract_lets +onlyGivenNames u0
  clear_value u0
  refine units_ite h (units_ite (units_ite (units_updFrm h _ _) (units_endCut h)) ?_)
  extract_lets +onlyGivenNames u1
  clear_value u1
  exact units_discardFrame (units_foldl (units_dropFromWaits h) (fun x2 x3 h4 => units_discardFrame h4))
theorem units_truncateRx {z s a1 a2} (h : Units z s) : Units z (truncateRx s a1 a2) := by
  unfold truncateRx
  split
  · exact h
  · exact units_endBad (units_yfpCount (units_updPort h _ _ _))
theorem units_truncateTx {z s a1 a2} (h : Units z s) : Units z (truncateTx s a1 a2) := by
  unfold truncateTx
  split
  · exact h
  · exact units_discardFrame (units_coreCount (units_updPort h _ _ _))
theorem units_holdOrdered {z s a1 a2} (h : Units z s) : Units z (holdOrdered s a1 a2) := by
  unfold holdOrdered
  extract_lets +onlyGivenNames u0 u1
  clear_value u0 u1
  extract_lets +onlyGivenNames u2
  have h3 : Units z u2 := units_foldl (units_dropFromQueues h) (fun x4 x5 h6 => units_updFrm h6 _ _)
  clear_value u2
  exact units_countN (units_updPort h3 _ _ _) _ _
theorem units_skipMcast {z s a1 a2} (h : Units z s) : Units z (skipMcast s a1 a2) := by
  unfold skipMcast
  extract_lets +onlyGivenNames u0
  clear_value u0
  exact units_foldl (units_dropFromWaits (units_dropFromQueues h)) (fun x1 x2 h3 => units_discardFrame h3)
theorem units_clearRxPause {z s a1 a2} (h : Units z s) : Units z (clearRxPause s a1 a2) := by
  unfold clearRxPause
  exact units_ite (units_updPort (units_setF h _ _ _) _ _ _) h
theorem units_portDown {z s a1 a2} (h : Units z s) : Units z (portDown s a1 a2) := by
  unfold portDown
  refine units_ite ?_ h
  extract_lets +onlyGivenNames u0
  have h1 : Units z u0 := units_truncateTx (units_clearRxPause (units_updPort (units_setPortState h) _ _ _))
  clear_value u0
  exact units_ite (units_holdOrdered (units_skipMcast (units_resprayPort h1))) h1
theorem units_discard12 {z a0 a1 s a3} (h : Units z s) : Units z (discard12 a0 a1 s a3) := by
  unfold discard12
  exact units_discardFrame (units_dropCore h)
theorem units_dropStagedFrames {z a0 a1 s a3} (h : Units z s) : Units z (dropStagedFrames a0 a1 s a3) := by
  unfold dropStagedFrames
  extract_lets +onlyGivenNames u0
  clear_value u0
  extract_lets +onlyGivenNames u1
  have h2 : Units z u1 := units_dropCore h
  clear_value u1
  extract_lets +onlyGivenNames u3
  have h4 : Units z u3 := units_foldl (units_dropFromWaits h2) (fun x5 x6 h7 => units_discardFrame h7)
  clear_value u3
  exact units_ite (units_discardFrame h4) (units_freeStage h4)
theorem units_endReceive {z s a1 a2} (h : Units z s) : Units z (endReceive s a1 a2) := by
  unfold endReceive
  split
  · exact h
  · exact units_ite (units_truncateRx h) h
theorem units_enterQuarantine {z s a1 a2} (h : Units z s) : Units z (enterQuarantine s a1 a2) := by
  unfold enterQuarantine
  extract_lets +onlyGivenNames u0
  have h1 : Units z u0 := units_endReceive (units_ite (units_truncateTx (units_clearRxPause h)) h)
  clear_value u0
  extract_lets +onlyGivenNames u2
  have h3 : Units z u2 := units_setF (units_setPortState h1) _ _ _
  clear_value u2
  extract_lets +onlyGivenNames u4
  have h5 : Units z u4 := units_foldl h3 (fun x6 x7 h8 => units_dropStagedFrames h8)
  clear_value u4
  extract_lets +onlyGivenNames u9
  have h10 : Units z u9 := units_updPort h5 _ _ _
  clear_value u9
  extract_lets +onlyGivenNames u11
  have h12 : Units z u11 := units_skipMcast (units_resprayPort h10)
  clear_value u11
  extract_lets +onlyGivenNames u13 u14
  clear_value u13 u14
  extract_lets +onlyGivenNames u15
  have h16 : Units z u15 := units_updPort h12 _ _ _
  clear_value u15
  extract_lets +onlyGivenNames u17
  have h18 : Units z u17 := units_foldl h16 (fun x19 x20 h21 => units_discard12 h21)
  clear_value u17
  refine units_ite h18 ?_
  extract_lets +onlyGivenNames u22
  clear_value u22
  exact units_foldl (units_updLan h18 _ _ _) (fun x23 x24 h25 => units_discard12 h25)
theorem units_writeQuarantine {z a0 a1 s} (h : Units z s) : Units z (writeQuarantine a0 a1 s) := by
  unfold writeQuarantine
  exact units_ite h (units_enterQuarantine h)
theorem units_setBacklog {z s a1 a2 a3} (h : Units z s) : Units z (State.setBacklog s a1 a2 a3) := by
  unfold State.setBacklog
  exact units_updDie h _ _
theorem units_originate {z s a1 a2} (h : Units z s) : Units z (originate s a1 a2) := by
  unfold originate
  extract_lets +onlyGivenNames u0
  clear_value u0
  exact units_ite (units_flowPipe (units_setBacklog h)) (units_updDie h _ _)
theorem units_losePort {z s a1 a2} (h : Units z s) : Units z (losePort s a1 a2) := by
  unfold losePort
  exact units_ite (units_portDown (units_truncateRx h)) h
theorem units_refreshUp {z s a1 a2} (h : Units z s) : Units z (refreshUp s a1 a2) := by
  unfold refreshUp
  refine units_ite h ?_
  extract_lets +onlyGivenNames u0
  clear_value u0
  extract_lets +onlyGivenNames u1
  have h2 : Units z u1 := units_setF h _ _ _
  clear_value u1
  exact units_ite (units_losePort (units_mk h2 rfl)) (units_ite (units_flowPort (units_updPort h2 _ _ _)) h2)
theorem units_setTxMask {z s a1 a2 a3} (h : Units z s) : Units z (setTxMask s a1 a2 a3) := by
  unfold setTxMask
  exact units_refreshUp (units_setF h _ _ _)
theorem units_sendLaneSet {z s a1 a2 a3} (h : Units z s) : Units z (sendLaneSet s a1 a2 a3) := by
  unfold sendLaneSet
  extract_lets +onlyGivenNames u0
  clear_value u0
  refine units_ite h (units_ite (units_setTxMask (units_updPort h _ _ _)) ?_)
  extract_lets +onlyGivenNames u1 u2 u3
  clear_value u1 u2 u3
  split
  · rename_i y4 y5 y6 y7
    have h8 := units_of_snd y7 (units_drawFree h _)
    extract_lets +onlyGivenNames u9
    clear_value u9
    extract_lets +onlyGivenNames u10
    have h11 : Units z u10 := units_updPort h8 _ _ _
    clear_value u10
    refine units_foldl h11 (fun x12 x13 h14 => ?_)
    extract_lets +onlyGivenNames u15
    have h16 : Units z u15 := units_updLane h14 _ _ _
    clear_value u15
    exact units_foldl h16 (fun x17 x18 h19 => units_queueCtl h19)
theorem units_dropTxLane {z s a1 a2 a3} (h : Units z s) : Units z (dropTxLane s a1 a2 a3) := by
  unfold dropTxLane
  exact units_ite (units_sendLaneSet h) h
theorem units_setFarAdmit {z s a1 a2 a3} (h : Units z s) : Units z (setFarAdmit s a1 a2 a3) := by
  unfold setFarAdmit
  exact units_setF h _ _ _
theorem units_loseRxLane {z s a1 a2} (h : Units z s) : Units z (loseRxLane s a1 a2) := by
  unfold loseRxLane
  split
  · exact h
  · refine units_ite h ?_
    extract_lets +onlyGivenNames u0
    clear_value u0
    extract_lets +onlyGivenNames u1
    have h2 : Units z u1 := units_updPort h _ _ _
    clear_value u1
    exact units_refreshUp (units_queueAll h2)
theorem units_ringParked {z s a1 a2 a3} (h : Units z s) : Units z (ringParked s a1 a2 a3) := by
  unfold ringParked
  extract_lets +onlyGivenNames u0
  clear_value u0
  split
  · exact units_updLane (units_setF (units_setF (units_setF h _ _ _) _ _ _) _ _ _) _ _ _
  · exact units_setF (units_setF (units_setF h _ _ _) _ _ _) _ _ _
theorem units_ringsParked {z s a1 a2} (h : Units z s) : Units z (ringsParked s a1 a2) := by
  unfold ringsParked
  exact units_ringParked (units_ringParked h)
theorem units_leaveStripes {z s a1 a2} (h : Units z s) : Units z (leaveStripes s a1 a2) := by
  unfold leaveStripes
  split
  · exact h
  · exact units_loseRxLane (units_setFarAdmit (units_dropTxLane h))
theorem units_startStrip {z s a1 a2} (h : Units z s) : Units z (startStrip s a1 a2) := by
  unfold startStrip
  extract_lets +onlyGivenNames u0
  have h1 : Units z u0 := units_ringsParked (units_laneCount (units_leaveStripes h))
  clear_value u0
  exact units_updLane (units_setLaneState h1) _ _ _
theorem units_showStuck {z s a1 a2} (h : Units z s) : Units z (showStuck s a1 a2) := by
  unfold showStuck
  split
  · exact units_ite (units_setLaneState h) h
  · exact h
theorem units_holdLane {z s a1 a2} (h : Units z s) : Units z (holdLane s a1 a2) := by
  unfold holdLane
  extract_lets +onlyGivenNames u0
  have h1 : Units z u0 := units_leaveStripes (units_ringsParked h)
  clear_value u0
  exact units_updLane (units_setLaneState h1) _ _ _
theorem units_freeLane {z s a1 a2} (h : Units z s) : Units z (freeLane s a1 a2) := by
  unfold freeLane
  exact units_ite h (units_ite (units_ite (units_startStrip h) (units_ite h (units_showStuck (units_setLaneState h)))) (units_setLaneState h))
theorem units_writeExclude {z a0 a1 a2 s} (h : Units z s) : Units z (writeExclude a0 a1 a2 s) := by
  unfold writeExclude
  extract_lets +onlyGivenNames u0 u1
  clear_value u0 u1
  refine units_ite h ?_
  extract_lets +onlyGivenNames u2
  have h3 : Units z u2 := units_setF h _ _ _
  clear_value u2
  exact units_ite (units_holdLane h3) (units_ite (units_freeLane h3) h3)
theorem units_noteLines {z s a1} (h : Units z s) : Units z (noteLines s a1) := by
  unfold noteLines
  extract_lets +onlyGivenNames u0
  clear_value u0
  exact units_setF h _ _ _
theorem units_mendBad {z s a1} (h : Units z s) : Units z (mendBad s a1) := by
  unfold mendBad
  extract_lets +onlyGivenNames u0 u1
  have h1 : Units z u1 := units_mk h rfl
  clear_value u0 u1
  exact units_ite (units_noteLines (units_noteLines h1)) h1
theorem units_holdWrite {z s a1 a2} (h : Units z s) : Units z (State.holdWrite s a1 a2) := by
  unfold State.holdWrite
  exact units_mendBad (units_mk h rfl)
theorem units_eccLog {z s a1 a2 a3} (h : Units z s) : Units z (eccLog s a1 a2 a3) := by
  unfold eccLog
  extract_lets +onlyGivenNames u0 u1
  clear_value u0 u1
  exact units_ite (units_mk h rfl) (units_setEvent h)
theorem units_fileHold {z s a1 a2 a3 a4} (h : Units z s) : Units z (fileHold s a1 a2 a3 a4) := by
  unfold fileHold
  exact units_fileRec h
theorem units_reportBad {z s a1 a2 a3} (h : Units z s) : Units z (reportBad s a1 a2 a3) := by
  unfold reportBad
  extract_lets +onlyGivenNames u0 u1 u2 u3
  have h3 : Units z u3 := units_mk h rfl
  clear_value u0 u1 u2 u3
  exact units_fileHold (units_setEvent (units_noteLines (units_eccLog h3)))
theorem units_meetBad {z s a1 a2 a3 a4} (h : Units z s) : Units z (meetBad s a1 a2 a3 a4).2 := by
  unfold meetBad
  extract_lets +onlyGivenNames u0
  clear_value u0
  exact units_pair (units_foldl h (fun x1 x2 h3 => units_reportBad h3))
theorem units_putEntry {z s a1 a2} (h : Units z s) : Units z (putEntry s a1 a2) := by
  unfold putEntry
  exact units_holdWrite h
theorem units_touchBucket {z s a1 a2} (h : Units z s) : Units z (touchBucket s a1 a2) := by
  unfold touchBucket
  extract_lets +onlyGivenNames u0
  clear_value u0
  extract_lets +onlyGivenNames u1
  have h2 : Units z u1 := units_count h _
  clear_value u1
  exact units_mk h2 rfl
theorem units_probe {z a0 a1 a2 a3 a4 a5 s} (h : Units z s) : Units z (probe a0 a1 a2 a3 a4 a5 s).2 := by
  induction a4 generalizing a5 s with
  | zero => exact h
  | succ n ih =>
    unfold probe
    extract_lets +onlyGivenNames u0 u1
    have h1 : Units z u1 := units_touchBucket h
    clear_value u1
    split
    · rename_i y e
      exact units_of_snd e (units_meetBad h1)
    · rename_i y e
      have h2 := units_of_snd e (units_meetBad h1)
      split
      · exact h2
      · exact ih h2
theorem units_lookupPending {z s a1 a2} (h : Units z s) : Units z (lookupPending s a1 a2).2 := by
  unfold lookupPending
  exact units_probe h
theorem units_setRows {z s a1 a2 a3} (h : Units z s) : Units z (setRows s a1 a2 a3) := by
  unfold setRows
  exact units_mk h rfl
theorem units_freeRow {z s a1 a2 a3} (h : Units z s) : Units z (freeRow s a1 a2 a3) := by
  unfold freeRow
  exact units_setRows h
theorem units_freePending {z s a1 a2} (h : Units z s) : Units z (freePending s a1 a2) := by
  unfold freePending
  extract_lets +onlyGivenNames u0
  clear_value u0
  refine units_foldl h (fun x1 x2 h3 => ?_)
  extract_lets +onlyGivenNames u4
  clear_value u4
  split
  · rename_i y5 y6 y7 y8 y9
    have h10 := units_of_snd y9 (units_lookupPending h3)
    exact units_freeRow (units_putEntry h10)
  · rename_i y11 y12 y13 y14 y15
    have h16 := units_of_snd y15 (units_lookupPending h3)
    exact h16
theorem units_pmcBump {z a0 a1 a2 s a4} (h : Units z s) : Units z (pmcBump a0 a1 a2 s a4) := by
  unfold pmcBump
  extract_lets +onlyGivenNames u0 u1
  clear_value u0 u1
  extract_lets +onlyGivenNames u2 u3
  clear_value u2 u3
  extract_lets +onlyGivenNames u4
  have h5 : Units z u4 := units_wr64 h _ _ _
  clear_value u4
  refine units_ite h5 ?_
  extract_lets +onlyGivenNames u6
  clear_value u6
  extract_lets +onlyGivenNames u7
  have h8 : Units z u7 := units_setF h5 _ _ _
  clear_value u7
  extract_lets +onlyGivenNames u9
  have h10 : Units z u9 := units_setF (units_setBit h8 _ _) _ _ _
  clear_value u9
  extract_lets +onlyGivenNames u11
  have h12 : Units z u11 := units_engEvent h10
  clear_value u11
  exact units_ite (units_setBit h12 _ _) h12
theorem units_pmc {z s a1 a2 a3} (h : Units z s) : Units z (pmc s a1 a2 a3) := by
  unfold pmc
  exact units_ite h (units_foldl h (fun x0 x1 h2 => units_pmcBump h2))
theorem units_deviceFrame {z s a1 a2 a3 a4} (h : Units z s) : Units z (deviceFrame s a1 a2 a3 a4) := by
  unfold deviceFrame
  split
  · rename_i y0 y1 y2 y3
    have h4 := units_of_snd y3 (units_addFrm h _)
    exact units_originate h4
theorem units_sendStatus {z s a1 a2 a3 a4 a5 a6 a7 a8} (h : Units z s) :
    Units z (sendStatus s a1 a2 a3 a4 a5 a6 a7 a8) := by
  unfold sendStatus
  extract_lets +onlyGivenNames u0 u1
  clear_value u0 u1
  exact units_deviceFrame (units_knotCount h)
theorem units_statusToControl {z s a1 a2 a3 a4} (h : Units z s) : Units z (statusToControl s a1 a2 a3 a4) := by
  unfold statusToControl
  extract_lets +onlyGivenNames u0
  clear_value u0
  exact units_ite h (units_sendStatus h)
theorem units_releaseLocks {z s a1 a2} (h : Units z s) : Units z (releaseLocks s a1 a2) := by
  unfold releaseLocks
  exact units_mk h rfl
theorem units_discardStaged {z s a1 a2} (h : Units z s) : Units z (discardStaged s a1 a2) := by
  unfold discardStaged
  extract_lets +onlyGivenNames u0 u1 u2
  clear_value u0 u1 u2
  extract_lets +onlyGivenNames u3
  have h4 : Units z u3 := units_foldl (units_freePending h) (fun x5 x6 h7 => units_count h7 _)
  clear_value u3
  exact units_releaseLocks (units_mk h4 rfl)
theorem units_updScatter {z s a1 a2 a3} (h : Units z s) : Units z (updScatter s a1 a2 a3) := by
  unfold updScatter
  exact units_mk h rfl
theorem units_abortHold {z s a1 a2 a3} (h : Units z s) : Units z (abortHold s a1 a2 a3) := by
  unfold abortHold
  split
  · extract_lets +onlyGivenNames u0
    have h1 : Units z u0 := units_ite (units_discardStaged h) (units_releaseLocks h)
    clear_value u0
    exact units_updScatter h1
  · exact units_releaseLocks h
theorem units_recallOne {z s a1} (h : Units z s) : Units z (recallOne s a1) := by
  unfold recallOne
  extract_lets +onlyGivenNames u0
  clear_value u0
  extract_lets +onlyGivenNames u1
  have h2 : Units z u1 := units_dropFromWaits h
  clear_value u1
  extract_lets +onlyGivenNames u3
  have h4 : Units z u3 := units_ite (units_dropFromQueues h2) h2
  clear_value u3
  extract_lets +onlyGivenNames u5
  have h6 : Units z u5 := units_ite (units_updLan h4 _ _ _) h4
  clear_value u5
  exact units_ite h (units_discardFrame h6)
theorem units_recallFrame {z s a1} (h : Units z s) : Units z (recallFrame s a1) := by
  unfold recallFrame
  exact units_foldl h (fun x0 x1 h2 => units_recallOne h2)
theorem units_abortWord6 {z s a1} (h : Units z s) : Units z (abortWord6 s a1).2 := by
  unfold abortWord6
  split
  · exact h
  · extract_lets +onlyGivenNames u0
    clear_value u0
    split
    · exact h
    · split
      · exact h
      · exact units_drawFree h _
theorem units_knotAbort {z s a1 a2} (h : Units z s) : Units z (knotAbort s a1 a2) := by
  unfold knotAbort
  extract_lets +onlyGivenNames u0 u1
  clear_value u0 u1
  split
  · rename_i y2 y3 y4 y5
    have h6 := units_of_snd y5 (units_abortWord6 h)
    extract_lets +onlyGivenNames u7
    have h8 : Units z u7 := units_ite h6 (units_statusToControl h6)
    clear_value u7
    exact units_knotCount (units_updKnot h8)
theorem units_noteFault {z s a1 a2 a3 a4} (h : Units z s) : Units z (noteFault s a1 a2 a3 a4) := by
  unfold noteFault
  exact units_wr h _ _
theorem units_abortSteps {z s a1 a2 a3 a4} (h : Units z s) : Units z (abortSteps s a1 a2 a3 a4) := by
  unfold abortSteps
  extract_lets +onlyGivenNames u0
  clear_value u0
  extract_lets +onlyGivenNames u1
  have h2 : Units z u1 := units_updEng h
  clear_value u1
  extract_lets +onlyGivenNames u3
  have h4 : Units z u3 := units_foldl h2 (fun x5 x6 h7 => units_recallFrame h7)
  clear_value u3
  extract_lets +onlyGivenNames u8
  have h9 : Units z u8 := units_noteFault h4
  clear_value u8
  extract_lets +onlyGivenNames u10
  have h11 : Units z u10 := units_pmc (units_engCount (units_engEvent h9))
  clear_value u10
  exact units_abortHold (units_knotAbort h11)
theorem units_orphanKnot {z s a1} (h : Units z s) : Units z (orphanKnot s a1) := by
  unfold orphanKnot
  extract_lets +onlyGivenNames u0 u1
  clear_value u0 u1
  refine units_ite h (units_ite ?_ h)
  extract_lets +onlyGivenNames u2
  have h3 : Units z u2 := units_knotCount (units_updKnot h)
  clear_value u2
  extract_lets +onlyGivenNames u4
  have h5 : Units z u4 := units_setEvent h3
  clear_value u4
  split
  · rename_i y6 y7 y8 y9
    have h10 := units_of_snd y9 (units_drawFree h5 _)
    exact units_statusToControl h10
theorem units_orphanAll {z s a1} (h : Units z s) : Units z (orphanAll s a1) := by
  unfold orphanAll
  exact units_foldl (units_updEng h) (fun x0 x1 h2 => units_orphanKnot h2)
theorem units_dropQueued {z s a1} (h : Units z s) : Units z (dropQueued s a1) := by
  unfold dropQueued
  extract_lets +onlyGivenNames u0
  clear_value u0
  extract_lets +onlyGivenNames u1
  have h2 : Units z u1 := units_foldl h (fun x3 x4 h5 => units_engCount h5)
  clear_value u1
  exact units_updEng h2
theorem units_dropHeld {z s a1 a2 a3} (h : Units z s) : Units z (dropHeld s a1 a2 a3) := by
  unfold dropHeld
  extract_lets +onlyGivenNames u0
  clear_value u0
  exact units_foldl (units_updEng h) (fun x1 x2 h3 => units_discardFrame h3)
theorem units_xchkAbandon {z s a1} (h : Units z s) : Units z (xchkAbandon s a1) := by
  unfold xchkAbandon
  split
  · exact h
  · extract_lets +onlyGivenNames u0
    have h1 : Units z u0 := units_updEng (units_updEng h)
    clear_value u0
    exact units_integCount (units_dropHeld h1)
theorem units_resetAborts {z s a1} (h : Units z s) : Units z (resetAborts s a1) := by
  unfold resetAborts
  split
  · exact h
  · extract_lets +onlyGivenNames u0
    clear_value u0
    exact units_abortSteps (units_mk h rfl)
theorem units_retireEngine {z s a1} (h : Units z s) : Units z (retireEngine s a1) := by
  unfold retireEngine
  refine units_ite h ?_
  extract_lets +onlyGivenNames u0
  have h1 : Units z u0 := units_updEng (units_resetAborts h)
  clear_value u0
  extract_lets +onlyGivenNames u2
  have h3 : Units z u2 := units_setF (units_setEngState h1) _ _ _
  clear_value u2
  exact units_xchkAbandon (units_orphanAll (units_dropQueued h3))
theorem units_setDmaState {z s a1 a2} (h : Units z s) : Units z (setDmaState s a1 a2) := by
  unfold setDmaState
  exact units_withCause h (fun x0 h1 => units_setF h1 _ _ _)

end Sys2Proof.Machine
end

section
/-! PROOFS. The logbook, classification and the commands on units (R349, R352 to R358). -/

namespace Sys2Proof.Machine

/-! ## What a record leaves of the units -/

theorem fileRec_units (s : State) (r : LogRec) : (fileRec s r).integ.units = s.integ.units := units_fileRec rfl

theorem health_of_units {s t : State} (h : s.integ.units = t.integ.units) (k d u : Nat) : s.health k d u = t.health k d u := by
  rw [State.health, State.health, h]

theorem health_setHealth_same (s : State) (k d u : Nat) (h : UnitHealth) : (s.setHealth k d u h).health k d u = h :=
  sget_sput_same s.integ.units (unitKey k d u) h UnitHealth.init

theorem health_integCount (s : State) (n k d u : Nat) : (s.integCount n).health k d u = s.health k d u := rfl

/-- Only a unit that is suspect in a band is held to it. -/
theorem bandHeld_of_state {s : State} {k d u : Nat} (h : (s.health k d u).state ≠ 2) : s.bandHeld k d u = false := by
  simp [State.bandHeld, h]

/-! ## Classification (R353 to R355) -/

section
variable {s : State} {r : LogRec}

/-- The unit's health with the record's occurrences. -/
def withOcc (s : State) (r : LogRec) : UnitHealth :=
  { s.health r.kind r.die r.unit with
    occ := List.replicate (if r.cls = 4 ∧ r.folded ≠ 0 then r.folded else 1) (r.signature, r.logTime, r.band) ++
      (s.health r.kind r.die r.unit).occ }

/-- Its occurrences like the record within the window. -/
def likeOcc (s : State) (r : LogRec) : List (Nat × Nat × Nat) :=
  (withOcc s r).occ.filter fun o => o.1 == r.signature &&
    withinHours (s.fld R.INTEG_CLASS_CTRL F.INTEG_CLASS_CTRL_WINDOW_H) r.logTime o.2.1

theorem classify_of_counts (h : r.counts = true) : classify s r =
    let s1 := s.setHealth r.kind r.die r.unit (withOcc s r)
    let n := min 255 (likeOcc s r).length
    if (likeOcc s r).length < s.fld R.INTEG_CLASS_CTRL F.INTEG_CLASS_CTRL_REPEAT then (n, s1)
    else if (s.health r.kind r.die r.unit).state = 0 then (n, firstSuspicion s1 r (withOcc s r) (likeOcc s r))
    else if (s.health r.kind r.die r.unit).state = 1 ∨ (s.health r.kind r.die r.unit).state = 2 then
      (n, secondSuspicion s1 r (withOcc s r))
    else (n, s1) := if_neg (by rw [h]; exact Bool.false_ne_true)

/-- A first suspicion where no self-test passed in another band. -/
theorem firstSuspicion_of_no_pass {h : UnitHealth} (hits : List (Nat × Nat × Nat)) (hp : h.passes = []) :
    firstSuspicion s r h hits = fileStateChange ((s.setHealth r.kind r.die r.unit
      { h with state := 1, suspicions := min 15 (h.suspicions + 1), occ := [] }).integCount 13) r.kind r.die r.unit := by
  simp only [firstSuspicion, hp, List.any_nil, Bool.and_false, Bool.false_eq_true, ↓reduceIte]
  refine if_neg (Bool.eq_false_iff.mp (bandHeld_of_state ?_))
  rw [fileStateChange, health_of_units (fileRec_units _ _), health_integCount, health_setHealth_same]
  exact (by decide : (1 : Nat) ≠ 2)

theorem secondSuspicion_of_budget {h : UnitHealth} (ha : s.bit R.INTEG_CTRL F.INTEG_CTRL_AUTO_RETIRE = true)
    (hk : unitsOfKind r.kind ≠ 0) (hb : s.budgetUsed r.kind < s.budget r.kind) :
    secondSuspicion s r h = retireUnit (s.setHealth r.kind r.die r.unit
      { h with suspicions := min 15 (h.suspicions + 1), occ := [] }) r.kind r.die r.unit := by
  simp only [secondSuspicion, ha]
  exact if_pos (by simp [hk, hb])

theorem secondSuspicion_of_manual {h : UnitHealth} (ha : s.bit R.INTEG_CTRL F.INTEG_CTRL_AUTO_RETIRE = false)
    (hs : (s.health r.kind r.die r.unit).state ≠ 2) :
    secondSuspicion s r h = fileStateChange ((s.setHealth r.kind r.die r.unit
      { h with suspicions := min 15 (h.suspicions + 1), occ := [] }).setHealth r.kind r.die r.unit
        { h with state := 4, suspicions := min 15 (h.suspicions + 1), occ := [] }) r.kind r.die r.unit := by
  simp only [secondSuspicion, ha, bandHeld_of_state hs, Bool.false_and, Bool.false_eq_true, ↓reduceIte]

end

/-! ## The fallback queue (R357) -/

/-- A register reads as the change left it, whatever message went with it. -/
theorem withCause_rd (s : State) (v : Nat) (f : State → State) (r : RegRef) : (withCause s v f).rd r = (f s).rd r := by
  obtain ⟨h, o, e⟩ := withCause_eq s v f
  rw [e]
  rfl

/-- The records that fill a slot of the fallback queue. -/
def fillSlot (s : State) (slot : Nat) (ws : List Nat) : State :=
  (List.range 16).foldl (fun s w => s.wr (R.INTEG_FB_RECORD slot w) (BitVec.ofNat 32 (ws.getD w 0))) s

/-- A register written in turn reads its last value; here each is written once. -/
theorem rd_foldl_fb (slot n : Nat) (g : Nat → Word) (s : State) {w : Nat} (h : w < n) :
    ((List.range n).foldl (fun s w => s.wr (R.INTEG_FB_RECORD slot w) (g w)) s).rd (R.INTEG_FB_RECORD slot w) = g w := by
  induction n with
  | zero => exact absurd h (Nat.not_lt_zero w)
  | succ n ih =>
    rw [List.range_succ, List.foldl_append]
    by_cases hw : w = n
    · rw [hw]
      exact rd_wr_same _ _ _
    · refine (rd_wr_ne _ (fun ha => hw ?_) _).trans (ih (by omega))
      simp only [R.INTEG_FB_RECORD] at ha
      omega

theorem rd_fillSlot (s : State) (slot : Nat) (ws : List Nat) {w : Nat} (h : w < 16) :
    (fillSlot s slot ws).rd (R.INTEG_FB_RECORD slot w) = BitVec.ofNat 32 (ws.getD w 0) :=
  rd_foldl_fb slot 16 (fun w => BitVec.ofNat 32 (ws.getD w 0)) s h

theorem rd_setBit_twice (s : State) {q r : RegRef} (f g : Fld) (c : Bool) (h : r.addr ≠ q.addr) :
    (if c then (s.setBit q f).setBit q g else s.setBit q f).rd r = s.rd r := by
  cases c with
  | false => exact rd_setF_reg s h f 1
  | true => exact (rd_setF_reg _ h g 1).trans (rd_setF_reg s h f 1)

/-- The fallback queue with a record, but for the event and its message. -/
theorem fallback_rd (s : State) (ws : List Nat) {r : RegRef} (h : r.addr ≠ R.INTEG_EVENT.addr) : (fallback s ws).rd r =
    ((fillSlot s ((s.rd R.INTEG_FB_PROD).toNat % 64) ws).wr R.INTEG_FB_PROD (s.rd R.INTEG_FB_PROD + 1)).rd r := by
  rw [fallback, withCause_rd]
  exact rd_setBit_twice _ _ _ _ h

theorem fallback_prod (s : State) (ws : List Nat) : (fallback s ws).rd R.INTEG_FB_PROD = s.rd R.INTEG_FB_PROD + 1 :=
  (fallback_rd s ws (by decide)).trans (rd_wr_same _ _ _)

theorem fallback_record (s : State) (ws : List Nat) {w : Nat} (h : w < 16) :
    (fallback s ws).rd (R.INTEG_FB_RECORD ((s.rd R.INTEG_FB_PROD).toNat % 64) w) = BitVec.ofNat 32 (ws.getD w 0) := by
  rw [fallback_rd s ws (by simp only [R.INTEG_FB_RECORD, R.INTEG_EVENT]; omega), rd_wr_ne _ (by simp only [R.INTEG_FB_RECORD, R.INTEG_FB_PROD]; omega)]
  exact rd_fillSlot s _ ws h

/-! ## Retirement -/

theorem units_retireEffect {z : SMap UnitHealth} {s : State} (k d u : Nat) (h : Units z s) : Units z (retireEffect s k d u) := by
  unfold retireEffect
  split
  · exact units_writeQuarantine h
  · exact units_writeQuarantine h
  · exact units_retireEngine h
  · exact units_setDmaState h
  · exact units_writeExclude h
  · exact units_writeExclude h
  · exact h

theorem units_checkDie {z : SMap UnitHealth} {s : State} (d : Nat) (h : Units z s) : Units z (checkDie s d) := by
  unfold checkDie
  exact units_ite (units_fileRec (units_setF h _ _ _)) h

/-- A unit that is retired reads so: nothing that its retirement does changes the health of a unit. -/
theorem isRetired_retireUnit (s : State) (k d u : Nat) : (retireUnit s k d u).isRetired k d u = true := by
  have hu : Units (s.setHealth k d u { s.health k d u with state := 3, occ := [] }).integ.units (retireUnit s k d u) := by
    unfold retireUnit
    exact units_checkDie _ (units_retireEffect _ _ _ (units_fileRec (units_setEvent (units_integCount rfl))))
  rw [State.isRetired, health_of_units hu, health_setHealth_same]
  rfl

/-! ## The registers of the block (R352, R358) -/

theorem logTime_writeLogTime (v : Word) (s : State) : (writeLogTime v s).logTime = v.toNat := by
  have hr : (writeLogTime v s).rd R.INTEG_LOG_TIME = v :=
    (rd_setF_reg _ (q := R.INTEG_STATUS) (r := R.INTEG_LOG_TIME) (by decide) _ _).trans (rd_wr_same _ _ _)
  have ht : (writeLogTime v s).pwr.aon - (writeLogTime v s).integ.logTick = 0 := Nat.sub_self _
  rw [State.logTime, hr, ht, Nat.zero_div, Nat.add_zero, Nat.mod_eq_of_lt v.isLt]

theorem timeValid_writeLogTime (v : Word) (s : State) :
    (writeLogTime v s).bit R.INTEG_STATUS F.INTEG_STATUS_TIME_VALID = true :=
  beq_iff_eq.mpr ((fld_setF_same _ _ _ _ (by decide) (by decide)).trans (by decide))

theorem unitCmd_of_range {v : Word} {f : Nat → Nat → Nat → State → Nat × State} {s : State}
    (h : unitInRange (unitOf v).1 (unitOf v).2.1 (unitOf v).2.2 = true) : unitCmd v f s =
      let r := f (unitOf v).1 (unitOf v).2.1 (unitOf v).2.2 (s.wr R.INTEG_UNIT_CMD (v &&& 0x0FF0FFFF#32))
      r.2.setF R.INTEG_UNIT_STATUS F.INTEG_UNIT_STATUS_LAST_STATUS r.1 := by
  simp only [unitCmd, h, ↓reduceIte]

theorem unitCmd_of_bad {v : Word} {f : Nat → Nat → Nat → State → Nat × State} {s : State}
    (h : unitInRange (unitOf v).1 (unitOf v).2.1 (unitOf v).2.2 = false) : unitCmd v f s =
      (s.wr R.INTEG_UNIT_CMD (v &&& 0x0FF0FFFF#32)).setF R.INTEG_UNIT_STATUS F.INTEG_UNIT_STATUS_LAST_STATUS 0x10 := by
  simp only [unitCmd, h, Bool.false_eq_true, ↓reduceIte]

/-- Fields of the status register after a query. -/
theorem opUnitQuery_fields {v : Word} {s : State} (h : unitInRange (unitOf v).1 (unitOf v).2.1 (unitOf v).2.2 = true) :
    let x := (s.wr R.INTEG_UNIT_CMD (v &&& 0x0FF0FFFF#32)).health (unitOf v).1 (unitOf v).2.1 (unitOf v).2.2
    (opUnitQuery v s).fld R.INTEG_UNIT_STATUS F.INTEG_UNIT_STATUS_LAST_STATUS = 0 ∧
    (opUnitQuery v s).fld R.INTEG_UNIT_STATUS F.INTEG_UNIT_STATUS_STATE = x.state % 16 ∧
    (opUnitQuery v s).fld R.INTEG_UNIT_STATUS F.INTEG_UNIT_STATUS_SUSPICIONS = x.suspicions % 16 ∧ (opUnitQuery v s).integ = s.integ := by
  rw [opUnitQuery, unitCmd_of_range h]
  dsimp only
  refine ⟨?_, ?_, ?_, rfl⟩
  · rw [fld_setF_same _ _ _ _ (by decide) (by decide)]
    decide
  · rw [fld_setF_ne _ _ _ _ _ (by decide) (by decide), fld_setF_ne _ _ _ _ _ (by decide) (by decide),
      fld_setF_ne _ _ _ _ _ (by decide) (by decide), fld_setF_same _ _ _ _ (by decide) (by decide)]
    rfl
  · rw [fld_setF_ne _ _ _ _ _ (by decide) (by decide), fld_setF_ne _ _ _ _ _ (by decide) (by decide),
      fld_setF_same _ _ _ _ (by decide) (by decide)]
    rfl

end Sys2Proof.Machine

open Sys2Proof Sys2Proof.Machine

/-- Settles O50: what the logbook takes; the classification by what the record counts and its unit's state; the fallback queue; retirement;
the heartbeat; LOG_TIME; the commands on units. -/
theorem logbookAndUnits : Obligations.LogbookAndUnits := by
  unfold Obligations.LogbookAndUnits
  refine ⟨fun s hq hb => next_eq ?_, fun ws rest s hq hb hm => next_eq ?_, fun r rest s hq => next_eq ?_, fun r s => ?classify,
    fun ws s hw => ⟨sget_sput_same s.integ.book (s.integ.written % 65536) ws [], rfl⟩,
    fun ws cls s => ⟨rfl, fallback_prod s ws, fun w => fallback_record s ws w.isLt⟩,
    fun k d u s h => isRetired_retireUnit s k d u, fun s => ⟨fun h => if_pos h, fun h => if_neg (Nat.not_lt.mpr h)⟩,
    fun v s => ⟨_, rfl, logTime_writeLogTime v s, timeValid_writeLogTime v s, rfl, rfl⟩, fun v s => ⟨fun h => ?_, fun h => ?cmds⟩⟩
  case classify =>
    refine ⟨fun h => ?_, fun h hf => (classify_of_counts h).trans (if_pos hf), fun h hf h0 hp => ?_, fun h hf hs ha hk hb => ?_,
      fun h hf hs ha => ?_⟩
    · rw [classify, h]
      rfl
    · rw [classify_of_counts h]
      refine (congrArg Prod.snd ((if_neg hf).trans (if_pos h0))).trans ?_
      exact firstSuspicion_of_no_pass _ hp
    · rw [classify_of_counts h]
      refine (congrArg Prod.snd ((if_neg hf).trans ((if_neg (by omega)).trans (if_pos hs)))).trans ?_
      exact secondSuspicion_of_budget ha hk hb
    · rw [classify_of_counts h]
      refine (congrArg Prod.snd ((if_neg hf).trans ((if_neg (by omega)).trans (if_pos (.inl hs))))).trans ?_
      refine secondSuspicion_of_manual ha ?_
      rw [health_setHealth_same]
      exact fun h2 => absurd (hs.symm.trans h2) (by decide)
  case cmds =>
    refine ⟨⟨_, rfl, opUnitQuery_fields h⟩, fun hs => next_eq ?_, fun hs => ⟨next_eq ?_, next_eq ?_⟩, fun hs => next_eq ?_,
      fun h0 h3 hb => next_eq ?_⟩
    all_goals refine (unitCmd_of_range h).trans ?_
    · simp only [State.isRetired, beq_iff_eq, hs, ↓reduceIte]
    · simp only [State.isRetired, beq_iff_eq, hs, ↓reduceIte]
    · simp only [hs, ↓reduceIte]
    · simp only [hs, ↓reduceIte, OfNat.zero_ne_ofNat]
    · simp only [h0, h3, hb, ↓reduceIte, Bool.false_eq_true]
  · simp only [doLogbookWrite, collect, hq, bookNext]
    obtain hb | hb := hb
    · rw [hb]
    · cases hl : s.integ.toBook with
      | nil => rfl
      | cons ws rest => exact if_neg (Bool.eq_false_iff.mp hb)
  · simp only [doLogbookWrite, collect, hq, bookNext, hb, hm, ↓reduceIte]
  · simp only [doLogbookWrite, collect, hq]
  · exact ⟨next_eq (unitCmd_of_bad h), next_eq (unitCmd_of_bad h), next_eq (unitCmd_of_bad h)⟩
end

section
/-! PROOFS. Fault notices and the random-operand self-test (R346, R347, R357, R359, R360, R406). -/

namespace Sys2Proof.Machine

/-! ## Notices -/

theorem doNoticeSend_of_cons {s : State} {n : Notice} {rest : List Notice} (h : s.integ.fresh = n :: rest) (hc : s.canNotify = true) :
    doNoticeSend s = sendNotice { s with integ := { s.integ with
      fresh := rest, unacked := s.integ.unacked ++ [{ n with sends := 1, sentAt := s.pwr.aon }] } } { n with sends := 1, sentAt := s.pwr.aon } := by
  simp only [doNoticeSend, h, hc, Bool.not_true, Bool.false_eq_true, ↓reduceIte]

theorem doNoticeResend_of_due {i : Nat} {s : State} {n : Notice} (h : s.integ.unacked[i]? = some n) (hc : s.canNotify = true)
    (hs : n.sends < s.fld R.INTEG_NOTICE_CTRL F.INTEG_NOTICE_CTRL_SENDS) (hd : n.due ≤ s.pwr.aon) :
    doNoticeResend i s = sendNotice { s with integ := { s.integ with
      unacked := s.integ.unacked.set i { n with sends := n.sends + 1, sentAt := s.pwr.aon } } } { n with sends := n.sends + 1, sentAt := s.pwr.aon } := by
  simp only [doNoticeResend, h]
  exact if_neg (by simpa [hc] using ⟨hs, hd⟩)

/-! ## Slices -/

/-- The engines of a slice, and whether it runs. -/
def SliceRuns (e ee n : Nat) (s : State) : Prop :=
  e / 16 * 16 + ee ≠ e ∧ s.bit R.INTEG_CTRL F.INTEG_CTRL_ST_EN = true ∧ s.slicable e n = true ∧ s.slicable (e / 16 * 16 + ee) n = true

section
variable {e ee : Nat} {stopped : Bool} {o : SliceObs} {s : State}

theorem sliceRuns_iff (n : Nat) : SliceRuns e ee n s ↔ (e / 16 * 16 + ee == e || !s.bit R.INTEG_CTRL F.INTEG_CTRL_ST_EN || !s.slicable e n ||
    !s.slicable (e / 16 * 16 + ee) n) = false := by
  simp [SliceRuns, and_assoc]

theorem doSelfTestSlice_of_not (h : ¬ SliceRuns e ee o.took.val s) : doSelfTestSlice e ee stopped o s = s :=
  if_pos (Bool.eq_true_of_not_eq_false (mt (sliceRuns_iff _).mpr h))

theorem doSelfTestSlice_of_runs (h : SliceRuns e ee o.took.val s) : doSelfTestSlice e ee stopped o s =
    if stopped then noteSlice o.took.val (noteSlice o.took.val s e) (e / 16 * 16 + ee)
    else judgeSlice (noteSlice o.took.val (noteSlice o.took.val s e) (e / 16 * 16 + ee)) e (e / 16 * 16 + ee) o :=
  if_neg (Bool.eq_false_iff.mp ((sliceRuns_iff _).mp h))

end

section
variable {s : State} {e q : Nat} {o : SliceObs} (hd : o.sig1 ≠ o.sig2)
include hd

theorem judgeSlice_of_third (h : e / 16 * 16 + (e % 16 ^^^ 4) ≠ q ∧ s.slicable (e / 16 * 16 + (e % 16 ^^^ 4)) o.took.val = true) :
    judgeSlice s e q o =
      let s1 := noteSlice o.took.val s (e / 16 * 16 + (e % 16 ^^^ 4))
      if o.sig3 = o.sig2 then failSlice s1 e q o o.sig2.toNat
      else if o.sig3 = o.sig1 then failSlice s1 q e o o.sig1.toNat else failBoth s1 e q o := by
  have ht : s.thirdOf e q o.took.val = some (e / 16 * 16 + (e % 16 ^^^ 4)) := if_pos h
  rw [judgeSlice, if_neg hd, ht]

theorem judgeSlice_of_no_third (h : ¬ (e / 16 * 16 + (e % 16 ^^^ 4) ≠ q ∧ s.slicable (e / 16 * 16 + (e % 16 ^^^ 4)) o.took.val = true)) :
    judgeSlice s e q o = failBoth s e q o := by
  have ht : s.thirdOf e q o.took.val = none := if_neg h
  rw [judgeSlice, if_neg hd, ht]

end

/-- The duty of an engine counts the slice it ran. -/
theorem lastSlices_noteSlice (e took : Nat) (s : State) : (noteSlice took s e).lastSlices e = (s.cycle, took) :: s.lastSlices e := by
  have he : ((noteSlice took s e).eng e).slices = (s.cycle, took) :: s.lastSlices e := congrArg Engine.slices (eng_updEng_same s e _)
  have hc : (noteSlice took s e).cycle = s.cycle := rfl
  rw [State.lastSlices, he, hc, List.filter_cons_of_pos (by simp), State.lastSlices, List.filter_filter]
  simp only [Bool.and_self]

end Sys2Proof.Machine

open Sys2Proof Sys2Proof.Machine

/-- Settles O51: a notice's first send and its resends; a slice by its engines, its signatures and the third engine; its charge. -/
theorem noticesAndSlices : Obligations.NoticesAndSlices := by
  unfold Obligations.NoticesAndSlices
  refine ⟨fun s h => next_eq ?_, fun n rest s h hc => ⟨_, next_eq (doNoticeSend_of_cons h hc), rfl, rfl, rfl, rfl⟩, fun i s h => next_eq ?_, fun i n s h hc =>
    ⟨fun hw => next_eq ?_, fun h1 h2 => ⟨_, next_eq (doNoticeResend_of_due h hc h1 h2), rfl, rfl, rfl⟩⟩, fun e ee stopped o s => ?slice, fun e took s => lastSlices_noteSlice e took s⟩
  case slice =>
    refine ⟨fun h => next_eq (doSelfTestSlice_of_not h), fun h => next_eq (doSelfTestSlice_of_runs h), fun h he => next_eq ?_,
      fun h hd ht h3 => next_eq ?_, fun h hd ht h3 => next_eq ?_, fun h hd ht h1 h2 => next_eq ?_, fun h hd ht => next_eq ?_⟩
    all_goals refine (doSelfTestSlice_of_runs h).trans ?_
    · exact if_pos he
    · exact (judgeSlice_of_third hd ht).trans (if_pos h3)
    · exact (judgeSlice_of_third hd ht).trans ((if_neg fun h2 => hd (h3.symm.trans h2)).trans (if_pos h3))
    · exact (judgeSlice_of_third hd ht).trans ((if_neg h2).trans (if_neg h1))
    · exact judgeSlice_of_no_third hd ht
  · cases hf : s.integ.fresh with
    | nil => simp only [doNoticeSend, hf]
    | cons n rest => simp only [doNoticeSend, hf, h.resolve_left (by simp [hf]), Bool.not_false, ↓reduceIte]
  · cases hu : s.integ.unacked[i.val]? with
    | none => simp only [doNoticeResend, hu]
    | some n => simp only [doNoticeResend, hu, h.resolve_left (by simp [hu]), Bool.not_false, Bool.true_or, ↓reduceIte]
  · simp only [doNoticeResend, h]
    refine if_pos ?_
    rw [hc, Bool.or_eq_true, Bool.not_true, Bool.false_or, decide_eq_true_eq, decide_eq_true_eq]
    exact hw
end

section
/-! PROOFS. The command ring, its completions and the short commands (R369 to R373, R375 to R378). -/

namespace Sys2Proof.Machine

/-! ## The rings (R370, R372) -/

theorem ringSize_eq (old new : Nat) (en : Bool) : ringSize old new en = if en = true ∨ new < 4 ∨ 12 < new then old else new := by
  simp only [ringSize, Bool.or_eq_true, decide_eq_true_eq, or_assoc]

theorem ringSize_lt {old new : Nat} (en : Bool) {n : Nat} (ho : old < n) (hn : new < n) : ringSize old new en < n := by
  rw [ringSize_eq]
  split
  · exact ho
  · exact hn

theorem fld_lt (s : State) (r : RegRef) (f : Fld) : s.fld r f < 2 ^ (f.hi + 1 - f.lo) := Fld_get_lt f _

theorem leBytes_length (n k : Nat) : (leBytes n k).length = k := by
  induction k generalizing n with
  | zero => rfl
  | succ k ih => exact congrArg Nat.succ (ih _)

/-- A completion entry is sixteen bytes long. -/
theorem Cpl.bytes_length (x : Cpl) (phase : Bool) : (x.bytes phase).length = 16 := by
  simp [Cpl.bytes, leWords, leBytes_length]

theorem hostRead_hostWrite (s : State) (a : Nat) (b : Bytes) : (s.hostWrite a b).hostRead a b.length = b :=
  sgets_sputs s.hostMem a b

theorem fld_updHost (s : State) (f : HostIf → HostIf) (r : RegRef) (g : Fld) : (s.updHost f).fld r g = s.fld r g := rfl

/-- A register reads as the write of a cause left it, whatever message went with it. -/
theorem causeWrite_rd (s : State) (v : Nat) (f : State → State) (r : RegRef) : (causeWrite s v f).rd r = (f s).rd r := by
  obtain ⟨h, o, e⟩ := causeWrite_eq s v f
  rw [e]
  rfl

theorem causeWrite_host (s : State) (v : Nat) (f : State → State) : (causeWrite s v f).host = (f s).host := by
  obtain ⟨h, o, e⟩ := causeWrite_eq s v f
  rw [e]

theorem withCause_host (s : State) (v : Nat) (f : State → State) : (withCause s v f).host = (f s).host := by
  obtain ⟨h, o, e⟩ := withCause_eq s v f
  rw [e]

theorem withCause_mgmt (s : State) (v : Nat) (f : State → State) : (withCause s v f).mgmt = (f s).mgmt := by
  obtain ⟨h, o, e⟩ := withCause_eq s v f
  rw [e]

section
variable (v : Word) (s : State)

/-- CMD_RING_CTRL as a write leaves it. -/
def cmdCtrlSet : State :=
  (s.setF R.CMD_RING_CTRL F.CMD_RING_CTRL_SIZE_LOG2 (ringSize (s.fld R.CMD_RING_CTRL F.CMD_RING_CTRL_SIZE_LOG2)
    (F.CMD_RING_CTRL_SIZE_LOG2.get v) (s.bit R.CMD_RING_CTRL F.CMD_RING_CTRL_EN))).setF R.CMD_RING_CTRL F.CMD_RING_CTRL_EN
      (F.CMD_RING_CTRL_EN.get v)

theorem writeCmdCtrl_ctrl (f : Fld) : (writeCmdCtrl v s).fld R.CMD_RING_CTRL f = (cmdCtrlSet v s).fld R.CMD_RING_CTRL f := by
  unfold writeCmdCtrl
  dsimp only
  split
  · exact (fld_setF_reg _ (by decide) _ _ _).trans (fld_setF_reg _ (by decide) _ _ _)
  · rfl

theorem writeCmdCtrl_en : (writeCmdCtrl v s).bit R.CMD_RING_CTRL F.CMD_RING_CTRL_EN = (F.CMD_RING_CTRL_EN.get v == 1) := by
  rw [State.bit, writeCmdCtrl_ctrl, cmdCtrlSet, fld_setF_same _ _ _ _ (by decide) (by decide), Nat.mod_eq_of_lt (Fld_get_lt _ v)]

theorem writeCmdCtrl_size : (writeCmdCtrl v s).fld R.CMD_RING_CTRL F.CMD_RING_CTRL_SIZE_LOG2 =
    ringSize (s.fld R.CMD_RING_CTRL F.CMD_RING_CTRL_SIZE_LOG2) (F.CMD_RING_CTRL_SIZE_LOG2.get v)
      (s.bit R.CMD_RING_CTRL F.CMD_RING_CTRL_EN) := by
  rw [writeCmdCtrl_ctrl, cmdCtrlSet, fld_setF_ne _ _ _ _ _ (by decide) (by decide), fld_setF_same _ _ _ _ (by decide) (by decide),
    Nat.mod_eq_of_lt (ringSize_lt _ (fld_lt s _ _) (Fld_get_lt _ v))]

theorem writeCmdCtrl_indices (he : s.bit R.CMD_RING_CTRL F.CMD_RING_CTRL_EN = false) (hv : F.CMD_RING_CTRL_EN.get v = 1) :
    (writeCmdCtrl v s).fld R.CMD_RING_HEAD F.CMD_RING_HEAD_INDEX = 0 ∧ (writeCmdCtrl v s).fld R.CMD_RING_TAIL F.CMD_RING_TAIL_INDEX = 0 := by
  have h : writeCmdCtrl v s = ((cmdCtrlSet v s).setF R.CMD_RING_HEAD F.CMD_RING_HEAD_INDEX 0).setF R.CMD_RING_TAIL F.CMD_RING_TAIL_INDEX 0 :=
    if_pos (by simp only [he, hv, Bool.not_false, BEq.rfl, Bool.and_self])
  rw [h]
  exact ⟨(fld_setF_reg _ (by decide) _ _ _).trans ((fld_setF_same _ _ _ _ (by decide) (by decide)).trans (Nat.zero_mod _)),
    (fld_setF_same _ _ _ _ (by decide) (by decide)).trans (Nat.zero_mod _)⟩

theorem writeCmdCtrl_host : (writeCmdCtrl v s).host = s.host := by
  unfold writeCmdCtrl
  dsimp only
  split
  · rfl
  · rfl

/-- CPL_RING_CTRL as a write leaves it. -/
def cplCtrlSet : State :=
  ((s.setF R.CPL_RING_CTRL F.CPL_RING_CTRL_SIZE_LOG2 (ringSize (s.fld R.CPL_RING_CTRL F.CPL_RING_CTRL_SIZE_LOG2)
    (F.CPL_RING_CTRL_SIZE_LOG2.get v) (s.bit R.CPL_RING_CTRL F.CPL_RING_CTRL_EN))).setF R.CPL_RING_CTRL F.CPL_RING_CTRL_IRQ_THRESH
      (F.CPL_RING_CTRL_IRQ_THRESH.get v)).setF R.CPL_RING_CTRL F.CPL_RING_CTRL_EN (F.CPL_RING_CTRL_EN.get v)

/-- The completion queue put to use. -/
def cplStarted (s : State) : State :=
  ((s.setF R.CPL_RING_HEAD F.CPL_RING_HEAD_INDEX 0).setF R.CPL_RING_TAIL F.CPL_RING_TAIL_INDEX 0).updHost
    fun h => { h with cplOut := [], cplPhase := true }

/-- What a write of CPL_RING_CTRL changes. -/
def cplCtrl : State :=
  if !s.bit R.CPL_RING_CTRL F.CPL_RING_CTRL_EN && F.CPL_RING_CTRL_EN.get v == 1 then cplStarted (cplCtrlSet v s) else cplCtrlSet v s

theorem writeCplCtrl_eq : writeCplCtrl v s = causeWrite s 0 (cplCtrl v) := rfl

theorem writeCplCtrl_ctrl (f : Fld) : (writeCplCtrl v s).fld R.CPL_RING_CTRL f = (cplCtrlSet v s).fld R.CPL_RING_CTRL f := by
  rw [writeCplCtrl_eq, fld_of_rd (causeWrite_rd s 0 (cplCtrl v) _), cplCtrl]
  split
  · rw [cplStarted, fld_updHost, fld_setF_reg _ (by decide), fld_setF_reg _ (by decide)]
  · rfl

theorem writeCplCtrl_en : (writeCplCtrl v s).bit R.CPL_RING_CTRL F.CPL_RING_CTRL_EN = (F.CPL_RING_CTRL_EN.get v == 1) := by
  rw [State.bit, writeCplCtrl_ctrl, cplCtrlSet, fld_setF_same _ _ _ _ (by decide) (by decide), Nat.mod_eq_of_lt (Fld_get_lt _ v)]

theorem writeCplCtrl_thresh :
    (writeCplCtrl v s).fld R.CPL_RING_CTRL F.CPL_RING_CTRL_IRQ_THRESH = F.CPL_RING_CTRL_IRQ_THRESH.get v := by
  rw [writeCplCtrl_ctrl, cplCtrlSet, fld_setF_ne _ _ _ _ _ (by decide) (by decide), fld_setF_same _ _ _ _ (by decide) (by decide),
    Nat.mod_eq_of_lt (Fld_get_lt _ v)]

theorem writeCplCtrl_size : (writeCplCtrl v s).fld R.CPL_RING_CTRL F.CPL_RING_CTRL_SIZE_LOG2 =
    ringSize (s.fld R.CPL_RING_CTRL F.CPL_RING_CTRL_SIZE_LOG2) (F.CPL_RING_CTRL_SIZE_LOG2.get v)
      (s.bit R.CPL_RING_CTRL F.CPL_RING_CTRL_EN) := by
  rw [writeCplCtrl_ctrl, cplCtrlSet, fld_setF_ne _ _ _ _ _ (by decide) (by decide), fld_setF_ne _ _ _ _ _ (by decide) (by decide),
    fld_setF_same _ _ _ _ (by decide) (by decide), Nat.mod_eq_of_lt (ringSize_lt _ (fld_lt s _ _) (Fld_get_lt _ v))]

theorem writeCplCtrl_started (he : s.bit R.CPL_RING_CTRL F.CPL_RING_CTRL_EN = false) (hv : F.CPL_RING_CTRL_EN.get v = 1) :
    (writeCplCtrl v s).fld R.CPL_RING_HEAD F.CPL_RING_HEAD_INDEX = 0 ∧ (writeCplCtrl v s).fld R.CPL_RING_TAIL F.CPL_RING_TAIL_INDEX = 0 ∧
      (writeCplCtrl v s).host.cplOut = [] ∧ (writeCplCtrl v s).host.cplPhase = true := by
  have hc : cplCtrl v s = cplStarted (cplCtrlSet v s) := if_pos (by simp only [he, hv, Bool.not_false, BEq.rfl, Bool.and_self])
  rw [writeCplCtrl_eq, fld_of_rd (causeWrite_rd s 0 (cplCtrl v) _), fld_of_rd (causeWrite_rd s 0 (cplCtrl v) _), causeWrite_host, hc]
  refine ⟨?_, ?_, rfl, rfl⟩
  · rw [cplStarted, fld_updHost, fld_setF_reg _ (by decide), fld_setF_same _ _ _ _ (by decide) (by decide), Nat.zero_mod]
  · rw [cplStarted, fld_updHost, fld_setF_same _ _ _ _ (by decide) (by decide), Nat.zero_mod]

theorem writeCplCtrl_waiting : (writeCplCtrl v s).host.waiting = s.host.waiting := by
  rw [writeCplCtrl_eq, causeWrite_host, cplCtrl]
  split
  · rfl
  · rfl

theorem writeCplHead_index : (writeCplHead v s).fld R.CPL_RING_HEAD F.CPL_RING_HEAD_INDEX = v.toNat % 4096 := by
  rw [writeCplHead, fld_of_rd (causeWrite_rd s 0 _ _)]
  exact (fld_setF_same s _ _ _ (by decide) (by decide)).trans (Nat.mod_mod _ _)

theorem writeCplHead_host : (writeCplHead v s).host = { s.host with cplOut := s.host.cplOut.drop ((v.toNat % 4096 % s.cplSize +
    s.cplSize - s.fld R.CPL_RING_HEAD F.CPL_RING_HEAD_INDEX % s.cplSize) % s.cplSize) } := by
  rw [writeCplHead, causeWrite_host]
  rfl

end

/-! ## The oldest completion (R372, R375) -/

/-- Slot of the next completion. -/
def State.cplSlot (s : State) : Nat := s.fld R.CPL_RING_TAIL F.CPL_RING_TAIL_INDEX % s.cplSize

/-- What the writing of an entry changes, but for the message. -/
def cplWritten (s0 : State) (x : Cpl) (rest : List Cpl) (s : State) : State :=
  let next := (s0.cplSlot + 1) % s0.cplSize
  let s1 := (s.hostWrite (s0.rd64 R.CPL_RING_BASE R.CPL_RING_BASE_HI / 4096 * 4096 + s0.cplSlot * 16) (x.bytes s.host.cplPhase)).setF
    R.CPL_RING_TAIL F.CPL_RING_TAIL_INDEX next
  let s2 := if x.op = 0x16 then { s1 with mgmt := { s1.mgmt with activateAt := s1.pwr.aon + 2500000 } } else s1
  s2.updHost fun h => { h with waiting := rest, cplOut := h.cplOut ++ [x.irq], cplPhase := if next = 0 then !h.cplPhase else h.cplPhase }

section
variable {x : Cpl} {rest : List Cpl} {s : State} (hw : s.host.waiting = x :: rest) (hf : s.cplFree ≠ 0)

include hw hf in
theorem doCompletionWrite_of_free : doCompletionWrite s = withCause s 0 (cplWritten s x rest) := by
  rw [doCompletionWrite, hw]
  exact if_neg hf

theorem cplWritten_host (s0 : State) : (cplWritten s0 x rest s).host = { s.host with
    waiting := rest, cplOut := s.host.cplOut ++ [x.irq],
    cplPhase := if (s0.cplSlot + 1) % s0.cplSize = 0 then !s.host.cplPhase else s.host.cplPhase } := by
  unfold cplWritten
  dsimp only
  split
  · rfl
  · rfl

theorem cplWritten_tail (s0 : State) : (cplWritten s0 x rest s).fld R.CPL_RING_TAIL F.CPL_RING_TAIL_INDEX =
    (s0.cplSlot + 1) % s0.cplSize % 4096 := by
  unfold cplWritten
  rw [fld_updHost]
  split
  · exact fld_setF_same (s.hostWrite _ _) _ _ _ (by decide) (by decide)
  · exact fld_setF_same _ _ _ _ (by decide) (by decide)

theorem cplWritten_activateAt (s0 : State) : (cplWritten s0 x rest s).mgmt.activateAt =
    if x.op = 0x16 then s.pwr.aon + 2500000 else s.mgmt.activateAt := by
  unfold cplWritten
  dsimp only
  split
  · rfl
  · rfl

theorem cplWritten_hostMem (s0 : State) : (cplWritten s0 x rest s).hostMem = (s.hostWrite
    (s0.rd64 R.CPL_RING_BASE R.CPL_RING_BASE_HI / 4096 * 4096 + s0.cplSlot * 16) (x.bytes s.host.cplPhase)).hostMem := by
  unfold cplWritten
  dsimp only
  split
  · rfl
  · rfl

end

/-- Where no message goes, a change with its interrupt is the change. -/
theorem withCause_of_pending {s : State} {v : Nat} (f : State → State) (h : irqPending s v = true) : withCause s v f = f s :=
  if_neg (by rw [h]; exact Bool.false_ne_true)

/-! ## The command at HEAD (R370, R373) -/

/-- The entry at HEAD. -/
def State.headCmd (s : State) : Cmd :=
  ⟨toLeWords 16 (s.hostRead (s.rd64 R.CMD_RING_BASE R.CMD_RING_BASE_HI / 4096 * 4096 +
    s.fld R.CMD_RING_HEAD F.CMD_RING_HEAD_INDEX % s.cmdSize * 64) 64)⟩

section
variable {s : State}

theorem doCmdFetch_of_ok (hc : s.canFetch = true) : doCmdFetch false s =
    takeCmd (s.setF R.CMD_RING_HEAD F.CMD_RING_HEAD_INDEX ((s.fld R.CMD_RING_HEAD F.CMD_RING_HEAD_INDEX % s.cmdSize + 1) % s.cmdSize))
      s.headCmd := by
  rw [doCmdFetch, if_neg (by rw [hc]; exact Bool.false_ne_true), if_neg Bool.false_ne_true]
  rfl

theorem takeCmd_of_bad {c : Cmd} (hl : opLong c.op = true)
    (h : c.clean = false ∨ ∃ o ∈ s.host.ops, o.cmd.tag = c.tag ∨ o.cmd.sameTarget c = true ∨ o.cmd.sameDies c = true) :
    takeCmd s c = complete s c 0x10 0 0 := by
  have hb : s.longBad c = true := by
    obtain h | ⟨o, ho, h⟩ := h
    · rw [State.longBad, h]; rfl
    · exact Bool.or_eq_true_iff.mpr (.inr (List.any_eq_true.mpr ⟨o, ho, by simpa [or_assoc] using h⟩))
  rw [takeCmd, if_pos hl, if_pos hb]

theorem takeCmd_of_long {c : Cmd} (hl : opLong c.op = true) (hc : c.clean = true)
    (h : ∀ o ∈ s.host.ops, o.cmd.tag ≠ c.tag ∧ o.cmd.sameTarget c = false ∧ o.cmd.sameDies c = false) :
    takeCmd s c = s.updHost fun x => { x with ops := x.ops ++ [LongOp.fresh c] } := by
  have hb : s.longBad c = false := by
    rw [State.longBad, hc, Bool.not_true, Bool.false_or, List.any_eq_false]
    intro o ho
    obtain ⟨h1, h2, h3⟩ := h o ho
    simp [h1, h2, h3]
  rw [takeCmd, if_pos hl, if_neg (Bool.eq_false_iff.mp hb)]

theorem takeCmd_of_short {c : Cmd} (hl : opLong c.op = false) (hd : opDefined c.op = true) :
    takeCmd s c = s.updHost fun x => { x with fetched := x.fetched ++ [c] } := by
  rw [takeCmd, if_neg (Bool.eq_false_iff.mp hl), if_pos (by rw [hd]; rfl)]

theorem takeCmd_of_undefined {c : Cmd} (hl : opLong c.op = false) (hd : opDefined c.op = false) :
    takeCmd s c = if s.host.fetched = [] then complete s c 0x10 0 0 else s.updHost fun x => { x with fetched := x.fetched ++ [c] } := by
  rw [takeCmd, if_neg (Bool.eq_false_iff.mp hl), hd, Bool.false_or]
  cases s.host.fetched with
  | nil => rfl
  | cons a l => rfl

end

/-! ## Short commands -/

section
variable {op : Nat} {f : Cmd → State → State} {s : State} {c : Cmd} {rest : List Cmd}

theorem shortCmd_of_none (fail : Bool) (h : s.host.fetched = []) : shortCmd op fail f s = s := by
  simp only [shortCmd, h]

variable (h : s.host.fetched = c :: rest)
include h

theorem shortCmd_of_other (fail : Bool) (ho : c.op ≠ op) : shortCmd op fail f s = s := by
  rw [shortCmd, h]
  exact if_pos ho

theorem shortCmd_of_fail (ho : c.op = op) : shortCmd op true f s = finishShort s c 0x1F := by
  rw [shortCmd, h]
  exact (if_neg (not_not.mpr ho)).trans (if_pos rfl)

theorem shortCmd_of_unclean (ho : c.op = op) (hc : c.clean = false) : shortCmd op false f s = finishShort s c 0x10 := by
  rw [shortCmd, h]
  exact (if_neg (not_not.mpr ho)).trans ((if_neg Bool.false_ne_true).trans (if_pos (by rw [hc]; rfl)))

theorem shortCmd_of_clean (ho : c.op = op) (hc : c.clean = true) : shortCmd op false f s = f c s := by
  rw [shortCmd, h]
  exact (if_neg (not_not.mpr ho)).trans ((if_neg Bool.false_ne_true).trans (if_neg (by rw [hc]; exact Bool.false_ne_true)))

end

theorem complete_host {c : Cmd} {st : Nat} (s : State) (h : st ≠ 0x1F) : (complete s c st 0 0).host =
    { s.host with waiting := s.host.waiting ++ [⟨c.tag, c.op, st, 0, 0, c.irq⟩] } := by
  rw [complete]
  exact congrArg State.host (if_neg h)

/-- The entries with undefined opcodes that stand first complete, and the others stay. -/
theorem settleShort_host (cs : List Cmd) (s : State) : (settleShort cs s).host =
    { s.host with
      fetched := cs.dropWhile fun d => !opDefined d.op,
      waiting := s.host.waiting ++ (cs.takeWhile fun d => !opDefined d.op).map fun d => ⟨d.tag, d.op, 0x10, 0, 0, d.irq⟩ } := by
  induction cs generalizing s with
  | nil =>
    rw [settleShort, List.takeWhile_nil, List.map_nil, List.append_nil]
    rfl
  | cons c cs ih =>
    rw [settleShort]
    by_cases hd : opDefined c.op = true
    · rw [if_pos hd, List.dropWhile_cons_of_neg (by simp [hd]), List.takeWhile_cons_of_neg (by simp [hd]), List.map_nil, List.append_nil]
      rfl
    · rw [if_neg hd, ih, List.dropWhile_cons_of_pos (by simp [hd]), List.takeWhile_cons_of_pos (by simp [hd]), List.map_cons,
        complete_host s (by decide)]
      simp only [List.append_assoc, List.singleton_append]

theorem finishShort_host {c : Cmd} {st : Nat} (s : State) (h : st ≠ 0x1F) : (finishShort s c st).host =
    { s.host with
      fetched := (s.host.fetched.drop 1).dropWhile fun d => !opDefined d.op,
      waiting := s.host.waiting ++ [⟨c.tag, c.op, st, 0, 0, c.irq⟩] ++
        ((s.host.fetched.drop 1).takeWhile fun d => !opDefined d.op).map fun d => ⟨d.tag, d.op, 0x10, 0, 0, d.irq⟩ } := by
  rw [finishShort, settleShort_host, complete_host s h]

/-! ## INJECT (R376) -/

section
variable {s : State} {c : Cmd} {f : Frame} {d p : Nat}

theorem opInject_of_none (h : injectFrame s c = none) : opInject c s = finishShort s c 0x10 := by
  rw [opInject, h]

theorem opInject_of_lookup (h : injectFrame s c = some f) (ht : (c.w 5).testBit 31 = false) :
    opInject c s = finishShort (injectLookup s (c.w 5 / 2 ^ 24 % 8) f) c 0 := by
  rw [opInject, h]
  exact if_neg (Bool.eq_false_iff.mp ht)

theorem opInject_of_timed (h : injectFrame s c = some f) (ht : (c.w 5).testBit 31 = true) :
    opInject c s = injectToPort c (c.w 5 / 2 ^ 24 % 8) (c.w 5 % 256) f s := by
  rw [opInject, h]
  exact if_pos ht

theorem injectToPort_of_absent (h : 128 ≤ p ∨ s.portExists d p = false) : injectToPort c d p f s = finishShort s c 0x10 :=
  if_pos (h.imp_right fun h => by rw [h]; rfl)

/-- A port that exists and is not retired. -/
theorem injectToPort_of_present (hp : p < 128) (he : s.portExists d p = true) : injectToPort c d p f s =
    if s.isRetired 2 d p then finishShort s c 0x17
    else if s.portState d p = 1 then finishShort s c 0x18
    else if 2 ^ 30 ≤ s.ahead (c.w 6) ∧ (!s.reached (c.w 6)) = true then finishShort (s.tqCount d p 3) c 0x10
    else if 256 ≤ (s.port d p).timed.length then finishShort s c 0x10
    else finishShort (injectTimed s d p (c.w 6) f) c 0 :=
  if_neg (not_or.mpr ⟨Nat.not_le.mpr hp, by rw [he]; exact Bool.false_ne_true⟩)

/-- A port that is neither retired nor quarantined. -/
theorem injectToPort_of_open (hp : p < 128) (he : s.portExists d p = true) (hr : s.isRetired 2 d p = false) (hq : s.portState d p ≠ 1) :
    injectToPort c d p f s =
    if 2 ^ 30 ≤ s.ahead (c.w 6) ∧ (!s.reached (c.w 6)) = true then finishShort (s.tqCount d p 3) c 0x10
    else if 256 ≤ (s.port d p).timed.length then finishShort s c 0x10
    else finishShort (injectTimed s d p (c.w 6) f) c 0 :=
  (injectToPort_of_present hp he).trans ((if_neg (Bool.eq_false_iff.mp hr)).trans (if_neg hq))

theorem not_far (h : s.ahead (c.w 6) < 2 ^ 30 ∨ s.reached (c.w 6) = true) :
    ¬ (2 ^ 30 ≤ s.ahead (c.w 6) ∧ (!s.reached (c.w 6)) = true) := fun ⟨h1, h2⟩ =>
  h.elim (fun h => absurd h1 (Nat.not_le.mpr h)) fun h => by rw [h] at h2; exact Bool.false_ne_true h2

end

/-! ## SUSPEND, CANCEL and the end of a long operation (R377, R378) -/

/-- An operation that a SUSPEND comes too late for. -/
def tooLate (s : State) (o : LongOp) : Prop :=
  o.ended = true ∨ (s.opCommitted o = true ∧ (o.cmd.op = 0x13 ∨ o.cmd.op = 0x16))

theorem opSuspend_of_some {s : State} {c : Cmd} {o : LongOp} (h : s.op? c.target = some o) : opSuspend c s =
    if o.paused then finishShort s c 3
    else if !hasSuspend o.cmd.op then finishShort s c 0x10
    else if o.ended || s.opCommitted o && (o.cmd.op == 0x13 || o.cmd.op == 0x16) then finishShort s c 2
    else updOp s c.target fun o => { o with asked := true } := by
  rw [opSuspend, h]

theorem tooLate_iff {s : State} {o : LongOp} :
    tooLate s o ↔ (o.ended || s.opCommitted o && (o.cmd.op == 0x13 || o.cmd.op == 0x16)) = true := by
  simp [tooLate]

theorem opResume_of_some {s : State} {c : Cmd} {o : LongOp} (h : s.op? c.target = some o) : opResume c s =
    if o.paused then finishShort (updOp s c.target fun o => { o with paused := false }) c 0 else finishShort s c 0x10 := by
  rw [opResume, h]

theorem opCancel_of_some {s : State} {c : Cmd} {o : LongOp} (h : s.op? c.target = some o) : opCancel c s =
    if o.ended then finishShort s c 2
    else if s.opCommitted o then
      finishShort (if o.cmd.op = 0x11 then
        updOp s c.target fun o => { o with todo := 0, ended := true, paused := false, items := [] } else s) c 2
    else finishShort (endOp (undoOp s o) c.target 1 0 0) c 0 := by
  rw [opCancel, h]

theorem doSuspendPoint_of_some {s : State} {tag : Nat} {o : LongOp} (h : s.op? tag = some o) : doSuspendPoint tag s =
    if o.asked && !o.ended then answerSuspend (updOp s tag fun o => { o with asked := false, paused := true }) tag 3 else s := by
  rw [doSuspendPoint, h]

theorem doLongOpComplete_of_some {s : State} {tag : Nat} {o : LongOp} (internal : Bool) (h : s.op? tag = some o) :
    doLongOpComplete tag internal s =
      if !o.ended && !internal then s
      else
        let s0 := if o.ended || s.opCommitted o then s else undoOp s o
        let s1 := s0.updHost fun h => { h with ops := h.ops.filter (fun x => x.cmd.tag != tag), done := (tag :: h.done).take 64 }
        let s2 := if internal then complete s1 o.cmd 0x1F 0 0 else complete s1 o.cmd o.status o.w2 o.w3
        if o.asked then answerSuspend s2 tag 2 else s2 := by
  rw [doLongOpComplete, h]

/-! ## MSI-X (R369) -/

theorem sendMsi_of_unmasked {s : State} {v : Nat} (h : s.bit (R.MSIX_CTRL v) F.MSIX_CTRL_MASK = false) : sendMsi s v =
    (s.hostWrite (s.rd64 (R.MSIX_ADDR v) (R.MSIX_ADDR_HI v)) (leBytes (s.rd (R.MSIX_DATA v)).toNat 4)).emit
      (.msix (s.rd64 (R.MSIX_ADDR v) (R.MSIX_ADDR_HI v)) (s.rd (R.MSIX_DATA v)).toNat) :=
  if_neg (Bool.eq_false_iff.mp h)

/-- A vector's message as it stands when its mask is cleared. -/
theorem sendMsi_unmask (s : State) (v : Nat) :
    (sendMsi (s.setF (R.MSIX_CTRL v) F.MSIX_CTRL_MASK 0) v).regs = (s.setF (R.MSIX_CTRL v) F.MSIX_CTRL_MASK 0).regs ∧
    (sendMsi (s.setF (R.MSIX_CTRL v) F.MSIX_CTRL_MASK 0) v).out =
      .msix (s.rd64 (R.MSIX_ADDR v) (R.MSIX_ADDR_HI v)) (s.rd (R.MSIX_DATA v)).toNat :: s.out := by
  have hm : (s.setF (R.MSIX_CTRL v) F.MSIX_CTRL_MASK 0).bit (R.MSIX_CTRL v) F.MSIX_CTRL_MASK = false := by
    rw [State.bit, fld_setF_same _ _ _ _ (by decide) (by decide)]
    rfl
  rw [sendMsi_of_unmasked hm]
  refine ⟨rfl, congrArg (· :: s.out) (congrArg₂ Out.msix ?_ ?_)⟩
  · rw [State.rd64, State.rd64, rd_setF_reg _ (by simp only [R.MSIX_ADDR, R.MSIX_CTRL]; omega),
      rd_setF_reg _ (by simp only [R.MSIX_ADDR_HI, R.MSIX_CTRL]; omega)]
  · rw [rd_setF_reg _ (by simp only [R.MSIX_DATA, R.MSIX_CTRL]; omega)]

end Sys2Proof.Machine

open Sys2Proof Sys2Proof.Machine

/-- Settles O52: the rings; the entry fetched; the oldest completion; each short command by the state of its target; the suspend point and
the end of a long operation; a vector unmasked. -/
theorem commandRing : Obligations.CommandRing := by
  unfold Obligations.CommandRing
  refine ⟨fun v s => rfl, fun v s => ⟨_, rfl, writeCmdCtrl_en v s, (writeCmdCtrl_size v s).trans (ringSize_eq _ _ _),
      writeCmdCtrl_indices v s, writeCmdCtrl_host v s⟩,
    fun v s => ⟨_, rfl, writeCplCtrl_en v s, writeCplCtrl_thresh v s, (writeCplCtrl_size v s).trans (ringSize_eq _ _ _),
      writeCplCtrl_started v s, writeCplCtrl_waiting v s⟩,
    fun err s => ?fetch, fun s h => next_eq ?_, fun x rest s hw hf => ⟨_, next_eq (doCompletionWrite_of_free hw hf), ?written⟩,
    fun v s => ⟨_, rfl, writeCplHead_index v s, by rw [writeCplHead_host], by rw [writeCplHead_host]⟩,
    ?table, fun c st s h => finishShort_host s h, fun c rest s h hc => ?short, fun tag internal s => ?long, fun v s => ?msix⟩
  case fetch =>
    refine ⟨fun h => next_eq (if_pos (by rw [h]; rfl)), fun h he => next_eq ?_, fun h he hl hb => next_eq ?_, fun h he hl hc hn => next_eq ?_,
      fun h he hl hd => next_eq ?_, fun h he hd hl => next_eq ?_⟩
    · rw [doCmdFetch, if_neg (by rw [h]; exact Bool.false_ne_true), if_pos he]
    all_goals
      subst he
      refine (doCmdFetch_of_ok h).trans ?_
    · exact takeCmd_of_bad hl hb
    · exact takeCmd_of_long hl hc hn
    · exact takeCmd_of_short hl hd
    · exact takeCmd_of_undefined hl hd
  case written =>
    rw [withCause_host, withCause_mgmt, fld_of_rd (withCause_rd s 0 _ _), cplWritten_host, cplWritten_tail, cplWritten_activateAt]
    refine ⟨rfl, rfl, rfl, rfl, rfl, fun hp => ?_⟩
    rw [withCause_of_pending _ hp, State.hostRead, cplWritten_hostMem]
    exact Cpl.bytes_length x s.host.cplPhase ▸ hostRead_hostWrite s _ (x.bytes s.host.cplPhase)
  case table =>
    simp only [List.mem_cons, List.not_mem_nil, or_false, forall_eq_or_imp, forall_eq]
    refine ⟨fun fail s => ?_, fun fail s => ?_, fun fail s => ?_, fun fail s => ?_, fun fail s => ?_⟩
    all_goals
      refine ⟨fun h => next_eq (shortCmd_of_none fail h), fun c rest h => ⟨fun ho => next_eq (shortCmd_of_other h fail ho),
        fun ho hf => ?_, fun ho hf hc => ?_⟩⟩
      · subst hf
        exact next_eq (shortCmd_of_fail h ho)
      · subst hf
        exact next_eq (shortCmd_of_unclean h ho hc)
  case short =>
    refine ⟨fun ho => next_eq (shortCmd_of_clean h ho hc), fun ho hi => next_eq ?_, fun f ho hi => ⟨fun ht => next_eq ?_,
      fun ht hp => next_eq ?_, fun ht hp he => ?timed⟩, fun hn => ?none, fun o hs => ?some⟩
    case timed =>
      refine ⟨fun hr => next_eq ?_, fun hr hq => next_eq ?_, fun hr hq ha hd => next_eq ?_, fun hr hq ha hl => next_eq ?_,
        fun hr hq ha hl => next_eq ?_⟩
      all_goals refine (shortCmd_of_clean h ho hc).trans ((opInject_of_timed hi ht).trans ?_)
      · exact (injectToPort_of_present hp he).trans (if_pos hr)
      · exact (injectToPort_of_present hp he).trans ((if_neg (Bool.eq_false_iff.mp hr)).trans (if_pos hq))
      · exact (injectToPort_of_open hp he hr hq).trans (if_pos ⟨ha, by rw [hd]; rfl⟩)
      · exact (injectToPort_of_open hp he hr hq).trans ((if_neg (not_far ha)).trans (if_pos hl))
      · exact (injectToPort_of_open hp he hr hq).trans ((if_neg (not_far ha)).trans (if_neg (Nat.not_le.mpr hl)))
    case none =>
      refine ⟨fun ho => next_eq ?_, fun ho => next_eq ?_, fun ho => next_eq ?_⟩
      all_goals refine (shortCmd_of_clean h ho hc).trans ?_
      · rw [opSuspend, hn]
      · rw [opResume, hn]
      · rw [opCancel, hn]
    case some =>
      refine ⟨fun ho hp => next_eq ?_, fun ho hp hh => next_eq ?_, fun ho hp hh hl => next_eq ?_, fun ho hp hh hl => next_eq ?_,
        fun ho hp => next_eq ?_, fun ho hp => next_eq ?_, fun ho he => next_eq ?_, fun ho he hk hop => next_eq ?_,
        fun ho he hk hop => next_eq ?_, fun ho he hk => next_eq ?_⟩
      all_goals refine (shortCmd_of_clean h ho hc).trans ?_
      · exact (opSuspend_of_some hs).trans (if_pos hp)
      · exact (opSuspend_of_some hs).trans ((if_neg (Bool.eq_false_iff.mp hp)).trans (if_pos (by rw [hh]; rfl)))
      · exact (opSuspend_of_some hs).trans ((if_neg (Bool.eq_false_iff.mp hp)).trans ((if_neg (by rw [hh]; exact Bool.false_ne_true)).trans
          (if_pos (tooLate_iff.mp hl))))
      · exact (opSuspend_of_some hs).trans ((if_neg (Bool.eq_false_iff.mp hp)).trans ((if_neg (by rw [hh]; exact Bool.false_ne_true)).trans
          (if_neg (mt tooLate_iff.mpr hl))))
      · exact (opResume_of_some hs).trans (if_pos hp)
      · exact (opResume_of_some hs).trans (if_neg (Bool.eq_false_iff.mp hp))
      · exact (opCancel_of_some hs).trans (if_pos he)
      · rw [opCancel_of_some hs, if_neg (Bool.eq_false_iff.mp he), if_pos hk, if_neg hop]
      · rw [opCancel_of_some hs, if_neg (Bool.eq_false_iff.mp he), if_pos hk, if_pos hop]
      · rw [opCancel_of_some hs, if_neg (Bool.eq_false_iff.mp he), if_neg (Bool.eq_false_iff.mp hk)]
    · exact (shortCmd_of_clean h ho hc).trans (opInject_of_none hi)
    · exact (shortCmd_of_clean h ho hc).trans (opInject_of_lookup hi ht)
    · exact (shortCmd_of_clean h ho hc).trans ((opInject_of_timed hi ht).trans (injectToPort_of_absent hp))
  case long =>
    refine ⟨fun h => ⟨next_eq ?_, next_eq ?_⟩, fun o h => ⟨fun hn => next_eq ?_, fun ha he => next_eq ?_, fun he => next_eq ?_,
      fun he => next_eq ?_, next_eq ?_⟩⟩
    · rw [doSuspendPoint, h]
    · rw [doLongOpComplete, h]
    · rw [doSuspendPoint_of_some h]
      exact if_neg (by simpa using fun ha => hn.resolve_left (by simp [ha]))
    · rw [doSuspendPoint_of_some h, ha, he]
      rfl
    · rw [doLongOpComplete_of_some false h, he]
      rfl
    · rw [doLongOpComplete_of_some false h]
      exact if_neg (by rw [he]; exact Bool.false_ne_true)
    · rw [doLongOpComplete_of_some true h]
      exact if_neg (by rw [Bool.not_true, Bool.and_false]; exact Bool.false_ne_true)
  case msix =>
    refine ⟨fun h => next_eq (if_neg (Bool.eq_false_iff.mp h)), fun h hp => next_eq ((if_pos h).trans (if_neg (Bool.eq_false_iff.mp hp))),
      fun h hp => ⟨_, next_eq ((if_pos h).trans (if_pos hp)), sendMsi_unmask s v.val⟩⟩
  · cases hw : s.host.waiting with
    | nil => simp only [doCompletionWrite, hw]
    | cons x rest => simp only [doCompletionWrite, hw, h.resolve_left (by simp [hw]), ↓reduceIte]
end

section
/-! PROOFS. The long operations, stretch by stretch (R84, R160, R285, R331 to R333, R348, R349, R373, R374, R399 to R401). -/

namespace Sys2Proof.Machine

/-! ## Whether a stretch runs -/

section
variable {op tag : Nat} {f : LongOp → State → State} {s : State}

theorem longOp_of_none (h : s.op? tag = none) : longOp op tag f s = s := by
  rw [longOp, h]

variable {o : LongOp} (h : s.op? tag = some o)
include h

theorem longOp_of_idle (hi : o.cmd.op ≠ op ∨ o.ended = true ∨ o.paused = true ∨ o.asked = true) : longOp op tag f s = s := by
  rw [longOp, h]
  refine if_neg fun hn => ?_
  simp only [Bool.and_eq_true, decide_eq_true_eq, Bool.not_eq_true'] at hn
  obtain ⟨⟨⟨ho, he⟩, hp⟩, ha⟩ := hn
  simp [ho, he, hp, ha] at hi

theorem longOp_of_runs (ho : o.cmd.op = op) (he : o.ended = false) (hp : o.paused = false) (ha : o.asked = false) :
    longOp op tag f s = f o s := by
  rw [longOp, h]
  exact if_pos (by rw [he, hp, ha, decide_eq_true ho]; rfl)

end

/-! ## TEST_STRIP -/

section
variable {o : LongOp} {d p : Nat} {s : State}

theorem opTestStrip_of_new (hb : o.begun = false) : opTestStrip o s =
    if (stripPort o.cmd).2 < 128 then beginStripPort o (stripPort o.cmd).1 (stripPort o.cmd).2 s
    else beginStripLanyard o (stripPort o.cmd).1 (stripPort o.cmd).2 s :=
  if_pos (by rw [hb]; rfl)

/-- A port of the device, and lanes that it has. -/
theorem beginStripPort_of_lanes (he : s.portExists d p = true) (hm : o.cmd.w 3 % 256 < 2 ^ (s.portLanes d p).2) :
    beginStripPort o d p s =
      let ns := (maskBits (o.cmd.w 3 % 256) 8).map (p + ·)
      if s.isRetired 2 d p || ns.any fun n => s.isRetired 7 d n then endOp s o.cmd.tag 0x17 0 0
      else if ns.any fun n => !s.testable d n true then endOp s o.cmd.tag 0x10 0 0
      else updOp (ns.foldl (fun s n => startStrip s d n) s) o.cmd.tag fun x =>
        { x with begun := true, items := ns.map fun n => (n, s.laneState d n) } :=
  if_neg (by rw [he, decide_eq_false (Nat.not_le.mpr hm)]; exact Bool.false_ne_true)

theorem beginStripPort_of_misfit (h : s.portExists d p = false ∨ 2 ^ (s.portLanes d p).2 ≤ o.cmd.w 3 % 256) :
    beginStripPort o d p s = endOp s o.cmd.tag 0x10 0 0 :=
  if_pos (by simpa using h)

/-- Ports and lanes that are not retired. -/
theorem beginStripPort_of_live (he : s.portExists d p = true) (hm : o.cmd.w 3 % 256 < 2 ^ (s.portLanes d p).2)
    (hr : s.isRetired 2 d p = false) (hl : ∀ n ∈ (maskBits (o.cmd.w 3 % 256) 8).map (p + ·), s.isRetired 7 d n = false) :
    beginStripPort o d p s =
      let ns := (maskBits (o.cmd.w 3 % 256) 8).map (p + ·)
      if ns.any fun n => !s.testable d n true then endOp s o.cmd.tag 0x10 0 0
      else updOp (ns.foldl (fun s n => startStrip s d n) s) o.cmd.tag fun x =>
        { x with begun := true, items := ns.map fun n => (n, s.laneState d n) } := by
  refine (beginStripPort_of_lanes he hm).trans (if_neg ?_)
  rw [hr, Bool.false_or, List.any_eq_true]
  exact fun ⟨n, hn, h⟩ => Bool.false_ne_true ((hl n hn).symm.trans h)

/-- The strips of a port that has begun. -/
theorem opTestStrip_of_begun (hb : o.begun = true) (hp : (stripPort o.cmd).2 < 128) : opTestStrip o s =
    if o.items.all fun x => (s.lane (stripPort o.cmd).1 x.1).step == 0 then
      endStrip o (stripPort o.cmd).1 (stripPort o.cmd).2 (o.items.map (·.1)) s
    else s :=
  (if_neg (by rw [hb]; exact Bool.false_ne_true)).trans (if_pos hp)

theorem opTestStrip_of_lanyard (hb : o.begun = true) (hp : 128 ≤ (stripPort o.cmd).2) : opTestStrip o s =
    if !s.bit (R.LANYARD_TS_CTRL (stripPort o.cmd).1 (stripPort o.cmd).2) F.LANYARD_TS_CTRL_ARM &&
        !(s.lan (stripPort o.cmd).1 ((stripPort o.cmd).2 - 128)).strip then
      endStrip o (stripPort o.cmd).1 (stripPort o.cmd).2 ((List.range 8).map (lanyardLane ((stripPort o.cmd).2 - 128))) s
    else s :=
  (if_neg (by rw [hb]; exact Bool.false_ne_true)).trans (if_neg (Nat.not_lt.mpr hp))

end

/-! ## TABLE_SCRUB -/

theorem opTableScrub_of_table {o : LongOp} {s : State} {d : Nat} (h : (maskBits (o.cmd.w 2) 8)[o.pos / 10]? = some d) :
    opTableScrub o s =
      let r := scrubTable d (o.pos % 10) s
      let s2 := updOp r.2.2 o.cmd.tag fun x => { x with
        begun := true, pos := x.pos + 1, w2 := x.w2 + r.1, w3 := x.w3 + r.2.1, committed := x.committed || r.1 != 0 }
      if (maskBits (o.cmd.w 2) 8).length * 10 ≤ o.pos + 1 then endOp s2 o.cmd.tag 0 (o.w2 + r.1) (o.w3 + r.2.1) else s2 := by
  simp only [opTableScrub, h, decide_eq_true_eq]

theorem opTableScrub_of_end {o : LongOp} {s : State} (h : (maskBits (o.cmd.w 2) 8).length ≤ o.pos / 10) :
    opTableScrub o s = endOp s o.cmd.tag 0 o.w2 o.w3 := by
  simp only [opTableScrub, List.getElem?_eq_none h]

/-! ## HOLD_LOAD -/

section
variable {o : LongOp} {s : State}

/-- A load that no die out of service stops. -/
theorem opHoldLoad_of_in (h : o.committed = true ∨ s.holdOut o.cmd = false) : opHoldLoad o s =
    if !o.begun then updOp s o.cmd.tag fun o => { o with begun := true }
    else if o.pos < o.cmd.w64 4 then loadNext o s else loadFlip o s :=
  if_neg (by obtain h | h := h <;> simp [h])

theorem opHoldLoad_of_record (h : o.committed = true ∨ s.holdOut o.cmd = false) (hb : o.begun = true) (hp : o.pos < o.cmd.w64 4) :
    opHoldLoad o s = loadNext o s :=
  (opHoldLoad_of_in h).trans ((if_neg (by rw [hb]; exact Bool.false_ne_true)).trans (if_pos hp))

theorem opHoldLoad_of_flip (h : o.committed = true ∨ s.holdOut o.cmd = false) (hb : o.begun = true) (hp : o.cmd.w64 4 ≤ o.pos) :
    opHoldLoad o s = loadFlip o s :=
  (opHoldLoad_of_in h).trans ((if_neg (by rw [hb]; exact Bool.false_ne_true)).trans (if_neg (Nat.not_lt.mpr hp)))

/-- A record that is well formed. -/
theorem loadNext_of_formed (hl : 16 ≤ o.cmd.w64 4 - o.pos)
    (hm : (recordAtHost s (o.cmd.w64 2 + o.pos)).malformed (o.cmd.w64 4 - o.pos) = false) : loadNext o s =
      let r := recordAtHost s (o.cmd.w64 2 + o.pos)
      if !o.cmd.hasDie (s.holdDie r.key) || !o.cmd.hasShape (shapeOf r.key) then
        updOp s o.cmd.tag fun o => { o with pos := o.pos + 16 + r.len, w3 := o.w3 + 1 }
      else loadRecord o r (o.cmd.w64 2 + o.pos) s :=
  if_neg (not_or.mpr ⟨Nat.not_lt.mpr hl, Bool.eq_false_iff.mp hm⟩)

/-- A record that the masks name. -/
theorem loadNext_of_named (hl : 16 ≤ o.cmd.w64 4 - o.pos)
    (hm : (recordAtHost s (o.cmd.w64 2 + o.pos)).malformed (o.cmd.w64 4 - o.pos) = false)
    (hn : o.cmd.hasDie (s.holdDie (recordAtHost s (o.cmd.w64 2 + o.pos)).key) = true ∧
      o.cmd.hasShape (shapeOf (recordAtHost s (o.cmd.w64 2 + o.pos)).key) = true) :
    loadNext o s = loadRecord o (recordAtHost s (o.cmd.w64 2 + o.pos)) (o.cmd.w64 2 + o.pos) s :=
  (loadNext_of_formed hl hm).trans (if_neg (by rw [hn.1, hn.2]; exact Bool.false_ne_true))

theorem loadFlip_of_none (h : firstFlip s o.items = none) : loadFlip o s = endOp s o.cmd.tag 0 o.w2 o.w3 := by
  rw [loadFlip, h]

theorem loadFlip_of_some {x : Nat × Nat} (h : firstFlip s o.items = some x) : loadFlip o s =
    if (s.lockOf x.1).isSome then s
    else
      let rest := o.items.filter fun y => y.1 != x.1
      let s1 := updOp (flipKey s x) o.cmd.tag fun o => { o with committed := true, items := rest }
      if rest.isEmpty then endOp s1 o.cmd.tag 0 o.w2 o.w3 else s1 := by
  rw [loadFlip, h]

/-! ## HOLD_CHECKPOINT -/

theorem opHoldCheckpoint_of_begun (ho : s.holdOut o.cmd = false) (hb : o.begun = true) : opHoldCheckpoint o s =
    (nextLive s o.cmd o.pos).elim (endCheckpoint o 0 o.todo s) (checkpointRow o · s) := by
  refine (if_neg (Bool.eq_false_iff.mp ho)).trans ((if_neg (by rw [hb]; exact Bool.false_ne_true)).trans ?_)
  cases nextLive s o.cmd o.pos with
  | none => rfl
  | some a => rfl

theorem checkpointRow_of_locked {a : Nat} (h : (s.lockOf (s.entryAt a).key).isSome = true) : checkpointRow o a s = s := if_pos h

theorem checkpointRow_of_full {a : Nat} (h : s.lockOf (s.entryAt a).key = none)
    (hf : o.cmd.w64 4 < o.todo + 16 + s.imageBytes (shapeOf (s.entryAt a).key)) : checkpointRow o a s = endCheckpoint o 0x16 o.todo s :=
  (if_neg (by rw [h]; exact Bool.false_ne_true)).trans (if_pos hf)

/-! ## FW_UPDATE -/

theorem opFwUpdate_of_new (hb : o.begun = false) : opFwUpdate o s =
    let kind := o.cmd.w 5 % 16
    let b := s.hostRead (o.cmd.w64 2) (min (o.cmd.w 4) (2 ^ 23 + 1))
    let st := if 2 < kind then 0x10 else updateCheck s kind b
    if st ≠ 0 then endOp s o.cmd.tag st 0 0 else updOp s o.cmd.tag fun o => { o with begun := true, data := b } :=
  if_pos (by rw [hb]; rfl)

theorem opFwUpdate_of_begun (hb : o.begun = true) : opFwUpdate o s =
    if o.cmd.w 5 % 16 = 1 then endUpdate o 0 (s.updFlash fun f => { f with owner := o.data })
    else if o.cmd.w 5 % 16 = 2 then endUpdate o 0 (s.updFlash fun f => { f with config := o.data })
    else if o.pos < o.data.length then updateBlock o s
    else endUpdate o (if s.slotB then 0 else 1) (s.updFlash fun f => f.putSel (!s.slotB) s.slotB false) :=
  if_neg (by rw [hb]; exact Bool.false_ne_true)

theorem updateCheck_of_malformed {k : Nat} {x : Bytes} (h : objForm x k = false) : updateCheck s k x = 0x10 :=
  if_pos (by rw [h]; rfl)

theorem updateCheck_of_unowned {x : Bytes} (h : objForm x 2 = true) (ho : s.mgmt.ownRec = []) : updateCheck s 2 x = 0x15 :=
  (if_neg (by rw [h]; exact Bool.false_ne_true)).trans (if_pos (by rw [ho]; rfl))

/-! ## ATTEST -/

/-- An attestation whose turn it is, under a valid identity. -/
def attestReady (s : State) (o : LongOp) : Prop :=
  s.attestTurn o.cmd.tag = true ∧ s.mgmt.idFailed = false ∧ s.bit R.MGMT_STATUS F.MGMT_STATUS_IDENTITY_OK = true

theorem opAttest_of_ready (h : attestReady s o) : opAttest o s =
    if !o.begun then
      if o.cmd.w 6 < 416 + 7856 + s.mgmt.flash.manuf.cert.length then endOp s o.cmd.tag 0x10 0 0
      else
        let s1 := setMeasure (s.updMgmt fun m => { m with reports := m.reports + 1 }) 4 (engineMeasure s)
        let rep := attestReport s1 (s.hostRead (o.cmd.w64 2) 32)
        updOp s1 o.cmd.tag fun x => { x with
          begun := true, data := rep ++ padTo 7856 (Config.slhSign s.mgmt.seed rep) ++ s.mgmt.flash.manuf.cert }
    else endOp (s.hostWrite (o.cmd.w64 4) o.data) o.cmd.tag 0 o.data.length 0 := by
  obtain ⟨ht, hf, hi⟩ := h
  rw [opAttest, if_neg (by rw [ht]; exact Bool.false_ne_true), if_neg (Bool.eq_false_iff.mp hf), if_neg (by rw [hi]; exact Bool.false_ne_true)]

/-! ## LOGBOOK_READ -/

theorem opLogbookRead_of_none (hb : o.begun = false) (h0 : o.cmd.w 3 ≠ 0) (hn : o.cmd.w 3 ≤ 65536)
    (hl : s.bookFrom (o.cmd.w 2) (o.cmd.w 3) = []) :
    opLogbookRead o s = endOp (s.drawFree 32).2 o.cmd.tag 0 0 (s.drawFree 32).1 := by
  rw [opLogbookRead, if_pos (by rw [hb]; rfl), if_neg (not_or.mpr ⟨h0, Nat.not_lt.mpr hn⟩), hl]

theorem opLogbookRead_of_found (hb : o.begun = false) (h0 : o.cmd.w 3 ≠ 0) (hn : o.cmd.w 3 ≤ 65536) {ws : List Nat} {rest : List (List Nat)}
    (hl : s.bookFrom (o.cmd.w 2) (o.cmd.w 3) = ws :: rest) : opLogbookRead o s =
      updOp s o.cmd.tag fun o => { o with begun := true, w3 := ws.getD 1 0, data := (ws :: rest).flatMap leWords } := by
  rw [opLogbookRead, if_pos (by rw [hb]; rfl), if_neg (not_or.mpr ⟨h0, Nat.not_lt.mpr hn⟩), hl]

/-! ## SELF_TEST -/

theorem opSelfTest_of_new (obs : RunObs) (hb : o.begun = false) : opSelfTest obs o s =
    let es := maskBits (engineMask o.cmd) 128
    if es.any fun e => s.isRetired 4 (e / 16) (e % 16) then endOp s o.cmd.tag 0x17 0 0
    else if es.any fun e => s.engState e != 3 || s.homed e != 0 then endOp s o.cmd.tag 0x10 0 0
    else if es.isEmpty then endOp s o.cmd.tag 0 0 0
    else updOp s o.cmd.tag fun x => { x with begun := true, todo := engineMask o.cmd } := by
  rw [opSelfTest, if_pos (by rw [hb]; rfl)]

/-- Engines none of which is retired. -/
theorem opSelfTest_of_live (obs : RunObs) (hb : o.begun = false)
    (hr : ∀ e ∈ maskBits (engineMask o.cmd) 128, s.isRetired 4 (e / 16) (e % 16) = false) : opSelfTest obs o s =
    let es := maskBits (engineMask o.cmd) 128
    if es.any fun e => s.engState e != 3 || s.homed e != 0 then endOp s o.cmd.tag 0x10 0 0
    else if es.isEmpty then endOp s o.cmd.tag 0 0 0
    else updOp s o.cmd.tag fun x => { x with begun := true, todo := engineMask o.cmd } := by
  refine (opSelfTest_of_new obs hb).trans (if_neg ?_)
  rw [List.any_eq_true]
  exact fun ⟨e, he, h⟩ => Bool.false_ne_true ((hr e he).symm.trans h)

theorem opSelfTest_of_none (obs : RunObs) (hb : o.begun = true) (h : (List.range 128).find? o.todo.testBit = none) :
    opSelfTest obs o s = endOp s o.cmd.tag 0 o.w2 o.w3 := by
  rw [opSelfTest, if_neg (by rw [hb]; exact Bool.false_ne_true), h]

theorem opSelfTest_of_engine (obs : RunObs) {e : Nat} (hb : o.begun = true) (h : (List.range 128).find? o.todo.testBit = some e) :
    opSelfTest obs o s = selfTestRun o e obs s := by
  rw [opSelfTest, if_neg (by rw [hb]; exact Bool.false_ne_true), h]

end

/-- A run of one engine that does not fail, of a fixed program, with another to come. -/
theorem selfTestRun_of_pass {o : LongOp} {s : State} {e : Nat} {obs : RunObs} (hf : obs.failed = false) (hr : (o.cmd.w 6).testBit 0 = true)
    (hl : setMaskBit o.todo e false ≠ 0) : selfTestRun o e obs s = updOp s o.cmd.tag fun x => { x with
      todo := setMaskBit o.todo e false, w2 := o.w2, w3 := x.w3 + 1, items := o.items ++ [(e, 1)] } := by
  simp only [selfTestRun, hf, hr, hl, Bool.not_true, Bool.false_eq_true, ↓reduceIte, Nat.add_zero, Bool.or_false]

end Sys2Proof.Machine

open Sys2Proof Sys2Proof.Machine

/-- Settles O53: whether a stretch runs; then each operation's stretch by how far it has come. -/
theorem longOperations : Obligations.LongOperations := by
  unfold Obligations.LongOperations
  refine ⟨?table, fun tag o s h he hp ha => ⟨fun ho => ?strip, fun ho => ?scrub, fun ho => ?load, fun ho => ?checkpoint, fun ho => ?flush,
    fun ho => ?update, fun ho => ?attest, fun ho => ?logbook⟩, fun tag obs s => ⟨fun h => next_eq (longOp_of_none h),
      fun o h hi => next_eq (longOp_of_idle h hi), fun o h ho he hp ha => ?selfTest⟩⟩
  case table =>
    simp only [List.mem_cons, List.not_mem_nil, or_false, forall_eq_or_imp, forall_eq]
    refine ⟨?_, ?_, ?_, ?_, ?_, ?_, ?_, ?_⟩
    all_goals exact fun tag s => ⟨fun h => next_eq (longOp_of_none h), fun o h hi => next_eq (longOp_of_idle h hi)⟩
  case strip =>
    refine ⟨fun hb hp8 => ⟨fun hm => next_eq ?_, fun hx hm => ⟨fun hr => next_eq ?_, fun hr hl => ⟨fun ht => next_eq ?_, fun ht => next_eq ?_⟩⟩⟩,
      fun hb hp9 => next_eq ?_, fun hb h8 h9 hr => next_eq ?_, fun hb h8 h9 hr => next_eq ?_,
      fun hb hp8 => ⟨fun ⟨x, hx, hs⟩ => next_eq ?_, fun hs => next_eq ?_⟩, fun hb h8 => ⟨fun hs => next_eq ?_, fun h1 h2 => next_eq ?_⟩⟩
    all_goals refine (longOp_of_runs h ho he hp ha).trans ?_
    · exact (opTestStrip_of_new hb).trans ((if_pos hp8).trans (beginStripPort_of_misfit hm))
    · refine (opTestStrip_of_new hb).trans ((if_pos hp8).trans ((beginStripPort_of_lanes hx hm).trans (if_pos ?_)))
      rwa [Bool.or_eq_true, List.any_eq_true]
    · refine (opTestStrip_of_new hb).trans ((if_pos hp8).trans ((beginStripPort_of_live hx hm hr hl).trans (if_pos ?_)))
      obtain ⟨n, hn, ht⟩ := ht
      exact List.any_eq_true.mpr ⟨n, hn, by rw [ht]; rfl⟩
    · refine (opTestStrip_of_new hb).trans ((if_pos hp8).trans ((beginStripPort_of_live hx hm hr hl).trans (if_neg ?_)))
      rw [List.any_eq_true]
      exact fun ⟨n, hn, hf⟩ => Bool.false_ne_true (by rwa [ht n hn] at hf)
    · exact (opTestStrip_of_new hb).trans ((if_neg (Nat.not_lt.mpr (Nat.le_of_lt (Nat.lt_of_succ_lt hp9)))).trans (if_pos hp9))
    · exact (opTestStrip_of_new hb).trans ((if_neg (Nat.not_lt.mpr h8)).trans ((if_neg (Nat.not_lt.mpr h9)).trans (if_pos hr)))
    · exact (opTestStrip_of_new hb).trans ((if_neg (Nat.not_lt.mpr h8)).trans ((if_neg (Nat.not_lt.mpr h9)).trans
        (if_neg (Bool.eq_false_iff.mp hr))))
    · refine (opTestStrip_of_begun hb hp8).trans (if_neg ?_)
      rw [List.all_eq_true]
      exact fun hall => hs (beq_iff_eq.mp (hall x hx))
    · refine (opTestStrip_of_begun hb hp8).trans (if_pos ?_)
      exact List.all_eq_true.mpr fun x hx => beq_iff_eq.mpr (hs x hx)
    · refine (opTestStrip_of_lanyard hb h8).trans (if_neg ?_)
      rw [Bool.and_eq_true, Bool.not_eq_true', Bool.not_eq_true']
      exact fun hn => hs.elim (fun hs => Bool.false_ne_true (hn.1.symm.trans hs)) fun hs => Bool.false_ne_true (hn.2.symm.trans hs)
    · refine (opTestStrip_of_lanyard hb h8).trans (if_pos ?_)
      rw [Bool.and_eq_true, Bool.not_eq_true', Bool.not_eq_true']
      exact ⟨h1, h2⟩
  case scrub =>
    refine ⟨fun hd => next_eq ?_, fun d hd => ⟨fun hl => next_eq ?_, fun hl => next_eq ?_⟩⟩
    all_goals refine (longOp_of_runs h ho he hp ha).trans ?_
    · exact opTableScrub_of_end hd
    · exact (opTableScrub_of_table hd).trans (if_neg (Nat.not_le.mpr hl))
    · exact (opTableScrub_of_table hd).trans (if_pos hl)
  case load =>
    refine ⟨fun hc hout => next_eq ?_, fun hin => ⟨fun hb => next_eq ?_, fun hb hpos => ⟨fun hm => next_eq ?_, fun hl hm hn => next_eq ?_,
      fun hl hm hn hk => next_eq ?_, fun hl hm hn hk hi => next_eq ?_⟩, fun hb hpos => ⟨fun hf => next_eq ?_, fun x hf hk => next_eq ?_,
        fun x hf hk => next_eq ?_⟩⟩⟩
    all_goals refine (longOp_of_runs h ho he hp ha).trans ?_
    · exact if_pos (by rw [hc, hout]; rfl)
    · exact (opHoldLoad_of_in hin).trans (if_pos (by rw [hb]; rfl))
    · exact (opHoldLoad_of_record hin hb hpos).trans (if_pos hm)
    · refine (opHoldLoad_of_record hin hb hpos).trans ((loadNext_of_formed hl hm).trans (if_pos ?_))
      rw [Bool.or_eq_true, Bool.not_eq_true', Bool.not_eq_true', ← Bool.not_eq_true, ← Bool.not_eq_true]
      exact not_and_or.mp hn
    · refine (opHoldLoad_of_record hin hb hpos).trans ((loadNext_of_named hl hm hn).trans (if_pos ?_))
      rwa [Bool.or_eq_true, decide_eq_true_eq]
    · exact (opHoldLoad_of_record hin hb hpos).trans (loadNext_of_named hl hm hn)
    · exact (opHoldLoad_of_flip hin hb hpos).trans (loadFlip_of_none hf)
    · exact (opHoldLoad_of_flip hin hb hpos).trans ((loadFlip_of_some hf).trans (if_pos hk))
    · exact (opHoldLoad_of_flip hin hb hpos).trans ((loadFlip_of_some hf).trans (if_neg (by rw [hk]; exact Bool.false_ne_true)))
  case checkpoint =>
    refine ⟨fun hout => next_eq ?_, fun hout hb => next_eq ?_, fun hout hb => ⟨fun hn => next_eq ?_, fun a hn => ⟨fun hk => next_eq ?_,
      fun hk hf => next_eq ?_, fun hk hf => next_eq ?_⟩⟩⟩
    all_goals refine (longOp_of_runs h ho he hp ha).trans ?_
    · exact if_pos hout
    · exact (if_neg (Bool.eq_false_iff.mp hout)).trans (if_pos (by rw [hb]; rfl))
    all_goals rw [opHoldCheckpoint_of_begun hout hb, hn]
    · rfl
    · exact checkpointRow_of_locked hk
    · exact checkpointRow_of_full hk hf
    · rfl
  case flush =>
    refine ⟨fun hb hx => next_eq ?_, fun hb hx => next_eq ?_, fun hb hx => next_eq ?_, fun hb hx => next_eq ?_, fun hb hx => next_eq ?_,
      fun hb hx => next_eq ?_⟩
    all_goals
      refine (longOp_of_runs h ho he hp ha).trans ?_
      rw [opKnotFlushLong, hb]
    · exact if_pos hx
    · exact if_neg hx
    · obtain hx | hx := hx <;> simp only [hx, Bool.false_eq_true, ↓reduceIte]
    · simp only [hx, Bool.false_eq_true, ↓reduceIte]
    · simp only [hx, Bool.false_eq_true, ↓reduceIte]
    · simp only [hx, Bool.false_eq_true, ↓reduceIte]
  case update =>
    refine ⟨fun hb hk => next_eq ?_, fun hb hk => next_eq ?_, fun k x hx => updateCheck_of_malformed hx, fun x hx hown =>
      updateCheck_of_unowned hx hown, fun hb hk hd => next_eq ?_, fun hb hk hd => next_eq ?_, fun hb hk => next_eq ?_, fun hb hk => next_eq ?_⟩
    all_goals refine (longOp_of_runs h ho he hp ha).trans ?_
    · rw [opFwUpdate_of_new hb]
      simp only [hk, ↓reduceIte, ne_eq, Nat.reduceEqDiff, not_false_eq_true]
    · rw [opFwUpdate_of_new hb]
      simp only [Nat.not_lt.mpr hk, ↓reduceIte, ne_eq, ite_not]
    · rw [opFwUpdate_of_begun hb, if_neg (by rw [hk]; decide), if_neg (by rw [hk]; decide), if_pos hd]
    · rw [opFwUpdate_of_begun hb, if_neg (by rw [hk]; decide), if_neg (by rw [hk]; decide), if_neg (Nat.not_lt.mpr hd)]
    · rw [opFwUpdate_of_begun hb, if_pos hk]
    · rw [opFwUpdate_of_begun hb, if_neg (by rw [hk]; decide), if_pos hk]
  case attest =>
    refine ⟨fun ht => next_eq ?_, fun ht hf => next_eq ?_, fun ht hf hi => next_eq ?_, fun hr hb hw => next_eq ?_, fun hr hb hw => next_eq ?_,
      fun hr hb => next_eq ?_⟩
    all_goals refine (longOp_of_runs h ho he hp ha).trans ?_
    · exact if_pos (by rw [ht]; rfl)
    · rw [opAttest, if_neg (by rw [ht]; exact Bool.false_ne_true), if_pos hf]
    · rw [opAttest, if_neg (by rw [ht]; exact Bool.false_ne_true), if_neg (Bool.eq_false_iff.mp hf), if_pos (by rw [hi]; rfl)]
    · rw [opAttest_of_ready hr, if_pos (by rw [hb]; rfl), if_pos hw]
    · rw [opAttest_of_ready hr, if_pos (by rw [hb]; rfl), if_neg (Nat.not_lt.mpr hw)]
    · rw [opAttest_of_ready hr, if_neg (by rw [hb]; exact Bool.false_ne_true)]
  case logbook =>
    refine ⟨fun hb hn => next_eq ?_, fun hb h0 hn => ⟨fun hl => next_eq ?_, fun ws rest hl => next_eq ?_⟩, fun hb hd => next_eq ?_,
      fun hb hd => next_eq ?_⟩
    all_goals refine (longOp_of_runs h ho he hp ha).trans ?_
    · rw [opLogbookRead, if_pos (by rw [hb]; rfl), if_pos hn]
    · exact opLogbookRead_of_none hb h0 hn hl
    · exact opLogbookRead_of_found hb h0 hn hl
    · rw [opLogbookRead, if_neg (by rw [hb]; exact Bool.false_ne_true)]
      exact if_pos hd
    · rw [opLogbookRead, if_neg (by rw [hb]; exact Bool.false_ne_true)]
      exact if_neg (Nat.not_le.mpr hd)
  case selfTest =>
    refine ⟨fun hb ⟨e, hm, hr⟩ => next_eq ?_, fun hb hr => ⟨fun ⟨e, hm, hx⟩ => next_eq ?_, fun hall hn => next_eq ?_, fun hall hn => next_eq ?_⟩,
      fun hb hn => next_eq ?_, fun e hb hn => next_eq ?_, fun e hb hn hf hr hl => next_eq ?_⟩
    all_goals refine (longOp_of_runs h ho he hp ha).trans ?_
    · exact (opSelfTest_of_new obs hb).trans (if_pos (List.any_eq_true.mpr ⟨e, hm, hr⟩))
    · exact (opSelfTest_of_live obs hb hr).trans (if_pos (List.any_eq_true.mpr ⟨e, hm, by simpa using hx⟩))
    · refine (opSelfTest_of_live obs hb hr).trans ((if_neg ?_).trans (if_pos (List.isEmpty_iff.mpr hn)))
      rw [List.any_eq_true]
      exact fun ⟨e, hm, hx⟩ => by simp [hall e hm] at hx
    · refine (opSelfTest_of_live obs hb hr).trans ((if_neg ?_).trans (if_neg (mt List.isEmpty_iff.mp hn)))
      rw [List.any_eq_true]
      exact fun ⟨e, hm, hx⟩ => by simp [hall e hm] at hx
    · exact opSelfTest_of_none obs hb hn
    · exact opSelfTest_of_engine obs hb hn
    · exact (opSelfTest_of_engine obs hb hn).trans (selfTestRun_of_pass hf hr hl)
end

section
/-! PROOFS. BAR2 and the DMA channels (R226, R316, R367, R380 to R387, R433, R434). -/

namespace Sys2Proof.Machine

/-! ## Reads and writes of device memory (R226, R434) -/

theorem devRead_getElem {s : State} {a n i : Nat} (h : i < n) (hb : devBad s .ok (a + i) = false) :
    (devRead s a n .ok).1[i]? = some (s.devByte (a + i)) := by
  simp [devRead, devUpset, h, hb]

theorem devAny_iff {s : State} {a n : Nat} {p : DevWrite → Bool} :
    s.devAny a n p = true ↔ ∃ i, i < n ∧ p (s.devWritable (a + i)) = true := by
  simp [State.devAny]

theorem devWritable_of_empty {s : State} {a : Nat} (h : devPlace a = .empty) : s.devWritable a = .refused := by
  rw [State.devWritable, h]

theorem devStore_of_empty {a : Nat} {b : Bytes} (s : State) (h : ∀ i, i < b.length → devPlace (a + i) = .empty) : devStore b a s = s := by
  induction b generalizing a with
  | nil => rfl
  | cons x b ih =>
    have h0 : devPlace a = .empty := h 0 (Nat.succ_pos _)
    rw [devStore, devWritable_of_empty h0, if_neg (by decide)]
    refine ih fun i hi => ?_
    rw [Nat.add_assoc, Nat.add_comm 1 i]
    exact h (i + 1) (Nat.succ_lt_succ hi)

theorem devRunning_of_empty {s : State} {a n : Nat} (h : ∀ i, i < n → devPlace (a + i) = .empty) : s.devRunning a n = [] := by
  have hn : ((List.range n).filterMap fun i => match s.devWritable (a + i) with
    | .running e => some e
    | _ => none) = [] := by
    refine List.filterMap_eq_nil_iff.mpr fun i hi => ?_
    rw [devWritable_of_empty (h i (List.mem_range.mp hi))]
  exact congrArg List.dedup hn

theorem mendBad_engines (s : State) (p : Nat → Bool) : (mendBad s p).engines = s.engines := by
  unfold mendBad
  split
  · rfl
  · rfl

theorem mendBad_host (s : State) (p : Nat → Bool) : (mendBad s p).host = s.host := by
  unfold mendBad
  split
  · rfl
  · rfl

/-- Registers of the switch dies and of the host interface lie below those of the memory-side dies. -/
theorem noteLines_rd (s : State) {r : RegRef} (m : Nat) (h : r.addr < 0x8000000) (hm : 8 ≤ m) : (noteLines s m).rd r = s.rd r :=
  rd_setF_reg s (by simp only [R.HOLD_SCRUB_STATUS]; omega) _ _

theorem mendBad_rd (s : State) (p : Nat → Bool) {r : RegRef} (h : r.addr < 0x8000000) : (mendBad s p).rd r = s.rd r := by
  unfold mendBad
  dsimp only
  split
  · exact (noteLines_rd _ 9 h (by decide)).trans (noteLines_rd _ 8 h (by decide))
  · rfl

theorem devPoke_regs (s : State) (a : Nat) (b : Byte) : (devPoke s a b).regs = s.regs := by
  unfold devPoke
  split
  · rfl
  · rfl
  · rfl

theorem devPoke_host (s : State) (a : Nat) (b : Byte) : (devPoke s a b).host = s.host := by
  unfold devPoke
  split
  · rfl
  · rfl
  · rfl

theorem devStore_regs (s : State) (a : Nat) (b : Bytes) : (devStore b a s).regs = s.regs := by
  induction b generalizing a s with
  | nil => rfl
  | cons x b ih =>
    rw [devStore, ih]
    split
    · exact devPoke_regs s a x
    · rfl

theorem devStore_host (s : State) (a : Nat) (b : Bytes) : (devStore b a s).host = s.host := by
  induction b generalizing a s with
  | nil => rfl
  | cons x b ih =>
    rw [devStore, ih]
    split
    · exact devPoke_host s a x
    · rfl

theorem setEvent_host (s : State) (v : Nat) (r : RegRef) (f : Fld) : (setEvent s v r f).host = s.host := withCause_host _ _ _

theorem noteRefused_host (s : State) (es : List Nat) : (noteRefused s es).host = s.host := by
  induction es generalizing s with
  | nil => rfl
  | cons e es ih => exact (ih _).trans (setEvent_host _ _ _ _)

/-- Registers of the host interface lie below those of the engines. -/
theorem engEvent_rd (s : State) (e : Nat) (f : Fld) {r : RegRef} (h : r.addr < 0x8000000) : (engEvent s e f).rd r = s.rd r := by
  have hr : r.addr ≠ (engReg R.ENGINE_EVENT e).addr := by
    simp only [engReg, R.ENGINE_EVENT]
    omega
  rw [engEvent, setEvent, withCause_rd, State.setBit, rd_setF_reg s hr]

theorem noteRefused_rd (s : State) (es : List Nat) {r : RegRef} (h : r.addr < 0x8000000) : (noteRefused s es).rd r = s.rd r := by
  induction es generalizing s with
  | nil => rfl
  | cons e es ih => exact (ih _).trans (engEvent_rd s e _ h)

theorem devWrite_host (s : State) (a : Nat) (b : Bytes) : (devWrite s a b).host = s.host :=
  (noteRefused_host _ _).trans ((mendBad_host _ _).trans (devStore_host s a b))

theorem devWrite_rd (s : State) (a : Nat) (b : Bytes) {r : RegRef} (h : r.addr < 0x8000000) : (devWrite s a b).rd r = s.rd r :=
  (noteRefused_rd _ _ h).trans ((mendBad_rd _ _ h).trans (rd_of_regs (devStore_regs s a b) r))

theorem devWrite_of_empty {s : State} {a : Nat} {b : Bytes} (h : ∀ i, i < b.length → devPlace (a + i) = .empty) :
    (devWrite s a b).engines = s.engines ∧ (devWrite s a b).hold.mem = s.hold.mem := by
  rw [devWrite, devRunning_of_empty h, devStore_of_empty s h]
  exact ⟨mendBad_engines _ _, mendBad_mem _ _⟩

/-! ## Channels -/

theorem ch_updCh_same (s : State) (c : Nat) (f : DmaCh → DmaCh) : (s.updCh c f).ch c = f (s.ch c) :=
  sget_sput_same s.host.dma c (f (s.ch c)) DmaCh.init

theorem ch_of_host {s t : State} (h : s.host = t.host) (c : Nat) : s.ch c = t.ch c := by
  rw [State.ch, State.ch, h]

theorem fld_updCh (s : State) (c : Nat) (f : DmaCh → DmaCh) (r : RegRef) (g : Fld) : (s.updCh c f).fld r g = s.fld r g := rfl

/-- The control register as a write leaves it. -/
def dmaCtrlSet (c : Nat) (v : Word) (s : State) : State :=
  let s1 := (s.setF (R.DMA_CH_CTRL c) F.DMA_CH_CTRL_RUN (F.DMA_CH_CTRL_RUN.get v)).setF (R.DMA_CH_CTRL c) F.DMA_CH_CTRL_IRQ_EN
    (F.DMA_CH_CTRL_IRQ_EN.get v)
  if F.DMA_CH_CTRL_WEIGHT.get v = 0 then s1 else s1.setF (R.DMA_CH_CTRL c) F.DMA_CH_CTRL_WEIGHT (F.DMA_CH_CTRL_WEIGHT.get v)

/-- What a write of the control register changes. -/
def dmaCtrl (c : Nat) (v : Word) (s : State) : State :=
  if s.dmaState c = 4 ∨ (!s.dmaIdle c) = true then dmaCtrlSet c v s
  else if F.DMA_CH_CTRL_RUN.get v = 1 then
    (if s.dmaState c = 0 ∨ s.dmaState c = 3 then (dmaCtrlSet c v s).setF (R.DMA_CH_STATUS c) F.DMA_CH_STATUS_STATE 1 else dmaCtrlSet c v s)
  else (dmaCtrlSet c v s).setF (R.DMA_CH_STATUS c) F.DMA_CH_STATUS_STATE 0

theorem writeDmaCtrl_eq (c : Nat) (v : Word) (s : State) : writeDmaCtrl c v s = causeWrite s (c + 1) (dmaCtrl c v) := rfl

section
variable (c : Nat) (v : Word) (s : State)

theorem dmaCtrl_ctrl (f : Fld) : (dmaCtrl c v s).fld (R.DMA_CH_CTRL c) f = (dmaCtrlSet c v s).fld (R.DMA_CH_CTRL c) f := by
  have hne : (R.DMA_CH_CTRL c).addr ≠ (R.DMA_CH_STATUS c).addr := by simp only [R.DMA_CH_CTRL, R.DMA_CH_STATUS]; omega
  unfold dmaCtrl
  split
  · rfl
  split
  · split
    · exact fld_setF_reg _ hne _ _ _
    · rfl
  · exact fld_setF_reg _ hne _ _ _

theorem dmaCtrlSet_status : (dmaCtrlSet c v s).dmaState c = s.dmaState c := by
  have hne : (R.DMA_CH_STATUS c).addr ≠ (R.DMA_CH_CTRL c).addr := by simp only [R.DMA_CH_CTRL, R.DMA_CH_STATUS]; omega
  unfold dmaCtrlSet State.dmaState
  dsimp only
  split
  · rw [fld_setF_reg _ hne, fld_setF_reg _ hne]
  · rw [fld_setF_reg _ hne, fld_setF_reg _ hne, fld_setF_reg _ hne]

theorem dmaCtrlSet_run : (dmaCtrlSet c v s).fld (R.DMA_CH_CTRL c) F.DMA_CH_CTRL_RUN = F.DMA_CH_CTRL_RUN.get v := by
  unfold dmaCtrlSet
  dsimp only
  split
  · rw [fld_setF_ne _ _ _ _ _ (by decide) (by decide), fld_setF_same _ _ _ _ (by decide) (by decide), Nat.mod_eq_of_lt (Fld_get_lt _ v)]
  · rw [fld_setF_ne _ _ _ _ _ (by decide) (by decide), fld_setF_ne _ _ _ _ _ (by decide) (by decide),
      fld_setF_same _ _ _ _ (by decide) (by decide), Nat.mod_eq_of_lt (Fld_get_lt _ v)]

theorem dmaCtrlSet_irq : (dmaCtrlSet c v s).fld (R.DMA_CH_CTRL c) F.DMA_CH_CTRL_IRQ_EN = F.DMA_CH_CTRL_IRQ_EN.get v := by
  unfold dmaCtrlSet
  dsimp only
  split
  · rw [fld_setF_same _ _ _ _ (by decide) (by decide), Nat.mod_eq_of_lt (Fld_get_lt _ v)]
  · rw [fld_setF_ne _ _ _ _ _ (by decide) (by decide), fld_setF_same _ _ _ _ (by decide) (by decide), Nat.mod_eq_of_lt (Fld_get_lt _ v)]

theorem dmaCtrlSet_weight : (dmaCtrlSet c v s).fld (R.DMA_CH_CTRL c) F.DMA_CH_CTRL_WEIGHT =
    if F.DMA_CH_CTRL_WEIGHT.get v = 0 then s.fld (R.DMA_CH_CTRL c) F.DMA_CH_CTRL_WEIGHT else F.DMA_CH_CTRL_WEIGHT.get v := by
  unfold dmaCtrlSet
  dsimp only
  split
  · rw [fld_setF_ne _ _ _ _ _ (by decide) (by decide), fld_setF_ne _ _ _ _ _ (by decide) (by decide)]
  · rw [fld_setF_same _ _ _ _ (by decide) (by decide), Nat.mod_eq_of_lt (Fld_get_lt _ v)]

theorem dmaState_setF (n : Nat) (h : n < 16) : (s.setF (R.DMA_CH_STATUS c) F.DMA_CH_STATUS_STATE n).dmaState c = n :=
  (fld_setF_same _ _ _ _ (by decide) (by decide)).trans (Nat.mod_eq_of_lt h)

theorem dmaCtrl_state_kept (h : s.dmaState c = 4 ∨ s.dmaIdle c = false) : (dmaCtrl c v s).dmaState c = s.dmaState c := by
  rw [dmaCtrl, if_pos (h.imp_right fun h => by rw [h]; rfl), dmaCtrlSet_status]

theorem dmaCtrl_state (h4 : s.dmaState c ≠ 4) (hi : s.dmaIdle c = true) : (dmaCtrl c v s).dmaState c =
    if F.DMA_CH_CTRL_RUN.get v ≠ 1 then 0 else if s.dmaState c = 0 ∨ s.dmaState c = 3 then 1 else s.dmaState c := by
  rw [dmaCtrl, if_neg (not_or.mpr ⟨h4, by rw [hi]; exact Bool.false_ne_true⟩)]
  by_cases hr : F.DMA_CH_CTRL_RUN.get v = 1
  · rw [if_pos hr, if_neg (not_not.mpr hr)]
    split
    · exact dmaState_setF c _ 1 (by decide)
    · exact dmaCtrlSet_status c v s
  · rw [if_neg hr, if_pos hr]
    exact dmaState_setF c _ 0 (by decide)

end

/-! ## Turns (R386) -/

section
variable {s : State}

/-- The channel that has the turn keeps it. -/
def keepsTurn (s : State) : Prop := s.dmaWork s.host.dmaTurn = true ∧ s.dmaLeft s.host.dmaTurn s.host.dmaHeld ≠ 0

theorem dmaTurnOf_of_keeps (h : keepsTurn s) : s.dmaTurnOf = some (s.host.dmaTurn, s.host.dmaHeld) :=
  if_pos (by rw [Bool.and_eq_true, bne_iff_ne]; exact h)

theorem dmaTurnOf_of_not_keeps (h : ¬ keepsTurn s) : s.dmaTurnOf =
    (((List.range 32).map fun i => (s.host.dmaTurn + 1 + i) % 32).find? s.dmaWork).map fun c => (c, 0) :=
  if_neg (by rw [Bool.and_eq_true, bne_iff_ne]; exact h)

theorem dmaTurnOf_next {i : Nat} (hi : i < 32) (h : ¬ keepsTurn s) (hw : s.dmaWork ((s.host.dmaTurn + 1 + i) % 32) = true)
    (hb : ∀ j < i, s.dmaWork ((s.host.dmaTurn + 1 + j) % 32) = false) : s.dmaTurnOf = some ((s.host.dmaTurn + 1 + i) % 32, 0) := by
  have hf : (List.range 32).find? (s.dmaWork ∘ fun i => (s.host.dmaTurn + 1 + i) % 32) = some i :=
    List.find?_range_eq_some.mpr ⟨hw, List.mem_range.mpr hi, fun j hj => by rw [Function.comp_apply, hb j hj]; rfl⟩
  rw [dmaTurnOf_of_not_keeps h, List.find?_map, hf]
  rfl

theorem dmaTurnOf_none (h : ¬ keepsTurn s) (hw : ∀ k < 32, s.dmaWork k = false) : s.dmaTurnOf = none := by
  rw [dmaTurnOf_of_not_keeps h, Option.map_eq_none_iff, List.find?_eq_none]
  intro k hk
  obtain ⟨i, _, rfl⟩ := List.mem_map.mp hk
  exact Bool.eq_false_iff.mp (hw _ (Nat.mod_lt _ (by decide)))

/-- A channel in turn has work. -/
theorem dmaWork_of_turn {c held : Nat} (h : s.dmaTurnOf = some (c, held)) : s.dmaWork c = true := by
  by_cases hk : keepsTurn s
  · rw [dmaTurnOf_of_keeps hk, Option.some.injEq, Prod.mk.injEq] at h
    exact h.1 ▸ hk.1
  · rw [dmaTurnOf_of_not_keeps hk] at h
    obtain ⟨k, hf, he⟩ := Option.map_eq_some_iff.mp h
    rw [Prod.mk.injEq] at he
    exact he.1 ▸ List.find?_some hf

theorem dmaLeft_le_weight (c held : Nat) : s.dmaLeft c held ≤ s.fld (R.DMA_CH_CTRL c) F.DMA_CH_CTRL_WEIGHT * 4096 - held := by
  have hl : s.dmaLimit c ≤ s.fld (R.DMA_CH_CTRL c) F.DMA_CH_CTRL_WEIGHT * 4096 := by
    unfold State.dmaLimit
    dsimp only
    split
    · exact min_le_left _ _
    · exact le_rfl
  exact (Nat.div_mul_le_self _ _).trans (Nat.sub_le_sub_right hl held)

theorem dmaLeft_le_shared (c held : Nat) {k : Nat} (hk : k < 32) (hc : k ≠ c) (hw : s.dmaWork k = true) : s.dmaLeft c held ≤ 65536 - held := by
  have hl : s.dmaLimit c ≤ 65536 := by
    unfold State.dmaLimit
    rw [if_pos (List.any_eq_true.mpr ⟨k, List.mem_range.mpr hk, by simp [hc, hw]⟩)]
    exact min_le_right _ _
  exact (Nat.div_mul_le_self _ _).trans (Nat.sub_le_sub_right hl held)

end

/-! ## Fetching a descriptor (R381, R382) -/

/-- The channel has the turn, with what it has moved in it. -/
def inTurn (c held : Nat) (s : State) : State := s.updHost fun h => { h with dmaTurn := c, dmaHeld := held }

/-- The channel with the descriptor it begins in execution. -/
def begun (c : Nat) (b : DmaRun × State) (s : State) : State :=
  (if s.dmaState c = 4 then b.2 else setDmaState b.2 c 2).updCh c fun x => { x with run := some b.1 }

section
variable {c held : Nat} {hw : DevHw} {err : Option Word} {s : State}

theorem dmaServe_of_idle (h : (s.ch c).run = none) : dmaServe c hw err s = s := by rw [dmaServe, h]

theorem dmaServe_of_run {r : DmaRun} (h : (s.ch c).run = some r) : dmaServe c hw err s =
    if r.through = true then s else dmaMove c (min (r.len - r.written) (s.dmaLeft c s.host.dmaHeld)) hw err r s := by rw [dmaServe, h]

theorem dmaFetch_of_foreign (h : (s.descAt c (s.dmaAt c)).own = false) : dmaFetch c s = s.updCh c fun x => { x with parked := true } :=
  if_pos (by rw [h]; rfl)

theorem dmaFetch_of_own (h : (s.descAt c (s.dmaAt c)).own = true) : dmaFetch c s =
    begun c (dmaBegin (s.dmaState c == 4) (s.fld (R.DMA_CH_STATUS c) F.DMA_CH_STATUS_HEAD) (s.descAt c (s.dmaAt c)) s) s := by
  unfold dmaFetch
  dsimp only
  rw [if_neg (by rw [h]; exact Bool.false_ne_true)]
  simp only [begun, beq_iff_eq]

theorem doDmaFetch_of_other (h : ∀ held, s.dmaTurnOf ≠ some (c, held)) : doDmaFetch c hw err s = s := by
  unfold doDmaFetch
  split
  · rfl
  next t held ht => exact if_pos fun e => h held (by rw [ht, e])

theorem doDmaFetch_of_turn (h : s.dmaTurnOf = some (c, held)) : doDmaFetch c hw err s =
    dmaServe c hw err (if s.dmaIdle c = true then dmaFetch c (inTurn c held s) else inTurn c held s) := by
  rw [doDmaFetch, h]
  exact if_neg (not_not.mpr rfl)

theorem run_of_idle (h : s.dmaIdle c = true) : (s.ch c).run = none := Option.isNone_iff_eq_none.mp h

theorem doDmaFetch_of_foreign (h : s.dmaTurnOf = some (c, held)) (hi : s.dmaIdle c = true)
    (ho : ((inTurn c held s).descAt c ((inTurn c held s).dmaAt c)).own = false) :
    doDmaFetch c hw err s = (inTurn c held s).updCh c fun x => { x with parked := true } := by
  rw [doDmaFetch_of_turn h, if_pos hi, dmaFetch_of_foreign ho]
  refine dmaServe_of_idle ?_
  rw [ch_updCh_same]
  exact run_of_idle hi

theorem doDmaFetch_of_own (h : s.dmaTurnOf = some (c, held)) (hi : s.dmaIdle c = true)
    (ho : ((inTurn c held s).descAt c ((inTurn c held s).dmaAt c)).own = true) {b : DmaRun × State}
    (hb : dmaBegin (s.dmaState c == 4) (s.fld (R.DMA_CH_STATUS c) F.DMA_CH_STATUS_HEAD)
      ((inTurn c held s).descAt c ((inTurn c held s).dmaAt c)) (inTurn c held s) = b) {u : State} (hu : begun c b s = u) :
    doDmaFetch c hw err s =
      if b.1.through = true then u else dmaMove c (min (b.1.len - b.1.written) (u.dmaLeft c u.host.dmaHeld)) hw err b.1 u := by
  have he : dmaFetch c (inTurn c held s) = u := by
    rw [← hu, ← hb]
    exact dmaFetch_of_own ho
  rw [doDmaFetch_of_turn h, if_pos hi, he]
  refine dmaServe_of_run ?_
  rw [← hu, begun, ch_updCh_same]

theorem doDmaFetch_of_run {r : DmaRun} (h : s.dmaTurnOf = some (c, held)) (hr : (s.ch c).run = some r) : doDmaFetch c hw err s =
    dmaMove c (min (r.len - r.written) ((inTurn c held s).dmaLeft c held)) hw err r (inTurn c held s) := by
  have hi : s.dmaIdle c = false := by rw [State.dmaIdle, hr]; rfl
  have ht : r.through = false := by
    have hw := dmaWork_of_turn h
    rw [State.dmaWork, hr] at hw
    exact Bool.not_eq_true' _ ▸ hw
  rw [doDmaFetch_of_turn h, if_neg (by rw [hi]; exact Bool.false_ne_true), dmaServe_of_run (s := inTurn c held s) hr,
    if_neg (by rw [ht]; exact Bool.false_ne_true)]
  rfl

end

/-! ## The check of a descriptor (R385) -/

section
variable {idx : Nat} {d : DmaDesc} {s : State}

/-- A descriptor that nothing holds back yet. -/
def freshRun (idx : Nat) (d : DmaDesc) : DmaRun := ⟨idx, d.src, d.dst, d.len, d.w5, 0, true, 0⟩

theorem dmaBegin_of_retired : dmaBegin true idx d s = ({ freshRun idx d with status := 0x17 }, s) := rfl

/-- The checks of a channel that is not retired, in their order. -/
theorem dmaBegin_eq : dmaBegin false idx d s =
    if d.len = 0 then (freshRun idx d, s)
    else if d.bad = true then ({ freshRun idx d with status := 0x10 }, s)
    else if (d.dstDev && s.devAny d.dst (d.span d.dstFix) dstRefused) = true then
      ({ freshRun idx d with status := 0x10 }, noteRefused s (s.devRunning d.dst (d.span d.dstFix)))
    else ({ freshRun idx d with through := false }, s) := rfl

theorem dmaBegin_of_empty (h : d.len = 0) : dmaBegin false idx d s = (freshRun idx d, s) := by rw [dmaBegin_eq, if_pos h]

theorem dmaBegin_of_bad (h : d.len ≠ 0) (hb : d.bad = true) : dmaBegin false idx d s = ({ freshRun idx d with status := 0x10 }, s) := by
  rw [dmaBegin_eq, if_neg h, if_pos hb]

theorem dmaBegin_of_refused (h : d.len ≠ 0) (hb : d.bad = false) (hr : d.dstDev = true ∧ s.devAny d.dst (d.span d.dstFix) dstRefused = true) :
    dmaBegin false idx d s =
      ({ freshRun idx d with status := 0x10 }, noteRefused s (s.devRunning d.dst (d.span d.dstFix))) := by
  rw [dmaBegin_eq, if_neg h, if_neg (Bool.eq_false_iff.mp hb), if_pos (by rw [Bool.and_eq_true]; exact hr)]

theorem dmaBegin_of_good (h : d.len ≠ 0) (hb : d.bad = false) (hr : ¬ (d.dstDev = true ∧ s.devAny d.dst (d.span d.dstFix) dstRefused = true)) :
    dmaBegin false idx d s = ({ freshRun idx d with through := false }, s) := by
  rw [dmaBegin_eq, if_neg h, if_neg (Bool.eq_false_iff.mp hb), if_neg (by rw [Bool.and_eq_true]; exact hr)]

end

/-! ## Moving bytes (R382 to R385) -/

section
variable {d : DmaDesc} {r : DmaRun} {s : State} {hw : DevHw} {err : Option Word} (c k n : Nat)

/-- Bytes of the stream that a host source gives. -/
def hostStream (s : State) (d : DmaDesc) (k n : Nat) : Bytes :=
  if d.srcFix then (List.replicate (n / d.width) (s.hostRead (DmaDesc.at_ d.srcFix d.src k) d.width)).flatten
  else s.hostRead (d.src + k) n

theorem dmaRead_host (h : d.srcDev = false) : dmaRead s d k n hw = (hostStream s d k n, none, s) := by
  unfold dmaRead hostStream
  rw [h]
  cases hf : d.srcFix with
  | false => rfl
  | true => rfl

/-- The descriptor in execution after a stretch of n bytes that stops, if at all, as told. -/
def runAfter (r : DmaRun) (n : Nat) (stop : Option (Nat × Nat)) : DmaRun :=
  let g := max (swapGroup r.desc.swap) (if r.desc.dstFix then r.desc.width else 1)
  stop.elim { r with written := r.written + n, through := r.written + n == r.len }
    fun p => { r with written := r.written + min p.1 (n - 1) / g * g, through := true, status := p.2 }

theorem dmaMove_run (h : r.desc.srcDev = false) : ((dmaMove c n hw err r s).ch c).run =
    some (runAfter r n (dmaStop (dmaRefused s r.desc r.written n) none err)) := by
  unfold dmaMove
  simp only [dmaRead_host _ _ h, h, Bool.false_and, Bool.false_eq_true, if_false]
  rw [ch_updCh_same]
  cases dmaStop (dmaRefused s r.desc r.written n) none err with
  | none => rfl
  | some p => rfl

theorem dmaMove_whole (h : r.desc.srcDev = false) (hf : r.desc.srcFix = false) (hk : dmaRefused s r.desc r.written n = none) :
    dmaMove c n hw none r s =
      ((dmaWrite s r.desc r.written ((swapGroups r.desc.swap (n / swapGroup r.desc.swap) (s.hostRead (r.desc.src + r.written) n)).take n)).updHost
        fun h => { h with dmaHeld := h.dmaHeld + n }).updCh c fun x => { x with run :=
            (some { r with written := r.written + n, through := r.written + n == r.len }) } := by
  have hs : hostStream s r.desc r.written n = s.hostRead (r.desc.src + r.written) n := by
    rw [hostStream, hf]
    rfl
  unfold dmaMove
  simp only [dmaRead_host _ _ h, h, hk, hs, Bool.false_and, Bool.false_eq_true, if_false, Option.isSome_none]
  rfl

theorem dmaStop_refused (j m : Nat) {w : Word} (hm : w.toNat = m) :
    dmaStop (some j) none (some w) = if j ≤ m then some (j, 0x10) else some (m, 0x1F) := by rw [← hm]; rfl

theorem dmaRefused_host (h : d.dstDev = false) : dmaRefused s d k n = none := if_pos (by rw [h]; rfl)

theorem dmaRefused_first (h : d.dstDev = true) (hf : d.dstFix = false) {j : Nat} (hj : j < n)
    (hr : dstRefused (s.devWritable (d.dst + k + j)) = true) (hb : ∀ i < j, dstRefused (s.devWritable (d.dst + k + i)) = false) :
    dmaRefused s d k n = some j := by
  refine (if_neg (by rw [h]; exact Bool.false_ne_true)).trans ((if_neg (Bool.eq_false_iff.mp hf)).trans ?_)
  exact List.find?_range_eq_some.mpr ⟨hr, List.mem_range.mpr hj, fun i hi => by rw [hb i hi]; rfl⟩

end

theorem swapGroups_none (b : Bytes) : swapGroups 0 b.length b = b := by
  induction b with
  | nil => rfl
  | cons x b ih => exact congrArg (x :: ·) ih

/-! ## Completion (R384) -/

section
variable {c : Nat} {r : DmaRun} {s : State}

theorem dmaReg_lt (hc : c < 32) {k : Nat} (hk : k < 0x100) : 0x1100000 + k + c * 0x100 < 0x8000000 := by omega

/-- The descriptor goes back with OWN cleared. -/
def ownBack (s : State) (c : Nat) (r : DmaRun) : State :=
  if (s.ch c).act.inDevice then devWrite s (s.dmaAt c + 20) (leBytes (r.word5 % 2 ^ 31) 4)
  else s.hostWrite (s.dmaAt c + 20) (leBytes (r.word5 % 2 ^ 31) 4)

theorem ownBack_host : (ownBack s c r).host = s.host := by
  unfold ownBack
  split
  · exact devWrite_host _ _ _
  · rfl

theorem ownBack_rd {q : RegRef} (h : q.addr < 0x8000000) : (ownBack s c r).rd q = s.rd q := by
  unfold ownBack
  split
  · exact devWrite_rd _ _ _ h
  · rfl

/-- Index of the completion queue that the record of a descriptor moves to. -/
def cplNext (s : State) (c : Nat) (r : DmaRun) : Nat :=
  ((ownBack s c r).fld (R.DMA_CH_CPL_INDEX c) F.DMA_CH_CPL_INDEX_TAIL % (s.ch c).act.cplSize + 1) % (s.ch c).act.cplSize

/-- The record is appended and the indices move on. -/
def indicesOn (s : State) (c : Nat) (r : DmaRun) : State :=
  (((ownBack s c r).hostWrite ((s.ch c).act.cpl / 4096 * 4096 +
      (ownBack s c r).fld (R.DMA_CH_CPL_INDEX c) F.DMA_CH_CPL_INDEX_TAIL % (s.ch c).act.cplSize * 16) (dmaRecord (ownBack s c r) c r)).setF
    (R.DMA_CH_CPL_INDEX c) F.DMA_CH_CPL_INDEX_TAIL (cplNext s c r)).setF
    (R.DMA_CH_STATUS c) F.DMA_CH_STATUS_HEAD ((r.idx + 1) % (s.ch c).act.ringSize)

theorem dmaWriteBack_eq (s : State) (c : Nat) (r : DmaRun) : dmaWriteBack s c r = (indicesOn s c r).updCh c fun x =>
    { x with run := none, used := x.used + 1, phase := if cplNext s c r = 0 then !x.phase else x.phase } := rfl

theorem dmaWriteBack_ch : (dmaWriteBack s c r).ch c =
    { s.ch c with run := none, used := (s.ch c).used + 1, phase := if cplNext s c r = 0 then !(s.ch c).phase else (s.ch c).phase } := by
  have h : (indicesOn s c r).ch c = s.ch c := ch_of_host (t := s) (ownBack_host (s := s)) c
  rw [dmaWriteBack_eq, ch_updCh_same, h]

theorem dmaWriteBack_head : (dmaWriteBack s c r).fld (R.DMA_CH_STATUS c) F.DMA_CH_STATUS_HEAD =
    (r.idx + 1) % (s.ch c).act.ringSize % 2 ^ 16 := by
  rw [dmaWriteBack_eq, fld_updCh]
  exact fld_setF_same _ _ _ _ (by decide) (by decide)

theorem status_ne_cpl : (R.DMA_CH_STATUS c).addr ≠ (R.DMA_CH_CPL_INDEX c).addr := by
  simp only [R.DMA_CH_STATUS, R.DMA_CH_CPL_INDEX]; omega

theorem ctrl_ne_cpl : (R.DMA_CH_CTRL c).addr ≠ (R.DMA_CH_CPL_INDEX c).addr := by
  simp only [R.DMA_CH_CTRL, R.DMA_CH_CPL_INDEX]; omega

theorem ctrl_ne_status : (R.DMA_CH_CTRL c).addr ≠ (R.DMA_CH_STATUS c).addr := by
  simp only [R.DMA_CH_CTRL, R.DMA_CH_STATUS]; omega

theorem dmaWriteBack_state (hc : c < 32) : (dmaWriteBack s c r).dmaState c = s.dmaState c := by
  rw [dmaWriteBack_eq, State.dmaState, fld_updCh, indicesOn, fld_setF_ne _ _ _ _ _ (by decide) (by decide), fld_setF_reg _ status_ne_cpl]
  exact fld_of_rd (ownBack_rd (dmaReg_lt hc (k := 4) (by decide))) _

theorem dmaWriteBack_ctrl (hc : c < 32) (f : Fld) : (dmaWriteBack s c r).fld (R.DMA_CH_CTRL c) f = s.fld (R.DMA_CH_CTRL c) f := by
  rw [dmaWriteBack_eq, fld_updCh, indicesOn, fld_setF_reg _ ctrl_ne_status, fld_setF_reg _ ctrl_ne_cpl]
  exact fld_of_rd (ownBack_rd (dmaReg_lt hc (k := 0) (by decide))) _

/-- What the end of a descriptor does to DONE and STATE. -/
def dmaClose (c : Nat) (r : DmaRun) (s : State) : State :=
  dmaAfter (if r.word5.testBit 30 then s.setBit (R.DMA_CH_STATUS c) F.DMA_CH_STATUS_DONE else s) c r

theorem dmaAfter_host : (dmaAfter s c r).host = s.host := by
  unfold dmaAfter
  dsimp only
  split
  · rfl
  split
  · rfl
  split
  · rfl
  · rfl

/-- Below the state the status register keeps its fields. -/
theorem dmaAfter_status {f : Fld} (hf : f.hi < 28) : (dmaAfter s c r).fld (R.DMA_CH_STATUS c) f = s.fld (R.DMA_CH_STATUS c) f := by
  unfold dmaAfter
  dsimp only
  split
  · rfl
  split
  · exact fld_setF_ne _ _ _ _ _ (by decide) (.inl hf)
  split
  · rw [fld_setF_ne _ _ _ _ _ (by decide) (.inl hf), fld_setF_reg _ ctrl_ne_status.symm]
  · exact fld_setF_ne _ _ _ _ _ (by decide) (.inl hf)

theorem dmaAfter_state : (dmaAfter s c r).dmaState c = if s.dmaState c = 4 then 4 else if r.status ≠ 0 then 3
    else if r.word5.testBit 21 = true then 0 else if s.bit (R.DMA_CH_CTRL c) F.DMA_CH_CTRL_RUN = true then 1 else 0 := by
  unfold dmaAfter
  dsimp only
  split
  · assumption
  split
  · exact dmaState_setF c _ 3 (by decide)
  split
  · exact dmaState_setF c _ 0 (by decide)
  · split
    · exact dmaState_setF c _ 1 (by decide)
    · exact dmaState_setF c _ 0 (by decide)

theorem dmaClose_host : (dmaClose c r s).host = s.host := by
  rw [dmaClose, dmaAfter_host]
  split
  · rfl
  · rfl

theorem dmaClose_status {f : Fld} (hf : f.hi < 25) : (dmaClose c r s).fld (R.DMA_CH_STATUS c) f = s.fld (R.DMA_CH_STATUS c) f := by
  rw [dmaClose, dmaAfter_status (hf.trans (by decide))]
  split
  · exact fld_setF_ne _ _ _ _ _ (by decide) (.inl hf)
  · rfl

theorem dmaClose_done (h : r.word5.testBit 30 = true) : (dmaClose c r s).bit (R.DMA_CH_STATUS c) F.DMA_CH_STATUS_DONE = true := by
  rw [dmaClose, if_pos h, State.bit, dmaAfter_status (by decide), State.setBit, fld_setF_same _ _ _ _ (by decide) (by decide)]
  rfl

theorem dmaClose_state : (dmaClose c r s).dmaState c = if s.dmaState c = 4 then 4 else if r.status ≠ 0 then 3
    else if r.word5.testBit 21 = true then 0 else if s.bit (R.DMA_CH_CTRL c) F.DMA_CH_CTRL_RUN = true then 1 else 0 := by
  rw [dmaClose, dmaAfter_state]
  cases r.word5.testBit 30 with
  | false => rfl
  | true =>
    have hs : (s.setBit (R.DMA_CH_STATUS c) F.DMA_CH_STATUS_DONE).dmaState c = s.dmaState c :=
      fld_setF_ne _ _ _ _ _ (by decide) (.inr (by decide))
    have hr : (s.setBit (R.DMA_CH_STATUS c) F.DMA_CH_STATUS_DONE).bit (R.DMA_CH_CTRL c) F.DMA_CH_CTRL_RUN =
        s.bit (R.DMA_CH_CTRL c) F.DMA_CH_CTRL_RUN := congrArg (· == 1) (fld_setF_reg _ ctrl_ne_status _ _ _)
    simp only [if_true, hs, hr]

/-- The state before the cause of the channel is told. -/
def beforeClose (s : State) (c : Nat) (r : DmaRun) : State :=
  (dmaWriteBack s c r).setF (R.DMA_CH_STATUS c) F.DMA_CH_STATUS_LAST_STATUS r.status

theorem beforeClose_host : (beforeClose s c r).host = (dmaWriteBack s c r).host := setF_host _ _ _ _

theorem doDmaComplete_of_idle (h : (s.ch c).run = none) : doDmaComplete c s = s := by rw [doDmaComplete, h]

theorem doDmaComplete_of_wait (h : (s.ch c).run = some r) (hw : r.through = false ∨ (s.ch c).act.cplSize ≤ (s.ch c).used) :
    doDmaComplete c s = s := by
  rw [doDmaComplete, h]
  refine if_pos ?_
  rw [Bool.or_eq_true, decide_eq_true_eq]
  exact hw.imp_left fun h => by rw [h]; rfl

theorem doDmaComplete_of_through (h : (s.ch c).run = some r) (ht : r.through = true) (hu : (s.ch c).used < (s.ch c).act.cplSize) :
    doDmaComplete c s = withCause (beforeClose s c r) (c + 1) (dmaClose c r) := by
  rw [doDmaComplete, h]
  refine if_neg ?_
  rw [Bool.or_eq_true, decide_eq_true_eq, ht]
  exact not_or.mpr ⟨Bool.false_ne_true, Nat.not_le.mpr hu⟩

theorem complete_ch : (withCause (beforeClose s c r) (c + 1) (dmaClose c r)).ch c = (dmaWriteBack s c r).ch c :=
  ch_of_host ((withCause_host _ _ _).trans (dmaClose_host.trans beforeClose_host)) c

theorem complete_fld (q : RegRef) (f : Fld) :
    (withCause (beforeClose s c r) (c + 1) (dmaClose c r)).fld q f = (dmaClose c r (beforeClose s c r)).fld q f :=
  fld_of_rd (withCause_rd _ _ _ _) f

theorem complete_last : (withCause (beforeClose s c r) (c + 1) (dmaClose c r)).fld (R.DMA_CH_STATUS c) F.DMA_CH_STATUS_LAST_STATUS =
    r.status % 2 ^ 8 := by
  rw [complete_fld, dmaClose_status (by decide)]
  exact fld_setF_same _ _ _ _ (by decide) (by decide)

theorem complete_head : (withCause (beforeClose s c r) (c + 1) (dmaClose c r)).fld (R.DMA_CH_STATUS c) F.DMA_CH_STATUS_HEAD =
    (r.idx + 1) % (s.ch c).act.ringSize % 2 ^ 16 := by
  rw [complete_fld, dmaClose_status (by decide), beforeClose, fld_setF_ne _ _ _ _ _ (by decide) (by decide), dmaWriteBack_head]

theorem complete_state (hc : c < 32) : (withCause (beforeClose s c r) (c + 1) (dmaClose c r)).dmaState c =
    if s.dmaState c = 4 then 4 else if r.status ≠ 0 then 3 else if r.word5.testBit 21 = true then 0
    else if s.bit (R.DMA_CH_CTRL c) F.DMA_CH_CTRL_RUN = true then 1 else 0 := by
  have hs : (beforeClose s c r).dmaState c = s.dmaState c :=
    (fld_setF_ne _ _ _ _ _ (by decide) (.inr (by decide))).trans (dmaWriteBack_state hc)
  have hr : (beforeClose s c r).bit (R.DMA_CH_CTRL c) F.DMA_CH_CTRL_RUN = s.bit (R.DMA_CH_CTRL c) F.DMA_CH_CTRL_RUN :=
    congrArg (· == 1) ((fld_setF_reg _ ctrl_ne_status _ _ _).trans (dmaWriteBack_ctrl hc _))
  exact (complete_fld _ _).trans (dmaClose_state.trans (by rw [hs, hr]))

theorem complete_done (h : r.word5.testBit 30 = true) :
    (withCause (beforeClose s c r) (c + 1) (dmaClose c r)).bit (R.DMA_CH_STATUS c) F.DMA_CH_STATUS_DONE = true :=
  (congrArg (· == 1) (complete_fld _ _)).trans (dmaClose_done h)

end

/-! ## Shadow sets (R387) -/

section
variable (c : Nat) (s : State)

theorem bit_setBit_same (r : RegRef) (f : Fld) (hl : f.lo = f.hi) (hh : f.hi < 32) : (s.setBit r f).bit r f = true := by
  rw [State.bit, State.setBit, fld_setF_same _ _ _ _ hl.le hh, hl, Nat.add_sub_cancel_left]
  rfl

theorem shadow_ne_status : (R.DMA_CH_SHADOW_CTRL c).addr ≠ (R.DMA_CH_STATUS c).addr := by
  simp only [R.DMA_CH_SHADOW_CTRL, R.DMA_CH_STATUS]; omega

theorem armShadow_arm : (armShadow c s).bit (R.DMA_CH_SHADOW_CTRL c) F.DMA_CH_SHADOW_CTRL_ARM = true :=
  (congrArg (· == 1) (fld_setF_reg _ (shadow_ne_status c) _ _ _)).trans (bit_setBit_same s _ _ rfl (by decide))

/-- The shadow set in force, with the indices at 0 where a base has changed. -/
def handed (c : Nat) (s : State) : State :=
  if (s.shadowSet c).ring ≠ (s.ch c).act.ring ∨ (s.shadowSet c).cpl ≠ (s.ch c).act.cpl then
    zeroIndices c (s.updCh c fun x => { x with act := s.shadowSet c })
  else s.updCh c fun x => { x with act := s.shadowSet c }

/-- How the pending shadow reads after the handover. -/
def settled (c : Nat) (late : Bool) (s : State) : State :=
  if late then s.setBit (R.DMA_CH_STATUS c) F.DMA_CH_STATUS_SHADOW_LATE
  else (s.setF (R.DMA_CH_SHADOW_CTRL c) F.DMA_CH_SHADOW_CTRL_ARM 0).setF (R.DMA_CH_STATUS c) F.DMA_CH_STATUS_SHADOW_PENDING 0

theorem doHandover_of_unarmed (late : Bool) (h : s.bit (R.DMA_CH_SHADOW_CTRL c) F.DMA_CH_SHADOW_CTRL_ARM = false ∨ s.dmaIdle c = false) :
    doHandover c late s = s := by
  refine if_pos ?_
  rw [Bool.or_eq_true, Bool.not_eq_true', Bool.not_eq_true']
  exact h

theorem doHandover_of_armed (late : Bool) (h : s.bit (R.DMA_CH_SHADOW_CTRL c) F.DMA_CH_SHADOW_CTRL_ARM = true) (hi : s.dmaIdle c = true) :
    doHandover c late s = settled c late (handed c s) := by
  refine if_neg ?_
  rw [h, hi]
  exact Bool.false_ne_true

theorem settled_host (late : Bool) : (settled c late s).host = s.host := by
  cases late with
  | false => rfl
  | true => rfl

theorem handed_act : ((handed c s).ch c).act = s.shadowSet c := by
  unfold handed
  split
  · have h := ch_updCh_same s c fun x => { x with act := s.shadowSet c }
    rw [zeroIndices, ch_updCh_same]
    exact congrArg DmaCh.act h
  · rw [ch_updCh_same]

theorem handed_ctrl (f : Fld) : (handed c s).fld (R.DMA_CH_SHADOW_CTRL c) f = s.fld (R.DMA_CH_SHADOW_CTRL c) f := by
  have ht : (R.DMA_CH_SHADOW_CTRL c).addr ≠ (R.DMA_CH_TAIL c).addr := by simp only [R.DMA_CH_SHADOW_CTRL, R.DMA_CH_TAIL]; omega
  have hi : (R.DMA_CH_SHADOW_CTRL c).addr ≠ (R.DMA_CH_CPL_INDEX c).addr := by simp only [R.DMA_CH_SHADOW_CTRL, R.DMA_CH_CPL_INDEX]; omega
  unfold handed
  split
  · rw [zeroIndices, fld_updCh, fld_wr_reg _ hi, fld_setF_reg _ ht, fld_setF_reg _ (shadow_ne_status c), fld_updCh]
  · rfl

theorem handed_of_changed (h : (s.shadowSet c).ring ≠ (s.ch c).act.ring ∨ (s.shadowSet c).cpl ≠ (s.ch c).act.cpl) :
    (handed c s).fld (R.DMA_CH_STATUS c) F.DMA_CH_STATUS_HEAD = 0 ∧ (handed c s).fld (R.DMA_CH_TAIL c) F.DMA_CH_TAIL_INDEX = 0 ∧
      ((handed c s).ch c).used = 0 ∧ ((handed c s).ch c).phase = true := by
  have ht : (R.DMA_CH_STATUS c).addr ≠ (R.DMA_CH_TAIL c).addr := by simp only [R.DMA_CH_STATUS, R.DMA_CH_TAIL]; omega
  have hi : (R.DMA_CH_TAIL c).addr ≠ (R.DMA_CH_CPL_INDEX c).addr := by simp only [R.DMA_CH_TAIL, R.DMA_CH_CPL_INDEX]; omega
  rw [handed, if_pos h, zeroIndices]
  refine ⟨?_, ?_, ?_, ?_⟩
  · rw [fld_updCh, fld_wr_reg _ status_ne_cpl, fld_setF_reg _ ht, fld_setF_same _ _ _ _ (by decide) (by decide), Nat.zero_mod]
  · rw [fld_updCh, fld_wr_reg _ hi, fld_setF_same _ _ _ _ (by decide) (by decide), Nat.zero_mod]
  · rw [ch_updCh_same]
  · rw [ch_updCh_same]

theorem handed_of_same (h : (s.shadowSet c).ring = (s.ch c).act.ring) (hc : (s.shadowSet c).cpl = (s.ch c).act.cpl) :
    handed c s = s.updCh c fun x => { x with act := s.shadowSet c } := if_neg (not_or.mpr ⟨not_not.mpr h, not_not.mpr hc⟩)

theorem settled_arm (late : Bool) (h : s.bit (R.DMA_CH_SHADOW_CTRL c) F.DMA_CH_SHADOW_CTRL_ARM = true) :
    (settled c late s).bit (R.DMA_CH_SHADOW_CTRL c) F.DMA_CH_SHADOW_CTRL_ARM = late := by
  cases late with
  | false =>
    have hz : (settled c false s).fld (R.DMA_CH_SHADOW_CTRL c) F.DMA_CH_SHADOW_CTRL_ARM = 0 % 2 ^ 1 :=
      (fld_setF_reg _ (shadow_ne_status c) _ _ _).trans (fld_setF_same _ _ _ _ (by decide) (by decide))
    rw [State.bit, hz]
    rfl
  | true => exact (congrArg (· == 1) (fld_setF_reg _ (shadow_ne_status c) _ _ _)).trans h

theorem settled_pending : (settled c false s).bit (R.DMA_CH_STATUS c) F.DMA_CH_STATUS_SHADOW_PENDING = false := by
  have hz : (settled c false s).fld (R.DMA_CH_STATUS c) F.DMA_CH_STATUS_SHADOW_PENDING = 0 % 2 ^ 1 :=
    fld_setF_same _ _ _ _ (by decide) (by decide)
  rw [State.bit, hz]
  rfl

theorem settled_status (late : Bool) {f : Fld} (hf : f.hi < 26) : (settled c late s).fld (R.DMA_CH_STATUS c) f = s.fld (R.DMA_CH_STATUS c) f := by
  cases late with
  | false => exact (fld_setF_ne _ _ _ _ _ (by decide) (.inl (hf.trans (by decide)))).trans (fld_setF_reg _ (shadow_ne_status c).symm _ _ _)
  | true => exact fld_setF_ne _ _ _ _ _ (by decide) (.inl hf)

theorem settled_tail (late : Bool) (f : Fld) : (settled c late s).fld (R.DMA_CH_TAIL c) f = s.fld (R.DMA_CH_TAIL c) f := by
  have hs : (R.DMA_CH_TAIL c).addr ≠ (R.DMA_CH_STATUS c).addr := by simp only [R.DMA_CH_TAIL, R.DMA_CH_STATUS]; omega
  have hc : (R.DMA_CH_TAIL c).addr ≠ (R.DMA_CH_SHADOW_CTRL c).addr := by simp only [R.DMA_CH_TAIL, R.DMA_CH_SHADOW_CTRL]; omega
  cases late with
  | false => exact (fld_setF_reg _ hs _ _ _).trans (fld_setF_reg _ hc _ _ _)
  | true => exact fld_setF_reg _ hs _ _ _

end

end Sys2Proof.Machine
open Sys2Proof Sys2Proof.Machine

/-- Settles O54: the write of a destination keeps the host interface and the channels' registers; each branch of the turn, the check, the
move and the completion is one equation. -/
theorem bar2AndDma : Obligations.Bar2AndDma := by
  refine ⟨fun a n s => ⟨_, rfl, rfl, fun i hi hb => devRead_getElem hi hb⟩, fun a b s => ⟨fun h => next_eq ?taken, fun h => next_eq ?refused⟩,
    fun a b s h => devWrite_of_empty h, fun v s => ⟨_, rfl, ?window, rfl⟩, fun c v s => ⟨_, rfl, ?tail, ?parked, ?run⟩,
    fun c v s => ⟨_, rfl, ?ctrl⟩, fun c hw err s => ⟨fun h => next_eq (doDmaFetch_of_other h), fun held h => ?fetch⟩, fun s => ?turn,
    fun c held s => ⟨dmaLeft_le_weight c held, fun k => dmaLeft_le_shared c held⟩, fun retired idx d s => ?begins,
    fun c n hw err r s h => ?move, fun d k n s => ⟨dmaRefused_host k n, fun h hf j hj => dmaRefused_first k n h hf hj⟩, swapGroups_none,
    fun a b c d => ⟨rfl, rfl, rfl⟩, fun c s => ⟨fun h => next_eq (doDmaComplete_of_idle h), fun r h =>
      ⟨fun hw => next_eq (doDmaComplete_of_wait h hw), fun ht hu => ⟨_, next_eq (doDmaComplete_of_through h ht hu), ?complete⟩⟩⟩,
    fun c s => ⟨_, rfl, armShadow_arm c.val s, bit_setBit_same (s.setBit _ _) _ _ rfl (by decide), rfl⟩, fun c late s => ?shadow⟩
  case taken =>
    refine if_neg fun hr => ?_
    obtain ⟨i, hi, he⟩ := devAny_iff.mp hr
    exact h i hi (beq_iff_eq.mp he)
  case refused =>
    obtain ⟨i, hi, he⟩ := h
    have hb : s.devAny (s.bar2Addr a.toNat) b.length (· == .refused) = true := devAny_iff.mpr ⟨i, hi, by rw [he]; rfl⟩
    exact if_pos hb
  case window => exact (fld_setF_same _ _ _ _ (by decide) (by decide)).trans (Nat.mod_eq_of_lt (Fld_get_lt _ v))
  case tail => exact (fld_setF_same _ _ _ _ (by decide) (by decide)).trans (Nat.mod_mod _ _)
  case parked => exact congrArg DmaCh.parked (ch_updCh_same _ _ _)
  case run =>
    rw [writeDmaTail, ch_updCh_same]
    rfl
  case ctrl =>
    have hrd := fun f => (congrArg (fun t => State.fld t (R.DMA_CH_CTRL c.val) f) (writeDmaCtrl_eq c.val v s)).trans
      ((fld_of_rd (causeWrite_rd s _ (dmaCtrl c.val v) _) f).trans (dmaCtrl_ctrl c.val v s f))
    have hst : (writeDmaCtrl c.val v s).dmaState c.val = (dmaCtrl c.val v s).dmaState c.val :=
      fld_of_rd (causeWrite_rd s _ (dmaCtrl c.val v) _) _
    exact ⟨(hrd _).trans (dmaCtrlSet_run _ v s), (hrd _).trans (dmaCtrlSet_irq _ v s), (hrd _).trans (dmaCtrlSet_weight _ v s),
      fun h => hst.trans (dmaCtrl_state_kept _ v s h), fun h4 hi => hst.trans (dmaCtrl_state _ v s h4 hi)⟩
  case fetch =>
    refine ⟨fun hi ho => next_eq (doDmaFetch_of_foreign h hi ho), fun hi ho ht => next_eq ?_, fun hi ho ht => next_eq ?_,
      fun r hr => next_eq (doDmaFetch_of_run h hr)⟩
    · exact (doDmaFetch_of_own h hi ho rfl rfl).trans (if_pos ht)
    · exact (doDmaFetch_of_own h hi ho rfl rfl).trans (if_neg (Bool.eq_false_iff.mp ht))
  case turn =>
    exact ⟨dmaTurnOf_of_keeps, fun i hi => dmaTurnOf_next hi, dmaTurnOf_none⟩
  case begins =>
    refine ⟨?_, ?_, ?_, ?_, ?_⟩
    · rintro rfl
      exact dmaBegin_of_retired
    · rintro rfl
      exact dmaBegin_of_empty
    · rintro rfl
      exact dmaBegin_of_bad
    · rintro rfl
      exact dmaBegin_of_refused
    · rintro rfl
      exact dmaBegin_of_good
  case move =>
    have hr : ∀ stop, dmaStop (dmaRefused s r.desc r.written n) none err = stop →
        ((dmaMove c.val n hw err r s).ch c.val).run = some (runAfter r n stop) := fun stop he => he ▸ dmaMove_run c.val n h
    refine ⟨fun hf hk he => ?_, fun m hk he => hr (some (m.toNat, 0x1F)) ?_, fun j hk he => hr (some (j, 0x10)) ?_,
      fun j m hk he hj => hr (some (j, 0x10)) ?_, fun j m hk he hj => hr (some (m.toNat, 0x1F)) ?_⟩
    · subst he
      exact dmaMove_whole c.val n h hf hk
    · rw [hk, he]
      rfl
    · rw [hk, he]
      rfl
    · rw [hk, he, dmaStop_refused j _ rfl, if_pos hj]
    · rw [hk, he, dmaStop_refused j _ rfl, if_neg (Nat.not_le.mpr hj)]
  case complete =>
    have hch := (complete_ch (c := c.val) (r := r) (s := s)).trans dmaWriteBack_ch
    exact ⟨congrArg DmaCh.run hch, congrArg DmaCh.used hch, complete_last, complete_head, complete_state c.isLt, complete_done⟩
  case shadow =>
    refine ⟨fun h => next_eq (doHandover_of_unarmed c.val s late h), fun ha hi => ⟨_, next_eq (doHandover_of_armed c.val s late ha hi), ?_⟩⟩
    have hch : (settled c.val late (handed c.val s)).ch c.val = (handed c.val s).ch c.val := ch_of_host (settled_host _ _ _) _
    refine ⟨(congrArg DmaCh.act hch).trans (handed_act c.val s), settled_arm _ _ late ((congrArg (· == 1) (handed_ctrl _ _ _)).trans ha),
      fun hl => ?_, fun hl => ?_, fun hne => ?_, fun hr hc => ?_⟩
    · subst hl
      exact settled_pending c.val (handed c.val s)
    · subst hl
      exact bit_setBit_same (handed c.val s) _ _ rfl (by decide)
    · obtain ⟨hhead, htail, hused, hphase⟩ := handed_of_changed c.val s hne
      exact ⟨(settled_status _ _ late (by decide)).trans hhead, (settled_tail _ _ late _).trans htail,
        (congrArg DmaCh.used hch).trans hused, (congrArg DmaCh.phase hch).trans hphase⟩
    · have hs := handed_of_same c.val s hr hc
      refine ⟨(congrArg DmaCh.used hch).trans ?_, (settled_status _ _ late (by decide)).trans (by rw [hs, fld_updCh])⟩
      rw [hs, ch_updCh_same]
end

section
/-! PROOFS. The management processor's start: boot, identity, confirmation, recovery, session key (R391 to R401, R405, R406). -/

namespace Sys2Proof.Machine

/-! ## Registers and fields that an act keeps -/

theorem bit_of_rd {s t : State} {r : RegRef} (h : s.rd r = t.rd r) (f : Fld) : s.bit r f = t.bit r f := congrArg (· == 1) (fld_of_rd h f)

theorem bit_setF_same (s : State) (r : RegRef) (f : Fld) (b : Bool) (hl : f.lo = f.hi) (hh : f.hi < 32) : (s.setF r f b.toNat).bit r f = b := by
  rw [State.bit, fld_setF_same _ _ _ _ hl.le hh, hl, Nat.add_sub_cancel_left]
  cases b with
  | false => rfl
  | true => rfl

theorem bit_setF_ne (s : State) (r : RegRef) (f g : Fld) (n : Nat) (hl : g.lo ≤ g.hi) (h : f.hi < g.lo ∨ g.hi < f.lo) :
    (s.setF r g n).bit r f = s.bit r f := congrArg (· == 1) (fld_setF_ne s r f g n hl h)

theorem bit_setF_reg (s : State) {q r : RegRef} (hr : r.addr ≠ q.addr) (f g : Fld) (n : Nat) : (s.setF q g n).bit r f = s.bit r f :=
  congrArg (· == 1) (fld_setF_reg s hr f g n)

section
variable {α : Type} (ref : α → RegRef) (val : α → Word)

theorem foldl_wr_rd {q : RegRef} (l : List α) (s : State) (h : ∀ x ∈ l, q.addr ≠ (ref x).addr) :
    (l.foldl (fun t x => t.wr (ref x) (val x)) s).rd q = s.rd q := by
  induction l generalizing s with
  | nil => rfl
  | cons x l ih => exact (ih _ fun y hy => h y (List.mem_cons_of_mem x hy)).trans (rd_wr_ne s (h x List.mem_cons_self) _)

theorem foldl_wr_eq (l : List α) (s : State) : ∃ g, l.foldl (fun t x => t.wr (ref x) (val x)) s = { s with regs := g } := by
  induction l generalizing s with
  | nil => exact ⟨_, rfl⟩
  | cons x l ih => exact ih _

end

/-- A record changes the integrity unit, what it draws, and the message of a cause. -/
theorem fileRec_eq (s : State) (r : LogRec) :
    ∃ g i f h o, fileRec s r = { s with regs := g, integ := i, free := f, hostMem := h, out := o } := by
  have hc : ∃ g, countFinding s r = { s with regs := g } := by
    unfold countFinding
    split
    · exact ⟨_, rfl⟩
    split
    · exact ⟨_, rfl⟩
    split
    · exact ⟨_, rfl⟩
    · exact ⟨_, rfl⟩
  have hp : ∀ (t : State) (r : LogRec), ∃ g i f h o, pushRec t r = { t with regs := g, integ := i, free := f, hostMem := h, out := o } := by
    intro t r
    unfold pushRec
    dsimp only
    split
    · exact ⟨_, _, _, _, _, rfl⟩
    · obtain ⟨h, o, e⟩ := setEvent_eq (State.integCount { t with integ := { t.integ with seq := t.integ.seq + 1 }, free := t.free + 2 } 1)
        51 R.INTEG_EVENT F.INTEG_EVENT_LOG_OVERRUN
      exact ⟨_, _, _, _, _, e⟩
  obtain ⟨g, e⟩ := hc
  rw [fileRec, e]
  unfold queueRec
  dsimp only
  split
  · split
    · exact hp _ _
    · exact ⟨_, _, _, _, _, rfl⟩
  · exact hp _ _

theorem fileRec_mgmt (s : State) (r : LogRec) : (fileRec s r).mgmt = s.mgmt := by
  obtain ⟨g, i, f, h, o, e⟩ := fileRec_eq s r
  rw [e]

theorem fileRec_pwr (s : State) (r : LogRec) : (fileRec s r).pwr = s.pwr := by
  obtain ⟨g, i, f, h, o, e⟩ := fileRec_eq s r
  rw [e]

theorem pushRec_rd (s : State) (r : LogRec) {q : RegRef} (h : q.addr < 0x1508010) : (pushRec s r).rd q = s.rd q := by
  unfold pushRec
  dsimp only
  split
  · rfl
  · have he : q.addr ≠ R.INTEG_EVENT.addr := Nat.ne_of_lt h
    have hc : q.addr ≠ (R.INTEG_COUNT 1).addr := Nat.ne_of_lt (h.trans (by decide))
    rw [setEvent, withCause_rd, State.setBit, rd_setF_reg _ he]
    exact rd_wr_ne _ hc _

theorem countFinding_rd (s : State) (r : LogRec) {q : RegRef} (h : q.addr < 0x1508010) : (countFinding s r).rd q = s.rd q := by
  have hc : ∀ n, (s.integCount n).rd q = s.rd q := fun n =>
    rd_wr_ne s (Nat.ne_of_lt (h.trans_le (Nat.le_add_right_of_le (by decide)))) _
  unfold countFinding
  split
  · exact hc 4
  split
  · exact hc 5
  split
  · exact hc 6
  · rfl

/-- Registers below those of the integrity unit keep their values when a record is filed. -/
theorem fileRec_rd (s : State) (r : LogRec) {q : RegRef} (h : q.addr < 0x1508010) : (fileRec s r).rd q = s.rd q := by
  rw [fileRec]
  refine Eq.trans ?_ (countFinding_rd s r h)
  unfold queueRec
  dsimp only
  split
  · split
    · exact pushRec_rd _ _ h
    · rfl
  · exact pushRec_rd _ _ h

theorem setMeasure_eq (s : State) (r : Nat) (b : Bytes) : ∃ g, setMeasure s r b = { s with regs := g } :=
  foldl_wr_eq (fun x : Nat × Nat => R.MGMT_MEASURE r x.2) _ _ s

theorem setMeasure_rd (s : State) (r : Nat) (b : Bytes) {q : RegRef} (h : q.addr < 0x1500200) : (setMeasure s r b).rd q = s.rd q :=
  foldl_wr_rd (fun x : Nat × Nat => R.MGMT_MEASURE r x.2) _ _ s fun _ _ =>
    Nat.ne_of_lt (h.trans_le (Nat.le_add_right_of_le (Nat.le_add_right _ _)))

theorem setMeasure_mgmt (s : State) (r : Nat) (b : Bytes) : (setMeasure s r b).mgmt = s.mgmt := by
  obtain ⟨g, e⟩ := setMeasure_eq s r b
  rw [e]

theorem mgmtEvent_rd (s : State) (f : Fld) {q : RegRef} (h : q.addr ≠ R.MGMT_EVENT.addr) : (mgmtEvent s f).rd q = s.rd q := by
  rw [mgmtEvent, setEvent, withCause_rd, State.setBit, rd_setF_reg s h]

theorem mgmtEvent_mgmt (s : State) (f : Fld) : (mgmtEvent s f).mgmt = s.mgmt := by
  rw [mgmtEvent, setEvent, withCause_mgmt, setBit_mgmt]

theorem mgmtEvent_bit (s : State) {f : Fld} (hl : f.lo = f.hi) (hh : f.hi < 32) : (mgmtEvent s f).bit R.MGMT_EVENT f = true := by
  rw [mgmtEvent, setEvent, bit_of_rd (withCause_rd _ _ _ _)]
  exact bit_setBit_same s _ _ hl hh

theorem fld_updMgmt (s : State) (f : Mgmt → Mgmt) (r : RegRef) (g : Fld) : (s.updMgmt f).fld r g = s.fld r g := rfl

theorem rd_updMgmt (s : State) (f : Mgmt → Mgmt) (r : RegRef) : (s.updMgmt f).rd r = s.rd r := rfl

/-! ## The ROM's start (R391, R392, R395) -/

section
variable {s : State}

theorem slotToBoot_eq {rerun : Option Bool} {dropped : Bool} {c : Selector} {b : Bool} (ha : rerun = none ∨ dropped = true → b = c.active)
    (hr : ∀ x, rerun = some x → ¬ dropped = true → b = x) : slotToBoot rerun dropped c = b := by
  cases rerun with
  | none => exact (ha (.inl rfl)).symm
  | some x =>
    cases dropped with
    | true => exact (ha (.inr rfl)).symm
    | false => exact (hr x rfl Bool.false_ne_true).symm

theorem dropped_iff {c : Selector} : (!c.confirmed && c.tried) = true ↔ c.confirmed = false ∧ c.tried = true := by
  rw [Bool.and_eq_true, Bool.not_eq_true']

/-- The ROM starts a slot, else the other. -/
def bootFrom (b : Bool) (s : State) : State :=
  let trial := b == s.mgmt.flash.sel.active && !s.mgmt.flash.sel.confirmed
  if s.mgmt.flash.imageOk (s.mgmt.flash.slot b) = true then bootSlot b trial (if trial then s.updFlash Flash.markTried else s)
  else if s.mgmt.flash.imageOk (s.mgmt.flash.slot (!b)) = true then bootSlot (!b) false (noteFallback s)
  else bootFailed s

/-- The state in which the ROM looks for its slot. -/
def romReady (s : State) : State :=
  dropTrial (((s.setF R.DIE_STATUS F.DIE_STATUS_DIE_UP (setMaskBit (s.fld R.DIE_STATUS F.DIE_STATUS_DIE_UP) 10 true)).updPwr
    fun p => { p with released := false }).updMgmt fun m => { m with fellBack := false, rerun := none })

theorem doBootRom_of_busy (h : s.pwr.released = false ∨ s.bootStage ≠ 0) : doBootRom s = s := by
  refine if_pos ?_
  rw [Bool.or_eq_true, Bool.not_eq_true', bne_iff_ne]
  exact h

theorem doBootRom_of_released (h : s.pwr.released = true) (hs : s.bootStage = 0) : doBootRom s =
    bootFrom (slotToBoot s.mgmt.rerun (!s.mgmt.flash.sel.confirmed && s.mgmt.flash.sel.tried) (romReady s).mgmt.flash.sel) (romReady s) := by
  refine if_neg ?_
  rw [h, hs]
  exact Bool.false_ne_true

/-- The slot that the ROM looks at first. -/
theorem doBootRom_of_slot {b : Bool} (h : s.pwr.released = true) (hs : s.bootStage = 0)
    (ha : s.mgmt.rerun = none ∨ (s.mgmt.flash.sel.confirmed = false ∧ s.mgmt.flash.sel.tried = true) → b = (romReady s).mgmt.flash.sel.active)
    (hr : ∀ x, s.mgmt.rerun = some x → ¬ (s.mgmt.flash.sel.confirmed = false ∧ s.mgmt.flash.sel.tried = true) → b = x) :
    doBootRom s = bootFrom b (romReady s) := by
  rw [doBootRom_of_released h hs, slotToBoot_eq (b := b) (fun h => ha (h.imp_right dropped_iff.mp)) fun x hx hd => hr x hx (mt dropped_iff.mpr hd)]

theorem dropTrial_of_kept (h : s.mgmt.flash.sel.confirmed = true ∨ s.mgmt.flash.sel.tried = false) : dropTrial s = s := by
  refine if_neg fun hd => ?_
  obtain ⟨hc, ht⟩ := dropped_iff.mp hd
  rcases h with h | h
  · rw [hc] at h
    exact Bool.false_ne_true h
  · rw [ht] at h
    exact Bool.false_ne_true h.symm

theorem noteFallback_mgmt (s : State) : (noteFallback s).mgmt = { s.mgmt with fellBack := true } :=
  congrArg (fun m : Mgmt => { m with fellBack := true }) (mgmtEvent_mgmt s _)

theorem dropTrial_mgmt (hc : s.mgmt.flash.sel.confirmed = false) (ht : s.mgmt.flash.sel.tried = true) : (dropTrial s).mgmt =
    { s.mgmt with fellBack := true, flash := s.mgmt.flash.putSel s.mgmt.flash.sel.prev s.mgmt.flash.sel.active true } := by
  refine (congrArg State.mgmt (if_pos (dropped_iff.mpr ⟨hc, ht⟩))).trans ?_
  rw [fileRec_mgmt, noteFallback_mgmt]
  rfl

theorem startImage_stage (b : Bytes) : (startImage b s).bootStage = 1 := by
  rw [startImage, State.bootStage, setBootStage, fld_setF_same _ _ _ _ (by decide) (by decide)]
  rfl

/-- Starting an image changes the boot stage alone of the status. -/
theorem startImage_status (b : Bytes) {f : Fld} (hf : f.hi < 28) : (startImage b s).fld R.MGMT_STATUS f = s.fld R.MGMT_STATUS f := by
  rw [startImage, setBootStage, fld_setF_ne _ _ _ _ _ (by decide) (.inl hf), fld_updMgmt, fld_wr_reg _ (by decide)]
  exact fld_of_rd (setMeasure_rd _ _ _ (by decide)) _

theorem startImage_version (b : Bytes) : (startImage b s).rd R.MGMT_FW_VERSION = BitVec.ofNat 32 (objWord b 8) := by
  rw [startImage, setBootStage, rd_setF_reg _ (by decide), rd_updMgmt, rd_wr_same]

theorem bootSlot_rd (b trial : Bool) {q : RegRef} (h : q.addr < 0x1500200) : (bootSlot b trial s).rd q =
    (startImage (s.mgmt.flash.slot b)
      ((s.setF R.MGMT_STATUS F.MGMT_STATUS_SLOT b.toNat).setF R.MGMT_STATUS F.MGMT_STATUS_TRIAL trial.toNat)).rd q := by
  rw [bootSlot, measureSelector, setMeasure_rd _ _ _ h]

theorem bootSlot_stage (b trial : Bool) : (bootSlot b trial s).bootStage = 1 :=
  (fld_of_rd (bootSlot_rd b trial (by decide)) _).trans (startImage_stage _)

theorem bootSlot_slot (b trial : Bool) : (bootSlot b trial s).slotB = b := by
  rw [State.slotB, bit_of_rd (bootSlot_rd b trial (by decide)), State.bit, startImage_status _ (by decide), ← State.bit,
    bit_setF_ne _ _ _ _ _ (by decide) (by decide), bit_setF_same _ _ _ _ rfl (by decide)]

theorem bootSlot_trial (b trial : Bool) : (bootSlot b trial s).bit R.MGMT_STATUS F.MGMT_STATUS_TRIAL = trial := by
  rw [bit_of_rd (bootSlot_rd b trial (by decide)), State.bit, startImage_status _ (by decide), ← State.bit,
    bit_setF_same _ _ _ _ rfl (by decide)]

theorem bootSlot_version (b trial : Bool) :
    (bootSlot b trial s).rd R.MGMT_FW_VERSION = BitVec.ofNat 32 (objWord (s.mgmt.flash.slot b) 8) :=
  (bootSlot_rd b trial (by decide)).trans (startImage_version _)

theorem raiseIbi_regs (s : State) (b : Nat) : (raiseIbi s b).regs = s.regs := by
  unfold raiseIbi
  split
  · rfl
  · rfl

theorem raiseIbi_pwr (s : State) (b : Nat) : (raiseIbi s b).pwr = s.pwr := by
  unfold raiseIbi
  split
  · rfl
  · rfl

theorem bootFailed_stage : (bootFailed s).bootStage = 3 :=
  (fld_of_rd (rd_of_regs (raiseIbi_regs _ _) _) _).trans (fld_setF_same _ _ _ _ (by decide) (by decide))

theorem bootFailed_level (h : 3 ≤ s.pwr.level) : (bootFailed s).pwr.level = 0 := by
  rw [bootFailed, raiseIbi_pwr]
  exact if_pos h

end

/-! ## Stage 1 (R394, R397, R412) -/

section
variable {s : State}

theorem configRegs_addr : ∀ x ∈ configRegs.zipIdx, 0x1500020 ≤ x.1.addr ∧ x.1.addr < 0x1500064 := by decide

theorem loadConfig_eq (s : State) : ∃ g, loadConfig s = { s with regs := g } := by
  unfold loadConfig
  dsimp only
  split
  · exact ⟨_, rfl⟩
  · obtain ⟨g, e⟩ := foldl_wr_eq (fun x : RegRef × Nat => x.1) (fun x => BitVec.ofNat 32 (s.cfgWord x.2 &&& configMask x.2))
      configRegs.zipIdx s
    rw [e]
    split
    · exact ⟨_, rfl⟩
    · exact ⟨_, rfl⟩

/-- A configuration record sets the network registers and the stagger step. -/
theorem loadConfig_rd (s : State) {q : RegRef} (h : q.addr < 0x1500020) (hp : q.addr ≠ R.PWR_STAGGER.addr) :
    (loadConfig s).rd q = s.rd q := by
  have hf := foldl_wr_rd (fun x : RegRef × Nat => x.1) (fun x => BitVec.ofNat 32 (s.cfgWord x.2 &&& configMask x.2)) configRegs.zipIdx s
    fun x hx => Nat.ne_of_lt (h.trans_le (configRegs_addr x hx).1)
  unfold loadConfig
  dsimp only
  split
  · rfl
  split
  · exact (rd_setF_reg _ hp _ _).trans hf
  · exact hf

theorem loadConfig_mgmt (s : State) : (loadConfig s).mgmt = s.mgmt := by
  obtain ⟨g, e⟩ := loadConfig_eq s
  rw [e]

/-- The records in force with their measurements. -/
def measured (s : State) : State :=
  let m := fun (b : Bytes) => if b.isEmpty then zeros 32 else sha256 b
  setMeasure (setMeasure (setMeasure (s.updMgmt fun m => { m with ownRec := s.mgmt.flash.accepted, cfgRec := s.mgmt.flash.config? }) 1
    (m s.mgmt.flash.accepted)) 2 (m s.mgmt.flash.config?)) 3 (if s.mgmt.flash.manuf.good then sha256 s.mgmt.flash.manuf.raw else zeros 32)

/-- OWNED as the ownership record says. -/
def owned (s : State) : State := (measured s).setF R.MGMT_STATUS F.MGMT_STATUS_OWNED (!s.mgmt.flash.accepted.isEmpty).toNat

theorem takeRecords_eq (s : State) : takeRecords s = if s.mgmt.flash.manuf.good then
    ((owned s).setF R.DEVICE_ID F.DEVICE_ID_SAMPLE s.mgmt.flash.manuf.sample.toNat).setF R.DEVICE_ID F.DEVICE_ID_ID_VALID 1
  else owned s := rfl

theorem measured_rd (s : State) {q : RegRef} (h : q.addr < 0x1500200) : (measured s).rd q = s.rd q := by
  rw [measured, setMeasure_rd _ _ _ h, setMeasure_rd _ _ _ h, setMeasure_rd _ _ _ h, rd_updMgmt]

theorem measured_mgmt (s : State) :
    (measured s).mgmt = { s.mgmt with ownRec := s.mgmt.flash.accepted, cfgRec := s.mgmt.flash.config? } := by
  rw [measured, setMeasure_mgmt, setMeasure_mgmt, setMeasure_mgmt]
  rfl

theorem takeRecords_mgmt (s : State) :
    (takeRecords s).mgmt = { s.mgmt with ownRec := s.mgmt.flash.accepted, cfgRec := s.mgmt.flash.config? } := by
  rw [takeRecords_eq]
  refine Eq.trans ?_ (measured_mgmt s)
  split
  · rw [setF_mgmt, setF_mgmt, owned, setF_mgmt]
  · rw [owned, setF_mgmt]

/-- Of the registers below the measurements the records set DEVICE_ID and OWNED. -/
theorem takeRecords_rd (s : State) {q : RegRef} (h0 : q.addr ≠ R.DEVICE_ID.addr) :
    (takeRecords s).rd q = (owned s).rd q := by
  rw [takeRecords_eq]
  split
  · rw [rd_setF_reg _ h0, rd_setF_reg _ h0]
  · rfl

theorem takeRecords_rd_other (s : State) {q : RegRef} (h : q.addr < 0x1500200) (h0 : q.addr ≠ R.DEVICE_ID.addr)
    (hs : q.addr ≠ R.MGMT_STATUS.addr) : (takeRecords s).rd q = s.rd q := by
  rw [takeRecords_rd s h0, owned, rd_setF_reg _ hs, measured_rd s h]

theorem takeRecords_owned (s : State) : (takeRecords s).bit R.MGMT_STATUS F.MGMT_STATUS_OWNED = !s.mgmt.flash.accepted.isEmpty := by
  rw [bit_of_rd (takeRecords_rd s (by decide)), owned, bit_setF_same _ _ _ _ rfl (by decide)]

theorem takeRecords_locked (s : State) :
    (takeRecords s).bit R.MGMT_STATUS F.MGMT_STATUS_BOOT_LOCKED = s.bit R.MGMT_STATUS F.MGMT_STATUS_BOOT_LOCKED := by
  rw [bit_of_rd (takeRecords_rd s (by decide)), owned, bit_setF_ne _ _ _ _ _ (by decide) (by decide),
    bit_of_rd (measured_rd s (by decide))]

/-- An owned device is locked. -/
def lockOwned (s : State) : State := if s.mgmt.ownRec.isEmpty then s else lockBoot s

theorem lockOwned_mgmt (s : State) : (lockOwned s).mgmt = s.mgmt := by
  unfold lockOwned
  split
  · rfl
  · rfl

theorem lockBoot_rd (s : State) {q : RegRef} (h : q.addr < 0x1500000) : (lockBoot s).rd q = s.rd q := by
  have hs : q.addr ≠ R.MGMT_STATUS.addr := Nat.ne_of_lt h
  have hb : q.addr ≠ R.MGMT_BOOT_CTRL.addr := Nat.ne_of_lt (h.trans (by decide))
  rw [lockBoot, rd_setF_reg _ hs, rd_setF_reg _ hb]

theorem lockBoot_locked (s : State) : (lockBoot s).bit R.MGMT_STATUS F.MGMT_STATUS_BOOT_LOCKED = true :=
  bit_setF_same _ _ _ true rfl (by decide)

theorem lockBoot_lock (s : State) : (lockBoot s).bit R.MGMT_BOOT_CTRL F.MGMT_BOOT_CTRL_BOOT_LOCK = true := by
  rw [lockBoot, bit_setF_reg _ (by decide)]
  exact bit_setF_same _ _ _ true rfl (by decide)

theorem lockBoot_owned (s : State) : (lockBoot s).bit R.MGMT_STATUS F.MGMT_STATUS_OWNED = s.bit R.MGMT_STATUS F.MGMT_STATUS_OWNED := by
  rw [lockBoot, bit_setF_ne _ _ _ _ _ (by decide) (by decide), bit_setF_reg _ (by decide)]

theorem lockOwned_rd (s : State) {q : RegRef} (h : q.addr < 0x1500000) : (lockOwned s).rd q = s.rd q := by
  unfold lockOwned
  split
  · rfl
  · exact lockBoot_rd s h

theorem lockOwned_owned (s : State) : (lockOwned s).bit R.MGMT_STATUS F.MGMT_STATUS_OWNED = s.bit R.MGMT_STATUS F.MGMT_STATUS_OWNED := by
  unfold lockOwned
  split
  · rfl
  · exact lockBoot_owned s

theorem lockOwned_locked (s : State) : (lockOwned s).bit R.MGMT_STATUS F.MGMT_STATUS_BOOT_LOCKED =
    (s.bit R.MGMT_STATUS F.MGMT_STATUS_BOOT_LOCKED || !s.mgmt.ownRec.isEmpty) := by
  unfold lockOwned
  cases s.mgmt.ownRec.isEmpty with
  | false => exact (lockBoot_locked s).trans (Bool.or_true _).symm
  | true => exact (Bool.or_false _).symm

/-- Telling the causes of the start files records. -/
theorem tellCauses_mgmt (s : State) : (tellCauses s).mgmt = s.mgmt := by
  have ht : (if s.pwr.tellTrip then fileRec s (LogRec.of 9 0x0E 0 0 0) else s).mgmt = s.mgmt := by
    split
    · exact fileRec_mgmt _ _
    · rfl
  unfold tellCauses
  dsimp only
  refine Eq.trans ?_ ht
  split
  · exact fileRec_mgmt _ _
  · rfl

theorem tellCauses_rd (s : State) {q : RegRef} (h : q.addr < 0x1508010) : (tellCauses s).rd q = s.rd q := by
  have ht : (if s.pwr.tellTrip then fileRec s (LogRec.of 9 0x0E 0 0 0) else s).rd q = s.rd q := by
    split
    · exact fileRec_rd _ _ h
    · rfl
  unfold tellCauses
  dsimp only
  refine Eq.trans ?_ ht
  split
  · exact fileRec_rd _ _ h
  · rfl

/-- Stage 1 up to the staggered start. -/
def stage1State (s : State) : State := tellCauses (setBootStage (lockOwned (loadConfig (takeRecords s))) 2)

/-- The staggered start of the dies that are down. -/
def staggered (s : State) : State := if s.pState < 2 ∧ s.pTarget = 15 then s.updPwr fun p => { p with stagger := s.downList } else s

theorem doStage1_of_other (h : s.bootStage ≠ 1) : doStage1 s = s := if_pos h

theorem doStage1_of_stage (h : s.bootStage = 1) : doStage1 s = staggered (stage1State s) := if_neg (not_not.mpr h)

theorem staggered_rd (s : State) (q : RegRef) : (staggered s).rd q = s.rd q := by
  unfold staggered
  split
  · rfl
  · rfl

theorem staggered_mgmt (s : State) : (staggered s).mgmt = s.mgmt := by
  unfold staggered
  split
  · rfl
  · rfl

theorem stage1_mgmt (s : State) : (staggered (stage1State s)).mgmt =
    { s.mgmt with ownRec := s.mgmt.flash.accepted, cfgRec := s.mgmt.flash.config? } := by
  rw [staggered_mgmt, stage1State, tellCauses_mgmt, setBootStage, setF_mgmt, lockOwned_mgmt, loadConfig_mgmt, takeRecords_mgmt]

theorem stage1_stage (s : State) : (staggered (stage1State s)).bootStage = 2 := by
  rw [State.bootStage, fld_of_rd (staggered_rd _ _), stage1State, fld_of_rd (tellCauses_rd _ (by decide)), setBootStage,
    fld_setF_same _ _ _ _ (by decide) (by decide)]
  rfl

theorem stage1_owned (s : State) : (staggered (stage1State s)).bit R.MGMT_STATUS F.MGMT_STATUS_OWNED = !s.mgmt.flash.accepted.isEmpty := by
  rw [bit_of_rd (staggered_rd _ _), stage1State, bit_of_rd (tellCauses_rd _ (by decide)), setBootStage,
    bit_setF_ne _ _ _ _ _ (by decide) (by decide), lockOwned_owned, bit_of_rd (loadConfig_rd _ (by decide) (by decide)), takeRecords_owned]

theorem stage1_locked (s : State) : (staggered (stage1State s)).bit R.MGMT_STATUS F.MGMT_STATUS_BOOT_LOCKED =
    (s.bit R.MGMT_STATUS F.MGMT_STATUS_BOOT_LOCKED || !s.mgmt.flash.accepted.isEmpty) := by
  rw [bit_of_rd (staggered_rd _ _), stage1State, bit_of_rd (tellCauses_rd _ (by decide)), setBootStage,
    bit_setF_ne _ _ _ _ _ (by decide) (by decide), lockOwned_locked, loadConfig_mgmt, takeRecords_mgmt,
    bit_of_rd (loadConfig_rd _ (by decide) (by decide)), takeRecords_locked]

/-- Power and die registers stay, but for the stagger step. -/
theorem stage1State_rd (s : State) {q : RegRef} (h : q.addr < 0x1500000) (h0 : q.addr ≠ R.DEVICE_ID.addr)
    (hp : q.addr ≠ R.PWR_STAGGER.addr) : (stage1State s).rd q = s.rd q := by
  have hs : q.addr ≠ R.MGMT_STATUS.addr := Nat.ne_of_lt h
  rw [stage1State, tellCauses_rd _ (h.trans (by decide)), setBootStage, rd_setF_reg _ hs, lockOwned_rd _ h,
    loadConfig_rd _ (h.trans (by decide)) hp, takeRecords_rd_other s (h.trans (by decide)) h0 hs]

theorem stage1_stagger (hp : s.pState < 2) (ht : s.pTarget = 15) : (staggered (stage1State s)).pwr.stagger = s.downList := by
  have hpw : (stage1State s).rd R.PWR_STATUS = s.rd R.PWR_STATUS := stage1State_rd s (by decide) (by decide) (by decide)
  have hdie : (stage1State s).rd R.DIE_STATUS = s.rd R.DIE_STATUS := stage1State_rd s (by decide) (by decide) (by decide)
  have hopt : (stage1State s).rd R.OPTICAL_STATUS = s.rd R.OPTICAL_STATUS := stage1State_rd s (by decide) (by decide) (by decide)
  have hc : (stage1State s).pState < 2 ∧ (stage1State s).pTarget = 15 := by
    rw [State.pState, State.pTarget, fld_of_rd hpw, fld_of_rd hpw]
    exact ⟨hp, ht⟩
  rw [staggered, if_pos hc, State.downList, State.downList, fld_of_rd hdie, fld_of_rd hopt]
  rfl

end

/-! ## Identity and confirmation (R395, R398) -/

section
variable {s : State} {seed : Bytes} {ok : Bool}

/-- What makes a regenerated identity valid: the manufacturing record holds the hash of its key. -/
def identityValid (s : State) (seed : Bytes) : Bool :=
  s.mgmt.flash.manuf.good && sha256 (Config.identityKey seed) == s.mgmt.flash.manuf.pubHash

/-- The identity is taken. -/
def identityTaken (s : State) (seed : Bytes) : State :=
  (s.setF R.MGMT_STATUS F.MGMT_STATUS_IDENTITY_OK 1).updMgmt fun m =>
    { m with pub := Config.identityKey seed, seed := seed, idFailed := false, aonTag := (sha256 (Config.identityKey seed)).take 4 }

/-- The identity has failed, which a record says. -/
def identityFailed (s : State) : State :=
  fileRec (s.updMgmt fun m => { m with idFailed := true }) { LogRec.of 2 7 0xD 10 0 with synClass := 4 }

theorem doIdentity_of_other (h : s.bootStage ≠ 2 ∨ s.bit R.MGMT_STATUS F.MGMT_STATUS_IDENTITY_OK = true) : doIdentity seed ok s = s :=
  if_pos h

theorem doIdentity_of_stage (h : s.bootStage = 2) (hi : s.bit R.MGMT_STATUS F.MGMT_STATUS_IDENTITY_OK = false) :
    doIdentity seed ok s = if (ok && identityValid s seed) = true then identityTaken s seed else identityFailed s := by
  rw [doIdentity, if_neg (not_or.mpr ⟨not_not.mpr h, Bool.eq_false_iff.mp hi⟩), identityValid, ← Bool.and_assoc]
  rfl

theorem identityTaken_ok : (identityTaken s seed).bit R.MGMT_STATUS F.MGMT_STATUS_IDENTITY_OK = true := bit_setF_same _ _ _ true rfl (by decide)

theorem identityFailed_ok : (identityFailed s).bit R.MGMT_STATUS F.MGMT_STATUS_IDENTITY_OK = s.bit R.MGMT_STATUS F.MGMT_STATUS_IDENTITY_OK := by
  rw [identityFailed, bit_of_rd (fileRec_rd _ _ (by decide))]
  rfl

theorem identityFailed_mgmt : (identityFailed s).mgmt = { s.mgmt with idFailed := true } := by
  rw [identityFailed, fileRec_mgmt]
  rfl

/-- The status and the processor after the regeneration, by whether it gave a valid identity. -/
theorem identified (hi : s.bit R.MGMT_STATUS F.MGMT_STATUS_IDENTITY_OK = false) (x : Bool) :
    (if x = true then identityTaken s seed else identityFailed s).bit R.MGMT_STATUS F.MGMT_STATUS_IDENTITY_OK = x ∧
    (if x = true then identityTaken s seed else identityFailed s).mgmt.idFailed = !x ∧
    (if x = true then identityTaken s seed else identityFailed s).mgmt.pub = (if x = true then Config.identityKey seed else s.mgmt.pub) ∧
    (if x = true then identityTaken s seed else identityFailed s).mgmt.flash = s.mgmt.flash := by
  cases x with
  | false =>
    have hm := identityFailed_mgmt (s := s)
    exact ⟨identityFailed_ok.trans hi, congrArg Mgmt.idFailed hm, (congrArg Mgmt.pub hm).trans rfl, (congrArg Mgmt.flash hm).trans rfl⟩
  | true => exact ⟨identityTaken_ok, rfl, rfl, rfl⟩

theorem doConfirm_of_other (h : s.bootStage ≠ 2 ∨ s.bit R.MGMT_STATUS F.MGMT_STATUS_TRIAL = false) : doConfirm s = s :=
  if_neg fun ⟨hs, ht⟩ => h.elim (fun h => h hs) fun h => Bool.false_ne_true (h.symm.trans ht)

/-- The slot that runs becomes confirmed. -/
def confirmed (s : State) : State :=
  (s.updFlash fun f => f.putSel s.mgmt.flash.sel.active s.mgmt.flash.sel.prev true).setF R.MGMT_STATUS F.MGMT_STATUS_TRIAL 0

theorem doConfirm_of_trial (h : s.bootStage = 2) (ht : s.bit R.MGMT_STATUS F.MGMT_STATUS_TRIAL = true) :
    doConfirm s = mgmtEvent (confirmed s) F.MGMT_EVENT_FW_CONFIRMED := if_pos ⟨h, ht⟩

theorem confirmed_trial : (mgmtEvent (confirmed s) F.MGMT_EVENT_FW_CONFIRMED).bit R.MGMT_STATUS F.MGMT_STATUS_TRIAL = false := by
  rw [bit_of_rd (mgmtEvent_rd _ _ (by decide)), confirmed]
  exact bit_setF_same _ _ _ false rfl (by decide)

theorem confirmed_flash : (mgmtEvent (confirmed s) F.MGMT_EVENT_FW_CONFIRMED).mgmt.flash =
    s.mgmt.flash.putSel s.mgmt.flash.sel.active s.mgmt.flash.sel.prev true := by
  rw [mgmtEvent_mgmt, confirmed, setF_mgmt]
  rfl

end

/-! ## Restarts (R391, R401) -/

section
variable {s : State}

/-- An update that still runs, or whose completion still waits. -/
def updateWaits (s : State) : Prop := (∃ o ∈ s.host.ops, o.cmd.op = 0x16) ∨ (∃ c ∈ s.host.waiting, c.op = 0x16)

theorem updateWaits_iff : ((s.host.ops.any fun o => o.cmd.op == 0x16) || s.host.waiting.any fun c => c.op == 0x16) = true ↔ updateWaits s := by
  rw [Bool.or_eq_true, List.any_eq_true, List.any_eq_true]
  simp only [beq_iff_eq, updateWaits]

theorem activate_iff : (s.mgmt.activate && decide (s.mgmt.activateAt ≤ s.pwr.aon) &&
    !((s.host.ops.any fun o => o.cmd.op == 0x16) || s.host.waiting.any fun c => c.op == 0x16)) = true ↔
      s.mgmt.activate = true ∧ s.mgmt.activateAt ≤ s.pwr.aon ∧ ¬ updateWaits s := by
  rw [Bool.and_eq_true, Bool.and_eq_true, decide_eq_true_eq, Bool.not_eq_true', ← Bool.not_eq_true, updateWaits_iff, and_assoc]

theorem doActivate_of_wait (h : s.mgmt.activate = false ∨ s.pwr.aon < s.mgmt.activateAt ∨ updateWaits s) : doActivate s = s := by
  refine if_neg fun ha => ?_
  obtain ⟨hact, hat, hw⟩ := activate_iff.mp ha
  rcases h with h | h | h
  · exact Bool.false_ne_true (h.symm.trans hact)
  · exact Nat.not_le.mpr h hat
  · exact hw h

theorem doActivate_of_due (h : s.mgmt.activate = true) (ht : s.mgmt.activateAt ≤ s.pwr.aon) (hw : ¬ updateWaits s) :
    doActivate s = restartMgmt s := if_pos (activate_iff.mpr ⟨h, ht, hw⟩)

/-- What a stop leaves of the processor's status. -/
def stopStatus (s : State) : State :=
  ((s.setF R.MGMT_STATUS F.MGMT_STATUS_BOOT_STAGE 0).setF R.MGMT_STATUS F.MGMT_STATUS_BOOT_LOCKED 0).setF R.MGMT_STATUS
    F.MGMT_STATUS_IDENTITY_OK 0

theorem stopMgmt_status (f : Fld) : (stopMgmt s).fld R.MGMT_STATUS f = (stopStatus s).fld R.MGMT_STATUS f :=
  fld_setF_reg (stopStatus s) (q := R.MGMT_BOOT_CTRL) (by decide) f _ 0

theorem stopMgmt_stage : (stopMgmt s).bootStage = 0 := by
  rw [State.bootStage, stopMgmt_status, stopStatus, fld_setF_ne _ _ _ _ _ (by decide) (by decide),
    fld_setF_ne _ _ _ _ _ (by decide) (by decide), fld_setF_same _ _ _ _ (by decide) (by decide), Nat.zero_mod]

theorem stopMgmt_locked : (stopMgmt s).bit R.MGMT_STATUS F.MGMT_STATUS_BOOT_LOCKED = false := by
  rw [State.bit, stopMgmt_status, stopStatus, fld_setF_ne _ _ _ _ _ (by decide) (by decide),
    fld_setF_same _ _ _ _ (by decide) (by decide)]
  rfl

theorem stopMgmt_identity : (stopMgmt s).bit R.MGMT_STATUS F.MGMT_STATUS_IDENTITY_OK = false := by
  rw [State.bit, stopMgmt_status, stopStatus, fld_setF_same _ _ _ _ (by decide) (by decide)]
  rfl

end

/-! ## Recovery and the session key (R400, R405) -/

section
variable {v : Word} {s : State}

/-- The control word of the recovery as a write leaves it. -/
def recoverySet (v : Word) (s : State) : State :=
  if F.MGMT_RECOVERY_CTRL_GO.get v = 1 then
    (s.setF R.MGMT_RECOVERY_CTRL F.MGMT_RECOVERY_CTRL_LENGTH (F.MGMT_RECOVERY_CTRL_LENGTH.get v)).setBit R.MGMT_RECOVERY_CTRL
      F.MGMT_RECOVERY_CTRL_GO
  else s.setF R.MGMT_RECOVERY_CTRL F.MGMT_RECOVERY_CTRL_LENGTH (F.MGMT_RECOVERY_CTRL_LENGTH.get v)

theorem writeRecovery_of_other (h : F.MGMT_RECOVERY_CTRL_GO.get v ≠ 1 ∨ s.bootStage ≠ 3) : writeRecovery v s = recoverySet v s :=
  if_neg fun ⟨hg, hs⟩ => h.elim (fun h => h hg) fun h => h hs

theorem writeRecovery_of_go (h : F.MGMT_RECOVERY_CTRL_GO.get v = 1) (hs : s.bootStage = 3) : writeRecovery v s =
    if s.mgmt.flash.imageOk (s.hostRead (s.rd64 R.MGMT_RECOVERY R.MGMT_RECOVERY_HI) (F.MGMT_RECOVERY_CTRL_LENGTH.get v)) = true then
      startImage (s.hostRead (s.rd64 R.MGMT_RECOVERY R.MGMT_RECOVERY_HI) (F.MGMT_RECOVERY_CTRL_LENGTH.get v))
        (noteFallback (measureSelector ((recoverySet v s).setF R.MGMT_STATUS F.MGMT_STATUS_TRIAL 0)))
    else recoverySet v s := if_pos ⟨h, hs⟩

/-- A word of a key, in its place. -/
def putKey (w : Nat) (v : Word) (k : Bytes) : Bytes := k.take (4 * w) ++ leBytes v.toNat 4 ++ k.drop (4 * w + 4)

theorem putKey_length {w : Nat} {k : Bytes} (hw : w < 8) (hk : k.length = 32) : (putKey w v k).length = 32 := by
  simp only [putKey, List.length_append, List.length_take, List.length_drop, leBytes_length, hk]
  omega

theorem putKey_same {w : Nat} {k : Bytes} (hw : w < 8) (hk : k.length = 32) : ((putKey w v k).drop (4 * w)).take 4 = leBytes v.toNat 4 := by
  have ht : (k.take (4 * w)).length = 4 * w := by rw [List.length_take, hk]; omega
  rw [putKey, List.append_assoc, List.drop_left' ht, List.take_left' (leBytes_length _ _)]

theorem putKey_other {w x : Nat} {k : Bytes} (hw : w < 8) (hk : k.length = 32) (h : x ≠ w) :
    ((putKey w v k).drop (4 * x)).take 4 = (k.drop (4 * x)).take 4 := by
  refine List.ext_getElem? fun i => ?_
  have hl : (leBytes v.toNat 4).length = 4 := leBytes_length _ _
  rw [List.getElem?_take, List.getElem?_take]
  split
  · next hi =>
    rw [List.getElem?_drop, List.getElem?_drop, putKey]
    rcases Nat.lt_or_gt_of_ne h with h | h
    · rw [List.append_assoc, List.getElem?_append_left (by rw [List.length_take, hk]; omega), List.getElem?_take_of_lt (by omega)]
    · rw [List.getElem?_append_right (by rw [List.length_append, List.length_take, hl, hk]; omega), List.getElem?_drop]
      congr 1
      rw [List.length_append, List.length_take, hl, hk]
      omega
  · rfl

/-- A word of the key is held. -/
def keyHeld (w : Nat) (v : Word) (s : State) : State :=
  s.updMgmt fun m => { m with key := putKey w v s.mgmt.key, keyGot := setMaskBit s.mgmt.keyGot w true }

theorem writeKeyWord_of_locked {w : Nat} (h : s.bit R.MGMT_KEY_CTRL F.MGMT_KEY_CTRL_KEY_LOCK = true) : writeKeyWord w v s = s := if_pos h

theorem writeKeyWord_of_open {w : Nat} (h : s.bit R.MGMT_KEY_CTRL F.MGMT_KEY_CTRL_KEY_LOCK = false) : writeKeyWord w v s =
    if setMaskBit s.mgmt.keyGot w true = 255 then (keyHeld w v s).setF R.MGMT_KEY_CTRL F.MGMT_KEY_CTRL_KEY_SET 1 else keyHeld w v s :=
  if_neg (Bool.eq_false_iff.mp h)

theorem writeKeyWord_key {w : Nat} (h : s.bit R.MGMT_KEY_CTRL F.MGMT_KEY_CTRL_KEY_LOCK = false) :
    (writeKeyWord w v s).mgmt.key = putKey w v s.mgmt.key := by
  rw [writeKeyWord_of_open h]
  split
  · rfl
  · rfl

theorem writeKeyWord_set {w : Nat} (h : s.bit R.MGMT_KEY_CTRL F.MGMT_KEY_CTRL_KEY_LOCK = false)
    (hg : setMaskBit s.mgmt.keyGot w true = 255) : (writeKeyWord w v s).bit R.MGMT_KEY_CTRL F.MGMT_KEY_CTRL_KEY_SET = true := by
  rw [writeKeyWord_of_open h, if_pos hg]
  exact bit_setF_same _ _ _ true rfl (by decide)

end

end Sys2Proof.Machine

open Sys2Proof Sys2Proof.Machine

/-- Settles O55: each start, check and restart of the processor is one equation; records and measurements leave the status registers. -/
theorem processorStart : Obligations.ProcessorStart := by
  refine ⟨fun s h => next_eq (doBootRom_of_busy h), fun s h hs b ha hr => next_eq ?rom, fun s => ⟨dropTrial_of_kept, fun hc ht => ?dropped⟩,
    fun b trial s => ⟨bootSlot_stage b trial, bootSlot_slot b trial, bootSlot_trial b trial, bootSlot_version b trial⟩,
    fun s => ⟨bootFailed_stage, bootFailed_level⟩, fun s h => next_eq (doStage1_of_other h),
    fun s h => ⟨_, next_eq (doStage1_of_stage h), stage1_stage s, congrArg Mgmt.ownRec (stage1_mgmt s), congrArg Mgmt.cfgRec (stage1_mgmt s),
      stage1_owned s, stage1_locked s, stage1_stagger⟩,
    fun v s => ⟨fun h => next_eq (if_neg h), fun h => ⟨_, next_eq (if_pos h), lockBoot_lock s, lockBoot_locked s⟩⟩,
    fun seed ok s => ⟨fun h => next_eq (doIdentity_of_other h), fun h hi => ⟨_, next_eq (doIdentity_of_stage h hi), ?identity⟩⟩,
    fun s => ⟨fun h => next_eq (doConfirm_of_other h), fun h ht => ⟨_, next_eq (doConfirm_of_trial h ht), confirmed_trial,
      mgmtEvent_bit _ rfl (by decide), confirmed_flash⟩⟩,
    fun s => ⟨fun h => next_eq (doActivate_of_wait h), fun ha ht hw => next_eq (doActivate_of_due ha ht hw)⟩,
    fun s => ⟨fun h => next_eq (if_neg (Bool.eq_false_iff.mp h)), fun h => next_eq (if_pos h)⟩,
    fun s => ⟨stopMgmt_stage, stopMgmt_identity, stopMgmt_locked, rfl⟩,
    fun v s => ⟨fun h => next_eq (writeRecovery_of_other h), fun h hs => next_eq (writeRecovery_of_go h hs)⟩,
    fun w v s => ⟨fun h => next_eq (writeKeyWord_of_locked h), fun h hk => ⟨_, rfl, ?key⟩⟩⟩
  case rom => exact doBootRom_of_slot h hs ha hr
  case dropped =>
    rw [dropTrial_mgmt hc ht]
    exact ⟨rfl, rfl⟩
  case identity => exact identified hi _
  case key =>
    rw [writeKeyWord_key h]
    exact ⟨putKey_length w.isLt hk, putKey_same w.isLt hk, fun x hx => putKey_other w.isLt hk (Fin.val_ne_of_ne hx), writeKeyWord_set h⟩
end

section
/-! PROOFS. The management port and the I3C target (R397, R402 to R408). -/

namespace Sys2Proof.Machine

/-! ## Frames (R402, R404) -/

section
variable {f : MgmtFrame} {s : State}

theorem doMgmtFrame_of_down (h : s.netUp = false) : doMgmtFrame f s = s := if_pos (by rw [h]; rfl)

theorem doMgmtFrame_of_unfit (h : s.netUp = true) (hf : ¬ (s.tagOk f.vlan = true ∧ f.len.toNat ≤ 1518)) :
    doMgmtFrame f s = mgmtCount s 5 := by
  rw [doMgmtFrame, if_neg (by rw [h]; exact Bool.false_ne_true), if_neg (by rw [Bool.and_eq_true, decide_eq_true_eq]; exact hf)]

theorem doMgmtFrame_of_fit (h : s.netUp = true) (hf : s.tagOk f.vlan = true ∧ f.len.toNat ≤ 1518) :
    doMgmtFrame f s = takeContent f.content s := by
  rw [doMgmtFrame, if_neg (by rw [h]; exact Bool.false_ne_true), if_pos (by rw [Bool.and_eq_true, decide_eq_true_eq]; exact hf)]

theorem queueReq_of_malformed {r : MgmtReq} (h : msgForm r.raw = false) : queueReq r s = mgmtCount s 5 := if_pos (by rw [h]; rfl)

theorem queueReq_of_full {r : MgmtReq} (h : msgForm r.raw = true) (hl : 256 ≤ s.mgmt.reqs.length) : queueReq r s = mgmtCount s 4 :=
  (if_neg (by rw [h]; exact Bool.false_ne_true)).trans (if_pos hl)

theorem queueReq_of_room {r : MgmtReq} (h : msgForm r.raw = true) (hl : s.mgmt.reqs.length < 256) :
    queueReq r s = s.updMgmt fun m => { m with reqs := m.reqs ++ [r] } :=
  (if_neg (by rw [h]; exact Bool.false_ne_true)).trans (if_neg (Nat.not_le.mpr hl))

section
variable {v6 : Bool} {dst src : BitVec 128} {dport sport : BitVec 16} {b : Bytes}

theorem takeUdp_of_other (h : s.forUs v6 dst.toNat = false) : takeContent (.udp v6 dst src dport sport b) s = mgmtCount s 5 :=
  if_pos (by rw [h]; rfl)

theorem takeUdp_of_request (h : s.forUs v6 dst.toNat = true) (hp : dport.toNat = s.fld R.MGMT_PORTS F.MGMT_PORTS_REQ_PORT) :
    takeContent (.udp v6 dst src dport sport b) s = queueReq ⟨src.toNat, sport.toNat, b⟩ s :=
  (if_neg (by rw [h]; exact Bool.false_ne_true)).trans (if_pos hp)

theorem takeUdp_of_wake (h : s.forUs v6 dst.toNat = true) (hp : dport.toNat ≠ s.fld R.MGMT_PORTS F.MGMT_PORTS_REQ_PORT)
    (hw : dport.toNat = s.fld R.MGMT_PORTS F.MGMT_PORTS_WAKE_PORT) : takeContent (.udp v6 dst src dport sport b) s = s :=
  (if_neg (by rw [h]; exact Bool.false_ne_true)).trans ((if_neg hp).trans (if_pos hw))

theorem takeUdp_of_port (h : s.forUs v6 dst.toNat = true) (hp : dport.toNat ≠ s.fld R.MGMT_PORTS F.MGMT_PORTS_REQ_PORT)
    (hw : dport.toNat ≠ s.fld R.MGMT_PORTS F.MGMT_PORTS_WAKE_PORT) : takeContent (.udp v6 dst src dport sport b) s = mgmtCount s 5 :=
  (if_neg (by rw [h]; exact Bool.false_ne_true)).trans ((if_neg hp).trans (if_neg hw))

end

theorem doMgmtLink_changed {up : Bool} (h : s.pState ≠ 3) (hu : s.bit R.MGMT_STATUS F.MGMT_STATUS_LINK_UP ≠ up) : doMgmtLink up s =
    mgmtEvent (s.setF R.MGMT_STATUS F.MGMT_STATUS_LINK_UP up.toNat) F.MGMT_EVENT_LINK_CHANGE := if_neg (not_or.mpr ⟨h, hu⟩)

theorem linkChange_up (up : Bool) : (mgmtEvent (s.setF R.MGMT_STATUS F.MGMT_STATUS_LINK_UP up.toNat) F.MGMT_EVENT_LINK_CHANGE).bit
    R.MGMT_STATUS F.MGMT_STATUS_LINK_UP = up := by
  rw [bit_of_rd (mgmtEvent_rd _ _ (by decide)), bit_setF_same _ _ _ _ rfl (by decide)]

end

/-! ## The checks of a request (R403) -/

section
variable {r : MgmtReq} {s : State}

theorem replayed_iff : (s.mgmt.seen.contains r.seq || decide (r.seq + 65 ≤ s.mgmt.high)) = true ↔ r.seq ∈ s.mgmt.seen ∨ r.seq + 65 ≤ s.mgmt.high := by
  rw [Bool.or_eq_true, List.contains_iff_mem, decide_eq_true_eq]

theorem foreign_iff : (r.tag != s.deviceTag && r.tag != zeros 4) = true ↔ r.tag ≠ s.deviceTag ∧ r.tag ≠ zeros 4 := by
  rw [Bool.and_eq_true, bne_iff_ne, bne_iff_ne]

theorem dropIndex_of_hmac (h : s.hmacOk r.raw r.bodyLen = false) : s.dropIndex r = some 1 := if_pos (by rw [h]; rfl)

theorem dropIndex_of_replay (h : s.hmacOk r.raw r.bodyLen = true) (hr : r.seq ∈ s.mgmt.seen ∨ r.seq + 65 ≤ s.mgmt.high) :
    s.dropIndex r = some 2 := (if_neg (by rw [h]; exact Bool.false_ne_true)).trans (if_pos (replayed_iff.mpr hr))

theorem dropIndex_of_fresh (h : s.hmacOk r.raw r.bodyLen = true) (hs : r.seq ∉ s.mgmt.seen) (hh : s.mgmt.high < r.seq + 65) :
    s.dropIndex r = if (r.tag != s.deviceTag && r.tag != zeros 4) = true then some 3 else none :=
  (if_neg (by rw [h]; exact Bool.false_ne_true)).trans (if_neg (mt replayed_iff.mp (not_or.mpr ⟨hs, Nat.not_le.mpr hh⟩)))

/-! ## The queue of requests (R404) -/

theorem setReqs_self {q : List MgmtReq} (h : s.mgmt.reqs = q) : (s.updMgmt fun m => { m with reqs := q }) = s := by
  subst h
  rfl

variable {k : Nat} {f : MgmtReq → State → Nat × Bytes × State}

theorem settleReqs_of_drop {rest : List MgmtReq} {i : Nat} (h : s.dropIndex r = some i) :
    settleReqs (r :: rest) s = settleReqs rest (dropReq i s) := by rw [settleReqs, h]

theorem settleReqs_of_unknown {rest : List MgmtReq} (h : s.dropIndex r = none) (ht : r.typ = 0 ∨ 6 < r.typ) :
    settleReqs (r :: rest) s = settleReqs rest (respond r s.mgmt.key stBadArgument [] (acceptReq r s)) := by
  rw [settleReqs, h]
  exact if_pos ht

theorem settleReqs_of_known {rest : List MgmtReq} (h : s.dropIndex r = none) (ht : ¬ (r.typ = 0 ∨ 6 < r.typ)) :
    settleReqs (r :: rest) s = s.updMgmt fun m => { m with reqs := r :: rest } := by
  rw [settleReqs, h]
  exact if_neg ht

theorem serveReq_of_stage (h : s.bootStage ≠ 2) : serveReq k f s = s := if_pos h

theorem serveReq_of_settled (h : s.bootStage = 2) (hs : (settleReqs s.mgmt.reqs s).mgmt.reqs = []) :
    serveReq k f s = settleReqs s.mgmt.reqs s := by
  rw [serveReq, if_neg (not_not.mpr h)]
  dsimp only
  rw [hs]

theorem serveReq_of_none (h : s.bootStage = 2) (hq : s.mgmt.reqs = []) : serveReq k f s = s := by
  have he : settleReqs s.mgmt.reqs s = s := by
    rw [hq]
    exact setReqs_self hq
  exact (serveReq_of_settled h (by rw [he, hq])).trans he

theorem serveReq_of_dropped {i : Nat} (h : s.bootStage = 2) (hq : s.mgmt.reqs = [r]) (hd : s.dropIndex r = some i) :
    serveReq k f s = (dropReq i s).updMgmt fun m => { m with reqs := [] } := by
  have he : settleReqs s.mgmt.reqs s = (dropReq i s).updMgmt fun m => { m with reqs := [] } := by
    rw [hq, settleReqs_of_drop hd, settleReqs]
  exact (serveReq_of_settled h (by rw [he]; rfl)).trans he

theorem serveReq_of_unknown (h : s.bootStage = 2) (hq : s.mgmt.reqs = [r]) (hd : s.dropIndex r = none) (ht : r.typ = 0 ∨ 6 < r.typ) :
    serveReq k f s = (respond r s.mgmt.key stBadArgument [] (acceptReq r s)).updMgmt fun m => { m with reqs := [] } := by
  have he : settleReqs s.mgmt.reqs s = (respond r s.mgmt.key stBadArgument [] (acceptReq r s)).updMgmt fun m => { m with reqs := [] } := by
    rw [hq, settleReqs_of_unknown hd ht, settleReqs]
  exact (serveReq_of_settled h (by rw [he]; rfl)).trans he

/-- A request of a known type is for the command of its type. -/
theorem serveReq_of_known {rest : List MgmtReq} (h : s.bootStage = 2) (hq : s.mgmt.reqs = r :: rest) (hd : s.dropIndex r = none)
    (ht : ¬ (r.typ = 0 ∨ 6 < r.typ)) : serveReq k f s = if r.typ ≠ k then s else
      respond r s.mgmt.key (f r (acceptReq r (s.updMgmt fun m => { m with reqs := rest }))).1
        (f r (acceptReq r (s.updMgmt fun m => { m with reqs := rest }))).2.1
        (f r (acceptReq r (s.updMgmt fun m => { m with reqs := rest }))).2.2 := by
  have he : settleReqs s.mgmt.reqs s = s := by
    rw [hq, settleReqs_of_known hd ht]
    exact setReqs_self hq
  rw [serveReq, if_neg (not_not.mpr h), he]
  dsimp only
  rw [hq]

theorem serveReq_of_other {rest : List MgmtReq} (h : s.bootStage = 2) (hq : s.mgmt.reqs = r :: rest) (hd : s.dropIndex r = none)
    (ht : ¬ (r.typ = 0 ∨ 6 < r.typ)) (hk : r.typ ≠ k) : serveReq k f s = s := by rw [serveReq_of_known h hq hd ht, if_pos hk]

theorem serveReq_of_typ {rest : List MgmtReq} {st : Nat} {b : Bytes} {t : State} (h : s.bootStage = 2) (hq : s.mgmt.reqs = r :: rest)
    (hd : s.dropIndex r = none) (hk : r.typ = k) (hr : 1 ≤ k ∧ k ≤ 6)
    (hf : f r (acceptReq r (s.updMgmt fun m => { m with reqs := rest })) = (st, b, t)) :
    serveReq k f s = respond r s.mgmt.key st b t := by
  have ht : ¬ (r.typ = 0 ∨ 6 < r.typ) := by omega
  rw [serveReq_of_known h hq hd ht, if_neg (not_not.mpr hk), hf]

/-- Each request command serves the requests of its type. -/
theorem requests_serve {x : Nat × Instr}
    (h : x ∈ ([(1, .echo), (2, .noticeAck), (3, .regRead), (4, .regWrite), (5, .mgmtLogbookRead), (6, .keyRotate)] : List (Nat × Instr)))
    (s : State) : ∃ f, exec x.2 s = .next (serveReq x.1 f s) := by
  simp only [List.mem_cons, List.not_mem_nil, or_false] at h
  rcases h with rfl | rfl | rfl | rfl | rfl | rfl
  · exact ⟨reqEcho, rfl⟩
  · exact ⟨reqNoticeAck, rfl⟩
  · exact ⟨reqRegRead, rfl⟩
  · exact ⟨reqRegWrite, rfl⟩
  · exact ⟨reqLogbook, rfl⟩
  · exact ⟨reqKeyRotate, rfl⟩

/-! ## What each request does (R397, R403 to R405) -/

theorem reqRegRead_of_good (hn : r.bodyLen = 8) (h0 : r.w 1 ≠ 0) (h64 : r.w 1 ≤ 64) :
    reqRegRead r s = (0, (readRegs (r.w 0) (r.w 1) [] s).1, (readRegs (r.w 0) (r.w 1) [] s).2) :=
  if_neg (not_or.mpr ⟨not_not.mpr hn, not_or.mpr ⟨h0, Nat.not_lt.mpr h64⟩⟩)

/-- The pairs of offset and value that a write request carries. -/
def writePairs (r : MgmtReq) : List (Nat × Nat) := (List.range (r.bodyLen / 8)).map fun i => (r.w (2 * i), r.w (2 * i + 1))

theorem reqRegWrite_of_bad (h : r.bodyLen = 0 ∨ 512 < r.bodyLen ∨ r.bodyLen % 8 ≠ 0 ∨ (∃ p ∈ writePairs r, s.inWindow p.1 = false)) :
    reqRegWrite r s = (stBadArgument, [], s) := by
  by_cases hl : r.bodyLen = 0 ∨ 512 < r.bodyLen ∨ r.bodyLen % 8 ≠ 0
  · exact if_pos hl
  · obtain ⟨p, hp, hw⟩ : ∃ p ∈ writePairs r, s.inWindow p.1 = false := by
      obtain ⟨h0, h512, h8⟩ := not_or.mp hl |>.imp_right not_or.mp
      exact ((h.resolve_left h0).resolve_left h512).resolve_left h8
    refine (if_neg hl).trans (if_neg fun ha => ?_)
    exact Bool.false_ne_true (hw.symm.trans (List.all_eq_true.mp ha p hp))

theorem reqRegWrite_of_good (h0 : r.bodyLen ≠ 0) (h512 : r.bodyLen ≤ 512) (h8 : r.bodyLen % 8 = 0)
    (hw : ∀ p ∈ writePairs r, s.inWindow p.1 = true) :
    reqRegWrite r s = (0, [], (writePairs r).foldl (fun t p => wordWrite p.1 (BitVec.ofNat 32 p.2) t) s) :=
  (if_neg (not_or.mpr ⟨h0, not_or.mpr ⟨Nat.not_lt.mpr h512, not_not.mpr h8⟩⟩)).trans (if_pos (List.all_eq_true.mpr hw))

end

/-! ## The I3C target (R407, R408) -/

section
variable {s : State} {bcast : Bool}

theorem i3cAddr_of_silent (h : s.pwr.vaux = false ∨ s.bit R.I3C_STATUS F.I3C_STATUS_ADDR_VALID = false) : s.i3cAddr = false := by
  rw [State.i3cAddr, Bool.and_eq_false_iff]
  exact h

theorem i3cAddr_of_valid (h : s.pwr.vaux = true) (ha : s.bit R.I3C_STATUS F.I3C_STATUS_ADDR_VALID = true) : s.i3cAddr = true := by
  rw [State.i3cAddr, h, ha]
  rfl

theorem i3cReturn_of_silent (h : s.i3cAddr = false) (b : Bytes) : i3cReturn b s = s := if_neg (Bool.eq_false_iff.mp h)

theorem i3cReturn_of_addr (h : s.i3cAddr = true) (b : Bytes) : i3cReturn b s = s.emit (.i3c b) := if_pos h

theorem setDynAddr_addr (a : BitVec 7) : (setDynAddr a.toNat s).fld R.I3C_STATUS F.I3C_STATUS_DYN_ADDR = a.toNat := by
  rw [setDynAddr, fld_setF_ne _ _ _ _ _ (by decide) (by decide), fld_setF_same _ _ _ _ (by decide) (by decide)]
  exact Nat.mod_eq_of_lt a.isLt

theorem setDynAddr_valid (a : Nat) : (setDynAddr a s).bit R.I3C_STATUS F.I3C_STATUS_ADDR_VALID = true := bit_setF_same _ _ _ true rfl (by decide)

theorem entdaa_iff {others : List (BitVec 48)} :
    (s.pwr.vaux && !s.bit R.I3C_STATUS F.I3C_STATUS_ADDR_VALID && (others.map (·.toNat)).all fun x => decide (s.pid ≤ x)) = true ↔
      s.pwr.vaux = true ∧ s.bit R.I3C_STATUS F.I3C_STATUS_ADDR_VALID = false ∧ ∀ x ∈ others, s.pid ≤ x.toNat := by
  rw [Bool.and_eq_true, Bool.and_eq_true, Bool.not_eq_true', and_assoc, List.all_map, List.all_eq_true]
  simp only [Function.comp_apply, decide_eq_true_eq]

/-- Enabling and disabling the in-band interrupt. -/
theorem ibi_after (en hears e : Bool) (hh : hears = true) :
    (if (hears && e) = true then s.setF R.I3C_STATUS F.I3C_STATUS_IBI_EN en.toNat else s).bit R.I3C_STATUS F.I3C_STATUS_IBI_EN =
      if e = true then en else s.bit R.I3C_STATUS F.I3C_STATUS_IBI_EN := by
  subst hh
  cases e with
  | false => rfl
  | true => exact bit_setF_same _ _ _ en rfl (by decide)

theorem doI3cWrite_of_other {b : Bytes} (h : s.i3cAddr = false ∨ b ≠ [0xA5] ∨ s.bit R.WAKE_EN F.WAKE_EN_I3C = false) : doI3cWrite b s = s := by
  refine if_neg fun hc => ?_
  rw [Bool.and_eq_true, Bool.and_eq_true, beq_iff_eq] at hc
  obtain ⟨⟨ha, hb⟩, hw⟩ := hc
  rcases h with h | h | h
  · exact Bool.false_ne_true (h.symm.trans ha)
  · exact h hb
  · exact Bool.false_ne_true (h.symm.trans hw)

end

end Sys2Proof.Machine

open Sys2Proof Sys2Proof.Machine

/-- Settles O56: the branches of a frame and of a request's checks, and one equation for the request at the head of the queue, which each
request command uses with its own effect. -/
theorem managementPort : Obligations.ManagementPort := by
  refine ⟨fun f s => ⟨fun h => next_eq (doMgmtFrame_of_down h), fun h hf => next_eq (doMgmtFrame_of_unfit h hf), fun h hf => ?frame⟩,
    fun up s => ⟨fun h => next_eq (if_pos h), fun h hu => ⟨_, next_eq (doMgmtLink_changed h hu), linkChange_up up, mgmtEvent_bit _ rfl (by decide)⟩⟩,
    fun r s => ⟨dropIndex_of_hmac, dropIndex_of_replay, fun h hs hh ht h4 => ?foreign, fun h hs hh ht => ?own, rfl⟩,
    fun x hx s => ?queue, fun r rest s h hq hd => ?serve, fun b s => ⟨fun h => next_eq (if_neg h), fun h => next_eq (if_pos h)⟩⟩
  case frame =>
    have hfit := doMgmtFrame_of_fit h hf
    refine ⟨fun x a hc => ⟨fun hu => next_eq ?_, fun hu => next_eq ?_⟩, fun x a hc => ⟨fun hu => next_eq ?_, fun hu => next_eq ?_⟩,
      fun v6 dst src b hc => ⟨fun hu => next_eq ?_, fun hu => next_eq ?_⟩, fun hc => next_eq ?_,
      fun v6 dst src dport sport b hc => ⟨fun hu => next_eq ?_,
        fun hu hp => ⟨fun hm => next_eq ?_, fun hm hl => next_eq ?_, fun hm hl => next_eq ?_⟩,
        fun hu hp hw => next_eq ?_, fun hu hp hw => next_eq ?_⟩⟩
    all_goals refine hfit.trans ((congrArg (takeContent · s) hc).trans ?_)
    · exact if_pos hu
    · exact if_neg (Bool.eq_false_iff.mp hu)
    · exact if_pos hu
    · exact if_neg (Bool.eq_false_iff.mp hu)
    · exact if_pos hu
    · exact if_neg (Bool.eq_false_iff.mp hu)
    · rfl
    · exact takeUdp_of_other hu
    · exact (takeUdp_of_request hu hp).trans (queueReq_of_malformed hm)
    · exact (takeUdp_of_request hu hp).trans (queueReq_of_full hm hl)
    · exact (takeUdp_of_request hu hp).trans (queueReq_of_room hm hl)
    · exact takeUdp_of_wake hu hp hw
    · exact takeUdp_of_port hu hp hw
  case foreign => exact (dropIndex_of_fresh h hs hh).trans (if_pos (foreign_iff.mpr ⟨ht, h4⟩))
  case own => exact (dropIndex_of_fresh h hs hh).trans (if_neg fun hf => ht.elim (foreign_iff.mp hf).1 (foreign_iff.mp hf).2)
  case queue =>
    obtain ⟨f, he⟩ := requests_serve hx s
    rw [he]
    refine ⟨fun h => next_eq ?_, fun r h hq => ⟨fun i hd => next_eq (serveReq_of_dropped h hq hd),
      fun hd ht => next_eq (serveReq_of_unknown h hq hd ht)⟩,
      fun r rest h hq hd h0 h6 hk => next_eq (serveReq_of_other h hq hd (not_or.mpr ⟨h0, Nat.not_lt.mpr h6⟩) hk)⟩
    by_cases hs : s.bootStage = 2
    · exact serveReq_of_none hs (h.resolve_left (not_not.mpr hs))
    · exact serveReq_of_stage hs
  case serve =>
    refine ⟨fun ht => ?_, fun ht hn => ?_, fun ht h0 hn h4 => ?_, fun ht hn => ?_, fun ht hn h0 h64 => ?_, fun ht hn => ?_,
      fun ht h0 h5 h8 hw => ?_, fun ht hn => ?_, fun ht hn h0 h16 => ?_, fun ht hn => ?_, fun ht hn => ?_⟩
    all_goals refine next_eq (serveReq_of_typ h hq hd ht (by decide) ?_)
    · rfl
    · exact if_pos hn
    · exact if_neg (not_or.mpr ⟨h0, not_or.mpr ⟨Nat.not_lt.mpr hn, not_not.mpr h4⟩⟩)
    · exact if_pos hn
    · exact reqRegRead_of_good hn h0 h64
    · exact reqRegWrite_of_bad hn
    · exact reqRegWrite_of_good h0 h5 h8 hw
    · exact if_pos hn
    · exact if_neg (not_or.mpr ⟨not_not.mpr hn, not_or.mpr ⟨h0, Nat.not_lt.mpr h16⟩⟩)
    · exact if_pos hn
    · exact if_neg (not_not.mpr hn)

/-- Settles O57: every command of the target asks for VAUX and, but for the broadcast ones, for its address. -/
theorem i3cTarget : Obligations.I3cTarget := by
  refine ⟨fun a others s => ⟨fun h => next_eq (if_neg (mt entdaa_iff.mp h)),
      fun h => ⟨_, next_eq (if_pos (entdaa_iff.mpr h)), setDynAddr_addr a, setDynAddr_valid _, rfl⟩⟩,
    fun s => ⟨fun h => next_eq (if_neg (Bool.eq_false_iff.mp h)), fun h => ⟨_, next_eq (if_pos h), ?clear, bit_setF_same _ _ _ false rfl (by decide)⟩⟩,
    fun a n b s h => ?silent, fun a n s h ha => ?answers, fun bcast len ev s => ⟨fun h => ?deaf, fun h => ?hears⟩, fun s h => ?heard,
    fun b s => ⟨fun ha h => next_eq (doI3cWrite_of_other (.inr h)), fun h ha hb hw => next_eq (if_pos ?wake)⟩⟩
  case clear =>
    rw [fld_setF_ne _ _ _ _ _ (by decide) (by decide), fld_setF_same _ _ _ _ (by decide) (by decide), Nat.zero_mod]
  case silent =>
    have hs := i3cAddr_of_silent h
    exact ⟨next_eq (if_neg (Bool.eq_false_iff.mp hs)), next_eq (i3cReturn_of_silent hs _), next_eq (i3cReturn_of_silent hs _),
      next_eq (i3cReturn_of_silent hs _), next_eq (i3cReturn_of_silent hs _), next_eq (i3cReturn_of_silent hs _),
      next_eq (i3cReturn_of_silent hs _), next_eq (doI3cWrite_of_other (.inl hs)), next_eq (i3cReturn_of_silent (s := { s with free := s.free + 1 }) hs _)⟩
  case answers =>
    have hs := i3cAddr_of_valid h ha
    exact ⟨⟨_, next_eq (if_pos hs), setDynAddr_addr a, setDynAddr_valid _⟩, next_eq (i3cReturn_of_addr hs _), next_eq (i3cReturn_of_addr hs _),
      next_eq (i3cReturn_of_addr hs _), next_eq (i3cReturn_of_addr hs _), next_eq (i3cReturn_of_addr hs _),
      next_eq (i3cReturn_of_addr (s := { s with free := s.free + 1 }) hs _), next_eq (i3cReturn_of_addr hs _)⟩
  case deaf =>
    have hn : s.i3cHears bcast ≠ true := Bool.eq_false_iff.mp h
    have hb : (s.i3cHears bcast && ev.toNat.testBit 0) ≠ true := by
      rw [h]
      exact Bool.false_ne_true
    exact ⟨next_eq (if_neg hn), next_eq (if_neg hn), next_eq (if_neg hb), next_eq (if_neg hb), next_eq (if_neg hn)⟩
  case hears =>
    refine ⟨next_eq (if_pos h), next_eq (if_pos h), next_eq (if_pos h), ⟨_, rfl, (ibi_after true _ _ h).trans ?_⟩,
      ⟨_, rfl, (ibi_after false _ _ h).trans ?_⟩⟩
    · change (if ev.getLsbD 0 = true then true else s.bit R.I3C_STATUS F.I3C_STATUS_IBI_EN) = _
      cases ev.getLsbD 0 with
      | false => rfl
      | true => rfl
    · change (if ev.getLsbD 0 = true then false else s.bit R.I3C_STATUS F.I3C_STATUS_IBI_EN) = _
      cases ev.getLsbD 0 with
      | false => rfl
      | true => rfl
  case heard =>
    rw [State.i3cHears, State.i3cHears, h]
    exact ⟨rfl, rfl⟩
  case wake =>
    rw [i3cAddr_of_valid h ha, hb, hw]
    rfl
end

section
/-! PROOFS. What a reset finds as it was: acts on lanes, ports, frames and the Hold leave the always-on registers, the processor, the power
unit, the host interface and the logbook (R417, R424, R453). -/

namespace Sys2Proof.Machine

/-- A register that acts on lanes, ports and the Hold may write: of the integrity unit, a memory-side die, an optical engine or a switch
die, or the count of lost contact-sheet records. -/
def Far (r : RegRef) : Prop := 0x1508010 ≤ r.addr ∨ r.addr = R.CS_RING_LOST.addr

theorem far_laneStatus (d n : Nat) : Far (laneStatus d n) := .inl (by simp only [laneStatus, R.LANE_STATUS]; omega)

/-- s has of z the registers that are not far, the time unit, the power unit, the processor, the logbook and the units' health, and the
host interface but for the number of the next contact-sheet record. -/
structure Quiet (z s : State) : Prop where
  regs : ∀ a, a < 0x1508010 → a ≠ R.CS_RING_LOST.addr → ∀ d, sget s.regs a d = sget z.regs a d
  time : s.time = z.time
  pwr : s.pwr = z.pwr
  mgmt : s.mgmt = z.mgmt
  units : s.integ.units = z.integ.units
  book : s.integ.book = z.integ.book
  host : { s.host with csSeq := 0 } = { z.host with csSeq := 0 }

theorem Quiet.refl (s : State) : Quiet s s := ⟨fun _ _ _ _ => rfl, rfl, rfl, rfl, rfl, rfl, rfl⟩

theorem Quiet.trans {z s t : State} (h : Quiet z s) (k : Quiet s t) : Quiet z t :=
  ⟨fun a ha hc d => (k.regs a ha hc d).trans (h.regs a ha hc d), k.time.trans h.time, k.pwr.trans h.pwr, k.mgmt.trans h.mgmt,
    k.units.trans h.units, k.book.trans h.book, k.host.trans h.host⟩

theorem Quiet.rd {z s : State} (h : Quiet z s) {r : RegRef} (hr : r.addr < 0x1508010) (hc : r.addr ≠ R.CS_RING_LOST.addr) :
    s.rd r = z.rd r := h.regs _ hr hc _

theorem quiet_of_snd {α : Type} {z : State} {p : α × State} {a : α} {b : State} (e : p = (a, b)) (h : Quiet z p.2) : Quiet z b := by
  rw [e] at h; exact h
theorem quiet_pair {α : Type} {z s : State} {a : α} (h : Quiet z s) : Quiet z (a, s).2 := h
theorem quiet_foldl {α : Type} {z : State} {g : State → α → State} {l : List α} {s : State} (h : Quiet z s)
    (hg : ∀ t a, Quiet z t → Quiet z (g t a)) : Quiet z (l.foldl g s) := by
  induction l generalizing s with
  | nil => exact h
  | cons a l ih => exact ih (hg s a h)
theorem quiet_foldl_mem {α : Type} {z : State} {g : State → α → State} {l : List α} {s : State} (h : Quiet z s)
    (hg : ∀ (t : State) (a : α), a ∈ l → Quiet z t → Quiet z (g t a)) : Quiet z (l.foldl g s) := by
  induction l generalizing s with
  | nil => exact h
  | cons a l ih => exact ih (hg s a List.mem_cons_self h) fun t b hb => hg t b (List.mem_cons_of_mem a hb)
theorem quiet_ite {z s t : State} {c : Prop} [Decidable c] (h : Quiet z s) (k : Quiet z t) : Quiet z (if c then s else t) := by
  split
  · exact h
  · exact k
/-- What counts of a state. -/
def quietPart (s : State) := (s.regs, s.time, s.pwr, s.mgmt, s.integ.units, s.integ.book, { s.host with csSeq := 0 })

/-- A state with the same of what counts. -/
theorem quiet_mk {z s t : State} (h : Quiet z s) (e : quietPart t = quietPart s) : Quiet z t := by
  simp only [quietPart, Prod.mk.injEq] at e
  obtain ⟨hr, ht, hp, hm, hu, hb, hh⟩ := e
  exact h.trans ⟨fun a _ _ d => by rw [hr], ht, hp, hm, hu, hb, hh⟩

section
variable {z s : State} (h : Quiet z s)
include h
theorem quiet_wr (r : RegRef) (v : Word) (hr : Far r) : Quiet z (s.wr r v) := by
  refine h.trans ⟨fun a ha hc d => sget_sput_ne _ ?_ _ _ d, rfl, rfl, rfl, rfl, rfl, rfl⟩
  exact hr.elim (fun hr => Nat.ne_of_lt (ha.trans_le hr)) fun hr => hr ▸ hc
theorem quiet_setF (r : RegRef) (f : Fld) (n : Nat) (hr : Far r) : Quiet z (s.setF r f n) := quiet_wr h _ _ hr
theorem quiet_setBit (r : RegRef) (f : Fld) (hr : Far r) : Quiet z (s.setBit r f) := quiet_wr h _ _ hr
theorem quiet_countN (r : RegRef) (n : Nat) (hr : Far r) : Quiet z (s.countN r n) := quiet_wr h _ _ hr
theorem quiet_count (r : RegRef) (hr : Far r) : Quiet z (s.count r) := quiet_wr h _ _ hr
theorem quiet_emit (o : Out) : Quiet z (s.emit o) := quiet_mk h rfl
theorem quiet_hostWrite (a : Nat) (b : Bytes) : Quiet z (s.hostWrite a b) := quiet_mk h rfl
theorem quiet_updPort (d p : Nat) (f : Port → Port) : Quiet z (s.updPort d p f) := quiet_mk h rfl
theorem quiet_updLane (d n : Nat) (f : Lane → Lane) : Quiet z (s.updLane d n f) := quiet_mk h rfl
theorem quiet_updDie (d : Nat) (f : Die → Die) : Quiet z (s.updDie d f) := quiet_mk h rfl
theorem quiet_updLan (d p : Nat) (f : Lany → Lany) : Quiet z (s.updLan d p f) := quiet_mk h rfl
theorem quiet_setFrm (n : Nat) (f : FrameRec) : Quiet z (s.setFrm n f) := quiet_mk h rfl
theorem quiet_delFrm (n : Nat) : Quiet z (s.delFrm n) := quiet_mk h rfl
theorem quiet_updFrm (n : Nat) (f : FrameRec → FrameRec) : Quiet z (s.updFrm n f) := by
  unfold State.updFrm; split
  · exact quiet_setFrm h _ _
  · exact h
end

theorem quiet_yfpCount {z s a1 a2 a3} (h : Quiet z s) : Quiet z (State.yfpCount s a1 a2 a3) := by
  unfold State.yfpCount
  exact quiet_count h _ (.inl (by simp only [R.YFP_COUNT]; omega))
theorem quiet_coreCount {z s a1 a2 a3} (h : Quiet z s) : Quiet z (State.coreCount s a1 a2 a3) := by
  unfold State.coreCount
  exact quiet_count h _ (.inl (by simp only [R.CORE_COUNT]; omega))
theorem quiet_tmCount {z s a1 a2 a3} (h : Quiet z s) : Quiet z (State.tmCount s a1 a2 a3) := by
  unfold State.tmCount
  exact quiet_count h _ (.inl (by simp only [R.TM_COUNT]; omega))
theorem quiet_lookupCount {z s a1 a2 a3} (h : Quiet z s) : Quiet z (State.lookupCount s a1 a2 a3) := by
  unfold State.lookupCount
  exact quiet_count h _ (.inl (by simp only [R.LOOKUP_COUNT]; omega))
theorem quiet_lanCount {z s a1 a2 a3} (h : Quiet z s) : Quiet z (State.lanCount s a1 a2 a3) := by
  unfold State.lanCount
  exact quiet_count h _ (.inl (by simp only [R.LANYARD_COUNT]; omega))
theorem quiet_integCount {z s a1} (h : Quiet z s) : Quiet z (State.integCount s a1) := by
  unfold State.integCount
  exact quiet_count h _ (.inl (by simp only [R.INTEG_COUNT]; omega))
theorem quiet_laneCount {z s a1 a2 a3} (h : Quiet z s) : Quiet z (State.laneCount s a1 a2 a3) := by
  unfold State.laneCount
  exact quiet_ite h (quiet_count h _ (.inl (by simp only [R.LANE_COUNT]; omega)))
theorem quiet_setLaneState {z s a1 a2 a3} (h : Quiet z s) : Quiet z (State.setLaneState s a1 a2 a3) := by
  unfold State.setLaneState
  exact quiet_setF h _ _ _ (far_laneStatus _ _)
theorem quiet_sendMsi {z s a1} (h : Quiet z s) : Quiet z (sendMsi s a1) := by
  unfold sendMsi
  refine quiet_ite h ?_
  extract_lets +onlyGivenNames u0 u1
  clear_value u0 u1
  exact quiet_emit (quiet_hostWrite h _ _) _
theorem quiet_withCause {z s a1 a2} (h : Quiet z s) (ha2 : ∀ b0, Quiet z b0 → Quiet z (a2 b0)) :
    Quiet z (withCause s a1 a2) := by
  unfold withCause
  extract_lets +onlyGivenNames u0
  have h1 : Quiet z u0 := ha2 _ h
  clear_value u0
  exact quiet_ite (quiet_sendMsi h1) h1
theorem quiet_setEvent {z s a1 a2 a3} (h : Quiet z s) (ha2 : Far a2) : Quiet z (setEvent s a1 a2 a3) := by
  unfold setEvent
  exact quiet_withCause h (fun x0 h1 => quiet_setBit h1 _ _ ha2)
theorem quiet_pushRec {z s a1} (h : Quiet z s) : Quiet z (pushRec s a1) := by
  unfold pushRec
  extract_lets +onlyGivenNames u0 u1
  have h2 : Quiet z u1 := quiet_mk h rfl
  clear_value u1
  exact quiet_ite (quiet_mk h2 rfl) (quiet_setEvent (quiet_integCount h2) (.inl (by decide)))
theorem quiet_countFinding {z s a1} (h : Quiet z s) : Quiet z (countFinding s a1) := by
  unfold countFinding
  exact quiet_ite (quiet_integCount h) (quiet_ite (quiet_integCount h) (quiet_ite (quiet_integCount h) h))
theorem quiet_queueRec {z s a1} (h : Quiet z s) : Quiet z (queueRec s a1) := by
  unfold queueRec
  refine quiet_ite ?_ (quiet_pushRec h)
  extract_lets +onlyGivenNames u0 u1 u2
  clear_value u0 u1 u2
  exact quiet_ite (quiet_pushRec (quiet_mk h rfl)) (quiet_mk h rfl)
theorem quiet_fileRec {z s a1} (h : Quiet z s) : Quiet z (fileRec s a1) := by
  unfold fileRec
  exact quiet_queueRec (quiet_countFinding h)
theorem quiet_setPortState {z s a1 a2 a3} (h : Quiet z s) : Quiet z (State.setPortState s a1 a2 a3) := by
  unfold State.setPortState
  exact quiet_setF h _ _ _ (.inl (by simp only [R.PORT_CORE_STATUS]; omega))
theorem quiet_csLost {z s a1 a2} (h : Quiet z s) : Quiet z (csLost s a1 a2) := by
  unfold csLost
  exact quiet_setEvent (quiet_ite (quiet_tmCount (quiet_count h _ (.inr rfl))) (quiet_count h _ (.inr rfl)))
    (.inl (by simp only [R.TM_EVENT]; omega))
theorem quiet_csCapture {z s a1 a2 a3} (h : Quiet z s) : Quiet z (csCapture s a1 a2 a3) := by
  unfold csCapture
  extract_lets +onlyGivenNames u0
  extract_lets +onlyGivenNames u1
  have h2 : Quiet z u1 := quiet_mk h rfl
  clear_value u1
  exact quiet_ite (quiet_updDie h2 _ _) (quiet_csLost h2)
theorem quiet_mirrorDrop {z s a1 a2 a3 a4 a5 a6 a7 a8} (h : Quiet z s) :
    Quiet z (mirrorDrop s a1 a2 a3 a4 a5 a6 a7 a8) := by
  unfold mirrorDrop
  extract_lets +onlyGivenNames u0
  clear_value u0
  refine quiet_ite ?_ h
  extract_lets +onlyGivenNames u1
  clear_value u1
  refine quiet_ite (quiet_updPort h _ _ _) ?_
  extract_lets +onlyGivenNames u2
  clear_value u2
  exact quiet_csCapture (quiet_tmCount (quiet_updPort h _ _ _))
theorem quiet_dropCore {z s a1 a2 a3 a4} (h : Quiet z s) : Quiet z (dropCore s a1 a2 a3 a4) := by
  unfold dropCore
  exact quiet_mirrorDrop (quiet_coreCount h)
theorem quiet_dropLookup {z s a1 a2 a3 a4} (h : Quiet z s) : Quiet z (dropLookup s a1 a2 a3 a4) := by
  unfold dropLookup
  exact quiet_mirrorDrop (quiet_lookupCount h)
theorem quiet_logParity {z s a1 a2 a3 a4} (h : Quiet z s) : Quiet z (logParity s a1 a2 a3 a4) := by
  unfold logParity
  extract_lets +onlyGivenNames u0 u1
  clear_value u0 u1
  exact quiet_ite (quiet_mk h rfl) (quiet_mk h rfl)
theorem quiet_fileParity {z s a1 a2 a3 a4 a5} (h : Quiet z s) : Quiet z (fileParity s a1 a2 a3 a4 a5) := by
  unfold fileParity
  exact quiet_fileRec h
theorem quiet_parityMiss {z s a1 a2 a3 a4} (h : Quiet z s) : Quiet z (parityMiss s a1 a2 a3 a4) := by
  unfold parityMiss
  exact quiet_fileParity (quiet_logParity (quiet_lookupCount h))
theorem quiet_queueCtl {z s a1 a2 a3} (h : Quiet z s) : Quiet z (queueCtl s a1 a2 a3) := by
  unfold queueCtl
  exact quiet_updLane h _ _ _
theorem quiet_queueAll {z s a1 a2 a3} (h : Quiet z s) : Quiet z (queueAll s a1 a2 a3) := by
  unfold queueAll
  exact quiet_foldl h (fun x0 x1 h2 => quiet_queueCtl h2)
theorem quiet_flowUpdate {z s a1 a2} (h : Quiet z s) : Quiet z (flowUpdate s a1 a2) := by
  unfold flowUpdate
  refine quiet_ite ?_ h
  extract_lets +onlyGivenNames u0
  clear_value u0
  exact quiet_ite h (quiet_queueAll (quiet_setF h _ _ _ (.inl (by simp only [R.PORT_FC_STATUS]; omega))))
theorem quiet_lanFlowUpdate {z s a1 a2 a3} (h : Quiet z s) : Quiet z (lanFlowUpdate s a1 a2 a3) := by
  unfold lanFlowUpdate
  refine quiet_ite h ?_
  extract_lets +onlyGivenNames u0 u1
  clear_value u0 u1
  extract_lets +onlyGivenNames u2 u3
  clear_value u2 u3
  exact quiet_updLan h _ _ _
theorem quiet_lanFlowAll {z s a1 a2} (h : Quiet z s) : Quiet z (lanFlowAll s a1 a2) := by
  unfold lanFlowAll
  exact quiet_ite h (quiet_foldl h (fun x0 x1 h2 => quiet_lanFlowUpdate h2))
theorem quiet_flowPort {z s a1 a2} (h : Quiet z s) : Quiet z (flowPort s a1 a2) := by
  unfold flowPort
  exact quiet_lanFlowAll (quiet_flowUpdate h)
theorem quiet_stageFlow {z s a1 a2 a3} (h : Quiet z s) : Quiet z (stageFlow s a1 a2 a3) := by
  unfold stageFlow
  exact quiet_lanFlowUpdate (quiet_flowUpdate h)
theorem quiet_freeStage {z s a1} (h : Quiet z s) : Quiet z (freeStage s a1) := by
  unfold freeStage
  extract_lets +onlyGivenNames u0
  clear_value u0
  refine quiet_ite h ?_
  extract_lets +onlyGivenNames u1
  have h2 : Quiet z u1 := quiet_updFrm h _ _
  clear_value u1
  extract_lets +onlyGivenNames u3
  have h4 : Quiet z u3 := quiet_updPort h2 _ _ _
  clear_value u3
  exact quiet_stageFlow h4
theorem quiet_setKnot {z s a1 a2} (h : Quiet z s) : Quiet z (State.setKnot s a1 a2) := by
  unfold State.setKnot
  exact quiet_mk h rfl
theorem quiet_updKnot {z s a1 a2} (h : Quiet z s) : Quiet z (State.updKnot s a1 a2) := by
  unfold State.updKnot
  exact quiet_setKnot h
theorem quiet_noteMissed {z s a1 a2} (h : Quiet z s) : Quiet z (noteMissed s a1 a2) := by
  unfold noteMissed
  exact quiet_ite (quiet_updKnot h) h
theorem quiet_freeRegion {z s a1} (h : Quiet z s) : Quiet z (freeRegion s a1) := by
  unfold freeRegion
  extract_lets +onlyGivenNames u0
  clear_value u0
  extract_lets +onlyGivenNames u1
  have h2 : Quiet z u1 := quiet_updFrm h _ _
  clear_value u1
  split
  · exact h2
  · exact quiet_updPort h2 _ _ _
  · exact quiet_updDie (quiet_updPort h2 _ _ _) _ _
  · exact quiet_updDie h2 _ _
  · exact quiet_updDie h2 _ _
theorem quiet_offMesh {z s a1} (h : Quiet z s) : Quiet z (offMesh s a1) := by
  unfold offMesh
  extract_lets +onlyGivenNames u0
  exact quiet_mk h rfl
theorem quiet_copyPlaced {z s a1} (h : Quiet z s) : Quiet z (copyPlaced s a1) := by
  unfold copyPlaced
  extract_lets +onlyGivenNames u0
  clear_value u0
  refine quiet_ite h ?_
  extract_lets +onlyGivenNames u1
  have h2 : Quiet z u1 := quiet_updFrm h _ _
  clear_value u1
  exact quiet_ite (quiet_freeStage h2) h2
theorem quiet_copyGone {z s a1} (h : Quiet z s) : Quiet z (copyGone s a1) := by
  unfold copyGone
  refine quiet_ite h ?_
  extract_lets +onlyGivenNames u0
  clear_value u0
  extract_lets +onlyGivenNames u1
  have h2 : Quiet z u1 := quiet_ite (quiet_updFrm h _ _) h
  clear_value u1
  exact quiet_ite (quiet_delFrm (quiet_freeStage h2) _) h2
theorem quiet_discardFrame {z s a1} (h : Quiet z s) : Quiet z (discardFrame s a1) := by
  unfold discardFrame
  extract_lets +onlyGivenNames u0
  clear_value u0
  extract_lets +onlyGivenNames u1
  have h2 : Quiet z u1 := quiet_ite (quiet_noteMissed h) h
  clear_value u1
  extract_lets +onlyGivenNames u3
  have h4 : Quiet z u3 := quiet_ite (quiet_copyPlaced h2) h2
  clear_value u3
  exact quiet_copyGone (quiet_delFrm (quiet_offMesh (quiet_freeRegion (quiet_freeStage h4))) _)
theorem quiet_sprayChoose {z s a1 a2 a3 a4} (h : Quiet z s) : Quiet z (sprayChoose s a1 a2 a3 a4).2 := by
  unfold sprayChoose
  split
  · exact h
  · exact h
  · extract_lets +onlyGivenNames u0 u1
    clear_value u0 u1
    extract_lets +onlyGivenNames u2 u3
    clear_value u2 u3
    extract_lets +onlyGivenNames u4 u5
    clear_value u4 u5
    extract_lets +onlyGivenNames u6 u7
    clear_value u6 u7
    extract_lets +onlyGivenNames u8
    have h9 : Quiet z u8 := quiet_updDie h _ _
    clear_value u8
    exact h9
theorem quiet_placeAt {z s a1 a2} (h : Quiet z s) : Quiet z (placeAt s a1 a2) := by
  unfold placeAt
  extract_lets +onlyGivenNames u0
  clear_value u0
  exact quiet_updFrm h _ _
theorem quiet_offerFrame {z s a1} (h : Quiet z s) : Quiet z (offerFrame s a1) := by
  unfold offerFrame
  exact quiet_updDie h _ _
theorem quiet_noCandidate {z s a1 a2} (h : Quiet z s) : Quiet z (noCandidate s a1 a2) := by
  unfold noCandidate
  extract_lets +onlyGivenNames u0
  clear_value u0
  extract_lets +onlyGivenNames u1
  have h2 : Quiet z u1 := quiet_ite (quiet_dropCore h) h
  clear_value u1
  extract_lets +onlyGivenNames u3
  have h4 : Quiet z u3 := by
    unfold u3
    split
    · exact quiet_lanCount h2
    · exact h2
  clear_value u3
  exact quiet_discardFrame h4
theorem quiet_lookupDrop {z s a1 a2 a3 a4} (h : Quiet z s) : Quiet z (lookupDrop s a1 a2 a3 a4) := by
  unfold lookupDrop
  exact quiet_discardFrame (quiet_dropLookup h)
theorem quiet_sprayPlace {z s a1 a2 a3 a4} (h : Quiet z s) : Quiet z (sprayPlace s a1 a2 a3 a4).2 := by
  unfold sprayPlace
  extract_lets +onlyGivenNames u0
  clear_value u0
  split
  · rename_i y1 y2 y3 y4
    have h5 := quiet_of_snd y4 (quiet_sprayChoose h)
    split
    · rename_i y6
      have h7 := quiet_of_snd y4 (quiet_sprayChoose h)
      exact quiet_pair (quiet_noCandidate h5)
    · rename_i y8 y9
      have h10 := quiet_of_snd y4 (quiet_sprayChoose h)
      split
      · exact quiet_pair (quiet_placeAt h5)
      · exact quiet_pair (quiet_lookupDrop h5)
theorem quiet_handOn {z s a1} (h : Quiet z s) : Quiet z (handOn s a1) := by
  unfold handOn
  exact quiet_ite (quiet_offerFrame h) (quiet_updFrm h _ _)
theorem quiet_dropFromQueues {z s a1 a2 a3} (h : Quiet z s) : Quiet z (dropFromQueues s a1 a2 a3) := by
  unfold dropFromQueues
  extract_lets +onlyGivenNames u0
  exact quiet_updPort h _ _ _
theorem quiet_dropFromWaits {z s a1} (h : Quiet z s) : Quiet z (dropFromWaits s a1) := by
  unfold dropFromWaits
  extract_lets +onlyGivenNames u0
  exact quiet_mk h rfl
theorem quiet_resprayOne {z a0 a1 s a3} (h : Quiet z s) : Quiet z (resprayOne a0 a1 s a3) := by
  unfold resprayOne
  extract_lets +onlyGivenNames u0
  have h1 : Quiet z u0 := quiet_offMesh (quiet_freeRegion (quiet_coreCount h))
  clear_value u0
  extract_lets +onlyGivenNames u2
  have h3 : Quiet z u2 := quiet_updFrm h1 _ _
  clear_value u2
  extract_lets +onlyGivenNames u4
  clear_value u4
  split
  · extract_lets +onlyGivenNames u5
    have h6 : Quiet z u5 := quiet_parityMiss h3
    clear_value u5
    exact quiet_discardFrame (quiet_mirrorDrop h6)
  · exact quiet_lookupDrop h3
  · split
    · rename_i y7 y8 y9
      have h10 := quiet_of_snd y9 (quiet_sprayPlace h3)
      exact quiet_handOn h10
    · rename_i y11 y12 y13
      have h14 := quiet_of_snd y13 (quiet_sprayPlace h3)
      exact h14
theorem quiet_resprayPort {z s a1 a2} (h : Quiet z s) : Quiet z (resprayPort s a1 a2) := by
  unfold resprayPort
  extract_lets +onlyGivenNames u0 u1
  clear_value u0 u1
  exact quiet_foldl (quiet_dropFromWaits (quiet_dropFromQueues h)) (fun x2 x3 h4 => quiet_resprayOne h4)
theorem quiet_endCut {z s a1 a2} (h : Quiet z s) : Quiet z (endCut s a1 a2) := by
  unfold endCut
  extract_lets +onlyGivenNames u0
  clear_value u0
  refine quiet_ite ?_ (quiet_discardFrame (quiet_dropFromQueues h))
  extract_lets +onlyGivenNames u1
  have h2 : Quiet z u1 := quiet_emit (quiet_yfpCount h) _
  clear_value u1
  exact quiet_discardFrame (quiet_updPort h2 _ _ _)
theorem quiet_endBad {z s a1 a2} (h : Quiet z s) : Quiet z (endBad s a1 a2) := by
  unfold endBad
  extract_lets +onlyGivenNames u0
  clear_value u0
  refine quiet_ite h (quiet_ite (quiet_ite (quiet_updFrm h _ _) (quiet_endCut h)) ?_)
  extract_lets +onlyGivenNames u1
  clear_value u1
  exact quiet_discardFrame (quiet_foldl (quiet_dropFromWaits h) (fun x2 x3 h4 => quiet_discardFrame h4))
theorem quiet_truncateRx {z s a1 a2} (h : Quiet z s) : Quiet z (truncateRx s a1 a2) := by
  unfold truncateRx
  split
  · exact h
  · exact quiet_endBad (quiet_yfpCount (quiet_updPort h _ _ _))
theorem quiet_truncateTx {z s a1 a2} (h : Quiet z s) : Quiet z (truncateTx s a1 a2) := by
  unfold truncateTx
  split
  · exact h
  · exact quiet_discardFrame (quiet_coreCount (quiet_updPort h _ _ _))
theorem quiet_holdOrdered {z s a1 a2} (h : Quiet z s) : Quiet z (holdOrdered s a1 a2) := by
  unfold holdOrdered
  extract_lets +onlyGivenNames u0 u1
  clear_value u0 u1
  extract_lets +onlyGivenNames u2
  have h3 : Quiet z u2 := quiet_foldl (quiet_dropFromQueues h) (fun x4 x5 h6 => quiet_updFrm h6 _ _)
  clear_value u2
  exact quiet_countN (quiet_updPort h3 _ _ _) _ _ (.inl (by simp only [R.CORE_COUNT]; omega))
theorem quiet_skipMcast {z s a1 a2} (h : Quiet z s) : Quiet z (skipMcast s a1 a2) := by
  unfold skipMcast
  extract_lets +onlyGivenNames u0
  clear_value u0
  exact quiet_foldl (quiet_dropFromWaits (quiet_dropFromQueues h)) (fun x1 x2 h3 => quiet_discardFrame h3)
theorem quiet_clearRxPause {z s a1 a2} (h : Quiet z s) : Quiet z (clearRxPause s a1 a2) := by
  unfold clearRxPause
  exact quiet_ite (quiet_updPort (quiet_setF h _ _ _ (.inl (by simp only [R.PORT_FC_STATUS]; omega))) _ _ _) h
theorem quiet_portDown {z s a1 a2} (h : Quiet z s) : Quiet z (portDown s a1 a2) := by
  unfold portDown
  refine quiet_ite ?_ h
  extract_lets +onlyGivenNames u0
  have h1 : Quiet z u0 := quiet_truncateTx (quiet_clearRxPause (quiet_updPort (quiet_setPortState h) _ _ _))
  clear_value u0
  exact quiet_ite (quiet_holdOrdered (quiet_skipMcast (quiet_resprayPort h1))) h1
theorem quiet_losePort {z s a1 a2} (h : Quiet z s) : Quiet z (losePort s a1 a2) := by
  unfold losePort
  exact quiet_ite (quiet_portDown (quiet_truncateRx h)) h
theorem quiet_setFarAdmit {z s a1 a2 a3} (h : Quiet z s) : Quiet z (setFarAdmit s a1 a2 a3) := by
  unfold setFarAdmit
  exact quiet_setF h _ _ _ (far_laneStatus _ _)
theorem quiet_ringParked {z s a1 a2 a3} (h : Quiet z s) : Quiet z (ringParked s a1 a2 a3) := by
  unfold ringParked
  extract_lets +onlyGivenNames u0
  have hr : Far u0 := far_laneStatus _ _
  clear_value u0
  split
  · exact quiet_updLane (quiet_setF (quiet_setF (quiet_setF h _ _ _ hr) _ _ _ hr) _ _ _ hr) _ _ _
  · exact quiet_setF (quiet_setF (quiet_setF h _ _ _ hr) _ _ _ hr) _ _ _ hr
theorem quiet_ringsParked {z s a1 a2} (h : Quiet z s) : Quiet z (ringsParked s a1 a2) := by
  unfold ringsParked
  exact quiet_ringParked (quiet_ringParked h)
theorem quiet_showStuck {z s a1 a2} (h : Quiet z s) : Quiet z (showStuck s a1 a2) := by
  unfold showStuck
  split
  · exact quiet_ite (quiet_setLaneState h) h
  · exact h
theorem quiet_noteLines {z s a1} (h : Quiet z s) (hm : 8 ≤ a1) : Quiet z (noteLines s a1) := by
  unfold noteLines
  extract_lets +onlyGivenNames u0
  clear_value u0
  exact quiet_setF h _ _ _ (.inl (by simp only [R.HOLD_SCRUB_STATUS]; omega))
theorem quiet_mendBad {z s a1} (h : Quiet z s) : Quiet z (mendBad s a1) := by
  unfold mendBad
  extract_lets +onlyGivenNames u0 u1
  have h1 : Quiet z u1 := quiet_mk h rfl
  clear_value u0 u1
  exact quiet_ite (quiet_noteLines (quiet_noteLines h1 (by decide)) (by decide)) h1
theorem quiet_holdWrite {z s a1 a2} (h : Quiet z s) : Quiet z (State.holdWrite s a1 a2) := by
  unfold State.holdWrite
  exact quiet_mendBad (quiet_mk h rfl)
theorem quiet_eccLog {z s a1 a2 a3} (h : Quiet z s) (hm : 8 ≤ a1) : Quiet z (eccLog s a1 a2 a3) := by
  unfold eccLog
  extract_lets +onlyGivenNames u0 u1
  clear_value u0 u1
  exact quiet_ite (quiet_mk h rfl) (quiet_setEvent h (.inl (by simp only [R.HOLD_EVENT]; omega)))
theorem quiet_fileHold {z s a1 a2 a3 a4} (h : Quiet z s) : Quiet z (fileHold s a1 a2 a3 a4) := by
  unfold fileHold
  exact quiet_fileRec h
theorem quiet_reportBad {z s a1 a2 a3} (h : Quiet z s) (hm : 8 ≤ a1) : Quiet z (reportBad s a1 a2 a3) := by
  unfold reportBad
  extract_lets +onlyGivenNames u0 u1 u2 u3
  have h3 : Quiet z u3 := quiet_mk h rfl
  clear_value u0 u1 u2 u3
  exact quiet_fileHold (quiet_setEvent (quiet_noteLines (quiet_eccLog h3 hm) hm) (.inl (by simp only [R.HOLD_EVENT]; omega)))
theorem quiet_meetBad {z s a1 a2 a3 a4} (h : Quiet z s) (hm : 8 ≤ a1) : Quiet z (meetBad s a1 a2 a3 a4).2 := by
  unfold meetBad
  extract_lets +onlyGivenNames u0
  clear_value u0
  exact quiet_pair (quiet_foldl h (fun x1 x2 h3 => quiet_reportBad h3 hm))
theorem quiet_putEntry {z s a1 a2} (h : Quiet z s) : Quiet z (putEntry s a1 a2) := by
  unfold putEntry
  exact quiet_holdWrite h
theorem quiet_touchBucket {z s a1 a2} (h : Quiet z s) (hm : 8 ≤ a1) : Quiet z (touchBucket s a1 a2) := by
  unfold touchBucket
  extract_lets +onlyGivenNames u0
  clear_value u0
  extract_lets +onlyGivenNames u1
  have h2 : Quiet z u1 := quiet_count h _ (.inl (by simp only [R.HOLD_COUNT]; omega))
  clear_value u1
  exact quiet_mk h2 rfl
theorem quiet_probe {z a0 a1 a2 a3 a4 a5 s} (h : Quiet z s) (hm : 8 ≤ a0) : Quiet z (probe a0 a1 a2 a3 a4 a5 s).2 := by
  induction a4 generalizing a5 s with
  | zero => exact h
  | succ n ih =>
    unfold probe
    extract_lets +onlyGivenNames u0 u1
    have h1 : Quiet z u1 := quiet_touchBucket h hm
    clear_value u1
    split
    · rename_i y e
      exact quiet_of_snd e (quiet_meetBad h1 hm)
    · rename_i y e
      have h2 := quiet_of_snd e (quiet_meetBad h1 hm)
      split
      · exact h2
      · exact ih h2
theorem quiet_lookupPending {z s a1 a2} (h : Quiet z s) (hm : 8 ≤ a1) : Quiet z (lookupPending s a1 a2).2 := by
  unfold lookupPending
  exact quiet_probe h hm
theorem quiet_setRows {z s a1 a2 a3} (h : Quiet z s) (hm : 8 ≤ a1) : Quiet z (setRows s a1 a2 a3) := by
  unfold setRows
  refine quiet_wr ?_ (R.HOLD_POOL_USED a1 a2) _ (.inl (by simp only [R.HOLD_POOL_USED]; omega))
  exact quiet_mk h rfl
theorem quiet_freeRow {z s a1 a2 a3} (h : Quiet z s) (hm : 8 ≤ a1) : Quiet z (freeRow s a1 a2 a3) := by
  unfold freeRow
  exact quiet_setRows h hm
theorem quiet_freePending {z s a1 a2} (h : Quiet z s) : Quiet z (freePending s a1 a2) := by
  unfold freePending
  extract_lets +onlyGivenNames u0
  clear_value u0
  refine quiet_foldl h (fun x1 x2 h3 => ?_)
  extract_lets +onlyGivenNames u4
  have hm : 8 ≤ u4 := Nat.le_add_right _ _
  clear_value u4
  split
  · rename_i y5 y6 y7 y8 y9
    have h10 := quiet_of_snd y9 (quiet_lookupPending h3 hm)
    exact quiet_freeRow (quiet_putEntry h10) hm
  · rename_i y11 y12 y13 y14 y15
    have h16 := quiet_of_snd y15 (quiet_lookupPending h3 hm)
    exact h16
theorem quiet_releaseLocks {z s a1 a2} (h : Quiet z s) : Quiet z (releaseLocks s a1 a2) := by
  unfold releaseLocks
  exact quiet_mk h rfl
theorem holdDie_ge (s : State) (key : Nat) : 8 ≤ s.holdDie key := Nat.le_add_right _ _

theorem quiet_discardStaged {z s a1 a2} (h : Quiet z s) : Quiet z (discardStaged s a1 a2) := by
  unfold discardStaged
  extract_lets +onlyGivenNames u0 u1 u2
  have hd : ∀ m ∈ u2, 8 ≤ m := by
    intro m hm
    obtain ⟨k, _, rfl⟩ := List.mem_map.mp (List.mem_dedup.mp hm)
    exact holdDie_ge s k
  clear_value u0 u1 u2
  extract_lets +onlyGivenNames u3
  have h4 : Quiet z u3 := quiet_foldl_mem (quiet_freePending h) fun x5 x6 hm h7 =>
    have := hd x6 hm
    quiet_count h7 _ (.inl (by simp only [R.HOLD_COUNT]; omega))
  clear_value u3
  exact quiet_releaseLocks (quiet_mk h4 rfl)

theorem quiet_freeLoad {z s o} (h : Quiet z s) : Quiet z (freeLoad s o) := by
  unfold freeLoad
  refine quiet_foldl h fun t x ht => quiet_ite ht ?_
  have hm := holdDie_ge t x.1
  dsimp only
  split
  · rename_i e
    exact quiet_freeRow (quiet_putEntry (quiet_of_snd e (quiet_lookupPending ht hm))) hm
  · rename_i e
    exact quiet_of_snd e (quiet_lookupPending ht hm)

theorem quiet_dropLoads (s : State) : Quiet s (dropLoads s) :=
  quiet_foldl (.refl s) fun _ _ h => quiet_ite (quiet_freeLoad h) h

theorem quiet_dropHoldOps (s : State) : Quiet s (dropHoldOps s) :=
  quiet_mk (quiet_foldl (.refl s) fun _ _ h => quiet_ite h (quiet_discardStaged h)) rfl

/-! ## Lanes that leave service, which the time unit hears of -/

/-- As quiet, but for the time unit. -/
def Aside (z s : State) : Prop := Quiet { z with time := s.time } s

theorem Aside.refl (s : State) : Aside s s := Quiet.refl s

theorem Aside.of_quiet {z s t : State} (h : Aside z s) (q : Quiet s t) : Aside z t := by
  rw [Aside, q.time]
  exact h.trans q

theorem Aside.of_time {z s : State} (h : Aside z s) (t : TimeUnit) : Aside z { s with time := t } :=
  ⟨h.regs, rfl, h.pwr, h.mgmt, h.units, h.book, h.host⟩

theorem Aside.trans {z s t : State} (h : Aside z s) (k : Aside s t) : Aside z t :=
  Quiet.trans (s := { s with time := t.time }) (Aside.of_time h t.time) k

theorem Aside.rd {z s : State} (h : Aside z s) {r : RegRef} (hr : r.addr < 0x1508010) (hc : r.addr ≠ R.CS_RING_LOST.addr) :
    s.rd r = z.rd r := Quiet.rd (z := { z with time := s.time }) h hr hc

theorem aside_foldl {α : Type} {z : State} {g : State → α → State} {l : List α} {s : State} (h : Aside z s)
    (hg : ∀ t a, Aside z t → Aside z (g t a)) : Aside z (l.foldl g s) := by
  induction l generalizing s with
  | nil => exact h
  | cons a l ih => exact ih (hg s a h)

theorem aside_ite {z s t : State} {c : Prop} [Decidable c] (h : Aside z s) (k : Aside z t) : Aside z (if c then s else t) := by
  split
  · exact h
  · exact k

section
variable {z s : State} {d p n : Nat} (h : Aside z s)
include h

theorem aside_refreshUp : Aside z (refreshUp s d p) := by
  have h1 : ∀ x, Aside z (s.setF (R.PORT_LANE_STATUS d p) F.PORT_LANE_STATUS_UP x) := fun x =>
    h.of_quiet (quiet_setF (.refl s) _ _ _ (.inl (by simp only [R.PORT_LANE_STATUS]; omega)))
  refine aside_ite h (aside_ite ?_ (aside_ite ((h1 _).of_quiet (quiet_flowPort (quiet_updPort (.refl _) _ _ _))) (h1 _)))
  exact ((h1 _).of_time _).of_quiet (quiet_losePort (.refl _))

theorem aside_setTxMask {m : Nat} : Aside z (setTxMask s d p m) :=
  aside_refreshUp (h.of_quiet (quiet_setF (.refl s) _ _ _ (.inl (by simp only [R.PORT_LANE_STATUS]; omega))))

theorem aside_sendLaneSet {m : Nat} : Aside z (sendLaneSet s d p m) := by
  unfold sendLaneSet
  refine aside_ite h (aside_ite (aside_setTxMask (h.of_quiet (quiet_updPort (.refl s) _ _ _))) ?_)
  refine aside_foldl (h.of_quiet (quiet_mk (.refl s) rfl)) fun t x ht => ?_
  refine aside_foldl (ht.of_quiet (quiet_updLane (.refl t) _ _ _)) fun u y hu => ?_
  exact hu.of_quiet (quiet_queueCtl (.refl u))

theorem aside_dropTxLane : Aside z (dropTxLane s d p n) := aside_ite (aside_sendLaneSet h) h

theorem aside_loseRxLane : Aside z (loseRxLane s d n) := by
  unfold loseRxLane
  split
  · exact h
  · exact aside_ite h (aside_refreshUp (h.of_quiet (quiet_queueAll (quiet_updPort (.refl s) _ _ _))))

theorem aside_leaveStripes : Aside z (leaveStripes s d n) := by
  unfold leaveStripes
  split
  · exact h
  · exact aside_loseRxLane ((aside_dropTxLane h).of_quiet (quiet_setFarAdmit (.refl _)))

theorem aside_holdLane : Aside z (holdLane s d n) := by
  have h1 : Aside z (leaveStripes (ringsParked s d n) d n) := aside_leaveStripes (h.of_quiet (quiet_ringsParked (.refl s)))
  unfold holdLane
  exact h1.of_quiet (quiet_updLane (quiet_setLaneState (.refl _)) _ _ _)

theorem aside_startStrip : Aside z (startStrip s d n) := by
  have h1 : Aside z (ringsParked ((leaveStripes s d n).laneCount d n 2) d n) :=
    (aside_leaveStripes h).of_quiet (quiet_ringsParked (quiet_laneCount (.refl _)))
  unfold startStrip
  exact h1.of_quiet (quiet_updLane (quiet_setLaneState (.refl _)) _ _ _)

theorem aside_freeLane : Aside z (freeLane s d n) := by
  unfold freeLane
  have hs : ∀ st, Aside z (s.setLaneState d n st) := fun st => h.of_quiet (quiet_setLaneState (.refl s))
  exact aside_ite h (aside_ite (aside_ite (aside_startStrip h) (aside_ite h ((hs _).of_quiet (quiet_showStuck (.refl _))))) (hs _))

theorem aside_writeExclude {v : Bool} : Aside z (writeExclude d n v s) := by
  have h1 : ∀ x, Aside z (s.setF (R.LANE_CTRL (laneEngine d n) (laneLocal n)) F.LANE_CTRL_EXCLUDE x) := fun x =>
    h.of_quiet (quiet_setF (.refl s) _ _ _ (.inl (by simp only [R.LANE_CTRL]; omega)))
  exact aside_ite h (aside_ite (aside_holdLane (h1 _)) (aside_ite (aside_freeLane (h1 _)) (h1 _)))

end

end Sys2Proof.Machine
end

section
/-! PROOFS. What the retired units change when a reset reapplies them (R356), and what each body of a reset leaves (R417, R424, R453). -/

namespace Sys2Proof.Machine

/-- As aside, but for DIE_STATUS and the status registers of DMA channels, which lie at offset 4 of their blocks; a low PWR_GOOD stays so. -/
structure Spared (z s : State) : Prop where
  regs : ∀ a, a < 0x1508010 → a ≠ R.CS_RING_LOST.addr → a ≠ R.DIE_STATUS.addr → a % 256 ≠ 4 → ∀ d, sget s.regs a d = sget z.regs a d
  good : z.pwrGood = false → s.pwrGood = false
  pwr : s.pwr = z.pwr
  mgmt : s.mgmt = z.mgmt
  units : s.integ.units = z.integ.units
  book : s.integ.book = z.integ.book
  host : { s.host with csSeq := 0 } = { z.host with csSeq := 0 }

theorem Spared.refl (s : State) : Spared s s := ⟨fun _ _ _ _ _ _ => rfl, id, rfl, rfl, rfl, rfl, rfl⟩

theorem Spared.trans {z s t : State} (h : Spared z s) (k : Spared s t) : Spared z t :=
  ⟨fun a ha hc hs h4 d => (k.regs a ha hc hs h4 d).trans (h.regs a ha hc hs h4 d), fun hg => k.good (h.good hg), k.pwr.trans h.pwr,
    k.mgmt.trans h.mgmt, k.units.trans h.units, k.book.trans h.book, k.host.trans h.host⟩

theorem Spared.rd {z s : State} (h : Spared z s) {r : RegRef} (hr : r.addr < 0x1508010) (hc : r.addr ≠ R.CS_RING_LOST.addr)
    (hs : r.addr ≠ R.DIE_STATUS.addr) (h4 : r.addr % 256 ≠ 4) : s.rd r = z.rd r := h.regs _ hr hc hs h4 _

theorem pwrGood_of_rd {z s : State} (h : s.rd R.PWR_STATUS = z.rd R.PWR_STATUS) : s.pwrGood = z.pwrGood := bit_of_rd h _

theorem Aside.spared {z s : State} (h : Aside z s) : Spared z s :=
  ⟨fun a ha hc _ _ d => h.regs a ha hc d, fun hg => (pwrGood_of_rd (h.rd (by decide) (by decide))).trans hg, h.pwr, h.mgmt, h.units,
    h.book, h.host⟩

theorem Quiet.spared {z s : State} (h : Quiet z s) : Spared z s := ((Aside.refl z).of_quiet h).spared

/-! ## The state of a retired channel -/

/-- A map reads alike for two defaults, or gives each back. -/
theorem sget_default {α : Type} (m : SMap α) (a : Nat) (d e : α) : sget m a d = sget m a e ∨ (sget m a d = d ∧ sget m a e = e) := by
  induction m with
  | nil => exact .inr ⟨rfl, rfl⟩
  | cons x m ih =>
    obtain ⟨k, v⟩ := x
    unfold sget
    split
    · exact .inl rfl
    · exact ih

/-- Writing the state of a channel leaves a low PWR_GOOD low, wherever the channel's register stands. -/
theorem setF_dmaState_good (s : State) (c : Nat) (h : s.pwrGood = false) :
    (s.setF (R.DMA_CH_STATUS c) F.DMA_CH_STATUS_STATE 4).pwrGood = false := by
  by_cases ha : R.PWR_STATUS.addr = (R.DMA_CH_STATUS c).addr
  · have hv : F.DMA_CH_STATUS_STATE.put (s.rd (R.DMA_CH_STATUS c)) 4 ≠ (R.DMA_CH_STATUS c).reset := by
      intro he
      have hg := Fld_get_put F.DMA_CH_STATUS_STATE (s.rd (R.DMA_CH_STATUS c)) 4 (by decide) (by decide)
      rw [he] at hg
      exact absurd (show F.DMA_CH_STATUS_STATE.get 0 = 4 from hg) (by decide)
    have hr : (s.setF (R.DMA_CH_STATUS c) F.DMA_CH_STATUS_STATE 4).rd R.PWR_STATUS =
        F.DMA_CH_STATUS_STATE.put (s.rd (R.DMA_CH_STATUS c)) 4 := by
      have hs := rd_wr_same s (R.DMA_CH_STATUS c) (F.DMA_CH_STATUS_STATE.put (s.rd (R.DMA_CH_STATUS c)) 4)
      rcases sget_default (s.setF (R.DMA_CH_STATUS c) F.DMA_CH_STATUS_STATE 4).regs (R.DMA_CH_STATUS c).addr R.PWR_STATUS.reset
        (R.DMA_CH_STATUS c).reset with hd | ⟨_, hd⟩
      · rw [State.rd, ha, hd]
        exact hs
      · exact absurd (hs.symm.trans hd) hv
    have h0 : F.PWR_STATUS_PWR_GOOD.get (s.rd (R.DMA_CH_STATUS c)) ≠ 1 := by
      rcases sget_default s.regs R.PWR_STATUS.addr R.PWR_STATUS.reset (R.DMA_CH_STATUS c).reset with hd | ⟨_, hd⟩
      · have he : s.rd (R.DMA_CH_STATUS c) = s.rd R.PWR_STATUS := by rw [State.rd, State.rd, ← ha, hd]
        rw [he]
        exact fun hg => Bool.false_ne_true (h.symm.trans (beq_iff_eq.mpr hg))
      · have he : s.rd (R.DMA_CH_STATUS c) = (R.DMA_CH_STATUS c).reset := by rw [State.rd, ← ha, hd]
        rw [he]
        exact show F.PWR_STATUS_PWR_GOOD.get 0 ≠ 1 by decide
    rw [State.pwrGood, State.bit, State.fld, hr, Fld_get_put_ne _ _ _ _ (by decide) (by decide)]
    exact beq_eq_false_iff_ne.mpr h0
  · exact (pwrGood_of_rd (rd_setF_reg s ha _ _)).trans h

theorem spared_setDmaState (s : State) (c : Nat) : Spared s (setDmaState s c 4) := by
  obtain ⟨h, o, e⟩ := withCause_eq s (c + 1) fun t => t.setF (R.DMA_CH_STATUS c) F.DMA_CH_STATUS_STATE 4
  rw [setDmaState, e]
  refine ⟨fun a _ _ _ h4 d => sget_sput_ne _ ?_ _ _ d, setF_dmaState_good s c, rfl, rfl, rfl, rfl, rfl⟩
  simp only [R.DMA_CH_STATUS]
  omega

/-! ## Reapplying the retired units -/

theorem spared_foldl {α : Type} {z : State} {g : State → α → State} {l : List α} {s : State} (h : Spared z s)
    (hg : ∀ t a, Spared t (g t a)) : Spared z (l.foldl g s) := by
  induction l generalizing s with
  | nil => exact h
  | cons a l ih => exact ih (h.trans (hg s a))

theorem spared_ite {z s t : State} {c : Prop} [Decidable c] (h : Spared z s) (k : Spared z t) : Spared z (if c then s else t) := by
  split
  · exact h
  · exact k

theorem spared_setEngState (s : State) (e st : Nat) : Spared s (s.setEngState e st) :=
  (quiet_setF (.refl s) _ _ _ (.inl (by simp only [engReg, R.ENGINE_STATUS]; omega))).spared

theorem spared_setDieStatus (s : State) (f : Fld) (n : Nat) : Spared s (s.setF R.DIE_STATUS f n) :=
  ⟨fun _ _ _ hs _ d => sget_sput_ne _ hs _ _ d, fun h => (pwrGood_of_rd (rd_setF_reg s (by decide) _ _)).trans h, rfl, rfl, rfl, rfl, rfl⟩

theorem spared_retireEffect (s : State) {k : Nat} (d n : Nat) (hk : k = 6 ∨ k = 7 ∨ k = 8) : Spared s (retireEffect s k d n) := by
  rcases hk with rfl | rfl | rfl
  · exact spared_setDmaState s n
  · exact (aside_writeExclude (d := d) (n := n) (v := true) (.refl s)).spared
  · exact (aside_writeExclude (d := d) (n := n) (v := true) (.refl s)).spared

/-- What a retired unit keeps is set again, and all else stays. -/
theorem spared_reapply (s : State) : Spared s (reapply s) := by
  refine spared_foldl (.refl s) fun t u => ?_
  dsimp only
  refine spared_ite (.refl t) ?_
  generalize hs : (if u.1 / 2 ^ 20 = 4 then t.setEngState (u.1 / 2 ^ 16 % 16 * 16 + u.1 % 65536) 7
    else if u.1 / 2 ^ 20 = 6 ∨ u.1 / 2 ^ 20 = 7 ∨ u.1 / 2 ^ 20 = 8 then
      retireEffect t (u.1 / 2 ^ 20) (u.1 / 2 ^ 16 % 16) (u.1 % 65536) else t) = t1
  have h1 : Spared t t1 := by
    rw [← hs]
    split
    · exact spared_setEngState t _ _
    split
    · next hk => exact spared_retireEffect t _ _ hk
    · exact .refl t
  exact spared_ite (h1.trans (spared_setDieStatus t1 _ _)) h1

theorem reapply_of_none {s : State} (h : s.integ.units = []) : reapply s = s := by rw [reapply, h]; rfl

/-! ## Registers that a reset keeps -/

/-- What a filter keeps reads as before. -/
theorem sget_filter_in {α : Type} {m : SMap α} {p : Nat × α → Bool} {a : Nat} (d : α) (h : ∀ v, p (a, v) = true) :
    sget (m.filter p) a d = sget m a d := by
  induction m with
  | nil => rfl
  | cons e m ih =>
    obtain ⟨k, v⟩ := e
    by_cases ha : a = k
    · subst ha
      rw [List.filter_cons_of_pos (h v), sget, sget, if_pos rfl, if_pos rfl]
    · by_cases hp : p (k, v) = true
      · rw [List.filter_cons_of_pos hp, sget, sget, if_neg ha, if_neg ha, ih]
      · rw [List.filter_cons_of_neg hp, sget, if_neg ha, ih]

theorem keepRegs_rd (s : State) {p : Nat → Bool} {r : RegRef} (h : p r.addr = true) : (keepRegs p s).rd r = s.rd r := by
  exact sget_filter_in r.reset fun _ => h

/-! ## The bodies of the resets -/

section
variable (s : State)

/-- A cold reset before the retired units are set again. -/
def coldReady (s : State) : State :=
  let good := s.fld R.PWR_STATUS F.PWR_STATUS_PWR_GOOD
  let wd := s.fld R.MGMT_STATUS F.MGMT_STATUS_WD_RESTARTS
  let t : State := { State.reset with
    regs := s.regs.filter fun r => isAon r.1, cycle := s.cycle, nextFrame := s.nextFrame, lanes := darkLanes s,
    hostMem := s.hostMem, host := freshHost s, integ := coldInteg s.integ s.pwr.aon, mgmt := coldMgmt s.mgmt, out := s.out,
    free := s.free, pending := s.pending,
    time := { TimeUnit.init with savedFab := s.time.savedFab, savedTick := s.time.savedTick },
    pwr := { s.pwr with clk := 0, hold := false, request := [], stagger := [], released := false } }
  let t1 := (t.setF R.PWR_STATUS F.PWR_STATUS_PWR_GOOD good).setF R.MGMT_STATUS F.MGMT_STATUS_WD_RESTARTS wd
  let t2 := t1.setF R.INTEG_STATUS F.INTEG_STATUS_TIME_VALID (s.fld R.INTEG_STATUS F.INTEG_STATUS_TIME_VALID)
  t2.wr R.INTEG_LOG_TIME (BitVec.ofNat 32 s.logTime)

theorem coldBody_eq : coldBody s = reapply (coldReady s) := rfl

theorem coldBody_of_none (h : s.integ.units = []) : coldBody s = coldReady s := (coldBody_eq s).trans (reapply_of_none h)

/-- Always-on registers that the reset does not write itself keep their value. -/
theorem coldReady_rd {r : RegRef} (h : isAon r.addr = true) (hp : r.addr ≠ R.PWR_STATUS.addr) (hm : r.addr ≠ R.MGMT_STATUS.addr)
    (hi : r.addr ≠ R.INTEG_STATUS.addr) (hl : r.addr ≠ R.INTEG_LOG_TIME.addr) : (coldReady s).rd r = s.rd r := by
  unfold coldReady
  dsimp only
  rw [rd_wr_ne _ hl, rd_setF_reg _ hi, rd_setF_reg _ hm, rd_setF_reg _ hp]
  exact sget_filter_in r.reset fun _ => h

theorem coldReady_good : (coldReady s).fld R.PWR_STATUS F.PWR_STATUS_PWR_GOOD = s.fld R.PWR_STATUS F.PWR_STATUS_PWR_GOOD := by
  unfold coldReady
  dsimp only
  rw [fld_wr_reg _ (by decide), fld_setF_reg _ (by decide), fld_setF_reg _ (by decide), fld_setF_same _ _ _ _ (by decide) (by decide)]
  exact Nat.mod_eq_of_lt (fld_lt s _ _)

theorem coldBody_wakeEn : (coldBody s).rd R.WAKE_EN = s.rd R.WAKE_EN :=
  ((spared_reapply (coldReady s)).rd (by decide) (by decide) (by decide) (by decide)).trans
    (coldReady_rd s (by decide) (by decide) (by decide) (by decide) (by decide))

theorem coldBody_cause : (coldBody s).rd R.RESET_CAUSE = s.rd R.RESET_CAUSE :=
  ((spared_reapply (coldReady s)).rd (by decide) (by decide) (by decide) (by decide)).trans
    (coldReady_rd s (by decide) (by decide) (by decide) (by decide) (by decide))

theorem coldBody_good (h : s.pwrGood = false) : (coldBody s).pwrGood = false :=
  (spared_reapply (coldReady s)).good ((congrArg (· == 1) (coldReady_good s)).trans h)

theorem coldBody_pwr : (coldBody s).pwr = { s.pwr with clk := 0, hold := false, request := [], stagger := [], released := false } :=
  (spared_reapply (coldReady s)).pwr

theorem coldBody_mgmt : (coldBody s).mgmt = coldMgmt s.mgmt := (spared_reapply (coldReady s)).mgmt

theorem coldBody_units : (coldBody s).integ.units = s.integ.units := (spared_reapply (coldReady s)).units

theorem coldBody_book : (coldBody s).integ.book = s.integ.book := (spared_reapply (coldReady s)).book

theorem coldBody_ports (h : s.integ.units = []) : (coldBody s).ports = [] := by
  rw [coldBody_of_none s h]
  rfl

theorem coldBody_engines (h : s.integ.units = []) : (coldBody s).engines = [] := by
  rw [coldBody_of_none s h]
  rfl

/-- A warm reset before the retired units are set again. -/
def warmKept (s : State) : State := keepRegs (fun a => warmKeeps a && !isDiePwr a) (dropHoldOps (dropLoads s))

def warmReady (s : State) : State :=
  let s1 := warmKept s
  let up := s1.fld R.DIE_STATUS F.DIE_STATUS_DIE_UP
  let fault := s1.fld R.DIE_STATUS F.DIE_STATUS_DIE_FAULT
  let s2 := (s1.setF R.DIE_STATUS F.DIE_STATUS_DIE_UP (up / 256 * 256)).setF R.DIE_STATUS F.DIE_STATUS_DIE_FAULT (fault / 256 * 256)
  let s3 : State := { s2 with
    frames := [], links := [], ports := [], lanes := darkLanes s2, lany := [], dies := [], tabs := Tables.init, engines := [],
    knots := [], host := freshHost s2, pwr := { s2.pwr with clk := 0, hold := false, request := [] } }
  { s3 with pwr := { s3.pwr with stagger := s3.downList } }

theorem warmBody_eq : warmBody s = reapply (warmReady s) := rfl

theorem quiet_warmDrops : Quiet s (dropHoldOps (dropLoads s)) := (quiet_dropLoads s).trans (quiet_dropHoldOps _)

theorem warmBody_of_none (h : s.integ.units = []) : warmBody s = warmReady s :=
  (warmBody_eq s).trans (reapply_of_none ((quiet_warmDrops s).units.trans h))

theorem warmReady_mgmt : (warmReady s).mgmt = s.mgmt := (quiet_warmDrops s).mgmt

theorem warmReady_time : (warmReady s).time = s.time := (quiet_warmDrops s).time

theorem warmReady_rd {r : RegRef} (h : (warmKeeps r.addr && !isDiePwr r.addr) = true) (hs : r.addr ≠ R.DIE_STATUS.addr)
    (hr : r.addr < 0x1508010) (hc : r.addr ≠ R.CS_RING_LOST.addr) : (warmReady s).rd r = s.rd r := by
  have hk : (warmReady s).rd r = (warmKept s).rd r := (rd_setF_reg _ hs _ _).trans (rd_setF_reg _ hs _ _)
  rw [hk, warmKept, keepRegs_rd _ h]
  exact (quiet_warmDrops s).rd hr hc

/-- A reset of the endpoint before the retired units are set again. -/
def endpointReady (s : State) : State :=
  let s1 := keepRegs (fun a => !isEndpoint a) (dropLoads s)
  { s1 with host := freshHost s1, heldLow := s.heldLow, capHigh := s.capHigh }

theorem resetEndpoint_eq : resetEndpoint s = reapply (endpointReady s) := rfl

theorem resetEndpoint_host : { (resetEndpoint s).host with csSeq := 0 } =
    { HostIf.init with csSeq := 0, perst := s.host.perst, perstP3 := s.host.perstP3 } := by
  have h1 : { (endpointReady s).host with csSeq := 0 } =
      { HostIf.init with csSeq := 0, perst := (dropLoads s).host.perst, perstP3 := (dropLoads s).host.perstP3 } := rfl
  have hq := congrArg HostIf.perst (quiet_dropLoads s).host
  have hq3 := congrArg HostIf.perstP3 (quiet_dropLoads s).host
  have hp : (dropLoads s).host.perst = s.host.perst := hq
  have hp3 : (dropLoads s).host.perstP3 = s.host.perstP3 := hq3
  rw [resetEndpoint_eq, (spared_reapply _).host, h1, hp, hp3]

theorem resetEndpoint_mgmt : (resetEndpoint s).mgmt = s.mgmt := (spared_reapply (endpointReady s)).mgmt.trans (quiet_dropLoads s).mgmt

theorem resetEndpoint_cause : (resetEndpoint s).rd R.RESET_CAUSE = s.rd R.RESET_CAUSE := by
  have h1 : (endpointReady s).rd R.RESET_CAUSE = (keepRegs (fun a => !isEndpoint a) (dropLoads s)).rd R.RESET_CAUSE := rfl
  rw [resetEndpoint_eq, (spared_reapply _).rd (by decide) (by decide) (by decide) (by decide), h1, keepRegs_rd _ (by decide)]
  exact (quiet_dropLoads s).rd (by decide) (by decide)

/-- An entry to P2 before the retired units are set again. -/
def p2Halted (s : State) : State := haltAll (s.livePorts.foldl (fun s x => writeQuarantine x.1 x.2 s) s)

def p2Ready (s : State) : State :=
  let s2 := keepRegs (fun a => !isOptical a && !isMesh a) (p2Halted s)
  let s3 : State := { s2 with
    frames := [], links := [], ports := [], lanes := darkLanes s2, lany := [], dies := [],
    engines := s2.engines.map fun g => (g.1, retained g.2) }
  let up := s3.fld R.DIE_STATUS F.DIE_STATUS_DIE_UP
  (s3.setF R.DIE_STATUS F.DIE_STATUS_DIE_UP (up / 256 * 256)).setF R.OPTICAL_STATUS F.OPTICAL_STATUS_ENGINE_UP 0

theorem enterP2_eq : enterP2 s = reapply (p2Ready s) := rfl

theorem enterP2_optical : (enterP2 s).fld R.OPTICAL_STATUS F.OPTICAL_STATUS_ENGINE_UP = 0 := by
  rw [enterP2_eq, fld_of_rd ((spared_reapply _).rd (by decide) (by decide) (by decide) (by decide))]
  exact (fld_setF_same _ _ _ _ (by decide) (by decide)).trans (Nat.zero_mod _)

theorem p2Halted_units : (p2Halted s).integ.units = s.integ.units := by
  have hq : Units s.integ.units (s.livePorts.foldl (fun s x => writeQuarantine x.1 x.2 s) s) :=
    units_foldl rfl fun t x h => units_writeQuarantine h
  refine units_foldl hq fun t e h => units_ite ?_ h
  exact units_engEvent (units_setF (units_setEngState h) _ _ _)

theorem enterP2_of_none (h : s.integ.units = []) : enterP2 s = p2Ready s :=
  (enterP2_eq s).trans (reapply_of_none ((p2Halted_units s).trans h))

end


end Sys2Proof.Machine
end

section
/-! PROOFS. Power states and wakes (R110, R419 to R423). -/

namespace Sys2Proof.Machine

/-! ## The fields of the power status -/

section
variable (s : State) (n : Nat)

theorem setPState_pState (h : n < 16) : (setPState s n).pState = n :=
  (fld_setF_same _ _ _ _ (by decide) (by decide)).trans (Nat.mod_eq_of_lt h)

theorem setPState_pTarget : (setPState s n).pTarget = s.pTarget := fld_setF_ne _ _ _ _ _ (by decide) (by decide)

theorem setPTarget_pTarget (h : n < 16) : (setPTarget s n).pTarget = n :=
  (fld_setF_same _ _ _ _ (by decide) (by decide)).trans (Nat.mod_eq_of_lt h)

theorem setPTarget_pState : (setPTarget s n).pState = s.pState := fld_setF_ne _ _ _ _ _ (by decide) (by decide)

theorem setPLast_pState : (setPLast s n).pState = s.pState := fld_setF_ne _ _ _ _ _ (by decide) (by decide)

theorem setPLast_pTarget : (setPLast s n).pTarget = s.pTarget := fld_setF_ne _ _ _ _ _ (by decide) (by decide)

theorem setPLast_last (h : n < 256) : (setPLast s n).fld R.PWR_STATUS F.PWR_STATUS_LAST_STATUS = n :=
  (fld_setF_same _ _ _ _ (by decide) (by decide)).trans (Nat.mod_eq_of_lt h)

theorem pState_of_rd {s t : State} (h : s.rd R.PWR_STATUS = t.rd R.PWR_STATUS) : s.pState = t.pState := fld_of_rd h _

theorem pTarget_of_rd {s t : State} (h : s.rd R.PWR_STATUS = t.rd R.PWR_STATUS) : s.pTarget = t.pTarget := fld_of_rd h _

end

theorem rd_updPwr (s : State) (f : Power → Power) (r : RegRef) : (s.updPwr f).rd r = s.rd r := rfl

theorem fld_updPwr (s : State) (f : Power → Power) (r : RegRef) (g : Fld) : (s.updPwr f).fld r g = s.fld r g := rfl

theorem pState_updPwr (s : State) (f : Power → Power) : (s.updPwr f).pState = s.pState := rfl

theorem pTarget_updPwr (s : State) (f : Power → Power) : (s.updPwr f).pTarget = s.pTarget := rfl

/-! ## Requests (R419, R420) -/

section
variable {s : State} {k : Nat} {lp : Bool}

/-- A request's write of the low-power enable. -/
def lpSet (lp : Bool) (s : State) : State := s.setF R.PWR_CTRL F.PWR_CTRL_AON_LP_EN lp.toNat

theorem lpSet_pState : (lpSet lp s).pState = s.pState := pState_of_rd (rd_setF_reg s (by decide) _ _)

theorem lpSet_pTarget : (lpSet lp s).pTarget = s.pTarget := pTarget_of_rd (rd_setF_reg s (by decide) _ _)

theorem lpSet_downList : (lpSet lp s).downList = s.downList := by
  rw [State.downList, State.downList, lpSet, fld_setF_reg _ (by decide), fld_setF_reg _ (by decide)]

theorem writePwrCtrl_of_busy (h : s.pTarget ≠ 15) : writePwrCtrl k lp s = setPLast s stBadArgument := if_pos h

theorem writePwrCtrl_of_rest (h : s.pTarget = 15) (hk : k ≤ 3) : writePwrCtrl k lp s = requestState k (lpSet lp s) :=
  (if_neg (not_not.mpr h)).trans (if_pos hk)

theorem requestState_run (hk : k < 2) (h : s.pState ≠ 2) : requestState k s = setPLast (setPState s k) 0 := (if_pos hk).trans (if_neg h)

theorem requestState_restart (hk : k < 2) (h : s.pState = 2) :
    requestState k s = (setPTarget s k).updPwr fun p => { p with stagger := s.downList } := (if_pos hk).trans (if_pos h)

theorem requestState_refused (h : s.pState ≠ 2) (hm : s.mayEnterP2 = false) : requestState 2 s = setPLast s stBadArgument := by
  rw [requestState, if_neg (by decide), if_pos rfl, if_neg h, if_neg (Bool.eq_false_iff.mp hm)]

theorem requestState_p2 (h : s.pState ≠ 2) (hm : s.mayEnterP2 = true) : requestState 2 s =
    setPTarget ((enterP2 s).updPwr fun p => { p with stagger := [], level := if p.level = 3 then 0 else p.level }) 2 := by
  rw [requestState, if_neg (by decide), if_pos rfl, if_neg h, if_pos hm]

theorem requestState_same (h : s.pState = 2) :
    requestState 2 s = setPLast (s.drawCode (0 :: failCodes)).2 (s.drawCode (0 :: failCodes)).1 := by
  rw [requestState, if_neg (by decide), if_pos rfl, if_pos h]

theorem requestState_p3 (h : s.pState = 2) :
    requestState 3 s = (setPTarget s 3).updTime fun t => { t with savedFab := s.time.fab, savedTick := s.pwr.aon } := by
  rw [requestState, if_neg (by decide), if_neg (by decide), if_pos h]

theorem requestState_p3_refused (h : s.pState ≠ 2) : requestState 3 s = setPLast s stBadArgument := by
  rw [requestState, if_neg (by decide), if_neg (by decide), if_neg h]

/-- The restart of the dies from P2. -/
theorem restart_after (hk : k < 2) (hs : s.pState = 2) :
    (((setPTarget s k).updPwr fun p => { p with stagger := s.downList }).pState = 2) ∧
    (((setPTarget s k).updPwr fun p => { p with stagger := s.downList }).pTarget = k) := by
  rw [pState_updPwr, pTarget_updPwr, setPTarget_pState, setPTarget_pTarget _ _ (by omega)]
  exact ⟨hs, rfl⟩

theorem drawCode_regs (s : State) (cs : List Nat) : (s.drawCode cs).2.regs = s.regs := rfl

theorem run_after (hk : k < 2) (ht : s.pTarget = 15) : (setPLast (setPState s k) 0).pState = k ∧ (setPLast (setPState s k) 0).pTarget = 15 ∧
    (setPLast (setPState s k) 0).fld R.PWR_STATUS F.PWR_STATUS_LAST_STATUS = 0 := by
  rw [setPLast_pState, setPState_pState _ _ (by omega), setPLast_pTarget, setPState_pTarget]
  exact ⟨rfl, ht, setPLast_last _ _ (by decide)⟩

end

/-! ## Ends of transitions, and the entry to P3 (R420, R421) -/

section
variable {s : State}

theorem doTransitionDone_p2 (h : s.pTarget = 2) : doTransitionDone s = setPLast (setPTarget (setPState s 2) 15) 0 := if_pos h

theorem doTransitionDone_run (h : s.pTarget < 2) : doTransitionDone s =
    if s.pwr.stagger.isEmpty = true then setPLast (setPTarget (setPState s s.pTarget) 15) 0 else s :=
  (if_neg (Nat.ne_of_lt h)).trans (if_pos h)

theorem doTransitionDone_p3 (h : s.pTarget = 3) : doTransitionDone s = if s.pwr.latched = true then enterP3 s
    else (s.setBit R.PAD_RELEASE F.PAD_RELEASE_HELD).updPwr fun p => { p with latched := true } := by
  rw [doTransitionDone, if_neg (by rw [h]; decide), if_neg (by rw [h]; decide), if_pos h]

theorem doTransitionDone_of_rest (h : 3 < s.pTarget) : doTransitionDone s = s := by
  rw [doTransitionDone, if_neg (by omega), if_neg (by omega), if_neg (by omega)]

/-- The device after the last steps of an entry to P3. -/
def p3State (s : State) : State :=
  (driveRails (setPState (coldBody (setPLast (setPTarget s 15) 0)) 3) false).updPwr fun p => { p with level := 0 }

theorem p3State_pState : (p3State s).pState = 3 := setPState_pState _ 3 (by decide)

theorem p3State_wakeEn : (p3State s).rd R.WAKE_EN = s.rd R.WAKE_EN := by
  have h : (p3State s).rd R.WAKE_EN = (setPState (coldBody (setPLast (setPTarget s 15) 0)) 3).rd R.WAKE_EN := rfl
  rw [h, setPState, rd_setF_reg _ (by decide), coldBody_wakeEn, setPLast, rd_setF_reg _ (by decide), setPTarget, rd_setF_reg _ (by decide)]

theorem p3State_ports (h : s.integ.units = []) : (p3State s).ports = [] := coldBody_ports (setPLast (setPTarget s 15) 0) h

/-- No source asserts, and the timer is not enabled. -/
theorem enterP3_of_quiet (hw : s.pwr.waking = false) (ht : s.bit R.WAKE_EN F.WAKE_EN_TIMER = false) : enterP3 s = p3State s := by
  have hp : (p3State s).timerPassed = false := by rw [State.timerPassed, bit_of_rd p3State_wakeEn, ht, Bool.false_and]
  refine (if_neg (Bool.eq_false_iff.mp hw)).trans (if_neg ?_)
  exact Bool.eq_false_iff.mp hp

end

/-! ## Wake sources (R421, R423) -/

section
variable {s : State} {code : Nat}

theorem gpioWake_iff {i : Nat} {rising : Bool} : ((s.fld R.WAKE_EN F.WAKE_EN_GPIO).testBit i &&
    (s.fld R.WAKE_EN F.WAKE_EN_GPIO_POL).testBit i == rising) = true ↔
      (s.fld R.WAKE_EN F.WAKE_EN_GPIO).testBit i = true ∧ (s.fld R.WAKE_EN F.WAKE_EN_GPIO_POL).testBit i = rising := by
  rw [Bool.and_eq_true, beq_iff_eq]

theorem timerWake_iff : (s.timerPassed && !(s.pState != 3 && decide (s.rd64 R.WAKE_TIMER R.WAKE_TIMER_HI ≤ s.time.savedTick))) = true ↔
    s.bit R.WAKE_EN F.WAKE_EN_TIMER = true ∧ s.rd64 R.WAKE_TIMER R.WAKE_TIMER_HI ≤ s.pwr.aon ∧
      (s.pState = 3 ∨ s.time.savedTick < s.rd64 R.WAKE_TIMER R.WAKE_TIMER_HI) := by
  rw [State.timerPassed, Bool.and_eq_true, Bool.and_eq_true, decide_eq_true_eq, Bool.not_and, Bool.or_eq_true, Bool.not_eq_true',
    bne_eq_false_iff_eq, Bool.not_eq_true', decide_eq_false_iff_not, Nat.not_le, and_assoc]

theorem wakeSource_of_awake (h : s.pState ≠ 3) (ht : s.pTarget ≠ 3) : wakeSource code s = s := (if_neg h).trans (if_neg ht)

theorem wakeSource_of_waking (h : s.pState = 3) (hw : s.pwr.waking = true) : wakeSource code s = noteWake code false s := by
  rw [wakeSource, if_pos h, hw]
  rfl

theorem wakeSource_of_asleep (h : s.pState = 3) (hw : s.pwr.waking = false) : wakeSource code s = beginWake (noteWake code true s) := by
  rw [wakeSource, if_pos h, hw]
  rfl

theorem wakeSource_of_latched (h : s.pState ≠ 3) (ht : s.pTarget = 3) (hl : s.pwr.latched = true) :
    wakeSource code s = (noteWake code (!s.pwr.waking) s).updPwr fun p => { p with waking := true } := by
  rw [wakeSource, if_neg h, if_pos ht, if_pos hl]

theorem wakeSource_of_entering (h : s.pState ≠ 3) (ht : s.pTarget = 3) (hl : s.pwr.latched = false) :
    wakeSource code s = noteWake code true (cancelTransition s) := by
  rw [wakeSource, if_neg h, if_pos ht, if_neg (Bool.eq_false_iff.mp hl)]

theorem cancelTransition_rd (h : s.pTarget ≠ 15) (r : RegRef) : (cancelTransition s).rd r = (setPLast (setPTarget s 15) 1).rd r := by
  rw [cancelTransition, if_neg h, rd_updPwr]

theorem cancelled_status (h : s.pTarget = 3) : (cancelTransition s).pTarget = 15 ∧
    (cancelTransition s).fld R.PWR_STATUS F.PWR_STATUS_LAST_STATUS = 1 := by
  have hne : s.pTarget ≠ 15 := by
    rw [h]
    decide
  have he := cancelTransition_rd hne R.PWR_STATUS
  rw [pTarget_of_rd he, fld_of_rd he, setPLast_pTarget]
  exact ⟨setPTarget_pTarget _ _ (by decide), setPLast_last _ _ (by decide)⟩

/-- The source's bit is set. -/
def sourceSet (code : Nat) (s : State) : State :=
  s.setF R.WAKE_SOURCE F.WAKE_SOURCE_SOURCES (setMaskBit (s.fld R.WAKE_SOURCE F.WAKE_SOURCE_SOURCES) (code - 1) true)

theorem noteWake_first : noteWake code true s =
    ((sourceSet code s).setF R.WAKE_SOURCE F.WAKE_SOURCE_FIRST code).updPwr fun p => { p with wakeAt := s.cycle } := rfl

theorem sourceSet_first : (sourceSet code s).fld R.WAKE_SOURCE F.WAKE_SOURCE_FIRST = s.fld R.WAKE_SOURCE F.WAKE_SOURCE_FIRST :=
  fld_setF_ne _ _ _ _ _ (by decide) (by decide)

theorem noteWake_later (h : s.pwr.wakeAt ≠ s.cycle) : noteWake code false s = sourceSet code s := by
  unfold noteWake
  dsimp only
  rw [if_neg Bool.false_ne_true, if_neg h, sourceSet]

theorem noteWake_same (h : s.pwr.wakeAt = s.cycle) : noteWake code false s = (sourceSet code s).setF R.WAKE_SOURCE F.WAKE_SOURCE_FIRST
    (min code ((sourceSet code s).fld R.WAKE_SOURCE F.WAKE_SOURCE_FIRST)) := by
  unfold noteWake
  dsimp only
  rw [sourceSet_first, if_neg Bool.false_ne_true, if_pos h, sourceSet]

/-- Noting a source writes WAKE_SOURCE alone. -/
theorem noteWake_rd (first : Bool) {r : RegRef} (h : r.addr ≠ R.WAKE_SOURCE.addr) : (noteWake code first s).rd r = s.rd r := by
  have hs : (sourceSet code s).rd r = s.rd r := rd_setF_reg s h _ _
  cases first with
  | true => rw [noteWake_first, rd_updPwr, rd_setF_reg _ h, hs]
  | false =>
    by_cases hw : s.pwr.wakeAt = s.cycle
    · rw [noteWake_same hw, rd_setF_reg _ h, hs]
    · rw [noteWake_later hw, hs]

theorem sourceSet_source (h : code ≤ 9) (h1 : 1 ≤ code) : ((sourceSet code s).fld R.WAKE_SOURCE F.WAKE_SOURCE_SOURCES).testBit (code - 1) = true := by
  rw [sourceSet, fld_setF_same _ _ _ _ (by decide) (by decide), Nat.testBit_mod_two_pow, testBit_setMaskBit, if_pos rfl, Bool.and_true,
    decide_eq_true_eq]
  simp only [F.WAKE_SOURCE_SOURCES]
  omega

end

end Sys2Proof.Machine

open Sys2Proof Sys2Proof.Machine

/-- Settles O58: each branch of a request, of an end of transition and of a wake source is one equation; the registers of the always-on
domain outlast the entry to P3. -/
theorem powerStates : Obligations.PowerStates := by
  refine ⟨fun lp s => ⟨fun h => ?busy, fun h => ⟨fun hs => ?running, fun hs => ?inP2⟩⟩, fun s => ?ends, fun s hw ht => ?p3,
    fun s => next_eq rfl, fun i rising s => ⟨fun h => next_eq (if_pos (gpioWake_iff.mpr h)), fun h => next_eq (if_neg (mt gpioWake_iff.mp h))⟩,
    fun s => ⟨fun h => next_eq (if_pos (timerWake_iff.mpr h)), fun h => next_eq (if_neg (mt timerWake_iff.mp h))⟩,
    fun code s => ⟨wakeSource_of_awake, wakeSource_of_waking, wakeSource_of_asleep, fun h ht hl => ?latched, fun h ht hl => ?entering⟩,
    fun code s h1 h9 => ?notes⟩
  case busy =>
    exact ⟨next_eq (writePwrCtrl_of_busy h), next_eq (writePwrCtrl_of_busy h), next_eq (writePwrCtrl_of_busy h),
      next_eq (writePwrCtrl_of_busy h)⟩
  case running =>
    have hs1 : (lpSet lp s).pState ≠ 2 := fun e => hs (lpSet_pState.symm.trans e)
    have ht1 : (lpSet lp s).pTarget = 15 := lpSet_pTarget.trans h
    refine ⟨⟨_, next_eq ((writePwrCtrl_of_rest h (by decide)).trans (requestState_run (by decide) hs1)), run_after (by decide) ht1⟩,
      ⟨_, next_eq ((writePwrCtrl_of_rest h (by decide)).trans (requestState_run (by decide) hs1)), run_after (by decide) ht1⟩,
      fun hm => next_eq ((writePwrCtrl_of_rest h (by decide)).trans (requestState_refused hs1 hm)),
      fun hm => ⟨_, next_eq ((writePwrCtrl_of_rest h (by decide)).trans (requestState_p2 hs1 hm)), setPTarget_pTarget _ _ (by decide), ?_, rfl, ?_⟩,
      next_eq ((writePwrCtrl_of_rest h (by decide)).trans (requestState_p3_refused hs1))⟩
    · rw [setPTarget, fld_setF_reg _ (by decide)]
      exact enterP2_optical _
    · intro hu
      rw [enterP2_of_none (lpSet lp s) hu]
      exact ⟨rfl, rfl, rfl⟩
  case inP2 =>
    have hs1 : (lpSet lp s).pState = 2 := lpSet_pState.trans hs
    have ht1 : (lpSet lp s).pTarget = 15 := lpSet_pTarget.trans h
    have hd : ((lpSet lp s).drawCode (0 :: failCodes)).2.rd R.PWR_STATUS = (lpSet lp s).rd R.PWR_STATUS := rd_of_regs (drawCode_regs _ _) _
    obtain ⟨h0, t0⟩ := restart_after (k := 0) (by decide) hs1
    obtain ⟨h1, t1⟩ := restart_after (k := 1) (by decide) hs1
    exact ⟨⟨_, next_eq ((writePwrCtrl_of_rest h (by decide)).trans (requestState_restart (by decide) hs1)), h0, t0, lpSet_downList⟩,
      ⟨_, next_eq ((writePwrCtrl_of_rest h (by decide)).trans (requestState_restart (by decide) hs1)), h1, t1, lpSet_downList⟩,
      ⟨_, next_eq ((writePwrCtrl_of_rest h (by decide)).trans (requestState_same hs1)),
        (setPLast_pState _ _).trans ((pState_of_rd hd).trans hs1), (setPLast_pTarget _ _).trans ((pTarget_of_rd hd).trans ht1), rfl⟩,
      ⟨_, next_eq ((writePwrCtrl_of_rest h (by decide)).trans (requestState_p3 hs1)), (setPTarget_pState (lpSet lp s) 3).trans hs1,
        setPTarget_pTarget (lpSet lp s) 3 (by decide), rfl, rfl⟩⟩
  case ends =>
    refine ⟨fun h => ⟨_, next_eq (doTransitionDone_p2 h), ?_, ?_, setPLast_last _ _ (by decide)⟩,
      fun h hs => next_eq ((doTransitionDone_run h).trans (if_neg fun he => hs (List.isEmpty_iff.mp he))),
      fun h hs => ⟨_, next_eq ((doTransitionDone_run h).trans (if_pos (List.isEmpty_iff.mpr hs))), ?_, ?_⟩,
      fun h hl => ⟨_, next_eq ((doTransitionDone_p3 h).trans (if_neg (Bool.eq_false_iff.mp hl))), bit_setBit_same s _ _ rfl (by decide), rfl, ?_⟩,
      fun h hl => next_eq ((doTransitionDone_p3 h).trans (if_pos hl)), fun h => next_eq (doTransitionDone_of_rest h)⟩
    · rw [setPLast_pState, setPTarget_pState, setPState_pState _ _ (by decide)]
    · rw [setPLast_pTarget, setPTarget_pTarget _ _ (by decide)]
    · rw [setPLast_pState, setPTarget_pState, setPState_pState _ _ (by omega)]
    · rw [setPLast_pTarget, setPTarget_pTarget _ _ (by decide)]
    · have hr : (s.setBit R.PAD_RELEASE F.PAD_RELEASE_HELD).rd R.PWR_STATUS = s.rd R.PWR_STATUS := rd_setF_reg s (by decide) _ _
      rw [pTarget_updPwr, pTarget_of_rd hr, h]
  case p3 =>
    rw [enterP3_of_quiet hw ht]
    exact ⟨p3State_pState, rfl, rfl, p3State_ports, p3State_wakeEn⟩
  case latched =>
    rw [wakeSource_of_latched h ht hl]
    refine ⟨rfl, ?_⟩
    rw [pTarget_updPwr, pTarget_of_rd (noteWake_rd _ (by decide)), ht]
  case entering =>
    rw [wakeSource_of_entering h ht hl, pTarget_of_rd (noteWake_rd _ (by decide)), fld_of_rd (noteWake_rd _ (by decide))]
    exact cancelled_status ht
  case notes =>
    refine ⟨?_, ?_, fun h => ?_, fun h => ?_⟩
    · rw [noteWake_first, fld_updPwr, fld_setF_ne _ _ _ _ _ (by decide) (by decide)]
      exact sourceSet_source h9 h1
    · rw [noteWake_first, fld_updPwr]
      exact (fld_setF_same _ _ _ _ (by decide) (by decide)).trans (Nat.mod_eq_of_lt (Nat.lt_of_le_of_lt h9 (by decide)))
    · rw [noteWake_later h, sourceSet_first]
    · rw [noteWake_same h, sourceSet_first]
      exact (fld_setF_same _ _ _ _ (by decide) (by decide)).trans
        (Nat.mod_eq_of_lt (Nat.lt_of_le_of_lt ((Nat.min_le_left _ _).trans h9) (by decide)))
end

section
/-! PROOFS. Rails, the staggered start, adaptive voltage and temperature (R411 to R418, R444, R347). -/

namespace Sys2Proof.Machine

/-! ## Releasing the processor; rails -/

section
variable (s : State)

theorem release_eq : ∃ b, release s = { s with pwr := { s.pwr with released := b } } := by
  unfold release
  split
  · exact ⟨true, rfl⟩
  · exact ⟨s.pwr.released, rfl⟩

theorem ioUp_good : (s.setBit R.PWR_STATUS F.PWR_STATUS_PWR_GOOD).ioUp = (s.pwr.railEn && s.pwr.vaux) := by
  rw [State.ioUp, bit_setBit_same s _ _ rfl (by decide), Bool.true_and]
  rfl

/-- A power-on start begins as a cold reset. -/
def powerOnCold (s : State) : State := coldBody { s with regs := s.regs.filter fun r => r.1 == 0x01400004 }

theorem powerOnBody_ports (h : s.integ.units = []) : (powerOnBody s).ports = [] ∧ (powerOnBody s).engines = [] := by
  have hp : (powerOnBody s).ports = (powerOnCold s).ports := rfl
  have he : (powerOnBody s).engines = (powerOnCold s).engines := rfl
  rw [hp, he]
  exact ⟨coldBody_ports _ h, coldBody_engines _ h⟩

/-- The slot and the latched cause of a power-on start. -/
def slotted (slot brown : Nat) (t : State) : State :=
  (t.setF R.I3C_STATUS F.I3C_STATUS_SLOT slot).setF R.RESET_CAUSE F.RESET_CAUSE_AON_BROWNOUT brown

theorem slotted_slot {slot : Nat} (brown : Nat) (t : State) (h : slot < 16) : (slotted slot brown t).fld R.I3C_STATUS F.I3C_STATUS_SLOT = slot := by
  rw [slotted, fld_setF_reg _ (by decide), fld_setF_same _ _ _ _ (by decide) (by decide)]
  exact Nat.mod_eq_of_lt h

theorem slotted_brown (slot : Nat) {brown : Nat} (t : State) (h : brown < 2) :
    (slotted slot brown t).fld R.RESET_CAUSE F.RESET_CAUSE_AON_BROWNOUT = brown := by
  rw [slotted, fld_setF_same _ _ _ _ (by decide) (by decide)]
  exact Nat.mod_eq_of_lt h

theorem slotOf_lt : s.fld R.I3C_STATUS F.I3C_STATUS_SLOT < 16 := Fld_get_lt _ _

theorem doPowerOn_eq (slot : BitVec 4) : doPowerOn slot s =
    release (driveRails (slotted slot.toNat (s.fld R.RESET_CAUSE F.RESET_CAUSE_AON_BROWNOUT) (powerOnBody s)) true) := rfl

theorem doBrownout_eq : doBrownout s = release (driveRails
    ((slotted (s.fld R.I3C_STATUS F.I3C_STATUS_SLOT) 1 (powerOnBody s)).updPwr fun p => { p with tellBrown := true }) true) := rfl

theorem driveRails_fld (b : Bool) (r : RegRef) (f : Fld) : (driveRails s b).fld r f = s.fld r f := rfl

theorem driveRails_rd (b : Bool) (r : RegRef) : (driveRails s b).rd r = s.rd r := rfl

theorem emit_out (o : Out) : (s.emit o).out = o :: s.out := rfl

theorem driveRails_pwr (b : Bool) : (driveRails s b).pwr = { s.pwr with railEn := b } := rfl

theorem driveRails_out (b : Bool) : (driveRails s b).out = .pin "RAIL_EN" b :: s.out := rfl

theorem release_fld (r : RegRef) (f : Fld) : (release s).fld r f = s.fld r f := by
  obtain ⟨b, e⟩ := release_eq s
  rw [e]
  rfl

theorem release_out : (release s).out = s.out := by
  obtain ⟨b, e⟩ := release_eq s
  rw [e]

theorem release_ports : (release s).ports = s.ports := by
  obtain ⟨b, e⟩ := release_eq s
  rw [e]

theorem release_engines : (release s).engines = s.engines := by
  obtain ⟨b, e⟩ := release_eq s
  rw [e]

theorem release_railEn : (release s).pwr.railEn = s.pwr.railEn := by
  obtain ⟨b, e⟩ := release_eq s
  rw [e]

theorem release_vaux : (release s).pwr.vaux = s.pwr.vaux := by
  obtain ⟨b, e⟩ := release_eq s
  rw [e]

theorem release_tellBrown : (release s).pwr.tellBrown = s.pwr.tellBrown := by
  obtain ⟨b, e⟩ := release_eq s
  rw [e]

/-- The rails of a device whose VAUX has gone. -/
def unpowered (s : State) : State := driveRails ((powerOnBody s).updPwr fun p => { p with vaux := false, tellBrown := false }) false

theorem doVauxRemoval_eq : doVauxRemoval s =
    if s.pwr.tripped = true then (unpowered s).emit (.pin "THERMTRIP_N" true) else unpowered s := rfl

end

/-! ## PWR_GOOD (R411) -/

section
variable {s : State}

theorem doGoodRise_of_good (h : s.pwrGood = true) : doGoodRise s = s := if_pos h

theorem doGoodRise_of_low (h : s.pwrGood = false) : doGoodRise s =
    if (s.pwr.railEn && s.pwr.vaux && s.pwr.waking && s.pState == 3) = true then wakeStart (s.setBit R.PWR_STATUS F.PWR_STATUS_PWR_GOOD)
    else if s.pState = 3 then s.setBit R.PWR_STATUS F.PWR_STATUS_PWR_GOOD
    else release (s.setBit R.PWR_STATUS F.PWR_STATUS_PWR_GOOD) := by
  rw [← ioUp_good]
  exact if_neg (Bool.eq_false_iff.mp h)

theorem wakes_iff : (s.pwr.railEn && s.pwr.vaux && s.pwr.waking && s.pState == 3) = true ↔
    s.pwr.railEn = true ∧ s.pwr.vaux = true ∧ s.pwr.waking = true ∧ s.pState = 3 := by
  rw [Bool.and_eq_true, Bool.and_eq_true, Bool.and_eq_true, beq_iff_eq, and_assoc, and_assoc]

theorem freshHoldover_pwr : (freshHoldover s).pwr = s.pwr :=
  List.foldlRecOn (motive := fun t : State => t.pwr = s.pwr) (List.range 16)
    (fun t i => t.updLan (i / 2) (i % 2) fun l => { l with held := false }) rfl fun _ ih _ _ => ih

theorem timeEvent_pwr (f : Fld) : (timeEvent s f).pwr = s.pwr := by
  obtain ⟨h, o, e⟩ := setEvent_eq s 33 R.TIME_STATUS f
  rw [timeEvent, e]
  rfl

theorem updTime_pwr (s : State) (f : TimeUnit → TimeUnit) : (s.updTime f).pwr = s.pwr := rfl

theorem rd_updTime (s : State) (f : TimeUnit → TimeUnit) (r : RegRef) : (s.updTime f).rd r = s.rd r := rfl

theorem setTimeState_pwr (st : Nat) : (setTimeState s st).pwr = s.pwr := by
  unfold setTimeState
  generalize (if s.isRoot then tsLocked else st) = now
  dsimp only
  split
  · rfl
  · rw [freshHoldover_pwr, updTime_pwr, timeEvent_pwr, setF_pwr]

theorem timeEvent_rd (f : Fld) {r : RegRef} (h : r.addr ≠ R.TIME_STATUS.addr) : (timeEvent s f).rd r = s.rd r := by
  rw [timeEvent, setEvent, withCause_rd, State.setBit, rd_setF_reg s h]

theorem setTimeState_rd (st : Nat) {r : RegRef} (h : r.addr ≠ R.TIME_STATUS.addr) : (setTimeState s st).rd r = s.rd r := by
  unfold setTimeState
  generalize (if s.isRoot then tsLocked else st) = now
  dsimp only
  split
  · rfl
  · rw [rd_of_regs (freshHoldover_regs _), rd_updTime, timeEvent_rd _ h, rd_setF_reg s h]

/-- A device that is no root takes the state. -/
theorem setTimeState_of_plain {st : Nat} (h : s.isRoot = false) (hs : st < 16) : (setTimeState s st).timeState = st := by
  unfold setTimeState
  dsimp only
  rw [h, if_neg Bool.false_ne_true]
  split
  · assumption
  · rw [State.timeState, fld_of_rd (rd_of_regs (freshHoldover_regs _) _)]
    refine (fld_of_rd (s := timeEvent (s.setF R.TIME_STATUS F.TIME_STATUS_STATE st) F.TIME_STATUS_STATE_EVENT)
      (rd_of_regs (setEvent_regs _ _ _ _) _) _).trans ?_
    rw [State.setBit, fld_setF_ne _ _ _ _ _ (by decide) (by decide), fld_setF_same _ _ _ _ (by decide) (by decide)]
    exact Nat.mod_eq_of_lt hs

/-- The state in which a wake start sets the time state. -/
def wakeReady (s : State) : State :=
  ((setPState s 0).updPwr fun p => { p with waking := false, latched := false, released := true }).updTime fun t =>
    { t with fab := (s.time.savedFab + (s.pwr.aon + 2 ^ 64 - s.time.savedTick) % 2 ^ 64 * 40 * 2 ^ 56) % 2 ^ 120 }

theorem wakeStart_eq (s : State) : wakeStart s = setTimeState (wakeReady s) tsCoarse := rfl

theorem wakeReady_rd (r : RegRef) : (wakeReady s).rd r = (setPState s 0).rd r := by rw [wakeReady, rd_updTime, rd_updPwr]

theorem wakeReady_isRoot : (wakeReady s).isRoot = s.isRoot :=
  bit_of_rd ((wakeReady_rd _).trans (rd_setF_reg s (by decide) _ _)) _

theorem wakeStart_pState : (wakeStart s).pState = 0 := by
  rw [wakeStart_eq, pState_of_rd (setTimeState_rd _ (by decide)), pState_of_rd (wakeReady_rd _), setPState_pState _ _ (by decide)]

/-! ### The fall of PWR_GOOD -/

/-- PWR_GOOD reads low, and the cold reset is noted. -/
def fallen (s : State) : State :=
  (s.setF R.PWR_STATUS F.PWR_STATUS_PWR_GOOD 0).setBit R.RESET_CAUSE F.RESET_CAUSE_COLD_REG

/-- What runs when PWR_GOOD falls is absorbed or cancelled. -/
def fallState (s : State) : State :=
  if 4 ≤ s.pwr.level then (fallen s).setBit R.RESET_CAUSE F.RESET_CAUSE_ABSORBED else cancelTransition (fallen s)

/-- A cold reset is held. -/
def heldLow (s : State) : State := (fallState s).updPwr fun p => { p with level := max 4 p.level }

theorem heldLow_rd (r : RegRef) : (heldLow s).rd r = (fallState s).rd r := rd_updPwr _ _ _

theorem doGoodFall_of_low (h : s.pwrGood = false) : doGoodFall s = s := if_pos (by rw [h]; rfl)

theorem doGoodFall_of_off (h : s.pwrGood = true) (hr : s.pwr.railEn = false) :
    doGoodFall s = s.setF R.PWR_STATUS F.PWR_STATUS_PWR_GOOD 0 := by
  rw [doGoodFall, if_neg (by rw [h]; exact Bool.false_ne_true)]
  exact if_pos (by rw [hr]; rfl)

theorem doGoodFall_of_on (h : s.pwrGood = true) (hr : s.pwr.railEn = true) :
    doGoodFall s = coldBody (heldLow s) := by
  rw [doGoodFall, if_neg (by rw [h]; exact Bool.false_ne_true)]
  exact if_neg (by rw [hr]; exact Bool.false_ne_true)

/-- Cancelling a transition writes its fields of PWR_STATUS alone. -/
theorem cancelTransition_rd_other {r : RegRef} (h : r.addr ≠ R.PWR_STATUS.addr) : (cancelTransition s).rd r = s.rd r := by
  unfold cancelTransition
  split
  · rfl
  · rw [rd_updPwr, setPLast, rd_setF_reg _ h, setPTarget, rd_setF_reg _ h]

theorem cancelTransition_good : (cancelTransition s).pwrGood = s.pwrGood := by
  unfold cancelTransition
  split
  · rfl
  · refine (congrArg (· == 1) (fld_updPwr _ _ _ _)).trans ?_
    exact (bit_setF_ne _ _ _ _ _ (by decide) (by decide)).trans (bit_setF_ne _ _ _ _ _ (by decide) (by decide))

theorem cancelTransition_level : (cancelTransition s).pwr.level = s.pwr.level := by
  unfold cancelTransition
  split
  · rfl
  · rfl

theorem cancelTransition_units : (cancelTransition s).integ.units = s.integ.units := by
  unfold cancelTransition
  split
  · rfl
  · rfl

theorem fallen_good : (fallen s).pwrGood = false := by
  rw [State.pwrGood, fallen, State.setBit, bit_setF_reg _ (by decide)]
  exact bit_setF_same _ _ _ false rfl (by decide)

theorem fallen_cause : (fallen s).bit R.RESET_CAUSE F.RESET_CAUSE_COLD_REG = true := bit_setBit_same _ _ _ rfl (by decide)

theorem fallState_good : (fallState s).pwrGood = false := by
  unfold fallState
  split
  · exact (bit_setF_reg _ (by decide) _ _ _).trans fallen_good
  · exact cancelTransition_good.trans fallen_good

theorem fallState_cause : (fallState s).bit R.RESET_CAUSE F.RESET_CAUSE_COLD_REG = true := by
  unfold fallState
  split
  · exact (bit_setF_ne _ _ _ _ _ (by decide) (by decide)).trans fallen_cause
  · exact (bit_of_rd (cancelTransition_rd_other (by decide)) _).trans fallen_cause

theorem fallState_level : (fallState s).pwr.level = s.pwr.level := by
  unfold fallState
  split
  · rfl
  · exact cancelTransition_level

theorem fallState_units : (fallState s).integ.units = s.integ.units := by
  unfold fallState
  split
  · rfl
  · exact cancelTransition_units

end

/-! ## The staggered start (R412, R444) -/

section
variable {s : State} {temp : BitVec 16} {k : Nat} {rest : List Nat}

/-- A step of the staggered start is taken. -/
def stepped (rest : List Nat) (s : State) : State := s.updPwr fun p => { p with
  stagger := rest, stepAt := s.cycle + s.fld R.PWR_STAGGER F.PWR_STAGGER_STEP_US * 1600,
  level := if rest.isEmpty && decide (3 ≤ p.level) then 0 else p.level }

/-- The junction that a switch die reads at its start. -/
def firstSample (k : Nat) (temp : BitVec 16) (s : State) : State :=
  (s.setF (R.DIE_PWR_STATUS k) F.DIE_PWR_STATUS_TEMP temp.toNat).updPwr fun p => { p with dieTemp := sput p.dieTemp k temp.toNat 0 }

theorem doStagger_of_none (h : s.pwr.stagger = []) : doStagger temp s = s := by rw [doStagger, h]

theorem doStagger_of_next (h : s.pwr.stagger = k :: rest) : doStagger temp s =
    if s.cycle < s.pwr.stepAt then s
    else if 16 ≤ k then startOptical (k - 16) (stepped rest s)
    else if 8 ≤ k then startDie k (stepped rest s)
    else if 12500 ≤ temp.toInt then thermTrip (firstSample k temp (startDie k (stepped rest s)))
    else moveBand (firstSample k temp (startDie k (stepped rest s))) k temp.toInt := by
  rw [doStagger, h]
  rfl

theorem startDie_up (d : Nat) (h : d < 11) : (startDie d s).dieUp d = true := by
  have hu : ((s.setF R.DIE_STATUS F.DIE_STATUS_DIE_UP (setMaskBit (s.fld R.DIE_STATUS F.DIE_STATUS_DIE_UP) d true)).fld
      R.DIE_STATUS F.DIE_STATUS_DIE_UP).testBit d = true := by
    rw [fld_setF_same _ _ _ _ (by decide) (by decide), Nat.testBit_mod_two_pow, testBit_setMaskBit, if_pos rfl, Bool.and_true,
      decide_eq_true_eq]
    exact h
  have hr : R.DIE_STATUS.addr ≠ (R.DIE_PWR_STATUS d).addr := by simp only [R.DIE_STATUS, R.DIE_PWR_STATUS]; omega
  unfold startDie
  dsimp only
  split
  · rw [State.dieUp, fld_updPwr, fld_setF_reg _ hr]
    exact hu
  · exact hu

theorem startDie_rail (d : Nat) (h : d < 8) : (startDie d s).fld (R.DIE_PWR_STATUS d) F.DIE_PWR_STATUS_VDD_MV = 700 := by
  rw [startDie, if_pos h, fld_updPwr, fld_setF_same _ _ _ _ (by decide) (by decide)]
  rfl

/-! ## Adaptive voltage (R414) -/

theorem askRail_rail (d n : Nat) (mv : BitVec 10) : (askRail s d n mv).fld (R.DIE_PWR_STATUS d) F.DIE_PWR_STATUS_VDD_MV = mv.toNat := by
  rw [askRail, fld_updPwr, fld_setF_same _ _ _ _ (by decide) (by decide)]
  exact Nat.mod_eq_of_lt mv.isLt

theorem askRail_request (d n : Nat) (mv : BitVec 10) : sget (askRail s d n mv).pwr.request d 0 = max 620 (min 780 n) :=
  sget_sput_same s.pwr.request d (max 620 (min 780 n)) 0

/-- A die whose rail falls by a step, and the time of the next. -/
def lowered (d : Nat) (mv : BitVec 10) (s : State) : State := (askRail s d (sget s.pwr.request d 0 - 5) mv).updPwr fun p =>
  { p with lowerAt := sput p.lowerAt d (s.cycle + 1600000) 0 }

theorem lowered_rail (d : Nat) (mv : BitVec 10) : (lowered d mv s).fld (R.DIE_PWR_STATUS d) F.DIE_PWR_STATUS_VDD_MV = mv.toNat := by
  rw [lowered, fld_updPwr, askRail_rail]

theorem updPwr_pwr (f : Power → Power) : (s.updPwr f).pwr = f s.pwr := rfl

theorem lowered_request (d : Nat) (mv : BitVec 10) : sget (lowered d mv s).pwr.request d 0 = max 620 (min 780 (sget s.pwr.request d 0 - 5)) := by
  rw [lowered, updPwr_pwr]
  exact askRail_request _ _ _

theorem lowered_at (d : Nat) (mv : BitVec 10) : sget (lowered d mv s).pwr.lowerAt d 0 = s.cycle + 1600000 := by
  rw [lowered, updPwr_pwr]
  generalize s.cycle + 1600000 = at'
  exact sget_sput_same _ d at' 0

theorem lower_iff {d : Nat} : (s.dieUp d && decide (sget s.pwr.lowerAt d 0 ≤ s.cycle)) = true ↔
    s.dieUp d = true ∧ sget s.pwr.lowerAt d 0 ≤ s.cycle := by rw [Bool.and_eq_true, decide_eq_true_eq]

theorem execLower_eq (d : Fin 8) (mv : BitVec 10) (s : State) : exec (.avsLowerStep d mv) s =
    .next (if (s.dieUp d && decide (sget s.pwr.lowerAt d 0 ≤ s.cycle)) = true then lowered d mv s else s) := rfl

theorem execMargin_eq (d : Fin 8) (n : Fin 33) (mv : BitVec 10) (s : State) : exec (.avsMarginChange d n mv) s =
    .next (if s.dieUp d = true then askRail s d (sget s.pwr.request d 0 + 5 * n) mv else s) := rfl

/-- The voltage a die measures is held. -/
def heldRail (d : Nat) (s : State) : State :=
  (s.drawFree 8).2.updPwr fun p => { p with request := sput p.request d (s.fld (R.DIE_PWR_STATUS d) F.DIE_PWR_STATUS_VDD_MV) 0 }

theorem doAvsTimeout_of_up {d : Nat} (h : s.dieUp d = true) :
    doAvsTimeout d s = fileRec (heldRail d s) (LogRec.of 9 (s.drawFree 8).1 1 d d) := if_pos h

theorem heldRail_request (d : Nat) (r : LogRec) : sget (fileRec (heldRail d s) r).pwr.request d 0 =
    s.fld (R.DIE_PWR_STATUS d) F.DIE_PWR_STATUS_VDD_MV := by
  rw [fileRec_pwr]
  exact sget_sput_same s.pwr.request d _ 0

/-! ## Temperature and throttling (R415, R416) -/

theorem doJunction_of_down {d : Nat} (h : s.dieUp d = false) : doJunction d temp s = s := if_pos (by rw [h]; rfl)

theorem doJunction_of_trip {d : Nat} (h : s.dieUp d = true) (ht : 12500 ≤ temp.toInt) : doJunction d temp s = thermTrip (firstSample d temp s) :=
  (if_neg (by rw [h]; exact Bool.false_ne_true)).trans (if_pos ht)

theorem throttleStage_of_cool {t0 h t : Int} (h105 : t < 10500) (ht : t < t0) : throttleStage 0 t0 h t = 0 := by
  have hs : ∀ e, t < e → stageHolds false e h t = false := fun e he => by
    rw [stageHolds, Bool.false_and, Bool.or_false, decide_eq_false_iff_not]
    exact not_le.mpr he
  rw [throttleStage, decide_eq_false (by decide), decide_eq_false (by decide), decide_eq_false (by decide), hs _ (by omega),
    hs _ (by omega), hs _ ht]
  rfl

theorem doJunction_of_cool {d : Nat} (h : s.dieUp d = true) (h105 : temp.toInt < 10500)
    (ht : temp.toInt < (100 * s.fld R.THERM_CTRL F.THERM_CTRL_THROTTLE_C : Nat)) (ho : s.fld (R.DIE_PWR_STATUS d) F.DIE_PWR_STATUS_STAGE = 0) :
    doJunction d temp s = (moveBand (firstSample d temp s) d temp.toInt).setF (R.DIE_PWR_STATUS d) F.DIE_PWR_STATUS_STAGE 0 := by
  rw [doJunction, if_neg (by rw [h]; exact Bool.false_ne_true)]
  dsimp only
  rw [if_neg (by omega : ¬ 12500 ≤ temp.toInt), ho, throttleStage_of_cool h105 ht, if_pos rfl,
    if_neg (by decide : ¬ ((0 : Nat) = 0 ∧ 0 < 0)), if_neg (fun hne => hne rfl)]
  exact if_neg (fun hh => absurd h105 (not_lt.mpr hh.2))

section
variable {old : Nat} {t0 h t : Int}

theorem throttleStage_of_pause (ht : 11500 ≤ t) : throttleStage old t0 h t = 3 :=
  if_pos (by rw [stageHolds, decide_eq_true ht, Bool.true_or])

theorem throttleStage_of_held (h3 : old = 3) (ht : 11500 - h < t) : throttleStage old t0 h t = 3 :=
  if_pos (by rw [stageHolds, h3, decide_eq_true ht]; exact Bool.or_true _)

/-- Below its entry a stage not entered before does not hold. -/
theorem stageHolds_of_below {was : Bool} {e : Int} (ht : t < e) (hw : was = false) : stageHolds was e h t = false := by
  rw [stageHolds, hw, Bool.false_and, Bool.or_false, decide_eq_false_iff_not]
  exact not_le.mpr ht

theorem throttleStage_of_second (ht : t < 11500) (ho : old < 3) (h2 : t0 + 300 ≤ t) : throttleStage old t0 h t = 2 := by
  rw [throttleStage, stageHolds_of_below ht (decide_eq_false (by omega)), if_neg Bool.false_ne_true]
  exact if_pos (by rw [stageHolds, decide_eq_true h2, Bool.true_or])

theorem throttleStage_of_first (ht : t < 11500) (ho : old < 2) (h1 : t0 ≤ t) (h2 : t < t0 + 300) : throttleStage old t0 h t = 1 := by
  rw [throttleStage, stageHolds_of_below ht (decide_eq_false (by omega)), if_neg Bool.false_ne_true,
    stageHolds_of_below h2 (decide_eq_false (by omega)), if_neg Bool.false_ne_true]
  exact if_pos (by rw [stageHolds, decide_eq_true h1, Bool.true_or])

end

/-- A thermal trip before its cold reset. -/
def tripReady (s : State) : State :=
  ((cancelTransition s).setBit R.RESET_CAUSE F.RESET_CAUSE_THERMTRIP).updPwr fun p =>
    { p with tripped := true, tellTrip := true, level := max 4 p.level }

theorem thermTrip_eq : thermTrip s = driveRails ((coldBody (tripReady s)).emit (.pin "THERMTRIP_N" false)) false := rfl

theorem thermTrip_off : (thermTrip s).pwr.railEn = false := by rw [thermTrip_eq, driveRails_pwr]

theorem thermTrip_out : (thermTrip s).out = .pin "RAIL_EN" false :: .pin "THERMTRIP_N" false :: (coldBody (tripReady s)).out := by
  rw [thermTrip_eq, driveRails_out, emit_out]

theorem thermTrip_tripped : (thermTrip s).pwr.tripped = true := by
  have h : (thermTrip s).pwr.tripped = (coldBody (tripReady s)).pwr.tripped := rfl
  rw [h, coldBody_pwr]
  rfl

theorem thermTrip_cause : (thermTrip s).bit R.RESET_CAUSE F.RESET_CAUSE_THERMTRIP = true := by
  have h : (thermTrip s).rd R.RESET_CAUSE = (coldBody (tripReady s)).rd R.RESET_CAUSE := by
    rw [thermTrip_eq, driveRails_rd, emit_rd]
  rw [bit_of_rd h, bit_of_rd (coldBody_cause (tripReady s)), tripReady, bit_of_rd (rd_updPwr _ _ _)]
  exact bit_setBit_same (cancelTransition s) R.RESET_CAUSE F.RESET_CAUSE_THERMTRIP rfl (by decide)

end

end Sys2Proof.Machine
open Sys2Proof Sys2Proof.Machine

/-- Settles O59: power-on, brown-out and loss of VAUX, the edges of PWR_GOOD, a step of the staggered start, adaptive voltage and the
junction samples, each by the branch of its definition that the state selects. -/
theorem railsAndTemperatures : Obligations.RailsAndTemperatures := by
  refine ⟨?powerOn, ?brownout, fun s => ?vauxRemoval, ?goodRise, fun s => ?wakeStart, ?goodFall, ?stagger,
    fun d s hd => ⟨startDie_up d hd, startDie_rail d⟩, ?avs, fun temp s => rfl, ?junction, fun old t0 h t => ⟨throttleStage_of_pause, throttleStage_of_second, throttleStage_of_first,
      throttleStage_of_held⟩, fun s => ⟨thermTrip_tripped, thermTrip_off, thermTrip_cause, _, thermTrip_out⟩⟩
  case powerOn =>
    intro slot s
    refine ⟨doPowerOn slot s, rfl, ?_⟩
    rw [doPowerOn_eq, release_fld, driveRails_fld, release_railEn, release_vaux, release_out, release_ports, release_engines, State.bit,
      release_fld, driveRails_fld, slotted_slot _ _ slot.isLt, slotted_brown _ _ (Fld_get_lt _ _)]
    exact ⟨rfl, rfl, rfl, rfl, powerOnBody_ports s, rfl⟩
  case brownout =>
    intro s
    refine ⟨fun h => next_eq (if_neg (by rw [h]; exact Bool.false_ne_true)), fun h => ⟨doBrownout s, next_eq (if_pos h), ?_⟩⟩
    rw [doBrownout_eq, State.bit, release_fld, release_fld, release_tellBrown, driveRails_fld, driveRails_fld, fld_updPwr, fld_updPwr,
      slotted_slot _ _ (slotOf_lt s), slotted_brown _ _ (by decide)]
    exact ⟨rfl, rfl, rfl⟩
  case vauxRemoval =>
    refine ⟨doVauxRemoval s, rfl, ?_, ?_, fun h => ?_, fun h => ?_⟩
    · rw [doVauxRemoval_eq]
      split
      · rfl
      · rfl
    · rw [doVauxRemoval_eq]
      split
      · rfl
      · rfl
    · rw [doVauxRemoval_eq, if_pos h]
      rfl
    · rw [doVauxRemoval_eq, if_neg (by rw [h]; exact Bool.false_ne_true)]
      rfl
  case goodRise =>
    intro s s1
    refine ⟨fun h => next_eq (doGoodRise_of_good h), fun h h3 => next_eq ?_, fun h h3 hw hr hv => next_eq ?_, fun h h3 hn => next_eq ?_⟩
    · rw [doGoodRise_of_low h, if_neg fun hc => h3 (wakes_iff.mp hc).2.2.2]
      exact if_neg h3
    · exact (doGoodRise_of_low h).trans (if_pos (wakes_iff.mpr ⟨hr, hv, hw, h3⟩))
    · rw [doGoodRise_of_low h, if_neg, if_pos h3]
      intro hc
      obtain ⟨hr, hv, hw, -⟩ := wakes_iff.mp hc
      rw [hr, hv, hw] at hn
      exact hn.elim Bool.noConfusion fun hn => hn.elim Bool.noConfusion Bool.noConfusion
  case wakeStart =>
    refine ⟨wakeStart_pState, ?_, ?_, fun h => ?_, ?_⟩
    · rw [wakeStart_eq, setTimeState_pwr]
      rfl
    · rw [wakeStart_eq, setTimeState_pwr]
      rfl
    · rw [wakeStart_eq]
      exact setTimeState_of_plain (wakeReady_isRoot.trans h) (by decide)
    · rw [wakeStart_eq, setTimeState_fab]
      rfl
  case goodFall =>
    intro s
    refine ⟨fun h => next_eq (doGoodFall_of_low h), fun h hr => next_eq (doGoodFall_of_off h hr), fun h hr =>
      ⟨coldBody (heldLow s), next_eq (doGoodFall_of_on h hr), coldBody_good _ ?_, ?_,
        fun hu => coldBody_ports _ (fallState_units.trans hu), ?_⟩⟩
    · exact (bit_of_rd (heldLow_rd _) _).trans fallState_good
    · rw [bit_of_rd (coldBody_cause _), bit_of_rd (heldLow_rd _)]
      exact fallState_cause
    · rw [coldBody_pwr]
      exact congrArg (max 4) fallState_level
  case stagger =>
    intro temp s
    refine ⟨fun h => next_eq (doStagger_of_none h), fun k rest h => ?_⟩
    intro s1
    refine ⟨fun hc => next_eq ((doStagger_of_next h).trans (if_pos hc)), fun hc hk => next_eq ?_, fun hc h8 hk => next_eq ?_, fun hc hk => ?_⟩
    · exact (doStagger_of_next h).trans ((if_neg (Nat.not_lt.mpr hc)).trans (if_pos hk))
    · exact (doStagger_of_next h).trans ((if_neg (Nat.not_lt.mpr hc)).trans ((if_neg (Nat.not_le.mpr hk)).trans (if_pos h8)))
    · have hs := (doStagger_of_next (temp := temp) h).trans ((if_neg (Nat.not_lt.mpr hc)).trans
        ((if_neg (by omega)).trans (if_neg (Nat.not_le.mpr hk))))
      exact ⟨fun ht => next_eq (hs.trans (if_pos ht)), fun ht => next_eq (hs.trans (if_neg (not_le.mpr ht)))⟩
  case avs =>
    intro d n mv s
    rw [execLower_eq, execMargin_eq]
    refine ⟨fun h => ⟨next_eq (if_neg ?_), next_eq (if_neg fun hc => ?_), next_eq (if_neg ?_)⟩, fun h =>
      ⟨⟨_, next_eq (if_pos h), askRail_rail _ _ _, askRail_request _ _ _⟩, fun hc => next_eq (if_neg fun hl => ?_),
        fun hc => ⟨lowered d mv s, next_eq (if_pos (lower_iff.mpr ⟨h, hc⟩)), lowered_rail _ _, lowered_request _ _, lowered_at _ _⟩,
        ⟨_, next_eq (doAvsTimeout_of_up h), heldRail_request _ _⟩⟩⟩
    · rw [h]
      exact Bool.false_ne_true
    · rw [(lower_iff.mp hc).1] at h
      exact Bool.noConfusion h
    · rw [h]
      exact Bool.false_ne_true
    · exact absurd (lower_iff.mp hl).2 (Nat.not_le.mpr hc)
  case junction =>
    intro d temp s
    exact ⟨fun h => next_eq (doJunction_of_down h), fun h ht => next_eq (doJunction_of_trip h ht),
      fun h h105 ht ho => next_eq (doJunction_of_cool h h105 ht ho)⟩

end

section
/-! PROOFS. Resets of the device, its units and its endpoint (R34, R424 to R429, R444, R453). -/

namespace Sys2Proof.Machine

/-! ## Requests for a reset (R425, R429) -/

section
variable {s : State} {v : Word}

theorem resetWrite_ignored (act : State → State) (h : F.RESET_CTRL_CONFIRM.get v ≠ 0xA5) : resetWrite v act s = s := if_pos h

/-- PERST_ACTION of a write of RESET_CTRL is taken. -/
def actionTaken (v : Word) (s : State) : State :=
  if F.RESET_CTRL_PERST_ACTION.get v = 3 then s else s.setF R.RESET_CTRL F.RESET_CTRL_PERST_ACTION (F.RESET_CTRL_PERST_ACTION.get v)

theorem actionTaken_level : (actionTaken v s).pwr.level = s.pwr.level := by
  unfold actionTaken
  split
  · rfl
  · rfl

theorem resetWrite_confirmed (act : State → State) (h : F.RESET_CTRL_CONFIRM.get v = 0xA5) :
    resetWrite v act s = act (actionTaken v s) := if_neg (not_not.mpr h)

/-- The state in which a reset of a rank begins. -/
def taking (n : Nat) (t : State) : State := (cancelTransition t).updPwr fun p => { p with level := n }

theorem requestReset_absorbed {n : Nat} (go : State → State) (h : n ≤ s.pwr.level) :
    requestReset n go s = s.setBit R.RESET_CAUSE F.RESET_CAUSE_ABSORBED := if_pos h

theorem requestReset_taken {n : Nat} (go : State → State) (h : s.pwr.level < n) : requestReset n go s = go (taking n s) :=
  if_neg (Nat.not_le.mpr h)

/-! ## The end of the hold, and of a transit-preserving reset -/

theorem doHoldDone_early (h : s.pwr.hold = false ∨ s.cycle < s.pwr.holdAt + 1600) : doHoldDone s = s := by
  refine if_pos (Bool.or_eq_true_iff.mpr (h.imp (fun h => ?_) fun h => decide_eq_true h))
  rw [h]
  rfl

theorem doHoldDone_due (h : s.pwr.hold = true) (hc : s.pwr.holdAt + 1600 ≤ s.cycle) : doHoldDone s =
    if s.pwr.level = 4 then release (coldBody s)
    else if (warmBody s).pState = 2 then setPState (warmBody s) 0 else warmBody s := by
  refine if_neg fun hn => ?_
  rcases Bool.or_eq_true_iff.mp hn with hn | hn
  · rw [h] at hn
    exact Bool.noConfusion hn
  · exact absurd (of_decide_eq_true hn) (Nat.not_lt.mpr hc)

/-- A transit-preserving reset has ended. -/
def transitDone (s : State) : State :=
  ((s.setBit R.RESET_CAUSE F.RESET_CAUSE_TRANSIT).updPwr fun p => { p with level := 0 }).updTabs fun t => { t with transit := false }

theorem transitDone_rd {r : RegRef} (h : r.addr ≠ R.RESET_CAUSE.addr) : (transitDone s).rd r = s.rd r := rd_setF_reg s h _ _

theorem transitDone_txn : (transitDone s).txn = s.txn := fld_of_rd (transitDone_rd (by decide)) _

theorem transitDone_cause : (transitDone s).bit R.RESET_CAUSE F.RESET_CAUSE_TRANSIT = true :=
  bit_setBit_same s R.RESET_CAUSE F.RESET_CAUSE_TRANSIT rfl (by decide)

theorem doTransitEnd_done (h : s.pwr.level = 2 ∧ s.fld R.MGMT_STATUS F.MGMT_STATUS_BOOT_STAGE = 2) : doTransitEnd s =
    if (transitDone s).txn = txBeginWait ∧ (!(transitDone s).tabs.copying) = true then
      openTxn (transitDone s) ((transitDone s).fld (R.TXN_CTRL 0) F.TXN_CTRL_OWNER)
    else transitDone s := if_pos h

end

/-! ## RESET_N (R416, R444) -/

section
variable {s : State}

/-- A low of RESET_N is noted. -/
def pinNoted (s : State) : State := s.setBit R.RESET_CAUSE F.RESET_CAUSE_RESET_PIN

/-- A device that has tripped is let run again. -/
def untripped (s : State) : State := ((pinNoted s).updPwr fun p => { p with tripped := false }).emit (.pin "THERMTRIP_N" true)

theorem doResetPin_eq : doResetPin s =
    if s.pwr.tripped = true then release (driveRails (untripped s) true)
    else if s.pState = 3 ∨ (s.pTarget = 3 ∧ s.pwr.latched = true) then wakeSource 9 (pinNoted s) else requestCold (pinNoted s) := rfl

theorem release_tripped (t : State) : (release t).pwr.tripped = t.pwr.tripped := by
  obtain ⟨b, e⟩ := release_eq t
  rw [e]

end

/-! ## Unit resets (R424) -/

section
variable {s : State}

/-- What writing a transition's end keeps: the units, and every register but PWR_STATUS. -/
theorem cancelTransition_isRetired (k d u : Nat) : (cancelTransition s).isRetired k d u = s.isRetired k d u := by
  rw [State.isRetired, State.isRetired, State.health, State.health, cancelTransition_units]

/-- The registers of a channel's block are removed, and nothing of it runs. -/
def channelCleared (c : Nat) (s : State) : State :=
  let lo := 0x01100000 + c * 0x100
  let inBlock := fun (a : Nat) => decide (lo ≤ a) && decide (a < lo + 0x100)
  { s with
    regs := s.regs.filter fun r => !inBlock r.1
    heldLow := s.heldLow.filter fun r => !inBlock r.1
    capHigh := s.capHigh.filter fun r => !inBlock r.1
    host := { s.host with dma := sput s.host.dma c DmaCh.init DmaCh.init } }

theorem channelCleared_rd (c : Nat) {r : RegRef} (h : 0x01100000 + c * 0x100 ≤ r.addr) (h2 : r.addr < 0x01100000 + c * 0x100 + 0x100) :
    (channelCleared c s).rd r = r.reset := by
  refine sget_filter_out r.reset fun _ => ?_
  dsimp only
  rw [decide_eq_true h, decide_eq_true h2]
  rfl

theorem channelCleared_idle (c : Nat) : (channelCleared c s).dmaIdle c = true :=
  congrArg (fun x : DmaCh => x.run.isNone) (sget_sput_same s.host.dma c DmaCh.init DmaCh.init)

theorem channelCleared_tail (c : Nat) : (channelCleared c s).rd (R.DMA_CH_TAIL c) = 0 :=
  channelCleared_rd c (by simp only [R.DMA_CH_TAIL]; omega) (by simp only [R.DMA_CH_TAIL]; omega)

theorem channelCleared_state (c : Nat) : (channelCleared c s).dmaState c = 0 := by
  rw [State.dmaState, State.fld, channelCleared_rd c (by simp only [R.DMA_CH_STATUS]; omega) (by simp only [R.DMA_CH_STATUS]; omega)]
  exact (by decide : F.DMA_CH_STATUS_STATE.get 0#32 = 0)

theorem resetChannel_eq (c : Nat) : resetChannel c s =
    if s.isRetired 6 10 c = true then setDmaState (channelCleared c s) c 4 else channelCleared c s := rfl

theorem setDmaState_rd (c st : Nat) (r : RegRef) : (setDmaState s c st).rd r = (s.setF (R.DMA_CH_STATUS c) F.DMA_CH_STATUS_STATE st).rd r :=
  withCause_rd _ _ _ _

theorem setDmaState_idle (c st : Nat) : (setDmaState s c st).dmaIdle c = s.dmaIdle c := by
  obtain ⟨h, o, e⟩ := withCause_eq s (c + 1) fun t => t.setF (R.DMA_CH_STATUS c) F.DMA_CH_STATUS_STATE st
  rw [setDmaState, e]
  rfl

theorem resetChannel_idle (c : Nat) : (resetChannel c s).dmaIdle c = true := by
  rw [resetChannel_eq]
  split
  · exact (setDmaState_idle c 4).trans (channelCleared_idle c)
  · exact channelCleared_idle c

theorem resetChannel_tail (c : Nat) : (resetChannel c s).rd (R.DMA_CH_TAIL c) = 0 := by
  rw [resetChannel_eq]
  split
  · rw [setDmaState_rd, rd_setF_reg _ (by simp only [R.DMA_CH_TAIL, R.DMA_CH_STATUS]; omega), channelCleared_tail]
  · exact channelCleared_tail c

theorem resetChannel_state (c : Nat) : (resetChannel c s).dmaState c = if s.isRetired 6 10 c = true then 4 else 0 := by
  rw [resetChannel_eq]
  split
  · exact (fld_of_rd (setDmaState_rd c 4 _) _).trans (dmaState_setF c _ 4 (by decide))
  · exact channelCleared_state c

section
variable {v : Word}

/-- The unit that a write of UNIT_RESET names is a port, engine or channel of the device. -/
def ResetKnown (v : Word) : Prop :=
  let k := F.UNIT_RESET_KIND.get v
  (k = 2 ∨ k = 3 ∨ k = 4 ∨ k = 6) ∧ unitInRange k (F.UNIT_RESET_DIE.get v) (F.UNIT_RESET_UNIT.get v) = true

theorem writeUnitReset_unknown (h : ¬ ResetKnown v) : writeUnitReset v s = s := by
  by_cases hk : F.UNIT_RESET_KIND.get v ≠ 2 ∧ F.UNIT_RESET_KIND.get v ≠ 3 ∧ F.UNIT_RESET_KIND.get v ≠ 4 ∧ F.UNIT_RESET_KIND.get v ≠ 6
  · exact if_pos hk
  · refine (if_neg hk).trans (if_pos ?_)
    have hr : unitInRange (F.UNIT_RESET_KIND.get v) (F.UNIT_RESET_DIE.get v) (F.UNIT_RESET_UNIT.get v) = false :=
      Bool.eq_false_iff.mpr fun hr => h ⟨by omega, hr⟩
    rw [hr]
    rfl

theorem writeUnitReset_known (h : ResetKnown v) : writeUnitReset v s =
    if 0 < s.pwr.level then s.setBit R.RESET_CAUSE F.RESET_CAUSE_ABSORBED
    else unitReset (F.UNIT_RESET_KIND.get v) (F.UNIT_RESET_DIE.get v) (F.UNIT_RESET_UNIT.get v) (cancelTransition s) := by
  obtain ⟨hk, hr⟩ := h
  refine (if_neg (by omega)).trans (if_neg ?_)
  rw [hr]
  exact Bool.false_ne_true

theorem writeUnitReset_taken (h : ResetKnown v) (hl : s.pwr.level = 0) : writeUnitReset v s =
    unitReset (F.UNIT_RESET_KIND.get v) (F.UNIT_RESET_DIE.get v) (F.UNIT_RESET_UNIT.get v) (cancelTransition s) :=
  (writeUnitReset_known h).trans (if_neg (by omega))

end

section
variable {k d u : Nat} (hr : unitInRange k d u = true)
include hr

theorem unitReset_port (h : k = 2 ∨ k = 3) : unitReset k d u s =
    if s.portExists d u = true then linkStart (writeQuarantine d u s) d u else s := by
  have hn : ¬ (!unitInRange k d u) = true := by rw [hr]; exact Bool.false_ne_true
  rcases h with rfl | rfl
  · exact if_neg hn
  · exact if_neg hn

theorem unitReset_engine (h : k = 4) : unitReset k d u s =
    if s.engState (d * 16 + u) = 0 ∨ s.engState (d * 16 + u) = 7 then s else resetEngine s (d * 16 + u) := by
  have hn : ¬ (!unitInRange k d u) = true := by rw [hr]; exact Bool.false_ne_true
  subst h
  exact if_neg hn

theorem unitReset_channel (h : k = 6) : unitReset k d u s = resetChannel u s := by
  have hn : ¬ (!unitInRange k d u) = true := by rw [hr]; exact Bool.false_ne_true
  subst h
  exact if_neg hn

end

end

/-! ## The endpoint (R428, R453) -/

section
variable {s : State}

theorem doPerstAssert_off (h : s.pState = 3) : doPerstAssert s =
    (s.updHost fun x => { x with perst := true }).updHost fun x => { x with perstP3 := true } := if_pos h

theorem doPerstAssert_on (h : s.pState ≠ 3) : doPerstAssert s = endpointReset (s.updHost fun x => { x with perst := true }) := if_neg h

/-- The level of PERST_N is high again. -/
def perstHigh (s : State) : State := s.updHost fun x => { x with perst := false, perstP3 := false }

theorem doPerstDeassert_eq : doPerstDeassert s =
    if (s.host.perstP3 && s.bit R.WAKE_EN F.WAKE_EN_PCIE) = true then wakeSource 3 (perstHigh s) else perstHigh s := rfl

/-- The endpoint after PERST_N or a hot reset, before what PERST_ACTION adds. -/
def perstDone (s : State) : State := resetEndpoint (s.setBit R.RESET_CAUSE F.RESET_CAUSE_PERST)

theorem endpointReset_plain (h1 : s.fld R.RESET_CTRL F.RESET_CTRL_PERST_ACTION ≠ 1)
    (h2 : s.fld R.RESET_CTRL F.RESET_CTRL_PERST_ACTION ≠ 2) : endpointReset s = perstDone s := by
  unfold endpointReset
  split
  · next h => exact absurd h h1
  · next h => exact absurd h h2
  · rfl

theorem endpointReset_warm (h : s.fld R.RESET_CTRL F.RESET_CTRL_PERST_ACTION = 1) : endpointReset s = askWarm (perstDone s) := by
  unfold endpointReset
  rw [h]
  rfl

theorem endpointReset_cold (h : s.fld R.RESET_CTRL F.RESET_CTRL_PERST_ACTION = 2) : endpointReset s = requestCold (perstDone s) := by
  unfold endpointReset
  rw [h]
  rfl

theorem perstDone_cause : (perstDone s).bit R.RESET_CAUSE F.RESET_CAUSE_PERST = true :=
  (bit_of_rd (resetEndpoint_cause _) _).trans (bit_setBit_same s R.RESET_CAUSE F.RESET_CAUSE_PERST rfl (by decide))

theorem perstDone_host : { (perstDone s).host with csSeq := 0 } =
    { HostIf.init with csSeq := 0, perst := s.host.perst, perstP3 := s.host.perstP3 } := resetEndpoint_host _

theorem perstDone_ops : (perstDone s).host.ops = [] := by
  have h := congrArg HostIf.ops (perstDone_host (s := s))
  exact h

theorem perstDone_fetched : (perstDone s).host.fetched = [] := by
  have h := congrArg HostIf.fetched (perstDone_host (s := s))
  exact h

theorem perstDone_perst : (perstDone s).host.perst = s.host.perst := by
  have h := congrArg HostIf.perst (perstDone_host (s := s))
  exact h

end

end Sys2Proof.Machine
open Sys2Proof Sys2Proof.Machine

/-- Settles O60: each trigger by the branch that the level and its fields select, each body of a reset by what it keeps, and the reset of
a channel by the registers of its block. -/
theorem resets : Obligations.Resets := by
  refine ⟨fun v s h => ⟨next_eq (resetWrite_ignored _ h), next_eq (resetWrite_ignored _ h), next_eq (resetWrite_ignored _ h)⟩,
    ?requests, ?holdDone, ?warm, ?cold, ?pin, ?transitEnd, ?unit, ?perst, ?endpoint, fun d s => rfl⟩
  case requests =>
    intro v s h
    have hl : (actionTaken v s).pwr.level = s.pwr.level := actionTaken_level
    rw [← hl]
    refine ⟨fun h4 => next_eq ?_, fun h4 => next_eq ?_, fun h3 => next_eq ?_, fun h3 => next_eq ?_, fun h2 => next_eq ?_, fun h2 => next_eq ?_⟩
    · exact (resetWrite_confirmed _ h).trans (requestReset_absorbed _ h4)
    · exact (resetWrite_confirmed _ h).trans (requestReset_taken _ h4)
    · exact (resetWrite_confirmed _ h).trans (requestReset_absorbed _ h3)
    · exact (resetWrite_confirmed _ h).trans (requestReset_taken _ h3)
    · exact (resetWrite_confirmed _ h).trans (requestReset_absorbed _ h2)
    · exact (resetWrite_confirmed _ h).trans (requestReset_taken _ h2)
  case holdDone =>
    intro s
    refine ⟨fun h => next_eq (doHoldDone_early h), fun h hc h4 => next_eq ?_, fun h hc h4 h2 => next_eq ?_, fun h hc h4 h2 => next_eq ?_⟩
    · exact (doHoldDone_due h hc).trans (if_pos h4)
    · exact (doHoldDone_due h hc).trans ((if_neg h4).trans (if_neg h2))
    · exact (doHoldDone_due h hc).trans ((if_neg h4).trans (if_pos h2))
  case warm =>
    intro s h
    rw [warmBody_of_none s h]
    exact ⟨warmReady_mgmt s, warmReady_time s, rfl, rfl, rfl, warmReady_rd s (by decide) (by decide) (by decide) (by decide),
      warmReady_rd s (by decide) (by decide) (by decide) (by decide)⟩
  case cold =>
    intro s
    rw [coldBody_mgmt]
    refine ⟨rfl, rfl, coldBody_cause s, coldBody_units s, coldBody_book s, fun h => ?_⟩
    rw [coldBody_of_none s h]
    exact ⟨rfl, rfl, rfl, rfl⟩
  case pin =>
    intro s s1
    have hn : s.pwr.tripped = false → ¬ s.pwr.tripped = true := fun h => Bool.eq_false_iff.mp h
    refine ⟨fun h => ⟨release (driveRails (untripped s) true), next_eq (doResetPin_eq.trans (if_pos h)), ?_, release_railEn _, ?_⟩,
      fun h hp => next_eq (doResetPin_eq.trans ((if_neg (hn h)).trans (if_pos hp))),
      fun h h3 hp => next_eq (doResetPin_eq.trans ((if_neg (hn h)).trans (if_neg ?_)))⟩
    · rw [release_tripped]
      rfl
    · rw [release_out, driveRails_out, untripped, emit_out]
      rfl
    · rintro (hp3 | ⟨ht, hl⟩)
      · exact h3 hp3
      · rw [hl] at hp
        exact hp.elim (fun hp => hp ht) Bool.noConfusion
  case transitEnd =>
    intro s done
    refine ⟨fun h => next_eq (if_neg h), fun h ht => ⟨transitDone s, next_eq ?_, transitDone_cause, rfl, rfl⟩, fun h ht hc => next_eq ?_⟩
    · refine (doTransitEnd_done h).trans (if_neg fun hw => ht ?_)
      rw [← transitDone_txn]
      exact hw.1
    · have hb : (!(transitDone s).tabs.copying) = true := congrArg (!·) hc
      have ho : (transitDone s).fld (R.TXN_CTRL 0) F.TXN_CTRL_OWNER = s.fld (R.TXN_CTRL 0) F.TXN_CTRL_OWNER :=
        fld_of_rd (transitDone_rd (by decide)) _
      rw [doTransitEnd_done h, if_pos ⟨transitDone_txn.trans ht, hb⟩, ho]
      rfl
  case unit =>
    intro v s k d u known s1 e
    refine ⟨fun h => next_eq (writeUnitReset_unknown h), fun h hl => next_eq ((writeUnitReset_known h).trans (if_pos hl)), fun h hl => ?_⟩
    have ht := writeUnitReset_taken (s := s) h hl
    have hr : unitInRange k d u = true := h.2
    refine ⟨fun hk hp => next_eq ?_, fun hk hp => next_eq ?_, fun hk he => next_eq ?_, fun hk h0 h7 => next_eq ?_, fun hk =>
      ⟨resetChannel u s1, next_eq (ht.trans (unitReset_channel hr hk)), resetChannel_idle u, resetChannel_tail u, fun hi => ?_, fun hi => ?_⟩⟩
    · exact ht.trans ((unitReset_port hr hk).trans (if_pos hp))
    · exact ht.trans ((unitReset_port hr hk).trans (if_neg (Bool.eq_false_iff.mp hp)))
    · exact ht.trans ((unitReset_engine hr hk).trans (if_pos he))
    · exact ht.trans ((unitReset_engine hr hk).trans (if_neg (not_or.mpr ⟨h0, h7⟩)))
    · rw [resetChannel_state, cancelTransition_isRetired, hi, if_neg Bool.false_ne_true]
    · rw [resetChannel_state, cancelTransition_isRetired, hi, if_pos rfl]
  case perst =>
    intro s low high
    refine ⟨fun h => ⟨next_eq (doPerstAssert_off h), next_eq (if_pos h)⟩, fun h => ⟨next_eq (doPerstAssert_on h), next_eq (if_neg h)⟩,
      fun hp hw => next_eq ?_, fun h => next_eq ?_⟩
    · exact doPerstDeassert_eq.trans (if_pos (Bool.and_eq_true_iff.mpr ⟨hp, hw⟩))
    · refine doPerstDeassert_eq.trans (if_neg fun hc => ?_)
      obtain ⟨hp, hw⟩ := Bool.and_eq_true_iff.mp hc
      rw [hp, hw] at h
      exact h.elim Bool.noConfusion Bool.noConfusion
  case endpoint =>
    intro s s1 a
    exact ⟨endpointReset_plain, endpointReset_warm, endpointReset_cold, perstDone_cause, perstDone_ops, perstDone_fetched,
      resetEndpoint_mgmt _, perstDone_perst⟩

end

section
/-! PROOFS. BAR0 requests at an aligned address: the register an address names, what a write and a read of it do, 64-bit pairs, and the
copy that stands for a replicated register (R5 to R10, R73, R140). -/

namespace Sys2Proof.Machine

/-! ## Which registers a chapter gives more to, and which are halves of pairs -/

/-- The registers whose write does more than take the word. -/
def givenRegs : List Reg :=
  [.PORT_LANE_CTRL, .OPT_TS_CTRL, .LANE_CTRL, .PARTITION_FENCE, .PORT_YFP_CTRL, .PORT_HEADROOM,
    .LANYARD_PEER_STATUS, .TIME_CTRL, .TIME_REF_CTRL, .TIME_PORT_CTRL, .TIME_PPS_LOAD, .TIME_PPS_OUT_ANCHOR,
    .TIME_NOW_HI, .LANYARD_PORT_CTRL, .LANYARD_TS_CTRL, .NATIVE_BLOCK, .LEARN_RANGE_ADDR, .LEARN_RANGE_CTRL,
    .PARTITION_BRIDGE, .PARTITION_BRIDGE_HI, .PARTITION_FLOOD, .PORT_PARTITION, .LANYARD_ROTA,
    .LANYARD_ROTA_STAGE, .LANYARD_GUARD_STAGE, .TXN_CTRL, .TBL_CMD, .BUF_POOL_CTRL, .BUF_RESERVE, .SPRAY_SEED,
    .PORT_BUF_CTRL, .PORT_ADMIT, .TM_SHAPER, .CS_PORT_CTRL, .CS_COPY_CTRL, .CS_RING_CTRL, .EXPOSURE_CTRL,
    .POLICER_CFG0, .POLICER_CFG1, .POLICER_CFG2, .ENGINE_CTRL, .ENGINE_PART_CTRL, .ENGINE_TAG_SEED, .KNOT_CMD,
    .HOLD_CTRL, .HOLD_SEED, .HOLD_INDEX_CTRL, .HOLD_RING_SIZE, .HOLD_SHAPE, .HOLD_POOL_ROWS, .INTEG_LOG_TIME,
    .INTEG_UNIT_CMD, .CMD_RING_CTRL, .CMD_RING_TAIL, .CPL_RING_CTRL, .CPL_RING_HEAD, .BAR2_WINDOW, .MSIX_CTRL,
    .DMA_CH_CTRL, .DMA_CH_TAIL, .DMA_CH_CPL_INDEX, .DMA_CH_RING_CFG, .DMA_CH_SHADOW_CTRL, .MGMT_BOOT_CTRL,
    .MGMT_SESSION_KEY, .MGMT_RECOVERY_CTRL, .PWR_CTRL, .PAD_RELEASE, .RESET_CTRL, .UNIT_RESET]

section
variable {row : RegRow} {a : Nat} {idx : List Nat} {v : Word} {s : State}

theorem writeFabricReg_none (h : row.reg ∉ givenRegs) : writeFabricReg row a idx v s = none := by
  unfold writeFabricReg
  dsimp only
  split
  case h_28 => rfl
  all_goals next hr => exact absurd (hr ▸ by decide) h

theorem writeCoreReg_none (h : row.reg ∉ givenRegs) : writeCoreReg row a idx v s = none := by
  unfold writeCoreReg
  dsimp only
  split
  case h_24 => rfl
  all_goals next hr => exact absurd (hr ▸ by decide) h

theorem writeHostReg_none (h : row.reg ∉ givenRegs) : writeHostReg row a idx v s = none := by
  unfold writeHostReg
  dsimp only
  split
  case h_21 => rfl
  all_goals next hr => exact absurd (hr ▸ by decide) h

end

/-- Low halves of pairs, high halves, and staged registers. -/
def lowRegs : List Reg := [.TIME_NOW_LO, .AON_TICK, .ENGINE_CYCLE, .HOST_IRQ_PENDING, .EXPOSURE_ADDR, .CS_RING_BASE, .ENGINE_PMC,
  .HOLD_RING_BASE, .HOLD_POOL_BASE, .CMD_RING_BASE, .CPL_RING_BASE, .DMA_CH_RING_BASE, .DMA_CH_CPL_BASE, .MGMT_MAC_ADDR,
  .MGMT_RECOVERY, .WAKE_TIMER, .PARTITION_BRIDGE]

def highRegs : List Reg := [.TIME_NOW_HI, .AON_TICK_HI, .ENGINE_CYCLE_HI, .HOST_IRQ_PENDING_HI, .EXPOSURE_ADDR_HI, .CS_RING_BASE_HI,
  .ENGINE_PMC_HI, .HOLD_RING_BASE_HI, .HOLD_POOL_BASE_HI, .CMD_RING_BASE_HI, .CPL_RING_BASE_HI, .DMA_CH_RING_BASE_HI,
  .DMA_CH_CPL_BASE_HI, .MGMT_MAC_ADDR_HI, .MGMT_RECOVERY_HI, .WAKE_TIMER_HI, .PARTITION_BRIDGE_HI]

theorem mem_lowRegs {r : Reg} (h : isPairLow r = true) : r ∈ lowRegs := by
  unfold isPairLow at h
  split at h
  case h_18 => exact Bool.noConfusion h
  all_goals decide

theorem mem_highRegs {r : Reg} (h : isPairHigh r = true) : r ∈ highRegs := by
  unfold isPairHigh at h
  split at h
  case h_18 => exact Bool.noConfusion h
  all_goals decide

theorem isPairLow_of_high {r : Reg} (h : isPairHigh r = true) : isPairLow r = false :=
  (by decide : ∀ r ∈ highRegs, isPairLow r = false) r (mem_highRegs h)

/-- No chapter gives more to a low half, but of a partition's bridge. -/
theorem low_not_given {r : Reg} (h : isPairLow r = true) (hb : r ≠ .PARTITION_BRIDGE) : r ∉ givenRegs :=
  (by decide : ∀ r ∈ lowRegs, r ≠ .PARTITION_BRIDGE → r ∉ givenRegs) r (mem_lowRegs h) hb

theorem high_not_given {r : Reg} (h : isPairHigh r = true) (hw : pairWritable r = true) (hb : r ≠ .PARTITION_BRIDGE_HI) : r ∉ givenRegs :=
  (by decide : ∀ r ∈ highRegs, pairWritable r = true → r ≠ .PARTITION_BRIDGE_HI → r ∉ givenRegs) r (mem_highRegs h) hw hb

/-! ## Writes -/

section
variable {a : Nat} {v : Word} {s : State}

theorem wordWrite_of_aligned (h : a % 4 = 0) : wordWrite a v s = bar0Write a v s := if_pos (by rw [goodAccess, decide_eq_true h]; rfl)

theorem wordRead_of_aligned (h : a % 4 = 0) : wordRead a s = bar0Read a s := if_pos (by rw [goodAccess, decide_eq_true h]; rfl)

theorem readOut_of_aligned (h : a % 4 = 0) : readOut a s = (bar0Read a s).2.emit (.readWord (bar0Read a s).1.toNat) := by
  rw [readOut, wordRead_of_aligned h]

theorem bar0Write_reserved (h : findReg (canonReg a) = none) : bar0Write a v s = s := by
  unfold bar0Write
  dsimp only
  rw [h]

/-- A write names its register by the copy that stands for it. -/
theorem bar0Write_canon {b : Nat} (h : canonReg a = canonReg b) : bar0Write a v s = bar0Write b v s := by
  unfold bar0Write
  rw [h]

variable {row : RegRow} {idx : List Nat} (hf : findReg (canonReg a) = some (row, idx))
include hf

theorem regAt_found (p : Reg → Bool) : regAt p a = p row.reg := by rw [regAt, hf]

theorem bar0Write_given {t : State} (h : writeFabricReg row (canonReg a) idx v s = some t) : bar0Write a v s = t := by
  unfold bar0Write
  dsimp only
  rw [hf]
  dsimp only
  rw [h]
  rfl

theorem bar0Write_other (h : row.reg ∉ givenRegs) : bar0Write a v s =
    if pairWritable row.reg = true then
      if isPairLow row.reg = true then
        if (row.reg == .MGMT_MAC_ADDR && s.locked row.reg) = true then s else holdLow s (canonReg a) v
      else writePairHigh row idx (canonReg a) v s
    else causedWrite row (row.ref (canonReg a) idx) idx v s := by
  unfold bar0Write
  dsimp only
  rw [hf]
  dsimp only
  rw [writeFabricReg_none h, writeCoreReg_none h, writeHostReg_none h]
  rfl

theorem bar0Write_caused (h : row.reg ∉ givenRegs) (hw : pairWritable row.reg = false) :
    bar0Write a v s = causedWrite row (row.ref (canonReg a) idx) idx v s :=
  (bar0Write_other hf h).trans (if_neg (Bool.eq_false_iff.mp hw))

theorem bar0Write_low (hl : isPairLow row.reg = true) (hw : pairWritable row.reg = true) (hb : row.reg ≠ .PARTITION_BRIDGE) :
    bar0Write a v s = if row.reg = .MGMT_MAC_ADDR ∧ s.locked row.reg = true then s else holdLow s (canonReg a) v := by
  rw [bar0Write_other hf (low_not_given hl hb), if_pos hw, if_pos hl]
  exact if_congr (by rw [Bool.and_eq_true, beq_iff_eq]) rfl rfl

theorem bar0Write_high (hh : isPairHigh row.reg = true) (hw : pairWritable row.reg = true) (hb : row.reg ≠ .PARTITION_BRIDGE_HI) :
    bar0Write a v s = writePairHigh row idx (canonReg a) v s :=
  (bar0Write_other hf (high_not_given hh hw hb)).trans
    ((if_pos hw).trans (if_neg (by rw [isPairLow_of_high hh]; exact Bool.false_ne_true)))

end

/-- Staged registers go to the transaction. -/
theorem writeFabricReg_staged {row : RegRow} {a : Nat} {idx : List Nat} {v : Word} {s : State} (h : isStaged row.reg = true) :
    writeFabricReg row a idx v s = some (stagedWrite a v s) := by
  obtain ⟨r, base, dims, fields⟩ := row
  change isStaged r = true at h
  unfold isStaged at h
  split at h
  case h_11 => exact Bool.noConfusion h
  all_goals rfl

/-- A plain write, and one that may send the message of its vector. -/
theorem causedWrite_eq (row : RegRow) (r : RegRef) (idx : List Nat) (v : Word) (s : State) :
    ∃ h o, causedWrite row r idx v s = { plainWrite row r idx v s with hostMem := h, out := o } := by
  unfold causedWrite
  split
  · exact causeWrite_eq _ _ _
  · split
    · exact withCause_eq _ _ _
    · exact ⟨(plainWrite row r idx v s).hostMem, (plainWrite row r idx v s).out, rfl⟩

theorem causedWrite_plain {row : RegRow} {idx : List Nat} (r : RegRef) (v : Word) (s : State) (hc : causeVector row.reg idx = none)
    (he : enableVector row.reg idx = none) : causedWrite row r idx v s = plainWrite row r idx v s := by rw [causedWrite, hc, he]

/-! ## Reads -/

section
variable {a : Nat} {s : State} {row : RegRow} {idx : List Nat} (hf : findReg (canonReg a) = some (row, idx))
include hf

theorem bar0Read_low (hl : isPairLow row.reg = true) :
    bar0Read a s = (liveWord s row (row.ref (canonReg a) idx) idx, captureHigh (canonReg a) s) := by
  unfold bar0Read
  dsimp only
  rw [hf]
  exact if_pos hl

theorem bar0Read_plain (hl : isPairLow row.reg = false) (hh : isPairHigh row.reg = false) :
    bar0Read a s = (liveWord s row (row.ref (canonReg a) idx) idx, afterRead row (row.ref (canonReg a) idx) idx s) := by
  unfold bar0Read
  dsimp only
  rw [hf]
  exact (if_neg (Bool.eq_false_iff.mp hl)).trans (if_neg (Bool.eq_false_iff.mp hh))

/-- The high half returns what was captured. -/
theorem bar0Read_captured {n : Nat} (hh : isPairHigh row.reg = true) (hc : sget s.capHigh (canonReg a) 0 = n + 1) :
    (bar0Read a s).1 = BitVec.ofNat 32 n := by
  unfold bar0Read
  dsimp only
  rw [hf]
  dsimp only
  rw [if_neg (by rw [isPairLow_of_high hh]; exact Bool.false_ne_true), if_pos hh, hc]

end

theorem captureHigh_found {a : Nat} {s : State} {row : RegRow} {idx : List Nat} (hf : findReg (a + 4) = some (row, idx)) :
    captureHigh a s = { s with capHigh := sput s.capHigh (a + 4) ((liveWord s row (row.ref (a + 4) idx) idx).toNat + 1) 0 } := by
  rw [captureHigh, hf]

theorem afterRead_rc {row : RegRow} {idx : List Nat} {r : RegRef} {s : State} (hn : row.reg ∉ [.PARITY_LOG, .HOLD_ECC_LOG])
    (hc : (row.fields.any fun f => f.acc == .RC) = true) : afterRead row r idx s = s.wr r (clearRc row.fields (s.rd r)) := by
  unfold afterRead
  dsimp only
  split
  case h_3 => exact if_pos hc
  all_goals next hr => exact absurd (by rw [hr]; decide) hn

/-! ## 64-bit pairs (R9) -/

/-- The low half that a write of the high half takes, and the state after. -/
def lowTaken (low : Nat) (s : State) : State :=
  { s with heldLow := if sget s.heldLow low 0 = 0 then s.heldLow else sput s.heldLow low 0 0 }

/-- None is held after it. -/
theorem lowTaken_held (low : Nat) (s : State) : sget (lowTaken low s).heldLow low 0 = 0 := by
  unfold lowTaken
  dsimp only
  split
  · assumption
  · exact sget_sput_same s.heldLow low 0 0

theorem takeHeldLow_eq (s : State) (low cur : Nat) :
    takeHeldLow s low cur = (if sget s.heldLow low 0 = 0 then cur else sget s.heldLow low 0 - 1, lowTaken low s) := by
  unfold takeHeldLow lowTaken
  split
  · next h => rw [if_pos h, if_pos h]
  · next n h =>
    rw [if_neg (by omega), if_neg (by omega), h]
    rfl

/-- The word of the low half that a write of the high half applies. -/
def lowWord (low : Nat) (s : State) : Nat :=
  if sget s.heldLow low 0 = 0 then (sget s.regs low 0).toNat else sget s.heldLow low 0 - 1

theorem writePairHigh_eq (hi : RegRow) (idx : List Nat) (a : Nat) (v : Word) (s : State) :
    writePairHigh hi idx a v s = putPair hi idx a (lowWord (a - 4) s) v (lowTaken (a - 4) s) := by
  unfold writePairHigh
  rw [takeHeldLow_eq]
  rfl

section
variable {hi row : RegRow} {i idx : List Nat} {a lo : Nat} {v : Word} {s : State}

theorem putPair_ring (h : hi.reg = .HOLD_RING_BASE_HI) :
    putPair hi idx a lo v s = writeHoldReg (idx.getD 0 8) .ringBase (lo + v.toNat * 2 ^ 32) s := by
  unfold putPair
  rw [h]

theorem putPair_pool (h : hi.reg = .HOLD_POOL_BASE_HI) :
    putPair hi idx a lo v s = writeHoldReg (idx.getD 0 8) (.poolBase (Fin.ofNat 16 (idx.getD 1 0))) (lo + v.toNat * 2 ^ 32) s := by
  unfold putPair
  rw [h]

theorem putPair_plain (hr : hi.reg ≠ .HOLD_RING_BASE_HI) (hp : hi.reg ≠ .HOLD_POOL_BASE_HI) (hf : findReg (a - 4) = some (row, i)) :
    putPair hi idx a lo v s = if pairShut s hi.reg = true then s
      else plainWrite hi (hi.ref a idx) idx v (plainWrite row (row.ref (a - 4) i) i (BitVec.ofNat 32 lo) s) := by
  unfold putPair
  dsimp only
  split
  · next h => exact absurd h hr
  · next h => exact absurd h hp
  · rw [hf]

end

/-! ## Tables that cover a word -/

/-- Each bit of the word lies in one field, and software writes that field. -/
def FullyWritable (fs : List FieldRow) : Prop :=
  ∀ b : Fin 32, ∃ r ∈ fs, r.acc = .RW ∧ r.fld.mask.getLsbD b = true ∧ ∀ q ∈ fs, q ≠ r → q.fld.mask.getLsbD b = false

theorem writeFields_full {fs : List FieldRow} (h : FullyWritable fs) (locked : Bool) (old v : Word) : writeFields locked fs old v = v := by
  obtain ⟨hw, -⟩ := (show Obligations.WriteByAccessCode from writeByAccessCode)
  refine BitVec.eq_of_getLsbD_eq fun b hb => ?_
  obtain ⟨r, hr, hacc, hm, hq⟩ := h ⟨b, hb⟩
  rw [hw locked fs r old v b hr hm hq, hacc]

/-! ## Instances by address -/

/-- No address from lo to hi is one of the dimensions. -/
def dimsMiss : List Dim → Nat → Nat → Bool
  | [], lo, _ => decide (0 < lo)
  | d :: ds, lo, hi => decide (hi < d.first * d.stride) || decide (d.first + d.count ≤ lo / d.stride) ||
      decide (lo / d.stride = hi / d.stride) && dimsMiss ds (lo - lo / d.stride * d.stride) (hi - lo / d.stride * d.stride)

theorem dimIndices_of_miss {ds : List Dim} : ∀ {lo hi a : Nat}, dimsMiss ds lo hi = true → lo ≤ a → a ≤ hi → dimIndices ds a = none := by
  induction ds with
  | nil =>
    intro lo hi a h hl hh
    exact if_neg (by have := of_decide_eq_true h; omega)
  | cons d ds ih =>
    intro lo hi a h hl hh
    rw [dimsMiss, Bool.or_eq_true, Bool.or_eq_true, Bool.and_eq_true, decide_eq_true_eq, decide_eq_true_eq, decide_eq_true_eq] at h
    have hla : lo / d.stride ≤ a / d.stride := Nat.div_le_div_right hl
    have hah : a / d.stride ≤ hi / d.stride := Nat.div_le_div_right hh
    unfold dimIndices
    dsimp only
    split
    · rfl
    · split
      · rcases h with (h | h) | ⟨he, h⟩
        · omega
        · omega
        · have hi' : a / d.stride = lo / d.stride := le_antisymm (hah.trans he.ge) hla
          rw [hi', ih h (Nat.sub_le_sub_right hl _) (Nat.sub_le_sub_right hh _)]
          rfl
      · rfl

/-- No address from lo to hi is one of the row's. -/
def rowMisses (lo hi : Nat) (r : RegRow) : Bool :=
  decide (hi < r.base) || decide (r.base ≤ lo) && dimsMiss r.dims (lo - r.base) (hi - r.base)

theorem locate_of_miss {lo hi a : Nat} {r : RegRow} (h : rowMisses lo hi r = true) (hl : lo ≤ a) (hh : a ≤ hi) : r.locate a = none := by
  rw [rowMisses, Bool.or_eq_true, Bool.and_eq_true, decide_eq_true_eq, decide_eq_true_eq] at h
  unfold RegRow.locate
  split
  · rfl
  · rcases h with h | ⟨-, h⟩
    · omega
    · exact dimIndices_of_miss h (Nat.sub_le_sub_right hl _) (Nat.sub_le_sub_right hh _)

theorem findIn_of_misses {lo hi a : Nat} {l m : List RegRow} (h : l.all (rowMisses lo hi) = true) (hl : lo ≤ a) (hh : a ≤ hi) :
    findIn (l ++ m) a = findIn m a := by
  induction l with
  | nil => rfl
  | cons r l ih =>
    obtain ⟨hr, hrest⟩ := Bool.and_eq_true_iff.mp ((List.all_cons).symm.trans h)
    rw [List.cons_append, findIn, locate_of_miss hr hl hh, ih hrest]

/-- Number i of a dimension, at b beyond its start. -/
theorem dimIndices_cons {ds : List Dim} {stride count i b : Nat} (hi : i < count) (hb : b < stride) :
    dimIndices (⟨0, count, stride⟩ :: ds) (i * stride + b) = (dimIndices ds b).map (i :: ·) := by
  have hd : (i * stride + b) / stride = i := by
    rw [Nat.mul_comm, Nat.mul_add_div (by omega), Nat.div_eq_of_lt hb, Nat.add_zero]
  conv => lhs; unfold dimIndices
  dsimp only
  rw [hd, if_neg (by omega), if_pos (by omega), Nat.add_sub_cancel_left]

/-! ## Replicated registers (R140) -/

/-- A register of the forwarding block outside what each die keeps for itself stands at die 0. -/
theorem canonAddr_forwarding {d o : Nat} (hd : d < 8) (ho : 0x601400 ≤ o) (hh : o < 0x610000) :
    canonAddr (0x10000000 + d * 0x1000000 + o) = 0x10000000 + o := by
  have hm : (0x10000000 + d * 0x1000000 + o) % 0x1000000 = o := by omega
  have hb : (!(decide (0x601000 ≤ o) && decide (o < 0x601400))) = true := by
    rw [decide_eq_false (by omega : ¬ o < 0x601400), Bool.and_false]
    rfl
  unfold canonAddr
  dsimp only
  rw [hm]
  exact if_pos ⟨by omega, by omega, by omega, hh, hb, by omega, by omega⟩

theorem canonReg_forwarding {d o : Nat} (hd : d < 8) (ho : 0x601400 ≤ o) (hh : o < 0x610000) :
    canonReg (0x10000000 + d * 0x1000000 + o) = 0x10000000 + o := by
  rw [canonReg, canonAddr_forwarding hd ho hh, canonPolicer]
  exact if_neg (by omega)

/-- The row of CHANNEL_CLASS. -/
def channelRow : RegRow := ⟨.CHANNEL_CLASS, 0x1060F000, [⟨0, 8, 0x1000000⟩, ⟨0, 64, 0x40⟩, ⟨0, 16, 4⟩],
  (List.range 16).map fun i => ⟨⟨2 * i + 1, 2 * i⟩, .RW, 0⟩⟩

theorem regIndex_channel : ∃ l m, regIndex = l ++ channelRow :: m ∧ l.all (rowMisses 0x1060F000 0x1060FFFF) = true :=
  ⟨regIndex.take 13, regIndex.drop 14, by decide +kernel, by decide +kernel⟩

theorem channelRow_locate {q w : Nat} (hq : q < 64) (hw : w < 16) :
    channelRow.locate (0x1060F000 + q * 0x40 + w * 4) = some [0, q, w] := by
  have ha : 0x1060F000 + q * 0x40 + w * 4 - 0x1060F000 = 0 * 0x1000000 + (q * 0x40 + (w * 4 + 0)) := by omega
  unfold RegRow.locate
  rw [if_neg (by simp only [channelRow]; omega), show channelRow.base = 0x1060F000 from rfl, ha]
  refine (dimIndices_cons (by decide) (by omega)).trans ?_
  rw [dimIndices_cons hq (by omega), dimIndices_cons hw (by decide)]
  rfl

theorem findReg_channel {q w : Nat} (hq : q < 64) (hw : w < 16) :
    findReg (0x1060F000 + q * 0x40 + w * 4) = some (channelRow, [0, q, w]) := by
  obtain ⟨l, m, he, hl⟩ := regIndex_channel
  rw [findReg, he, findIn_of_misses hl (by omega) (by omega), findIn, channelRow_locate hq hw]

theorem channelRow_full : FullyWritable channelRow.fields := by
  unfold FullyWritable
  decide +kernel

/-! ### CHANNEL_CLASS (R73) -/

section
variable {d q w : Nat} (hd : d < 8) (hq : q < 64) (hw : w < 16)
include hd hq hw

theorem canonReg_channel : canonReg (R.CHANNEL_CLASS d q w).addr = 0x1060F000 + q * 0x40 + w * 4 := by
  have ha : (R.CHANNEL_CLASS d q w).addr = 0x10000000 + d * 0x1000000 + (0x60F000 + q * 0x40 + w * 4) := by
    simp only [R.CHANNEL_CLASS]
    omega
  rw [ha, canonReg_forwarding hd (by omega) (by omega)]
  omega

theorem found_channel : findReg (canonReg (R.CHANNEL_CLASS d q w).addr) = some (channelRow, [0, q, w]) := by
  rw [canonReg_channel hd hq hw, findReg_channel hq hw]

theorem channelRow_ref : channelRow.ref (canonReg (R.CHANNEL_CLASS d q w).addr) [0, q, w] = R.CHANNEL_CLASS 0 q w := by
  have ha : (R.CHANNEL_CLASS 0 q w).addr = 0x1060F000 + q * 0x40 + w * 4 := by simp only [R.CHANNEL_CLASS]
  rw [canonReg_channel hd hq hw, ← ha]
  rfl

/-- The write of one die's copy is the write of the copy that stands for the eight. -/
theorem bar0Write_channel (v : Word) (s : State) :
    bar0Write (R.CHANNEL_CLASS d q w).addr v s = s.wr (R.CHANNEL_CLASS 0 q w) v := by
  have hn : channelRow.reg ∉ givenRegs := by decide
  rw [bar0Write_caused (found_channel hd hq hw) hn rfl, causedWrite_plain _ _ _ rfl rfl, channelRow_ref hd hq hw, plainWrite,
    writeFields_full channelRow_full]
  rfl

theorem bar0Read_channel (s : State) : (bar0Read (R.CHANNEL_CLASS d q w).addr s).1 = s.rd (R.CHANNEL_CLASS 0 q w) := by
  rw [bar0Read_plain (found_channel hd hq hw) rfl rfl, channelRow_ref hd hq hw]
  rfl

end

/-! ### PARTITION_BRIDGE -/

/-- The row of PARTITION_BRIDGE. -/
def bridgeRow : RegRow := ⟨.PARTITION_BRIDGE, 0x10602004, [⟨0, 8, 0x1000000⟩, ⟨0, 64, 0x10⟩], [⟨⟨31, 0⟩, .RW, 0⟩]⟩

theorem findReg_bridge : ∀ q : Fin 64, findReg (0x10000000 + (0x602004 + q.val * 0x10)) = some (bridgeRow, [0, q.val]) := by
  decide +kernel

section
variable {d : Nat} (hd : d < 8) (q : Fin 64)
include hd

theorem bridge_toNat : (BitVec.ofNat 32 (R.PARTITION_BRIDGE d q.val).addr).toNat =
    0x10000000 + d * 0x1000000 + (0x602004 + q.val * 0x10) := by
  rw [BitVec.toNat_ofNat]
  simp only [R.PARTITION_BRIDGE]
  omega

theorem canonReg_bridge : canonReg (BitVec.ofNat 32 (R.PARTITION_BRIDGE d q.val).addr).toNat = 0x10000000 + (0x602004 + q.val * 0x10) := by
  rw [bridge_toNat hd q, canonReg_forwarding hd (by omega) (by omega)]

theorem found_bridge : findReg (canonReg (BitVec.ofNat 32 (R.PARTITION_BRIDGE d q.val).addr).toNat) = some (bridgeRow, [0, q.val]) := by
  rw [canonReg_bridge hd q, findReg_bridge q]

end

/-- The low half of a bridge is held, as the transaction does. -/
theorem stagedWrite_bridge (q : Fin 64) (v : Word) (s : State) :
    stagedWrite (0x10000000 + (0x602004 + q.val * 0x10)) v s = holdLow s (R.PARTITION_BRIDGE 0 q.val).addr v := by
  have hc : canonAddr (0x10000000 + (0x602004 + q.val * 0x10)) = 0x10000000 + (0x602004 + q.val * 0x10) :=
    canonAddr_forwarding (d := 0) (by decide) (by omega) (by omega)
  unfold stagedWrite
  rw [hc, findReg_bridge q]
  rfl

/-! ### Logs, and HOST_BAD_ACCESS -/

/-- The row of PARITY_LOG. -/
def parityRow : RegRow := ⟨.PARITY_LOG, 0x10600404, [⟨0, 8, 0x1000000⟩],
  [⟨⟨31, 31⟩, .RC, 0⟩, ⟨⟨30, 27⟩, .RC, 0⟩, ⟨⟨26, 26⟩, .RC, 0⟩, ⟨⟨25, 25⟩, .RC, 0⟩, ⟨⟨24, 24⟩, .RC, 0⟩, ⟨⟨19, 0⟩, .RC, 0⟩]⟩

theorem found_parity : ∀ d : Fin 8, (BitVec.ofNat 32 (R.PARITY_LOG d.val).addr).toNat % 4 = 0 ∧
    findReg (canonReg (BitVec.ofNat 32 (R.PARITY_LOG d.val).addr).toNat) = some (parityRow, [d.val]) := by
  decide +kernel

theorem liveWord_parity {d x : Nat} {l : List Nat} {s : State} {r : RegRef} (h : sget s.tabs.plog d [] = x :: l) :
    liveWord s parityRow r [d] = BitVec.ofNat 32 (2 ^ 31 + x % 2 ^ 31) := by
  have hl : liveWord s parityRow r [d] = liveHost s .PARITY_LOG [d] (liveFabric s .PARITY_LOG [d] (s.rd r)) := rfl
  have hd : [d].getD 0 0 = d := rfl
  rw [hl, liveHost, hd, h]

theorem afterRead_parity {d x : Nat} {l : List Nat} {s : State} {r : RegRef} (h : sget s.tabs.plog d [] = x :: l) :
    afterRead parityRow r [d] s = s.updTabs fun t => { t with plog := sput t.plog d l [] } := by
  change (s.updTabs fun t => { t with plog := sput t.plog d ((sget t.plog d []).drop 1) [] }) = _
  rw [State.updTabs, State.updTabs, h]
  rfl

/-- The row of HOST_BAD_ACCESS. -/
def badRow : RegRow := ⟨.HOST_BAD_ACCESS, 0x200, [], [⟨⟨31, 16⟩, .RC, 0⟩, ⟨⟨15, 0⟩, .RC, 0⟩]⟩

theorem found_bad : findReg (canonReg (0x200#32).toNat) = some (badRow, []) := by decide +kernel

theorem badRow_cleared (w : Word) : clearRc badRow.fields w = 0 := by
  obtain ⟨-, -, hc, -⟩ := (show Obligations.WriteByAccessCode from writeByAccessCode)
  have hb : ∀ b : Fin 32, ∃ r ∈ badRow.fields, r.acc = .RC ∧ r.fld.mask.getLsbD b = true ∧
      ∀ q ∈ badRow.fields, q ≠ r → q.fld.mask.getLsbD b = false := by decide +kernel
  refine BitVec.eq_of_getLsbD_eq fun b hb32 => ?_
  obtain ⟨r, hr, hacc, hm, hq⟩ := hb ⟨b, hb32⟩
  rw [hc badRow.fields r w b hr hm hq, hacc]
  exact BitVec.getLsbD_zero.symm

/-! ### WAKE_TIMER -/

/-- The rows of WAKE_TIMER. -/
def timerRow : RegRow := ⟨.WAKE_TIMER, 0x1400018, [], [⟨⟨31, 0⟩, .RW, 0⟩]⟩
def timerHiRow : RegRow := ⟨.WAKE_TIMER_HI, 0x140001C, [], [⟨⟨31, 0⟩, .RW, 0⟩]⟩

theorem found_timer : findReg (canonReg (0x1400018#32).toNat) = some (timerRow, []) := by decide +kernel

theorem found_timerHi : findReg (canonReg (0x140001C#32).toNat) = some (timerHiRow, []) := by decide +kernel

theorem found_timerLow : findReg (0x140001C - 4) = some (timerRow, []) := by decide +kernel

theorem timer_full : FullyWritable timerRow.fields ∧ FullyWritable timerHiRow.fields := by
  unfold FullyWritable
  decide +kernel

/-! ## The commands -/

section
variable {a v : Word} {s : State} {row : RegRow} {idx : List Nat} (hf : findReg (canonReg a.toNat) = some (row, idx))
include hf

theorem pairLowWrite_of_low (hl : isPairLow row.reg = true) (hw : pairWritable row.reg = true) :
    exec (.pairLowWrite a v) s = .next (bar0Write a.toNat v s) := by
  refine next_eq (if_pos ?_)
  rw [regAt_found hf, hl, hw]
  rfl

theorem pairHighWrite_of_high (hh : isPairHigh row.reg = true) (hw : pairWritable row.reg = true) :
    exec (.pairHighWrite a v) s = .next (bar0Write a.toNat v s) := by
  refine next_eq (if_pos ?_)
  rw [regAt_found hf, hh, hw]
  rfl

end

/-- The write of WAKE_TIMER_HI writes both halves. -/
theorem pairHighWrite_timer (w : Word) (s : State) : exec (.pairHighWrite 0x140001C#32 w) s =
    .next (((lowTaken 0x1400018 s).wr R.WAKE_TIMER (BitVec.ofNat 32 (lowWord 0x1400018 s))).wr R.WAKE_TIMER_HI w) := by
  obtain ⟨hlo, hhi⟩ := timer_full
  have hc : canonReg (0x140001C#32).toNat = 0x140001C := by decide +kernel
  rw [pairHighWrite_of_high found_timerHi rfl rfl, bar0Write_high found_timerHi rfl rfl (by decide), hc, writePairHigh_eq,
    putPair_plain (by decide) (by decide) found_timerLow,
    if_neg (show ¬ pairShut _ timerHiRow.reg = true from Bool.false_ne_true), plainWrite, plainWrite, writeFields_full hlo,
    writeFields_full hhi]
  rfl

end Sys2Proof.Machine
open Sys2Proof Sys2Proof.Machine

/-- Settles O6: the register an address names selects the branch of a write and of a read; pairs by what is held and captured, replicated
registers by the copy at die 0. -/
theorem bar0Accesses : Obligations.Bar0Accesses := by
  refine ⟨?reserved, ?plain, ?replicated, ?staged, ?clears, ?badAccess, ?parityLog, ?classes, ?lowRead, ?lowWrite, ?bridgeLow, ?highWrite,
    ?timer, ?timerAlone⟩
  case reserved =>
    intro a v s ha hf
    have hw : wordWrite a.toNat v s = s := (wordWrite_of_aligned ha).trans (bar0Write_reserved hf)
    exact ⟨next_eq hw, next_eq hw⟩
  case plain =>
    intro a v s row idx ha hf hp hn r w
    have hw : wordWrite a.toNat v s = causedWrite row r idx v s := (wordWrite_of_aligned ha).trans (bar0Write_caused hf hn hp)
    obtain ⟨h, o, he⟩ := causedWrite_eq row r idx v s
    refine ⟨causedWrite row r idx v s, next_eq hw, next_eq hw, ?_, fun hc hv => causedWrite_plain r v s hc hv⟩
    rw [he]
    rfl
  case replicated =>
    intro a b v s ha hb hc
    exact next_eq ((wordWrite_of_aligned ha).trans ((bar0Write_canon hc).trans (wordWrite_of_aligned hb).symm))
  case staged =>
    intro a v s row idx ha hf hs
    exact next_eq ((wordWrite_of_aligned ha).trans (bar0Write_given hf (writeFabricReg_staged hs)))
  case clears =>
    intro a s row idx ha hf hl hh hn hc r
    refine next_eq ((readOut_of_aligned ha).trans ?_)
    rw [bar0Read_plain hf hl hh, afterRead_rc hn hc]
  case badAccess =>
    intro s
    refine next_eq ((readOut_of_aligned (by decide)).trans ?_)
    rw [bar0Read_plain found_bad rfl rfl, afterRead_rc (by decide) (by decide), badRow_cleared]
    rfl
  case parityLog =>
    intro d s x l h
    obtain ⟨ha, hf⟩ := found_parity d
    have hx : 2 ^ 31 + x % 2 ^ 31 < 2 ^ 32 := by omega
    refine next_eq ((readOut_of_aligned ha).trans ?_)
    rw [bar0Read_plain hf rfl rfl, liveWord_parity h, afterRead_parity h, BitVec.toNat_ofNat, Nat.mod_eq_of_lt hx]
  case classes =>
    intro d d2 q w v s
    refine ⟨_, next_eq (bar0Write_channel d.isLt q.isLt w.isLt v s), rfl, ?_⟩
    rw [bar0Read_channel d2.isLt q.isLt w.isLt, rd_wr_same]
  case lowRead =>
    intro a s row hi i j ha hf hl hg hh high
    refine ⟨_, next_eq (readOut_of_aligned ha), ?_⟩
    rw [bar0Read_low hf hl, captureHigh_found hg]
    refine ⟨rfl, rfl, fun u b hu hb => ?_⟩
    have hc : sget u.capHigh (canonReg b) 0 = high.toNat + 1 := by
      rw [hu, hb]
      exact sget_sput_same s.capHigh (canonReg a.toNat + 4) (high.toNat + 1) 0
    rw [bar0Read_captured (by rw [hb]; exact hg) hh hc, BitVec.ofNat_toNat, BitVec.setWidth_eq]
  case lowWrite =>
    intro a v s row i ha hf hl hw hb
    rw [pairLowWrite_of_low hf hl hw, bar0Write_low hf hl hw hb]
    rfl
  case bridgeLow =>
    intro d q v s
    have hf := found_bridge d.isLt q
    rw [pairLowWrite_of_low hf rfl rfl, bar0Write_given hf (writeFabricReg_staged rfl), canonReg_bridge d.isLt q, stagedWrite_bridge]
    rfl
  case highWrite =>
    intro a v s hi row j i ha hf hh hw hg low u lo
    refine ⟨fun hn => ?_, fun hr => ?_, fun hr => ?_, fun hr => ?_⟩
    · rw [pairHighWrite_of_high hf hh hw, bar0Write_high hf hh hw fun hr => hn (by rw [hr]; decide), writePairHigh_eq,
        putPair_plain (fun hr => hn (by rw [hr]; decide)) (fun hr => hn (by rw [hr]; decide)) hg]
      rfl
    · rw [pairHighWrite_of_high hf hh hw, bar0Write_high hf hh hw (by rw [hr]; decide), writePairHigh_eq, putPair_ring hr]
      rfl
    · rw [pairHighWrite_of_high hf hh hw, bar0Write_high hf hh hw (by rw [hr]; decide), writePairHigh_eq, putPair_pool hr]
      rfl
    · rw [pairHighWrite_of_high hf hh hw, bar0Write_given hf (writeFabricReg_staged (by rw [hr]; rfl))]
  case timer =>
    intro v w s
    refine ⟨holdLow s 0x1400018 v, ?_, rfl, fun u hu => ⟨_, pairHighWrite_timer w u, ?_, rd_wr_same _ _ _, ?_⟩⟩
    · have hc : canonReg (0x1400018#32).toNat = 0x1400018 := by decide +kernel
      rw [pairLowWrite_of_low found_timer rfl rfl, bar0Write_low found_timer rfl rfl (by decide),
        if_neg fun hm => absurd hm.1 (by decide), hc]
    · have hh : sget u.heldLow 0x1400018 0 = v.toNat + 1 := by
        rw [hu]
        exact sget_sput_same s.heldLow 0x1400018 (v.toNat + 1) 0
      rw [rd_wr_ne _ (by decide), rd_wr_same, lowWord, hh, if_neg (Nat.succ_ne_zero _), Nat.add_sub_cancel, BitVec.ofNat_toNat,
        BitVec.setWidth_eq]
    · exact lowTaken_held 0x1400018 u
  case timerAlone =>
    intro w s h
    refine ⟨_, pairHighWrite_timer w s, ?_, rd_wr_same _ _ _⟩
    rw [rd_wr_ne _ (by decide), rd_wr_same, lowWord, if_pos h, BitVec.ofNat_toNat, BitVec.setWidth_eq]
    rfl

end
